-- ==== Sys2Proof/Word.lean ====
section
/-! DEFINITION. The word types of the part: 32-bit words and bytes (spec 02, R12, R37). -/

namespace Sys2Proof

/-- A 32-bit register or point word (R12, R63). -/
abbrev Word := BitVec 32

/-- One byte. -/
abbrev Byte := BitVec 8

/-- A point address of the 20-bit point space (R68). -/
abbrev PointAddr := BitVec 20

end Sys2Proof
end

