-- ==== Sys2Proof/Config.lean ====
section
/-! DEFINITION. What an implementation fixes and the free values: every constant here is opaque, so that
no proof can see a value of it. -/

namespace Sys2Proof.Config

/-- FREE VALUE (log entry 6). The k-th value that the manual leaves open (refinement estimates R231, random bits R444, the
fate of a short RESET_N pulse R380 and so on). A use takes the next index from `State.freeCtr` and keeps the bits it needs. -/
opaque freeValue : Nat → Nat

/-- FREE VALUE (log entry 8). The check value of a signature or seal is not computed: verdicts come with the
commands. This constant stands for the digest function of proofs where the manual leaves its byte order
open (R330). -/
opaque digest : List Nat → BitVec 64

/-- FREE VALUE (log entry 9). The severity of a recorder code for which no table of the manual gives one (0x03xx, 0x04xx, 0x05xx,
0x0601 to 0x0603). -/
opaque openSeverity : Nat → Fin 8

/-- FREE VALUE (log entry 8). The hash of Jesuwald's key in ROM (R435). -/
opaque romKey : Nat

/-- FREE VALUES (log entry 45). What the Jesuwald allocation hatch of ENTRY_0 holds beyond what R263 and R300 state: targets of its feed,
fill, row blocks, exponents of each block (E_MAT, E_RHS, E_RES, E_FACT), initial iterate, tolerances, bounds on its steps, and the value
that each feed index takes from an allocation problem, given as a list of numbers (R264 to R269). -/
opaque allocTargets : List (Bool × Nat × Nat)
opaque allocFill : List (Nat × Nat)
opaque allocBlocks : List Nat
opaque allocFormats : List (Int × Int × Int × Int)
opaque allocDefaults : List (BitVec 64)
opaque allocTols : BitVec 32 × BitVec 32
opaque allocSteps : Nat × Nat
opaque allocFeed : List (BitVec 64) → List (BitVec 64)

/-- FREE VALUE (log entry 6). The word that stands in storage after a NaN was to be stored in fixed point (R302). -/
opaque nanWord : Int

/-- FREE VALUE (log entry 6). The slow-corner cost, in ns, of evaluating iterate 0 of the hatch with this identity (R312): the manual states
only the cost of a complete solve. -/
opaque iterateZeroNs : Nat → Nat

/-- FREE VALUES (log entry 21). How the span is wired: number of hops between the root and the node with this address, the root lane that
reaches it, the largest RING_SPAN in ns among its rings. The manual uses them (R355, R360) and gives the root no register that
holds them. -/
opaque spanDepth : Nat → Nat
opaque spanLane : Nat → Nat
opaque nodeRingSpan : Nat → Nat

/-- FREE VALUE (log entry 6). The solution of a system of differential equations: the values that the field, from these values, leads to
after this many ns. The manual states the equations of the observer (R217) and no way to solve them. -/
opaque integrate : (List (BitVec 64) → List (BitVec 64)) → List (BitVec 64) → Nat → List (BitVec 64)

/-- FREE VALUES (log entry 6). With the twelve parameters of the observer in binary64: the intensity of the process noise of a state (R217),
the variance that it adds to a sample of a group carried over this many ns (R223), the entry of P0 with this number, row by row of
the upper triangle (R225, R226). The manual names them and gives their numbers nowhere but for the scale of P0 (R227). -/
opaque processNoise : List (BitVec 64) → Nat → BitVec 64
opaque carryNoise : List (BitVec 64) → Nat → Nat → BitVec 64
opaque p0 : List (BitVec 64) → Nat → BitVec 64

end Sys2Proof.Config
end

