-- ==== Sys2Proof/Syntax.lean ====
section
/-! DEFINITION. The commands of the block: one constructor per row of spec/opcode_table.json, and the operand
types they carry. -/

namespace Sys2Proof

/-! ## Operands of the pump's instructions (R93, R94) -/

/-- The accumulator of a word instruction (R94, ACC). -/
inductive Acc where | A | B
deriving DecidableEq, Repr

/-- MODE of a word instruction with its operand field (R94). -/
inductive Operand where
  | direct (p : PointAddr)
  | indexed (base : PointAddr)
  | imm (w : Word)
  | partner
deriving DecidableEq, Repr

/-- SEL of LD and ST (R94): value, quality byte, age. -/
inductive Sel where | value | quality | age
deriving DecidableEq, Repr

/-! ## Host access (R35 to R45) -/

/-- The path of a host access (R35, R50): an OMP request is also identified by its source. -/
inductive Path where
  | omp (srcIp : BitVec 32) (srcPort : BitVec 16)
  | spi
deriving DecidableEq, Repr

/-- An OMP datagram as it reaches the management consumer (R36, R155): the port it arrived on, its addresses
and its fields. `bytes` is the length of the UDP payload. -/
structure OmpRequest where
  port : Nat
  dstIp : BitVec 32
  dstPort : BitVec 16
  srcMac : BitVec 48
  srcIp : BitVec 32
  srcPort : BitVec 16
  magic : BitVec 16
  version : Byte
  seq : BitVec 16
  count : Nat
  addr : Word
  index : Nat
  data : List Word
  bytes : Nat
deriving DecidableEq, Repr

/-- A single-event upset of one copy of a voted field (R48): register address, instance, low bit, copy, value. -/
structure Upset where
  addr : Nat
  index : Nat
  lo : Nat
  copy : Nat
  value : Nat
deriving DecidableEq, Repr

/-! ## Plates (R71, R87, R88, R99, R127, R137, R146) -/

/-- One entry of a plate's point declaration table (R71): type code of R63, initial value and quality byte. -/
structure PointDecl where
  addr : Nat
  type : Nat
  value : Word
  quality : Byte
deriving DecidableEq, Repr

/-- One entry of the instance map (R146). -/
structure MapEntry where
  oldIndex : Nat
  newIndex : Nat
  area : Nat
  oldKind : Nat
  newKind : Nat
  action : Nat
deriving DecidableEq, Repr

/-- The instance map of a plate (R146): the fields of its header, its entries. -/
structure InstanceMap where
  magic : Word := 0x4D415031
  version : BitVec 16 := 1
  oldPlateId : Word
  newPlateId : Word
  entryCount : Nat
  migrateNs : Nat
  revertNs : Nat
  crc : Word
  entries : List MapEntry
deriving DecidableEq, Repr

/-- What the part takes from a plate (R71, R86, R87, R99, R127, R137, R334, R435): its identity, key hash and
SVN, declarations, blocks (number and length in words), proven WCETs in ns, loops due, signed bounds,
counter and edge initial values, the lengths of its local input and output ranges (R356, R361) and the map. -/
structure PlateDesc where
  id : Word
  keyHash : Nat
  svn : Nat
  decls : List PointDecl
  blocks : List (Nat × Nat)
  hasHold : Bool
  hasSlow : Bool
  wcetFast : Nat
  wcetHold : Nat
  loopsDue : Nat
  /-- What Prithaja assumed when it signed the plate (R87): T_p and K, INPUT_WIN and OUT_RESERVE as their registers count them. -/
  tpAssumed : Nat := 100
  kAssumed : Nat := 100
  inputWinAssumed : Nat := 30
  outReserveAssumed : Nat := 20
  proofBound : Nat
  fwdBound : Nat
  counterInit : List (Nat × Word)
  edgeInit : List (Nat × Bool)
  localIn : Nat
  localOut : Nat
  map : Option InstanceMap
deriving DecidableEq, Repr

/-- What the cryptographic and structural checks of an object found (R137, R298, R435, R439): whether the
signature is valid for the carried key, whether the structure fits. -/
structure Verdict where
  sigOk : Bool
  structOk : Bool
deriving DecidableEq, Repr

/-- Where a feed value goes (R300, R301): an entry of the KKT matrix at or above the diagonal, or an element of the right-hand side. -/
inductive FeedTarget where
  | matrix (row col : Nat) | rhs (row : Nat)
deriving DecidableEq, Repr

/-- What the sections of a hatch hold whose byte layout the manual does not give, with the hash of the key it carries (R300, R318, R435). -/
structure HatchDesc where
  keyHash : Nat
  /-- FILL: row and column of every entry of L below the diagonal. -/
  fill : List (Nat × Nat)
  /-- The row block of each row of the KKT matrix. -/
  blockOf : List Nat
  /-- FEED: the target of each feed index; its matrix entries are those of PATTERN. -/
  feed : List FeedTarget
  /-- BIND inputs: point and feed index; BIND results: result element and output point (R318). -/
  bindIn : List (Nat × Nat)
  bindOut : List (Nat × Nat)
  /-- DEFAULTS: the initial iterate, binary64. -/
  defaults : List (BitVec 64)
deriving DecidableEq, Repr

/-- By what the SETTINGS section of a user image verifies (R439), and whether it does: the signature SIG_SET under the key of HEADER, or a seal
under the part's seal key. -/
inductive SettingsProof where
  | sigSet (valid : Bool) | seal (valid : Bool)
deriving DecidableEq, Repr

/-- What the part takes from a user image (R435, R439): key hash and SVN of its HEADER, the image-backed settings as (key, value), and how they
verify. -/
structure ImageDesc where
  keyHash : Nat
  svn : Nat
  settings : List (Nat × Nat)
  settingsBy : SettingsProof := .sigSet true
deriving DecidableEq, Repr

/-! ## Frames -/

/-- The IPv4 and UDP fields of a received frame that classification reads (R151). -/
structure Ipv4Udp where
  dst : BitVec 32
  src : BitVec 32
  dstPort : BitVec 16
  srcPort : BitVec 16
  fragmented : Bool
  udp : Bool
deriving DecidableEq, Repr

/-- A received Ethernet frame (R150, R151): port, length with FCS, destination address, number of 802.1Q
tags, EtherType after one tag, IPv4 part, FCS outcome, stamp at the ball. -/
structure EthFrame where
  port : Nat
  len : Nat
  dmac : BitVec 48
  smac : BitVec 48
  tags : Nat
  etype : BitVec 16
  ip : Option Ipv4Udp
  fcsOk : Bool
  stamp : Nat
deriving DecidableEq, Repr

/-- A station frame copy that arrives at a port (R158, R160): its addresses, the fields of its header in order, its one record, whose IN_COUNT
is the number of entries, and the CRC-32C that it carries. -/
structure StationFrame where
  port : Nat
  dmac : BitVec 48
  smac : BitVec 48
  version : BitVec 4
  kind : BitVec 4
  ring : BitVec 7
  dir : Bool
  claim : BitVec 16
  cycle : Word
  group : Byte
  records : Byte
  length : BitVec 16
  tp : BitVec 16
  station : Nat
  status : Byte
  links : Byte
  entries : List (Word × Byte)
  crc : Word
deriving DecidableEq, Repr

/-- The master that an Announce describes (IEEE 1588-2019, as R187 names it). -/
structure PtpMaster where
  priority1 : Byte
  clockClass : Byte
  clockAccuracy : Byte
  variance : BitVec 16
  priority2 : Byte
  identity : BitVec 64
  steps : BitVec 16
deriving DecidableEq, Repr

/-- A PTP message (R187): messageType, domainNumber, sourcePortIdentity, sequenceId, twoStepFlag, correctionField in 2⁻¹⁶ ns, the timestamp of
its body in ns, the requestingPortIdentity of a response, the master of an Announce, the destination address of a UDP datagram, and the
stamp of an event message at the ball. -/
structure PtpMessage where
  type : BitVec 4
  domain : Byte
  clock : BitVec 64
  clockPort : BitVec 16
  seq : BitVec 16
  twoStep : Bool := false
  correction : Int := 0
  time : Nat := 0
  reqClock : BitVec 64 := 0
  reqPort : BitVec 16 := 0
  master : Option PtpMaster := none
  udp : Option (BitVec 32) := none
  stamp : Nat := 0
deriving DecidableEq, Repr

/-- The source of a sensor message (R189); of a queue also the port that it arrived on and, of a datagram, its destination address (R154). -/
inductive SensorSource where
  | uart (n : Nat) | can (n : Nat) | queue (n : Nat) (port : Nat) (dst : Option (BitVec 32))
deriving DecidableEq, Repr

/-- A sensor message as it leaves the adapter (R192): one sentence of characters, one NMEA 2000 PGN, one CAN
frame, or one binary record or datagram. -/
inductive SensorBody where
  | sentence (chars : List Byte)
  | pgn (pgn : Nat) (src : Byte) (fast : Bool) (data : List Byte)
  | canFrame (id : Nat) (extended : Bool) (data : List Byte)
  | binary (data : List Byte)
deriving DecidableEq, Repr

/-- A record of a cycle proof, a transfer segment or a lockstep forward (R330, R337). -/
inductive ProofRecord where
  | point (addr : Nat) (record : BitVec 64)
  | timer (index : Nat) (state : Nat) (inp : Bool) (et : Nat) (lastN : Option Nat)
  | counter (index : Nat) (cv : Word) (cu cd : Bool)
  | edge (index : Nat) (m : Bool)
  | loop (index : Nat) (state gain : Nat) (values : List (BitVec 64))
  | force (entry : Nat) (valid : Bool) (addr : Nat) (value : Word) (quality : Byte) (type : Nat)
  | forceClear
  | swapAnnounce (plateId : Word) (s : Word)
  | swapConfirm
  | swapCancel
  | revert
  | failedSet (thr : Word) (bus : Byte) (gen : BitVec 16) (governing : Nat)
  | digest (d : BitVec 64)
deriving DecidableEq, Repr

/-- What a proof-link frame is for (R324, R325, R330, R332, R337, R145). -/
inductive ProofKind where
  | claim
  | cycleProof (lockstepStart admission : Bool) (last : Bool) (total : Nat)
  | segment (last : Bool)
  | forward (total : Nat)
  | digestAnswer (ok : Bool)
  | swapAnswer (accept : Bool)
  | observerPart (last : Bool) (values : List (BitVec 64))
  | warmPart (last : Bool) (iterates : List (Nat × List (BitVec 64)))
deriving DecidableEq, Repr

/-- A proof-link frame (R324): lane, CRC outcome, whether it came directly, sender, claim, n, plate, sync state,
a number that identifies the frame among the sender's, its kind and its records. -/
structure ProofFrame where
  lane : Nat
  crcOk : Bool
  direct : Bool
  unit : Nat
  claim : BitVec 16
  n : Nat
  plateId : Word
  sync : Nat
  serial : Nat
  isolated : Bool
  unitBad : Bool
  kind : ProofKind
  records : List ProofRecord
deriving DecidableEq, Repr

/-- A span frame (R356): lane, CRC outcome; of its header the kind (output or input), the sender's address, the claim, n and the time base at
transmission in ns; of its record the node address, ECHO, values or entries. -/
structure SpanFrame where
  lane : Nat
  crcOk : Bool
  output : Bool
  sender : Nat
  address : Nat
  claim : BitVec 16
  cycle : Word
  time : Nat
  echo : BitVec 16
  values : List Word
  entries : List (Word × Byte)
deriving DecidableEq, Repr

/-! ## Solver -/

/-- What the lanes give for one Newton step (R307): the norms ‖r‖₂ of the MINRES iterations, ‖b‖₂, and the direction for x, s and λ, all in
binary64. How MINRES rounds and in which order it sums the manual leaves open. -/
structure NewtonStep where
  residuals : List (BitVec 64)
  bNorm : BitVec 64
  dir : List (BitVec 64)
deriving DecidableEq, Repr

/-- What the lanes give for a run: the Newton steps of an IPM hatch (R307), the inner iterates of a LINEAR one (R308). -/
structure SolveTrace where
  steps : List NewtonStep
  inner : List (List (BitVec 64))
deriving DecidableEq, Repr

/-- A run that ends before the deadline (R313): context, what the lanes gave, die time in ns. -/
structure SolveReport where
  ctx : Nat
  trace : SolveTrace
  timeNs : Nat
deriving DecidableEq, Repr

/-- A run cut at the deadline (R313): context, whether inside a factorisation, what the lanes gave of whole steps, die time in ns. -/
structure CutRun where
  ctx : Nat
  inFactor : Bool
  trace : SolveTrace
  timeNs : Nat
deriving DecidableEq, Repr

/-- Causes of a compute die or observer engine fault (R229, R297, R342). -/
inductive FaultCause where | uncorrectable | handshake
deriving DecidableEq, Repr

/-- The two dead-reckoning groups (R227). -/
inductive DrGroup where | position | heading
deriving DecidableEq, Repr

/-- The straps read in stage ROM (R452). -/
structure Straps where
  unitId : Nat
  spanMode : Nat
  bootSel : Nat
deriving DecidableEq, Repr

/-! ## The commands -/

/-- Who sends an ARP request (R154): its IP address and its MAC address, to which the reply goes. -/
structure ArpSender where
  ip : BitVec 32
  mac : BitVec 48
deriving DecidableEq, Repr

/-- The commands of the block, in the order of spec/opcode_table.json. -/
inductive Instr where
  /-- PUMP_BOUNDARY (R15): The time base reaches t_p(k) and starts pump cycle k, which also starts a hold cycle when n is a multiple of K. -/
  | pumpBoundary (upsets : List Upset)
  /-- INPUT_WINDOW_CLOSE (R166): The input window closes when every enabled station and node has delivered or INPUT_WIN has elapsed, and the delivered inputs are written. -/
  | inputWindowClose (gpio : Word)
  /-- OUTPUT_RESERVE_INSTANT (R17): At t_p(k+1) − OUT_RESERVE, SLOW is suspended, loop outputs and output forces are written and the output image is frozen. -/
  | outputReserveInstant (trip : Byte) (fb : Word)
  /-- MIRROR_WRITE_DONE (R77): A retentive mirror write completes with its sequence number, or a waiting mirror then starts and MIRROR_LATE is set. -/
  | mirrorWriteDone
  /-- PLATE_SWAP (R139): In swap cycle s, instances migrate through the map, forces are treated and FAST runs under the new plate. -/
  | plateSwap
  /-- PLATE_REVERT_APPLY (R141): In cycle c + 2 after a REVERT, instances run back through the map and the old plate resumes. -/
  | plateRevertApply
  /-- RESTART_CYCLES_END (R91): After the warm or cold restart cycles, FAST runs with FIRST_SCAN set. -/
  | restartCyclesEnd
  /-- TROUGH_FRAME_CLOSE (R199): Frame k closes when every required, non-absent channel is complete or at t_h(k) + W. -/
  | troughFrameClose
  /-- SOLVE_CONTEXT_END (R313): A context's run converges, stops, breaches or becomes infeasible and returns its best iterate, and the die takes its next context. -/
  | solveContextEnd (r : SolveReport)
  /-- SOLVE_DEADLINE (R312): At t_h(k+1) − SOLVE_RESERVE, every unfinished run is cut and returns its best iterate. -/
  | solveDeadline (cuts : List CutRun)
  /-- WIDE_RETURN (R305): After WIDE_HOLD hold cycles without narrow saturation, a context returns to narrow storage and frees its wide slot. -/
  | wideReturn (ctx : Nat)
  /-- COMPUTE_DIE_FAULT (R297): A compute die fault moves context 0 to the next healthy die and leaves the die's other contexts NOT_RUN. -/
  | computeDieFault (die : Nat) (cause : FaultCause)
  /-- OBSERVER_ENGINE_FAULT (R229): An uncorrectable error or handshake timeout on the observer engine fails over to C1 or stops the observer. -/
  | observerEngineFault (engine : Nat) (cause : FaultCause) (duringUpdate : Bool)
  /-- DR_MAX_EXPIRED (R227): When DR_TIME exceeds its limit, DR_EXPIRED is set and the group's states read LOST. -/
  | drMaxExpired (group : DrGroup)
  /-- WIND_FF_TIMEOUT (R258): After 10 s without a valid wind sample, the DP wind feedforward becomes 0. -/
  | windFfTimeout
  /-- CAL_SAVE_PERIODIC (R235): After every 10 min in RUN, refinement estimates are written to the calibration store. -/
  | calSavePeriodic
  /-- CAL_SAVE_DONE (R235): A calibration store write completes and records its code. -/
  | calSaveDone
  /-- FRAME_RECEIVE (R152): A received Ethernet frame is classified by the lowest matching rule into one queue, or discarded. -/
  | frameReceive (f : EthFrame)
  /-- ARP_REQUEST (R154): An ARP request for a port's IPv4 address is answered ahead of classification. -/
  | arpRequest (port : Nat) (targetIp : BitVec 32) (sender : ArpSender)
  /-- FRAME_TX_DONE (R184): A transmitted frame's delimiter leaves; its stamp is written and, with TS_REQ, queued in the port's stamp queue. -/
  | frameTxDone (queue : Nat) (port : Nat) (stamp : Nat)
  /-- STATION_INPUT_FRAME (R162): A station input frame copy is validated against ring, address, count, cycle and window, or discarded. -/
  | stationInputFrame (f : StationFrame)
  /-- OUTPUT_FRAME_RETURN (R162): The part's own output frame returns at the opposite leg and sets CLOSED_A or CLOSED_B. -/
  | outputFrameReturn (port : Nat)
  /-- STN_RELEASE (R169): Writing STN_ST_CMD.RELEASE sets RELEASE in the station's records until it leaves safe states or 100 cycles pass. -/
  | stnRelease (path : Path) (station : Nat)
  /-- OMP_READ (R37): An OMP READ request is served between two freezes and answered with COUNT words and a status. -/
  | ompRead (r : OmpRequest)
  /-- OMP_WRITE (R37): An OMP WRITE request is checked word by word and applied entirely or not at all. -/
  | ompWrite (r : OmpRequest)
  /-- SPI_READ (R39): SPI command 0x03 drives the ready token and consecutive words and records the read status. -/
  | spiRead (addr : Word) (words : Nat)
  /-- SPI_WRITE (R39): SPI command 0x02 writes each word as its fourth byte arrives. -/
  | spiWrite (addr : Word) (words : List Word)
  /-- SPI_UNKNOWN_COMMAND (R39): Any other SPI command byte is ignored and 0xFF is driven until chip select rises. -/
  | spiUnknownCommand (cmd : Byte)
  /-- SPI_CS_HIGH (R43): Chip select rising ends the transfer, discarding an incomplete word or point record. -/
  | spiCsHigh
  /-- REGISTER_WRITE (R44): A write to a register without its own row is checked for range, lock and level and applied. -/
  | registerWrite (path : Path) (addr : Nat) (index : Nat) (value : Word)
  /-- POINT_WRITE (R70): A host write of a point record through the window takes effect at once, subject to type and area checks. -/
  | pointWrite (path : Path) (p : PointAddr) (value : Word) (quality : Byte) (type : Nat)
  /-- SYS_LOCK_WRITE (R47): Writing 1 to a SYS_LOCK bit locks the block's L fields until a hardware reset. -/
  | sysLockWrite (path : Path) (value : Word)
  /-- TXN_BEGIN (R50): BEGIN opens the part's single transaction with the issuing path as owner. -/
  | txnBegin (path : Path)
  /-- TXN_COMMIT (R53): COMMIT ends staging and makes the transaction pending for the next boundary. -/
  | txnCommit (path : Path)
  /-- TXN_ROLLBACK (R55): ROLLBACK discards every staged word and closes the transaction. -/
  | txnRollback (path : Path)
  /-- TXN_TIMEOUT (R55): An owner idle for TXN_TIMEOUT has its transaction rolled back. -/
  | txnTimeout
  /-- IMG_SAVE (R62): IMG_SAVE takes the live image-backed values at the next boundary and writes them, sealed, to the copy that did not boot. -/
  | imgSave (path : Path)
  /-- IMG_SAVE_DONE (R62): A verified save completes and the voted image pointer moves to the saved copy. -/
  | imgSaveDone (ok : Bool)
  /-- KEEP_WRITE_COMPLETE (R49): A posted write to a keeper field completes and its KEEP_WPEND bit clears. -/
  | keepWriteComplete
  /-- TSQ_READ (R186): A complete read of the stamp queue entry pair returns and frees the head entry. -/
  | tsqRead (path : Path) (port : Nat)
  /-- TSU_TIME_LO_READ (R174): A read of TSU_TIME_LO latches the high time-base bits into the path's TIME_HI. -/
  | tsuTimeLoRead (path : Path)
  /-- KEEP_TICK_LO_READ (R411): A read of KEEP_TICK_LO latches the high tick bits into the path's TICK_HI. -/
  | keepTickLoRead (path : Path)
  /-- DIN_EDGE_READ (R180): A completed read of a DIN edge unit returns the last edge stamp and clears MISSED. -/
  | dinEdgeRead (path : Path) (din : Nat)
  /-- WARM_RESTART (R91): RESTART 0b01 requests a warm restart at the next boundary. -/
  | warmRestart (path : Path)
  /-- COLD_RESTART (R91): RESTART 0b10 requests a cold restart at the next boundary, reloading image-backed settings. -/
  | coldRestart (path : Path)
  /-- PLATE_LOAD (R135): LOAD erases the free plate slot and opens the load window. -/
  | plateLoad (path : Path)
  /-- PLATE_LOAD_WINDOW_WRITE (R136): A write to the plate load window stores a word of the free slot while LOADING. -/
  | plateLoadWindowWrite (path : Path) (addr : Nat) (value : Word)
  /-- PLATE_VERIFY (R137): VERIFY starts checking the loaded plate's signature, structure and map. -/
  | plateVerify (path : Path)
  /-- PLATE_VERIFY_DONE (R137): Plate verification ends with VERIFIED and MAP_OK, or EMPTY with BAD_IMAGE or SIGNATURE. -/
  | plateVerifyDone (v : Verdict) (plate : PlateDesc)
  /-- PLATE_ARM (R138): ARM checks budgets and fixes the swap cycle s, announcing it in a group. -/
  | plateArm (path : Path)
  /-- PLATE_REVERT (R141): REVERT within the revert window schedules a return to the old plate in cycle c + 2. -/
  | plateRevert (path : Path)
  /-- PLATE_COMMIT (R142): COMMIT after the revert window starts writing the running plate to its NV slot. -/
  | plateCommit (path : Path)
  /-- PLATE_COMMIT_DONE (R142): The committed plate is verified in NV, the plate pointer moves and the old slot becomes EMPTY. -/
  | plateCommitDone
  /-- PLATE_ABORT (R135): ABORT empties the free slot and cancels an armed swap not yet confirmed. -/
  | plateAbort (path : Path)
  /-- PLATE_INSTALL (R144): INSTALL in PARK starts writing a VERIFIED plate to NV. -/
  | plateInstall (path : Path)
  /-- PLATE_INSTALL_DONE (R144): The installed plate's pointer moves and the part cold-restarts under it. -/
  | plateInstallDone
  /-- FORCE_CLR_ALL (R131): CLR_ALL removes every force entry at its application instant. -/
  | forceClrAll (path : Path)
  /-- LDB (R104): Loads a point bit into BA. -/
  | ldb (p : PointAddr) (bit : BitVec 5)
  /-- LDBN (R104): Loads the negated point bit into BA. -/
  | ldbn (p : PointAddr) (bit : BitVec 5)
  /-- ANDB (R104): ANDs a point bit into BA. -/
  | andb (p : PointAddr) (bit : BitVec 5)
  /-- ANDBN (R104): ANDs the negated point bit into BA. -/
  | andbn (p : PointAddr) (bit : BitVec 5)
  /-- ORB (R104): ORs a point bit into BA. -/
  | orb (p : PointAddr) (bit : BitVec 5)
  /-- ORBN (R104): ORs the negated point bit into BA. -/
  | orbn (p : PointAddr) (bit : BitVec 5)
  /-- XORB (R104): XORs a point bit into BA. -/
  | xorb (p : PointAddr) (bit : BitVec 5)
  /-- XORBN (R104): XORs the negated point bit into BA. -/
  | xorbn (p : PointAddr) (bit : BitVec 5)
  /-- SETB (R104): Sets a point bit when BA is 1. -/
  | setb (p : PointAddr) (bit : BitVec 5)
  /-- CLRB (R104): Clears a point bit when BA is 1. -/
  | clrb (p : PointAddr) (bit : BitVec 5)
  /-- OUTB (R104): Writes BA to a point bit. -/
  | outb (p : PointAddr) (bit : BitVec 5)
  /-- OUTBN (R104): Writes the negated BA to a point bit. -/
  | outbn (p : PointAddr) (bit : BitVec 5)
  /-- ANDQ (R66): ANDs into BA whether the point's class is good. -/
  | andq (p : PointAddr)
  /-- ANDNQ (R66): ANDs into BA whether the point's class is not good. -/
  | andnq (p : PointAddr)
  /-- LDQ (R66): Loads into BA whether the point's class is good. -/
  | ldq (p : PointAddr)
  /-- NOTBA (R106): Negates BA. -/
  | notba
  /-- SETBA (R106): Sets BA to 1. -/
  | setba
  /-- CLRBA (R106): Sets BA to 0. -/
  | clrba
  /-- LDC (R105): Loads a flag condition into BA. -/
  | ldc (cond : BitVec 5)
  /-- ANDC (R105): ANDs a flag condition into BA. -/
  | andc (cond : BitVec 5)
  /-- ORC (R105): ORs a flag condition into BA. -/
  | orc (cond : BitVec 5)
  /-- NEST (R107): Pushes BA onto the nesting stack. -/
  | nest
  /-- JOINA (R107): Pops s and sets BA to s AND BA. -/
  | joina
  /-- JOINAN (R107): Pops s and sets BA to s AND NOT BA. -/
  | joinan
  /-- JOINO (R107): Pops s and sets BA to s OR BA. -/
  | joino
  /-- JOINON (R107): Pops s and sets BA to s OR NOT BA. -/
  | joinon
  /-- JOINX (R107): Pops s and sets BA to s XOR BA. -/
  | joinx
  /-- JOINXN (R107): Pops s and sets BA to s XOR NOT BA. -/
  | joinxn
  /-- RISE (R109): Sets BA on a rising BA since this edge instance's previous scan. -/
  | rise (inst : BitVec 16)
  /-- FALL (R109): Sets BA on a falling BA since this edge instance's previous scan. -/
  | fall (inst : BitVec 16)
  /-- LD (R102): Loads a point value, quality byte or age into an accumulator. -/
  | ld (acc : Acc) (sel : Sel) (op : Operand)
  /-- ST (R103): Stores an accumulator as a point value, or as its quality in the quality store form. -/
  | st (acc : Acc) (sel : Sel) (op : Operand)
  /-- ADD (R110): Adds the operand to the accumulator with wrap and signed-overflow flag. -/
  | add (acc : Acc) (op : Operand)
  /-- SUB (R110): Subtracts the operand from the accumulator with wrap and signed-overflow flag. -/
  | sub (acc : Acc) (op : Operand)
  /-- MUL (R110): Multiplies signed, keeping the low 32 bits. -/
  | mul (acc : Acc) (op : Operand)
  /-- DIV (R110): Divides signed, truncating toward zero. -/
  | div (acc : Acc) (op : Operand)
  /-- DIVU (R110): Divides unsigned. -/
  | divu (acc : Acc) (op : Operand)
  /-- MOD (R110): Gives the signed remainder with the dividend's sign. -/
  | mod (acc : Acc) (op : Operand)
  /-- ANDW (R106): Bitwise AND of accumulator and operand. -/
  | andw (acc : Acc) (op : Operand)
  /-- ORW (R106): Bitwise OR of accumulator and operand. -/
  | orw (acc : Acc) (op : Operand)
  /-- XORW (R106): Bitwise XOR of accumulator and operand. -/
  | xorw (acc : Acc) (op : Operand)
  /-- SHL (R110): Shifts the accumulator left. -/
  | shl (acc : Acc) (op : Operand)
  /-- SHR (R110): Shifts the accumulator right with zero fill. -/
  | shr (acc : Acc) (op : Operand)
  /-- SAR (R110): Shifts the accumulator right with sign fill. -/
  | sar (acc : Acc) (op : Operand)
  /-- CMP (R106): Compares accumulator and operand signed and sets the flags. -/
  | cmp (acc : Acc) (op : Operand)
  /-- CMPU (R106): Compares accumulator and operand unsigned and sets the flags. -/
  | cmpu (acc : Acc) (op : Operand)
  /-- FADD (R111): Adds in binary32. -/
  | fadd (acc : Acc) (op : Operand)
  /-- FSUB (R111): Subtracts in binary32. -/
  | fsub (acc : Acc) (op : Operand)
  /-- FMUL (R111): Multiplies in binary32. -/
  | fmul (acc : Acc) (op : Operand)
  /-- FDIV (R111): Divides in binary32. -/
  | fdiv (acc : Acc) (op : Operand)
  /-- FMIN (R111): Takes the IEEE minimum in binary32. -/
  | fmin (acc : Acc) (op : Operand)
  /-- FMAX (R111): Takes the IEEE maximum in binary32. -/
  | fmax (acc : Acc) (op : Operand)
  /-- FCMP (R106): Compares binary32 values and sets the flags including unordered. -/
  | fcmp (acc : Acc) (op : Operand)
  /-- NEG (R110): Negates the accumulator. -/
  | neg (acc : Acc)
  /-- ABS (R110): Takes the absolute value of the accumulator. -/
  | abs (acc : Acc)
  /-- FNEG (R111): Flips the accumulator's sign bit. -/
  | fneg (acc : Acc)
  /-- FABS (R111): Clears the accumulator's sign bit. -/
  | fabs (acc : Acc)
  /-- FSQRT (R111): Takes the binary32 square root. -/
  | fsqrt (acc : Acc)
  /-- ITF (R111): Converts I32 to binary32. -/
  | itf (acc : Acc)
  /-- UTF (R111): Converts U32 to binary32. -/
  | utf (acc : Acc)
  /-- FTI (R112): Converts binary32 to I32 with saturation. -/
  | fti (acc : Acc)
  /-- FTU (R112): Converts binary32 to U32 with saturation. -/
  | ftu (acc : Acc)
  /-- SWAP (R94): Exchanges A and B. -/
  | swap
  /-- JC (R105): Jumps within the block when the condition holds. -/
  | jc (cond : BitVec 5) (target : BitVec 20)
  /-- CALL (R113): Pushes the return point and enters a block when the condition holds. -/
  | call (cond : BitVec 5) (block : BitVec 16)
  /-- RET (R113): Returns when the condition holds, ending the scan at call level 0. -/
  | ret (cond : BitVec 5)
  /-- BMOV (R114): Copies up to 4,096 consecutive points atomically. -/
  | bmov (src dst : PointAddr) (countLess1 : BitVec 12)
  /-- BMOVX (R115): Copies points with source in A and destination in B, after range checks. -/
  | bmovx (countLess1 : BitVec 12)
  /-- TON (R122): Scans an on-delay timer instance. -/
  | ton (inst : BitVec 16)
  /-- TOF (R123): Scans an off-delay timer instance. -/
  | tof (inst : BitVec 16)
  /-- TP (R124): Scans a pulse timer instance. -/
  | tp (inst : BitVec 16)
  /-- CTU (R125): Counts up on a rising CU. -/
  | ctu (inst : BitVec 16)
  /-- CTD (R125): Counts down on a rising CD. -/
  | ctd (inst : BitVec 16)
  /-- CTUD (R125): Counts up or down on rising CU or CD. -/
  | ctud (inst : BitVec 16) (p : PointAddr) (bit : BitVec 5)
  /-- CRST (R126): Resets a counter's CV when BA is 1. -/
  | crst (inst : BitVec 16)
  /-- CLD (R126): Loads PV into a counter's CV when BA is 1. -/
  | cld (inst : BitVec 16)
  /-- LDCYC (R118): Loads the pump cycle count into A and B. -/
  | ldcyc
  /-- LDTASK (R80): Loads the running task's number into A. -/
  | ldtask
  /-- LOOPREQ (R119): Writes A to a loop's command point when BA is 1. -/
  | loopreq (loop : BitVec 9)
  /-- NOP (R98): Does nothing for one basic instruction time. -/
  | nop
  /-- INSTRUCTION_FAULT (R96): An illegal encoding or target ends the task's scan, sets ILLEGAL and makes the cycle an overrun. -/
  | instructionFault
  /-- TSU_STEP (R179): STEP in PARK requests a step of the time base at the next boundary. -/
  | tsuStep (path : Path)
  /-- PTP_MESSAGE (R187): A PTP message is processed by the PTP instance, disciplining the time base by slewing or flagging OFFSET_HIGH. -/
  | ptpMessage (port : Nat) (m : PtpMessage)
  /-- PPS_IN_EDGE (R177): A PPS input edge marks a whole second and corrects frequency and phase. -/
  | ppsInEdge (input : Nat) (stamp : Nat)
  /-- SOURCE_TIMEOUT (R177): A source's announce or PPS timeout makes it unavailable, selecting the next source or holdover. -/
  | sourceTimeout (source : Nat)
  /-- PPS_OUT_EDGE (R188): A PPS output rises at the second, pump or hold boundary per MODE. -/
  | ppsOutEdge (out : Nat)
  /-- PPS_OUT_FALL (R188): A PPS output falls after WIDTH. -/
  | ppsOutFall (out : Nat)
  /-- DIN_EDGE (R180): A discrete input edge is time-stamped. -/
  | dinEdge (din : Nat) (rising : Bool) (stamp : Nat)
  /-- REFCLK_FAIL (R460): A REFCLK_IN failure after boot moves the time base to the internal oscillator and stops discipline. -/
  | refclkFail
  /-- REFCLK_RESTORE (R460): After REFCLK_IN meets its limit for 10 s, the time base returns to it by slewing. -/
  | refclkRestore
  /-- SERDES_CLK_LOSS (R461): An absent SerDes reference clock takes every port and span lane down. -/
  | serdesClkLoss
  /-- XTAL_STOP (R462): The 32.768 kHz oscillator stops, stopping KEEP_TICK and the calendar. -/
  | xtalStop
  /-- SENSOR_MESSAGE (R191): A sensor message is offered to the source's channels and accepted by matching templates as samples. -/
  | sensorMessage (source : SensorSource) (body : SensorBody) (stamp : Nat)
  /-- N2K_CLAIM_START (R195): A CAN controller with CLAIM_EN sends its first Address Claimed with PREF_ADDR. -/
  | n2kClaimStart (can : Nat)
  /-- N2K_ADDRESS_CLAIM_RX (R195): A received Address Claimed that wins the address makes the controller claim the next free one or send Cannot Claim. -/
  | n2kAddressClaimRx (can : Nat) (addr : Nat) (name : BitVec 64)
  /-- N2K_REQUEST_RX (R195): A Request for PGN 60928 is answered with Address Claimed. -/
  | n2kRequestRx (can : Nat)
  /-- UART_TX_SEND (R196): A write of LEN to SER_UART_TX sends the buffered sentence with its checksum. -/
  | uartTxSend (path : Path) (uart : Nat) (len : Nat)
  /-- UART_TX_DONE (R196): A user sentence finishes transmitting. -/
  | uartTxDone (uart : Nat)
  /-- ORIGIN_SET (R219): ORIGIN_SET moves the local origin to the estimated CO at the next hold boundary. -/
  | originSet (path : Path)
  /-- OBS_REINIT (R226): REINIT puts the observer into INIT at the next hold boundary. -/
  | obsReinit (path : Path)
  /-- CAL_SAVE (R235): CAL_SAVE writes refinement estimates to the calibration store. -/
  | calSave (path : Path)
  /-- CAL_RESET (R236): CAL_RESET zeroes all channels' refinement at the next close. -/
  | calReset (path : Path)
  /-- CHAN_CAL_RESET (R236): OBS_CH_CMD.CAL_RESET zeroes one channel's refinement at the next close. -/
  | chanCalReset (path : Path) (chan : Nat)
  /-- DATUM_SET (R221): DATUM_SET sets a relative channel's datum at the next close. -/
  | datumSet (path : Path) (chan : Nat)
  /-- HATCH_LOAD (R298): LOAD opens the hatch load window for a library entry. -/
  | hatchLoad (path : Path) (entry : Nat)
  /-- HATCH_LOAD_WINDOW_WRITE (R298): A write to the hatch load window stores a word of the LOADING entry. -/
  | hatchLoadWindowWrite (path : Path) (addr : Nat) (value : Word)
  /-- HATCH_VERIFY (R298): VERIFY starts checking a hatch's signature and structure. -/
  | hatchVerify (path : Path) (entry : Nat)
  /-- HATCH_VERIFY_DONE (R300): Hatch verification ends VERIFIED or fails. -/
  | hatchVerifyDone (v : Verdict) (hatch : HatchDesc)
  /-- HATCH_STORE (R298): STORE starts writing a VERIFIED entry to the NV hatch store. -/
  | hatchStore (path : Path) (entry : Nat)
  /-- HATCH_STORE_DONE (R298): The hatch store write completes and the entry becomes STORED. -/
  | hatchStoreDone
  /-- HATCH_ERASE (R298): ERASE empties an unused entry and frees its store share. -/
  | hatchErase (path : Path) (entry : Nat)
  /-- HATCH_ABORT (R298): ABORT returns a library entry to EMPTY. -/
  | hatchAbort (path : Path) (entry : Nat)
  /-- PROOF_LINK_FRAME_RX (R324): A proof-link frame is received, its first valid copy taken and relayed in a trio. -/
  | proofLinkFrameRx (f : ProofFrame)
  /-- PROOF_APPLY (R331): A standby applies the complete proof of cycle k after its close or on the last frame's arrival. -/
  | proofApply
  /-- PROOF_MISS (R333): A proof incomplete at t_p(k+1) + INPUT_WIN is not applied and the standby becomes UNSYNCED. -/
  | proofMiss
  /-- PARTNER_UNREACHABLE (R325): No valid frame from a partner within CLAIM_WIN cycles makes it unreachable. -/
  | partnerUnreachable (unit : Nat)
  /-- RELEASE_TAKE_EFFECT (R344): At the first boundary 10 µs after the decision, output frames carry ACTIVE = 0 and the part becomes STANDBY. -/
  | releaseTakeEffect
  /-- TAKEOVER (R345): A healthy standby that received a release takes ACTIVE at the next boundary with a new epoch. -/
  | takeover
  /-- TAKEOVER_BY_ECHO (R346): A standby whose claim is echoed by a majority of delivering stations takes ACTIVE at the next boundary. -/
  | takeoverByEcho
  /-- ACTIVE_YIELD (R348): An active receiving a winning active claim becomes STANDBY at the next boundary. -/
  | activeYield
  /-- HEARTBEAT_MISS (R350): Three missed beats on one path raise an alarm; on both paths the standby takes ACTIVE. -/
  | heartbeatMiss (path1 path2 : Bool)
  /-- RED_RELEASE (R343): RED_CMD.RELEASE commands a release whatever HEALTH. -/
  | redRelease (path : Path)
  /-- RED_JOIN (R340): JOIN takes an ISOLATED part to STANDBY to seek admission. -/
  | redJoin (path : Path)
  /-- RED_PROOF_TEST (R339): PROOF_TEST takes a SYNCED standby through lockstep and admission without transfer. -/
  | redProofTest (path : Path)
  /-- RED_ISOLATE (R340): ISOLATE makes a non-active part ISOLATED. -/
  | redIsolate (path : Path)
  /-- SPAN_FRAME_RX (R356): A span frame is received, checked, forwarded if not addressed to the part, or discarded. -/
  | spanFrameRx (f : SpanFrame)
  /-- SPAN_UP_LOST (R358): A node without an output record in a cycle sends no station frames and sets UP_LOST. -/
  | spanUpLost
  /-- TRIP_INPUT_LOW (R367): A trip input low longer than FILTER trips and latches its groups' outputs off. -/
  | tripInputLow (input : Nat)
  /-- TRIP_RECEIVER_DISAGREE (R368): Trip receivers disagreeing for 10 µs make the input read low and set its fault. -/
  | tripReceiverDisagree (input : Nat)
  /-- TRIP_FAULT_CLEAR (R368): A trip input fault clears after the receivers agree for 1 s. -/
  | tripFaultClear (input : Nat)
  /-- RUNAWAY_STOP (R370): A runaway monitor whose count reaches TIME latches and trips its groups. -/
  | runawayStop (monitor : Nat)
  /-- STIPPLE_PULSE (R374): An energised stippled output is pulsed low for PULSE at its scheduled instant. -/
  | stipplePulse (out : Nat)
  /-- STIPPLE_CHECK (R374): At a pulse end, feedback must read low; four failed checks latch the output off. -/
  | stippleCheck (out : Nat) (fbHigh : Bool)
  /-- FEEDBACK_GRID_CHECK (R374): On the 500 µs grid, feedback must equal the output. -/
  | feedbackGridCheck (fb : Word)
  /-- SAFE_TRIP_RESET (R372): SAFE_CMD.TRIP_RESET clears trip and runaway latches whose causes are gone. -/
  | safeTripReset (path : Path)
  /-- SAFE_DISC_RESET (R372): SAFE_CMD.DISC_RESET clears discrepancy latches whose outputs read back as expected. -/
  | safeDiscReset (path : Path)
  /-- POWER_ON (R378): VIN rising starts a power-on reset with the keeper alive or lost. -/
  | powerOn
  /-- BROWN_OUT (R403): VIN below VIN_RST for 0.5 µs makes every ball high-impedance and holds the reset. -/
  | brownOut
  /-- RESET_N_LOW (R380): RESET_N low for at least 1 µs resets the part. -/
  | resetNLow (ns : Nat)
  /-- SERVICE_WATCHDOG_EXPIRY (R381): Expiry of the service core watchdog is a fatal self-diagnosis fault. -/
  | serviceWatchdogExpiry
  /-- BOOT_RAILS_DONE (R383): Every rail reaches regulation and stage ROM begins. -/
  | bootRailsDone (vioBOk : Bool)
  /-- BOOT_ROM_DONE (R383): Fuses, straps and keeper are read and stage IMAGE begins. -/
  | bootRomDone (straps : Straps) (refclkOk : Bool) (trip : Byte)
  /-- BOOT_IMAGE_DONE (R386): A user image copy is selected and verified, or factory defaults are used. -/
  | bootImageDone (eeprom : Option Word)
  /-- BOOT_MEMORY_DONE (R383): The cistern is trained and dies tested, and stage LOAD begins. -/
  | bootMemoryDone (dieOk : BitVec 4) (trngOk : Bool)
  /-- BOOT_LOAD_DONE (R387): Plate, hatches, mirrors and stores are loaded and stage SYNC begins. -/
  | bootLoadDone
  /-- BOOT_DONE (R388): After SYNC_WAIT or a source lock, the boot reaches DONE. -/
  | bootDone
  /-- CLR_HOLD (R382): RST_CMD.CLR_HOLD clears FATAL_HOLD and FATAL_RUN. -/
  | clrHold (path : Path)
  /-- PWR_RUN (R406): PWR_CMD RUN moves the part from PARK to RUN at the next boundary. -/
  | pwrRun (path : Path)
  /-- PWR_PARK (R407): PWR_CMD PARK moves the part from RUN to PARK at the next boundary. -/
  | pwrPark (path : Path)
  /-- PWR_SLEEP (R408): PWR_CMD SLEEP mirrors, completes NV work and turns off the rails. -/
  | pwrSleep (path : Path)
  /-- SLEEP_ENTER (R408): When the sleep sequence's NV work completes, balls float and rails turn off. -/
  | sleepEnter
  /-- WAKE_N_EDGE (R409): A falling WAKE_N with WAKE_N_EN wakes the part from SLEEP. -/
  | wakeNEdge
  /-- CASE_OPEN_DETECT (R414): CASE_OPEN high is latched with the tick and wakes from SLEEP when enabled. -/
  | caseOpenDetect
  /-- VBAT_LOW_DETECT (R414): VBAT below 2.2 V latches VBAT_LOW. -/
  | vbatLowDetect
  /-- DIP_ENTER (R397): VIN below VIN_WARN for 5 µs enters DIP and forces a retentive mirror. -/
  | dipEnter
  /-- DIP_EXIT (R397): VIN above VIN_WARN + 0.3 V for 1 ms leaves DIP and resumes deferred NV writes. -/
  | dipExit
  /-- UV_SUSTAINED (R402): A dip lasting DIP_MAX sets UV_SUSTAINED and applies its HEALTH penalty. -/
  | uvSustained
  /-- VIO_A_LOW (R405): VIO_A below 2.8 V for 10 µs floats bank A and reads trip inputs low. -/
  | vioALow
  /-- VIO_B_LOW (R405): VIO_B below 1.5 V for 10 µs stops the SPI target. -/
  | vioBLow
  /-- VIO_RECOVER (R405): A bank supply back above threshold for 1 ms clears its low flag. -/
  | vioRecover (bankB : Bool)
  /-- BACKUP_ENTER (R410): VIN below 6.0 V moves the keeper to VBAT and the part into BACKUP. -/
  | backupEnter
  /-- KEEPER_LOST (R410): The keeper supply falls below 1.8 V and the keeper's registers become invalid. -/
  | keeperLost
  /-- LIFETIME_MIRROR_WRITE (R413): After every 3,600 s of POWERED_S, the lifetime counters are written to NV. -/
  | lifetimeMirrorWrite
  /-- CAL_BASE_UPDATE (R412): Every 60 s while LOCKED, CAL_BASE is rewritten and CAL_VALID set. -/
  | calBaseUpdate
  /-- PACE_UPDATE (R31): Every 100 µs the pace index is updated from the oscillators. `readings` are those of the oscillators of all dies, in
  hundredths of the slow-corner speed. -/
  | paceUpdate (readings : List Nat)
  /-- PACE_HEALTH_LOSS (R33): Pace below PACE_FLOOR − 0.05 for 100 ms lowers HEALTH. -/
  | paceHealthLoss
  /-- TEMP_SAMPLE (R469): Junction temperature is sampled every 1 ms and 10 hot samples set OVERTEMP. `tj` counts 0.5 °C. -/
  | tempSample (tj : Int) (die : Nat)
  /-- OVERTEMP_CLEAR (R469): OVERTEMP clears after 60 s of samples at or below the limit. -/
  | overtempClear
  /-- RECORD_WRITE (R424): Within 1 s of its first unwritten update, an open record is written to its alternate slot. -/
  | recordWrite (code : Nat)
  /-- REC_FREEZE_SET (R427): Writing FREEZE holds or releases every recorder slot. -/
  | recFreezeSet (path : Path) (freeze : Bool)
  /-- FREEZE_AUTO_CLEAR (R427): 600 s after FREEZE was set, the part clears it and sets THAW_AUTO. -/
  | freezeAutoClear
  /-- CAP_START (R431): START resumes appending to the capture ring. -/
  | capStart (path : Path)
  /-- CAP_STOP (R431): STOP ends appending after POST further cycles. -/
  | capStop (path : Path)
  /-- CAPTURE_STOPPED (R431): After the POST-th cycle following a stop cause, the ring becomes STOPPED. -/
  | captureStopped
  /-- CAP_REPLAY (R433): REPLAY in PARK enters replay of the captured cycles at the next boundary. -/
  | capReplay (path : Path) (freeSlot : Bool)
  /-- CAP_REPLAY_END (R434): REPLAY_END ends replay at the next boundary. -/
  | capReplayEnd (path : Path)
  /-- REPLAY_COMPLETE (R434): After the newest captured cycle, replay ends and state is reinitialised in PARK. -/
  | replayComplete
  /-- SEC_FUSE_ARM (R441): Writing 0xF05E arms one fuse command for 1 s. -/
  | secFuseArm (path : Path) (code : BitVec 16)
  /-- FUSE_ARM_EXPIRE (R441): An arming unused for 1 s lapses. -/
  | fuseArmExpire
  /-- PROGRAM_SLOT (R436): Blows a key slot's hash fuses, then its VALID fuse. -/
  | programSlot (path : Path) (slot : Nat)
  /-- REVOKE_SLOT (R437): Blows a key slot's REVOKE fuse. -/
  | revokeSlot (path : Path) (slot : Nat)
  /-- ADVANCE_ROLLBACK (R438): Blows counter fuses until the anti-rollback count equals the booted SVN. -/
  | advanceRollback (path : Path)
  /-- DBG_OFF (R442): Blows DBG_OFF, closing the debug port permanently. -/
  | dbgOff (path : Path)
  /-- FUSE_OP_DONE (R441): A fuse operation completes and its result appears in FUSE_RESULT. -/
  | fuseOpDone
  /-- IMG_LOAD (R440): LOAD erases the non-booted image copy and opens the image load window. -/
  | imgLoad (path : Path)
  /-- IMG_LOAD_WINDOW_WRITE (R440): A write to the image load window stores a word of the loading copy. -/
  | imgLoadWindowWrite (path : Path) (addr : Nat) (value : Word)
  /-- IMG_VERIFY (R440): VERIFY starts checking the loaded image copy. -/
  | imgVerify (path : Path)
  /-- IMG_VERIFY_DONE (R439): Image verification ends VERIFIED or fails with its reason. -/
  | imgVerifyDone (v : Verdict) (image : ImageDesc)
  /-- IMG_ACTIVATE (R440): ACTIVATE moves the voted image pointer to the VERIFIED copy. -/
  | imgActivate (path : Path)
  /-- IMG_ABORT (R440): ABORT returns the loaded copy to EMPTY. -/
  | imgAbort (path : Path)
  /-- RNG_READ (R444): A read of SEC_RNG returns 32 fresh random bits, or 0 with STATE on health failure. -/
  | rngRead (path : Path)
  /-- TRNG_HEALTH_FAIL (R444): A TRNG health test fails and RNG_FAIL is set. -/
  | trngHealthFail
  /-- MDIO_FRAME (R457): A write to SYS_MDIO_CMD starts one MDIO frame. -/
  | mdioFrame (path : Path) (value : Word)
  /-- MDIO_FRAME_DONE (R457): An MDIO frame completes and BUSY clears. -/
  | mdioFrameDone (rdata : BitVec 16)
  /-- SPAN_LANE_DOWN (R342): A proof-link span lane goes down, clearing its LINK bit and applying the per-lane HEALTH penalty. -/
  | spanLaneDown (lane : Nat)
  /-- SPAN_LANE_UP (R342): A proof-link span lane comes up again, setting its LINK bit and clearing its HEALTH penalty. -/
  | spanLaneUp (lane : Nat)
  /-- UNCORRECTABLE_MEMORY_ERROR (R342): An uncorrectable memory error on the hub, cistern or NV die applies the HEALTH penalty of 8 until a hardware reset. -/
  | uncorrectableMemoryError (die : Nat)
  /-- HANDSHAKE_TIMEOUT (R342): A self-timed handshake timeout outside the compute and observer engines applies the HEALTH penalty of 8 until a hardware reset. -/
  | handshakeTimeout
  /-- SERDES_REFCLK_RETURN (R461): SERDES_REFCLK returns, SERDES_CLK_BAD clears and the Ethernet ports and span lanes can come up. -/
  | serdesRefclkReturn
  /-- XTAL32_RESTART (R462): The 32.768 kHz oscillator runs again, so XTAL_STOP clears and KEEP_TICK and the keeper comparators resume. -/
  | xtal32Restart
  /-- TRNG_HEALTH_RECOVER (R444): The TRNG health tests pass again, RNG_FAIL clears and SEC_RNG reads return fresh bits. -/
  | trngHealthRecover
  /-- KEEPER_START (R411): The keeper starts after a loss when its supply returns above 1.8 V, with KEEP_TICK at 0 and the counters restarted from the mirror. -/
  | keeperStart
  /-- PTP_MESSAGE_INTERVAL (R187): The PTP instance's message interval expires, and it sends Sync, Announce, Delay_Req or Pdelay_Req as its port state requires. -/
  | ptpMessageInterval (port : Nat)
  /-- VIN_SAMPLE (R396): Every 1 µs VIN is sampled, updating VIN_MIN_MV and the EXTREME record of code 0x01F0. -/
  | vinSample (mv : Nat)
  /-- POWERED_SECOND (R413): Each second with VIN above VIN_RST, the keeper increments POWERED_S. -/
  | poweredSecond
deriving DecidableEq, Repr

end Sys2Proof
end

