-- ==== Sys2Proof/Decode.lean ====
section
/-! DEFINITION. The decoder of the table's words: no row of spec/opcode_table.json gives bits, so no word spells a command. Beside it stand the
words of the pump's instructions as the manual encodes them (R93, R94): `pumpEncode` gives the words of an instruction and `pumpDecode` reads
them. -/

namespace Sys2Proof

/-- The command that a word spells by the table's bits: none, whatever the word. -/
def decodeTableWord (_nbits _w : Nat) : Option Instr := none

/-! ## The pump's instruction words (R93 to R95) -/

/-- The words of one pump instruction in its block. -/
structure PumpWords where
  first : Word
  second : Option Word
deriving DecidableEq, Repr

/-- A first word from its opcode [31:25], its field [24:20] and its field [19:0], with the second word of a two-word form (R93). -/
def pumpWord (op : BitVec 7) (mid : BitVec 5) (low : BitVec 20) (second : Option Word := none) : PumpWords :=
  { first := op ++ mid ++ low, second := second }

/-- ACC [24], MODE [23:22] and SEL [21:20] of the word form (R93). -/
def wordField (acc : Acc) (mode sel : BitVec 2) : BitVec 5 :=
  (match acc with | .A => 0#1 | .B => 1#1) ++ mode ++ sel

/-- The code of SEL (R94). -/
def Sel.code : Sel → BitVec 2 | .value => 0 | .quality => 1 | .age => 2

/-- The words of a word-form instruction (R94). -/
def wordForm (op : BitVec 7) (acc : Acc) (sel : Sel) : Operand → PumpWords
  | .direct p => pumpWord op (wordField acc 0 sel.code) p
  | .indexed base => pumpWord op (wordField acc 1 sel.code) base
  | .imm w => pumpWord op (wordField acc 2 sel.code) 0 (some w)
  | .partner => pumpWord op (wordField acc 3 sel.code) 0

/-- The accumulator that ACC selects (R94). -/
def accForm (mid : BitVec 5) : Acc := if mid.extractLsb' 4 1 = 0 then .A else .B

/-- The part and the operand that SEL, MODE, [19:0] and the second word select; none where SEL is 0b11, a reserved field is not 0, or SEL does
not go with MODE (R94). -/
def pointForm (mid : BitVec 5) (low : BitVec 20) (v : Word) : Option (Sel × Operand) :=
  let point (sel : Sel) : Option (Sel × Operand) :=
    if mid.extractLsb' 2 2 = 0 then some (sel, .direct low) else if mid.extractLsb' 2 2 = 1 then some (sel, .indexed low) else none
  if mid.extractLsb' 0 2 = 0 then
    if mid.extractLsb' 2 2 = 2 then (if low = 0 then some (.value, .imm v) else none)
    else if mid.extractLsb' 2 2 = 3 then (if low = 0 then some (.value, .partner) else none)
    else point .value
  else if mid.extractLsb' 0 2 = 1 then point .quality
  else if mid.extractLsb' 0 2 = 2 then point .age
  else none

/-- The forms of ST that R103 and its table entry allow: a point, and no age. -/
def storeOk (sel : Sel) : Operand → Bool
  | .direct _ | .indexed _ => decide (sel ≠ .age)
  | .imm _ | .partner => false

/-- A word instruction other than LD and ST: SEL is 0b00 (R94). -/
def operandForm (mid : BitVec 5) (low : BitVec 20) (v : Word) (f : Acc → Operand → Instr) : Option Instr :=
  if mid.extractLsb' 0 2 = 0 then (pointForm mid low v).map (fun o => f (accForm mid) o.2) else none

/-- A single-accumulator instruction: bits [23:0] are 0. -/
def singleForm (mid : BitVec 5) (low : BitVec 20) (f : Acc → Instr) : Option Instr :=
  if mid.extractLsb' 0 4 = 0 ∧ low = 0 then some (f (accForm mid)) else none

/-- The plain form: bits [24:0] are 0. -/
def plainForm (mid : BitVec 5) (low : BitVec 20) (i : Instr) : Option Instr := if mid = 0 ∧ low = 0 then some i else none

/-- The condition form; the codes 13 to 31 are reserved (R105). -/
def conditionForm (mid : BitVec 5) (low : BitVec 20) (f : BitVec 5 → Instr) : Option Instr :=
  if mid.toNat < 13 ∧ low = 0 then some (f mid) else none

/-- The instance form: bits [24:16] are 0. -/
def instanceForm (mid : BitVec 5) (low : BitVec 20) (f : BitVec 16 → Instr) : Option Instr :=
  if mid = 0 ∧ low.extractLsb' 16 4 = 0 then some (f (low.extractLsb' 0 16)) else none

/-- The pump instruction whose first word is `w`, followed by the word `v`, which only a two-word form uses; none where the words meet one of
the encodings that R96 makes an instruction fault. -/
def pumpDecode (w v : Word) : Option Instr :=
  let mid := w.extractLsb' 20 5
  let low := w.extractLsb' 0 20
  match (w.extractLsb' 25 7).toNat with
  | 0x01 => some (.ldb low mid)
  | 0x02 => some (.ldbn low mid)
  | 0x03 => some (.andb low mid)
  | 0x04 => some (.andbn low mid)
  | 0x05 => some (.orb low mid)
  | 0x06 => some (.orbn low mid)
  | 0x07 => some (.xorb low mid)
  | 0x08 => some (.xorbn low mid)
  | 0x09 => some (.setb low mid)
  | 0x0A => some (.clrb low mid)
  | 0x0B => some (.outb low mid)
  | 0x0C => some (.outbn low mid)
  | 0x0D => if mid = 0 then some (.andq low) else none
  | 0x0E => if mid = 0 then some (.andnq low) else none
  | 0x0F => if mid = 0 then some (.ldq low) else none
  | 0x10 => plainForm mid low .nest
  | 0x11 => plainForm mid low .joina
  | 0x12 => plainForm mid low .joinan
  | 0x13 => plainForm mid low .joino
  | 0x14 => plainForm mid low .joinon
  | 0x15 => plainForm mid low .joinx
  | 0x16 => plainForm mid low .joinxn
  | 0x17 => plainForm mid low .notba
  | 0x18 => plainForm mid low .setba
  | 0x19 => plainForm mid low .clrba
  | 0x1A => instanceForm mid low .rise
  | 0x1B => instanceForm mid low .fall
  | 0x1C => conditionForm mid low .ldc
  | 0x1D => conditionForm mid low .andc
  | 0x1E => conditionForm mid low .orc
  | 0x20 => (pointForm mid low v).map (fun o => .ld (accForm mid) o.1 o.2)
  | 0x21 => (pointForm mid low v).bind (fun o => if storeOk o.1 o.2 then some (.st (accForm mid) o.1 o.2) else none)
  | 0x22 => operandForm mid low v .add
  | 0x23 => operandForm mid low v .sub
  | 0x24 => operandForm mid low v .mul
  | 0x25 => operandForm mid low v .div
  | 0x26 => operandForm mid low v .divu
  | 0x27 => operandForm mid low v .mod
  | 0x28 => operandForm mid low v .andw
  | 0x29 => operandForm mid low v .orw
  | 0x2A => operandForm mid low v .xorw
  | 0x2B => operandForm mid low v .shl
  | 0x2C => operandForm mid low v .shr
  | 0x2D => operandForm mid low v .sar
  | 0x2E => operandForm mid low v .cmp
  | 0x2F => operandForm mid low v .cmpu
  | 0x30 => operandForm mid low v .fadd
  | 0x31 => operandForm mid low v .fsub
  | 0x32 => operandForm mid low v .fmul
  | 0x33 => operandForm mid low v .fdiv
  | 0x34 => operandForm mid low v .fmin
  | 0x35 => operandForm mid low v .fmax
  | 0x36 => operandForm mid low v .fcmp
  | 0x38 => singleForm mid low .neg
  | 0x39 => singleForm mid low .abs
  | 0x3A => singleForm mid low .fneg
  | 0x3B => singleForm mid low .fabs
  | 0x3C => singleForm mid low .fsqrt
  | 0x3D => singleForm mid low .itf
  | 0x3E => singleForm mid low .utf
  | 0x3F => singleForm mid low .fti
  | 0x40 => singleForm mid low .ftu
  | 0x41 => plainForm mid low .swap
  | 0x48 => if mid.toNat < 13 then some (.jc mid low) else none
  | 0x49 => if mid.toNat < 13 ∧ low.extractLsb' 16 4 = 0 then some (.call mid (low.extractLsb' 0 16)) else none
  | 0x4A => conditionForm mid low .ret
  | 0x50 => if mid = 0 then some (.bmov low (v.extractLsb' 0 20) (v.extractLsb' 20 12)) else none
  | 0x51 => if mid = 0 ∧ low.extractLsb' 12 8 = 0 then some (.bmovx (low.extractLsb' 0 12)) else none
  | 0x58 => instanceForm mid low .ton
  | 0x59 => instanceForm mid low .tof
  | 0x5A => instanceForm mid low .tp
  | 0x5C => instanceForm mid low .ctu
  | 0x5D => instanceForm mid low .ctd
  | 0x5E => if v.extractLsb' 25 7 = 0 then instanceForm mid low (fun inst => .ctud inst (v.extractLsb' 0 20) (v.extractLsb' 20 5)) else none
  | 0x5F => instanceForm mid low .crst
  | 0x60 => instanceForm mid low .cld
  | 0x68 => plainForm mid low .ldcyc
  | 0x69 => plainForm mid low .ldtask
  | 0x6A => if mid = 0 ∧ low.extractLsb' 9 11 = 0 then some (.loopreq (low.extractLsb' 0 9)) else none
  | 0x6B => plainForm mid low .nop
  | _ => none

/-- The words of a pump instruction; a command that is no pump instruction has none. -/
def pumpEncode : Instr → Option PumpWords
  | .ldb p bit => some (pumpWord 0x01 bit p)
  | .ldbn p bit => some (pumpWord 0x02 bit p)
  | .andb p bit => some (pumpWord 0x03 bit p)
  | .andbn p bit => some (pumpWord 0x04 bit p)
  | .orb p bit => some (pumpWord 0x05 bit p)
  | .orbn p bit => some (pumpWord 0x06 bit p)
  | .xorb p bit => some (pumpWord 0x07 bit p)
  | .xorbn p bit => some (pumpWord 0x08 bit p)
  | .setb p bit => some (pumpWord 0x09 bit p)
  | .clrb p bit => some (pumpWord 0x0A bit p)
  | .outb p bit => some (pumpWord 0x0B bit p)
  | .outbn p bit => some (pumpWord 0x0C bit p)
  | .andq p => some (pumpWord 0x0D 0 p)
  | .andnq p => some (pumpWord 0x0E 0 p)
  | .ldq p => some (pumpWord 0x0F 0 p)
  | .nest => some (pumpWord 0x10 0 0)
  | .joina => some (pumpWord 0x11 0 0)
  | .joinan => some (pumpWord 0x12 0 0)
  | .joino => some (pumpWord 0x13 0 0)
  | .joinon => some (pumpWord 0x14 0 0)
  | .joinx => some (pumpWord 0x15 0 0)
  | .joinxn => some (pumpWord 0x16 0 0)
  | .notba => some (pumpWord 0x17 0 0)
  | .setba => some (pumpWord 0x18 0 0)
  | .clrba => some (pumpWord 0x19 0 0)
  | .rise inst => some (pumpWord 0x1A 0 (inst.zeroExtend 20))
  | .fall inst => some (pumpWord 0x1B 0 (inst.zeroExtend 20))
  | .ldc cond => some (pumpWord 0x1C cond 0)
  | .andc cond => some (pumpWord 0x1D cond 0)
  | .orc cond => some (pumpWord 0x1E cond 0)
  | .ld acc sel op => some (wordForm 0x20 acc sel op)
  | .st acc sel op => some (wordForm 0x21 acc sel op)
  | .add acc op => some (wordForm 0x22 acc .value op)
  | .sub acc op => some (wordForm 0x23 acc .value op)
  | .mul acc op => some (wordForm 0x24 acc .value op)
  | .div acc op => some (wordForm 0x25 acc .value op)
  | .divu acc op => some (wordForm 0x26 acc .value op)
  | .mod acc op => some (wordForm 0x27 acc .value op)
  | .andw acc op => some (wordForm 0x28 acc .value op)
  | .orw acc op => some (wordForm 0x29 acc .value op)
  | .xorw acc op => some (wordForm 0x2A acc .value op)
  | .shl acc op => some (wordForm 0x2B acc .value op)
  | .shr acc op => some (wordForm 0x2C acc .value op)
  | .sar acc op => some (wordForm 0x2D acc .value op)
  | .cmp acc op => some (wordForm 0x2E acc .value op)
  | .cmpu acc op => some (wordForm 0x2F acc .value op)
  | .fadd acc op => some (wordForm 0x30 acc .value op)
  | .fsub acc op => some (wordForm 0x31 acc .value op)
  | .fmul acc op => some (wordForm 0x32 acc .value op)
  | .fdiv acc op => some (wordForm 0x33 acc .value op)
  | .fmin acc op => some (wordForm 0x34 acc .value op)
  | .fmax acc op => some (wordForm 0x35 acc .value op)
  | .fcmp acc op => some (wordForm 0x36 acc .value op)
  | .neg acc => some (pumpWord 0x38 (wordField acc 0 0) 0)
  | .abs acc => some (pumpWord 0x39 (wordField acc 0 0) 0)
  | .fneg acc => some (pumpWord 0x3A (wordField acc 0 0) 0)
  | .fabs acc => some (pumpWord 0x3B (wordField acc 0 0) 0)
  | .fsqrt acc => some (pumpWord 0x3C (wordField acc 0 0) 0)
  | .itf acc => some (pumpWord 0x3D (wordField acc 0 0) 0)
  | .utf acc => some (pumpWord 0x3E (wordField acc 0 0) 0)
  | .fti acc => some (pumpWord 0x3F (wordField acc 0 0) 0)
  | .ftu acc => some (pumpWord 0x40 (wordField acc 0 0) 0)
  | .swap => some (pumpWord 0x41 0 0)
  | .jc cond target => some (pumpWord 0x48 cond target)
  | .call cond block => some (pumpWord 0x49 cond (block.zeroExtend 20))
  | .ret cond => some (pumpWord 0x4A cond 0)
  | .bmov src dst countLess1 => some (pumpWord 0x50 0 src (some (countLess1 ++ dst)))
  | .bmovx countLess1 => some (pumpWord 0x51 0 (countLess1.zeroExtend 20))
  | .ton inst => some (pumpWord 0x58 0 (inst.zeroExtend 20))
  | .tof inst => some (pumpWord 0x59 0 (inst.zeroExtend 20))
  | .tp inst => some (pumpWord 0x5A 0 (inst.zeroExtend 20))
  | .ctu inst => some (pumpWord 0x5C 0 (inst.zeroExtend 20))
  | .ctd inst => some (pumpWord 0x5D 0 (inst.zeroExtend 20))
  | .ctud inst p bit => some (pumpWord 0x5E 0 (inst.zeroExtend 20) (some ((0 : BitVec 7) ++ bit ++ p)))
  | .crst inst => some (pumpWord 0x5F 0 (inst.zeroExtend 20))
  | .cld inst => some (pumpWord 0x60 0 (inst.zeroExtend 20))
  | .ldcyc => some (pumpWord 0x68 0 0)
  | .ldtask => some (pumpWord 0x69 0 0)
  | .loopreq loop => some (pumpWord 0x6A 0 (loop.zeroExtend 20))
  | .nop => some (pumpWord 0x6B 0 0)
  | _ => none

/-- The operands that an instruction's form allows (R94, R103, R105); with others the instruction has no legal encoding. -/
def pumpLegal : Instr → Bool
  | .ldc cond | .andc cond | .orc cond | .jc cond _ | .call cond _ | .ret cond => decide (cond.toNat < 13)
  | .ld _ sel (.imm _) | .ld _ sel .partner => decide (sel = .value)
  | .st _ sel op => storeOk sel op
  | _ => true

end Sys2Proof
end

