-- ==== Sys2Proof/Machine/Fp.lean ====
section
/-! DEFINITION. IEEE 754-2019 binary32 and binary64 arithmetic on bit patterns, round to nearest even, subnormals
kept (R11, R111, R112, R243). Values are computed exactly as integers times powers of two and rounded once. -/

namespace Sys2Proof.Machine.Fp

/-- An interchange format: exponent bits and stored significand bits. -/
structure Fmt where
  eb : Nat
  mb : Nat
deriving DecidableEq, Repr

/-- binary32 (R63). -/
def f32 : Fmt := ⟨8, 23⟩

/-- binary64 (R11). -/
def f64 : Fmt := ⟨11, 52⟩

/-- Exponent of one unit in the last place of the smallest numbers: 1 - bias - mb. -/
def Fmt.emin (f : Fmt) : Int := 1 - ((2 ^ (f.eb - 1) : Nat) - 1 : Int) - f.mb

/-- The bit pattern of plus infinity. -/
def Fmt.infBits (f : Fmt) : Nat := (2 ^ f.eb - 1) * 2 ^ f.mb

/-- The quiet NaN that arithmetic results take (R111: 0x7FC0_0000 in binary32). -/
def Fmt.nanBits (f : Fmt) : Nat := f.infBits + 2 ^ (f.mb - 1)

/-- What a bit pattern stands for: NaN, a signed infinity, or (-1)^neg * m * 2^e. -/
inductive Val where
  | nan
  | inf (neg : Bool)
  | fin (neg : Bool) (m : Nat) (e : Int)
deriving DecidableEq, Repr

def Fmt.signOf (f : Fmt) (w : Nat) : Bool := decide ((w / 2 ^ (f.eb + f.mb)) % 2 = 1)

def Fmt.decode (f : Fmt) (w : Nat) : Val :=
  let s := f.signOf w
  let e := (w / 2 ^ f.mb) % 2 ^ f.eb
  let m := w % 2 ^ f.mb
  if e = 2 ^ f.eb - 1 then (if m = 0 then .inf s else .nan)
  else if e = 0 then .fin s m f.emin
  else .fin s (m + 2 ^ f.mb) (f.emin + (e - 1 : Nat))

def Fmt.withSign (f : Fmt) (neg : Bool) (w : Nat) : Nat := if neg then w + 2 ^ (f.eb + f.mb) else w

/-- Round (-1)^neg * (m + a fraction of one unit, present when `sticky`) * 2^e to nearest, ties to even. A caller
that sets `sticky` gives m at least mb + 2 bits. -/
def Fmt.round (f : Fmt) (neg : Bool) (m : Nat) (e : Int) (sticky : Bool) : Nat :=
  if m = 0 then f.withSign neg 0
  else
    let q := max ((Nat.log2 m : Int) + e - f.mb) f.emin
    let sh := (q - e).toNat
    let keep :=
      if q ≤ e then m * 2 ^ (e - q).toNat
      else
        let k := m / 2 ^ sh
        let r := m % 2 ^ sh
        let half := 2 ^ (sh - 1)
        if half < r ∨ (r = half ∧ (sticky = true ∨ k % 2 = 1)) then k + 1 else k
    let enc := (q - f.emin).toNat * 2 ^ f.mb + keep
    f.withSign neg (if f.infBits ≤ enc then f.infBits else enc)

def Fmt.isNan (f : Fmt) (w : Nat) : Bool := decide (f.decode w = .nan)
def Fmt.isInf (f : Fmt) (w : Nat) : Bool := decide (w % 2 ^ (f.eb + f.mb) = f.infBits)
def Fmt.isZero (f : Fmt) (w : Nat) : Bool := decide (w % 2 ^ (f.eb + f.mb) = 0)
def Fmt.isFinite (f : Fmt) (w : Nat) : Bool := decide (w % 2 ^ (f.eb + f.mb) < f.infBits)

/-- The exact integer (-1)^neg * m. -/
def signed (neg : Bool) (m : Nat) : Int := if neg then -(m : Int) else m

/-- Round an exact integer times 2^e; an exact zero takes the sign `zneg`. -/
def Fmt.roundInt (f : Fmt) (v : Int) (e : Int) (zneg : Bool) : Nat :=
  if v = 0 then f.withSign zneg 0 else f.round (decide (v < 0)) v.natAbs e false

def Fmt.neg (f : Fmt) (a : Nat) : Nat :=
  if f.signOf a then a - 2 ^ (f.eb + f.mb) else a + 2 ^ (f.eb + f.mb)

def Fmt.abs (f : Fmt) (a : Nat) : Nat := a % 2 ^ (f.eb + f.mb)

def Fmt.add (f : Fmt) (a b : Nat) : Nat :=
  match f.decode a, f.decode b with
  | .nan, _ => f.nanBits
  | _, .nan => f.nanBits
  | .inf s, .inf t => if s = t then f.withSign s f.infBits else f.nanBits
  | .inf s, _ => f.withSign s f.infBits
  | _, .inf t => f.withSign t f.infBits
  | .fin s m e, .fin t k g =>
    let lo := min e g
    let v := signed s (m * 2 ^ (e - lo).toNat) + signed t (k * 2 ^ (g - lo).toNat)
    f.roundInt v lo (s && t)

def Fmt.sub (f : Fmt) (a b : Nat) : Nat :=
  if f.isNan b then f.nanBits else f.add a (f.neg b)

def Fmt.mul (f : Fmt) (a b : Nat) : Nat :=
  match f.decode a, f.decode b with
  | .nan, _ => f.nanBits
  | _, .nan => f.nanBits
  | .inf s, .inf t => f.withSign (s != t) f.infBits
  | .inf s, .fin t k _ => if k = 0 then f.nanBits else f.withSign (s != t) f.infBits
  | .fin s m _, .inf t => if m = 0 then f.nanBits else f.withSign (s != t) f.infBits
  | .fin s m e, .fin t k g => f.round (s != t) (m * k) (e + g) false

/-- Round the exact quotient (-1)^neg * (m / k) * 2^e, k not 0. -/
def Fmt.roundQuot (f : Fmt) (neg : Bool) (m k : Nat) (e : Int) : Nat :=
  let sh := f.mb + 3 + Nat.log2 k
  let q := (m * 2 ^ sh) / k
  f.round neg q (e - sh) (decide ((m * 2 ^ sh) % k ≠ 0))

def Fmt.div (f : Fmt) (a b : Nat) : Nat :=
  match f.decode a, f.decode b with
  | .nan, _ => f.nanBits
  | _, .nan => f.nanBits
  | .inf _, .inf _ => f.nanBits
  | .inf s, .fin t _ _ => f.withSign (s != t) f.infBits
  | .fin s _ _, .inf t => f.withSign (s != t) 0
  | .fin s m e, .fin t k g =>
    if k = 0 then (if m = 0 then f.nanBits else f.withSign (s != t) f.infBits)
    else if m = 0 then f.withSign (s != t) 0
    else f.roundQuot (s != t) m k (e - g)

/-- The integer square root of m, tried bit by bit from bit n - 1 down, on top of r. -/
def isqrt : Nat → Nat → Nat → Nat
  | 0, _, r => r
  | n + 1, m, r => if (r + 2 ^ n) * (r + 2 ^ n) ≤ m then isqrt n m (r + 2 ^ n) else isqrt n m r

def Fmt.sqrt (f : Fmt) (a : Nat) : Nat :=
  match f.decode a with
  | .nan => f.nanBits
  | .inf s => if s then f.nanBits else f.infBits
  | .fin s m e =>
    if m = 0 then f.withSign s 0
    else if s then f.nanBits
    else
      let odd := e % 2
      let m1 := if odd = 0 then m else 2 * m
      let e1 := if odd = 0 then e else e - 1
      let k := f.mb + 3
      let big := m1 * 2 ^ (2 * k)
      let r := isqrt (2 * f.mb + 6) big 0
      f.round false r (e1 / 2 - k) (decide (r * r ≠ big))

/-- Order of two numbers: none when unordered, otherwise -1, 0 or 1 (+0 equals -0). -/
def Fmt.cmp (f : Fmt) (a b : Nat) : Option Int :=
  match f.decode a, f.decode b with
  | .nan, _ => none
  | _, .nan => none
  | .inf s, .inf t => some (if s = t then 0 else if s then -1 else 1)
  | .inf s, _ => some (if s then -1 else 1)
  | _, .inf t => some (if t then 1 else -1)
  | .fin s m e, .fin t k g =>
    let lo := min e g
    let x := signed s (m * 2 ^ (e - lo).toNat)
    let y := signed t (k * 2 ^ (g - lo).toNat)
    some (if x < y then -1 else if x = y then 0 else 1)

def Fmt.lt (f : Fmt) (a b : Nat) : Bool := decide (f.cmp a b = some (-1))
def Fmt.le (f : Fmt) (a b : Nat) : Bool := decide (f.cmp a b = some (-1) ∨ f.cmp a b = some 0)
def Fmt.eq (f : Fmt) (a b : Nat) : Bool := decide (f.cmp a b = some 0)

/-- The standard's minimum: a NaN operand gives NaN, -0 orders below +0 (R111). -/
def Fmt.minimum (f : Fmt) (a b : Nat) : Nat :=
  match f.cmp a b with
  | none => f.nanBits
  | some c => if c = 0 then (if f.signOf a then a else b) else if c = -1 then a else b

/-- The standard's maximum. -/
def Fmt.maximum (f : Fmt) (a b : Nat) : Nat :=
  match f.cmp a b with
  | none => f.nanBits
  | some c => if c = 0 then (if f.signOf a then b else a) else if c = -1 then b else a

/-- An integer rounded to the format. -/
def Fmt.ofInt (f : Fmt) (v : Int) : Nat := f.roundInt v 0 false

/-- The rational num / den (den not 0) rounded to the format. -/
def Fmt.ofRat (f : Fmt) (num : Int) (den : Nat) : Nat :=
  if num = 0 then 0 else f.roundQuot (decide (num < 0)) num.natAbs den 0

/-- The number m * 2^e rounded to the nearest integer, ties to even. -/
def rintNat (m : Nat) (e : Int) : Nat :=
  if 0 ≤ e then m * 2 ^ e.toNat
  else
    let sh := (-e).toNat
    let k := m / 2 ^ sh
    let r := m % 2 ^ sh
    if 2 ^ (sh - 1) < r ∨ (r = 2 ^ (sh - 1) ∧ k % 2 = 1) then k + 1 else k

/-- The nearest integer, ties to even; none for a NaN; an infinity gives `big` with its sign. -/
def Fmt.toInt (f : Fmt) (a : Nat) (big : Nat) : Option Int :=
  match f.decode a with
  | .nan => none
  | .inf s => some (signed s big)
  | .fin s m e => some (signed s (rintNat m e))

/-- Conversion between formats; a NaN becomes the target's quiet NaN. -/
def convert (src dst : Fmt) (a : Nat) : Nat :=
  match src.decode a with
  | .nan => dst.nanBits
  | .inf s => dst.withSign s dst.infBits
  | .fin s m e => dst.round s m e false

end Sys2Proof.Machine.Fp

namespace Sys2Proof.Machine

/-- A binary64 value as the loop engine and the observer hold it (R11, R243). -/
abbrev F64 := BitVec 64

namespace F64

def ofNatBits (n : Nat) : F64 := BitVec.ofNat 64 n
def zero : F64 := 0
def add (a b : F64) : F64 := ofNatBits (Fp.f64.add a.toNat b.toNat)
def sub (a b : F64) : F64 := ofNatBits (Fp.f64.sub a.toNat b.toNat)
def mul (a b : F64) : F64 := ofNatBits (Fp.f64.mul a.toNat b.toNat)
def div (a b : F64) : F64 := ofNatBits (Fp.f64.div a.toNat b.toNat)
def sqrt (a : F64) : F64 := ofNatBits (Fp.f64.sqrt a.toNat)
def neg (a : F64) : F64 := ofNatBits (Fp.f64.neg a.toNat)
def abs (a : F64) : F64 := ofNatBits (Fp.f64.abs a.toNat)
def lt (a b : F64) : Bool := Fp.f64.lt a.toNat b.toNat
def le (a b : F64) : Bool := Fp.f64.le a.toNat b.toNat
def eq (a b : F64) : Bool := Fp.f64.eq a.toNat b.toNat
def isNan (a : F64) : Bool := Fp.f64.isNan a.toNat
def isFinite (a : F64) : Bool := Fp.f64.isFinite a.toNat
def isZero (a : F64) : Bool := Fp.f64.isZero a.toNat
def signBit (a : F64) : Bool := Fp.f64.signOf a.toNat
def ofInt (v : Int) : F64 := ofNatBits (Fp.f64.ofInt v)
def ofRat (num : Int) (den : Nat) : F64 := ofNatBits (Fp.f64.ofRat num den)
/-- A binary32 point or register word as binary64 (R11). -/
def ofF32 (w : Word) : F64 := ofNatBits (Fp.convert Fp.f32 Fp.f64 w.toNat)
/-- Rounded to binary32 where a value is written to a point (R11). -/
def toF32 (a : F64) : Word := BitVec.ofNat 32 (Fp.convert Fp.f64 Fp.f32 a.toNat)
def max (a b : F64) : F64 := if lt a b then b else a
def min (a b : F64) : F64 := if lt b a then b else a
/-- clamp(x, lo, hi) of R243: the nearest value within [lo, hi]. -/
def clamp (x lo hi : F64) : F64 := if lt x lo then lo else if lt hi x then hi else x
/-- The sign of a number: -1, 0 or 1 (0 for a NaN). -/
def sgn (a : F64) : Int := if lt zero a then 1 else if lt a zero then -1 else 0

end F64

end Sys2Proof.Machine
end

