-- ==== Sys2Proof/Machine/Regs.lean ====
section
/-! DEFINITION. The register map, field by field: every register table of the spec's chapters (address, bits, access
code, value after reset, image column, stated range). Field constants are named REGISTER_FIELD. -/

namespace Sys2Proof.Machine

/-- The base access code of a field (R46). -/
inductive Access where | rw | ro | w1c | wo
deriving DecidableEq, Repr

/-- One field of a register (R46): block address, low bit, width, value after reset, access, the letters L, T, V
and S, image column, and the range stated for it (R44). `special` marks a field whose value after reset
depends on its instance (`Reg.factory`). -/
structure Fld where
  addr : Nat
  lo : Nat
  width : Nat
  reset : Nat := 0
  acc : Access := .ro
  lock : Bool := false
  txn : Bool := false
  voted : Bool := false
  stale : Bool := false
  image : Bool := false
  vmin : Nat := 0
  vmax : Nat := 4294967295
  special : Bool := false
deriving DecidableEq, Repr

/-- What an instance window of a register is indexed by (R45). -/
inductive Window where
  | none | force | queue | rule | ring | station | port | pps | din | channel | template | uart | can
  | obsChannel | loop | thruster | bus | generator | context | slot | node | safe | recSlot
deriving DecidableEq, Repr

/-- A register: first address, number of elements and stride of an array of registers, window, fields. -/
structure RegDef where
  addr : Nat
  count : Nat := 1
  stride : Nat := 4
  window : Window := .none
  fields : List Fld
deriving DecidableEq, Repr

/-- Element k of an array of registers. -/
def Fld.at (f : Fld) (k : Nat) (stride : Nat := 4) : Fld := { f with addr := f.addr + stride * k }

/-- The storage key of a field of an instance. -/
def Fld.key (f : Fld) (i : Nat) : Nat := (i * 16777216 + f.addr) * 32 + f.lo

namespace Reg

/-! PWR_PACE_CTL (01_cycle_at_a_glance.md) -/
def PWR_PACE_CTL_PACE_FLOOR : Fld := { addr := 0x010100, lo := 0, width := 8, reset := 110, acc := .rw, lock := true, image := true, vmin := 105, vmax := 150 }
def PWR_PACE_CTL_PACE_MARGIN : Fld := { addr := 0x010100, lo := 8, width := 8, reset := 5, acc := .rw, lock := true, image := true, vmin := 2, vmax := 20 }
/-! PWR_PACE_STAT (01_cycle_at_a_glance.md) -/
/-- DESIGN CHOICE (log entry 4): reset 100, a pace of 1.00; the table says only that the value is measured. -/
def PWR_PACE_STAT_PACE : Fld := { addr := 0x010104, lo := 0, width := 9, reset := 100 }
def PWR_PACE_STAT_PACE_LOW : Fld := { addr := 0x010104, lo := 9, width := 1, acc := .w1c }
def PWR_PACE_STAT_AT_VMAX : Fld := { addr := 0x010104, lo := 10, width := 1 }
/-- DESIGN CHOICE (log entry 4): reset 800 mV; the table says only that the value is measured. -/
def PWR_PACE_STAT_VCORE_MV : Fld := { addr := 0x010104, lo := 16, width := 10, reset := 800 }
/-! SYS_PATH_CTL (02_registers_and_transactions.md) -/
def SYS_PATH_CTL_MGMT_WR_EN : Fld := { addr := 0x000020, lo := 0, width := 1, reset := 1, acc := .rw, lock := true, voted := true, image := true }
def SYS_PATH_CTL_SPI_WR_EN : Fld := { addr := 0x000020, lo := 1, width := 1, reset := 1, acc := .rw, lock := true, voted := true, image := true }
def SYS_PATH_CTL_MGMT_PORT : Fld := { addr := 0x000020, lo := 16, width := 16, reset := 40119, acc := .rw, lock := true, image := true, vmin := 1024, vmax := 65535 }
/-! SYS_SPI_STAT (02_registers_and_transactions.md) -/
def SYS_SPI_STAT_LAST_STATUS : Fld := { addr := 0x000024, lo := 0, width := 8 }
def SYS_SPI_STAT_READ_STATUS : Fld := { addr := 0x000024, lo := 8, width := 8 }
def SYS_SPI_STAT_READ_POS : Fld := { addr := 0x000024, lo := 16, width := 16 }
/-! SYS_ALARM_SUM (02_registers_and_transactions.md) -/
def SYS_ALARM_SUM_BLK_ALARM : Fld := { addr := 0x000030, lo := 0, width := 21 }
/-! SYS_ALARM_MASK (02_registers_and_transactions.md) -/
def SYS_ALARM_MASK_BLK_MASK : Fld := { addr := 0x000034, lo := 0, width := 21, reset := 2097151, acc := .rw, image := true }
/-! SYS_LOCK (02_registers_and_transactions.md) -/
def SYS_LOCK_LOCK : Fld := { addr := 0x000010, lo := 0, width := 21, acc := .rw, voted := true }
/-! SYS_VOTE_CNT (02_registers_and_transactions.md) -/
def SYS_VOTE_CNT_COUNT : Fld := { addr := 0x000018, lo := 0, width := 32 }
/-! SYS_VOTE_LAST (02_registers_and_transactions.md) -/
def SYS_VOTE_LAST_ADDR : Fld := { addr := 0x00001C, lo := 0, width := 32 }
/-! TXN_CTL (02_registers_and_transactions.md) -/
def TXN_CTL_OP : Fld := { addr := 0x000040, lo := 0, width := 2, acc := .wo }
/-! TXN_STAT (02_registers_and_transactions.md) -/
def TXN_STAT_STATE : Fld := { addr := 0x000044, lo := 0, width := 2 }
def TXN_STAT_OWNER_SPI : Fld := { addr := 0x000044, lo := 2, width := 1 }
def TXN_STAT_RESULT : Fld := { addr := 0x000044, lo := 3, width := 8 }
def TXN_STAT_STAGED : Fld := { addr := 0x000044, lo := 11, width := 11 }
def TXN_STAT_FAIL_POS : Fld := { addr := 0x000044, lo := 22, width := 10 }
/-! TXN_CFG (02_registers_and_transactions.md) -/
def TXN_CFG_TXN_TIMEOUT : Fld := { addr := 0x000048, lo := 0, width := 10, reset := 10, acc := .rw, lock := true, image := true, vmin := 1, vmax := 600 }
/-! SYS_LEVEL (02_registers_and_transactions.md) -/
def SYS_LEVEL_EXPERT : Fld := { addr := 0x000014, lo := 0, width := 21, acc := .rw, lock := true, txn := true, voted := true, image := true }
/-! IMG_CTL (02_registers_and_transactions.md) -/
def IMG_CTL_IMG_SAVE : Fld := { addr := 0x000050, lo := 0, width := 1, acc := .wo }
/-! IMG_STAT (02_registers_and_transactions.md) -/
def IMG_STAT_BOOT_B : Fld := { addr := 0x000054, lo := 0, width := 1, voted := true }
def IMG_STAT_IMG_FALLBACK : Fld := { addr := 0x000054, lo := 1, width := 1 }
def IMG_STAT_SAVE_BUSY : Fld := { addr := 0x000054, lo := 2, width := 1 }
def IMG_STAT_UNSAVED : Fld := { addr := 0x000054, lo := 3, width := 1 }
def IMG_STAT_SAVE_RESULT : Fld := { addr := 0x000054, lo := 4, width := 8 }
/-! PUMP_CYCLE_CTL (03_pump_execution_and_points.md) -/
def PUMP_CYCLE_CTL_T_P : Fld := { addr := 0x040000, lo := 0, width := 14, reset := 100, acc := .rw, lock := true, txn := true, image := true, vmin := 25, vmax := 10000 }
def PUMP_CYCLE_CTL_K : Fld := { addr := 0x040000, lo := 14, width := 10, reset := 100, acc := .rw, lock := true, txn := true, image := true, vmin := 1, vmax := 1000 }
def PUMP_CYCLE_CTL_OUT_RESERVE : Fld := { addr := 0x040000, lo := 24, width := 8, reset := 20, acc := .rw, lock := true, txn := true, image := true, vmin := 20, vmax := 200 }
/-! PUMP_CMD (03_pump_execution_and_points.md) -/
def PUMP_CMD_RESTART : Fld := { addr := 0x040010, lo := 0, width := 2, acc := .wo }
/-! PUMP_STAT (03_pump_execution_and_points.md) -/
def PUMP_STAT_RUNNING : Fld := { addr := 0x040014, lo := 0, width := 1 }
def PUMP_STAT_LAST_START : Fld := { addr := 0x040014, lo := 1, width := 2 }
def PUMP_STAT_OVR : Fld := { addr := 0x040014, lo := 3, width := 1, acc := .w1c }
def PUMP_STAT_STACK_FAULT : Fld := { addr := 0x040014, lo := 4, width := 1, acc := .w1c }
def PUMP_STAT_WRVIOL : Fld := { addr := 0x040014, lo := 5, width := 1, acc := .w1c }
def PUMP_STAT_MIRROR_LATE : Fld := { addr := 0x040014, lo := 6, width := 1, acc := .w1c }
def PUMP_STAT_BUDGET_FAIL : Fld := { addr := 0x040014, lo := 7, width := 1 }
def PUMP_STAT_RESTARTING : Fld := { addr := 0x040014, lo := 8, width := 1 }
def PUMP_STAT_MIRROR_INIT : Fld := { addr := 0x040014, lo := 9, width := 1, acc := .w1c }
/-! PUMP_OVR_CNT (03_pump_execution_and_points.md) -/
def PUMP_OVR_CNT_COUNT : Fld := { addr := 0x040018, lo := 0, width := 32 }
/-! PUMP_FAULT (04_pump_instruction_set.md) -/
def PUMP_FAULT_ILLEGAL : Fld := { addr := 0x040020, lo := 0, width := 1, acc := .w1c }
def PUMP_FAULT_TASK : Fld := { addr := 0x040020, lo := 1, width := 2 }
def PUMP_FAULT_WORD : Fld := { addr := 0x040020, lo := 4, width := 22 }
/-! FORCE_CMD (05_timers_forces_and_plates.md) -/
def FORCE_CMD_CLR_ALL : Fld := { addr := 0x050000, lo := 0, width := 1, acc := .wo, lock := true, txn := true }
/-! FORCE_STAT (05_timers_forces_and_plates.md) -/
def FORCE_STAT_ACTIVE : Fld := { addr := 0x050004, lo := 0, width := 13 }
def FORCE_STAT_ORPHANS : Fld := { addr := 0x050004, lo := 13, width := 13 }
/-! FORCE_WSEL (05_timers_forces_and_plates.md) -/
def FORCE_WSEL_ENTRY : Fld := { addr := 0x058000, lo := 0, width := 12, acc := .rw }
/-! FORCE_ENT_ADDR (05_timers_forces_and_plates.md) -/
def FORCE_ENT_ADDR_POINT : Fld := { addr := 0x059000, lo := 0, width := 20, acc := .rw, lock := true, txn := true }
def FORCE_ENT_ADDR_VALID : Fld := { addr := 0x059000, lo := 31, width := 1, acc := .rw, lock := true, txn := true }
/-! FORCE_ENT_VALUE (05_timers_forces_and_plates.md) -/
def FORCE_ENT_VALUE_VALUE : Fld := { addr := 0x059004, lo := 0, width := 32, acc := .rw, lock := true, txn := true }
/-! FORCE_ENT_QUAL (05_timers_forces_and_plates.md) -/
def FORCE_ENT_QUAL_QUALITY : Fld := { addr := 0x059008, lo := 0, width := 8, acc := .rw, lock := true, txn := true }
def FORCE_ENT_QUAL_TYPE : Fld := { addr := 0x059008, lo := 8, width := 4, acc := .rw, lock := true, txn := true }
def FORCE_ENT_QUAL_ORPHAN : Fld := { addr := 0x059008, lo := 16, width := 1 }
/-! PLATE_CMD (05_timers_forces_and_plates.md) -/
def PLATE_CMD_OP : Fld := { addr := 0x040030, lo := 0, width := 3, acc := .wo }
/-! PLATE_STAT (05_timers_forces_and_plates.md) -/
def PLATE_STAT_SLOT_STATE : Fld := { addr := 0x040034, lo := 0, width := 3 }
def PLATE_STAT_RUN_SLOT : Fld := { addr := 0x040034, lo := 3, width := 1 }
def PLATE_STAT_COMMIT_SLOT : Fld := { addr := 0x040034, lo := 4, width := 1, voted := true }
def PLATE_STAT_MAP_OK : Fld := { addr := 0x040034, lo := 5, width := 1 }
def PLATE_STAT_RESULT : Fld := { addr := 0x040034, lo := 6, width := 8 }
/-! PLATE_CFG (05_timers_forces_and_plates.md) -/
def PLATE_CFG_SWAP_LEAD : Fld := { addr := 0x040038, lo := 0, width := 7, reset := 8, acc := .rw, lock := true, image := true, vmin := 4, vmax := 100 }
def PLATE_CFG_REVERT_WIN : Fld := { addr := 0x040038, lo := 7, width := 10, reset := 100, acc := .rw, lock := true, image := true, vmin := 10, vmax := 1000 }
/-! PLATE_NEW_ID (05_timers_forces_and_plates.md) -/
def PLATE_NEW_ID_ID : Fld := { addr := 0x04003C, lo := 0, width := 32 }
/-! PLATE_SWAP_CYC (05_timers_forces_and_plates.md) -/
def PLATE_SWAP_CYC_S_LO : Fld := { addr := 0x040040, lo := 0, width := 32 }
/-! SYS_NET_MAC_LO (06_station_link_and_queues.md) -/
def SYS_NET_MAC_LO_MAC_LO : Fld := { addr := 0x000090, lo := 0, width := 32 }
/-! SYS_NET_MAC_HI (06_station_link_and_queues.md) -/
def SYS_NET_MAC_HI_MAC_HI : Fld := { addr := 0x000094, lo := 0, width := 16 }
/-! SYS_WSEL (06_station_link_and_queues.md) -/
def SYS_WSEL_PORT : Fld := { addr := 0x008000, lo := 0, width := 4, acc := .rw }
/-! SYS_PORT_IP (06_station_link_and_queues.md) -/
def SYS_PORT_IP_IP_ADDR : Fld := { addr := 0x009000, lo := 0, width := 32, acc := .rw, lock := true, txn := true, image := true }
/-! QMGR_NOMATCH_CNT (06_station_link_and_queues.md) -/
def QMGR_NOMATCH_CNT_COUNT : Fld := { addr := 0x060010, lo := 0, width := 32 }
/-! QMGR_WSEL (06_station_link_and_queues.md) -/
def QMGR_WSEL_INDEX : Fld := { addr := 0x068000, lo := 0, width := 9, acc := .rw }
/-! QMGR_Q_CFG (06_station_link_and_queues.md) -/
def QMGR_Q_CFG_ENABLE : Fld := { addr := 0x069000, lo := 0, width := 1, acc := .rw, lock := true, txn := true, image := true, special := true }
def QMGR_Q_CFG_DIR : Fld := { addr := 0x069000, lo := 1, width := 1, acc := .rw, lock := true, txn := true, image := true, special := true }
def QMGR_Q_CFG_CONSUMER : Fld := { addr := 0x069000, lo := 2, width := 3, acc := .rw, lock := true, txn := true, image := true, vmax := 6, special := true }
def QMGR_Q_CFG_PRIO : Fld := { addr := 0x069000, lo := 5, width := 3, acc := .rw, lock := true, txn := true, image := true, special := true }
def QMGR_Q_CFG_RING_LEN : Fld := { addr := 0x069000, lo := 8, width := 12, acc := .rw, lock := true, txn := true, image := true, special := true }
/-! QMGR_Q_PORTS (06_station_link_and_queues.md) -/
def QMGR_Q_PORTS_PORTS : Fld := { addr := 0x069004, lo := 0, width := 16, acc := .rw, lock := true, txn := true, image := true, special := true }
/-! QMGR_Q_STAT (06_station_link_and_queues.md) -/
def QMGR_Q_STAT_DROPS : Fld := { addr := 0x069008, lo := 0, width := 16 }
def QMGR_Q_STAT_MAX_FILL : Fld := { addr := 0x069008, lo := 16, width := 13 }
/-! QMGR_RULE_CTL (06_station_link_and_queues.md) -/
def QMGR_RULE_CTL_KIND : Fld := { addr := 0x069100, lo := 0, width := 3, acc := .rw, lock := true, txn := true, image := true, vmax := 4, special := true }
def QMGR_RULE_CTL_QUEUE : Fld := { addr := 0x069100, lo := 3, width := 6, acc := .rw, lock := true, txn := true, image := true, special := true }
def QMGR_RULE_CTL_PORT_MASK : Fld := { addr := 0x069100, lo := 16, width := 16, acc := .rw, lock := true, txn := true, image := true, special := true }
/-! QMGR_RULE_KEY0 (06_station_link_and_queues.md) -/
def QMGR_RULE_KEY0_ETYPE_PORT : Fld := { addr := 0x069104, lo := 0, width := 16, acc := .rw, lock := true, txn := true, image := true, special := true }
def QMGR_RULE_KEY0_DMAC_HI : Fld := { addr := 0x069104, lo := 16, width := 16, acc := .rw, lock := true, txn := true, image := true, special := true }
/-! QMGR_RULE_KEY1 (06_station_link_and_queues.md) -/
def QMGR_RULE_KEY1_ADDR : Fld := { addr := 0x069108, lo := 0, width := 32, acc := .rw, lock := true, txn := true, image := true, special := true }
/-! STN_CYCLE_CFG (06_station_link_and_queues.md) -/
def STN_CYCLE_CFG_STN_ETYPE : Fld := { addr := 0x070000, lo := 0, width := 16, reset := 34997, acc := .rw, lock := true, txn := true, image := true }
def STN_CYCLE_CFG_INPUT_WIN_PCT : Fld := { addr := 0x070000, lo := 16, width := 7, reset := 35, acc := .rw, lock := true, txn := true, image := true, vmin := 5, vmax := 80 }
/-! STN_LATE_CNT (06_station_link_and_queues.md) -/
def STN_LATE_CNT_COUNT : Fld := { addr := 0x070008, lo := 0, width := 32 }
/-! STN_BAD_CNT (06_station_link_and_queues.md) -/
def STN_BAD_CNT_COUNT : Fld := { addr := 0x07000C, lo := 0, width := 32 }
/-! STN_WSEL (06_station_link_and_queues.md) -/
def STN_WSEL_INDEX : Fld := { addr := 0x078000, lo := 0, width := 10, acc := .rw }
/-! STN_RING_CFG (06_station_link_and_queues.md) -/
def STN_RING_CFG_ENABLE : Fld := { addr := 0x079000, lo := 0, width := 1, acc := .rw, lock := true, txn := true, image := true }
def STN_RING_CFG_HOP : Fld := { addr := 0x079000, lo := 1, width := 13, reset := 1000, acc := .rw, lock := true, txn := true, image := true, vmin := 100, vmax := 5000 }
/-! STN_RING_STAT (06_station_link_and_queues.md) -/
def STN_RING_STAT_CLOSED_A : Fld := { addr := 0x079004, lo := 0, width := 1 }
def STN_RING_STAT_CLOSED_B : Fld := { addr := 0x079004, lo := 1, width := 1 }
def STN_RING_STAT_BROKEN : Fld := { addr := 0x079004, lo := 2, width := 1 }
def STN_RING_STAT_BREAK_AFTER : Fld := { addr := 0x079004, lo := 3, width := 8 }
def STN_RING_STAT_ANSWERED : Fld := { addr := 0x079004, lo := 11, width := 8 }
def STN_RING_STAT_SPAN : Fld := { addr := 0x079004, lo := 19, width := 13 }
/-! STN_ST_CFG (06_station_link_and_queues.md) -/
def STN_ST_CFG_ENABLE : Fld := { addr := 0x079100, lo := 0, width := 1, acc := .rw, lock := true, txn := true, image := true }
def STN_ST_CFG_RING : Fld := { addr := 0x079100, lo := 1, width := 3, acc := .rw, lock := true, txn := true, image := true }
def STN_ST_CFG_POSITION : Fld := { addr := 0x079100, lo := 4, width := 8, reset := 1, acc := .rw, lock := true, txn := true, image := true, vmin := 1, vmax := 128 }
def STN_ST_CFG_GROUP : Fld := { addr := 0x079100, lo := 12, width := 5, acc := .rw, lock := true, txn := true, image := true }
def STN_ST_CFG_WDOG : Fld := { addr := 0x079100, lo := 17, width := 4, reset := 3, acc := .rw, lock := true, txn := true, image := true, vmin := 1, vmax := 15 }
def STN_ST_CFG_LATCH_SAFE : Fld := { addr := 0x079100, lo := 21, width := 1, acc := .rw, lock := true, txn := true, image := true }
/-! STN_ST_IN (06_station_link_and_queues.md) -/
def STN_ST_IN_IN_BASE : Fld := { addr := 0x079104, lo := 0, width := 20, acc := .rw, lock := true, txn := true, image := true }
def STN_ST_IN_IN_COUNT : Fld := { addr := 0x079104, lo := 20, width := 9, acc := .rw, lock := true, txn := true, image := true, vmax := 256 }
/-! STN_ST_OUT (06_station_link_and_queues.md) -/
def STN_ST_OUT_OUT_BASE : Fld := { addr := 0x079108, lo := 0, width := 20, acc := .rw, lock := true, txn := true, image := true }
def STN_ST_OUT_OUT_COUNT : Fld := { addr := 0x079108, lo := 20, width := 9, acc := .rw, lock := true, txn := true, image := true, vmax := 256 }
/-! STN_ST_CMD (06_station_link_and_queues.md) -/
def STN_ST_CMD_RELEASE : Fld := { addr := 0x07910C, lo := 0, width := 1, acc := .wo }
/-! TSU_TIME_LO (07_timestamps_and_network_time.md) -/
def TSU_TIME_LO_TIME_LO : Fld := { addr := 0x080000, lo := 0, width := 32 }
/-! TSU_TIME_HI (07_timestamps_and_network_time.md) -/
def TSU_TIME_HI_TIME_HI : Fld := { addr := 0x080004, lo := 0, width := 32 }
/-! TSU_SRC_CTL (07_timestamps_and_network_time.md) -/
def TSU_SRC_CTL_SRC_1 : Fld := { addr := 0x080010, lo := 0, width := 2, reset := 1, acc := .rw, lock := true, txn := true, image := true }
def TSU_SRC_CTL_SRC_2 : Fld := { addr := 0x080010, lo := 2, width := 2, reset := 2, acc := .rw, lock := true, txn := true, image := true }
def TSU_SRC_CTL_SRC_3 : Fld := { addr := 0x080010, lo := 4, width := 2, acc := .rw, lock := true, txn := true, image := true }
def TSU_SRC_CTL_TS_MON : Fld := { addr := 0x080010, lo := 6, width := 1, acc := .rw, txn := true, image := true }
def TSU_SRC_CTL_SYNC_WAIT : Fld := { addr := 0x080010, lo := 7, width := 9, acc := .rw, lock := true, txn := true, image := true, vmax := 300 }
def TSU_SRC_CTL_STEP_LIMIT : Fld := { addr := 0x080010, lo := 16, width := 16, reset := 1000, acc := .rw, lock := true, txn := true, image := true, vmin := 1, vmax := 65535 }
/-! TSU_SRC_STAT (07_timestamps_and_network_time.md) -/
def TSU_SRC_STAT_ACTIVE_SRC : Fld := { addr := 0x080014, lo := 0, width := 2 }
def TSU_SRC_STAT_LOCKED : Fld := { addr := 0x080014, lo := 2, width := 1 }
def TSU_SRC_STAT_HOLDOVER : Fld := { addr := 0x080014, lo := 3, width := 1 }
def TSU_SRC_STAT_TIME_VALID : Fld := { addr := 0x080014, lo := 4, width := 1 }
def TSU_SRC_STAT_OFFSET_HIGH : Fld := { addr := 0x080014, lo := 5, width := 1, acc := .w1c }
/-! TSU_OFFSET (07_timestamps_and_network_time.md) -/
def TSU_OFFSET_OFFSET : Fld := { addr := 0x080018, lo := 0, width := 32 }
/-! TSU_CMD (07_timestamps_and_network_time.md) -/
def TSU_CMD_STEP : Fld := { addr := 0x080020, lo := 0, width := 1, acc := .wo }
/-! TSU_PHASE (07_timestamps_and_network_time.md) -/
def TSU_PHASE_PHASE : Fld := { addr := 0x080024, lo := 0, width := 14, acc := .rw, lock := true, txn := true, image := true }
/-! TSU_PTP_CFG (07_timestamps_and_network_time.md) -/
def TSU_PTP_CFG_DOMAIN : Fld := { addr := 0x080030, lo := 0, width := 7, acc := .rw, lock := true, txn := true, image := true }
def TSU_PTP_CFG_SLAVE_ONLY : Fld := { addr := 0x080030, lo := 7, width := 1, reset := 1, acc := .rw, lock := true, txn := true, image := true }
def TSU_PTP_CFG_PRIORITY1 : Fld := { addr := 0x080030, lo := 8, width := 8, reset := 128, acc := .rw, lock := true, txn := true, image := true }
def TSU_PTP_CFG_PRIORITY2 : Fld := { addr := 0x080030, lo := 16, width := 8, reset := 128, acc := .rw, lock := true, txn := true, image := true }
def TSU_PTP_CFG_LOG_ANNOUNCE : Fld := { addr := 0x080030, lo := 24, width := 3, reset := 1, acc := .rw, lock := true, txn := true, image := true }
def TSU_PTP_CFG_ANN_TIMEOUT : Fld := { addr := 0x080030, lo := 27, width := 3, reset := 3, acc := .rw, lock := true, txn := true, image := true }
/-! TSU_WSEL (07_timestamps_and_network_time.md) -/
def TSU_WSEL_INDEX : Fld := { addr := 0x088000, lo := 0, width := 6, acc := .rw }
/-! TSU_PORT_LAT (07_timestamps_and_network_time.md) -/
def TSU_PORT_LAT_RX_LAT : Fld := { addr := 0x089000, lo := 0, width := 16, acc := .rw, lock := true, txn := true, image := true, vmax := 10000 }
def TSU_PORT_LAT_TX_LAT : Fld := { addr := 0x089000, lo := 16, width := 16, acc := .rw, lock := true, txn := true, image := true, vmax := 10000 }
/-! TSU_PORT_PTP (07_timestamps_and_network_time.md) -/
def TSU_PORT_PTP_PTP_EN : Fld := { addr := 0x089004, lo := 0, width := 1, acc := .rw, lock := true, txn := true, image := true }
def TSU_PORT_PTP_P2P : Fld := { addr := 0x089004, lo := 1, width := 1, acc := .rw, lock := true, txn := true, image := true }
def TSU_PORT_PTP_ONE_STEP : Fld := { addr := 0x089004, lo := 2, width := 1, acc := .rw, lock := true, txn := true, image := true }
def TSU_PORT_PTP_UDP : Fld := { addr := 0x089004, lo := 3, width := 1, acc := .rw, lock := true, txn := true, image := true }
def TSU_PORT_PTP_LOG_SYNC : Fld := { addr := 0x089004, lo := 4, width := 3, reset := 7, acc := .rw, lock := true, txn := true, image := true }
def TSU_PORT_PTP_ASYM : Fld := { addr := 0x089004, lo := 16, width := 16, acc := .rw, lock := true, txn := true, image := true }
/-! TSU_TSQ_STAT (07_timestamps_and_network_time.md) -/
def TSU_TSQ_STAT_FILL : Fld := { addr := 0x089008, lo := 0, width := 5 }
def TSU_TSQ_STAT_OVERFLOW : Fld := { addr := 0x089008, lo := 5, width := 1, acc := .w1c }
def TSU_TSQ_STAT_OVF_CNT : Fld := { addr := 0x089008, lo := 16, width := 16 }
/-! TSU_TSQ_ENTRY0 (07_timestamps_and_network_time.md) -/
def TSU_TSQ_ENTRY0_FRAME_ID : Fld := { addr := 0x089010, lo := 0, width := 16 }
def TSU_TSQ_ENTRY0_TS_HI : Fld := { addr := 0x089010, lo := 16, width := 8 }
def TSU_TSQ_ENTRY0_VALID : Fld := { addr := 0x089010, lo := 31, width := 1 }
/-! TSU_TSQ_ENTRY1 (07_timestamps_and_network_time.md) -/
def TSU_TSQ_ENTRY1_TS_LO : Fld := { addr := 0x089014, lo := 0, width := 32 }
/-! TSU_PPS_OUT (07_timestamps_and_network_time.md) -/
def TSU_PPS_OUT_MODE : Fld := { addr := 0x089020, lo := 0, width := 2, acc := .rw, lock := true, image := true }
def TSU_PPS_OUT_WIDTH : Fld := { addr := 0x089020, lo := 2, width := 19, reset := 100, acc := .rw, lock := true, image := true, vmin := 1, vmax := 500000 }
/-! TSU_DIN_EDGE_LO (07_timestamps_and_network_time.md) -/
def TSU_DIN_EDGE_LO_TS_LO : Fld := { addr := 0x089030, lo := 0, width := 32 }
/-! TSU_DIN_EDGE_HI (07_timestamps_and_network_time.md) -/
def TSU_DIN_EDGE_HI_TS_HI : Fld := { addr := 0x089034, lo := 0, width := 8 }
def TSU_DIN_EDGE_HI_RISING : Fld := { addr := 0x089034, lo := 8, width := 1 }
def TSU_DIN_EDGE_HI_LEVEL : Fld := { addr := 0x089034, lo := 9, width := 1 }
def TSU_DIN_EDGE_HI_MISSED : Fld := { addr := 0x089034, lo := 10, width := 1 }
/-! TRG_CFG (08_trough_sensor_alignment.md) -/
def TRG_CFG_W_PCT : Fld := { addr := 0x0A0000, lo := 0, width := 6, reset := 10, acc := .rw, lock := true, txn := true, image := true, vmin := 1, vmax := 40 }
def TRG_CFG_CONTRA_POS : Fld := { addr := 0x0A0000, lo := 6, width := 10, reset := 50, acc := .rw, lock := true, txn := true, image := true, vmin := 1, vmax := 1000 }
def TRG_CFG_CONTRA_HDG : Fld := { addr := 0x0A0000, lo := 16, width := 10, reset := 300, acc := .rw, lock := true, txn := true, image := true, vmin := 10, vmax := 1000 }
/-! TRG_SLIP_CFG (08_trough_sensor_alignment.md) -/
def TRG_SLIP_CFG_TIME_SLIP_WIN : Fld := { addr := 0x0A0004, lo := 0, width := 12, reset := 60, acc := .rw, lock := true, txn := true, image := true, vmin := 10, vmax := 3600 }
def TRG_SLIP_CFG_UTC_OFFSET : Fld := { addr := 0x0A0004, lo := 12, width := 8, reset := 37, acc := .rw, lock := true, txn := true, image := true }
/-! TRG_FRAME_STAT (08_trough_sensor_alignment.md) -/
def TRG_FRAME_STAT_CLOSE_US : Fld := { addr := 0x0A0010, lo := 0, width := 24 }
def TRG_FRAME_STAT_BY_LIMIT : Fld := { addr := 0x0A0010, lo := 24, width := 1 }
def TRG_FRAME_STAT_LAST_CH : Fld := { addr := 0x0A0010, lo := 25, width := 6 }
/-! TRG_LATE_CNT (08_trough_sensor_alignment.md) -/
def TRG_LATE_CNT_COUNT : Fld := { addr := 0x0A0014, lo := 0, width := 32 }
/-! TRG_WSEL (08_trough_sensor_alignment.md) -/
def TRG_WSEL_INDEX : Fld := { addr := 0x0A8000, lo := 0, width := 8, acc := .rw }
/-! TRG_CH_CFG (08_trough_sensor_alignment.md) -/
def TRG_CH_CFG_ENABLE : Fld := { addr := 0x0A9000, lo := 0, width := 1, acc := .rw, lock := true, txn := true, image := true }
def TRG_CH_CFG_REQUIRED : Fld := { addr := 0x0A9000, lo := 1, width := 1, acc := .rw, lock := true, txn := true, image := true }
def TRG_CH_CFG_OWN_TIME : Fld := { addr := 0x0A9000, lo := 2, width := 1, acc := .rw, lock := true, txn := true, image := true }
def TRG_CH_CFG_SRC_KIND : Fld := { addr := 0x0A9000, lo := 3, width := 2, acc := .rw, lock := true, txn := true, image := true, vmax := 2 }
def TRG_CH_CFG_SRC_INDEX : Fld := { addr := 0x0A9000, lo := 5, width := 6, acc := .rw, lock := true, txn := true, image := true }
def TRG_CH_CFG_GROUP : Fld := { addr := 0x0A9000, lo := 11, width := 3, reset := 5, acc := .rw, lock := true, txn := true, image := true, vmax := 5 }
def TRG_CH_CFG_TEMPLATE : Fld := { addr := 0x0A9000, lo := 14, width := 8, acc := .rw, lock := true, txn := true, image := true }
/-! TRG_CH_LAT (08_trough_sensor_alignment.md) -/
def TRG_CH_LAT_LATENCY : Fld := { addr := 0x0A9004, lo := 0, width := 24, acc := .rw, lock := true, txn := true, image := true, vmax := 10000000 }
/-! TRG_CH_VAR (08_trough_sensor_alignment.md) -/
def TRG_CH_VAR_VARIANCE : Fld := { addr := 0x0A9008, lo := 0, width := 32, reset := 1065353216, acc := .rw, lock := true, txn := true, image := true }
/-! TRG_CH_PERIOD (08_trough_sensor_alignment.md) -/
def TRG_CH_PERIOD_PERIOD : Fld := { addr := 0x0A900C, lo := 0, width := 24, reset := 1000000, acc := .rw, lock := true, txn := true, image := true, vmin := 1000, vmax := 10000000 }
/-! TRG_CH_IN (08_trough_sensor_alignment.md) -/
def TRG_CH_IN_IN_BASE : Fld := { addr := 0x0A9010, lo := 0, width := 20, acc := .rw, lock := true, txn := true, image := true }
def TRG_CH_IN_IN_EN : Fld := { addr := 0x0A9010, lo := 20, width := 1, acc := .rw, lock := true, txn := true, image := true }
/-! TRG_TPL_n (08_trough_sensor_alignment.md) -/
def TRG_TPL_BYTES : Fld := { addr := 0x0A9100, lo := 0, width := 32, acc := .rw, lock := true, txn := true, image := true }
/-! SER_WSEL (08_trough_sensor_alignment.md) -/
def SER_WSEL_INDEX : Fld := { addr := 0x098000, lo := 0, width := 5, acc := .rw }
/-! SER_UART_CFG (08_trough_sensor_alignment.md) -/
def SER_UART_CFG_BAUD : Fld := { addr := 0x099000, lo := 0, width := 20, reset := 4800, acc := .rw, lock := true, txn := true, image := true, vmin := 1200, vmax := 921600 }
def SER_UART_CFG_PARITY : Fld := { addr := 0x099000, lo := 20, width := 2, acc := .rw, lock := true, txn := true, image := true, vmax := 2 }
def SER_UART_CFG_STOP2 : Fld := { addr := 0x099000, lo := 22, width := 1, acc := .rw, lock := true, txn := true, image := true }
def SER_UART_CFG_DE_EN : Fld := { addr := 0x099000, lo := 23, width := 1, acc := .rw, lock := true, txn := true, image := true }
def SER_UART_CFG_TX_EN : Fld := { addr := 0x099000, lo := 24, width := 1, acc := .rw, lock := true, txn := true, image := true }
/-! SER_UART_TX (08_trough_sensor_alignment.md) -/
def SER_UART_TX_LEN : Fld := { addr := 0x099004, lo := 0, width := 7, acc := .wo }
/-! SER_UART_TXBUF_n (08_trough_sensor_alignment.md) -/
def SER_UART_TXBUF_BYTES : Fld := { addr := 0x099100, lo := 0, width := 32, acc := .rw }
/-! SER_CAN_CFG (08_trough_sensor_alignment.md) -/
def SER_CAN_CFG_MODE : Fld := { addr := 0x099010, lo := 0, width := 2, acc := .rw, lock := true, txn := true, image := true, vmax := 2 }
def SER_CAN_CFG_NOM_RATE : Fld := { addr := 0x099010, lo := 2, width := 3, reset := 1, acc := .rw, lock := true, txn := true, image := true, vmax := 3 }
def SER_CAN_CFG_DATA_RATE : Fld := { addr := 0x099010, lo := 5, width := 3, reset := 1, acc := .rw, lock := true, txn := true, image := true, vmax := 4 }
def SER_CAN_CFG_PREF_ADDR : Fld := { addr := 0x099010, lo := 8, width := 8, reset := 128, acc := .rw, lock := true, txn := true, image := true, vmax := 251 }
def SER_CAN_CFG_CLAIM_EN : Fld := { addr := 0x099010, lo := 16, width := 1, acc := .rw, lock := true, txn := true, image := true }
/-! SER_CAN_NAME_LO (08_trough_sensor_alignment.md) -/
def SER_CAN_NAME_LO_NAME_LO : Fld := { addr := 0x099014, lo := 0, width := 32, acc := .rw, lock := true, txn := true, image := true }
/-! SER_CAN_NAME_HI (08_trough_sensor_alignment.md) -/
def SER_CAN_NAME_HI_NAME_HI : Fld := { addr := 0x099018, lo := 0, width := 32, acc := .rw, lock := true, txn := true, image := true }
/-! SER_CAN_STAT (08_trough_sensor_alignment.md) -/
def SER_CAN_STAT_ADDR : Fld := { addr := 0x09901C, lo := 0, width := 8, reset := 254 }
def SER_CAN_STAT_CLAIMED : Fld := { addr := 0x09901C, lo := 8, width := 1 }
def SER_CAN_STAT_BUS_OFF : Fld := { addr := 0x09901C, lo := 9, width := 1 }
/-! OBS_CMD (09_vessel_observer_and_calibration.md) -/
def OBS_CMD_ORIGIN_SET : Fld := { addr := 0x0B0000, lo := 0, width := 1, acc := .wo }
def OBS_CMD_REINIT : Fld := { addr := 0x0B0000, lo := 1, width := 1, acc := .wo }
def OBS_CMD_CAL_SAVE : Fld := { addr := 0x0B0000, lo := 2, width := 1, acc := .wo }
def OBS_CMD_CAL_RESET : Fld := { addr := 0x0B0000, lo := 3, width := 1, acc := .wo }
/-! OBS_STAT (09_vessel_observer_and_calibration.md) -/
def OBS_STAT_STATE : Fld := { addr := 0x0B0004, lo := 0, width := 2 }
def OBS_STAT_ENGINE : Fld := { addr := 0x0B0004, lo := 2, width := 1 }
def OBS_STAT_FAILOVER : Fld := { addr := 0x0B0004, lo := 3, width := 1, acc := .w1c }
def OBS_STAT_SPARE_LOST : Fld := { addr := 0x0B0004, lo := 4, width := 1 }
def OBS_STAT_CAL_FROZEN : Fld := { addr := 0x0B0004, lo := 5, width := 1, reset := 1 }
def OBS_STAT_CAL_BUSY : Fld := { addr := 0x0B0004, lo := 6, width := 1 }
/-! OBS_CFG (09_vessel_observer_and_calibration.md) -/
def OBS_CFG_DR_MAX_POS : Fld := { addr := 0x0B0008, lo := 0, width := 10, reset := 60, acc := .rw, lock := true, txn := true, image := true, vmin := 1, vmax := 600 }
def OBS_CFG_DR_MAX_HDG : Fld := { addr := 0x0B0008, lo := 10, width := 10, reset := 30, acc := .rw, lock := true, txn := true, image := true, vmin := 1, vmax := 600 }
def OBS_CFG_NU_GATE : Fld := { addr := 0x0B0008, lo := 20, width := 7, reset := 50, acc := .rw, lock := true, txn := true, image := true, vmin := 20, vmax := 127 }
def OBS_CFG_NU_REANCHOR : Fld := { addr := 0x0B0008, lo := 27, width := 4, reset := 5, acc := .rw, lock := true, txn := true, image := true, vmin := 2, vmax := 15 }
def OBS_CFG_ORIGIN_AUTO : Fld := { addr := 0x0B0008, lo := 31, width := 1, reset := 1, acc := .rw, lock := true, txn := true, image := true }
/-! OBS_CAL_CFG (09_vessel_observer_and_calibration.md) -/
def OBS_CAL_CFG_ENV_ARM : Fld := { addr := 0x0B000C, lo := 0, width := 11, reset := 500, acc := .rw, lock := true, txn := true, image := true, vmin := 10, vmax := 2000 }
def OBS_CAL_CFG_ENV_HDG : Fld := { addr := 0x0B000C, lo := 11, width := 10, reset := 200, acc := .rw, lock := true, txn := true, image := true, vmin := 10, vmax := 1000 }
/-! OBS_ORIGIN_n (09_vessel_observer_and_calibration.md) -/
def OBS_ORIGIN_WORD : Fld := { addr := 0x0B0020, lo := 0, width := 32, acc := .rw, lock := true, txn := true, image := true }
/-! OBS_PARAM_n (09_vessel_observer_and_calibration.md) -/
def OBS_PARAM_VALUE : Fld := { addr := 0x0B0100, lo := 0, width := 32, acc := .rw, lock := true, txn := true, image := true, special := true }
/-! OBS_WSEL (09_vessel_observer_and_calibration.md) -/
def OBS_WSEL_INDEX : Fld := { addr := 0x0B8000, lo := 0, width := 6, acc := .rw }
/-! OBS_CH_ARM_XY (09_vessel_observer_and_calibration.md) -/
def OBS_CH_ARM_XY_ARM_X : Fld := { addr := 0x0B9000, lo := 0, width := 16, acc := .rw, lock := true, txn := true, image := true }
def OBS_CH_ARM_XY_ARM_Y : Fld := { addr := 0x0B9000, lo := 16, width := 16, acc := .rw, lock := true, txn := true, image := true }
/-! OBS_CH_ARM_Z (09_vessel_observer_and_calibration.md) -/
def OBS_CH_ARM_Z_ARM_Z : Fld := { addr := 0x0B9004, lo := 0, width := 16, acc := .rw, lock := true, txn := true, image := true }
def OBS_CH_ARM_Z_HDG_OFS : Fld := { addr := 0x0B9004, lo := 16, width := 16, acc := .rw, lock := true, txn := true, image := true }
/-! OBS_CH_REF (09_vessel_observer_and_calibration.md) -/
def OBS_CH_REF_REFINE : Fld := { addr := 0x0B9008, lo := 0, width := 1, acc := .rw, lock := true, txn := true, image := true }
def OBS_CH_REF_INDEP_ID : Fld := { addr := 0x0B9008, lo := 1, width := 7, acc := .rw, lock := true, txn := true, image := true }
/-! OBS_CH_DATUM_N (09_vessel_observer_and_calibration.md) -/
def OBS_CH_DATUM_N_DATUM_N : Fld := { addr := 0x0B900C, lo := 0, width := 32, acc := .rw, lock := true, txn := true, image := true }
/-! OBS_CH_DATUM_E (09_vessel_observer_and_calibration.md) -/
def OBS_CH_DATUM_E_DATUM_E : Fld := { addr := 0x0B9010, lo := 0, width := 32, acc := .rw, lock := true, txn := true, image := true }
/-! OBS_CH_CAL0 (09_vessel_observer_and_calibration.md) -/
def OBS_CH_CAL0_CAL_X : Fld := { addr := 0x0B9014, lo := 0, width := 16 }
def OBS_CH_CAL0_CAL_Y : Fld := { addr := 0x0B9014, lo := 16, width := 16 }
/-! OBS_CH_CAL1 (09_vessel_observer_and_calibration.md) -/
def OBS_CH_CAL1_CAL_Z : Fld := { addr := 0x0B9018, lo := 0, width := 16 }
def OBS_CH_CAL1_CAL_HDG : Fld := { addr := 0x0B9018, lo := 16, width := 16 }
/-! OBS_CH_CMD (09_vessel_observer_and_calibration.md) -/
def OBS_CH_CMD_CAL_RESET : Fld := { addr := 0x0B901C, lo := 0, width := 1, acc := .wo }
def OBS_CH_CMD_DATUM_SET : Fld := { addr := 0x0B901C, lo := 1, width := 1, acc := .wo }
/-! LOOP_CTL (10_loop_engine.md) -/
def LOOP_CTL_DP_EN : Fld := { addr := 0x0C0000, lo := 0, width := 1, acc := .rw, lock := true, txn := true, image := true }
/-! LOOP_STAT (10_loop_engine.md) -/
def LOOP_STAT_DUE_MAX : Fld := { addr := 0x0C0004, lo := 0, width := 10 }
def LOOP_STAT_ENABLED : Fld := { addr := 0x0C0004, lo := 10, width := 10 }
def LOOP_STAT_CLOSED_ANY : Fld := { addr := 0x0C0004, lo := 20, width := 1 }
/-! LOOP_WSEL (10_loop_engine.md) -/
def LOOP_WSEL_INDEX : Fld := { addr := 0x0C8000, lo := 0, width := 9, acc := .rw }
/-! LOOP_CFG (10_loop_engine.md) -/
def LOOP_CFG_ENABLE : Fld := { addr := 0x0C9000, lo := 0, width := 1, acc := .rw, lock := true, txn := true, image := true }
def LOOP_CFG_M : Fld := { addr := 0x0C9000, lo := 1, width := 10, reset := 1, acc := .rw, lock := true, txn := true, image := true, vmin := 1, vmax := 1000 }
def LOOP_CFG_PHASE : Fld := { addr := 0x0C9000, lo := 11, width := 10, acc := .rw, lock := true, txn := true, image := true }
def LOOP_CFG_RETAIN_I : Fld := { addr := 0x0C9000, lo := 21, width := 1, acc := .rw, lock := true, txn := true, image := true }
/-! LOOP_ADDR_n (10_loop_engine.md) -/
def LOOP_ADDR_ADDR : Fld := { addr := 0x0C9004, lo := 0, width := 20, acc := .rw, lock := true, txn := true, image := true }
def LOOP_ADDR_USE : Fld := { addr := 0x0C9004, lo := 31, width := 1, acc := .rw, lock := true, txn := true, image := true }
/-! LOOP_COEF_n (10_loop_engine.md) -/
def LOOP_COEF_VALUE : Fld := { addr := 0x0C9020, lo := 0, width := 32, acc := .rw, lock := true, txn := true, image := true, special := true }
/-! ALLOC_CFG (11_thrust_allocation_and_consequence.md) -/
def ALLOC_CFG_ENABLE : Fld := { addr := 0x0D0000, lo := 0, width := 1, acc := .rw, lock := true, txn := true, image := true }
def ALLOC_CFG_SLACK_TOL : Fld := { addr := 0x0D0000, lo := 1, width := 10, reset := 50, acc := .rw, lock := true, txn := true, image := true, vmin := 1, vmax := 1000 }
/-! ALLOC_STAT (11_thrust_allocation_and_consequence.md) -/
def ALLOC_STAT_GOVERNING : Fld := { addr := 0x0D0004, lo := 0, width := 8 }
def ALLOC_STAT_CONSEQUENCE : Fld := { addr := 0x0D0004, lo := 8, width := 1 }
def ALLOC_STAT_DEFICIT : Fld := { addr := 0x0D0004, lo := 9, width := 1 }
def ALLOC_STAT_UNCOVERED : Fld := { addr := 0x0D0004, lo := 10, width := 1, acc := .w1c }
def ALLOC_STAT_FALLBACK : Fld := { addr := 0x0D0004, lo := 11, width := 1, acc := .w1c }
def ALLOC_STAT_SWITCHED : Fld := { addr := 0x0D0004, lo := 12, width := 1, acc := .w1c }
def ALLOC_STAT_ARMED : Fld := { addr := 0x0D0004, lo := 13, width := 9 }
/-! ALLOC_FAILED_THR (11_thrust_allocation_and_consequence.md) -/
def ALLOC_FAILED_THR_THR : Fld := { addr := 0x0D0008, lo := 0, width := 32 }
/-! ALLOC_FAILED_PWR (11_thrust_allocation_and_consequence.md) -/
def ALLOC_FAILED_PWR_BUS : Fld := { addr := 0x0D000C, lo := 0, width := 8 }
def ALLOC_FAILED_PWR_GEN : Fld := { addr := 0x0D000C, lo := 8, width := 16 }
/-! ALLOC_COEF_n (11_thrust_allocation_and_consequence.md) -/
def ALLOC_COEF_VALUE : Fld := { addr := 0x0D0010, lo := 0, width := 32, acc := .rw, lock := true, txn := true, image := true, special := true }
/-! ALLOC_WSEL (11_thrust_allocation_and_consequence.md) -/
def ALLOC_WSEL_INDEX : Fld := { addr := 0x0D8000, lo := 0, width := 8, acc := .rw }
/-! ALLOC_THR_CFG (11_thrust_allocation_and_consequence.md) -/
def ALLOC_THR_CFG_KIND : Fld := { addr := 0x0D9000, lo := 0, width := 2, acc := .rw, lock := true, txn := true, image := true, vmax := 2 }
def ALLOC_THR_CFG_BUS : Fld := { addr := 0x0D9000, lo := 2, width := 3, acc := .rw, lock := true, txn := true, image := true }
def ALLOC_THR_CFG_STATION : Fld := { addr := 0x0D9000, lo := 5, width := 10, acc := .rw, lock := true, txn := true, image := true }
def ALLOC_THR_CFG_STN_USE : Fld := { addr := 0x0D9000, lo := 15, width := 1, acc := .rw, lock := true, txn := true, image := true }
def ALLOC_THR_CFG_DIR : Fld := { addr := 0x0D9000, lo := 16, width := 9, acc := .rw, lock := true, txn := true, image := true, vmax := 359 }
def ALLOC_THR_CFG_NVERT : Fld := { addr := 0x0D9000, lo := 25, width := 4, acc := .rw, lock := true, txn := true, image := true, vmax := 8 }
/-! ALLOC_THR_POS (11_thrust_allocation_and_consequence.md) -/
def ALLOC_THR_POS_X : Fld := { addr := 0x0D9004, lo := 0, width := 16, acc := .rw, lock := true, txn := true, image := true }
def ALLOC_THR_POS_Y : Fld := { addr := 0x0D9004, lo := 16, width := 16, acc := .rw, lock := true, txn := true, image := true }
/-! ALLOC_THR_LIM (11_thrust_allocation_and_consequence.md) -/
def ALLOC_THR_LIM_TMAX : Fld := { addr := 0x0D9008, lo := 0, width := 16, reset := 1000, acc := .rw, lock := true, txn := true, image := true, vmin := 1, vmax := 65535 }
def ALLOC_THR_LIM_T_NEG : Fld := { addr := 0x0D9008, lo := 16, width := 16, acc := .rw, lock := true, txn := true, image := true }
/-! ALLOC_THR_RATE (11_thrust_allocation_and_consequence.md) -/
def ALLOC_THR_RATE_TRATE : Fld := { addr := 0x0D900C, lo := 0, width := 16, reset := 100, acc := .rw, lock := true, txn := true, image := true, vmin := 1, vmax := 65535 }
def ALLOC_THR_RATE_AZ_RATE : Fld := { addr := 0x0D900C, lo := 16, width := 12, reset := 100, acc := .rw, lock := true, txn := true, image := true, vmin := 1, vmax := 600 }
def ALLOC_THR_RATE_W : Fld := { addr := 0x0D900C, lo := 28, width := 4, reset := 4, acc := .rw, lock := true, txn := true, image := true, vmin := 1, vmax := 15 }
/-! ALLOC_THR_PWR (11_thrust_allocation_and_consequence.md) -/
def ALLOC_THR_PWR_PMAX : Fld := { addr := 0x0D9010, lo := 0, width := 16, reset := 1000, acc := .rw, lock := true, txn := true, image := true, vmin := 1, vmax := 65535 }
def ALLOC_THR_PWR_PIDLE : Fld := { addr := 0x0D9010, lo := 16, width := 16, acc := .rw, lock := true, txn := true, image := true }
/-! ALLOC_THR_SECT_s (11_thrust_allocation_and_consequence.md) -/
def ALLOC_THR_SECT_START : Fld := { addr := 0x0D9014, lo := 0, width := 9, acc := .rw, lock := true, txn := true, image := true, vmax := 359 }
def ALLOC_THR_SECT_END : Fld := { addr := 0x0D9014, lo := 9, width := 9, acc := .rw, lock := true, txn := true, image := true, vmax := 359 }
def ALLOC_THR_SECT_USE : Fld := { addr := 0x0D9014, lo := 18, width := 1, acc := .rw, lock := true, txn := true, image := true }
/-! ALLOC_THR_POLY_v (11_thrust_allocation_and_consequence.md) -/
def ALLOC_THR_POLY_FX : Fld := { addr := 0x0D9020, lo := 0, width := 16, acc := .rw, lock := true, txn := true, image := true }
def ALLOC_THR_POLY_FY : Fld := { addr := 0x0D9020, lo := 16, width := 16, acc := .rw, lock := true, txn := true, image := true }
/-! ALLOC_THR_PT_n (11_thrust_allocation_and_consequence.md) -/
def ALLOC_THR_PT_ADDR : Fld := { addr := 0x0D9040, lo := 0, width := 20, acc := .rw, lock := true, txn := true, image := true }
def ALLOC_THR_PT_USE : Fld := { addr := 0x0D9040, lo := 31, width := 1, acc := .rw, lock := true, txn := true, image := true }
/-! ALLOC_BUS_CFG (11_thrust_allocation_and_consequence.md) -/
def ALLOC_BUS_CFG_RESERVE : Fld := { addr := 0x0D9100, lo := 0, width := 16, acc := .rw, lock := true, txn := true, image := true }
def ALLOC_BUS_CFG_ENABLE : Fld := { addr := 0x0D9100, lo := 16, width := 1, acc := .rw, lock := true, txn := true, image := true }
/-! ALLOC_BUS_PT_n (11_thrust_allocation_and_consequence.md) -/
def ALLOC_BUS_PT_ADDR : Fld := { addr := 0x0D9104, lo := 0, width := 20, acc := .rw, lock := true, txn := true, image := true }
def ALLOC_BUS_PT_USE : Fld := { addr := 0x0D9104, lo := 31, width := 1, acc := .rw, lock := true, txn := true, image := true }
/-! ALLOC_GEN_CFG (11_thrust_allocation_and_consequence.md) -/
def ALLOC_GEN_CFG_ADDR : Fld := { addr := 0x0D9180, lo := 0, width := 20, acc := .rw, lock := true, txn := true, image := true }
def ALLOC_GEN_CFG_BUS : Fld := { addr := 0x0D9180, lo := 20, width := 3, acc := .rw, lock := true, txn := true, image := true }
def ALLOC_GEN_CFG_ENABLE : Fld := { addr := 0x0D9180, lo := 31, width := 1, acc := .rw, lock := true, txn := true, image := true }
/-! ALLOC_CTX_CFG (11_thrust_allocation_and_consequence.md) -/
def ALLOC_CTX_CFG_ENABLE : Fld := { addr := 0x0D9200, lo := 0, width := 1, acc := .rw, lock := true, txn := true, image := true }
def ALLOC_CTX_CFG_AUTO_TRIG : Fld := { addr := 0x0D9200, lo := 1, width := 1, acc := .rw, lock := true, txn := true, image := true }
/-! ALLOC_CTX_LOSS_THR (11_thrust_allocation_and_consequence.md) -/
def ALLOC_CTX_LOSS_THR_THR : Fld := { addr := 0x0D9204, lo := 0, width := 32, acc := .rw, lock := true, txn := true, image := true }
/-! ALLOC_CTX_LOSS_PWR (11_thrust_allocation_and_consequence.md) -/
def ALLOC_CTX_LOSS_PWR_BUS : Fld := { addr := 0x0D9208, lo := 0, width := 8, acc := .rw, lock := true, txn := true, image := true }
def ALLOC_CTX_LOSS_PWR_GEN : Fld := { addr := 0x0D9208, lo := 8, width := 16, acc := .rw, lock := true, txn := true, image := true }
/-! ALLOC_CTX_TERM_A_t (11_thrust_allocation_and_consequence.md) -/
def ALLOC_CTX_TERM_A_ADDR : Fld := { addr := 0x0D9220, lo := 0, width := 20, acc := .rw, lock := true, txn := true, image := true }
def ALLOC_CTX_TERM_A_BIT : Fld := { addr := 0x0D9220, lo := 20, width := 5, acc := .rw, lock := true, txn := true, image := true }
def ALLOC_CTX_TERM_A_OP : Fld := { addr := 0x0D9220, lo := 25, width := 3, acc := .rw, lock := true, txn := true, image := true }
def ALLOC_CTX_TERM_A_GROUP : Fld := { addr := 0x0D9220, lo := 28, width := 1, acc := .rw, lock := true, txn := true, image := true }
def ALLOC_CTX_TERM_A_USE : Fld := { addr := 0x0D9220, lo := 31, width := 1, acc := .rw, lock := true, txn := true, image := true }
/-! ALLOC_CTX_TERM_B_t (11_thrust_allocation_and_consequence.md) -/
def ALLOC_CTX_TERM_B_THRESH : Fld := { addr := 0x0D9224, lo := 0, width := 32, acc := .rw, lock := true, txn := true, image := true }
/-! ALLOC_CTX_THR_n (11_thrust_allocation_and_consequence.md) -/
def ALLOC_CTX_THR_VALUE : Fld := { addr := 0x0D9400, lo := 0, width := 32 }
/-! ALLOC_CTX_BUS_b (11_thrust_allocation_and_consequence.md) -/
def ALLOC_CTX_BUS_USED : Fld := { addr := 0x0D9500, lo := 0, width := 32 }
/-! SOLV_CFG (12_solver_engine.md) -/
def SOLV_CFG_SOLVE_RESERVE : Fld := { addr := 0x0E0000, lo := 0, width := 10, reset := 200, acc := .rw, lock := true, txn := true, image := true, vmin := 100, vmax := 1000 }
def SOLV_CFG_PIVOT_LIMIT : Fld := { addr := 0x0E0000, lo := 10, width := 5, reset := 4, acc := .rw, lock := true, txn := true, image := true, vmin := 1, vmax := 31 }
def SOLV_CFG_WIDE_HOLD : Fld := { addr := 0x0E0000, lo := 15, width := 10, reset := 100, acc := .rw, lock := true, txn := true, image := true, vmin := 1, vmax := 1000 }
def SOLV_CFG_PIVOT_EXP : Fld := { addr := 0x0E0000, lo := 25, width := 7, reset := 40, acc := .rw, lock := true, txn := true, image := true, vmin := 20, vmax := 60 }
/-! SOLV_STAT (12_solver_engine.md) -/
def SOLV_STAT_DIE_OK : Fld := { addr := 0x0E0004, lo := 0, width := 4 }
def SOLV_STAT_CTX0_DIE : Fld := { addr := 0x0E0004, lo := 4, width := 2 }
def SOLV_STAT_POSTED : Fld := { addr := 0x0E0004, lo := 6, width := 9 }
def SOLV_STAT_RETURNED : Fld := { addr := 0x0E0004, lo := 15, width := 9 }
/-! SOLV_EVT_CNT (12_solver_engine.md) -/
def SOLV_EVT_CNT_DEADLINE_CNT : Fld := { addr := 0x0E0008, lo := 0, width := 16 }
def SOLV_EVT_CNT_BREACH_CNT : Fld := { addr := 0x0E0008, lo := 16, width := 16 }
/-! SOLV_FLOOR_CNT (12_solver_engine.md) -/
def SOLV_FLOOR_CNT_COUNT : Fld := { addr := 0x0E000C, lo := 0, width := 32 }
/-! SOLV_HATCH_CMD (12_solver_engine.md) -/
def SOLV_HATCH_CMD_OP : Fld := { addr := 0x0E0020, lo := 0, width := 3, acc := .wo }
def SOLV_HATCH_CMD_ENTRY : Fld := { addr := 0x0E0020, lo := 3, width := 5, acc := .wo }
/-! SOLV_HATCH_STAT (12_solver_engine.md) -/
def SOLV_HATCH_STAT_STATE : Fld := { addr := 0x0E0024, lo := 0, width := 3 }
def SOLV_HATCH_STAT_ENTRY : Fld := { addr := 0x0E0024, lo := 3, width := 5 }
def SOLV_HATCH_STAT_RESULT : Fld := { addr := 0x0E0024, lo := 8, width := 8 }
def SOLV_HATCH_STAT_BUSY : Fld := { addr := 0x0E0024, lo := 16, width := 1 }
/-! SOLV_WSEL (12_solver_engine.md) -/
def SOLV_WSEL_INDEX : Fld := { addr := 0x0E8000, lo := 0, width := 8, acc := .rw }
/-! SOLV_SLOT_CFG (12_solver_engine.md) -/
def SOLV_SLOT_CFG_USER_EN : Fld := { addr := 0x0E9000, lo := 0, width := 1, acc := .rw, lock := true, txn := true, image := true }
def SOLV_SLOT_CFG_ENTRY : Fld := { addr := 0x0E9000, lo := 1, width := 5, acc := .rw, lock := true, txn := true, image := true }
def SOLV_SLOT_CFG_OWNER : Fld := { addr := 0x0E9000, lo := 6, width := 2 }
def SOLV_SLOT_CFG_WIDE : Fld := { addr := 0x0E9000, lo := 8, width := 1 }
/-! RED_CFG (13_redundancy_and_claims.md) -/
def RED_CFG_MODE : Fld := { addr := 0x0F0000, lo := 0, width := 2, acc := .rw, lock := true, txn := true, voted := true, image := true, vmax := 2 }
def RED_CFG_COMPAT_RINGS : Fld := { addr := 0x0F0000, lo := 8, width := 8, acc := .rw, lock := true, txn := true, voted := true, image := true }
def RED_CFG_UNIT : Fld := { addr := 0x0F0000, lo := 16, width := 4 }
/-! RED_CLAIM_CFG (13_redundancy_and_claims.md) -/
def RED_CLAIM_CFG_RELEASE_HEALTH : Fld := { addr := 0x0F0004, lo := 0, width := 4, reset := 8, acc := .rw, lock := true, txn := true, voted := true, image := true, vmin := 1, vmax := 15 }
def RED_CLAIM_CFG_CLAIM_WIN : Fld := { addr := 0x0F0004, lo := 4, width := 4, reset := 3, acc := .rw, lock := true, txn := true, voted := true, image := true, vmin := 1, vmax := 15 }
def RED_CLAIM_CFG_HB_RING : Fld := { addr := 0x0F0004, lo := 8, width := 3, acc := .rw, lock := true, txn := true, voted := true, image := true }
def RED_CLAIM_CFG_ADMIT_LIMIT : Fld := { addr := 0x0F0004, lo := 11, width := 4, reset := 3, acc := .rw, lock := true, txn := true, image := true, vmin := 1, vmax := 15 }
/-! RED_CMD (13_redundancy_and_claims.md) -/
def RED_CMD_RELEASE : Fld := { addr := 0x0F0010, lo := 0, width := 1, acc := .wo }
def RED_CMD_JOIN : Fld := { addr := 0x0F0010, lo := 1, width := 1, acc := .wo }
def RED_CMD_PROOF_TEST : Fld := { addr := 0x0F0010, lo := 2, width := 1, acc := .wo }
def RED_CMD_ISOLATE : Fld := { addr := 0x0F0010, lo := 3, width := 1, acc := .wo }
/-! RED_STAT (13_redundancy_and_claims.md) -/
def RED_STAT_ROLE : Fld := { addr := 0x0F0014, lo := 0, width := 2, reset := 1, voted := true }
def RED_STAT_SYNC_STATE : Fld := { addr := 0x0F0014, lo := 2, width := 3 }
def RED_STAT_HEALTH : Fld := { addr := 0x0F0014, lo := 5, width := 4, reset := 15 }
def RED_STAT_EPOCH : Fld := { addr := 0x0F0014, lo := 9, width := 7, voted := true }
def RED_STAT_RELEASE_BLOCKED : Fld := { addr := 0x0F0014, lo := 16, width := 1 }
def RED_STAT_PLATE_DIFF : Fld := { addr := 0x0F0014, lo := 17, width := 1 }
def RED_STAT_PROOF_MISS : Fld := { addr := 0x0F0014, lo := 18, width := 1, acc := .w1c }
def RED_STAT_UNIT_BAD : Fld := { addr := 0x0F0014, lo := 19, width := 1 }
/-! RED_PROOF_LIM (13_redundancy_and_claims.md) -/
def RED_PROOF_LIM_PROOF_LIMIT : Fld := { addr := 0x0F0018, lo := 0, width := 21 }
/-! RED_PROOF_PEAK (13_redundancy_and_claims.md) -/
def RED_PROOF_PEAK_PEAK : Fld := { addr := 0x0F001C, lo := 0, width := 21 }
/-! SPAN_CFG (14_span_topologies.md) -/
def SPAN_CFG_STRAPS : Fld := { addr := 0x100000, lo := 0, width := 2 }
def SPAN_CFG_TOPO : Fld := { addr := 0x100000, lo := 2, width := 2, acc := .rw, lock := true, txn := true, voted := true, image := true }
def SPAN_CFG_ADDRESS : Fld := { addr := 0x100000, lo := 4, width := 6, acc := .rw, lock := true, txn := true, voted := true, image := true }
/-! SPAN_STAT (14_span_topologies.md) -/
def SPAN_STAT_LANE_UP : Fld := { addr := 0x100004, lo := 0, width := 4 }
def SPAN_STAT_CFG_BAD : Fld := { addr := 0x100004, lo := 4, width := 1 }
def SPAN_STAT_UP_LOST : Fld := { addr := 0x100004, lo := 5, width := 1 }
def SPAN_STAT_SPAN_BAD_CNT : Fld := { addr := 0x100004, lo := 16, width := 16 }
/-! SPAN_LOCAL (14_span_topologies.md) -/
def SPAN_LOCAL_LOCAL_IN_BASE : Fld := { addr := 0x100008, lo := 0, width := 13, acc := .rw, lock := true, txn := true, image := true }
def SPAN_LOCAL_LOCAL_OUT_BASE : Fld := { addr := 0x100008, lo := 13, width := 13, acc := .rw, lock := true, txn := true, image := true }
/-! SPAN_WSEL (14_span_topologies.md) -/
def SPAN_WSEL_INDEX : Fld := { addr := 0x108000, lo := 0, width := 6, acc := .rw }
/-! SPAN_NODE_IN (14_span_topologies.md) -/
def SPAN_NODE_IN_IN_BASE : Fld := { addr := 0x109000, lo := 0, width := 20, acc := .rw, lock := true, txn := true, image := true }
def SPAN_NODE_IN_IN_COUNT : Fld := { addr := 0x109000, lo := 20, width := 10, acc := .rw, lock := true, txn := true, image := true, vmax := 768 }
def SPAN_NODE_IN_ENABLE : Fld := { addr := 0x109000, lo := 31, width := 1, acc := .rw, lock := true, txn := true, image := true }
/-! SPAN_NODE_OUT (14_span_topologies.md) -/
def SPAN_NODE_OUT_OUT_BASE : Fld := { addr := 0x109004, lo := 0, width := 20, acc := .rw, lock := true, txn := true, image := true }
def SPAN_NODE_OUT_OUT_COUNT : Fld := { addr := 0x109004, lo := 20, width := 10, acc := .rw, lock := true, txn := true, image := true, vmax := 768 }
/-! SAFE_TRIP_CFG_n (15_safety_functions.md) -/
def SAFE_TRIP_CFG_GROUP_MASK : Fld := { addr := 0x110000, lo := 0, width := 8, acc := .rw, lock := true, txn := true, voted := true, image := true }
def SAFE_TRIP_CFG_FILTER : Fld := { addr := 0x110000, lo := 8, width := 15, reset := 5, acc := .rw, lock := true, txn := true, voted := true, image := true, vmin := 5, vmax := 20000 }
def SAFE_TRIP_CFG_ENABLE : Fld := { addr := 0x110000, lo := 31, width := 1, acc := .rw, lock := true, txn := true, voted := true, image := true }
/-! SAFE_CMD (15_safety_functions.md) -/
def SAFE_CMD_TRIP_RESET : Fld := { addr := 0x110020, lo := 0, width := 1, acc := .wo }
def SAFE_CMD_DISC_RESET : Fld := { addr := 0x110020, lo := 1, width := 1, acc := .wo }
/-! SAFE_STAT (15_safety_functions.md) -/
def SAFE_STAT_TRIPPED : Fld := { addr := 0x110024, lo := 0, width := 8 }
def SAFE_STAT_TRIP_LEVEL : Fld := { addr := 0x110024, lo := 8, width := 8 }
def SAFE_STAT_RUNAWAY : Fld := { addr := 0x110024, lo := 16, width := 1 }
def SAFE_STAT_DISC : Fld := { addr := 0x110024, lo := 17, width := 1 }
def SAFE_STAT_TRIP_FAULT : Fld := { addr := 0x110024, lo := 18, width := 1 }
/-! SAFE_STIPPLE_CFG (15_safety_functions.md) -/
def SAFE_STIPPLE_CFG_PULSE : Fld := { addr := 0x110028, lo := 0, width := 9, reset := 150, acc := .rw, lock := true, txn := true, voted := true, image := true, vmin := 100, vmax := 400 }
def SAFE_STIPPLE_CFG_PERIOD : Fld := { addr := 0x110028, lo := 9, width := 10, reset := 200, acc := .rw, lock := true, txn := true, voted := true, image := true, vmin := 50, vmax := 1000 }
def SAFE_STIPPLE_CFG_FB_SETTLE : Fld := { addr := 0x110028, lo := 19, width := 9, reset := 100, acc := .rw, lock := true, txn := true, voted := true, image := true, vmin := 10, vmax := 400 }
/-! SAFE_WSEL (15_safety_functions.md) -/
def SAFE_WSEL_INDEX : Fld := { addr := 0x118000, lo := 0, width := 5, acc := .rw }
/-! SAFE_OUT_CFG (15_safety_functions.md) -/
def SAFE_OUT_CFG_GROUP : Fld := { addr := 0x119000, lo := 0, width := 3, acc := .rw, lock := true, txn := true, voted := true, image := true }
def SAFE_OUT_CFG_GATE : Fld := { addr := 0x119000, lo := 3, width := 1, reset := 1, acc := .rw, lock := true, txn := true, voted := true, image := true }
def SAFE_OUT_CFG_CTRL_REL : Fld := { addr := 0x119000, lo := 4, width := 1, reset := 1, acc := .rw, lock := true, txn := true, voted := true, image := true }
def SAFE_OUT_CFG_STIPPLE_EN : Fld := { addr := 0x119000, lo := 5, width := 1, reset := 1, acc := .rw, lock := true, txn := true, voted := true, image := true }
def SAFE_OUT_CFG_USE : Fld := { addr := 0x119000, lo := 6, width := 1, acc := .rw, lock := true, txn := true, voted := true, image := true }
/-! SAFE_RUN_CFG (15_safety_functions.md) -/
def SAFE_RUN_CFG_TIME : Fld := { addr := 0x119004, lo := 0, width := 10, reset := 10, acc := .rw, lock := true, txn := true, voted := true, image := true, vmin := 1, vmax := 1000 }
def SAFE_RUN_CFG_GROUP_MASK : Fld := { addr := 0x119004, lo := 10, width := 8, acc := .rw, lock := true, txn := true, voted := true, image := true }
def SAFE_RUN_CFG_QUAL_TRIP : Fld := { addr := 0x119004, lo := 18, width := 1, reset := 1, acc := .rw, lock := true, txn := true, voted := true, image := true }
def SAFE_RUN_CFG_ANGLE : Fld := { addr := 0x119004, lo := 19, width := 1, acc := .rw, lock := true, txn := true, voted := true, image := true }
def SAFE_RUN_CFG_ENABLE : Fld := { addr := 0x119004, lo := 20, width := 1, acc := .rw, lock := true, txn := true, voted := true, image := true }
/-! SAFE_RUN_CMD_PT (15_safety_functions.md) -/
def SAFE_RUN_CMD_PT_ADDR : Fld := { addr := 0x119008, lo := 0, width := 20, acc := .rw, lock := true, txn := true, voted := true, image := true }
/-! SAFE_RUN_FB_PT (15_safety_functions.md) -/
def SAFE_RUN_FB_PT_ADDR : Fld := { addr := 0x11900C, lo := 0, width := 20, acc := .rw, lock := true, txn := true, voted := true, image := true }
/-! SAFE_RUN_TOL (15_safety_functions.md) -/
def SAFE_RUN_TOL_TOL : Fld := { addr := 0x119010, lo := 0, width := 32, reset := 1065353216, acc := .rw, lock := true, txn := true, voted := true, image := true }
/-! RST_CAUSE (16_reset_startup_and_survival.md) -/
def RST_CAUSE_CAUSE : Fld := { addr := 0x030000, lo := 0, width := 3 }
def RST_CAUSE_ALSO : Fld := { addr := 0x030000, lo := 3, width := 5 }
def RST_CAUSE_WAKE_SLEEP : Fld := { addr := 0x030000, lo := 8, width := 1 }
def RST_CAUSE_WAKE_BACKUP : Fld := { addr := 0x030000, lo := 9, width := 1 }
def RST_CAUSE_FATAL_REASON : Fld := { addr := 0x030000, lo := 16, width := 4 }
def RST_CAUSE_FATAL_RUN : Fld := { addr := 0x030000, lo := 20, width := 4 }
/-! RST_BOOT (16_reset_startup_and_survival.md) -/
def RST_BOOT_STAGE : Fld := { addr := 0x030004, lo := 0, width := 3 }
def RST_BOOT_BOOT_SEL : Fld := { addr := 0x030004, lo := 4, width := 2 }
def RST_BOOT_FATAL_HOLD : Fld := { addr := 0x030004, lo := 6, width := 1 }
def RST_BOOT_PLATE_BAD : Fld := { addr := 0x030004, lo := 7, width := 1 }
def RST_BOOT_NO_START : Fld := { addr := 0x030004, lo := 8, width := 1 }
def RST_BOOT_BOOT_MS : Fld := { addr := 0x030004, lo := 16, width := 16 }
/-! RST_CFG (16_reset_startup_and_survival.md) -/
def RST_CFG_AUTO_RUN : Fld := { addr := 0x030008, lo := 0, width := 1, reset := 1, acc := .rw, lock := true, image := true }
def RST_CFG_FATAL_LIMIT : Fld := { addr := 0x030008, lo := 1, width := 4, reset := 3, acc := .rw, lock := true, image := true, vmin := 2, vmax := 15 }
def RST_CFG_FATAL_WIN : Fld := { addr := 0x030008, lo := 5, width := 12, reset := 600, acc := .rw, lock := true, image := true, vmin := 10, vmax := 3600 }
/-! RST_CMD (16_reset_startup_and_survival.md) -/
def RST_CMD_CLR_HOLD : Fld := { addr := 0x030010, lo := 0, width := 1, acc := .wo }
/-! PWR_CMD (17_power_dips_and_keeper.md) -/
def PWR_CMD_OP : Fld := { addr := 0x010000, lo := 0, width := 2, acc := .wo }
/-! PWR_STAT (17_power_dips_and_keeper.md) -/
def PWR_STAT_PARKED : Fld := { addr := 0x010004, lo := 0, width := 1, reset := 1 }
def PWR_STAT_DIP : Fld := { addr := 0x010004, lo := 1, width := 1 }
def PWR_STAT_UV_SUSTAINED : Fld := { addr := 0x010004, lo := 2, width := 1 }
def PWR_STAT_DEFER : Fld := { addr := 0x010004, lo := 3, width := 1 }
def PWR_STAT_VIO_A_LOW : Fld := { addr := 0x010004, lo := 4, width := 1 }
def PWR_STAT_VIO_B_LOW : Fld := { addr := 0x010004, lo := 5, width := 1 }
/-! PWR_VIN_CFG (17_power_dips_and_keeper.md) -/
def PWR_VIN_CFG_VIN_WARN : Fld := { addr := 0x010008, lo := 0, width := 11, reset := 1020, acc := .rw, lock := true, txn := true, image := true, vmin := 850, vmax := 1150 }
def PWR_VIN_CFG_VIN_RST : Fld := { addr := 0x010008, lo := 11, width := 11, reset := 800, acc := .rw, lock := true, txn := true, image := true, vmin := 750, vmax := 900 }
def PWR_VIN_CFG_DIP_MAX : Fld := { addr := 0x010008, lo := 22, width := 10, reset := 20, acc := .rw, lock := true, txn := true, image := true, vmin := 1, vmax := 1000 }
/-! PWR_VIN_STAT (17_power_dips_and_keeper.md) -/
def PWR_VIN_STAT_VIN_MV : Fld := { addr := 0x01000C, lo := 0, width := 16, reset := 12000 }
def PWR_VIN_STAT_VIN_MIN_MV : Fld := { addr := 0x01000C, lo := 16, width := 16, reset := 12000 }
/-! PWR_DIP_LAST (17_power_dips_and_keeper.md) -/
def PWR_DIP_LAST_DEPTH : Fld := { addr := 0x010010, lo := 0, width := 12 }
def PWR_DIP_LAST_DURATION : Fld := { addr := 0x010010, lo := 12, width := 20 }
/-! KEEP_TICK_LO (17_power_dips_and_keeper.md) -/
def KEEP_TICK_LO_TICK_LO : Fld := { addr := 0x020000, lo := 0, width := 32, stale := true }
/-! KEEP_TICK_HI (17_power_dips_and_keeper.md) -/
def KEEP_TICK_HI_TICK_HI : Fld := { addr := 0x020004, lo := 0, width := 16, stale := true }
/-! KEEP_CAL_BASE_LO (17_power_dips_and_keeper.md) -/
def KEEP_CAL_BASE_LO_BASE_LO : Fld := { addr := 0x020008, lo := 0, width := 32, stale := true }
/-! KEEP_CAL_BASE_HI (17_power_dips_and_keeper.md) -/
def KEEP_CAL_BASE_HI_BASE_HI : Fld := { addr := 0x02000C, lo := 0, width := 32, stale := true }
/-! KEEP_STAT (17_power_dips_and_keeper.md) -/
def KEEP_STAT_CAL_VALID : Fld := { addr := 0x020010, lo := 0, width := 1, stale := true }
def KEEP_STAT_VBAT_LOW : Fld := { addr := 0x020010, lo := 1, width := 1, acc := .w1c, stale := true }
def KEEP_STAT_CASE_OPEN : Fld := { addr := 0x020010, lo := 2, width := 1, acc := .w1c, stale := true }
def KEEP_STAT_WAKE_N : Fld := { addr := 0x020010, lo := 3, width := 1, reset := 1, stale := true }
def KEEP_STAT_ON_VIN : Fld := { addr := 0x020010, lo := 4, width := 1, reset := 1, stale := true }
/-! KEEP_CASE_TICK (17_power_dips_and_keeper.md) -/
def KEEP_CASE_TICK_TICK : Fld := { addr := 0x020014, lo := 0, width := 32, stale := true }
/-! KEEP_WAKE_CFG (17_power_dips_and_keeper.md) -/
def KEEP_WAKE_CFG_WAKE_N_EN : Fld := { addr := 0x020018, lo := 0, width := 1, acc := .rw, stale := true, image := true }
def KEEP_WAKE_CFG_CASE_WAKE_EN : Fld := { addr := 0x020018, lo := 1, width := 1, acc := .rw, stale := true, image := true }
/-! KEEP_WPEND (17_power_dips_and_keeper.md) -/
def KEEP_WPEND_WAKE_CFG : Fld := { addr := 0x02001C, lo := 0, width := 1 }
def KEEP_WPEND_STAT : Fld := { addr := 0x02001C, lo := 1, width := 1 }
/-! KEEP_LIFE_n (17_power_dips_and_keeper.md) -/
def KEEP_LIFE_COUNT : Fld := { addr := 0x020020, lo := 0, width := 32, stale := true }
/-! REC_CTL (18_recorder_and_lifetime.md) -/
def REC_CTL_FREEZE : Fld := { addr := 0x120000, lo := 0, width := 1, acc := .rw }
def REC_CTL_RATE : Fld := { addr := 0x120000, lo := 1, width := 7, reset := 10, acc := .rw, lock := true, txn := true, image := true, vmin := 1, vmax := 100 }
def REC_CTL_BURST : Fld := { addr := 0x120000, lo := 8, width := 8, reset := 20, acc := .rw, lock := true, txn := true, image := true, vmin := 1, vmax := 255 }
def REC_CTL_INTERVAL : Fld := { addr := 0x120000, lo := 16, width := 8, reset := 24, acc := .rw, lock := true, txn := true, image := true, vmin := 1, vmax := 168 }
/-! REC_STAT (18_recorder_and_lifetime.md) -/
def REC_STAT_FROZEN : Fld := { addr := 0x120004, lo := 0, width := 1 }
def REC_STAT_THAW_AUTO : Fld := { addr := 0x120004, lo := 1, width := 1, acc := .w1c }
def REC_STAT_PENDING : Fld := { addr := 0x120004, lo := 2, width := 13 }
def REC_STAT_USED_K : Fld := { addr := 0x120004, lo := 16, width := 16 }
/-! REC_LOSS (18_recorder_and_lifetime.md) -/
def REC_LOSS_DROP_CNT : Fld := { addr := 0x120008, lo := 0, width := 16 }
def REC_LOSS_PEND_DROP : Fld := { addr := 0x120008, lo := 16, width := 16 }
/-! REC_WSEL (18_recorder_and_lifetime.md) -/
def REC_WSEL_SLOT : Fld := { addr := 0x128000, lo := 0, width := 19, acc := .rw }
/-! REC_SLOT_n (18_recorder_and_lifetime.md) -/
def REC_SLOT_WORD : Fld := { addr := 0x129000, lo := 0, width := 32 }
/-! CAP_CFG (18_recorder_and_lifetime.md) -/
def CAP_CFG_CAP_SIZE : Fld := { addr := 0x140000, lo := 0, width := 9, acc := .rw, lock := true, txn := true, image := true, vmax := 256 }
def CAP_CFG_KEY_CYC : Fld := { addr := 0x140000, lo := 9, width := 10, reset := 1000, acc := .rw, lock := true, txn := true, image := true, vmin := 10, vmax := 1000 }
def CAP_CFG_TRIG_SEV : Fld := { addr := 0x140000, lo := 19, width := 3, acc := .rw, lock := true, txn := true, image := true }
def CAP_CFG_POST : Fld := { addr := 0x140000, lo := 22, width := 10, reset := 100, acc := .rw, lock := true, txn := true, image := true, vmax := 1000 }
/-! CAP_CMD (18_recorder_and_lifetime.md) -/
def CAP_CMD_START : Fld := { addr := 0x140004, lo := 0, width := 1, acc := .wo }
def CAP_CMD_STOP : Fld := { addr := 0x140004, lo := 1, width := 1, acc := .wo }
def CAP_CMD_REPLAY : Fld := { addr := 0x140004, lo := 2, width := 1, acc := .wo }
def CAP_CMD_REPLAY_END : Fld := { addr := 0x140004, lo := 3, width := 1, acc := .wo }
def CAP_CMD_REPLAY_FREE : Fld := { addr := 0x140004, lo := 4, width := 1, acc := .wo }
/-! CAP_STAT (18_recorder_and_lifetime.md) -/
def CAP_STAT_STATE : Fld := { addr := 0x140008, lo := 0, width := 3 }
def CAP_STAT_TRIGGERED : Fld := { addr := 0x140008, lo := 3, width := 1 }
def CAP_STAT_LOST : Fld := { addr := 0x140008, lo := 16, width := 16 }
/-! CAP_OLDEST (18_recorder_and_lifetime.md) -/
def CAP_OLDEST_OFFSET : Fld := { addr := 0x14000C, lo := 0, width := 32 }
/-! CAP_NEWEST (18_recorder_and_lifetime.md) -/
def CAP_NEWEST_OFFSET : Fld := { addr := 0x140010, lo := 0, width := 32 }
/-! CAP_REPLAY_DIFF (18_recorder_and_lifetime.md) -/
def CAP_REPLAY_DIFF_COUNT : Fld := { addr := 0x140014, lo := 0, width := 32 }
/-! CAP_WSEL (18_recorder_and_lifetime.md) -/
def CAP_WSEL_SEGMENT : Fld := { addr := 0x148000, lo := 0, width := 8, acc := .rw }
/-! SEC_STAT (19_security_and_fuses.md) -/
def SEC_STAT_SLOT_VALID : Fld := { addr := 0x130000, lo := 0, width := 4 }
def SEC_STAT_SLOT_REVOKED : Fld := { addr := 0x130000, lo := 4, width := 4 }
def SEC_STAT_SLOT_SPOILED : Fld := { addr := 0x130000, lo := 8, width := 4 }
def SEC_STAT_ROLLBACK : Fld := { addr := 0x130000, lo := 12, width := 7 }
def SEC_STAT_DBG_OFF : Fld := { addr := 0x130000, lo := 19, width := 1 }
def SEC_STAT_MFG_OFF : Fld := { addr := 0x130000, lo := 20, width := 1 }
def SEC_STAT_RNG_FAIL : Fld := { addr := 0x130000, lo := 21, width := 1 }
def SEC_STAT_FUSE_BUSY : Fld := { addr := 0x130000, lo := 22, width := 1 }
def SEC_STAT_FUSE_RESULT : Fld := { addr := 0x130000, lo := 23, width := 8 }
def SEC_STAT_DEBUG_OPEN : Fld := { addr := 0x130000, lo := 31, width := 1 }
/-! SEC_KEY_HASH_n (19_security_and_fuses.md) -/
def SEC_KEY_HASH_WORD : Fld := { addr := 0x130010, lo := 0, width := 32, acc := .rw }
/-! SEC_FUSE_ARM (19_security_and_fuses.md) -/
def SEC_FUSE_ARM_CODE : Fld := { addr := 0x130030, lo := 0, width := 16, acc := .wo }
/-! SEC_FUSE_CMD (19_security_and_fuses.md) -/
def SEC_FUSE_CMD_OP : Fld := { addr := 0x130034, lo := 0, width := 3, acc := .wo, lock := true }
def SEC_FUSE_CMD_SLOT : Fld := { addr := 0x130034, lo := 3, width := 2, acc := .wo, lock := true }
/-! SEC_RNG (19_security_and_fuses.md) -/
def SEC_RNG_BITS : Fld := { addr := 0x130040, lo := 0, width := 32 }
/-! SEC_IMG_CMD (19_security_and_fuses.md) -/
def SEC_IMG_CMD_OP : Fld := { addr := 0x130050, lo := 0, width := 3, acc := .wo, lock := true }
/-! SEC_IMG_STAT (19_security_and_fuses.md) -/
def SEC_IMG_STAT_STATE : Fld := { addr := 0x130054, lo := 0, width := 3 }
def SEC_IMG_STAT_RESULT : Fld := { addr := 0x130054, lo := 3, width := 8 }
def SEC_IMG_STAT_WHY : Fld := { addr := 0x130054, lo := 11, width := 2 }
def SEC_IMG_STAT_SVN : Fld := { addr := 0x130054, lo := 13, width := 7 }
/-! SYS_BOARD_STAT (20_balls_and_board.md) -/
def SYS_BOARD_STAT_REFCLK_BAD : Fld := { addr := 0x000060, lo := 0, width := 1 }
def SYS_BOARD_STAT_REFCLK_LOST : Fld := { addr := 0x000060, lo := 1, width := 1, acc := .w1c }
def SYS_BOARD_STAT_SERDES_CLK_BAD : Fld := { addr := 0x000060, lo := 2, width := 1 }
def SYS_BOARD_STAT_XTAL_STOP : Fld := { addr := 0x000060, lo := 3, width := 1 }
def SYS_BOARD_STAT_BOARD_ID_ABSENT : Fld := { addr := 0x000060, lo := 4, width := 1 }
/-! SYS_BOARD_ID (20_balls_and_board.md) -/
def SYS_BOARD_ID_ID : Fld := { addr := 0x000064, lo := 0, width := 32 }
/-! SYS_DIN_CFG (20_balls_and_board.md) -/
def SYS_DIN_CFG_DIN_BASE : Fld := { addr := 0x000070, lo := 0, width := 20, acc := .rw, lock := true, txn := true, image := true }
def SYS_DIN_CFG_DIN_EN : Fld := { addr := 0x000070, lo := 20, width := 1, acc := .rw, lock := true, txn := true, image := true }
/-! SYS_GPIO_IN (20_balls_and_board.md) -/
def SYS_GPIO_IN_GPIO_IN_PT : Fld := { addr := 0x000074, lo := 0, width := 20, acc := .rw, lock := true, txn := true, image := true }
def SYS_GPIO_IN_GPIO_IN_EN : Fld := { addr := 0x000074, lo := 20, width := 1, acc := .rw, lock := true, txn := true, image := true }
/-! SYS_GPIO_OUT (20_balls_and_board.md) -/
def SYS_GPIO_OUT_GPIO_OUT_PT : Fld := { addr := 0x000078, lo := 0, width := 20, acc := .rw, lock := true, txn := true, image := true }
def SYS_GPIO_OUT_GPIO_OUT_EN : Fld := { addr := 0x000078, lo := 20, width := 1, acc := .rw, lock := true, txn := true, image := true }
def SYS_GPIO_OUT_GPIO_GATE : Fld := { addr := 0x000078, lo := 21, width := 1, reset := 1, acc := .rw, lock := true, txn := true, voted := true, image := true }
/-! SYS_GPIO_DIR (20_balls_and_board.md) -/
def SYS_GPIO_DIR_DIR : Fld := { addr := 0x00007C, lo := 0, width := 32, acc := .rw, lock := true, txn := true, image := true }
/-! SYS_MDIO_CMD (20_balls_and_board.md) -/
def SYS_MDIO_CMD_PHYAD : Fld := { addr := 0x000084, lo := 0, width := 5, acc := .wo }
def SYS_MDIO_CMD_REGAD : Fld := { addr := 0x000084, lo := 5, width := 5, acc := .wo }
def SYS_MDIO_CMD_C45 : Fld := { addr := 0x000084, lo := 10, width := 1, acc := .wo }
def SYS_MDIO_CMD_OP : Fld := { addr := 0x000084, lo := 11, width := 2, acc := .wo }
def SYS_MDIO_CMD_DATA : Fld := { addr := 0x000084, lo := 16, width := 16, acc := .wo }
/-! SYS_MDIO_STAT (20_balls_and_board.md) -/
def SYS_MDIO_STAT_RDATA : Fld := { addr := 0x000088, lo := 0, width := 16 }
def SYS_MDIO_STAT_BUSY : Fld := { addr := 0x000088, lo := 16, width := 1 }
/-! SYS_PART_ID (21_electrical_and_ordering.md) -/
def SYS_PART_ID_DIES : Fld := { addr := 0x000000, lo := 0, width := 4 }
def SYS_PART_ID_CISTERN : Fld := { addr := 0x000000, lo := 4, width := 4 }
def SYS_PART_ID_GRADE : Fld := { addr := 0x000000, lo := 8, width := 1 }
def SYS_PART_ID_STEPPING : Fld := { addr := 0x000000, lo := 16, width := 8 }
def SYS_PART_ID_FAMILY : Fld := { addr := 0x000000, lo := 24, width := 8, reset := 13 }
/-! PWR_TEMP_STAT (21_electrical_and_ordering.md) -/
def PWR_TEMP_STAT_TJ : Fld := { addr := 0x010020, lo := 0, width := 10, reset := 50 }
def PWR_TEMP_STAT_OVERTEMP : Fld := { addr := 0x010020, lo := 10, width := 1 }
def PWR_TEMP_STAT_HOTTEST : Fld := { addr := 0x010020, lo := 11, width := 3 }
def PWR_TEMP_STAT_TJ_MAX : Fld := { addr := 0x010020, lo := 14, width := 10, reset := 50 }

/-- The registers of block 0, SYS (R41). -/
def sysTable : List RegDef := [
  { addr := 0x000020, fields := [SYS_PATH_CTL_MGMT_WR_EN, SYS_PATH_CTL_SPI_WR_EN, SYS_PATH_CTL_MGMT_PORT] },
  { addr := 0x000024, fields := [SYS_SPI_STAT_LAST_STATUS, SYS_SPI_STAT_READ_STATUS, SYS_SPI_STAT_READ_POS] },
  { addr := 0x000030, fields := [SYS_ALARM_SUM_BLK_ALARM] },
  { addr := 0x000034, fields := [SYS_ALARM_MASK_BLK_MASK] },
  { addr := 0x000010, fields := [SYS_LOCK_LOCK] },
  { addr := 0x000018, fields := [SYS_VOTE_CNT_COUNT] },
  { addr := 0x00001C, fields := [SYS_VOTE_LAST_ADDR] },
  { addr := 0x000040, fields := [TXN_CTL_OP] },
  { addr := 0x000044, fields := [TXN_STAT_STATE, TXN_STAT_OWNER_SPI, TXN_STAT_RESULT, TXN_STAT_STAGED, TXN_STAT_FAIL_POS] },
  { addr := 0x000048, fields := [TXN_CFG_TXN_TIMEOUT] },
  { addr := 0x000014, fields := [SYS_LEVEL_EXPERT] },
  { addr := 0x000050, fields := [IMG_CTL_IMG_SAVE] },
  { addr := 0x000054, fields := [IMG_STAT_BOOT_B, IMG_STAT_IMG_FALLBACK, IMG_STAT_SAVE_BUSY, IMG_STAT_UNSAVED, IMG_STAT_SAVE_RESULT] },
  { addr := 0x000090, fields := [SYS_NET_MAC_LO_MAC_LO] },
  { addr := 0x000094, fields := [SYS_NET_MAC_HI_MAC_HI] },
  { addr := 0x008000, fields := [SYS_WSEL_PORT] },
  { addr := 0x009000, window := .port, fields := [SYS_PORT_IP_IP_ADDR] },
  { addr := 0x000060, fields := [SYS_BOARD_STAT_REFCLK_BAD, SYS_BOARD_STAT_REFCLK_LOST, SYS_BOARD_STAT_SERDES_CLK_BAD, SYS_BOARD_STAT_XTAL_STOP, SYS_BOARD_STAT_BOARD_ID_ABSENT] },
  { addr := 0x000064, fields := [SYS_BOARD_ID_ID] },
  { addr := 0x000070, fields := [SYS_DIN_CFG_DIN_BASE, SYS_DIN_CFG_DIN_EN] },
  { addr := 0x000074, fields := [SYS_GPIO_IN_GPIO_IN_PT, SYS_GPIO_IN_GPIO_IN_EN] },
  { addr := 0x000078, fields := [SYS_GPIO_OUT_GPIO_OUT_PT, SYS_GPIO_OUT_GPIO_OUT_EN, SYS_GPIO_OUT_GPIO_GATE] },
  { addr := 0x00007C, fields := [SYS_GPIO_DIR_DIR] },
  { addr := 0x000084, fields := [SYS_MDIO_CMD_PHYAD, SYS_MDIO_CMD_REGAD, SYS_MDIO_CMD_C45, SYS_MDIO_CMD_OP, SYS_MDIO_CMD_DATA] },
  { addr := 0x000088, fields := [SYS_MDIO_STAT_RDATA, SYS_MDIO_STAT_BUSY] },
  { addr := 0x000000, fields := [SYS_PART_ID_DIES, SYS_PART_ID_CISTERN, SYS_PART_ID_GRADE, SYS_PART_ID_STEPPING, SYS_PART_ID_FAMILY] }]

/-- The registers of block 1, PWR (R41). -/
def pwrTable : List RegDef := [
  { addr := 0x010100, fields := [PWR_PACE_CTL_PACE_FLOOR, PWR_PACE_CTL_PACE_MARGIN] },
  { addr := 0x010104, fields := [PWR_PACE_STAT_PACE, PWR_PACE_STAT_PACE_LOW, PWR_PACE_STAT_AT_VMAX, PWR_PACE_STAT_VCORE_MV] },
  { addr := 0x010000, fields := [PWR_CMD_OP] },
  { addr := 0x010004, fields := [PWR_STAT_PARKED, PWR_STAT_DIP, PWR_STAT_UV_SUSTAINED, PWR_STAT_DEFER, PWR_STAT_VIO_A_LOW, PWR_STAT_VIO_B_LOW] },
  { addr := 0x010008, fields := [PWR_VIN_CFG_VIN_WARN, PWR_VIN_CFG_VIN_RST, PWR_VIN_CFG_DIP_MAX] },
  { addr := 0x01000C, fields := [PWR_VIN_STAT_VIN_MV, PWR_VIN_STAT_VIN_MIN_MV] },
  { addr := 0x010010, fields := [PWR_DIP_LAST_DEPTH, PWR_DIP_LAST_DURATION] },
  { addr := 0x010020, fields := [PWR_TEMP_STAT_TJ, PWR_TEMP_STAT_OVERTEMP, PWR_TEMP_STAT_HOTTEST, PWR_TEMP_STAT_TJ_MAX] }]

/-- The registers of block 2, KEEP (R41). -/
def keepTable : List RegDef := [
  { addr := 0x020000, fields := [KEEP_TICK_LO_TICK_LO] },
  { addr := 0x020004, fields := [KEEP_TICK_HI_TICK_HI] },
  { addr := 0x020008, fields := [KEEP_CAL_BASE_LO_BASE_LO] },
  { addr := 0x02000C, fields := [KEEP_CAL_BASE_HI_BASE_HI] },
  { addr := 0x020010, fields := [KEEP_STAT_CAL_VALID, KEEP_STAT_VBAT_LOW, KEEP_STAT_CASE_OPEN, KEEP_STAT_WAKE_N, KEEP_STAT_ON_VIN] },
  { addr := 0x020014, fields := [KEEP_CASE_TICK_TICK] },
  { addr := 0x020018, fields := [KEEP_WAKE_CFG_WAKE_N_EN, KEEP_WAKE_CFG_CASE_WAKE_EN] },
  { addr := 0x02001C, fields := [KEEP_WPEND_WAKE_CFG, KEEP_WPEND_STAT] },
  { addr := 0x020020, count := 4, fields := [KEEP_LIFE_COUNT] }]

/-- The registers of block 3, RST (R41). -/
def rstTable : List RegDef := [
  { addr := 0x030000, fields := [RST_CAUSE_CAUSE, RST_CAUSE_ALSO, RST_CAUSE_WAKE_SLEEP, RST_CAUSE_WAKE_BACKUP, RST_CAUSE_FATAL_REASON, RST_CAUSE_FATAL_RUN] },
  { addr := 0x030004, fields := [RST_BOOT_STAGE, RST_BOOT_BOOT_SEL, RST_BOOT_FATAL_HOLD, RST_BOOT_PLATE_BAD, RST_BOOT_NO_START, RST_BOOT_BOOT_MS] },
  { addr := 0x030008, fields := [RST_CFG_AUTO_RUN, RST_CFG_FATAL_LIMIT, RST_CFG_FATAL_WIN] },
  { addr := 0x030010, fields := [RST_CMD_CLR_HOLD] }]

/-- The registers of block 4, PUMP (R41). -/
def pumpTable : List RegDef := [
  { addr := 0x040000, fields := [PUMP_CYCLE_CTL_T_P, PUMP_CYCLE_CTL_K, PUMP_CYCLE_CTL_OUT_RESERVE] },
  { addr := 0x040010, fields := [PUMP_CMD_RESTART] },
  { addr := 0x040014, fields := [PUMP_STAT_RUNNING, PUMP_STAT_LAST_START, PUMP_STAT_OVR, PUMP_STAT_STACK_FAULT, PUMP_STAT_WRVIOL, PUMP_STAT_MIRROR_LATE, PUMP_STAT_BUDGET_FAIL, PUMP_STAT_RESTARTING, PUMP_STAT_MIRROR_INIT] },
  { addr := 0x040018, fields := [PUMP_OVR_CNT_COUNT] },
  { addr := 0x040020, fields := [PUMP_FAULT_ILLEGAL, PUMP_FAULT_TASK, PUMP_FAULT_WORD] },
  { addr := 0x040030, fields := [PLATE_CMD_OP] },
  { addr := 0x040034, fields := [PLATE_STAT_SLOT_STATE, PLATE_STAT_RUN_SLOT, PLATE_STAT_COMMIT_SLOT, PLATE_STAT_MAP_OK, PLATE_STAT_RESULT] },
  { addr := 0x040038, fields := [PLATE_CFG_SWAP_LEAD, PLATE_CFG_REVERT_WIN] },
  { addr := 0x04003C, fields := [PLATE_NEW_ID_ID] },
  { addr := 0x040040, fields := [PLATE_SWAP_CYC_S_LO] }]

/-- The registers of block 5, FORCE (R41). -/
def forceTable : List RegDef := [
  { addr := 0x050000, fields := [FORCE_CMD_CLR_ALL] },
  { addr := 0x050004, fields := [FORCE_STAT_ACTIVE, FORCE_STAT_ORPHANS] },
  { addr := 0x058000, fields := [FORCE_WSEL_ENTRY] },
  { addr := 0x059000, window := .force, fields := [FORCE_ENT_ADDR_POINT, FORCE_ENT_ADDR_VALID] },
  { addr := 0x059004, window := .force, fields := [FORCE_ENT_VALUE_VALUE] },
  { addr := 0x059008, window := .force, fields := [FORCE_ENT_QUAL_QUALITY, FORCE_ENT_QUAL_TYPE, FORCE_ENT_QUAL_ORPHAN] }]

/-- The registers of block 6, QMGR (R41). -/
def qmgrTable : List RegDef := [
  { addr := 0x060010, fields := [QMGR_NOMATCH_CNT_COUNT] },
  { addr := 0x068000, fields := [QMGR_WSEL_INDEX] },
  { addr := 0x069000, window := .queue, fields := [QMGR_Q_CFG_ENABLE, QMGR_Q_CFG_DIR, QMGR_Q_CFG_CONSUMER, QMGR_Q_CFG_PRIO, QMGR_Q_CFG_RING_LEN] },
  { addr := 0x069004, window := .queue, fields := [QMGR_Q_PORTS_PORTS] },
  { addr := 0x069008, window := .queue, fields := [QMGR_Q_STAT_DROPS, QMGR_Q_STAT_MAX_FILL] },
  { addr := 0x069100, window := .rule, fields := [QMGR_RULE_CTL_KIND, QMGR_RULE_CTL_QUEUE, QMGR_RULE_CTL_PORT_MASK] },
  { addr := 0x069104, window := .rule, fields := [QMGR_RULE_KEY0_ETYPE_PORT, QMGR_RULE_KEY0_DMAC_HI] },
  { addr := 0x069108, window := .rule, fields := [QMGR_RULE_KEY1_ADDR] }]

/-- The registers of block 7, STN (R41). -/
def stnTable : List RegDef := [
  { addr := 0x070000, fields := [STN_CYCLE_CFG_STN_ETYPE, STN_CYCLE_CFG_INPUT_WIN_PCT] },
  { addr := 0x070008, fields := [STN_LATE_CNT_COUNT] },
  { addr := 0x07000C, fields := [STN_BAD_CNT_COUNT] },
  { addr := 0x078000, fields := [STN_WSEL_INDEX] },
  { addr := 0x079000, window := .ring, fields := [STN_RING_CFG_ENABLE, STN_RING_CFG_HOP] },
  { addr := 0x079004, window := .ring, fields := [STN_RING_STAT_CLOSED_A, STN_RING_STAT_CLOSED_B, STN_RING_STAT_BROKEN, STN_RING_STAT_BREAK_AFTER, STN_RING_STAT_ANSWERED, STN_RING_STAT_SPAN] },
  { addr := 0x079100, window := .station, fields := [STN_ST_CFG_ENABLE, STN_ST_CFG_RING, STN_ST_CFG_POSITION, STN_ST_CFG_GROUP, STN_ST_CFG_WDOG, STN_ST_CFG_LATCH_SAFE] },
  { addr := 0x079104, window := .station, fields := [STN_ST_IN_IN_BASE, STN_ST_IN_IN_COUNT] },
  { addr := 0x079108, window := .station, fields := [STN_ST_OUT_OUT_BASE, STN_ST_OUT_OUT_COUNT] },
  { addr := 0x07910C, window := .station, fields := [STN_ST_CMD_RELEASE] }]

/-- The registers of block 8, TSU (R41). -/
def tsuTable : List RegDef := [
  { addr := 0x080000, fields := [TSU_TIME_LO_TIME_LO] },
  { addr := 0x080004, fields := [TSU_TIME_HI_TIME_HI] },
  { addr := 0x080010, fields := [TSU_SRC_CTL_SRC_1, TSU_SRC_CTL_SRC_2, TSU_SRC_CTL_SRC_3, TSU_SRC_CTL_TS_MON, TSU_SRC_CTL_SYNC_WAIT, TSU_SRC_CTL_STEP_LIMIT] },
  { addr := 0x080014, fields := [TSU_SRC_STAT_ACTIVE_SRC, TSU_SRC_STAT_LOCKED, TSU_SRC_STAT_HOLDOVER, TSU_SRC_STAT_TIME_VALID, TSU_SRC_STAT_OFFSET_HIGH] },
  { addr := 0x080018, fields := [TSU_OFFSET_OFFSET] },
  { addr := 0x080020, fields := [TSU_CMD_STEP] },
  { addr := 0x080024, fields := [TSU_PHASE_PHASE] },
  { addr := 0x080030, fields := [TSU_PTP_CFG_DOMAIN, TSU_PTP_CFG_SLAVE_ONLY, TSU_PTP_CFG_PRIORITY1, TSU_PTP_CFG_PRIORITY2, TSU_PTP_CFG_LOG_ANNOUNCE, TSU_PTP_CFG_ANN_TIMEOUT] },
  { addr := 0x088000, fields := [TSU_WSEL_INDEX] },
  { addr := 0x089000, window := .port, fields := [TSU_PORT_LAT_RX_LAT, TSU_PORT_LAT_TX_LAT] },
  { addr := 0x089004, window := .port, fields := [TSU_PORT_PTP_PTP_EN, TSU_PORT_PTP_P2P, TSU_PORT_PTP_ONE_STEP, TSU_PORT_PTP_UDP, TSU_PORT_PTP_LOG_SYNC, TSU_PORT_PTP_ASYM] },
  { addr := 0x089008, window := .port, fields := [TSU_TSQ_STAT_FILL, TSU_TSQ_STAT_OVERFLOW, TSU_TSQ_STAT_OVF_CNT] },
  { addr := 0x089010, window := .port, fields := [TSU_TSQ_ENTRY0_FRAME_ID, TSU_TSQ_ENTRY0_TS_HI, TSU_TSQ_ENTRY0_VALID] },
  { addr := 0x089014, window := .port, fields := [TSU_TSQ_ENTRY1_TS_LO] },
  { addr := 0x089020, window := .pps, fields := [TSU_PPS_OUT_MODE, TSU_PPS_OUT_WIDTH] },
  { addr := 0x089030, window := .din, fields := [TSU_DIN_EDGE_LO_TS_LO] },
  { addr := 0x089034, window := .din, fields := [TSU_DIN_EDGE_HI_TS_HI, TSU_DIN_EDGE_HI_RISING, TSU_DIN_EDGE_HI_LEVEL, TSU_DIN_EDGE_HI_MISSED] }]

/-- The registers of block 9, SER (R41). -/
def serTable : List RegDef := [
  { addr := 0x098000, fields := [SER_WSEL_INDEX] },
  { addr := 0x099000, window := .uart, fields := [SER_UART_CFG_BAUD, SER_UART_CFG_PARITY, SER_UART_CFG_STOP2, SER_UART_CFG_DE_EN, SER_UART_CFG_TX_EN] },
  { addr := 0x099004, window := .uart, fields := [SER_UART_TX_LEN] },
  { addr := 0x099100, count := 20, window := .uart, fields := [SER_UART_TXBUF_BYTES] },
  { addr := 0x099010, window := .can, fields := [SER_CAN_CFG_MODE, SER_CAN_CFG_NOM_RATE, SER_CAN_CFG_DATA_RATE, SER_CAN_CFG_PREF_ADDR, SER_CAN_CFG_CLAIM_EN] },
  { addr := 0x099014, window := .can, fields := [SER_CAN_NAME_LO_NAME_LO] },
  { addr := 0x099018, window := .can, fields := [SER_CAN_NAME_HI_NAME_HI] },
  { addr := 0x09901C, window := .can, fields := [SER_CAN_STAT_ADDR, SER_CAN_STAT_CLAIMED, SER_CAN_STAT_BUS_OFF] }]

/-- The registers of block 10, TRG (R41). -/
def trgTable : List RegDef := [
  { addr := 0x0A0000, fields := [TRG_CFG_W_PCT, TRG_CFG_CONTRA_POS, TRG_CFG_CONTRA_HDG] },
  { addr := 0x0A0004, fields := [TRG_SLIP_CFG_TIME_SLIP_WIN, TRG_SLIP_CFG_UTC_OFFSET] },
  { addr := 0x0A0010, fields := [TRG_FRAME_STAT_CLOSE_US, TRG_FRAME_STAT_BY_LIMIT, TRG_FRAME_STAT_LAST_CH] },
  { addr := 0x0A0014, fields := [TRG_LATE_CNT_COUNT] },
  { addr := 0x0A8000, fields := [TRG_WSEL_INDEX] },
  { addr := 0x0A9000, window := .channel, fields := [TRG_CH_CFG_ENABLE, TRG_CH_CFG_REQUIRED, TRG_CH_CFG_OWN_TIME, TRG_CH_CFG_SRC_KIND, TRG_CH_CFG_SRC_INDEX, TRG_CH_CFG_GROUP, TRG_CH_CFG_TEMPLATE] },
  { addr := 0x0A9004, window := .channel, fields := [TRG_CH_LAT_LATENCY] },
  { addr := 0x0A9008, window := .channel, fields := [TRG_CH_VAR_VARIANCE] },
  { addr := 0x0A900C, window := .channel, fields := [TRG_CH_PERIOD_PERIOD] },
  { addr := 0x0A9010, window := .channel, fields := [TRG_CH_IN_IN_BASE, TRG_CH_IN_IN_EN] },
  { addr := 0x0A9100, count := 16, window := .template, fields := [TRG_TPL_BYTES] }]

/-- The registers of block 11, OBS (R41). -/
def obsTable : List RegDef := [
  { addr := 0x0B0000, fields := [OBS_CMD_ORIGIN_SET, OBS_CMD_REINIT, OBS_CMD_CAL_SAVE, OBS_CMD_CAL_RESET] },
  { addr := 0x0B0004, fields := [OBS_STAT_STATE, OBS_STAT_ENGINE, OBS_STAT_FAILOVER, OBS_STAT_SPARE_LOST, OBS_STAT_CAL_FROZEN, OBS_STAT_CAL_BUSY] },
  { addr := 0x0B0008, fields := [OBS_CFG_DR_MAX_POS, OBS_CFG_DR_MAX_HDG, OBS_CFG_NU_GATE, OBS_CFG_NU_REANCHOR, OBS_CFG_ORIGIN_AUTO] },
  { addr := 0x0B000C, fields := [OBS_CAL_CFG_ENV_ARM, OBS_CAL_CFG_ENV_HDG] },
  { addr := 0x0B0020, count := 4, fields := [OBS_ORIGIN_WORD] },
  { addr := 0x0B0100, count := 12, fields := [OBS_PARAM_VALUE] },
  { addr := 0x0B8000, fields := [OBS_WSEL_INDEX] },
  { addr := 0x0B9000, window := .obsChannel, fields := [OBS_CH_ARM_XY_ARM_X, OBS_CH_ARM_XY_ARM_Y] },
  { addr := 0x0B9004, window := .obsChannel, fields := [OBS_CH_ARM_Z_ARM_Z, OBS_CH_ARM_Z_HDG_OFS] },
  { addr := 0x0B9008, window := .obsChannel, fields := [OBS_CH_REF_REFINE, OBS_CH_REF_INDEP_ID] },
  { addr := 0x0B900C, window := .obsChannel, fields := [OBS_CH_DATUM_N_DATUM_N] },
  { addr := 0x0B9010, window := .obsChannel, fields := [OBS_CH_DATUM_E_DATUM_E] },
  { addr := 0x0B9014, window := .obsChannel, fields := [OBS_CH_CAL0_CAL_X, OBS_CH_CAL0_CAL_Y] },
  { addr := 0x0B9018, window := .obsChannel, fields := [OBS_CH_CAL1_CAL_Z, OBS_CH_CAL1_CAL_HDG] },
  { addr := 0x0B901C, window := .obsChannel, fields := [OBS_CH_CMD_CAL_RESET, OBS_CH_CMD_DATUM_SET] }]

/-- The registers of block 12, LOOP (R41). -/
def loopTable : List RegDef := [
  { addr := 0x0C0000, fields := [LOOP_CTL_DP_EN] },
  { addr := 0x0C0004, fields := [LOOP_STAT_DUE_MAX, LOOP_STAT_ENABLED, LOOP_STAT_CLOSED_ANY] },
  { addr := 0x0C8000, fields := [LOOP_WSEL_INDEX] },
  { addr := 0x0C9000, window := .loop, fields := [LOOP_CFG_ENABLE, LOOP_CFG_M, LOOP_CFG_PHASE, LOOP_CFG_RETAIN_I] },
  { addr := 0x0C9004, count := 6, window := .loop, fields := [LOOP_ADDR_ADDR, LOOP_ADDR_USE] },
  { addr := 0x0C9020, count := 24, window := .loop, fields := [LOOP_COEF_VALUE] }]

/-- The registers of block 13, ALLOC (R41). -/
def allocTable : List RegDef := [
  { addr := 0x0D0000, fields := [ALLOC_CFG_ENABLE, ALLOC_CFG_SLACK_TOL] },
  { addr := 0x0D0004, fields := [ALLOC_STAT_GOVERNING, ALLOC_STAT_CONSEQUENCE, ALLOC_STAT_DEFICIT, ALLOC_STAT_UNCOVERED, ALLOC_STAT_FALLBACK, ALLOC_STAT_SWITCHED, ALLOC_STAT_ARMED] },
  { addr := 0x0D0008, fields := [ALLOC_FAILED_THR_THR] },
  { addr := 0x0D000C, fields := [ALLOC_FAILED_PWR_BUS, ALLOC_FAILED_PWR_GEN] },
  { addr := 0x0D0010, count := 3, fields := [ALLOC_COEF_VALUE] },
  { addr := 0x0D8000, fields := [ALLOC_WSEL_INDEX] },
  { addr := 0x0D9000, window := .thruster, fields := [ALLOC_THR_CFG_KIND, ALLOC_THR_CFG_BUS, ALLOC_THR_CFG_STATION, ALLOC_THR_CFG_STN_USE, ALLOC_THR_CFG_DIR, ALLOC_THR_CFG_NVERT] },
  { addr := 0x0D9004, window := .thruster, fields := [ALLOC_THR_POS_X, ALLOC_THR_POS_Y] },
  { addr := 0x0D9008, window := .thruster, fields := [ALLOC_THR_LIM_TMAX, ALLOC_THR_LIM_T_NEG] },
  { addr := 0x0D900C, window := .thruster, fields := [ALLOC_THR_RATE_TRATE, ALLOC_THR_RATE_AZ_RATE, ALLOC_THR_RATE_W] },
  { addr := 0x0D9010, window := .thruster, fields := [ALLOC_THR_PWR_PMAX, ALLOC_THR_PWR_PIDLE] },
  { addr := 0x0D9014, count := 2, window := .thruster, fields := [ALLOC_THR_SECT_START, ALLOC_THR_SECT_END, ALLOC_THR_SECT_USE] },
  { addr := 0x0D9020, count := 8, window := .thruster, fields := [ALLOC_THR_POLY_FX, ALLOC_THR_POLY_FY] },
  { addr := 0x0D9040, count := 3, window := .thruster, fields := [ALLOC_THR_PT_ADDR, ALLOC_THR_PT_USE] },
  { addr := 0x0D9100, window := .bus, fields := [ALLOC_BUS_CFG_RESERVE, ALLOC_BUS_CFG_ENABLE] },
  { addr := 0x0D9104, count := 2, window := .bus, fields := [ALLOC_BUS_PT_ADDR, ALLOC_BUS_PT_USE] },
  { addr := 0x0D9180, window := .generator, fields := [ALLOC_GEN_CFG_ADDR, ALLOC_GEN_CFG_BUS, ALLOC_GEN_CFG_ENABLE] },
  { addr := 0x0D9200, window := .context, fields := [ALLOC_CTX_CFG_ENABLE, ALLOC_CTX_CFG_AUTO_TRIG] },
  { addr := 0x0D9204, window := .context, fields := [ALLOC_CTX_LOSS_THR_THR] },
  { addr := 0x0D9208, window := .context, fields := [ALLOC_CTX_LOSS_PWR_BUS, ALLOC_CTX_LOSS_PWR_GEN] },
  { addr := 0x0D9220, count := 8, stride := 8, window := .context, fields := [ALLOC_CTX_TERM_A_ADDR, ALLOC_CTX_TERM_A_BIT, ALLOC_CTX_TERM_A_OP, ALLOC_CTX_TERM_A_GROUP, ALLOC_CTX_TERM_A_USE] },
  { addr := 0x0D9224, count := 8, stride := 8, window := .context, fields := [ALLOC_CTX_TERM_B_THRESH] },
  { addr := 0x0D9400, count := 64, window := .context, fields := [ALLOC_CTX_THR_VALUE] },
  { addr := 0x0D9500, count := 8, window := .context, fields := [ALLOC_CTX_BUS_USED] }]

/-- The registers of block 14, SOLV (R41). -/
def solvTable : List RegDef := [
  { addr := 0x0E0000, fields := [SOLV_CFG_SOLVE_RESERVE, SOLV_CFG_PIVOT_LIMIT, SOLV_CFG_WIDE_HOLD, SOLV_CFG_PIVOT_EXP] },
  { addr := 0x0E0004, fields := [SOLV_STAT_DIE_OK, SOLV_STAT_CTX0_DIE, SOLV_STAT_POSTED, SOLV_STAT_RETURNED] },
  { addr := 0x0E0008, fields := [SOLV_EVT_CNT_DEADLINE_CNT, SOLV_EVT_CNT_BREACH_CNT] },
  { addr := 0x0E000C, fields := [SOLV_FLOOR_CNT_COUNT] },
  { addr := 0x0E0020, fields := [SOLV_HATCH_CMD_OP, SOLV_HATCH_CMD_ENTRY] },
  { addr := 0x0E0024, fields := [SOLV_HATCH_STAT_STATE, SOLV_HATCH_STAT_ENTRY, SOLV_HATCH_STAT_RESULT, SOLV_HATCH_STAT_BUSY] },
  { addr := 0x0E8000, fields := [SOLV_WSEL_INDEX] },
  { addr := 0x0E9000, window := .slot, fields := [SOLV_SLOT_CFG_USER_EN, SOLV_SLOT_CFG_ENTRY, SOLV_SLOT_CFG_OWNER, SOLV_SLOT_CFG_WIDE] }]

/-- The registers of block 15, RED (R41). -/
def redTable : List RegDef := [
  { addr := 0x0F0000, fields := [RED_CFG_MODE, RED_CFG_COMPAT_RINGS, RED_CFG_UNIT] },
  { addr := 0x0F0004, fields := [RED_CLAIM_CFG_RELEASE_HEALTH, RED_CLAIM_CFG_CLAIM_WIN, RED_CLAIM_CFG_HB_RING, RED_CLAIM_CFG_ADMIT_LIMIT] },
  { addr := 0x0F0010, fields := [RED_CMD_RELEASE, RED_CMD_JOIN, RED_CMD_PROOF_TEST, RED_CMD_ISOLATE] },
  { addr := 0x0F0014, fields := [RED_STAT_ROLE, RED_STAT_SYNC_STATE, RED_STAT_HEALTH, RED_STAT_EPOCH, RED_STAT_RELEASE_BLOCKED, RED_STAT_PLATE_DIFF, RED_STAT_PROOF_MISS, RED_STAT_UNIT_BAD] },
  { addr := 0x0F0018, fields := [RED_PROOF_LIM_PROOF_LIMIT] },
  { addr := 0x0F001C, fields := [RED_PROOF_PEAK_PEAK] }]

/-- The registers of block 16, SPAN (R41). -/
def spanTable : List RegDef := [
  { addr := 0x100000, fields := [SPAN_CFG_STRAPS, SPAN_CFG_TOPO, SPAN_CFG_ADDRESS] },
  { addr := 0x100004, fields := [SPAN_STAT_LANE_UP, SPAN_STAT_CFG_BAD, SPAN_STAT_UP_LOST, SPAN_STAT_SPAN_BAD_CNT] },
  { addr := 0x100008, fields := [SPAN_LOCAL_LOCAL_IN_BASE, SPAN_LOCAL_LOCAL_OUT_BASE] },
  { addr := 0x108000, fields := [SPAN_WSEL_INDEX] },
  { addr := 0x109000, window := .node, fields := [SPAN_NODE_IN_IN_BASE, SPAN_NODE_IN_IN_COUNT, SPAN_NODE_IN_ENABLE] },
  { addr := 0x109004, window := .node, fields := [SPAN_NODE_OUT_OUT_BASE, SPAN_NODE_OUT_OUT_COUNT] }]

/-- The registers of block 17, SAFE (R41). -/
def safeTable : List RegDef := [
  { addr := 0x110000, count := 8, fields := [SAFE_TRIP_CFG_GROUP_MASK, SAFE_TRIP_CFG_FILTER, SAFE_TRIP_CFG_ENABLE] },
  { addr := 0x110020, fields := [SAFE_CMD_TRIP_RESET, SAFE_CMD_DISC_RESET] },
  { addr := 0x110024, fields := [SAFE_STAT_TRIPPED, SAFE_STAT_TRIP_LEVEL, SAFE_STAT_RUNAWAY, SAFE_STAT_DISC, SAFE_STAT_TRIP_FAULT] },
  { addr := 0x110028, fields := [SAFE_STIPPLE_CFG_PULSE, SAFE_STIPPLE_CFG_PERIOD, SAFE_STIPPLE_CFG_FB_SETTLE] },
  { addr := 0x118000, fields := [SAFE_WSEL_INDEX] },
  { addr := 0x119000, window := .safe, fields := [SAFE_OUT_CFG_GROUP, SAFE_OUT_CFG_GATE, SAFE_OUT_CFG_CTRL_REL, SAFE_OUT_CFG_STIPPLE_EN, SAFE_OUT_CFG_USE] },
  { addr := 0x119004, window := .safe, fields := [SAFE_RUN_CFG_TIME, SAFE_RUN_CFG_GROUP_MASK, SAFE_RUN_CFG_QUAL_TRIP, SAFE_RUN_CFG_ANGLE, SAFE_RUN_CFG_ENABLE] },
  { addr := 0x119008, window := .safe, fields := [SAFE_RUN_CMD_PT_ADDR] },
  { addr := 0x11900C, window := .safe, fields := [SAFE_RUN_FB_PT_ADDR] },
  { addr := 0x119010, window := .safe, fields := [SAFE_RUN_TOL_TOL] }]

/-- The registers of block 18, REC (R41). -/
def recTable : List RegDef := [
  { addr := 0x120000, fields := [REC_CTL_FREEZE, REC_CTL_RATE, REC_CTL_BURST, REC_CTL_INTERVAL] },
  { addr := 0x120004, fields := [REC_STAT_FROZEN, REC_STAT_THAW_AUTO, REC_STAT_PENDING, REC_STAT_USED_K] },
  { addr := 0x120008, fields := [REC_LOSS_DROP_CNT, REC_LOSS_PEND_DROP] },
  { addr := 0x128000, fields := [REC_WSEL_SLOT] },
  { addr := 0x129000, count := 16, window := .recSlot, fields := [REC_SLOT_WORD] }]

/-- The registers of block 19, SEC (R41). -/
def secTable : List RegDef := [
  { addr := 0x130000, fields := [SEC_STAT_SLOT_VALID, SEC_STAT_SLOT_REVOKED, SEC_STAT_SLOT_SPOILED, SEC_STAT_ROLLBACK, SEC_STAT_DBG_OFF, SEC_STAT_MFG_OFF, SEC_STAT_RNG_FAIL, SEC_STAT_FUSE_BUSY, SEC_STAT_FUSE_RESULT, SEC_STAT_DEBUG_OPEN] },
  { addr := 0x130010, count := 8, fields := [SEC_KEY_HASH_WORD] },
  { addr := 0x130030, fields := [SEC_FUSE_ARM_CODE] },
  { addr := 0x130034, fields := [SEC_FUSE_CMD_OP, SEC_FUSE_CMD_SLOT] },
  { addr := 0x130040, fields := [SEC_RNG_BITS] },
  { addr := 0x130050, fields := [SEC_IMG_CMD_OP] },
  { addr := 0x130054, fields := [SEC_IMG_STAT_STATE, SEC_IMG_STAT_RESULT, SEC_IMG_STAT_WHY, SEC_IMG_STAT_SVN] }]

/-- The registers of block 20, CAP (R41). -/
def capTable : List RegDef := [
  { addr := 0x140000, fields := [CAP_CFG_CAP_SIZE, CAP_CFG_KEY_CYC, CAP_CFG_TRIG_SEV, CAP_CFG_POST] },
  { addr := 0x140004, fields := [CAP_CMD_START, CAP_CMD_STOP, CAP_CMD_REPLAY, CAP_CMD_REPLAY_END, CAP_CMD_REPLAY_FREE] },
  { addr := 0x140008, fields := [CAP_STAT_STATE, CAP_STAT_TRIGGERED, CAP_STAT_LOST] },
  { addr := 0x14000C, fields := [CAP_OLDEST_OFFSET] },
  { addr := 0x140010, fields := [CAP_NEWEST_OFFSET] },
  { addr := 0x140014, fields := [CAP_REPLAY_DIFF_COUNT] },
  { addr := 0x148000, fields := [CAP_WSEL_SEGMENT] }]

/-- The register tables of all blocks, by block index (R41). -/
def blockTable : Nat → List RegDef
  | 0 => sysTable
  | 1 => pwrTable
  | 2 => keepTable
  | 3 => rstTable
  | 4 => pumpTable
  | 5 => forceTable
  | 6 => qmgrTable
  | 7 => stnTable
  | 8 => tsuTable
  | 9 => serTable
  | 10 => trgTable
  | 11 => obsTable
  | 12 => loopTable
  | 13 => allocTable
  | 14 => solvTable
  | 15 => redTable
  | 16 => spanTable
  | 17 => safeTable
  | 18 => recTable
  | 19 => secTable
  | 20 => capTable
  | _ => []

/-- Defaults of LOOP_COEF_n, binary32 (parameter table of chapter 10); Tt, I_LO and I_HI are derived (R58). -/
def loopCoefDefaults : List Nat := [1065353216, 0, 0, 1092616192, 1065353216, 0, 1065353216, 0, 0, 1092616192, 1065353216, 0, 0, 1120403456, 0, 0, 1120403456, 1045220557, 1084227584, 1065353216, 1065353216, 0, 0, 0]

/-- Defaults of OBS_PARAM_n, binary32 (parameter table of chapter 09); 2 to 7 are derived (R58). -/
def obsParamDefaults : List Nat := [1120403456, 1167867904, 0, 0, 0, 0, 0, 0, 1148846080, 1061997773, 1036831949, 1092616192]

/-- Defaults of ALLOC_COEF_n, binary32 (parameter table of chapter 11). -/
def allocCoefDefaults : List Nat := [1176256512, 1103626240, 1036831949]

/-- The factory defaults of R153 and R483 for queue i: ENABLE, DIR, CONSUMER, PRIO, RING_LEN by low bit, and
the port set. -/
def queueFactory (lo i : Nat) : Nat :=
  if i < 18 then
    match lo with
    | 0 => 1
    | 1 => if 8 ≤ i ∧ i < 16 ∨ i = 17 then 1 else 0
    | 2 => if i < 16 then 1 else 4
    | 5 => if i < 16 then 7 else 6
    | 8 => 255
    | _ => 0
  else 0

def queuePortsFactory (i : Nat) : Nat :=
  if i < 16 then 3 * 4 ^ (i % 8) else if i < 18 then 0xC000 else 0

/-- The factory defaults of R153 for rule i: KIND, QUEUE, PORT_MASK by low bit. -/
def ruleFactory (lo i : Nat) : Nat :=
  if i < 16 then (match lo with | 0 => 1 | 3 => i / 2 | 16 => 2 ^ i | _ => 0)
  else if i = 16 then (match lo with | 0 => 4 | 3 => 16 | 16 => 0xC000 | _ => 0)
  else 0

def ruleKeyFactory (lo i : Nat) : Nat :=
  if lo = 0 then (if i < 16 then 0x88B5 else if i = 16 then 40119 else 0) else 0

/-- The value after reset of a field whose column reads "factory" or "see below", for instance i. -/
def factory (addr lo i : Nat) : Nat :=
  if addr = 0x069000 then queueFactory lo i
  else if addr = 0x069004 then queuePortsFactory i
  else if addr = 0x069100 then ruleFactory lo i
  else if addr = 0x069104 then ruleKeyFactory lo i
  else if 0x0C9020 ≤ addr ∧ addr < 0x0C9080 then loopCoefDefaults.getD ((addr - 0x0C9020) / 4) 0
  else if 0x0B0100 ≤ addr ∧ addr < 0x0B0130 then obsParamDefaults.getD ((addr - 0x0B0100) / 4) 0
  else if 0x0D0010 ≤ addr ∧ addr < 0x0D001C then allocCoefDefaults.getD ((addr - 0x0D0010) / 4) 0
  else 0

end Reg

/-- The value of a field after reset, for instance i. -/
def Fld.resetOf (f : Fld) (i : Nat) : Nat := if f.special then Reg.factory f.addr f.lo i else f.reset

end Sys2Proof.Machine
end

