-- ==== Sys2Proof/Machine/Store.lean ====
section
/-! DEFINITION. Sparse data by key: a list of (key, value) pairs in one canonical form, keys strictly rising and no
entry equal to what an unlisted key reads as. The register file, the point image and the instance areas are
kept in it. -/

namespace Sys2Proof.Machine

/-- A sparse store: (key, value) pairs. -/
abbrev Store (α : Type) := List (Nat × α)

/-- The entry listed for a key. -/
def storeFind {α : Type} : Store α → Nat → Option α
  | [], _ => none
  | (a, v) :: t, k => if a = k then some v else storeFind t k

/-- List a value for a key, keys kept rising. -/
def storePut {α : Type} : Store α → Nat → α → Store α
  | [], k, v => [(k, v)]
  | (a, w) :: t, k, v =>
    if k < a then (k, v) :: (a, w) :: t
    else if k = a then (k, v) :: t
    else (a, w) :: storePut t k v

/-- Remove the entry of a key. -/
def storeDel {α : Type} : Store α → Nat → Store α
  | [], _ => []
  | (a, w) :: t, k => if a = k then storeDel t k else (a, w) :: storeDel t k

/-- Write a value for a key that reads as `d` when unlisted: writing `d` removes the entry. -/
def storeSet {α : Type} [DecidableEq α] (l : Store α) (k : Nat) (v d : α) : Store α :=
  if v = d then storeDel l k else storePut l k v

/-- Read a key that reads as `d` when unlisted. -/
def storeGet {α : Type} (l : Store α) (k : Nat) (d : α) : α := (storeFind l k).getD d

/-- Every key of the store is above `b`, and keys rise strictly. -/
def storeAbove {α : Type} : Nat → Store α → Bool
  | _, [] => true
  | b, (a, _) :: t => decide (b < a) && storeAbove a t

/-- Keys rise strictly. -/
def storeSorted {α : Type} : Store α → Bool
  | [] => true
  | (a, _) :: t => storeAbove a t

/-- The canonical form: keys rise strictly and no entry equals what its key reads as when unlisted. -/
def storeWf {α : Type} [DecidableEq α] (l : Store α) (dflt : Nat → α) : Bool :=
  storeSorted l && l.all (fun e => decide (e.2 ≠ dflt e.1))

/-- Read `n` consecutive keys from `k`, each unlisted one as `d`. -/
def storeRange {α : Type} (l : Store α) (k : Nat) (d : α) : Nat → List α
  | 0 => []
  | n + 1 => storeGet l k d :: storeRange l (k + 1) d n

end Sys2Proof.Machine
end

