-- ==== Sys2Proof/Machine/State.lean ====
section
/-! DEFINITION. The state of the part: plain data, holding everything the manual gives it (INVENTORY.md, '## State'), and the state
right after reset. Register fields live in one store, `State.regs`, under their keys (Machine/Regs.lean); status registers whose
fields only repeat other state are computed at the read (Machine/Host.lean). -/

namespace Sys2Proof.Machine

/-- The status codes of R60. -/
inductive Status where
  | done | busy | locked | level | loopClosed | txnBusy | txnTimeout | badImage | signature | range | notPresent
  | role | state
deriving DecidableEq, Repr

/-- Why a step can stop with a fault. Nothing of this block faults: every command the manual describes has an effect, so
the one constructor is raised by no meaning. -/
inductive Fault where
  /-- Raised by nobody. Safe: a fault stops a run and proves nothing about the part. -/
  | none
deriving DecidableEq, Repr

/-- Why a step can be refused. -/
inductive Refusal where
  /-- Raised by an arm of `exec` whose command has no meaning yet. Safe: the run stops. -/
  | notModelled (mnemonic : String)
  /-- Raised by BOOT_ROM_DONE with BOOT_SEL = 0b11 while MFG_OFF is not blown: the manual names Jesuwald factory test and says
  nothing of what it does (R385). Safe: the run stops. -/
  | factoryTest
deriving DecidableEq, Repr

/-- What the part is doing as a whole (R383, R406 to R410): held in reset, booting (RST_BOOT.STAGE says where), waiting for the
first boundary after DONE, or in a state of R406. -/
inductive Mode where
  | held | boot | done | run | park | replay | sleep | backup
deriving DecidableEq, Repr

/-- A part of one pump cycle (R17): before any boundary, from the boundary to the close of the input window, from the close to the
freeze, after the freeze. -/
inductive Phase where
  | idle | window | tasks | frozen
deriving DecidableEq, Repr

/-! ## Host access -/

/-- One staged word of a transaction (R51). -/
structure Staged where
  addr : Nat
  index : Nat
  value : Word
deriving DecidableEq, Repr

/-- A committed transaction that waits for its boundary (R52, R53): `skip` boundaries pass first. -/
structure Commit where
  words : List Staged
  oneWrite : Bool
  skip : Nat
deriving DecidableEq, Repr

/-- The one transaction of R50: idle, open, pending. -/
inductive TxnPhase where
  | idle | openTxn | pendingTxn
deriving DecidableEq, Repr

/-- A kept OMP response (R36, R38): the requester's address and port, to which it goes; the port, address and MGMT_PORT that it leaves from;
the echoed COUNT, ADDR and INDEX. -/
structure OmpResponse where
  srcIp : BitVec 32
  srcPort : BitVec 16
  seq : BitVec 16
  port : Nat
  dstMac : BitVec 48
  fromIp : Nat
  fromPort : Nat
  count : Nat
  addr : Word
  index : Nat
  write : Bool
  status : Status
  fail : Nat
  data : List Word
deriving DecidableEq, Repr

/-- What an SPI transfer in progress is (R39). -/
inductive SpiCmd where
  | none | read | write | unknown
deriving DecidableEq, Repr

/-- Registers and latches of the two access paths (R35 to R62). -/
structure HostState where
  phase : TxnPhase := .idle
  owner : Path := .spi
  staged : List Staged := []
  /-- The instant of the owner's last access (R55). -/
  lastAccess : Nat := 0
  /-- The owner that is answered TXN_TIMEOUT once (R55). -/
  timeoutOwner : Option Path := none
  result : Nat := 0
  failPos : Nat := 0
  /-- Committed transactions in the order in which they were committed (R52). -/
  commits : List Commit := []
  /-- Kept OMP responses, newest first, at most 16 (R38). -/
  responses : List OmpResponse := []
  /-- The responses sent by the last OMP request: none where it was discarded (R36). -/
  lastResponse : Option OmpResponse := none
  spi : SpiCmd := .none
  spiAddr : Word := 0
  /-- Words driven so far in a read transfer, newest last. -/
  spiOut : List Word := []
  /-- Bytes that the part drives on SPI_SDO in the transfer (R39): from the address on in a read, throughout a write; the 0xFF of a transfer
  with another command byte stands for as long as the chip select stays low. -/
  spiSdo : List Byte := []
  /-- First failing word of a read transfer and its position. -/
  spiFail : Option (Status × Nat) := none
  spiPos : Nat := 0
  /-- The read transfer so far covers nothing but SYS_SPI_STAT (R39). -/
  spiStatOnly : Bool := true
  /-- First word of a point record that waits for its second word (R43). -/
  spiHeld : Option (PointAddr × Word) := none
  /-- WSEL of the SPI path, by block (R45). -/
  spiWsel : Store Nat := []
  timeHiOmp : Word := 0
  timeHiSpi : Word := 0
  tickHiOmp : Nat := 0
  tickHiSpi : Nat := 0
  /-- Words that the last read by its own row returned (TSQ_READ, TSU_TIME_LO_READ, KEEP_TICK_LO_READ, DIN_EDGE_READ, RNG_READ). -/
  lastRead : List Nat := []
  /-- Status of the last command given by its own row (R60). -/
  lastStatus : Status := .done
deriving DecidableEq, Repr

/-- A voted field one copy of which differs, or whose three copies differ (R48): register address, value of each copy, last value on
which the copies agreed, and consecutive scrubs that found a disagreement. -/
structure Deviation where
  addr : Nat
  c0 : Nat
  c1 : Nat
  c2 : Nat
  agreed : Nat
deriving DecidableEq, Repr

/-- What the NV die holds of the user images (R61, R62, R440). -/
structure ImageState where
  copyA : Option (ImageDesc × Verdict) := none
  copyB : Option (ImageDesc × Verdict) := none
  /-- The voted NV image pointer: false names copy A. -/
  pointerB : Bool := false
  /-- IMG_SAVE accepted, its values not yet taken (R62). -/
  saveWanted : Bool := false
  /-- The values of a save in progress. -/
  saving : Option (List (Nat × Nat)) := none
  /-- Settings that the boot copy holds, by register key. -/
  bootSettings : List (Nat × Nat) := []
  /-- Words of the load window (R440). -/
  loadWords : Store Word := []
deriving DecidableEq, Repr

/-! ## Points -/

/-- A point record (R63). -/
structure Point where
  value : Word
  quality : Byte
  type : Nat
  forced : Bool := false
  retain : Bool := false
  stale : Bool := false
  orphan : Bool := false
  stamp : BitVec 16 := 0
deriving DecidableEq, Repr

/-! ## Pump -/

/-- The tasks of the pump (R80). -/
inductive Task where
  | fast | hold | slow
deriving DecidableEq, Repr

/-- The processor state of a task (R79), with its position: block and word offset of the next instruction. -/
structure Proc where
  ba : Bool := false
  a : Word := 0
  b : Word := 0
  z : Bool := false
  n : Bool := false
  v : Bool := false
  u : Bool := false
  nesting : List Bool := []
  calls : List (Nat × Nat) := []
  block : Nat := 0
  offset : Nat := 0
deriving DecidableEq, Repr

/-- A timer instance (R120): state 0 (IDLE or OFF), 1 (TIMING of TON, ON, PULSE) or 2 (DONE, TIMING of TOF, END), IN at the last
scan, ET in 10 µs, last_n (none before the first scan, R127). -/
structure Timer where
  state : Nat := 0
  inp : Bool := false
  et : Nat := 0
  last : Option Nat := none
deriving DecidableEq, Repr

/-- A counter instance (R125). -/
structure Counter where
  cv : Word := 0
  cu : Bool := false
  cd : Bool := false
deriving DecidableEq, Repr

/-- The instance areas (R109, R116); an unlisted instance holds the value of R127 without a declaration. -/
structure Instances where
  timers : Store Timer := []
  counters : Store Counter := []
  edges : Store Bool := []
deriving DecidableEq, Repr

/-- The pump (R79 to R92). Instants are time-base readings in ns, costs slow-corner ns. -/
structure PumpState where
  fast : Proc := {}
  hold : Proc := { block := 1 }
  slow : Proc := { block := 2 }
  running : Option Task := none
  /-- Instant at which the running task started or resumed in this cycle. -/
  taskStart : Nat := 0
  /-- Slow-corner cost of the instructions it completed since then. -/
  taskCost : Nat := 0
  /-- Measured time and slow-corner cost of the running scan in the present cycle. -/
  scanCost : Nat := 0
  /-- FAST (and HOLD on a hold cycle) has ended; the instant. -/
  tasksEnd : Option Nat := none
  /-- A task met a fault in this cycle (R84). -/
  faulted : Bool := false
  /-- A SLOW scan is suspended, or runs. -/
  slowOpen : Bool := false
  slowStarted : Bool := false
  slowSpan : Nat := 0
  /-- First scans still to come: FAST, HOLD, SLOW (R91). -/
  firstFast : Bool := true
  firstHold : Bool := true
  firstSlow : Bool := true
  /-- End of the loop engine's evaluation, and the evaluations due (R20). -/
  loopEnd : Nat := 0
  loopsDue : Nat := 0
  inst : Instances := {}
  /-- An accepted restart waits for its boundary: cold, boundaries to pass first (R89). -/
  restartReq : Option (Bool × Nat) := none
  /-- Restart cycles left, the present one included (R91). -/
  restartLeft : Nat := 0
  /-- Output area records last frozen, and whether any image was frozen since the boot (R17, R388). -/
  image : Store Point := []
  imageValid : Bool := false
  /-- Records of the output area at the previous freeze that capture compares with (R430). -/
  lastFreeze : Store Point := []
  /-- What the pump and system points carry at the freeze (R74); a measurement is none until its first scan has ended. -/
  ovrCnt : Nat := 0
  ovrRun : Nat := 0
  fastUs : Option Word := none
  holdUs : Option Word := none
  slackMin : Option Nat := none
  slowScanCyc : Option Nat := none
  wrviol : Nat := 0
  /-- START_KIND and the FIRST_SCAN bits last written. -/
  startKind : Nat := 0
deriving DecidableEq, Repr

/-- What pump and host wrote in a pump cycle (R330, R331, R335): the record that each point, timer, counter and edge instance held before its
first write in the cycle, and the points that the host wrote. -/
structure CycleLog where
  points : Store Point := []
  timers : Store (Option Timer) := []
  counters : Store (Option Counter) := []
  edges : Store (Option Bool) := []
  host : Store Unit := []
  /-- Force entries changed, and whether the whole table was cleared. -/
  forces : Store Unit := []
  forceClear : Bool := false
deriving DecidableEq, Repr

/-- One bank of the retentive mirror (R76): sequence number, retentive records, loop section, whether its lines pass their check. -/
structure MirrorBank where
  seq : Nat
  points : Store Point
  loops : Store (List Nat)
  ok : Bool
deriving DecidableEq, Repr

/-- The retentive mirror (R76 to R78). -/
structure MirrorState where
  bank0 : Option MirrorBank := none
  bank1 : Option MirrorBank := none
  seq : Nat := 0
  /-- Lines (8 points each) changed since the last mirror instant. -/
  dirty : Store Bool := []
  /-- The write in progress: target bank and contents. -/
  writing : Option (Bool × MirrorBank) := none
  /-- A mirror instant waits for the write in progress (R77). -/
  waiting : Bool := false
  /-- A mirror instant passed without a freeze (R76). -/
  owed : Bool := false
  /-- A dip wants a forced mirror at the first freeze (R398). -/
  forced : Bool := false
  full : Bool := true
deriving DecidableEq, Repr

/-! ## Plates -/

/-- A plate operation that runs until its own DONE row. -/
inductive PlateOp where
  | none | verify | commit | install
deriving DecidableEq, Repr

/-- The plate slots and the swap (R135 to R145). PLATE_STAT holds SLOT_STATE, RUN_SLOT, COMMIT_SLOT, MAP_OK and RESULT. -/
structure PlateState where
  slot0 : Option PlateDesc := none
  slot1 : Option PlateDesc := none
  nv0 : Option (PlateDesc × Verdict) := none
  nv1 : Option (PlateDesc × Verdict) := none
  loadWords : Store Word := []
  op : PlateOp := .none
  /-- ARM accepted: boundaries to pass first (R138). -/
  armReq : Option Nat := none
  /-- The cycle s of an armed swap. -/
  swapAt : Option Nat := none
  /-- In a group: the active announces the swap; parts that answered ACCEPT; REFUSE or CONFIRM decided. -/
  announced : Bool := false
  /-- The announcement goes into the proof of the next freeze (R145). -/
  announceNow : Bool := false
  accepts : List Nat := []
  refused : Bool := false
  confirmed : Bool := false
  cancelNext : Bool := false
  /-- s of the provisional plate, and the instances that the old plate held at t_p(s) (R141). -/
  swappedAt : Nat := 0
  oldInst : Instances := {}
  /-- REVERT accepted: boundaries to pass first; then the cycle of the revert. -/
  revertReq : Option Nat := none
  revertAt : Option Nat := none
  revertAnnounce : Bool := false
deriving DecidableEq, Repr

/-! ## Recorder and capture -/

/-- The kinds of record (R419). -/
inductive RecKind where
  | hist | extreme | counter | lifetime
deriving DecidableEq, Repr

/-- A recorder record (R419, R420). -/
structure Record where
  code : Nat
  kind : RecKind
  sev : Nat
  isOpen : Bool := true
  saturated : Bool := false
  timeInvalid : Bool := false
  seq : Nat := 0
  suppressed : Nat := 0
  count : Nat := 0
  first : Nat := 0
  last : Nat := 0
  lastValue : Nat := 0
  bins : List Nat := []
  minV : Word := 0
  minT : Nat := 0
  maxV : Word := 0
  maxT : Nat := 0
  life : List Nat := []
  tick : Nat := 0
  /-- The interval of R422 with which it was opened, in h, and the whole multiples passed then. -/
  interval : Nat := 24
  era : Nat := 0
  /-- Its two slots (R424), which of them the next write takes, and whether an update is unwritten. -/
  slotA : Nat := 0
  slotB : Nat := 0
  nextB : Bool := false
  dirty : Bool := false
deriving DecidableEq, Repr

/-- An entry of the pending buffer (R426): code, severity, value, time, TIME_VALID, and whether a suppressed event. -/
structure PendEntry where
  code : Nat
  sev : Nat
  value : Nat
  time : Nat
  timeValid : Bool
deriving DecidableEq, Repr

/-- The recorder (R419 to R427). -/
structure RecState where
  opened : Store Record := []
  slots : Store Record := []
  seq : Nat := 0
  /-- Token buckets by code: tokens in billionths, time of the last refill (R423). -/
  buckets : Store (Nat × Nat) := []
  pend : List PendEntry := []
  /-- Events suppressed by their bucket while the slots are held, by code (R423, R426). -/
  suppPend : Store Nat := []
  freezeAt : Nat := 0
deriving DecidableEq, Repr

/-- An entry of the capture ring (R429): TYPE, SOURCE, cycle, stamp, points of an output entry, entries of an input entry, LEN, and its place
and length in the ring in 8-byte units. -/
structure CapEntry where
  type : Nat
  source : Nat
  /-- Station or node of an input entry. -/
  ident : Nat := 0
  cycle : Nat
  stamp : Nat
  points : List (Nat × Point) := []
  entries : List (Word × Byte) := []
  /-- The payload of a station input frame. -/
  bytes : List Nat := []
  len : Nat
  size : Nat := 0
  offset : Nat := 0
deriving DecidableEq, Repr

/-- The capture ring and replay (R428 to R434). -/
structure CapState where
  entries : List CapEntry := []
  /-- Next byte offset, in 8-byte units. -/
  head : Nat := 0
  sinceKey : Nat := 0
  /-- Cycles to append before STOPPED (R431). -/
  postLeft : Nat := 0
  stopByEvent : Bool := false
  /-- REPLAY accepted: free slot, boundaries to pass first. -/
  replayReq : Option (Bool × Nat) := none
  replayEndReq : Bool := false
  replayFree : Bool := false
  /-- The captured cycle being replayed, the output state captured so far, and the state of the ring before REPLAY. -/
  replayCycle : Nat := 0
  replayOut : Store Point := []
  beforeState : Nat := 0
deriving DecidableEq, Repr

/-! ## Reset, power, keeper -/

/-- Reset bookkeeping (R378 to R388). -/
structure ResetState where
  /-- Instant of the start of the first stage. -/
  bootStart : Nat := 0
  fatalHold : Bool := false
  /-- Causes that arose in this reset, as a mask by code of R378; what woke the part; FATAL_REASON. -/
  causes : Nat := 1
  wakeSleep : Bool := false
  wakeBackup : Bool := false
  fatalReason : Nat := 0
  /-- Elapsed time at the start of stage SYNC. -/
  syncStart : Nat := 0
  /-- Keeper times of the fatal resets counted, in ns (R382). -/
  fatalTimes : List Nat := []
  straps : Straps := { unitId := 0, spanMode := 0, bootSel := 0 }
  /-- The SPI target serves (from the end of stage ROM, R384). -/
  spiServes : Bool := false
  /-- Events to record in stage LOAD (R394, R414). -/
  toRecord : List (Nat × Nat) := []
  imgSvn : Nat := 0
deriving DecidableEq, Repr

/-- The power manager (R395 to R409). PWR_STAT, PWR_VIN_STAT and PWR_DIP_LAST hold the flags and readings. -/
structure PowerState where
  /-- VIN is below VIN_RST (no reset has ended since). -/
  vinAbsent : Bool := false
  /-- VIN is in a dip, whether or not the part is in DIP (R397); its start and its lowest sample in mV. -/
  dipping : Bool := false
  dipStart : Nat := 0
  dipLow : Nat := 0
  /-- Elapsed time since which the samples of VIN lie below VIN_WARN, and above VIN_WARN + 0.3 V (R397). -/
  belowSince : Option Nat := none
  aboveSince : Option Nat := none
  /-- A commanded state change: the target and the boundaries to pass first (R406). -/
  cmd : Option (Nat × Nat) := none
  /-- The sleep sequence runs (R408). -/
  sleeping : Bool := false
  /-- Elapsed time of the last update of the pace index (R31). -/
  paceAt : Nat := 0
  /-- Pace bookkeeping: instant since which the pace is below PACE_FLOOR - 0.05, and at least PACE_FLOOR (R33, R342). -/
  paceLowSince : Option Nat := none
  paceOkSince : Option Nat := none
  hotSamples : Nat := 0
  coolSince : Option Nat := none
  lastVcoreStep : Nat := 0
deriving DecidableEq, Repr

/-- The keeper (R410 to R414). -/
structure KeepState where
  /-- Nanoseconds that the oscillator ran since KEEP_TICK started at 0. -/
  ns : Nat := 0
  running : Bool := true
  lost : Bool := false
  calBase : Nat := 0
  calValid : Bool := false
  vbatLow : Bool := false
  caseOpen : Bool := false
  /-- The comparator CASE_OPEN reads high. -/
  caseLevel : Bool := false
  caseTick : Nat := 0
  wakeN : Bool := true
  onVin : Bool := true
  wakeNEn : Bool := false
  caseWakeEn : Bool := false
  /-- A posted write of KEEP_WAKE_CFG, of KEEP_STAT (R49). -/
  postedCfg : Option Nat := none
  postedStat : Option Nat := none
  /-- POWERED_S, DIP_CNT, RESET_CNT, OVERTEMP_S (R413). -/
  powered : Nat := 0
  dips : Nat := 0
  resets : Nat := 0
  overtemp : Nat := 0
  /-- The NV lifetime mirror: the four counters. -/
  mirror : List Nat := [0, 0, 0, 0]
  mirrorDue : Bool := false
deriving DecidableEq, Repr

/-! ## Queues and the station link (R147 to R173) -/

/-- A receive descriptor held in a queue (R150). -/
structure RxDesc where
  buf : Nat
  len : Nat
  port : Nat
  rule : Nat
  ts : Nat
  err : Bool
deriving DecidableEq, Repr

/-- The header of an IPv4 datagram that the part sends (R154): no options. -/
structure IpHeader where
  src : Nat
  dst : Nat
  ttl : Nat := 64
  df : Bool := true
deriving DecidableEq, Repr

/-- A frame as it leaves a port: addresses, EtherType, IPv4 header of a datagram (R154). -/
structure FrameHead where
  smac : Nat
  dmac : Nat
  etype : Nat
  ip : Option IpHeader := none
deriving DecidableEq, Repr

/-- A transmit descriptor held in a queue (R150, R184), with the head of its frame, and the PTP message that it carries. -/
structure TxDesc where
  buf : Nat := 0
  port : Nat
  len : Nat
  frameId : Nat
  tsReq : Bool
  ts : Nat := 0
  head : FrameHead
  ptp : Option PtpMessage := none
deriving DecidableEq, Repr

/-- An ARP reply: the port, the addresses of the asker, the frame's head (R154). -/
structure ArpReply where
  port : Nat
  askerIp : BitVec 32
  head : FrameHead
deriving DecidableEq, Repr

/-- The queue manager: descriptor rings by queue, the queue whose frame is in progress at each transmit port, the queue that each port served
last (R148), frames counted as ERR (R150), the last ARP reply, and the last transmit descriptor completed. -/
structure QmgrState where
  rx : Store (List RxDesc) := []
  tx : Store (List TxDesc) := []
  busy : Store Nat := []
  turn : Store Nat := []
  errCount : Nat := 0
  arpReply : Option ArpReply := none
  txDone : Option TxDesc := none
deriving DecidableEq, Repr

/-- What a station delivered in the present cycle (R160, R162, R166). -/
structure StnCopy where
  legA : Bool
  legB : Bool
  claim : BitVec 16
  status : Byte
  links : Byte
  entries : List (Word × Byte)
  /-- Port and instant of the copy that was taken, and its bytes up to the end of its CRC-32C (R429). -/
  port : Nat
  stamp : Nat
  bytes : List Nat := []
deriving DecidableEq, Repr

/-- One record of an output frame (R159). -/
structure OutRecord where
  station : Nat
  release : Bool
  safeCmd : Bool
  wdog : Nat
  slotOfs : Nat
  values : List Word
deriving DecidableEq, Repr

/-- A station output frame as it leaves on both legs of a ring (R158, R159); R158's other fields follow from the leg. -/
structure OutFrame where
  ring : Nat
  group : Nat
  claim : Nat
  cycle : Nat
  tp : Nat
  records : List OutRecord
deriving DecidableEq, Repr

/-- The station link. -/
structure StnState where
  copies : Store StnCopy := []
  /-- Stations a copy of which failed its CRC in this cycle. -/
  crcBad : Store Unit := []
  /-- Own output frames seen at the opposite leg, by ring: bit 0 leg A's at leg B, bit 1 leg B's at leg A. -/
  returns : Store Nat := []
  /-- Cycles for which RELEASE is still sent, by station (R169). -/
  release : Store Nat := []
  /-- Output frames sent at the present boundary. -/
  sent : List OutFrame := []
  /-- SAFE_CMD is still set: no image has been frozen since the first boundary in RUN (R170). -/
  safeCmd : Bool := true
  /-- Frames have been sent since the boot (R170, R388). -/
  started : Bool := false
deriving DecidableEq, Repr

/-! ## Time (R174 to R188, R455) -/

/-- A DIN edge unit (R180): stamp, last edge rising, level, MISSED, an unread edge. -/
structure DinUnit where
  stamp : Nat := 0
  rising : Bool := false
  level : Bool := false
  missed : Bool := false
  unread : Bool := false
  seen : Bool := false
deriving DecidableEq, Repr

/-- A PTP port (R187): 0 listening, 1 master, 2 slave, 3 passive; the foreign master with its sender, the Announces that it sent without a gap
and the elapsed time of its last one, of the last Sync; a Sync that waits for its Follow_Up; send and receive times of the last Sync; the
mean path delay; the requests under way; the sequence numbers used so far. Times in ns. -/
structure PtpPort where
  state : Nat := 0
  master : Option (PtpMaster × BitVec 64 × BitVec 16) := none
  announces : Nat := 0
  announceAt : Nat := 0
  syncAt : Option Nat := none
  /-- Sequence number, receive time and correction of a two-step Sync. -/
  syncWait : Option (BitVec 16 × Int × Int) := none
  /-- Origin time with correction, and receive time, of the last complete Sync. -/
  syncLast : Option (Int × Int) := none
  delay : Int := 0
  /-- Request for the path delay: sequence number, send time. -/
  req : Option (BitVec 16 × Int) := none
  /-- A two-step Pdelay_Resp: sequence number, receive time, request receipt time, correction. -/
  respWait : Option (BitVec 16 × Int × Int × Int) := none
  seqSync : BitVec 16 := 0
  seqReq : BitVec 16 := 0
  seqAnnounce : BitVec 16 := 0
deriving DecidableEq, Repr

/-- The correction of the time base (R176): of its frequency in ppb; of its phase as a rate in ppb, with what is still to be removed and what
has been removed since the last measurement, both in 10⁻⁹ ns; the fraction of a ns that the corrections so far come to. -/
structure SlewState where
  freq : Int := 0
  rate : Int := 0
  phase : Int := 0
  applied : Int := 0
  carry : Int := 0
deriving DecidableEq, Repr

/-- The time-stamp unit. TSU_SRC_STAT and TSU_OFFSET hold its status. -/
structure TimeState where
  ptpAvail : Bool := false
  pps0Avail : Bool := false
  pps1Avail : Bool := false
  pps0Last : Option Nat := none
  pps1Last : Option Nat := none
  /-- Last measured offset of the time base from the source in use, ns. -/
  offset : Int := 0
  /-- Offset that each source last showed: PTP, PPS_IN_0, PPS_IN_1. -/
  ptpOffset : Int := 0
  pps0Offset : Int := 0
  pps1Offset : Int := 0
  /-- STEP accepted (R179). -/
  stepReq : Bool := false
  /-- PTP ports (R187), and the messages that the last row gave to the transmit queues, by port. -/
  ports : Store PtpPort := []
  ptpSent : List (Nat × PtpMessage) := []
  /-- Transmit stamp queues by port: FRAME_ID and stamp (R184). -/
  stampq : Store (List (Nat × Nat)) := []
  din : Store DinUnit := []
  gpio : Word := 0
  gpioOut : Word := 0
  gpioDriven : Bool := false
  pps0High : Bool := false
  pps1High : Bool := false
  pps0Fall : Nat := 0
  pps1Fall : Nat := 0
deriving DecidableEq, Repr

/-! ## Sensor intake and trough (R189 to R215) -/

/-- An accepted sensor message as a sample of one channel (R191, R197): corrected time, stamp, acceptance instant, fields in binary64,
validity, and whether TIME_SLIP stood at its acceptance (R205). -/
structure Sample where
  tc : Int
  stamp : Nat
  fields : List F64
  /-- QUANTITY of each field by the template that took it (R193, R201). -/
  qtys : List Nat
  valid : Bool
  slip : Bool
deriving DecidableEq, Repr

/-- The settings of a channel that stood at t_h(k) (R201). -/
structure ChanCfg where
  required : Bool
  group : Nat
  period : Nat
  variance : Word
  template : Nat
  ownTime : Bool
deriving DecidableEq, Repr

/-- A sensor channel (R189 to R215). -/
structure Channel where
  /-- Samples held for the frame that is open or the next one, in order of acceptance. -/
  samples : List Sample := []
  newest : Option Sample := none
  /-- Largest t_c delivered, instant of the last acceptance. -/
  maxTc : Option Int := none
  lastAccept : Option Nat := none
  /-- A sample was accepted since the last input window close (R203). -/
  fresh : Bool := false
  /-- Offsets o with the instant of their acceptance, newest first (R204, R206). -/
  offsets : List (Nat × Int) := []
  slip : Bool := false
  slipSince : Nat := 0
  /-- Excluded (R209, R210) and frames agreed since (R212). -/
  excluded : Bool := false
  agreed : Nat := 0
  lateInFrame : Bool := false
  lateCnt : Nat := 0
  badCnt : Nat := 0
  exclCnt : Nat := 0
  /-- Samples of the last frame: number; t_c of the newest sample of the last frame that brought one. -/
  frameCount : Nat := 0
  frameTc : Option Int := none
  /-- Newest samples of this frame and the previous one that are valid (attitude, R222). -/
  attitude : List Sample := []
  innov : F64 := 0
  dist : F64 := 0
  /-- FLAGS bits of the last close: closed on this delivery, only valid channel, contradiction, dead-reckoning. -/
  closedOn : Bool := false
  only : Bool := false
  contradicts : Bool := false
deriving DecidableEq, Repr

/-- A sample as the contradiction tests and the observer take it: channel, t_c, validity, variance (binary64, with R205), values at the
close instant (north and east of the CO, or heading, or the raw fields). -/
structure Carried where
  chan : Nat
  group : Nat
  tc : Int
  valid : Bool
  var : F64
  /-- What the carriage to the close adds to the variance (R223). -/
  noise : F64
  vals : List F64
  /-- The sample itself. -/
  sample : Sample
deriving DecidableEq, Repr

/-- The trough. -/
structure TroughState where
  chans : Store Channel := []
  /-- The open frame: t_h(k), its close limit, the settings of its channels. -/
  openTh : Option Nat := none
  limit : Nat := 0
  cfg : Store ChanCfg := []
  /-- t_h of the frame that closed last. -/
  closedTh : Option Nat := none
  closeAt : Nat := 0
  /-- The channel whose delivery was the last to complete it. -/
  closer : Option Nat := none
  /-- A contradiction is flagged at the last close (R232). -/
  contradiction : Bool := false
  /-- Wind of the last frame that brought a valid wind sample: speed, angle in degrees; instant. -/
  wind : Option (F64 × F64) := none
  windAt : Nat := 0
  windInFrame : Bool := false
deriving DecidableEq, Repr

/-- A message that a CAN controller sent last (R195): 1 Address Claimed, 2 Cannot Claim, its source address and NAME. -/
structure CanSent where
  kind : Nat
  addr : Nat
  name : Nat
deriving DecidableEq, Repr

/-- The serial adapters (R195, R196). -/
structure SerState where
  /-- UARTs that send a user sentence, and the last sentence sent. -/
  busy : Store Unit := []
  sent : Store (List Byte) := []
  /-- Addresses claimed by other NAMEs, by CAN controller. -/
  taken : Store (List Nat) := []
  canSent : Store CanSent := []
deriving DecidableEq, Repr

/-! ## Observer and calibration refinement (R216 to R238) -/

/-- A copy in the NV calibration store (R235). -/
structure CalCopy where
  seq : Nat
  est : Store (List F64)
  cov : Store (List F64)
  ok : Bool := true
deriving DecidableEq, Repr

/-- The vessel observer. OBS_STAT holds STATE, ENGINE, FAILOVER, SPARE_LOST, CAL_FROZEN, CAL_BUSY. -/
structure ObsState where
  /-- n, e, ψ, u, v, r, b_X, b_Y, b_N, ξ_n1, ξ_n2, ξ_e1, ξ_e2, ξ_ψ1, ξ_ψ2 in binary64, angles in radians (R216). -/
  x : List F64 := []
  /-- The covariance, row by row of its upper triangle. -/
  cov : List F64 := []
  /-- Close instant of the last frame consumed. -/
  closeAt : Nat := 0
  /-- Achieved τ in effect from each pump boundary at which it changed, oldest first, back to the last close (R217). -/
  tauLog : List (Nat × F64 × F64 × F64) := []
  hdgSet : Bool := false
  posSet : Bool := false
  /-- State mirrored in the cistern: states, covariance, close instant, origin words are registers. -/
  mirrored : Option (List F64 × List F64 × Nat) := none
  /-- Engine C1 is lost; a fault arose during the present update (R229). -/
  bad1 : Bool := false
  cutUpdate : Bool := false
  drPos : Bool := false
  drHdg : Bool := false
  drPosNs : Nat := 0
  drHdgNs : Nat := 0
  expPos : Bool := false
  expHdg : Bool := false
  attAbsent : Bool := false
  farOrigin : Bool := false
  /-- Commands that wait for a hold boundary or a close. -/
  originReq : Bool := false
  reinitReq : Bool := false
  calReset : Bool := false
  chanReset : Store Unit := []
  datumReq : Store Unit := []
  /-- Elapsed time at which the observer entered RUN (R232). -/
  runSince : Nat := 0
  updates : Nat := 0
  gated : Nat := 0
  /-- Consecutive frames in which every sample of a group was gated, by group (R225). -/
  gates : Store Nat := []
  /-- Refinement by channel: estimates (x, y, z, δ), covariance, applied corrections; channels at their envelope (R231 to R234). -/
  est : Store (List F64) := []
  estCov : Store (List F64) := []
  applied : Store (List F64) := []
  /-- By channel, the axes at their envelope (bit i: correction i). -/
  atEnv : Store Nat := []
  /-- The two copies of the calibration store, a save in progress, a save deferred by DIP. -/
  copyA : Option CalCopy := none
  copyB : Option CalCopy := none
  saving : Option CalCopy := none
  saveWanted : Bool := false
deriving DecidableEq, Repr

/-! ## Loop engine (R239 to R262) -/

/-- A loop slot (R243 to R254). -/
structure LoopSlot where
  /-- 0 OPEN, 1 MANUAL, 2 TRACK, 3 AUTO, 4 CASCADE. -/
  state : Nat := 0
  gainB : Bool := false
  w : F64 := 0
  vr : F64 := 0
  y : F64 := 0
  yPrev : F64 := 0
  /-- Last good process value, the target of the last sample, last good target and feedforward value. -/
  yGood : Option F64 := none
  target : Option F64 := none
  goodTarget : Option F64 := none
  ffGood : F64 := 0
  e : F64 := 0
  u : F64 := 0
  v : F64 := 0
  i : F64 := 0
  d : F64 := 0
  ff : F64 := 0
  blend : F64 := 0
  blendStep : F64 := 0
  /-- w at the reversal being measured, OVERTRAVEL. -/
  reversal : Option F64 := none
  overtravel : F64 := 0
  result : Nat := 0
  flags : Nat := 0
  /-- A closed loop is held for a bad process value (one episode, R242). -/
  held : Bool := false
  /-- u(j) held for OUT, and the cycle at whose freeze it is written. -/
  outAt : Option Nat := none
  writeOut : Bool := false
  /-- Status points wait for the freeze of the due cycle. -/
  publish : Bool := false
  /-- MAN takes u(j-1) on entry to MANUAL. -/
  manNew : Option F64 := none
  restored : Bool := false
  /-- The restored u is still to be written once into OUT (R260). -/
  restoreOut : Bool := false
deriving DecidableEq, Repr

/-- The loop engine. -/
structure LoopState where
  slots : Store LoopSlot := []
  /-- Requests latched by writes to CMD, by loop (R246). -/
  cmd : Store Word := []
  /-- Command points and targets of the DP loops as captured at t_h(k) (R25): CMD requests, MAN, targets and CAS, by point. -/
  holdCmd : Store Word := []
  holdPoints : Store Point := []
  /-- Wind feedforward of the three DP loops held (R258), in the order surge, sway, yaw; whether it was dropped. -/
  windFF : List F64 := [0, 0, 0]
  windLost : Bool := false
deriving DecidableEq, Repr

/-! ## Allocation (R263 to R294) -/

/-- The present state of a thruster at the post instant with its rows (R267, R268): T⁰ and α⁰ (deg), axis d⁰, half width h (deg), the
wedge's edges (deg, start and end clockwise; none: the variables are held at zero), and whether it was taken from the command. -/
structure ThrPost where
  t0 : F64
  a0 : F64
  d0 : F64 × F64
  h : F64
  wedge : Option (F64 × F64)
  fromCmd : Bool
deriving DecidableEq, Repr

/-- A thruster's part of a solution: signed thrust, azimuth, forces, power, power limit, utilisation, flags (R283, R291). -/
structure ThrSol where
  thrust : F64 := 0
  az : F64 := 0
  fx : F64 := 0
  fy : F64 := 0
  power : F64 := 0
  plim : F64 := 0
  util : F64 := 0
  flags : Nat := 0
deriving DecidableEq, Repr

/-- A bus section's part of a solution (R283, R292). -/
structure BusSol where
  gen : F64 := 0
  avail : F64 := 0
  used : F64 := 0
  util : F64 := 0
deriving DecidableEq, Repr

/-- A collected solution (R283, R284). -/
structure Solution where
  thr : Store ThrSol := []
  bus : Store BusSol := []
  tau : F64 × F64 × F64 := (0, 0, 0)
  slack : F64 × F64 × F64 := (0, 0, 0)
  margin : F64 := 0
  busUtil : F64 := 0
  overTol : Bool := false
  /-- Age in hold cycles since it was posted (R293). -/
  age : Nat := 0
deriving DecidableEq, Repr

/-- A set of thrusters, buses and generators (F, L_c). -/
structure LossSet where
  thr : Nat := 0
  bus : Nat := 0
  gen : Nat := 0
deriving DecidableEq, Repr

/-- What was taken at the post instant (R263, R267, R269, R276). -/
structure PostData where
  tau : F64 × F64 × F64
  failed : LossSet
  thr : Store ThrPost
  gens : Store F64
  loads : Store F64
  posted : List Nat
deriving DecidableEq, Repr

/-- The allocation block. ALLOC_STAT holds its flags. -/
structure AllocState where
  failed : LossSet := {}
  governing : Nat := 0
  lastSwitch : Nat := 4294967295
  switchCycle : Nat := 0
  /-- Loss sets of the contexts switched in since the governing context was last 0 (R287, R288), and whether one was a fallback. -/
  switched : List Nat := []
  fallbackSince : Bool := false
  /-- A switch-in decided in the last evaluation, for the next boundary, and whether another context governed then (R286, R287). -/
  switchIn : Option (Nat × Bool) := none
  /-- Switched in during this hold cycle. -/
  switchedNow : Bool := false
  post : Option PostData := none
  sols : Store Solution := []
  /-- The solution in effect. -/
  inEffect : Option Solution := none
  /-- Commanded azimuth in effect and its continuous form, in rad, by thruster (R289). -/
  azNow : Store F64 := []
  azCont : Store F64 := []
  /-- Trigger values at the previous evaluation, by context; one that is not listed takes the present value (R282). -/
  trig : Store Bool := []
  /-- ARM points of the hold snapshot. -/
  arm : List Word := []
  /-- Contexts collected at the last collection. -/
  collected : List Nat := []
  /-- RESTORE commands written since the last post, and the result (R274). -/
  restore : Option Word := none
  restoreResult : Nat := 0
  /-- Last good LOAD by bus (R269). -/
  loadGood : Store F64 := []
  worstCtx : Nat := 0
  worstMargin : F64 := 0
  tau : F64 × F64 × F64 := (0, 0, 0)
deriving DecidableEq, Repr

/-! ## Solver (R295 to R322) -/

/-- A slot of the solver: the last run's report, its iterate, warm start and modes (R303 to R315). -/
structure CtxSlot where
  status : Nat := 6
  flags : Nat := 0
  newton : Nat := 0
  inner : Nat := 0
  merit : F64 := 0
  floors : Nat := 0
  floorCol : Nat := 0
  timeNs : Nat := 0
  /-- The iterate returned in this hold cycle. -/
  iterate : Option (List F64) := none
  /-- The narrow iterate kept at a breach (R304). -/
  keptNarrow : Option (List F64) := none
  warm : Option (List F64) := none
  /-- The descriptor or the binding changed since the post: what the run returns is no warm start (R303). -/
  forget : Bool := false
  /-- The values that lie in storage, by feed index (R301). -/
  resident : List F64 := []
  /-- The words of the factor stored last; whether the next run uses it (R314). -/
  factor : Option (List F64) := none
  keptPending : Bool := false
  wide : Bool := false
  /-- Whether a word of this hold cycle would have saturated in the narrow formats; hold cycles without one (R305). -/
  clash : Bool := false
  wideClean : Nat := 0
  posted : Bool := false
deriving DecidableEq, Repr

/-- A compute die: posted contexts still to start, queued wide re-runs, the context that runs, whether it is a re-run. -/
structure DieState where
  list : List Nat := []
  reruns : List Nat := []
  running : Option Nat := none
  rerun : Bool := false
deriving DecidableEq, Repr

/-- The header of a hatch (R299). -/
structure HatchHeader where
  version : Nat := 1
  kind : Nat
  id : Nat
  n : Nat
  m : Nat
  nnzK : Nat := 0
  nnzL : Nat := 0
  blocks : Nat
  maxNewton : Nat
  maxInner : Nat
  sections : Nat := 0
  costNs : Nat
  wideNs : Nat
  resident : Nat := 0
  tolOuter : Word
  tolInner : Word
  tableOfs : Nat := 64
  length : Nat
deriving DecidableEq, Repr

/-- A hatch (R299, R300): header, SVN of its KEY section, exponents of each row block, the other sections. -/
structure Hatch where
  hdr : HatchHeader
  svn : Nat
  qfmt : List (Int × Int × Int × Int)
  desc : HatchDesc
deriving DecidableEq, Repr

/-- An entry of the hatch library (R298): 0 EMPTY, 1 LOADING, 2 VERIFYING, 3 VERIFIED, 4 STORED. -/
structure HatchEntry where
  state : Nat := 0
  desc : Option Hatch := none
  words : Store Word := []
deriving DecidableEq, Repr

/-- The solver engine. SOLV_STAT, SOLV_EVT_CNT and SOLV_FLOOR_CNT hold its status. -/
structure SolvState where
  slots : Store CtxSlot := []
  dies : Store DieState := []
  /-- The deadline of the hold cycle, while a solve window is open (R312). -/
  deadline : Option Nat := none
  entries : Store HatchEntry := []
  /-- The NV hatch store, by entry. -/
  nv : Store (Hatch × Verdict) := []
  /-- A VERIFY or STORE in progress: entry, whether STORE, whether it is deferred by DIP. -/
  op : Option (Nat × Bool) := none
  /-- Bind inputs of user hatches as captured at t_h(k) (R318). -/
  holdIn : Store (List Word) := []
  /-- Entries of the user slots posted last, by slot (R318). -/
  bound : Store Nat := []
deriving DecidableEq, Repr

/-! ## Redundancy (R323 to R352) -/

/-- What the part knows of a partner from its proof-link frames (R324, R325). `last` is the cycle count of the part when the last valid
frame arrived. -/
structure Partner where
  unit : Nat
  claim : BitVec 16
  last : Nat
  sync : Nat
  plateId : Word
  isolated : Bool
  unitBad : Bool
  reachable : Bool
deriving DecidableEq, Repr

/-- A cycle proof or lockstep forward being received (R330, R337): sender, cycle, frames, records in order, whether complete. -/
structure RxProof where
  unit : Nat
  n : Nat
  frames : Nat
  records : List ProofRecord
  complete : Bool
  lockstepStart : Bool
  admission : Bool
deriving DecidableEq, Repr

/-- The phase of an admission at the active and at the standby (R337): none, transfer, entry (LOCKSTEP_START sent or received), lockstep,
admission (ADMIT sent or received). -/
inductive AdmitPhase where
  | none | transfer | entry | lockstep | admission
deriving DecidableEq, Repr

/-- The redundancy block. RED_STAT holds ROLE, SYNC_STATE, EPOCH, RELEASE_BLOCKED, PLATE_DIFF, PROOF_MISS and UNIT_BAD. -/
structure RedState where
  partners : List Partner := []
  /-- Frames taken already in this and the last cycle: unit, n, serial (R324). -/
  seen : List (Nat × Nat × Nat) := []
  /-- The frame relayed by the last PROOF_LINK_FRAME_RX, with its lane. -/
  relayed : Option (Nat × ProofFrame) := none
  /-- Causes of R342 that only a hardware reset clears, and pace. -/
  memErr : Bool := false
  voteErr : Bool := false
  handshake : Bool := false
  paceLow : Bool := false
  /-- The proof or forward being received, and the cycle whose proof was applied last. -/
  rx : Option RxProof := none
  applied : Nat := 0
  /-- Own claim last sent, and the frames sent in the present cycle. -/
  lastClaim : Nat := 0
  sentClaims : List Nat := []
  sentProofs : List ProofFrame := []
  /-- A release was decided and takes effect at its boundary; boundaries to pass first (R344). -/
  release : Option Nat := none
  /-- A release was received from the active (R345); instant of its receipt. -/
  released : Option Nat := none
  /-- More than half of the delivering stations echo the own claim (R346); a winning ACTIVE claim was seen (R348). -/
  echoMajority : Bool := false
  yieldTo : Option (BitVec 16) := none
  /-- Admission: phase, the standby concerned, MATCH run, consecutive failures, a proof test (R337 to R339). -/
  admission : AdmitPhase := .none
  admitUnit : Nat := 0
  admitRun : Nat := 0
  failures : Nat := 0
  proofTest : Bool := false
  /-- Forwards received in lockstep, whole or in part, that wait for execution; digests of the active, by cycle (R337). -/
  forwards : List RxProof := []
  digests : Store Nat := []
  /-- Records of segments received and not yet applied. -/
  segments : List ProofRecord := []
  /-- At the active: items of the transfer sent so far; the forward of the present cycle has been sent. -/
  xferPos : Nat := 0
  fwdSent : Bool := false
  /-- At a standby: the close waits for the proof (R331); cycles after this one have a proof; no task runs in this cycle (R337). -/
  waiting : Bool := false
  proofFrom : Nat := 0
  noTasks : Bool := false
  /-- At a part that has just taken ACTIVE: the proof of the cycle before is still to be applied (R345). -/
  lastProof : Bool := false
  /-- Digest of the output area at the last freeze. -/
  ownDigest : Nat := 0
  /-- Hold-stream parts received: what has come, whether some is still missing, whether the part is complete (R332). -/
  obsPart : List (BitVec 64) := []
  obsPartial : Bool := false
  obsWhole : Bool := false
  warmPart : List (Nat × List F64) := []
  warmPartial : Bool := false
  warmWhole : Bool := false
  hbMiss1 : Nat := 0
  hbMiss2 : Nat := 0
  beat1 : Bool := false
  beat2 : Bool := false
  /-- The cycle whose misses are counted; the standby takes ACTIVE at the next boundary (R350). -/
  beatAt : Option Nat := none
  beatTake : Bool := false
  proofBytes : Nat := 0
  proofMiss : Nat := 0
  takeovers : Nat := 0
  takeCycle : Nat := 0
  digestDiff : Nat := 0
deriving DecidableEq, Repr

/-! ## Span (R353 to R364) and safety (R365 to R377) -/

/-- What a span node delivered in the present cycle (R356, R359). -/
structure NodeCopy where
  from2 : Bool
  from3 : Bool
  echo : BitVec 16
  entries : List (Word × Byte)
  /-- Lane and instant of the copy that was taken (R429). -/
  lane : Nat
  stamp : Nat
deriving DecidableEq, Repr

/-- The span topology block. SPAN_STAT holds LANE_UP, CFG_BAD, UP_LOST and SPAN_BAD_CNT. -/
structure SpanState where
  nodes : Store NodeCopy := []
  crcBad : Store Unit := []
  countBad : Store Unit := []
  /-- A node: the output record of the present cycle has arrived, its instant, the root's claim (R358). -/
  upSeen : Bool := false
  upAt : Nat := 0
  upClaim : BitVec 16 := 0
  /-- A node: header time stamp and arrival of the last output record, and the measured hop delay of its upstream lane in ns (R358). -/
  upLast : Option (Nat × Nat) := none
  hop : Nat := 0
  /-- Frames sent on the span in the present cycle: records to nodes or the input record to the root, and frames forwarded. -/
  sent : List SpanFrame := []
  forwarded : List SpanFrame := []
  /-- The ring was broken at the last close (R363). -/
  ringBroken : Bool := false
deriving DecidableEq, Repr

/-- The safety block. -/
structure SafeState where
  /-- OUT_CMD as read at the last freeze, and the commands in force since the last boundary whose interlock is satisfied (R365, R366). -/
  cmdRead : Nat := 0
  cmd : Nat := 0
  /-- Outputs whose OUT_CMD bit has read 0 at a freeze since their last latch or reset (R371). -/
  interlock : Nat := 0
  /-- Outputs driven high. -/
  high : Nat := 0
  /-- Levels of TRIP_IN, faults (R368). -/
  tripIn : Nat := 0
  tripFault : Nat := 0
  /-- Latched trip inputs and latched monitors, each with the groups that it trips (R369, R370). -/
  tripLatch : Store Nat := []
  runLatch : Store Nat := []
  runCount : Store Nat := []
  /-- Outputs latched off for a discrepancy, and consecutive failed checks (R374). -/
  disc : Nat := 0
  failed : Store Nat := []
  /-- The output whose pulse is in progress, the outputs whose failed pulse is to be repeated, the outputs whose regular pulse waits for a repeat,
  and the scheduled instant of an output's last regular pulse. -/
  pulsing : Option Nat := none
  repeats : Store Unit := []
  waiting : List Nat := []
  pulsed : Store Nat := []
  /-- Instant of an output's last change or pulse end. -/
  changed : Store Nat := []
  fb : Nat := 0
  /-- RESET point at the last freeze, host requests (R372). -/
  resetPt : Nat := 0
  hostTrip : Bool := false
  hostDisc : Bool := false
  tripCnt : Nat := 0
  discCnt : Nat := 0
  pulses : Nat := 0
  /-- A SAFE alarm is active. -/
  alarm : Bool := false
deriving DecidableEq, Repr

/-! ## Security (R435 to R445) -/

/-- The security block. SEC_STAT.RNG_FAIL, FUSE_BUSY, FUSE_RESULT and SEC_IMG_STAT hold the status. -/
structure SecState where
  /-- Instant of an arming not yet used (R441). -/
  armedAt : Option Nat := none
  /-- The fuse operation in progress: OP and SLOT. -/
  fuseOp : Option (Nat × Nat) := none
  /-- The hash that PROGRAM_SLOT blows. -/
  fuseHash : List Word := []
  /-- Seed of the cistern bank interleave; no path reads it (R444). -/
  seed : Nat := 0
  /-- Last word that SEC_RNG returned. -/
  lastRng : Nat := 0
deriving DecidableEq, Repr

/-- The die variants (R1). -/
inductive Variant where
  | d2 | d4 | d8
deriving DecidableEq, Repr

/-- A key slot of the fuse bank (R436, R437). -/
structure KeySlot where
  hash : List Word := []
  valid : Bool := false
  revoked : Bool := false
deriving DecidableEq, Repr

/-- The fuse bank (R435 to R443, R154). -/
structure Fuses where
  slot0 : KeySlot := {}
  slot1 : KeySlot := {}
  slot2 : KeySlot := {}
  slot3 : KeySlot := {}
  rollback : Nat := 0
  dbgOff : Bool := false
  mfgOff : Bool := true
  baseMac : BitVec 48 := 0
  stepping : Byte := 0
deriving DecidableEq, Repr

/-- The part. -/
structure State where
  /-- Commands waiting, first in, first out: the model's own field. -/
  pending : List Instr := []
  /-- Index of the next free value: the model's own field (log entry 6). -/
  freeCtr : Nat := 0
  variant : Variant := .d8
  /-- Temperature grade: true for XT (R468). -/
  gradeXT : Bool := true
  fuses : Fuses := {}
  mode : Mode := .boot
  phase : Phase := .idle
  /-- The time base, ns (R174). -/
  now : Nat := 0
  /-- Nanoseconds that have passed, whatever the time base does (time limits). -/
  up : Nat := 0
  /-- The boundary that started the present pump cycle, and the next one (R15, R175). -/
  bnd : Nat := 0
  nextBnd : Nat := 0
  /-- The pump cycle count n (R16). -/
  n : Nat := 0
  regs : Store Nat := []
  deviations : List Deviation := []
  /-- Consecutive scrubs that found a disagreement, by register address (R48). -/
  voteStreak : Store Nat := []
  points : Store Point := []
  host : HostState := {}
  images : ImageState := {}
  pump : PumpState := {}
  mirror : MirrorState := {}
  /-- Writes of the present cycle, and of the cycle before (kept by a standby until its proof is applied). -/
  wlog : CycleLog := {}
  wlogPrev : CycleLog := {}
  span : SpanState := {}
  red : RedState := {}
  safe : SafeState := {}
  sec : SecState := {}
  ser : SerState := {}
  trough : TroughState := {}
  obs : ObsState := {}
  loops : LoopState := {}
  alloc : AllocState := {}
  solv : SolvState := {}
  qm : QmgrState := {}
  stn : StnState := {}
  slew : SlewState := {}
  time : TimeState := {}
  plate : PlateState := {}
  rcd : RecState := {}
  cap : CapState := {}
  rst : ResetState := {}
  pwr : PowerState := {}
  keep : KeepState := {}
deriving DecidableEq, Repr

/-- The part right after reset: the start of the boot of a power-on with the keeper lost (log entry 1). Fields of registers read their
reset value because the store lists none. -/
def State.reset : State := {}

end Sys2Proof.Machine
end

