-- ==== Sys2Proof/Machine/Layout.lean ====
section
/-! DEFINITION. The point address space: areas (R68, R69), device points and their types (R73, R74, R173, R215, R237, R261,
R291 to R293, R321, R351, R363, R376, R417), command points, quality (R66), and what an unlisted point reads as (R71). -/

namespace Sys2Proof.Machine

/-- The class that the part pairs with a reason (R66); plate-defined and reserved reasons give good. -/
def reasonClass (r : Nat) : Nat :=
  match r with
  | 0x01 | 0x02 | 0x0C | 0x0D => 3
  | 0x03 | 0x04 | 0x05 | 0x06 | 0x08 | 0x0B => 2
  | 0x07 | 0x09 | 0x0A => 1
  | _ => 0

/-- The quality byte of a reason with its paired class (R63, R66). -/
def qual (reason : Nat) : Byte := BitVec.ofNat 8 (reasonClass reason * 64 + reason)

/-- The class of a quality byte. -/
def Point.cls (p : Point) : Nat := p.quality.toNat / 64

/-- Whether the class is good (R66). -/
def Point.good (p : Point) : Bool := decide (p.quality.toNat < 64)

/-- Whether the class is good or uncertain. -/
def Point.usable (p : Point) : Bool := decide (p.quality.toNat < 128)

def Variant.stations : Variant → Nat | .d2 => 128 | _ => 1024
def Variant.contexts : Variant → Nat | .d2 => 0 | .d4 => 64 | .d8 => 256
def Variant.channels : Variant → Nat | .d2 => 0 | _ => 64
def Variant.dies : Variant → Nat | .d2 => 0 | .d4 => 1 | .d8 => 4

/-- Whether the variant has the block of this index (R1, R3): ONA-D2 lacks trough, observer, allocation, solver and the capture
ring. -/
def Variant.has (v : Variant) (block : Nat) : Bool :=
  match v with
  | .d2 => decide (block ≠ 10 ∧ block ≠ 11 ∧ block ≠ 13 ∧ block ≠ 14 ∧ block ≠ 20)
  | _ => true

/-- The areas of the image (R68). -/
inductive Area where
  | input | output | marker | device | retentive
deriving DecidableEq, Repr

def areaOf (p : Nat) : Area :=
  if p < 0x40000 then .input
  else if p < 0x80000 then .output
  else if p < 0xE0000 then .marker
  else if p < 0xF0000 then .device
  else .retentive

/-- Whether an address lies in a populated area (R68, R69). -/
def populated (v : Variant) (p : Nat) : Bool :=
  match v with
  | .d2 => decide (p < 0x2000 ∨ 0x40000 ≤ p ∧ p < 0x42000 ∨ 0x80000 ≤ p ∧ p < 0x82000 ∨ 0xE0000 ≤ p ∧ p < 0xE8000
      ∨ 0xF0000 ≤ p ∧ p < 0xF2000)
  | _ => decide (p < 0x100000)

/-- The type of a device point by its offset in the device area, none where the layout leaves the address unused. -/
def devTypeOf (o : Nat) : Option Nat :=
  if o < 0x2000 then
    (match o % 16 with | 0 | 1 | 2 => some 2 | 15 => some 0 | _ => some 3)
  else if o < 0x2100 then
    (let k := o - 0x2000
     if 0x17 ≤ k then none
     else match k with | 0x0F | 0x13 | 0x14 => some 2 | 0x10 | 0x15 | 0x16 => some 0 | _ => some 3)
  else if o < 0x2500 then
    (match o % 16 with | 0 | 3 | 4 | 5 | 10 => some 2 | 1 => some 0 | 2 | 6 | 7 | 8 | 9 => some 3 | _ => none)
  else if o < 0x3000 then none
  else if o < 0x3200 then
    (match o % 16 with | 0 => some 2 | 9 => some 0 | 1 | 2 | 3 | 4 | 5 | 6 | 7 | 8 => some 3 | _ => none)
  else if o < 0x3280 then
    (match o % 16 with | 0 => some 2 | 1 | 2 | 3 | 4 => some 3 | _ => none)
  else if o < 0x3400 then
    (match o - 0x3280 with
     | 0x0 | 0x2 | 0x3 | 0x4 | 0x18 | 0x19 => some 2
     | 0x1 | 0x9 | 0xA | 0x10 | 0x11 | 0x12 | 0x13 | 0x14 | 0x15 | 0x16 | 0x17 => some 0
     | 0x5 | 0x6 | 0x7 | 0x8 => some 3
     | _ => none)
  else if o < 0x4000 then
    (match (o - 0x3400) % 12 with | 0 | 10 => some 0 | 9 => some 2 | 11 => none | _ => some 3)
  else if o < 0x4800 then
    (match o % 8 with | 1 => some 0 | 4 | 7 => some 3 | _ => some 2)
  else if o < 0x5000 then none
  else if o < 0x6000 then (match o % 4 with | 3 => some 0 | _ => some 2)
  else if o < 0x6100 then
    (if 0x600F ≤ o then none else match o - 0x6000 with | 0x3 | 0xA => some 0 | _ => some 2)
  else if o < 0x6200 then
    (if 0x610A ≤ o then none else if o < 0x6107 then some 0 else some 2)
  else if o < 0x6300 then
    (match o - 0x6200 with | 0 | 3 => some 3 | 1 => some 0 | 2 | 4 | 5 => some 2 | _ => none)
  else if o < 0x6400 then
    (if 0x630E ≤ o then none
     else match o - 0x6300 with | 3 => some 0 | 7 | 8 | 9 | 12 => some 3 | _ => some 2)
  else if o < 0x6500 then (match o % 4 with | 3 => some 0 | _ => some 2)
  else none

/-- Whether the variant lacks the block or the index that owns a device point (R3, R4). -/
def devAbsent (v : Variant) (o : Nat) : Bool :=
  if o < 0x2000 then false
  else if o < 0x2500 then !v.has 10
  else if 0x3000 ≤ o ∧ o < 0x3400 then !v.has 13
  else if 0x3400 ≤ o ∧ o < 0x4000 then decide (v.contexts ≤ (o - 0x3400) / 12)
  else if 0x4000 ≤ o ∧ o < 0x4800 then decide (v.contexts ≤ (o - 0x4000) / 8)
  else if 0x5000 ≤ o ∧ o < 0x6000 then decide (v.stations ≤ (o - 0x5000) / 4)
  else false

/-- The device command points (R68): CMD and MAN of each loop (R261), ARM_0 to ARM_7 and RESTORE (R292), OUT_CMD and RESET of the
safety block (R376). -/
def isCommandPoint (p : Nat) : Bool :=
  decide (0xE0000 ≤ p ∧ p < 0xE2000 ∧ (p % 16 = 0 ∨ p % 16 = 14) ∨ 0xE3290 ≤ p ∧ p ≤ 0xE3298 ∨ p = 0xE6100 ∨ p = 0xE6101)

/-- What an unlisted point reads as: NOT_PRESENT outside the populated areas and in ranges of absent blocks (R3, R69), NOT_DECLARED where
the layout leaves an address unused or no plate declares it (R71, R73), INIT for a device point that its block has not yet
written (R66). -/
def pointDefault (v : Variant) (p : Nat) : Point :=
  if populated v p then
    match areaOf p with
    | .device =>
      if devAbsent v (p - 0xE0000) then { value := 0, quality := qual 0x0C, type := 2 }
      else match devTypeOf (p - 0xE0000) with
        | some t => { value := 0, quality := qual 0x01, type := t }
        | none => { value := 0, quality := qual 0x0D, type := 2 }
    | .retentive => { value := 0, quality := qual 0x0D, type := 2, retain := true }
    | _ => { value := 0, quality := qual 0x0D, type := 2 }
  else { value := 0, quality := qual 0x0C, type := 2 }

end Sys2Proof.Machine
end

