-- ==== Sys2Proof/Machine/Ops.lean ====
section
/-! DEFINITION. The named operations that every block uses: register fields, free values, time, points. -/

namespace Sys2Proof.Machine

/-- The status code of R60. -/
def Status.code : Status → Nat
  | .done => 0x00 | .busy => 0x01 | .locked => 0x02 | .level => 0x03 | .loopClosed => 0x04 | .txnBusy => 0x05
  | .txnTimeout => 0x06 | .badImage => 0x07 | .signature => 0x08 | .range => 0x09 | .notPresent => 0x0A | .role => 0x0B
  | .state => 0x0C

/-- A bit of a number. -/
def bitAt (v i : Nat) : Bool := decide (v / 2 ^ i % 2 = 1)

/-- Bits [lo + width - 1 : lo] of a number. -/
def bitsAt (v lo width : Nat) : Nat := v / 2 ^ lo % 2 ^ width

/-- A Bool as a bit. -/
def b2n (b : Bool) : Nat := if b then 1 else 0

/-- The number whose bits are the list, least significant first. -/
def ofBits : List Bool → Nat
  | [] => 0
  | b :: t => b2n b + 2 * ofBits t

/-- A counter of `w` bits that stays at its largest value. -/
def satInc (w v : Nat) : Nat := if v + 1 < 2 ^ w then v + 1 else 2 ^ w - 1

/-- A two's-complement field of `w` bits as an integer. -/
def sext (w v : Nat) : Int := if 2 ^ (w - 1) ≤ v then (v : Int) - (2 ^ w : Nat) else v

/-! ## CRC-32C and bytes -/

/-- One bit of a CRC-32C. -/
def crcBit (c : Nat) : Nat := if c % 2 = 1 then c / 2 ^^^ 0x82F63B78 else c / 2

/-- CRC-32C over bytes. -/
def crc32c (l : List Nat) : Nat :=
  (l.foldl (fun c b => (List.range 8).foldl (fun x _ => crcBit x) (c ^^^ b)) 0xFFFFFFFF) ^^^ 0xFFFFFFFF

/-- A number as n bytes, little-endian. -/
def leBytes : Nat → Nat → List Nat
  | 0, _ => []
  | n + 1, v => v % 256 :: leBytes n (v / 256)

/-- Bytes, least significant first, as a number. -/
def leWord : List Nat → Nat
  | [] => 0
  | b :: t => b + 256 * leWord t

/-! ## Register fields -/

/-- The value of a register field of instance `i`. -/
def State.get (s : State) (f : Fld) (i : Nat := 0) : Nat := storeGet s.regs (f.key i) (f.resetOf i)

/-- A one-bit field. -/
def State.flag (s : State) (f : Fld) (i : Nat := 0) : Bool := decide (s.get f i = 1)

/-- A field holding a point address. -/
def State.getAddr (s : State) (f : Fld) (i : Nat := 0) : Nat := s.get f i

/-- Write a register field of instance `i`. -/
def State.set (s : State) (f : Fld) (v : Nat) (i : Nat := 0) : State :=
  { s with regs := storeSet s.regs (f.key i) (v % 2 ^ f.width) (f.resetOf i) }

def State.setFlag (s : State) (f : Fld) (b : Bool) (i : Nat := 0) : State := s.set f (b2n b) i

/-- Increment a counter field that saturates at its largest value. -/
def State.count (s : State) (f : Fld) (i : Nat := 0) : State := s.set f (satInc f.width (s.get f i)) i

/-- The instances for which a field that resets to 0 is not 0, in rising order. -/
def State.instancesOf (s : State) (f : Fld) : List Nat :=
  s.regs.filterMap (fun e => if e.1 % 536870912 = f.addr * 32 + f.lo ∧ e.2 ≠ 0 then some (e.1 / 536870912) else none)

/-! ## Free values (log entry 6) -/

/-- Draw the next free value, its low `bits` bits. -/
def State.draw (s : State) (bits : Nat) : Nat × State :=
  (Config.freeValue s.freeCtr % 2 ^ bits, { s with freeCtr := s.freeCtr + 1 })

/-- Draw a free binary64 value. -/
def State.drawF64 (s : State) : F64 × State :=
  let d := s.draw 64
  (BitVec.ofNat 64 d.1, d.2)

/-! ## Time -/

/-- T_p in ns (T_P counts 10 µs). -/
def State.tp (s : State) : Nat := s.get Reg.PUMP_CYCLE_CTL_T_P * 10000

/-- K, pump cycles per hold cycle. -/
def State.kHold (s : State) : Nat := s.get Reg.PUMP_CYCLE_CTL_K

/-- T_h in ns (R24). -/
def State.th (s : State) : Nat := s.tp * s.kHold

/-- The output reserve in ns. -/
def State.outReserve (s : State) : Nat := s.get Reg.PUMP_CYCLE_CTL_OUT_RESERVE * 1000

/-- INPUT_WIN in ns: a percentage of T_p (R166). -/
def State.inputWin (s : State) : Nat := s.tp * s.get Reg.STN_CYCLE_CFG_INPUT_WIN_PCT / 100

/-- The output reserve instant of the present cycle (R17 step 6). -/
def State.reserveAt (s : State) : Nat := s.nextBnd - s.outReserve

/-- What the correction of the phase comes to over `dt` ns, in 10⁻⁹ ns: no more than is left of it (R176). -/
def SlewState.phaseOver (w : SlewState) (dt : Nat) : Int :=
  if (dt * w.rate : Int).natAbs < w.phase.natAbs then dt * w.rate else if w.rate = 0 then 0 else w.phase

/-- What both corrections come to over `dt` ns, with the fraction left from before, in 10⁻⁹ ns. -/
def SlewState.over (w : SlewState) (dt : Nat) : Int := w.carry + dt * w.freq + w.phaseOver dt

/-- The correction after `dt` ns. -/
def SlewState.pass (w : SlewState) (dt : Nat) : SlewState :=
  let p := w.phaseOver dt
  { w with phase := w.phase - p, applied := w.applied + p, carry := w.over dt % 1000000000, rate := if w.phase - p = 0 then 0 else w.rate }

/-- The time that passes while the time base counts `dt` ns: less by what its corrections add (R174, R176). -/
def State.elapsed (s : State) (dt : Nat) : Nat := (dt - s.slew.over dt / 1000000000).toNat

/-- The time base counts `dt` ns: the elapsed time and, while its oscillator runs, the keeper follow. -/
def State.advance (s : State) (dt : Nat) : State :=
  let e := s.elapsed dt
  { s with now := s.now + dt, up := s.up + e, slew := s.slew.pass dt,
           keep := if s.keep.running then { s.keep with ns := s.keep.ns + e } else s.keep }

/-- Let time pass up to an instant of the time base; none passes when it is reached. -/
def State.advanceTo (s : State) (t : Nat) : State := s.advance (t - s.now)

/-- Let time pass up to an instant of elapsed time: the time base counts what its corrections add. -/
def State.waitUntil (s : State) (t : Nat) : State :=
  let e := t - s.up
  let w := s.slew.pass e
  { s with now := s.now + (e + s.slew.over e / 1000000000).toNat, up := s.up + e, slew := w,
           keep := if s.keep.running then { s.keep with ns := s.keep.ns + e } else s.keep }

/-- KEEP_TICK: 32,768 ticks per second, 48 bits (R411). -/
def State.keepTick (s : State) : Nat := s.keep.ns * 32768 / 1000000000 % 2 ^ 48

/-- The keeper's calendar, ns (R411): one tick is 30,517.578125 ns. -/
def State.calendar (s : State) : Nat := s.keep.calBase + s.keepTick * 1953125 / 64

/-- TIME_VALID (R178). -/
def State.timeValid (s : State) : Bool := s.flag Reg.TSU_SRC_STAT_TIME_VALID

/-- Whether the present pump cycle starts a hold cycle (R16). -/
def State.isHold (s : State) : Bool := decide (s.n % s.kHold = 0)

/-- Whether the part is in one of the states with pump boundaries. -/
def State.running (s : State) : Bool := decide (s.mode = .run ∨ s.mode = .park ∨ s.mode = .replay)

/-- In restart cycles (R91). -/
def State.restarting (s : State) : Bool := decide (0 < s.pump.restartLeft)

/-- Whether tasks run in the present cycle: RUN or REPLAY, outside restart cycles. -/
def State.tasksRun (s : State) : Bool := (decide (s.mode = .run) || decide (s.mode = .replay)) && !s.restarting

/-- `skip` of a command that applies at the next pump boundary, or at the one after it when it arrives less than 10 µs before
(R53, R89, R406). -/
def State.boundarySkip (s : State) : Nat := if s.running ∧ s.nextBnd < s.now + 10000 then 1 else 0

/-! ## Plates -/

/-- The plate of a slot. -/
def State.slotPlate (s : State) (k : Nat) : Option PlateDesc := if k = 0 then s.plate.slot0 else s.plate.slot1

def State.setSlot (s : State) (k : Nat) (p : Option PlateDesc) : State :=
  { s with plate := if k = 0 then { s.plate with slot0 := p } else { s.plate with slot1 := p } }

def State.runSlot (s : State) : Nat := s.get Reg.PLATE_STAT_RUN_SLOT
def State.freeSlot (s : State) : Nat := 1 - s.runSlot

/-- The plate that runs: the running slot's, or in REPLAY with REPLAY_FREE the free slot's (R433). -/
def State.runPlate (s : State) : Option PlateDesc :=
  if s.mode = .replay ∧ s.cap.replayFree then s.slotPlate s.freeSlot else s.slotPlate s.runSlot

/-- PLATE_ID of the running plate, 0 without one. -/
def State.plateId (s : State) : Word := (s.runPlate.map PlateDesc.id).getD 0

/-- The declaration of a point in a list (R71). -/
def declOf (l : List PointDecl) (p : Nat) : Option PointDecl := l.find? (fun d => decide (d.addr = p))

/-- The running plate's declaration of a point. -/
def State.decl (s : State) (p : Nat) : Option PointDecl := s.runPlate.bind (fun d => declOf d.decls p)

/-- Whether the running plate declares a point. -/
def State.declared (s : State) (p : Nat) : Bool := (s.decl p).isSome

/-! ## Points -/

/-- The record of a point. -/
def State.point (s : State) (p : Nat) : Point := storeGet s.points p (pointDefault s.variant p)

/-- Whether a point lies in the retentive area. -/
def isRetentive (p : Nat) : Bool := decide (areaOf p = .retentive)

/-- Whether a point is the CMD point of a loop (R261). -/
def isLoopCmd (p : Nat) : Bool := decide (0xE0000 ≤ p ∧ p < 0xE2000 ∧ p % 16 = 0)

/-- Store a point record. A changed retentive record makes its line dirty (R76); a write to a loop's CMD latches a request (R246), and
one to RESTORE a command (R274). -/
def State.setPoint (s : State) (p : Nat) (r : Point) : State :=
  { s with points := storeSet s.points p r (pointDefault s.variant p),
           mirror := if isRetentive p ∧ r ≠ s.point p then
             { s.mirror with dirty := storePut s.mirror.dirty (p / 8) true } else s.mirror,
           loops := if isLoopCmd p then { s.loops with cmd := storePut s.loops.cmd ((p - 0xE0000) / 16) r.value } else s.loops,
           alloc := if p = 0xE3298 then { s.alloc with restore := some r.value } else s.alloc }

/-- The cycle stamp of a write in the present cycle (R63, R65). -/
def State.stamp (s : State) : BitVec 16 := BitVec.ofNat 16 s.n

/-- Write value and quality of a point as its source or owning block does (R65, R66): type and flags stay. -/
def State.putPoint (s : State) (p : Nat) (v : Word) (q : Byte) : State :=
  s.setPoint p { s.point p with value := v, quality := q, stamp := s.stamp }

/-- A device point that is always good. -/
def State.putGood (s : State) (p : Nat) (v : Nat) : State := s.putPoint p (BitVec.ofNat 32 v) (qual 0)

/-- Write a list of (point, value), all good. -/
def State.putAll (s : State) (l : List (Nat × Nat)) : State := l.foldl (fun t e => t.putGood e.1 e.2) s

/-- Change the quality of a point and nothing else but the stamp. -/
def State.putQuality (s : State) (p : Nat) (q : Byte) : State := s.putPoint p (s.point p).value q

/-- Whether a word is a binary32 NaN. -/
def isNan32 (w : Word) : Bool := Fp.f32.isNan w.toNat

/-- The age of a point in pump cycles (R65). -/
def State.age (s : State) (p : Nat) : Nat := (s.stamp - (s.point p).stamp).toNat

/-- The initial record of a declared point (R71): input points read 0 and INIT until their source delivers. DESIGN CHOICE (log entry 40): its
cycle stamp is 0 whenever it is taken; the manual names none. -/
def initPoint (d : PointDecl) : Point :=
  { value := if areaOf d.addr = .input then 0 else d.value,
    quality := if areaOf d.addr = .input then qual 0x01 else d.quality,
    type := d.type, retain := isRetentive d.addr }

/-- The point image with every declared point at its initial value and every device point INIT (R71, R92). -/
def initImage (v : Variant) (decls : List PointDecl) : Store Point :=
  decls.foldl (fun st d =>
    if areaOf d.addr = .device ∨ populated v d.addr = false then st
    else storeSet st d.addr (initPoint d) (pointDefault v d.addr)) []

/-- Whether the pump may store to a point (R72). -/
def State.pumpWritable (s : State) (p : Nat) : Bool :=
  populated s.variant p &&
    (match areaOf p with
     | .input => false
     | .device => isCommandPoint p && !devAbsent s.variant (p - 0xE0000)
     | _ => s.declared p)

/-- Whether a block other than pump and host may write a point outside the device area: the running plate declares it (R71). -/
def State.blockWritable (s : State) (p : Nat) : Bool := populated s.variant p && s.declared p

end Sys2Proof.Machine
end

