-- ==== Sys2Proof/Machine/Recorder.lean ====
section
/-! DEFINITION. The recorder (R419 to R427): raising an event, sampling an extreme, opening, updating and writing records. -/

namespace Sys2Proof.Machine

/-- The severity of an event code, from the blocks' tables (R214, R238, R262, R294, R322, R352, R364, R377, R394, R418, R446, R460,
R462, R469); a code without a table entry has a free severity (log entry 9). -/
def severityOf (code : Nat) : Nat :=
  match code with
  | 0x0101 | 0x0102 | 0x0103 => 2 | 0x0104 | 0x0105 | 0x0107 | 0x0108 => 5 | 0x0106 => 4
  | 0x0109 => 4 | 0x010A => 6 | 0x010B => 3
  | 0x0201 => 3 | 0x0202 => 5 | 0x0203 => 5 | 0x0204 => 4 | 0x0205 => 7 | 0x0206 => 2 | 0x0207 => 3 | 0x0208 => 6
  | 0x0209 => 5 | 0x020A => 7 | 0x020B => 6 | 0x020C => 4
  | 0x0604 => 6
  | 0x0701 => 1 | 0x0702 => 2 | 0x0703 => 4 | 0x0704 => 2 | 0x0705 => 5 | 0x0706 => 3 | 0x0707 => 6 | 0x0708 => 3
  | 0x0801 => 5 | 0x0802 => 5 | 0x0803 => 3 | 0x0804 => 6 | 0x0805 => 2 | 0x0806 => 4 | 0x0807 => 3 | 0x0808 => 6
  | 0x0809 => 2 | 0x080A => 1 | 0x080B => 3 | 0x080C => 4 | 0x080D => 3 | 0x080E => 3
  | 0x0901 => 3 | 0x0902 => 3 | 0x0903 => 4 | 0x0904 => 2 | 0x0905 => 3
  | 0x0A01 => 6 | 0x0A02 => 6 | 0x0A03 => 5 | 0x0A04 => 2 | 0x0A05 => 6 | 0x0A06 => 4 | 0x0A07 => 3 | 0x0A08 => 3
  | 0x0A09 => 2
  | 0x0B01 => 3 | 0x0B02 => 4 | 0x0B03 => 4 | 0x0B04 => 4 | 0x0B05 => 5 | 0x0B06 => 5 | 0x0B07 => 6 | 0x0B08 => 3
  | 0x0B09 => 2 | 0x0B0A => 1
  | 0x0C01 => 6 | 0x0C02 => 6 | 0x0C03 => 4 | 0x0C04 => 3 | 0x0C05 => 5 | 0x0C06 => 6 | 0x0C07 => 5 | 0x0C08 => 4
  | 0x0C09 => 5 | 0x0C0A => 4 | 0x0C0B => 4 | 0x0C0C => 4
  | 0x0D01 => 5 | 0x0D02 => 3 | 0x0D03 => 4 | 0x0D04 => 6 | 0x0D05 => 5
  | 0x0E01 => 6 | 0x0E02 => 3 | 0x0E03 => 6 | 0x0E04 => 6 | 0x0E05 => 3 | 0x0E06 => 5
  | 0x0F01 => 5 | 0x0F02 => 5 | 0x0F03 => 4 | 0x0F04 => 6 | 0x0F05 => 6 | 0x0F06 => 4 | 0x0F07 => 3
  | 0x01F0 | 0x01F1 | 0x03F0 | 0x03F1 | 0x0CF0 => 1
  | _ => (Config.openSeverity code).val

/-- The kind of a code's records (R421). -/
def kindOf (code : Nat) : RecKind :=
  if code = 0 then .lifetime
  else if code = 0x0102 ∨ code = 0x0103 ∨ code = 0x0301 then .hist
  else if 0xF0 ≤ code % 256 then .extreme
  else .counter

/-- First n in [0, fuel] with v < base * 2^n, else fuel. -/
def logBin (v base : Nat) : Nat → Nat → Nat
  | 0, n => n
  | fuel + 1, n => if v < base * 2 ^ n then n else logBin v base fuel (n + 1)

/-- The bin of a value (R401, R421): dip durations in 10 µs, dip depths in 10 mV, slack deficits in µs. -/
def binOf (code v : Nat) : Nat :=
  if code = 0x0102 then logBin v 5 15 0
  else if code = 0x0103 then min 15 (v / 25)
  else logBin v 1 15 0

/-- No slot may change (R426): DIP or FREEZE. -/
def State.slotsHeld (s : State) : Bool := s.flag Reg.PWR_STAT_DIP || s.flag Reg.REC_CTL_FREEZE

/-- Slots that hold a valid record or that an open record reserves. -/
def usedSlots (r : RecState) : Store Unit :=
  r.opened.foldl (fun st e => storePut (storePut st e.2.slotA ()) e.2.slotB ()) (r.slots.map (fun e => (e.1, ())))

/-- The lowest free slot at or above k in a rising list of used slots. -/
def firstGap : Store Unit → Nat → Nat
  | [], k => k
  | (a, _) :: t, k => if a < k then firstGap t k else if a = k then firstGap t (k + 1) else k

/-- The closed record that R425 frees first for a new record of severity `sev`: lowest severity, then lowest SEQ. -/
def victim (r : RecState) (sev : Nat) : Option Nat :=
  let closed := r.slots.filter (fun e => decide (e.2.sev < sev) && decide (e.2.code ≠ 0)
    && !(r.opened.any (fun o => decide (o.2.slotA = e.1 ∨ o.2.slotB = e.1))))
  (closed.foldl (fun best e => match best with
    | none => some e
    | some b => if e.2.sev < b.2.sev ∨ e.2.sev = b.2.sev ∧ e.2.seq < b.2.seq then some e else some b) none).map Prod.fst

/-- Two free slots for a new record of severity `sev`, closed records freed where needed (R425); none where the candidates do not
suffice. -/
def slotPair (r : RecState) (sev : Nat) : Option (Nat × Nat × RecState) :=
  let go := fun (q : RecState) =>
    let u := usedSlots q
    let a := firstGap u 0
    let b := firstGap u (a + 1)
    (a, b)
  let ab := go r
  if ab.2 < 524288 then some (ab.1, ab.2, r)
  else
    match victim r sev with
    | none => none
    | some v1 =>
      let r1 := { r with slots := storeDel r.slots v1 }
      let ab1 := go r1
      if ab1.2 < 524288 then some (ab1.1, ab1.2, r1)
      else match victim r1 sev with
        | none => none
        | some v2 =>
          let r2 := { r1 with slots := storeDel r1.slots v2 }
          let ab2 := go r2
          some (ab2.1, ab2.2, r2)

/-- The interval of R422 that a time lies in. -/
def eraOf (interval t : Nat) : Nat := t / (interval * 3600000000000)

/-- Open a record of a code at time t (R425): none where no slots can be had. -/
def State.openRecord (s : State) (code sev t : Nat) : Option State :=
  (slotPair s.rcd sev).map (fun x =>
    let iv := s.get Reg.REC_CTL_INTERVAL
    let rc : Record := { code := code, kind := kindOf code, sev := sev, interval := iv, era := eraOf iv t,
                         slotA := x.1, slotB := x.2.1, bins := if kindOf code = .hist then List.replicate 16 0 else [] }
    { s with rcd := { x.2.2 with opened := storePut x.2.2.opened code rc } })

/-- The version that the next write of an open record puts into NV, and the record after it (R424). -/
def writeVersion (r : RecState) (code : Nat) (rc : Record) (closing : Bool) : RecState :=
  let v := { rc with seq := r.seq + 1, dirty := false, isOpen := !closing, nextB := !rc.nextB }
  let slot := if rc.nextB then rc.slotB else rc.slotA
  let other := if rc.nextB then rc.slotA else rc.slotB
  let slots := storePut r.slots slot v
  if closing then { r with seq := r.seq + 1, slots := storeDel slots other, opened := storeDel r.opened code }
  else { r with seq := r.seq + 1, slots := slots, opened := storePut r.opened code v }

/-- Close the open record of a code: its final version is written and its other slot freed (R424). -/
def State.closeRecord (s : State) (code : Nat) : State :=
  match storeFind s.rcd.opened code with
  | none => s
  | some rc => { s with rcd := writeVersion s.rcd code rc true }

/-- Whether an update by one more event would take a count beyond its largest value (R422). -/
def wouldSaturate (rc : Record) (value : Nat) : Bool :=
  match rc.kind with
  | .hist => decide (2 ^ 20 ≤ rc.bins.getD (binOf rc.code value) 0 + 1)
  | .lifetime => false
  | _ => decide (2 ^ 32 ≤ rc.count + 1)

/-- Update a record by an admitted event, or by a sample for an EXTREME record (R420). -/
def updateRecord (rc : Record) (value t : Nat) (timeValid : Bool) : Record :=
  let r := { rc with dirty := true, timeInvalid := rc.timeInvalid || !timeValid }
  match rc.kind with
  | .hist => { r with last := t, bins := r.bins.set (binOf rc.code value) (r.bins.getD (binOf rc.code value) 0 + 1) }
  | .counter => { r with first := if r.count = 0 then t else r.first, last := t, count := r.count + 1, lastValue := value % 2 ^ 32 }
  | .extreme =>
    let w := BitVec.ofNat 32 value
    let lower := decide (r.count = 0) || Fp.f32.lt value r.minV.toNat
    let higher := decide (r.count = 0) || Fp.f32.lt r.maxV.toNat value
    { r with first := if r.count = 0 then t else r.first, count := r.count + 1,
             minV := if lower then w else r.minV, minT := if lower then t else r.minT,
             maxV := if higher then w else r.maxV, maxT := if higher then t else r.maxT }
  | .lifetime => r

/-- Add suppressed events to a record (R423). -/
def suppressRecord (rc : Record) (k : Nat) (timeValid : Bool) : Record :=
  { rc with dirty := true, timeInvalid := rc.timeInvalid || !timeValid,
            suppressed := min (rc.suppressed + k) (2 ^ 32 - 1),
            saturated := rc.saturated || decide (2 ^ 32 ≤ rc.suppressed + k) }

/-- Close the open record of a code where R422 asks for it before an update at time t by `value`. -/
def State.closeIfDue (s : State) (code value t : Nat) (timeValid : Bool) : State :=
  match storeFind s.rcd.opened code with
  | none => s
  | some rc =>
    if timeValid && decide (eraOf rc.interval t ≠ rc.era) then s.closeRecord code
    else if wouldSaturate rc value then
      ({ s with rcd := { s.rcd with opened := storePut s.rcd.opened code { rc with saturated := true } } }).closeRecord code
    else s

/-- Merge one admitted event or sample into the open record of its code, opening one where none is open; without slots the event is
lost and DROP_CNT counts it (R422, R425). -/
def State.mergeEvent (s : State) (code sev value t : Nat) (timeValid : Bool) : State :=
  let s := s.closeIfDue code value t timeValid
  let opened := match storeFind s.rcd.opened code with
    | some _ => some s
    | none => s.openRecord code sev t
  match opened with
  | none => s.count Reg.REC_LOSS_DROP_CNT
  | some s =>
    match storeFind s.rcd.opened code with
    | none => s
    | some rc => { s with rcd := { s.rcd with opened := storePut s.rcd.opened code (updateRecord rc value t timeValid) } }

/-- Count suppressed events in the open record of their code, one opened where none is open (R422, R423). -/
def State.mergeSuppressed (s : State) (code sev k t : Nat) : State :=
  let opened := match storeFind s.rcd.opened code with
    | some _ => some s
    | none => s.openRecord code sev t
  match opened with
  | none => s.count Reg.REC_LOSS_DROP_CNT
  | some s =>
    match storeFind s.rcd.opened code with
    | none => s
    | some rc =>
      { s with rcd := { s.rcd with opened := storePut s.rcd.opened code (suppressRecord rc k s.timeValid) } }

/-- The lowest-severity entry of the pending buffer, the oldest first. -/
def lowestPend : List PendEntry → Option PendEntry
  | [] => none
  | e :: t => match lowestPend t with
    | none => some e
    | some b => if e.sev ≤ b.sev then some e else some b

/-- Put an entry into the pending buffer of 4,096 entries (R426). -/
def State.pendEvent (s : State) (e : PendEntry) : State :=
  if s.rcd.pend.length < 4096 then { s with rcd := { s.rcd with pend := s.rcd.pend ++ [e] } }
  else
    let s := s.count Reg.REC_LOSS_PEND_DROP
    match lowestPend s.rcd.pend with
    | none => s
    | some b => if e.sev < b.sev then s else { s with rcd := { s.rcd with pend := s.rcd.pend.erase b ++ [e] } }

/-- Merge the pending buffer in order of arrival, once DIP has ended and FREEZE is 0 (R426). -/
def State.mergePending (s : State) : State :=
  if s.slotsHeld then s
  else
    let s1 := s.rcd.pend.foldl (fun t e => t.mergeEvent e.code e.sev e.value e.time e.timeValid)
      { s with rcd := { s.rcd with pend := [] } }
    let s2 := s1.rcd.suppPend.foldl (fun t e => t.mergeSuppressed e.1 (severityOf e.1) e.2 t.now) s1
    { s2 with rcd := { s2.rcd with suppPend := [] } }

/-- Tokens of a code's bucket now, in billionths (R423): BURST when full, RATE refilled per second. -/
def State.tokens (s : State) (code : Nat) : Nat :=
  let full := s.get Reg.REC_CTL_BURST * 1000000000
  match storeFind s.rcd.buckets code with
  | none => full
  | some (t, since) => min full (t + (s.up - since) * s.get Reg.REC_CTL_RATE)

/-- Cycles to pass before appending ends: POST, and the present one while its freeze is still to come (R431). -/
def State.postCycles (s : State) : Nat :=
  s.get Reg.CAP_CFG_POST + (if s.running ∧ s.phase ≠ .frozen ∧ s.phase ≠ .idle then 1 else 0)

/-- An admitted event of severity at least TRIG_SEV stops the capture ring after POST cycles (R431). -/
def State.captureTrigger (s : State) (sev : Nat) : State :=
  if s.get Reg.CAP_CFG_TRIG_SEV ≠ 0 ∧ s.get Reg.CAP_CFG_TRIG_SEV ≤ sev ∧ s.get Reg.CAP_STAT_STATE = 1 then
    { s.set Reg.CAP_STAT_STATE 2 with cap := { s.cap with postLeft := s.postCycles, stopByEvent := true } }
  else s

/-- An event of a code with its value: admitted by its token bucket into its open record or the pending buffer, or counted as suppressed
(R422, R423, R426, R431). -/
def State.raiseWith (s : State) (code value : Nat) : State :=
  let sev := severityOf code
  let tok := s.tokens code
  if 1000000000 ≤ tok then
    let s := { s with rcd := { s.rcd with buckets := storePut s.rcd.buckets code (tok - 1000000000, s.up) } }
    let s := s.captureTrigger sev
    if s.slotsHeld then
      s.pendEvent { code := code, sev := sev, value := value, time := s.now, timeValid := s.timeValid }
    else s.mergeEvent code sev value s.now s.timeValid
  else
    let s := { s with rcd := { s.rcd with buckets := storePut s.rcd.buckets code (tok, s.up) } }
    if s.slotsHeld then
      { s with rcd := { s.rcd with suppPend := storePut s.rcd.suppPend code (storeGet s.rcd.suppPend code 0 + 1) } }
    else s.mergeSuppressed code sev 1 s.now

/-- An event for which the manual gives no value: the value is free (log entry 6). -/
def State.raise (s : State) (code : Nat) : State :=
  let d := s.draw 32
  d.2.raiseWith code d.1

/-- A sample of an EXTREME code, a binary32 value (R421); no token is taken. -/
def State.sample (s : State) (code value : Nat) : State :=
  if s.slotsHeld then
    s.pendEvent { code := code, sev := 1, value := value, time := s.now, timeValid := s.timeValid }
  else s.mergeEvent code 1 value s.now s.timeValid

/-- Write one open record to the slot that its last write did not take (R424); nothing while slots are held (R426). -/
def State.writeRecord (s : State) (code : Nat) : State :=
  if s.slotsHeld then s
  else match storeFind s.rcd.opened code with
    | none => s
    | some rc => if rc.dirty then { s with rcd := writeVersion s.rcd code rc false } else s

/-- Write the lifetime record (R420, R424), one record that never closes, updated in place. -/
def State.writeLifetime (s : State) : State :=
  if s.slotsHeld then s
  else
    let opened := match storeFind s.rcd.opened 0 with
      | some _ => some s
      | none => s.openRecord 0 (severityOf 0) s.now
    match opened with
    | none => s.count Reg.REC_LOSS_DROP_CNT
    | some s =>
      match storeFind s.rcd.opened 0 with
      | none => s
      | some rc =>
        let rc := { rc with life := [s.keep.powered, s.keep.dips, s.keep.resets, s.keep.overtemp], tick := s.keepTick,
                            first := s.now, timeInvalid := rc.timeInvalid || !s.timeValid }
        { s with rcd := writeVersion s.rcd 0 rc false }

/-- What a hardware reset leaves of the recorder (R390, R422, R424): open records are closed at the boot, their unwritten updates and the
pending buffer are lost, the older of a record's two slots is free again, and every bucket is full. -/
def State.resetRecorder (s : State) : State :=
  let slots := s.rcd.opened.foldl (fun st e =>
    match storeFind st e.2.slotA, storeFind st e.2.slotB with
    | some a, some b =>
      if e.1 = 0 then st else if a.seq < b.seq then storeDel st e.2.slotA else storeDel st e.2.slotB
    | _, _ => st) s.rcd.slots
  let life := s.rcd.opened.filter (fun e => decide (e.1 = 0))
  { s with rcd := { opened := life, slots := slots, seq := s.rcd.seq } }

end Sys2Proof.Machine
end

