-- ==== Sys2Proof/Machine/Operands.lean ====
section
/-! DEFINITION. The pump's operand forms and its stores: word operands (R94, R101, R102), bit operands (R104), value and quality
stores (R67, R103), the target check of R72, instances. -/

namespace Sys2Proof.Machine

/-- The points that a span node writes from the root's record: its plate must not store there (R361). -/
def State.spanReserved (s : State) (p : Nat) : Bool :=
  s.get Reg.SPAN_CFG_TOPO ≠ 0 && s.get Reg.SPAN_CFG_ADDRESS ≠ 0
    && decide (0x40000 + s.get Reg.SPAN_LOCAL_LOCAL_OUT_BASE ≤ p)
    && decide (p < 0x40000 + s.get Reg.SPAN_LOCAL_LOCAL_OUT_BASE + (s.runPlate.map PlateDesc.localOut).getD 0)

/-- Whether a store, bit write or block move of the pump may write a point (R72, R361). -/
def State.storable (s : State) (p : Nat) : Bool := s.pumpWritable p && !s.spanReserved p

/-- A discarded store (R72): counted, flagged, recorded. -/
def State.wrviol (s : State) : State :=
  let s := { s with pump := { s.pump with wrviol := satInc 32 s.pump.wrviol } }
  (s.setFlag Reg.PUMP_STAT_WRVIOL true).raise 0x0303

/-- Note the record of a point before its first write of the cycle (R331). -/
def State.notePoint (s : State) (p : Nat) : State :=
  match storeFind s.wlog.points p with
  | some _ => s
  | none => { s with wlog := { s.wlog with points := storePut s.wlog.points p (s.point p) } }

/-- The record that a value store leaves (R67, R103): quality good, a NaN in an F32 point bad with reason CONVERSION. -/
def storedPoint (r : Point) (v : Word) (stamp : BitVec 16) : Point :=
  { r with value := v, quality := if r.type = 3 ∧ isNan32 v then qual 0x06 else qual 0x00, stamp := stamp }

/-- A pump store of a value to a point that it may write, else a discarded store. -/
def State.storeValue (s : State) (p : Nat) (v : Word) : State :=
  if s.storable p then (s.notePoint p).setPoint p (storedPoint (s.point p) v s.stamp) else s.wrviol

/-- The quality byte that the quality store form writes (R103), none for a reserved reason. -/
def storedQuality (w : Word) : Option Byte :=
  let r := w.toNat % 64
  if r ≤ 0x0D then some (qual r)
  else if r < 0x20 then none
  else some (BitVec.ofNat 8 (w.toNat % 256))

/-- A quality store (R103): the second component is whether V is set. -/
def State.storeQuality (s : State) (p : Nat) (w : Word) : State × Bool :=
  match storedQuality w with
  | none => (s, true)
  | some q =>
    if s.storable p then ((s.notePoint p).setPoint p { s.point p with quality := q, stamp := s.stamp }, false)
    else (s.wrviol, false)

/-- A bit of a point's raw value (R104). -/
def State.pointBit (s : State) (p : PointAddr) (bit : BitVec 5) : Bool := (s.point p.toNat).value.getLsbD bit.toNat

/-- A word with one bit replaced. -/
def withBit (w : Word) (i : Nat) (b : Bool) : Word :=
  if b then w ||| (1#32 <<< i) else w &&& ~~~(1#32 <<< i)

/-- A bit-form write (R104): the addressed bit, quality good, stamp. -/
def State.storeBit (s : State) (p : PointAddr) (bit : BitVec 5) (b : Bool) : State :=
  if s.storable p.toNat then
    (s.notePoint p.toNat).setPoint p.toNat
      { s.point p.toNat with value := withBit (s.point p.toNat).value bit.toNat b, quality := qual 0, stamp := s.stamp }
  else s.wrviol

/-- The accumulator of an instruction and its partner (R94). -/
def Proc.acc (p : Proc) : Acc → Word | .A => p.a | .B => p.b
def Proc.partner (p : Proc) : Acc → Word | .A => p.b | .B => p.a
def Proc.setAcc (p : Proc) (x : Acc) (v : Word) : Proc := match x with | .A => { p with a := v } | .B => { p with b := v }

/-- The part of a point that SEL selects (R94, R102). -/
def State.pointSel (s : State) (p : Nat) : Sel → Word
  | .value => (s.point p).value
  | .quality => (s.point p).quality.zeroExtend 32
  | .age => BitVec.ofNat 32 (s.age p)

/-- The address of an indexed operand, none beyond 0xF_FFFF: the sum is taken in 32 bits (R101). -/
def indexedAddr (base : PointAddr) (partner : Word) : Option Nat :=
  let a := (base.toNat + partner.toNat) % 2 ^ 32
  if a ≤ 0xFFFFF then some a else none

/-- A word operand and whether its address lay beyond the point space (R94, R101). -/
def State.operand (s : State) (p : Proc) (x : Acc) (sel : Sel) : Operand → Word × Bool
  | .direct a => (s.pointSel a.toNat sel, false)
  | .indexed base =>
    match indexedAddr base (p.partner x) with
    | some a => (s.pointSel a sel, false)
    | none => (0, true)
  | .imm w => (w, false)
  | .partner => (p.partner x, false)

/-- Whether SEL is allowed with a MODE: only LD and ST have another SEL than 0b00, and only with a point operand (R94). -/
def selOk (sel : Sel) : Operand → Bool
  | .direct _ | .indexed _ => true
  | .imm _ | .partner => decide (sel = .value)

/-- Words that an instruction with this operand occupies (R93, R95). -/
def operandWords : Operand → Nat | .imm _ => 2 | _ => 1

/-- The surcharge of an indexed operand, ns (chapter 04, word instructions). -/
def operandExtra : Operand → Nat | .indexed _ => 1 | _ => 0

/-- Timer, counter and edge instances; an unlisted one holds the value of R127 without a declaration. -/
def State.timer (s : State) (i : Nat) : Timer := storeGet s.pump.inst.timers i {}
def State.counter (s : State) (i : Nat) : Counter := storeGet s.pump.inst.counters i {}
def State.edge (s : State) (i : Nat) : Bool := storeGet s.pump.inst.edges i false

/-- Write a timer instance, noting its record before its first change of the cycle. -/
def State.setTimer (s : State) (i : Nat) (t : Timer) : State :=
  let wl := match storeFind s.wlog.timers i with
    | some _ => s.wlog
    | none => { s.wlog with timers := storePut s.wlog.timers i (some (s.timer i)) }
  { s with wlog := wl, pump := { s.pump with inst := { s.pump.inst with timers := storeSet s.pump.inst.timers i t {} } } }

def State.setCounter (s : State) (i : Nat) (c : Counter) : State :=
  let wl := match storeFind s.wlog.counters i with
    | some _ => s.wlog
    | none => { s.wlog with counters := storePut s.wlog.counters i (some (s.counter i)) }
  { s with wlog := wl, pump := { s.pump with inst := { s.pump.inst with counters := storeSet s.pump.inst.counters i c {} } } }

def State.setEdge (s : State) (i : Nat) (m : Bool) : State :=
  let wl := match storeFind s.wlog.edges i with
    | some _ => s.wlog
    | none => { s.wlog with edges := storePut s.wlog.edges i (some (s.edge i)) }
  { s with wlog := wl, pump := { s.pump with inst := { s.pump.inst with edges := storeSet s.pump.inst.edges i m false } } }

end Sys2Proof.Machine
end

