-- ==== Sys2Proof/Machine/Flags.lean ====
section
/-! DEFINITION. Conditions (R105), the flag groups (R106), and integer and floating-point results (R110 to R112). -/

namespace Sys2Proof.Machine

/-- A condition code (R105), none where it is reserved. -/
def Proc.cond (p : Proc) (c : BitVec 5) : Option Bool :=
  match c.toNat with
  | 0 => some true
  | 1 => some p.ba
  | 2 => some (!p.ba)
  | 3 => some (p.z && !p.u)
  | 4 => some (!p.z || p.u)
  | 5 => some p.n
  | 6 => some (p.n || p.z)
  | 7 => some (!p.n && !p.z && !p.u)
  | 8 => some (!p.n && !p.u)
  | 9 => some p.v
  | 10 => some (!p.v)
  | 11 => some p.u
  | 12 => some (!p.u)
  | _ => none

/-- Set the four flags. -/
def Proc.flags (p : Proc) (z n v u : Bool) : Proc := { p with z := z, n := n, v := v, u := u }

/-- Group INT (R106): V as the instruction states. -/
def Proc.flagsInt (p : Proc) (r : Word) (v : Bool) : Proc := p.flags (decide (r = 0)) r.msb v false

/-- Group LOG (R106). -/
def Proc.flagsLog (p : Proc) (r : Word) : Proc := p.flags (decide (r = 0)) r.msb false false

/-- Group CMP (R106). -/
def Proc.flagsCmp (p : Proc) (eq lt : Bool) : Proc := p.flags eq lt false false

/-- Group FCMP (R106). -/
def Proc.flagsFcmp (p : Proc) (a b : Word) : Proc :=
  match Fp.f32.cmp a.toNat b.toNat with
  | none => p.flags false false false true
  | some c => p.flags (decide (c = 0)) (decide (c < 0)) false false

/-- Group FLT (R106): `fin` says that every operand was finite. -/
def Proc.flagsFlt (p : Proc) (r : Word) (fin : Bool) : Proc :=
  p.flags (Fp.f32.isZero r.toNat) (r.msb && !isNan32 r) (fin && Fp.f32.isInf r.toNat) (isNan32 r)

/-- V of an instruction whose indexed operand lay beyond the point space: 1 whatever its group gave (R101). -/
def Proc.orV (p : Proc) (ovf : Bool) : Proc := if ovf then { p with v := true } else p

/-! ## Integer results with their overflow (R110) -/

def intAdd (a b : Word) : Word × Bool :=
  let r := a + b
  (r, decide (r.toInt ≠ a.toInt + b.toInt))

def intSub (a b : Word) : Word × Bool :=
  let r := a - b
  (r, decide (r.toInt ≠ a.toInt - b.toInt))

def intMul (a b : Word) : Word × Bool :=
  let r := a * b
  (r, decide (r.toInt ≠ a.toInt * b.toInt))

/-- DIV: truncated toward zero; a zero divisor gives 0 and V; the least number by -1 stays and sets V. -/
def intDiv (a b : Word) : Word × Bool :=
  if b = 0 then (0, true)
  else
    let q := Int.tdiv a.toInt b.toInt
    let r := BitVec.ofInt 32 q
    (r, decide (r.toInt ≠ q))

/-- DIVU: a zero divisor gives 0 and V. -/
def intDivu (a b : Word) : Word × Bool :=
  if b = 0 then (0, true) else (BitVec.ofNat 32 (a.toNat / b.toNat), false)

/-- MOD: the remainder of DIV; a zero divisor gives 0 and V, and so does the least number by -1. -/
def intMod (a b : Word) : Word × Bool :=
  if b = 0 then (0, true)
  else
    let q := Int.tdiv a.toInt b.toInt
    (BitVec.ofInt 32 (Int.tmod a.toInt b.toInt), decide ((BitVec.ofInt 32 q).toInt ≠ q))

def intNeg (a : Word) : Word × Bool := (0 - a, decide (a = 0x80000000#32))

def intAbs (a : Word) : Word × Bool := if a.msb then intNeg a else (a, false)

/-- Shifts use the low 5 bits of the count (R110). -/
def shiftCount (op : Word) : Nat := op.toNat % 32

/-! ## Floating-point results (R111, R112) -/

def w32 (n : Nat) : Word := BitVec.ofNat 32 n

def fltOp (f : Nat → Nat → Nat) (a b : Word) : Word := w32 (f a.toNat b.toNat)

def finite32 (a : Word) : Bool := Fp.f32.isFinite a.toNat

/-- FTI: nearest, ties to even, saturating; the result, V and U (R112). -/
def ftoi (a : Word) : Word × Bool × Bool :=
  match Fp.f32.toInt a.toNat (2 ^ 40) with
  | none => (0, true, true)
  | some v =>
    if v < -2147483648 then (0x80000000#32, true, false)
    else if 2147483647 < v then (0x7FFFFFFF#32, true, false)
    else (BitVec.ofInt 32 v, false, false)

/-- FTU: the same into U32. -/
def ftou (a : Word) : Word × Bool × Bool :=
  match Fp.f32.toInt a.toNat (2 ^ 40) with
  | none => (0, true, true)
  | some v =>
    if v < 0 then (0, true, false)
    else if 4294967295 < v then (0xFFFFFFFF#32, true, false)
    else (BitVec.ofInt 32 v, false, false)

end Sys2Proof.Machine
end

