-- ==== Sys2Proof/Machine/PumpCore.lean ====
section
/-! DEFINITION. Executing one instruction of the running task (R79 to R84, R95 to R98): its cost and the instants it may not pass, its
effects applied at its end, stack and instruction faults. -/

namespace Sys2Proof.Machine

/-- The processor state of a task (R79). -/
def State.proc (s : State) : Task → Proc
  | .fast => s.pump.fast | .hold => s.pump.hold | .slow => s.pump.slow

def State.setProc (s : State) (t : Task) (p : Proc) : State :=
  match t with
  | .fast => { s with pump := { s.pump with fast := p } }
  | .hold => { s with pump := { s.pump with hold := p } }
  | .slow => { s with pump := { s.pump with slow := p } }

/-- The number of a task (R96, LDTASK). -/
def Task.num : Task → Nat | .fast => 0 | .hold => 1 | .slow => 2

/-- A task's processor state at the start of a scan (R79), at its entry block (R99). -/
def Task.entry (t : Task) : Proc := { block := t.num }

/-- The pace index in hundredths (R31), at least 1. -/
def State.pace (s : State) : Nat := max 1 (s.get Reg.PWR_PACE_STAT_PACE)

/-- Time that work of a slow-corner cost takes at the present pace. -/
def State.paced (s : State) (cost : Nat) : Nat := cost * 100 / s.pace

/-- The instant at which the running task would have completed `cost` more. -/
def State.taskInstant (s : State) (cost : Nat) : Nat := s.pump.taskStart + s.paced (s.pump.taskCost + cost)

/-- Whether the running task can complete an instruction of this cost before the output reserve instant: FAST and HOLD are cancelled there
(R97), and SLOW does not start an instruction whose slow-corner cost would carry it past (R81). -/
def State.fits (s : State) (t : Task) (cost : Nat) : Bool :=
  match t with
  | .slow => decide (s.taskInstant 0 + cost ≤ s.reserveAt)
  | _ => decide (s.taskInstant cost ≤ s.reserveAt)

/-- Charge an instruction's cost to the running task; time passes to its end (R98). -/
def State.charge (s : State) (cost : Nat) : State :=
  let t := s.taskInstant cost
  ({ s with pump := { s.pump with taskCost := s.pump.taskCost + cost, scanCost := s.pump.scanCost + cost } }).advanceTo t

/-- The plate word of a position (R99): blocks lie one after another in rising block number. -/
def plateWord (blocks : List (Nat × Nat)) (block offset : Nat) : Nat :=
  (blocks.filter (fun b => decide (b.1 < block))).foldl (fun n b => n + b.2) 0 + offset

/-- A duration or time in ns as binary32 µs. -/
def micros32 (ns : Nat) : Word := BitVec.ofNat 32 (Fp.f32.ofRat ns 1000)

/-- The measured duration of a FAST or HOLD scan that ends now, a faulted one included (R74, R96). -/
def State.measured (s : State) (t : Task) : State :=
  match t with
  | .fast => { s with pump := { s.pump with fastUs := some (micros32 (s.now - s.pump.taskStart)) } }
  | .hold => { s with pump := { s.pump with holdUs := some (micros32 (s.now - s.pump.taskStart)) } }
  | .slow => s

/-- A stack fault (R83) or an instruction fault (R96) of a task at its present position: its scan ends, the cycle is an overrun and no task
runs again in it (R84). -/
def State.taskFault (s : State) (t : Task) (illegal : Bool) : State :=
  let p := s.proc t
  let w := plateWord ((s.runPlate.map PlateDesc.blocks).getD []) p.block p.offset
  let s := s.measured t
  let s := { s with pump := { s.pump with running := none, faulted := true, tasksEnd := some (s.pump.tasksEnd.getD s.now),
                                          slowOpen := s.pump.slowOpen && decide (t ≠ Task.slow) } }
  let s := (s.set Reg.PUMP_FAULT_TASK t.num).set Reg.PUMP_FAULT_WORD w
  if illegal then (s.setFlag Reg.PUMP_FAULT_ILLEGAL true).raise 0x0304
  else (s.setFlag Reg.PUMP_STAT_STACK_FAULT true).raise 0x0302

/-- What an instruction comes to: a new processor state and state, a stack fault, an instruction fault. -/
inductive Flow where
  | cont (p : Proc) (s : State)
  | stack
  | illegal

/-- Words in a block of the running plate. -/
def State.blockLen (s : State) (b : Nat) : Option Nat :=
  ((s.runPlate.map PlateDesc.blocks).getD []).findSome? (fun e => if e.1 = b then some e.2 else none)

/-- An instruction of `words` words at a processor's position lies within its block (R96). -/
def State.inBlock (s : State) (p : Proc) (words : Nat) : Bool := (s.blockLen p.block).all (fun n => decide (p.offset + words ≤ n))

/-- An instruction that could not end before the output reserve instant: FAST and HOLD stand at it, cancelled, until that instant (R84, R97);
SLOW is suspended before it (R81). -/
def State.cancel (s : State) (t : Task) (cost : Nat) : State :=
  match t with
  | .slow => { s with pump := { s.pump with running := none } }
  | _ => ({ s with pump := { s.pump with taskCost := s.pump.taskCost + cost } }).advanceTo s.reserveAt

/-- Execute one instruction of `words` words and slow-corner cost `cost` on the running task: `f` has the processor state with the position
after the instruction. Without a running task, or where the instruction could not end before the output reserve instant, nothing is
executed (R81, R97; log entry 11). A faulting instruction, one beyond the last word of its block among them, takes 1 ns, so that it needs
no more room than that (R96). -/
def State.runInstr (s : State) (words cost : Nat) (f : Proc → State → Flow) : State :=
  match s.pump.running with
  | none => s
  | some t =>
    let p := s.proc t
    match (if s.inBlock p words then f { p with offset := p.offset + words } (s.charge cost) else .illegal) with
    | .cont p' s' => if s.fits t cost then s'.setProc t p' else s.cancel t cost
    | .stack => if s.fits t cost then (s.charge cost).taskFault t false else s.cancel t cost
    | .illegal => if s.fits t 1 then (s.charge 1).taskFault t true else s.cancel t 1

/-- An instruction that changes the processor state only. -/
def State.runProc (s : State) (words cost : Nat) (f : Proc → State → Proc) : State :=
  s.runInstr words cost (fun p s => .cont (f p s) s)

/-- An instruction of the word form that computes from the accumulator and an operand (R94): `f` takes the processor state, the accumulator
and the operand. V is 1 where an indexed address lay beyond the point space (R101). -/
def State.runWord (s : State) (x : Acc) (op : Operand) (cost : Nat) (f : Proc → Word → Word → Proc) : State :=
  s.runProc (operandWords op) (cost + operandExtra op) (fun p s =>
    let o := s.operand p x .value op
    (f p (p.acc x) o.1).orV o.2)

end Sys2Proof.Machine
end

