-- ==== Sys2Proof/Machine/PumpMove.lean ====
section
/-! DEFINITION. Jumps, calls, block moves and system operations of the pump (chapter 04: R105, R113 to R115, R118, R119). RET stands in
Machine/Cycle.lean, because the end of a scan starts the next task. -/

namespace Sys2Proof.Machine

/-- JC (R95, R96, R105): a reserved condition code, or a target beyond the block's last word, is an instruction fault, whether or not the jump
would be taken. -/
def State.opJc (s : State) (c : BitVec 5) (target : BitVec 20) : State :=
  s.runInstr 1 2 (fun p s => match p.cond c with
    | none => .illegal
    | some b =>
      if (s.blockLen p.block).getD 0 ≤ target.toNat then .illegal
      else .cont (if b then { p with offset := target.toNat } else p) s)

/-- CALL (R96, R113): a reserved condition code, or a block that the plate does not define, is an instruction fault, whether or not the call
would be made; a 33rd level is a stack fault. -/
def State.opCall (s : State) (c : BitVec 5) (block : BitVec 16) : State :=
  s.runInstr 1 4 (fun p s => match p.cond c with
    | none => .illegal
    | some b =>
      if (s.blockLen block.toNat).isNone then .illegal
      else if !b then .cont p s
      else if p.calls.length < 32 then
        .cont { p with calls := (p.block, p.offset) :: p.calls, block := block.toNat, offset := 0 } s
      else .stack)

/-- Whether every point of a range may be stored to (R115). -/
def State.storableRange (s : State) (p : Nat) : Nat → Bool
  | 0 => true
  | n + 1 => s.storable p && s.storableRange (p + 1) n

/-- The values of a range of points (R114). -/
def State.valuesFrom (s : State) (p : Nat) : Nat → List Word
  | 0 => []
  | n + 1 => (s.point p).value :: s.valuesFrom (p + 1) n

/-- Store a list of values from a point on (R114). -/
def State.storeFrom (s : State) (p : Nat) : List Word → State
  | [] => s
  | v :: t => (s.storeValue p v).storeFrom (p + 1) t

/-- What a block move comes to: done; a source beyond the point space; a destination that R72 forbids, beyond the point space included
(R114, R115). -/
inductive MoveResult where
  | moved (s : State) | beyond | forbidden

/-- A block move of `count` points (R114): every source point is read before any destination is written. -/
def State.moveBlock (s : State) (src dst count : Nat) : MoveResult :=
  if s.storableRange dst count then
    if src + count ≤ 0x100000 then .moved (s.storeFrom dst (s.valuesFrom src count)) else .beyond
  else .forbidden

/-- BMOV (R114, R115): a discarded move is counted once under R72; no flag changes. -/
def State.opBmov (s : State) (src dst : PointAddr) (c : BitVec 12) : State :=
  s.runInstr 2 (5 + c.toNat) (fun p s =>
    match s.moveBlock src.toNat dst.toNat (c.toNat + 1) with
    | .moved s' => .cont p s'
    | _ => .cont p s.wrviol)

/-- BMOVX (R115): source in A, destination in B; a discarded move sets V, and a forbidden destination is counted once. -/
def State.opBmovx (s : State) (c : BitVec 12) : State :=
  s.runInstr 1 (6 + c.toNat) (fun p s =>
    match s.moveBlock p.a.toNat p.b.toNat (c.toNat + 1) with
    | .moved s' => .cont p s'
    | .beyond => .cont { p with v := true } s
    | .forbidden => .cont { p with v := true } s.wrviol)

/-- The command point of a loop (R119, R261). -/
def loopCmdPoint (i : Nat) : Nat := 0xE0000 + 16 * i

def execJc (c : BitVec 5) (target : BitVec 20) (s : State) : Host.Outcome State Fault Refusal := .next (s.opJc c target)
def execCall (c : BitVec 5) (block : BitVec 16) (s : State) : Host.Outcome State Fault Refusal := .next (s.opCall c block)
def execBmov (src dst : PointAddr) (c : BitVec 12) (s : State) : Host.Outcome State Fault Refusal := .next (s.opBmov src dst c)
def execBmovx (c : BitVec 12) (s : State) : Host.Outcome State Fault Refusal := .next (s.opBmovx c)
/-- LDCYC (R118): n of the cycle in which it executes. -/
def execLdcyc (s : State) : Host.Outcome State Fault Refusal :=
  .next (s.runProc 1 1 (fun p s => { p with a := BitVec.ofNat 32 s.n, b := BitVec.ofNat 32 (s.n / 2 ^ 32) }))
/-- LDTASK (R80). -/
def execLdtask (s : State) : Host.Outcome State Fault Refusal :=
  .next (s.runProc 1 1 (fun p s => { p with a := BitVec.ofNat 32 ((s.pump.running.map Task.num).getD 0) }))
/-- LOOPREQ (R119): a pump store of A to the loop's command point when BA is 1. -/
def execLoopreq (i : BitVec 9) (s : State) : Host.Outcome State Fault Refusal :=
  .next (s.runInstr 1 2 (fun p s => .cont p (if p.ba then s.storeValue (loopCmdPoint i.toNat) p.a else s)))
/-- NOP (R98). -/
def execNop (s : State) : Host.Outcome State Fault Refusal := .next (s.runProc 1 1 (fun p _ => p))
/-- INSTRUCTION_FAULT (R96): the pump meets an instruction that it must not execute. -/
def execInstructionFault (s : State) : Host.Outcome State Fault Refusal := .next (s.runInstr 1 1 (fun _ _ => .illegal))

end Sys2Proof.Machine
end

