-- ==== Sys2Proof/Machine/Health.lean ====
section
/-! DEFINITION. HEALTH, claims and the decision to release control (R323, R325 to R327, R342, R343). -/

namespace Sys2Proof.Machine

/-- A part of a group (RED_CFG.MODE is not 0, R323). -/
def State.grouped (s : State) : Bool := decide (s.get Reg.RED_CFG_MODE ≠ 0)

/-- ROLE: 0 ISOLATED, 1 STANDBY, 2 ACTIVE (R351). -/
def State.role (s : State) : Nat := s.get Reg.RED_STAT_ROLE

/-- SYNC_STATE: 0 not applicable, 1 TRANSFER, 2 LOCKSTEP, 3 SYNCED, 4 UNSYNCED (R351). -/
def State.sync (s : State) : Nat := s.get Reg.RED_STAT_SYNC_STATE

/-- Partners that are not reachable (R325). -/
def State.unreachable (s : State) : Nat := (s.red.partners.filter (fun p => !p.reachable)).length

/-- Proof-link lanes that are down. -/
def State.lanesDown (s : State) : Nat :=
  let up := s.get Reg.SPAN_STAT_LANE_UP
  b2n (!bitAt up 0) + b2n (!bitAt up 1)

/-- A control-relevant output is latched off for a discrepancy (R342, R375). -/
def State.discRelevant (s : State) : Bool :=
  (List.range 32).any (fun o => bitAt s.safe.disc o && s.flag Reg.SAFE_OUT_CFG_CTRL_REL o)

/-- The penalties of the rows of R342, in table order; rows of the proof link and of standbys concern group parts only. -/
def State.penalties (s : State) : List Nat :=
  [ if s.red.memErr then 8 else 0,
    if s.red.voteErr then 8 else 0,
    if s.red.handshake then 8 else 0,
    if s.red.paceLow then 8 else 0,
    if s.discRelevant then 8 else 0,
    if s.flag Reg.PWR_TEMP_STAT_OVERTEMP then 8 else 0,
    if s.flag Reg.PWR_STAT_UV_SUSTAINED then 1 else 0,
    if s.grouped then s.lanesDown else 0,
    if s.grouped then 2 * s.unreachable else 0,
    if s.grouped ∧ s.role = 1 ∧ s.sync ≠ 3 then 4 else 0 ]

/-- HEALTH (R342). -/
def State.health (s : State) : Nat := 15 - s.penalties.foldl (· + ·) 0

/-- Release health: without the link penalties (R343). -/
def State.releaseHealth (s : State) : Nat :=
  15 - ((s.penalties.take 7).foldl (· + ·) 0 + s.penalties.getD 9 0)

/-- A claim of these parts (R326). -/
def claimWord (active : Bool) (epoch health unit : Nat) : Nat :=
  b2n active * 32768 + epoch % 128 * 256 + health % 16 * 16 + unit % 16

/-- The own claim with a given ACTIVE bit. -/
def State.claimOf (s : State) (active : Bool) : Nat :=
  claimWord active (s.get Reg.RED_STAT_EPOCH) s.health (s.get Reg.RED_CFG_UNIT)

/-- The claim on the proof link: a decided release clears ACTIVE at once (R344). -/
def State.linkClaim (s : State) : Nat := s.claimOf (decide (s.role = 2) && s.red.release.isNone)

/-- The claim in output frames: ACTIVE until the release takes effect (R344). -/
def State.frameClaim (s : State) : Nat := s.claimOf (decide (s.role = 2))

/-- Whether claim a wins over claim b (R327). -/
def wins (a b : Nat) : Bool :=
  if bitAt a 15 ≠ bitAt b 15 then bitAt a 15
  else
    let d := (bitsAt a 8 7 + 128 - bitsAt b 8 7) % 128
    if d ≠ 0 ∧ d ≠ 64 then decide (d < 64)
    else if bitsAt a 4 4 ≠ bitsAt b 4 4 then decide (bitsAt b 4 4 < bitsAt a 4 4)
    else decide (bitsAt b 0 4 < bitsAt a 0 4)

/-- Send a claim frame on the proof link (R325). -/
def State.sendClaim (s : State) : State :=
  if s.grouped then
    { s with red := { s.red with lastClaim := s.linkClaim, sentClaims := s.red.sentClaims ++ [s.linkClaim] } }
  else s

/-- Send a claim frame at once when the claim has changed (R325). -/
def State.claimUpdate (s : State) : State := if s.red.lastClaim ≠ s.linkClaim then s.sendClaim else s

/-- Some partner that is neither ISOLATED nor UNIT_BAD is reachable with HEALTH of at least RELEASE_HEALTH (R343). -/
def State.successor (s : State) : Bool :=
  s.red.partners.any (fun p => p.reachable && !p.isolated && !p.unitBad
    && decide (s.get Reg.RED_CLAIM_CFG_RELEASE_HEALTH ≤ bitsAt p.claim.toNat 4 4))

/-- Decide a release (R343, R344): the claim frame with ACTIVE = 0 leaves at once. -/
def State.release (s : State) : State :=
  let s := { s with red := { s.red with release := some s.boundarySkip } }
  (s.setFlag Reg.RED_STAT_RELEASE_BLOCKED false).raise 0x0C02 |>.sendClaim

/-- The release test of an ACTIVE group part (R343). -/
def State.releaseDecide (s : State) : State :=
  if s.grouped && decide (s.role = 2) && s.red.release.isNone then
    if s.releaseHealth < s.get Reg.RED_CLAIM_CFG_RELEASE_HEALTH then
      if s.successor then s.release
      else if s.flag Reg.RED_STAT_RELEASE_BLOCKED then s
      else (s.setFlag Reg.RED_STAT_RELEASE_BLOCKED true).raise 0x0C07
    else s.setFlag Reg.RED_STAT_RELEASE_BLOCKED false
  else s

/-- What follows a change of HEALTH or of a partner: the release test, and a claim frame where the claim changed. -/
def State.healthCheck (s : State) : State := s.releaseDecide.claimUpdate

/-- What HEALTH keeps of the cause of a die or engine fault (R342). -/
def State.markCause (s : State) (cause : FaultCause) : State :=
  match cause with
  | .uncorrectable => { s with red := { s.red with memErr := true } }
  | .handshake => { s with red := { s.red with handshake := true } }

/-- A STANDBY (R132, R133, R232, R290, R319). -/
def State.standby (s : State) : Bool := s.grouped && decide (s.role = 1)

end Sys2Proof.Machine
end

