-- ==== Sys2Proof/Machine/Net.lean ====
section
/-! DEFINITION. The queue manager: classification of received frames, descriptor rings, transmit scheduling, port addresses, transmit stamps
(R147 to R155, R181, R184, R185). -/

namespace Sys2Proof.Machine

/-! ## Ports -/

/-- Ring r is enabled (R157). -/
def State.ringOn (s : State) (r : Nat) : Bool := s.flag Reg.STN_RING_CFG_ENABLE r

/-- The port belongs to an enabled ring (R156, R157). -/
def State.ringPort (s : State) (p : Nat) : Bool := s.ringOn (p / 2)

/-- The Ethernet ports work: without the SerDes clock every port is down (R461), as in reset and SLEEP (R416). In stage SYNC the part waits for
a source of time, PTP among them (R178, R383). -/
def State.portsUp (s : State) : Bool :=
  !s.flag Reg.SYS_BOARD_STAT_SERDES_CLK_BAD
    && (s.running || decide (s.mode = .done) || decide (s.mode = .boot ∧ s.get Reg.RST_BOOT_STAGE = 5))

/-- IP_ADDR of a port, 0 for none (R154). -/
def State.portIp (s : State) (p : Nat) : Nat := s.get Reg.SYS_PORT_IP_IP_ADDR p

/-- The MAC address of a port (R154). -/
def State.portMac (s : State) (p : Nat) : Nat := s.fuses.baseMac.toNat + p

/-- The head of a frame that leaves a port: its own address as the source (R154). -/
def State.headTo (s : State) (p dmac etype : Nat) : FrameHead := { smac := s.portMac p, dmac := dmac, etype := etype }

/-- The head of an IPv4 datagram that leaves a port (R154). -/
def State.ipTo (s : State) (p dmac dst : Nat) : FrameHead :=
  { smac := s.portMac p, dmac := dmac, etype := 0x0800, ip := some { src := s.portIp p, dst := dst } }

/-- A unicast datagram that arrived on a port without an address, which every consumer discards (R154). -/
def State.strayDatagram (s : State) (p : Nat) (dst : Option (BitVec 32)) : Bool :=
  decide (s.portIp p = 0) && dst.any (fun d => decide (d.toNat / 268435456 ≠ 14 ∧ d.toNat ≠ 4294967295))

/-- Count a discarded copy in STN_BAD_CNT (R157, R162). -/
def State.stnBad (s : State) : State := s.count Reg.STN_BAD_CNT_COUNT

/-! ## Receive (R149 to R153) -/

/-- The IPv4 part that kinds 3 and 4 read: UDP, not fragmented, at most one tag (R151). -/
def frameUdp (f : EthFrame) : Option Ipv4Udp :=
  if f.tags ≤ 1 then f.ip.filter (fun i => i.udp && !i.fragmented) else none

/-- Whether rule i matches a frame (R151). -/
def State.ruleMatches (s : State) (f : EthFrame) (i : Nat) : Bool :=
  let key := s.get Reg.QMGR_RULE_KEY0_ETYPE_PORT i
  let mac := s.get Reg.QMGR_RULE_KEY0_DMAC_HI i * 4294967296 + s.get Reg.QMGR_RULE_KEY1_ADDR i
  bitAt (s.get Reg.QMGR_RULE_CTL_PORT_MASK i) f.port &&
    (match s.get Reg.QMGR_RULE_CTL_KIND i with
     | 1 => decide (f.etype.toNat = key)
     | 2 => decide (f.etype.toNat = key ∧ f.dmac.toNat = mac)
     | 3 => (frameUdp f).any (fun u => decide (u.dst.toNat = s.get Reg.QMGR_RULE_KEY1_ADDR i ∧ u.dstPort.toNat = key))
     | 4 => (frameUdp f).any (fun u => decide (u.dstPort.toNat = key))
     | _ => false)

/-- The matching rule: the lowest index wins (R152). -/
def State.classify (s : State) (f : EthFrame) : Option Nat := (List.range 512).find? (s.ruleMatches f)

/-- The descriptors that a queue's ring holds. -/
def State.ringLen (s : State) (q : Nat) : Nat := s.get Reg.QMGR_Q_CFG_RING_LEN q + 1

/-- Note the occupancy of a queue in MAX_FILL. -/
def State.noteFill (s : State) (q fill : Nat) : State :=
  if s.get Reg.QMGR_Q_STAT_MAX_FILL q < fill then s.set Reg.QMGR_Q_STAT_MAX_FILL fill q else s

/-- The 32 bytes of a descriptor in the cistern (R150). -/
def descBytes (buf len port flags frameId rule ts : Nat) : List Nat :=
  leBytes 8 buf ++ leBytes 2 len ++ [port % 16, flags] ++ leBytes 2 frameId ++ leBytes 2 rule ++ leBytes 5 ts ++ List.replicate 11 0

/-- A received descriptor: it belongs to its consumer. -/
def RxDesc.bytes (d : RxDesc) : List Nat := descBytes d.buf d.len d.port (4 * b2n d.err) 0 d.rule d.ts

/-- A transmit descriptor: it belongs to the hardware until its frame has left. -/
def TxDesc.bytes (d : TxDesc) (own : Bool) : List Nat := descBytes d.buf d.len d.port (b2n own + 2 * b2n d.tsReq) d.frameId 0xFFFF d.ts

/-- A free buffer of the cistern: a multiple of 64 that the manual leaves open (log entry 6). -/
def State.buffer (s : State) : Nat × State :=
  let d := s.draw 26
  (64 * d.1, d.2)

/-- Place a received frame in a queue, or discard it when the ring is full (R149). A queue that is not in use has no ring: the frame is
discarded without a count (log entry 22). -/
def State.enqueueRx (s : State) (q : Nat) (d : RxDesc) : State :=
  if !s.flag Reg.QMGR_Q_CFG_ENABLE q then s
  else
    let l := storeGet s.qm.rx q []
    if s.ringLen q ≤ l.length then s.count Reg.QMGR_Q_STAT_DROPS q
    else
      let b := s.buffer
      let t := b.2
      ({ t with qm := { t.qm with rx := storePut t.qm.rx q (l ++ [{ d with buf := b.1 }]) } }).noteFill q (l.length + 1)

/-- The receive stamp corrected by the PHY's latency, 40 bits (R181, R182). -/
def State.rxStamp (s : State) (port stamp : Nat) : Nat :=
  (stamp + 1099511627776 - s.get Reg.TSU_PORT_LAT_RX_LAT port % 1099511627776) % 1099511627776

/-! ## Stamps at the ball (R180, R182, R183) -/

/-- A truncated stamp as full time (R182, R183). -/
def fullTime (t stamp : Nat) : Int :=
  let d := ((t : Int) - stamp) % 1099511627776
  (t : Int) - (if 549755813888 ≤ d then d - 1099511627776 else d)

/-- A stamp is the reading of the time base at its event, within 8 ns, and its row comes no earlier than the event: time passes up to a stamp that
lies ahead (R180). -/
def State.stampReached (s : State) (stamp : Nat) : State := s.advanceTo (fullTime s.now stamp).toNat

/-- Deliver a frame to a receive queue. A station link frame from a port of no enabled ring that reaches the station link is discarded and
counted there (R157). -/
def State.deliverTo (s : State) (q : Nat) (d : RxDesc) : State :=
  if s.flag Reg.QMGR_Q_CFG_ENABLE q && decide (s.get Reg.QMGR_Q_CFG_CONSUMER q = 1) && !s.ringPort d.port then s.stnBad else s.enqueueRx q d

/-- A frame that has arrived at a port: one longer than 1,522 bytes is discarded and counted as ERR; a port of an enabled ring takes station link
frames only; an ARP frame on a port with an address never reaches the rule table. -/
def State.frameTake (s : State) (f : EthFrame) : State :=
  if s.ringPort f.port && !(decide (f.tags = 0) && decide (f.etype.toNat = s.get Reg.STN_CYCLE_CFG_STN_ETYPE)) then s.stnBad
  else if 1522 < f.len then { s with qm := { s.qm with errCount := s.qm.errCount + 1 } }
  else if f.etype = 0x0806#16 ∧ s.portIp f.port ≠ 0 then s
  else match s.classify f with
    | none => s.count Reg.QMGR_NOMATCH_CNT_COUNT
    | some i =>
      let err := !f.fcsOk || decide (f.len < 64)
      let s := if err then { s with qm := { s.qm with errCount := s.qm.errCount + 1 } } else s
      s.deliverTo (s.get Reg.QMGR_RULE_CTL_QUEUE i)
        { buf := 0, len := f.len, port := f.port, rule := i, ts := s.rxStamp f.port f.stamp, err := err }

/-- FRAME_RECEIVE (R149 to R154, R157). -/
def State.frameReceive (s : State) (f : EthFrame) : State :=
  if !s.portsUp ∨ 16 ≤ f.port then s else (s.stampReached f.stamp).frameTake f

/-- ARP_REQUEST (R154, R157): answered for the port's address; a ring port counts the frame as bad. -/
def State.arpRequest (s : State) (port : Nat) (target sender : BitVec 32) (mac : BitVec 48) : State :=
  if !s.portsUp ∨ 16 ≤ port then s
  else if s.ringPort port then s.stnBad
  else if s.portIp port ≠ 0 ∧ target.toNat = s.portIp port then
    { s with qm := { s.qm with arpReply := some { port := port, askerIp := sender, head := s.headTo port mac.toNat 0x0806 } } }
  else s

/-! ## Transmit (R148, R184, R185) -/

/-- The transmit queue in use that serves a port for a consumer. -/
def State.txQueueFor (s : State) (consumer port : Nat) : Option Nat :=
  (List.range 64).find? (fun q => s.flag Reg.QMGR_Q_CFG_ENABLE q && s.flag Reg.QMGR_Q_CFG_DIR q
    && decide (s.get Reg.QMGR_Q_CFG_CONSUMER q = consumer) && bitAt (s.get Reg.QMGR_Q_PORTS_PORTS q) port)

/-- Transmit queues whose next frame leaves through a port. -/
def State.txReady (s : State) (port : Nat) : List Nat :=
  (List.range 64).filter (fun q => s.flag Reg.QMGR_Q_CFG_ENABLE q && s.flag Reg.QMGR_Q_CFG_DIR q
    && ((storeGet s.qm.tx q []).head?).any (fun d => decide (d.port = port)))

/-- The queue that a port serves next: the highest priority, and among equals the next queue number after the one served last (R148). -/
def State.txNext (s : State) (port : Nat) : Option Nat :=
  let l := s.txReady port
  let top := (l.map (fun q => s.get Reg.QMGR_Q_CFG_PRIO q)).foldl max 0
  let c := l.filter (fun q => decide (s.get Reg.QMGR_Q_CFG_PRIO q = top))
  let last := storeGet s.qm.turn port 63
  match c.find? (fun q => decide (last < q)) with
  | some q => some q
  | none => c.head?

/-- A port with no frame in progress starts the next one; a frame in progress is never preempted (R148). -/
def State.txStart (s : State) (port : Nat) : State :=
  match storeFind s.qm.busy port, s.txNext port with
  | none, some q => { s with qm := { s.qm with busy := storePut s.qm.busy port q } }
  | _, _ => s

/-- Give a frame to the transmit queue of a consumer on its port; a full ring takes no more. -/
def State.transmit (s : State) (consumer : Nat) (d : TxDesc) : State :=
  match s.txQueueFor consumer d.port with
  | none => s
  | some q =>
    let l := storeGet s.qm.tx q []
    if s.ringLen q ≤ l.length then s
    else
      let b := s.buffer
      let t := b.2
      (({ t with qm := { t.qm with tx := storePut t.qm.tx q (l ++ [{ d with buf := b.1 }]) } }).noteFill q (l.length + 1)).txStart d.port

/-- The transmit stamp corrected by the PHY's latency, 40 bits (R181, R182). -/
def State.txStamp (s : State) (port stamp : Nat) : Nat := (stamp + s.get Reg.TSU_PORT_LAT_TX_LAT port) % 1099511627776

/-- The entries of a port's transmit stamp queue. -/
def State.stampQueue (s : State) (port : Nat) : List (Nat × Nat) := storeGet s.time.stampq port []

def State.setStampQueue (s : State) (port : Nat) (l : List (Nat × Nat)) : State :=
  { s with time := { s.time with stampq := storeSet s.time.stampq port l [] } }

/-- A stamp arrives for a port's transmit stamp queue of 16 entries (R184, R185). -/
def State.queueStamp (s : State) (port frameId stamp : Nat) : State :=
  let l := s.stampQueue port
  if l.length < 16 then s.setStampQueue port (l ++ [(frameId, stamp)])
  else ((s.setFlag Reg.TSU_TSQ_STAT_OVERFLOW true port).count Reg.TSU_TSQ_STAT_OVF_CNT port).raise 0x0603

/-- The descriptor of the frame in progress leaves its ring with its stamp, and the port starts its next frame (R148, R184). -/
def State.txLeave (s : State) (queue port ts : Nat) (d : TxDesc) (rest : List TxDesc) : State :=
  let t := { s with qm := { s.qm with tx := storeSet s.qm.tx queue rest [], turn := storePut s.qm.turn port queue,
                                      busy := storeDel s.qm.busy port, txDone := some { d with ts := ts } } }
  (if d.tsReq then t.queueStamp port d.frameId ts else t).txStart port

/-- FRAME_TX_DONE (R148, R184): the frame in progress leaves; a row that names another queue finds nothing to complete. -/
def State.frameTxDone (s : State) (queue port stamp : Nat) : State :=
  if !s.portsUp ∨ storeFind s.qm.busy port ≠ some queue then s
  else match storeGet s.qm.tx queue [] with
    | [] => s
    | d :: rest => (s.stampReached stamp).txLeave queue port (s.txStamp port stamp) d rest

/-- The consumers take one received descriptor from every queue (log entry 10). -/
def State.drainRx (s : State) : State :=
  { s with qm := { s.qm with rx := (s.qm.rx.map (fun e => (e.1, e.2.drop 1))).filter (fun e => !e.2.isEmpty) } }

def execFrameReceive (f : EthFrame) (s : State) : Host.Outcome State Fault Refusal := .next (s.frameReceive f)

def execArpRequest (port : Nat) (target : BitVec 32) (sender : ArpSender) (s : State) : Host.Outcome State Fault Refusal :=
  .next (s.arpRequest port target sender.ip sender.mac)

end Sys2Proof.Machine
end

