-- ==== Sys2Proof/Machine/Ring.lean ====
section
/-! DEFINITION. The capture ring: appending entries, their places, clearing (R428 to R430, R432). -/

namespace Sys2Proof.Machine

/-- The ring's size in 8-byte units: CAP_SIZE × 16 MiB (R428). -/
def State.ringUnits (s : State) : Nat := s.get Reg.CAP_CFG_CAP_SIZE * 2097152

/-- Whether entries are appended: RUNNING, or STOPPING until its last cycle (R428, R431). -/
def State.capOn (s : State) : Bool := decide (s.get Reg.CAP_STAT_STATE = 1 ∨ s.get Reg.CAP_STAT_STATE = 2 ∧ 0 < s.cap.postLeft)

/-- Units of an entry: a 16-byte header and the padded payload (R429). -/
def entryUnits (len : Nat) : Nat := 2 + (len + 7) / 8

/-- Entries without the oldest ones that a new entry overwrites. -/
def ringDrop (free : Nat) : List CapEntry → List CapEntry
  | [] => []
  | e :: t => if (e :: t).foldl (fun n x => n + x.size) 0 ≤ free then e :: t else ringDrop free t

/-- OLDEST and NEWEST. -/
def State.ringRegs (s : State) : State :=
  let old := (s.cap.entries.head?.map CapEntry.offset).getD 0
  let new := (s.cap.entries.getLast?.map CapEntry.offset).getD 0
  (s.set Reg.CAP_OLDEST_OFFSET old).set Reg.CAP_NEWEST_OFFSET new

/-- Append an entry; it overwrites the oldest as the ring wraps (R428, R429). -/
def State.ringAppend (s : State) (e : CapEntry) : State :=
  let u := entryUnits e.len
  if s.capOn && decide (u ≤ s.ringUnits) then
    let kept := ringDrop (s.ringUnits - u) s.cap.entries
    let x := { e with size := u, offset := s.cap.head, cycle := e.cycle % 4294967296, stamp := e.stamp % 1099511627776 }
    ({ s with cap := { s.cap with entries := kept ++ [x], head := (s.cap.head + u) % s.ringUnits } }).ringRegs
  else s

/-- A sensor message as accepted on a channel (TYPE 3): the manual does not lay its payload out, so its length is free. -/
def State.ringSensor (s : State) (chan stamp : Nat) : State :=
  if s.capOn then
    let d := s.draw 16
    d.2.ringAppend { type := 3, source := chan, cycle := s.n, stamp := stamp, len := max 1 d.1 }
  else s

/-- The ring is empty: OFF without a size, else RUNNING (R428, R432). -/
def State.capClear (s : State) : State :=
  let st := if s.get Reg.CAP_CFG_CAP_SIZE = 0 then 0 else 1
  let t := ((({ s with cap := {} }).set Reg.CAP_STAT_STATE st).set Reg.CAP_STAT_TRIGGERED 0).set Reg.CAP_STAT_LOST 0
  t.ringRegs

end Sys2Proof.Machine
end

