-- ==== Sys2Proof/Machine/Security.lean ====
section
/-! DEFINITION. Keys, verification, image loading, fuse operations, random numbers (R435 to R444). Operations of commands answer a
status with the state; the rows that reach them through a register are in Machine/HostCmd.lean. -/

namespace Sys2Proof.Machine

/-- A hash of words as one number, word 0 lowest. -/
def hashNat : List Word → Nat
  | [] => 0
  | w :: t => w.toNat + 4294967296 * hashNat t

def Fuses.slot (f : Fuses) (k : Nat) : KeySlot := match k with | 0 => f.slot0 | 1 => f.slot1 | 2 => f.slot2 | _ => f.slot3

def Fuses.setSlot (f : Fuses) (k : Nat) (v : KeySlot) : Fuses :=
  match k with | 0 => { f with slot0 := v } | 1 => { f with slot1 := v } | 2 => { f with slot2 := v } | _ => { f with slot3 := v }

/-- A slot whose hash fuses are blown and whose VALID fuse is not (R436). -/
def KeySlot.spoiled (k : KeySlot) : Bool := !k.valid && !k.hash.isEmpty

/-- A slot after its hash fuses, and with `v` its VALID fuse, are blown. A slot that holds a hash is never programmed (R436). -/
def KeySlot.program (k : KeySlot) (h : List Word) (v : Bool) : KeySlot :=
  if k.valid || k.spoiled then k else { k with hash := h, valid := v }

/-- A slot after its REVOKE fuse is blown when `b`; a blown fuse stays blown. -/
def KeySlot.revoke (k : KeySlot) (b : Bool) : KeySlot := { k with revoked := k.revoked || b }

/-- The anti-rollback counter blown up to a count; blown fuses stay blown (R438). -/
def Fuses.advance (f : Fuses) (n : Nat) : Fuses := { f with rollback := max f.rollback n }

/-- DBG_OFF blown when `b` (R442). -/
def Fuses.closeDebug (f : Fuses) (b : Bool) : Fuses := { f with dbgOff := f.dbgOff || b }

/-- Whether a key hash is that of a VALID, unrevoked slot (R435). -/
def Fuses.keyOk (f : Fuses) (h : Nat) : Bool :=
  [f.slot0, f.slot1, f.slot2, f.slot3].any (fun k => k.valid && !k.revoked && decide (hashNat k.hash = h))

/-- What the check of a signed object comes to (R435): its status and WHY (1 signature, 2 structure, 3 anti-rollback). -/
def State.verifyObject (s : State) (v : Verdict) (keyHash svn : Nat) (jesuwald : Bool) : Status × Nat :=
  if !(v.sigOk && (s.fuses.keyOk keyHash || jesuwald && decide (keyHash = Config.romKey))) then (.signature, 1)
  else if !v.structOk then (.badImage, 2)
  else if svn < s.fuses.rollback then (.badImage, 3)
  else (.done, 0)

/-- The SETTINGS section verifies (R439). -/
def settingsValid (d : ImageDesc) : Bool := match d.settingsBy with | .sigSet v => v | .seal v => v

/-- The check of a user image (R439): HEADER through SIG_ID under R435, and SETTINGS through SIG_SET or a seal. -/
def State.verifyImage (s : State) (v : Verdict) (d : ImageDesc) : Status × Nat :=
  s.verifyObject { v with sigOk := v.sigOk && settingsValid d } d.keyHash d.svn false

/-- The events of a failed check (R446). -/
def State.verifyEvents (s : State) (why : Nat) : State :=
  if why = 1 then s.raise 0x0F01 else if why = 3 then s.raise 0x0F02 else s

/-! ## Fuse operations -/

/-- Writing SEC_FUSE_ARM (R441): 0xF05E arms one fuse command; another code arms nothing. -/
def State.fuseArm (s : State) (code : Nat) : Status × State :=
  (.done, if code = 0xF05E then { s with sec := { s.sec with armedAt := some s.up } } else s)

/-- Whether an arming stands (R441). -/
def State.fuseArmed (s : State) : Bool :=
  match s.sec.armedAt with
  | some t => decide (s.up ≤ t + 1000000000)
  | none => false

/-- A plate or hatch that an advance to `svn` would disable (R438). -/
def State.olderObject (s : State) (svn : Nat) : Bool :=
  [s.plate.slot0, s.plate.slot1].any (fun o => o.any (fun d => decide (d.svn < svn)))
  || (if s.get Reg.PLATE_STAT_COMMIT_SLOT = 0 then s.plate.nv0 else s.plate.nv1).any (fun e => decide (e.1.svn < svn))
  || s.solv.entries.any (fun e => decide (e.2.state = 4) && e.2.desc.any (fun h => decide (h.svn < svn)))

/-- A fuse operation refused for the state of the fuses (R436 to R438, R442). -/
def State.fuseRefused (s : State) (op slot : Nat) : Bool :=
  match op with
  | 1 => (s.fuses.slot slot).valid || (s.fuses.slot slot).spoiled
  | 2 => !([0, 1, 2, 3].any (fun k => decide (k ≠ slot) && (s.fuses.slot k).valid && !(s.fuses.slot k).revoked))
  | 3 => s.flag Reg.IMG_STAT_IMG_FALLBACK || decide (s.rst.imgSvn ≤ s.fuses.rollback) || decide (64 < s.rst.imgSvn)
      || s.olderObject s.rst.imgSvn
  | _ => false

/-- Writing SEC_FUSE_CMD (R441): PARK, no DIP, one operation at a time, an arming that the command uses up. -/
def State.fuseCmd (s : State) (op slot : Nat) : Status × State :=
  if op = 0 ∨ 5 ≤ op then (.range, s)
  else if s.mode ≠ .park then (.state, s)
  else if s.flag Reg.PWR_STAT_DIP ∨ s.sec.fuseOp.isSome then (.busy, s)
  else if !s.fuseArmed then (.state, s)
  else
    let s := { s with sec := { s.sec with armedAt := none } }
    if s.fuseRefused op slot then (.state, s)
    else
      let hash := (List.range 8).map (fun k => BitVec.ofNat 32 (s.get (Reg.SEC_KEY_HASH_WORD.at k)))
      (.done, ({ s with sec := { s.sec with fuseOp := some (op, slot), fuseHash := hash } }).setFlag Reg.SEC_STAT_FUSE_BUSY true)

/-- FUSE_OP_DONE (R436 to R442): the fuses are blown. -/
def State.fuseDone (s : State) : State :=
  match s.sec.fuseOp with
  | none => s
  | some (op, k) =>
    let s := { s with sec := { s.sec with fuseOp := none } }
    let s := (s.setFlag Reg.SEC_STAT_FUSE_BUSY false).set Reg.SEC_STAT_FUSE_RESULT Status.done.code
    match op with
    | 1 => ({ s with fuses := s.fuses.setSlot k ((s.fuses.slot k).program s.sec.fuseHash true) }).raise 0x0F03
    | 2 => ({ s with fuses := s.fuses.setSlot k ((s.fuses.slot k).revoke true) }).raise 0x0F03
    | 3 => ({ s with fuses := s.fuses.advance s.rst.imgSvn }).raise 0x0F07
    | _ => ({ s with fuses := s.fuses.closeDebug true }).raise 0x0F04

/-- What a reset leaves of a fuse operation in progress (R436, R438): free within what the manual states. -/
def State.fuseCut (s : State) : State :=
  match s.sec.fuseOp with
  | none => s
  | some (op, k) =>
    let d := s.draw 7
    let s := { d.2 with sec := { d.2.sec with fuseOp := none } }
    match op with
    | 1 => if d.1 % 3 = 0 then s
      else { s with fuses := s.fuses.setSlot k ((s.fuses.slot k).program s.sec.fuseHash (decide (d.1 % 3 = 2))) }
    | 2 => { s with fuses := s.fuses.setSlot k ((s.fuses.slot k).revoke (decide (d.1 % 2 = 1))) }
    | 3 => { s with fuses := s.fuses.advance (s.fuses.rollback + d.1 % (s.rst.imgSvn - s.fuses.rollback + 1)) }
    | _ => { s with fuses := s.fuses.closeDebug (decide (d.1 % 2 = 1)) }

/-- FUSE_ARM_EXPIRE (R441): an arming unused for 1 s lapses. -/
def State.fuseExpire (s : State) : State :=
  match s.sec.armedAt with
  | none => s
  | some t => let s := s.waitUntil (t + 1000000000); { s with sec := { s.sec with armedAt := none } }

/-! ## Image loading -/

/-- The copy that did not boot: true for B. -/
def State.otherCopyB (s : State) : Bool := !s.flag Reg.IMG_STAT_BOOT_B

def State.setOtherCopy (s : State) (c : Option (ImageDesc × Verdict)) : State :=
  { s with images := if s.otherCopyB then { s.images with copyB := c } else { s.images with copyA := c } }

/-- The image load state: 0 EMPTY, 1 LOADING, 2 VERIFYING, 3 VERIFIED, 4 ACTIVATED. -/
def State.imgLoadState (s : State) : Nat := s.get Reg.SEC_IMG_STAT_STATE

/-- An IMG_SAVE runs or waits for its values. -/
def State.imgSaving (s : State) : Bool := s.images.saveWanted || s.images.saving.isSome

/-- A command of SEC_IMG_CMD in a given state (R440). -/
def State.imgCmdCore (s : State) (op : Nat) : Status × State :=
  let st := s.imgLoadState
  match op with
  | 1 =>
    if s.imgSaving then (.busy, s)
    else if st = 2 ∨ st = 4 then (.state, s)
    else (.done, ({ s with images := { s.images with loadWords := [] } }).setOtherCopy none
      |>.set Reg.SEC_IMG_STAT_STATE 1)
  | 2 => if st = 1 then (.done, s.set Reg.SEC_IMG_STAT_STATE 2) else (.state, s)
  | 3 =>
    if st = 3 then
      (.done, ({ s with images := { s.images with pointerB := s.otherCopyB } }).set Reg.SEC_IMG_STAT_STATE 4)
    else (.state, s)
  | 4 =>
    if st = 1 ∨ st = 2 ∨ st = 3 then
      (.done, ({ s with images := { s.images with loadWords := [] } }).setOtherCopy none
        |>.set Reg.SEC_IMG_STAT_STATE 0)
    else (.state, s)
  | _ => (.range, s)

/-- A command of SEC_IMG_CMD: RESULT takes its status. -/
def State.imgCmd (s : State) (op : Nat) : Status × State :=
  let r := s.imgCmdCore op
  (r.1, r.2.set Reg.SEC_IMG_STAT_RESULT r.1.code)

/-- A write to the image load window (R440). -/
def State.imgWindow (s : State) (word : Nat) (v : Word) : Status × State :=
  if s.imgLoadState = 1 then
    (.done, { s with images := { s.images with loadWords := storePut s.images.loadWords word v } })
  else (.state, s)

/-- IMG_VERIFY_DONE (R439, R440). -/
def State.imgVerifyDone (s : State) (v : Verdict) (d : ImageDesc) : State :=
  if s.imgLoadState = 2 then
    let r := s.verifyImage v d
    let s := (s.set Reg.SEC_IMG_STAT_RESULT r.1.code).set Reg.SEC_IMG_STAT_WHY r.2
    let s := s.set Reg.SEC_IMG_STAT_SVN (if d.svn ≤ 64 then d.svn else 127)
    if r.1 = .done then
      (s.setOtherCopy (some (d, v))).set Reg.SEC_IMG_STAT_STATE 3
    else (s.verifyEvents r.2).set Reg.SEC_IMG_STAT_STATE 0
  else s

/-! ## Random numbers -/

/-- A read of SEC_RNG (R444). -/
def State.rngWord (s : State) : Status × Nat × State :=
  if s.flag Reg.SEC_STAT_RNG_FAIL then (.state, 0, { s with sec := { s.sec with lastRng := 0 } })
  else
    let d := s.draw 32
    (.done, d.1, { d.2 with sec := { d.2.sec with lastRng := d.1 } })

/-- A TRNG health test fails (R444). -/
def State.rngFail (s : State) : State :=
  if s.flag Reg.SEC_STAT_RNG_FAIL then s else (s.setFlag Reg.SEC_STAT_RNG_FAIL true).raise 0x0F05

/-- FUSE_OP_DONE (R441). -/
def execFuseOpDone (s : State) : Host.Outcome State Fault Refusal := .next s.fuseDone
/-- FUSE_ARM_EXPIRE (R441). -/
def execFuseArmExpire (s : State) : Host.Outcome State Fault Refusal := .next s.fuseExpire
/-- IMG_VERIFY_DONE (R439). -/
def execImgVerifyDone (v : Verdict) (image : ImageDesc) (s : State) : Host.Outcome State Fault Refusal :=
  .next (s.imgVerifyDone v image)
/-- TRNG_HEALTH_FAIL (R444). -/
def execTrngHealthFail (s : State) : Host.Outcome State Fault Refusal := .next s.rngFail
/-- TRNG_HEALTH_RECOVER (R444). -/
def execTrngHealthRecover (s : State) : Host.Outcome State Fault Refusal := .next (s.setFlag Reg.SEC_STAT_RNG_FAIL false)

end Sys2Proof.Machine
end

