-- ==== Sys2Proof/Machine/Sensor.lean ====
section
/-! DEFINITION. Sensor intake: templates, decoding, dating of samples, clock slip, input points, the serial adapters (R189 to R206,
R215). -/

namespace Sys2Proof.Machine

/-! ## Templates (R193) -/

/-- Byte j of a template record. -/
def State.tplByte (s : State) (t j : Nat) : Nat := s.get (Reg.TRG_TPL_BYTES.at (j / 4)) t / 256 ^ (j % 4) % 256

/-- A little-endian number of `n` bytes from byte j on. -/
def State.tplNat (s : State) (t j : Nat) : Nat → Nat
  | 0 => 0
  | n + 1 => s.tplByte t j + 256 * s.tplNat t (j + 1) n

/-- A field entry: SELECT, ENCODING, QUANTITY, SCALE. -/
structure TplField where
  select : Nat
  enc : Nat
  qty : Nat
  scale : Word
deriving DecidableEq, Repr

def State.tplKind (s : State) (t : Nat) : Nat := s.tplByte t 0
def State.tplCount (s : State) (t : Nat) : Nat := s.tplByte t 1
def State.tplTime (s : State) (t : Nat) : Nat := s.tplByte t 2
def State.tplValid (s : State) (t : Nat) : Nat := s.tplByte t 3
def State.tplFlags (s : State) (t : Nat) : Nat := s.tplByte t 14

def State.tplField (s : State) (t i : Nat) : TplField :=
  { select := s.tplNat t (16 + 8 * i) 2, enc := s.tplByte t (18 + 8 * i), qty := s.tplByte t (19 + 8 * i),
    scale := BitVec.ofNat 32 (s.tplNat t (20 + 8 * i) 4) }

/-! ## Sentences -/

/-- Characters of a sentence without its CR LF. -/
def trimCrLf (l : List Byte) : List Byte := l.filter (fun c => decide (c ≠ 13 ∧ c ≠ 10))

/-- The exclusive OR of characters (IEC 61162-1 checksum). -/
def xorSum (l : List Byte) : Byte := l.foldl (· ^^^ ·) 0

/-- The value of a hexadecimal character. -/
def hexVal (c : Byte) : Option Nat :=
  let n := c.toNat
  if 48 ≤ n ∧ n ≤ 57 then some (n - 48) else if 65 ≤ n ∧ n ≤ 70 then some (n - 55)
  else if 97 ≤ n ∧ n ≤ 102 then some (n - 87) else none

/-- An upper-case hexadecimal character. -/
def hexChar (v : Nat) : Byte := BitVec.ofNat 8 (if v < 10 then v + 48 else v + 55)

/-- The characters between the start delimiter and the asterisk, where the sentence passes the checks of R192. -/
def sentenceBody (chars : List Byte) : Option (List Byte) :=
  if 82 < chars.length then none
  else
    match trimCrLf chars with
    | [] => none
    | d :: rest =>
      if d ≠ 36 ∧ d ≠ 33 then none
      else
        let body := rest.takeWhile (fun c => decide (c ≠ 42))
        match rest.drop body.length with
        | [_, h, l] =>
          match hexVal h, hexVal l with
          | some a, some b => if (xorSum body).toNat = 16 * a + b then some body else none
          | _, _ => none
        | _ => none

/-- Split at a character. -/
def splitAt (sep : Byte) (l : List Byte) : List (List Byte) :=
  l.foldr (fun c acc => if c = sep then [] :: acc else match acc with
    | [] => [[c]]
    | h :: t => (c :: h) :: t) [[]]

/-- Split after each line feed, which stays. -/
def splitLines (l : List Byte) : List (List Byte) :=
  l.foldr (fun c acc => if c = 10 then [c] :: acc else match acc with
    | [] => [[c]]
    | h :: t => (c :: h) :: t) []

/-- The sentences of an IEC 61162-450 datagram with their CR LF, tag blocks skipped (R192); none for another datagram. -/
def datagramSentences (data : List Byte) : Option (List (List Byte)) :=
  if data.take 6 = [85, 100, 80, 98, 67, 0] then
    some (((splitLines (data.drop 6)).filter (fun l => !(trimCrLf l).isEmpty)).map (fun l =>
      match l with
      | 92 :: t => (t.dropWhile (fun c => decide (c ≠ 92))).drop 1
      | _ => l))
  else none

/-! ## Decoding of fields -/

/-- Digits as a number, their count; none for another character. -/
def digits : List Byte → Option Nat
  | [] => some 0
  | l => l.foldl (fun acc c => acc.bind (fun n => if 48 ≤ c.toNat ∧ c.toNat ≤ 57 then some (10 * n + (c.toNat - 48)) else none))
      (some 0)

/-- Decimal text as an exact rational: numerator and power of ten of the denominator. -/
def decimalText (l : List Byte) : Option (Int × Nat) :=
  let neg := decide (l.head? = some 45)
  let body := if l.head? = some 45 ∨ l.head? = some 43 then l.drop 1 else l
  let whole := body.takeWhile (fun c => decide (c ≠ 46))
  let frac := (body.drop whole.length).drop 1
  if whole.isEmpty ∧ frac.isEmpty then none
  else
    (digits (whole ++ frac)).map (fun n => (if neg then -(n : Int) else n, frac.length))

/-- ddmm.mmmm as degrees: an exact rational (numerator over 60 * 10^k). -/
def degreesText (l hemi : List Byte) (pos neg : Byte) : Option F64 :=
  match decimalText l, hemi with
  | some (v, k), [h] =>
    let unit : Int := 10 ^ (k + 2)
    let d := v / unit
    let m := v % unit
    let num := d * 60 * 10 ^ k + m
    if v < 0 then none
    else if h = pos then some (F64.ofRat num (60 * 10 ^ k))
    else if h = neg then some (F64.ofRat (-num) (60 * 10 ^ k))
    else none
  | _, _ => none

/-- hhmmss.ss as ns since UTC midnight. -/
def utcText (l : List Byte) : Option Int :=
  match decimalText l with
  | some (v, k) =>
    let unit : Int := 10 ^ k
    let whole := v / unit
    let frac := v % unit
    let h := whole / 10000
    let m := whole / 100 % 100
    let sec := whole % 100
    if v < 0 ∨ 24 ≤ h ∨ 60 ≤ m ∨ 61 ≤ sec then none
    else some (((h * 60 + m) * 60 + sec) * 1000000000 + frac * 1000000000 / unit)
  | none => none

/-- A little-endian number. -/
def leNat : List Byte → Nat
  | [] => 0
  | b :: t => b.toNat + 256 * leNat t

/-- `n` bytes at an offset, none beyond the record. -/
def bytesAt (data : List Byte) (ofs n : Nat) : Option (List Byte) :=
  if ofs + n ≤ data.length then some ((data.drop ofs).take n) else none

/-- A decoded field: its value as the channel's fields carry it, and for a declared time the ns it stands for (since UTC midnight, or since
the PTP epoch for encoding 0x0D). -/
structure FieldVal where
  val : F64
  ns : Int := 0
deriving DecidableEq, Repr

/-- Seconds as binary64. -/
def secondsOf (ns : Int) : F64 := F64.ofRat ns 1000000000

/-- Decode a field of binary data (R193). -/
def decodeBinary (data : List Byte) (f : TplField) (utcOfs : Nat) : Option FieldVal :=
  let scaled := fun (x : F64) => ({ val := F64.mul x (F64.ofF32 f.scale) } : FieldVal)
  let le := fun (n : Nat) => (bytesAt data f.select n).map leNat
  let be := fun (n : Nat) => (bytesAt data f.select n).map (fun l => leNat l.reverse)
  match f.enc with
  | 0x05 => (le 2).map (fun v => scaled (F64.ofInt (sext 16 v)))
  | 0x06 => (le 4).map (fun v => scaled (F64.ofInt (sext 32 v)))
  | 0x07 => (le 2).map (fun v => scaled (F64.ofInt v))
  | 0x08 => (le 4).map (fun v => scaled (F64.ofInt v))
  | 0x09 => (le 4).map (fun v => scaled (F64.ofF32 (BitVec.ofNat 32 v)))
  | 0x0A => (be 2).map (fun v => scaled (F64.ofInt (sext 16 v)))
  | 0x0B => (be 4).map (fun v => scaled (F64.ofInt (sext 32 v)))
  | 0x0C => (be 4).map (fun v => scaled (F64.ofF32 (BitVec.ofNat 32 v)))
  | 0x0D => (le 8).map (fun v =>
      let ns := sext 64 v
      { val := secondsOf ((ns - utcOfs * 1000000000) % 86400000000000), ns := ns })
  | 0x0E => (bytesAt data f.select 1).map (fun l => { val := F64.ofInt (if l.map BitVec.toNat = [65] then 1 else 0) })
  | 0x0F => (le 4).map (fun v => { val := secondsOf (v * 100000), ns := v * 100000 })
  | _ => none

/-- Decode a field of a sentence (R193): `fields` begin after the formatter. -/
def decodeText (fields : List (List Byte)) (f : TplField) : Option FieldVal :=
  match fields[f.select - 1]? with
  | none => none
  | some l =>
    if f.select = 0 ∨ l.isEmpty then none
    else match f.enc with
      | 0x01 => (decimalText l).map (fun v => { val := F64.mul (F64.ofRat v.1 (10 ^ v.2)) (F64.ofF32 f.scale) })
      | 0x02 => (degreesText l (fields.getD f.select []) 78 83).map (fun v => { val := v })
      | 0x03 => (degreesText l (fields.getD f.select []) 69 87).map (fun v => { val := v })
      | 0x04 => (utcText l).map (fun ns => { val := secondsOf ns, ns := ns })
      | 0x0E => some { val := F64.ofInt (if l = [65] then 1 else 0) }
      | _ => none

/-- CRC-16-CCITT over bytes (R193; polynomial 0x1021, initial value 0xFFFF: log entry 17). -/
def crc16 (l : List Byte) : Nat :=
  l.foldl (fun c b =>
    (List.range 8).foldl (fun c _ => if 32768 ≤ c then (c * 2 % 65536) ^^^ 0x1021 else c * 2) (c ^^^ (b.toNat * 256))) 0xFFFF

/-- The check of a binary record (R193). -/
def recordCheck (check : Nat) (data : List Byte) : Bool :=
  match check with
  | 1 =>
    let body := data.take (data.length - 2)
    decide (leNat (data.drop (data.length - 2)) = crc16 body)
  | 2 => decide ((data.take (data.length - 1)).foldl (fun n b => n + b.toNat) 0 % 256 = (data.getLastD 0).toNat)
  | _ => true

/-- What a channel's template makes of a message: not taken, taken and discarded for a check or a decode failure, or the decoded
fields. -/
inductive Taken where
  | no | bad | fields (l : List FieldVal)
deriving DecidableEq, Repr

/-- Decode every field in use; one that does not decode discards the message (R193). -/
def decodeAll (fs : List TplField) (dec : TplField → Option FieldVal) : Taken :=
  match fs.mapM dec with
  | some l => .fields l
  | none => .bad

/-- Offer a message to a template (R190, R192, R193). -/
def State.offer (s : State) (t : Nat) (src : SensorSource) (body : SensorBody) : Taken :=
  let fs := (List.range (s.tplCount t)).map (s.tplField t)
  let utc := s.get Reg.TRG_SLIP_CFG_UTC_OFFSET
  let onUart := match src with | .uart _ => true | _ => false
  let onQueue := match src with | .queue .. => true | _ => false
  let record := fun (data : List Byte) =>
    if data.length ≠ s.tplNat t 12 2 then Taken.no
    else if recordCheck (bitsAt (s.tplFlags t) 2 2) data then decodeAll fs (fun f => decodeBinary data f utc) else .bad
  let synced := fun (data : List Byte) =>
    let n := s.tplByte t 8
    if (data.take n).map BitVec.toNat = (List.range n).map (fun j => s.tplByte t (4 + j)) then record data else Taken.no
  match body with
  | .sentence chars =>
    match sentenceBody chars with
    | none => .no
    | some b =>
      let want := (List.range 5).map (fun j => BitVec.ofNat 8 (s.tplByte t (4 + j)))
      let k := if bitAt (s.tplFlags t) 0 then 2 else 0
      if decide (s.tplKind t = 1) && (onUart || onQueue) && decide ((b.take 5).drop k = want.drop k ∧ 5 ≤ b.length) then
        decodeAll fs (decodeText ((splitAt 44 b).drop 1))
      else .no
  | .pgn p sa fast data =>
    if s.tplKind t = 2 ∧ p = s.tplNat t 4 3 % 262144 ∧ (s.tplByte t 7 = 255 ∨ s.tplByte t 7 = sa.toNat)
        ∧ fast = bitAt (s.tplFlags t) 1 ∧ data.length ≤ 223 then
      decodeAll fs (fun f => decodeBinary data f utc)
    else .no
  | .canFrame id ext data =>
    let want := s.tplNat t 4 4
    let mask := s.tplNat t 8 4
    if s.tplKind t = 4 ∧ (id &&& mask % 536870912) = (want &&& mask) % 536870912 ∧ ext = bitAt want 31 then record data else .no
  | .binary data =>
    if decide (s.tplKind t = 3) && onUart || decide (s.tplKind t = 5) && onQueue then synced data else .no

/-! ## Samples -/

/-- A channel of the trough. -/
def State.chan (s : State) (c : Nat) : Channel := storeGet s.trough.chans c {}

def State.setChan (s : State) (c : Nat) (ch : Channel) : State :=
  { s with trough := { s.trough with chans := storeSet s.trough.chans c ch {} } }

/-- PERIOD of a channel, ns. -/
def State.period (s : State) (c : Nat) : Nat := s.get Reg.TRG_CH_PERIOD_PERIOD c * 1000

/-- A declared time as time-base time (R194): a UTC time gains UTC_OFFSET and the date that places it within 12 h of the stamp. -/
def declaredTime (enc : Nat) (ns : Int) (utcOfs stamp : Nat) : Int :=
  if enc = 0x0D then ns
  else
    let t := ns + utcOfs * 1000000000
    (stamp : Int) + ((t - stamp + 43200000000000) % 86400000000000 - 43200000000000)

/-- Span of offsets accepted at or after an instant (R204). -/
def spanSince (l : List (Nat × Int)) (t : Nat) : Nat :=
  match (l.filter (fun e => decide (t ≤ e.1))).map Prod.snd with
  | [] => 0
  | h :: r => (r.foldl max h - r.foldl min h).toNat

/-- TIME_SLIP of a channel with offsets `offs` at the present instant (R205, R206). -/
def State.slipCheck (s : State) (c : Nat) (offs : List (Nat × Int)) : State :=
  let ch := { s.chan c with offsets := offs }
  let win := s.get Reg.TRG_SLIP_CFG_TIME_SLIP_WIN * 1000000000
  if !ch.slip ∧ s.period c < spanSince offs (s.now - win) then
    (s.setChan c { ch with slip := true, slipSince := s.now }).raise 0x0703
  else if ch.slip ∧ spanSince offs (s.now - 300000000000) ≤ s.period c / 2 ∧ ch.slipSince + 300000000000 ≤ s.now then
    (s.setChan c { ch with slip := false }).raise 0x0704
  else s.setChan c ch

/-- TIME_SLIP of a channel after a sample with offset `o` (R204 to R206). -/
def State.slipUpdate (s : State) (c : Nat) (o : Int) : State :=
  let keep := max (s.get Reg.TRG_SLIP_CFG_TIME_SLIP_WIN * 1000000000) 300000000000
  s.slipCheck c ((s.now, o) :: (s.chan c).offsets.filter (fun e => decide (s.now ≤ e.1 + keep)))

/-- A flagged channel whose conditions of R206 are met without a further sample. -/
def State.slipExpire (s : State) (c : Nat) : State := if (s.chan c).slip then s.slipCheck c (s.chan c).offsets else s

/-- TIME_VALID became 0: every TIME_SLIP clears (R206). -/
def State.clearSlips (s : State) : State :=
  s.trough.chans.foldl (fun t e => if e.2.slip then (t.setChan e.1 { t.chan e.1 with slip := false }).raise 0x0704 else t) s

/-- Whether a channel is absent now (R199). -/
def State.chanAbsent (s : State) (c period : Nat) : Bool :=
  match (s.chan c).lastAccept with
  | none => true
  | some t => decide (t + 2 * period < s.now)

/-- Whether a channel is complete for the frame of t_h = th (R198). -/
def State.chanComplete (s : State) (c th period : Nat) : Bool :=
  match (s.chan c).maxTc with
  | none => false
  | some t => decide ((th : Int) - period ≤ t)

/-- The channel is enabled. -/
def State.chanOn (s : State) (c : Nat) : Bool := s.flag Reg.TRG_CH_CFG_ENABLE c

/-- Every required channel of the open frame that is not absent is complete (R199). -/
def State.frameReady (s : State) (th : Nat) : Bool :=
  s.trough.cfg.all (fun e => !(e.2.required && s.chanOn e.1) || s.chanAbsent e.1 e.2.period || s.chanComplete e.1 th e.2.period)

/-- The settings that a message is taken with: those of the open frame, which stood at t_h(k) (R201); without one those that stand now. -/
def State.takeCfg (s : State) (c : Nat) : Nat × Bool :=
  match s.trough.openTh, storeFind s.trough.cfg c with
  | some _, some e => (e.template, e.ownTime)
  | _, _ => (s.get Reg.TRG_CH_CFG_TEMPLATE c, s.flag Reg.TRG_CH_CFG_OWN_TIME c)

/-- Accept a message, whose stamp stands for the instant x, as a sample of a channel (R191, R197, R198, R200, R204 to R206). -/
def State.acceptSample (s : State) (c : Nat) (fvs : List FieldVal) (x : Int) : State :=
  let t := (s.takeCfg c).1
  let own := (s.takeCfg c).2
  let fv := fvs.getD (s.tplTime t) { val := 0 }
  let declared := declaredTime (s.tplField t (s.tplTime t)).enc fv.ns (s.get Reg.TRG_SLIP_CFG_UTC_OFFSET) x.toNat
  let s := if own ∧ s.timeValid then s.slipUpdate c (x - declared) else s
  let ch := s.chan c
  let tc : Int := if !own ∨ ch.slip ∨ !s.timeValid then x - s.get Reg.TRG_CH_LAT_LATENCY c * 1000 else declared
  let valid := if s.tplValid t = 255 then true else decide (!F64.isZero (fvs.getD (s.tplValid t) { val := 0 }).val)
  let vals := fvs.zipIdx.map (fun e => if e.2 = s.tplValid t then F64.ofInt (if valid then 1 else 0) else e.1.val)
  let sm : Sample := { tc := tc, stamp := (x % 1099511627776).toNat, fields := vals,
                       qtys := (List.range vals.length).map (fun i => (s.tplField t i).qty), valid := valid, slip := ch.slip }
  let ch := { ch with newest := some sm, fresh := true, lastAccept := some s.now,
                      maxTc := some (match ch.maxTc with | none => tc | some m => max m tc) }
  if s.trough.closedTh.any (fun th => decide (tc < (th : Int))) then
    let s := s.setChan c { ch with lateInFrame := true, lateCnt := satInc 32 ch.lateCnt }
    (s.count Reg.TRG_LATE_CNT_COUNT).raise 0x0701
  else
    let before := s.trough.openTh.any s.frameReady
    let s := s.setChan c { ch with samples := ch.samples ++ [sm] }
    if !before && s.trough.openTh.any s.frameReady then { s with trough := { s.trough with closer := some c } } else s

/-- Count a discarded message in BAD_CNT of a channel (R192, R193). -/
def State.badMessage (s : State) (c : Nat) : State :=
  let ch := s.chan c
  s.setChan c { ch with badCnt := satInc 32 ch.badCnt }

/-- Whether a channel's source is a given one. -/
def State.chanSource (s : State) (c : Nat) (src : SensorSource) : Bool :=
  match src with
  | .uart n => decide (s.get Reg.TRG_CH_CFG_SRC_KIND c = 0 ∧ s.get Reg.TRG_CH_CFG_SRC_INDEX c = n)
  | .can n => decide (s.get Reg.TRG_CH_CFG_SRC_KIND c = 1 ∧ s.get Reg.TRG_CH_CFG_SRC_INDEX c = n)
  | .queue n _ _ => decide (s.get Reg.TRG_CH_CFG_SRC_KIND c = 2 ∧ s.get Reg.TRG_CH_CFG_SRC_INDEX c = n)

/-- The enabled channels of a source, in channel order (R190). -/
def State.chansOf (s : State) (src : SensorSource) : List Nat :=
  (List.range s.variant.channels).filter (fun c => s.chanOn c && s.chanSource c src)

/-- Offer one message to the channels of its source (R190 to R193); x is the instant that its stamp stands for. -/
def State.offerMessage (s : State) (src : SensorSource) (body : SensorBody) (x : Int) : State :=
  let chans := s.chansOf src
  let broken := match body with | .sentence chars => (sentenceBody chars).isNone | _ => false
  if broken then
    if chans.isEmpty then s else (chans.foldl State.badMessage s).raise 0x0702
  else
    chans.foldl (fun t c =>
      match s.offer (s.takeCfg c).1 src body with
      | .no => t
      | .bad => (t.badMessage c).raise 0x0702
      | .fields l => (t.acceptSample c l x).ringSensor c (x % 1099511627776).toNat) s

/-- What a source cannot bring: a serial ball of bank A without its supply (R405), a CAN controller what its MODE does not receive (R192), a
queue a unicast datagram from a port without an address (R154). -/
def State.deafTo (s : State) (src : SensorSource) (body : SensorBody) : Bool :=
  match src, body with
  | .queue _ p dst, _ => s.strayDatagram p dst
  | .can n, .pgn .. => s.flag Reg.PWR_STAT_VIO_A_LOW || decide (s.get Reg.SER_CAN_CFG_MODE n ≠ 1)
  | .can n, _ => s.flag Reg.PWR_STAT_VIO_A_LOW || decide (s.get Reg.SER_CAN_CFG_MODE n ≠ 2)
  | .uart _, _ => s.flag Reg.PWR_STAT_VIO_A_LOW

/-- The stamp of a message: of an Ethernet frame corrected by the PHY's latency (R181, R192). -/
def State.sensorStamp (s : State) (src : SensorSource) (stamp : Nat) : Nat :=
  match src with | .queue _ p _ => s.rxStamp p stamp | _ => stamp % 1099511627776

/-- A sensor message (R191); an IEC 61162-450 datagram is split into its sentences (R192). -/
def State.sensorMessage (s : State) (src : SensorSource) (body : SensorBody) (stamp : Nat) : State :=
  if s.deafTo src body then s
  else
    let x := fullTime s.now (s.sensorStamp src stamp)
    match src, body with
    | .queue .., .binary data =>
      match datagramSentences data with
      | some l => l.foldl (fun t chars => t.offerMessage src (.sentence chars) x) s
      | none => s.offerMessage src body x
    | _, _ => s.offerMessage src body x

/-! ## Points of a channel -/

/-- Write a binary64 value to an F32 point: a conversion that saturates or gives a NaN makes it bad, CONVERSION (R66, R11). -/
def State.putF (s : State) (p : Nat) (x : F64) (q : Byte := qual 0) : State :=
  let w := F64.toF32 x
  if !Fp.f32.isFinite w.toNat then s.putPoint p w (qual 0x06) else s.putPoint p w q

/-- A point declared F32 by the running plate. -/
def State.declaredF32 (s : State) (p : Nat) : Bool := (s.decl p).any (fun d => decide (d.type = 3))

/-- Write one field of a channel to its input point, STALE clear (R203, R64). -/
def State.putInput (s : State) (p : Nat) (x : F64) (q : Byte) : State :=
  if s.declaredF32 p then
    let s := s.putF p x q
    s.setPoint p { s.point p with stale := false }
  else s

/-- The input points of a channel at an input window close (R203). -/
def State.channelInputs (s : State) (c : Nat) : State :=
  if !(s.chanOn c && s.flag Reg.TRG_CH_IN_IN_EN c) then s
  else
    let ch := s.chan c
    let base := s.get Reg.TRG_CH_IN_IN_BASE c
    let n := s.tplCount (s.get Reg.TRG_CH_CFG_TEMPLATE c)
    let s' := s.setChan c { s.chan c with fresh := false }
    match ch.fresh, ch.newest with
    | true, some sm =>
      let q := if ch.excluded then qual 0x08 else if !sm.valid then qual 0x03 else if ch.slip then qual 0x0A else qual 0
      (sm.fields.zipIdx).foldl (fun t e => t.putInput (base + e.2) e.1 q) s'
    | _, _ =>
      if s.chanAbsent c (s.period c) then
        (List.range n).foldl (fun t i =>
          if t.declaredF32 (base + i) then
            let t := t.putQuality (base + i) (qual 0x02)
            t.setPoint (base + i) { t.point (base + i) with stale := true }
          else t) s'
      else s'

/-- Every channel with IN_EN at an input window close (R203). -/
def State.sensorInputs (s : State) : State :=
  (List.range s.variant.channels).foldl (fun t c => (t.slipExpire c).channelInputs c) s

/-- The device points of a channel, written at each close of a frame (R215). -/
def State.channelPoints (s : State) (c : Nat) (drPos drHdg : Bool) : State :=
  let ch := s.chan c
  let b := 0xE2100 + 16 * c
  let cfg := storeFind s.trough.cfg c
  let group := (cfg.map ChanCfg.group).getD 5
  let st := if !s.chanOn c then 0 else if ch.excluded then 3
    else if s.chanAbsent c (s.period c) then 2
    else if (ch.newest.map Sample.valid).getD true then 1 else 4
  let flags := ofBits [decide (0 < ch.frameCount), (cfg.map ChanCfg.required).getD false, ch.slip, ch.lateInFrame, ch.closedOn, ch.only,
    ch.contradicts, (decide (group = 0) && drPos) || (decide (group = 1) && drHdg)]
  let s := s.putAll [(b, st), (b + 1, flags), (b + 3, ch.frameCount), (b + 4, ch.lateCnt), (b + 5, ch.badCnt), (b + 10, ch.exclCnt)]
  let s := match ch.frameTc with
    | some t => s.putF (b + 2) (secondsOf ((s.trough.closeAt : Int) - t))
    | none => s.putQuality (b + 2) (s.point (b + 2)).quality
  let s := match ch.offsets with
    | (_, o) :: _ => s.putF (b + 6) (secondsOf o)
    | [] => s.putQuality (b + 6) (s.point (b + 6)).quality
  let win := s.get Reg.TRG_SLIP_CFG_TIME_SLIP_WIN * 1000000000
  let s := s.putF (b + 7) (secondsOf (spanSince ch.offsets (s.now - win)))
  (s.putF (b + 8) ch.innov).putF (b + 9) ch.dist

/-! ## Serial adapters -/

/-- A write of LEN to SER_UART_TX (R196). -/
def State.uartSend (s : State) (u len : Nat) : Status × State :=
  let bytes := (List.range len).map (fun j =>
    BitVec.ofNat 8 (s.get (Reg.SER_UART_TXBUF_BYTES.at (j / 4)) u / 256 ^ (j % 4)))
  if len = 0 ∨ 77 < len then (.range, s)
  else if bytes.head? ≠ some 36 ∧ bytes.head? ≠ some 33 then (.range, s)
  else if (storeFind s.ser.busy u).isSome then (.busy, s)
  else if !s.flag Reg.SER_UART_CFG_TX_EN u then (.state, s)
  else
    let sum := (xorSum (bytes.drop 1)).toNat
    let sent := bytes ++ [42, hexChar (sum / 16), hexChar (sum % 16), 13, 10]
    (.done, { s with ser := { s.ser with busy := storePut s.ser.busy u (), sent := storePut s.ser.sent u sent } })

/-- NAME of a CAN controller. -/
def State.canName (s : State) (c : Nat) : Nat := s.get Reg.SER_CAN_NAME_LO_NAME_LO c + 4294967296 * s.get Reg.SER_CAN_NAME_HI_NAME_HI c

/-- The controller claims addresses (R195). -/
def State.canClaims (s : State) (c : Nat) : Bool :=
  decide (s.get Reg.SER_CAN_CFG_MODE c = 1) && s.flag Reg.SER_CAN_CFG_CLAIM_EN c

/-- Send Address Claimed with an address in use (R195). -/
def State.canClaim (s : State) (c addr : Nat) : State :=
  let s := (s.set Reg.SER_CAN_STAT_ADDR addr c).setFlag Reg.SER_CAN_STAT_CLAIMED true c
  { s with ser := { s.ser with canSent := storePut s.ser.canSent c { kind := 1, addr := addr, name := s.canName c } } }

/-- The next free address within 128 to 247, from `a` upward, wrapping (R195). -/
def nextFree (taken : List Nat) : Nat → Nat → Option Nat
  | 0, _ => none
  | k + 1, a => if taken.contains a then nextFree taken k (if a = 247 then 128 else a + 1) else some a

/-- A lost claim: the next free address, or Cannot Claim from 254 (R195). -/
def State.canReclaim (s : State) (c : Nat) : State :=
  let pref := s.get Reg.SER_CAN_CFG_PREF_ADDR c
  let start := if 128 ≤ pref ∧ pref ≤ 246 then pref + 1 else 128
  match nextFree (storeGet s.ser.taken c []) 120 start with
  | some a => s.canClaim c a
  | none =>
    let s := (s.set Reg.SER_CAN_STAT_ADDR 254 c).setFlag Reg.SER_CAN_STAT_CLAIMED false c
    { s with ser := { s.ser with canSent := storePut s.ser.canSent c { kind := 2, addr := 254, name := s.canName c } } }

/-- N2K_CLAIM_START (R195): the first claim after start-up uses PREF_ADDR. -/
def State.n2kStart (s : State) (c : Nat) : State :=
  if c < 4 ∧ s.canClaims c = true then
    s.canClaim c (s.get Reg.SER_CAN_CFG_PREF_ADDR c)
  else s

/-- N2K_ADDRESS_CLAIM_RX (R195): a claim of another NAME marks its address; a lower NAME wins the own address. -/
def State.n2kClaimRx (s : State) (c addr : Nat) (name : Nat) : State :=
  if 4 ≤ c ∨ name = s.canName c ∨ s.get Reg.SER_CAN_CFG_MODE c ≠ 1 then s
  else
    let taken := storeGet s.ser.taken c []
    let s := { s with ser := { s.ser with taken := storePut s.ser.taken c (if taken.contains addr then taken else addr :: taken) } }
    if s.canClaims c && s.flag Reg.SER_CAN_STAT_CLAIMED c && decide (s.get Reg.SER_CAN_STAT_ADDR c = addr) then
      if name < s.canName c then s.canReclaim c else s
    else s

/-- N2K_REQUEST_RX (R195): a claiming controller answers with Address Claimed, or with Cannot Claim while it holds no address. -/
def State.n2kRequest (s : State) (c : Nat) : State :=
  if c < 4 ∧ s.canClaims c = true then
    if s.flag Reg.SER_CAN_STAT_CLAIMED c then s.canClaim c (s.get Reg.SER_CAN_STAT_ADDR c)
    else { s with ser := { s.ser with canSent := storePut s.ser.canSent c { kind := 2, addr := 254, name := s.canName c } } }
  else s

/-- N2K_CLAIM_START (R195). -/
def execN2kClaimStart (can : Nat) (s : State) : Host.Outcome State Fault Refusal := .next (s.n2kStart can)
/-- N2K_ADDRESS_CLAIM_RX (R195). -/
def execN2kAddressClaimRx (can addr : Nat) (name : BitVec 64) (s : State) : Host.Outcome State Fault Refusal :=
  .next (s.n2kClaimRx can addr name.toNat)
/-- N2K_REQUEST_RX (R195). -/
def execN2kRequestRx (can : Nat) (s : State) : Host.Outcome State Fault Refusal := .next (s.n2kRequest can)
/-- UART_TX_DONE (R196). -/
def execUartTxDone (uart : Nat) (s : State) : Host.Outcome State Fault Refusal :=
  .next { s with ser := { s.ser with busy := storeDel s.ser.busy uart } }

end Sys2Proof.Machine
end

