-- ==== Sys2Proof/Machine/Trig.lean ====
section
/-! DEFINITION. Sine, cosine and the angle of a plane vector in binary64, as R217 to R264 use them: each is computed in fixed point to far more
digits than binary64 has and rounded once to nearest (R11; log entry 7). -/

namespace Sys2Proof.Machine.Fp

/-- The series of 2^q·atan(1/k), terms of alternating sign from `term` = 2^q/k^i on. -/
def atanInv (k : Nat) : Nat → Nat → Nat → Bool → Int → Int
  | 0, _, _, _, acc => acc
  | fuel + 1, term, i, plus, acc =>
    atanInv k fuel (term / (k * k)) (i + 2) (!plus) (if plus then acc + (term / i : Nat) else acc - (term / i : Nat))

/-- 2^q·π by Machin's formula: 16·atan(1/5) − 4·atan(1/239). -/
def piFix (q : Nat) : Int :=
  let g := q + 16
  (16 * atanInv 5 (g / 4 + 4) (2 ^ g / 5) 1 true 0 - 4 * atanInv 239 (g / 15 + 4) (2 ^ g / 239) 1 true 0) / 65536

/-- The terms r^i/i!, r^(i+2)/(i+2)! and so on, of alternating sign, of a number r at scale 2^q; `sq` is r² at that scale. -/
def taylor (q : Nat) (sq : Nat) : Nat → Int → Nat → Int → Int
  | 0, _, _, acc => acc
  | fuel + 1, term, i, acc => taylor q sq fuel (-(term * sq / 2 ^ q / ((i + 1) * (i + 2) : Nat))) (i + 2) (acc + term)

/-- 2^q·sin r and 2^q·cos r of r at that scale, |r| below 1. -/
def sinCosFix (q : Nat) (r : Int) : Int × Int :=
  let sq := (r * r / 2 ^ q).toNat
  (taylor q sq (q / 4 + 8) r 1 0, taylor q sq (q / 4 + 8) (2 ^ q) 0 0)

/-- Fractional digits that serve an operand of exponent e: the operand is exact in them, and what its reduction loses is made good. -/
def trigScale (e : Int) : Nat := 220 + (-e).toNat + (2 * (e + 60).toNat)

/-- Sine and cosine of m·2^e: both at scale 2^q with q. -/
def sinCos (v : Int) (e : Int) : Int × Int × Nat :=
  let q := trigScale e
  let x := v * 2 ^ (e + q).toNat
  let h := piFix q / 2
  let k := (2 * x + h) / (2 * h)
  let r := sinCosFix q (x - k * h)
  match (k % 4).toNat with
  | 0 => (r.1, r.2, q)
  | 1 => (r.2, -r.1, q)
  | 2 => (-r.1, -r.2, q)
  | _ => (-r.2, r.1, q)

/-- Round a number at scale 2^q that stands for one beside it. -/
def Fmt.ofFix (f : Fmt) (v : Int) (q : Nat) : Nat := f.round (decide (v < 0)) v.natAbs (-q) true

def Fmt.sin (f : Fmt) (a : Nat) : Nat :=
  match f.decode a with
  | .fin neg m e => if m = 0 then a else let r := sinCos (signed neg m) e; f.ofFix r.1 r.2.2
  | _ => f.nanBits

def Fmt.cos (f : Fmt) (a : Nat) : Nat :=
  match f.decode a with
  | .fin neg m e => if m = 0 then f.roundInt 1 0 false else let r := sinCos (signed neg m) e; f.ofFix r.2.1 r.2.2
  | _ => f.nanBits

/-- The series of atan: t, t³/3, t⁵/5 and so on of t at scale 2^q, of alternating sign. -/
def atanSeries (q sq : Nat) : Nat → Nat → Nat → Bool → Int → Int
  | 0, _, _, _, acc => acc
  | fuel + 1, term, i, plus, acc =>
    atanSeries q sq fuel (term * sq / 2 ^ q) (i + 2) (!plus) (if plus then acc + (term / i : Nat) else acc - (term / i : Nat))

/-- 2^q·atan(y/x) for y from 0 to x. -/
def atanFix (q y x : Nat) : Int :=
  let small := fun (n d : Nat) => let t := n * 2 ^ q / d; atanSeries q (t * t / 2 ^ q) (q / 2 + 8) t 1 true 0
  if 2 * y ≤ x then small y x else piFix q / 4 - small (x - y) (x + y)

/-- The angle of the vector (x, y), two integers at one scale not both 0, at scale 2^q: from −π to π. -/
def angleFix (q : Nat) (y x : Int) : Int :=
  let a := if y.natAbs ≤ x.natAbs then atanFix q y.natAbs x.natAbs else piFix q / 2 - atanFix q x.natAbs y.natAbs
  let b := if x < 0 then piFix q - a else a
  if y < 0 then -b else b

/-- Fractional digits that serve the angle of a vector whose components have bl and bs binary digits. -/
def angleScale (y x : Nat) : Nat := 220 + (Nat.log2 x - Nat.log2 y) + (Nat.log2 y - Nat.log2 x)

/-- The angle of the vector (x, y) in radians, from −π to π, as IEEE 754-2019 recommends it for zeros and infinities. -/
def Fmt.atan2 (f : Fmt) (y x : Nat) : Nat :=
  let piOf := fun (neg : Bool) (num den : Nat) => f.ofFix (if neg then -(piFix 220 * num / den) else piFix 220 * num / den) 220
  match f.decode y, f.decode x with
  | .nan, _ => f.nanBits
  | _, .nan => f.nanBits
  | .inf s, .inf t => piOf s (if t then 3 else 1) 4
  | .inf s, .fin _ _ _ => piOf s 1 2
  | .fin s _ _, .inf t => if t then piOf s 1 1 else f.withSign s 0
  | .fin s m e, .fin t k g =>
    if m = 0 then (if t then piOf s 1 1 else f.withSign s 0)
    else if k = 0 then piOf s 1 2
    else
      let lo := min e g
      let a := m * 2 ^ (e - lo).toNat
      let b := k * 2 ^ (g - lo).toNat
      let q := angleScale a b
      f.ofFix (angleFix q (signed s a) (signed t b)) q

end Sys2Proof.Machine.Fp
end

