-- ==== Sys2Proof/Machine/Geo.lean ====
section
/-! DEFINITION. Angles, plane vectors and the local origin in binary64 (R10, R11, R218): cosine and sine of Machine/Trig.lean. -/

namespace Sys2Proof.Machine

namespace F64

/-- π rounded to binary64. -/
def pi : F64 := 0x400921FB54442D18
def ofNat (n : Nat) : F64 := ofInt n
/-- Degrees as radians (R218). -/
def rad (x : F64) : F64 := mul x (div pi (ofNat 180))
/-- Radians as degrees. -/
def deg (x : F64) : F64 := mul x (div (ofNat 180) pi)
def cos (x : F64) : F64 := ofNatBits (Fp.f64.cos x.toNat)
def sin (x : F64) : F64 := ofNatBits (Fp.f64.sin x.toNat)
/-- The angle of the vector (x, y), from −π to π. -/
def atan2 (y x : F64) : F64 := ofNatBits (Fp.f64.atan2 y.toNat x.toNat)
def cosd (x : F64) : F64 := cos (rad x)
def sind (x : F64) : F64 := sin (rad x)
def sq (x : F64) : F64 := mul x x
/-- Length of a plane vector. -/
def hyp (x y : F64) : F64 := sqrt (add (sq x) (sq y))

/-- Reduction to [0, k): exact, then rounded; NaN and infinities give NaN. -/
def modNat (x : F64) (k : Nat) : F64 :=
  match Fp.f64.decode x.toNat with
  | .fin neg m e =>
    let v := Fp.signed neg m
    let r := if 0 ≤ e then ofInt ((v * 2 ^ e.toNat) % k)
      else ofRat (v % ((k * 2 ^ (-e).toNat : Nat) : Int)) (2 ^ (-e).toNat)
    if lt r (ofNat k) then r else zero
  | _ => ofNatBits Fp.f64.nanBits

/-- Reduction of a heading or azimuth to [0°, 360°) (R10). -/
def mod360 (x : F64) : F64 := modNat x 360

/-- Reduction of an angle difference to (-180°, 180°]. -/
def wrap180 (x : F64) : F64 :=
  let r := mod360 x
  if lt (ofNat 180) r then sub r (ofNat 360) else r

/-- Angular difference in [0°, 180°] (R208). -/
def angle (a b : F64) : F64 := abs (wrap180 (sub a b))

/-- Insert into a rising list. -/
def insertLe (x : F64) : List F64 → List F64
  | [] => [x]
  | h :: t => if le x h then x :: h :: t else h :: insertLe x t

def sort (l : List F64) : List F64 := l.foldr insertLe []

/-- The median: with an even count, the mean of the two middle values (R209). -/
def median (l : List F64) : F64 :=
  let s := sort l
  let n := s.length
  if n % 2 = 1 then s.getD (n / 2) zero
  else div (add (s.getD (n / 2 - 1) zero) (s.getD (n / 2) zero)) (ofNat 2)

def sum (l : List F64) : F64 := l.foldl add zero
def minimum (l : List F64) (d : F64) : F64 := match l with | [] => d | h :: t => t.foldl min h
def maximum (l : List F64) (d : F64) : F64 := match l with | [] => d | h :: t => t.foldl max h

/-- The nearest integer, 0 for a NaN, infinities at the ends of a 64-bit range. -/
def toInt (x : F64) : Int := (Fp.f64.toInt x.toNat (2 ^ 63)).getD 0

end F64

/-- A number of 2^-n-free form: an integer over a power of ten. -/
def scaledInt (v : Int) (den : Nat) : F64 := F64.ofRat v den

/-! ## WGS-84 (R218; a, f of the standard: log entry 18) -/

def wgsA : F64 := F64.ofNat 6378137
def wgsE2 : F64 :=
  let f := F64.div (F64.ofNat 1) (F64.ofRat 298257223563 1000000000)
  F64.mul f (F64.sub (F64.ofNat 2) f)

/-- 1 - e² sin²φ. -/
def wgsW (phi : F64) : F64 := F64.sub (F64.ofNat 1) (F64.mul wgsE2 (F64.sq (F64.sind phi)))

/-- The meridian radius at a latitude in degrees. -/
def meridianRadius (phi : F64) : F64 :=
  F64.div (F64.mul wgsA (F64.sub (F64.ofNat 1) wgsE2)) (F64.mul (wgsW phi) (F64.sqrt (wgsW phi)))

/-- The prime-vertical radius at a latitude in degrees. -/
def primeRadius (phi : F64) : F64 := F64.div wgsA (F64.sqrt (wgsW phi))

/-- A heading or azimuth in degrees as a binary32 word in [0°, 360°) (R10): a value that rounds up to 360 is 0. -/
def headingWord (x : F64) : Word :=
  let w := F64.toF32 (F64.mod360 x)
  if F64.le (F64.ofNat 360) (F64.ofF32 w) then 0 else w

/-- Write a heading or azimuth in degrees, reduced as R10 says. -/
def State.putHeading (s : State) (p : Nat) (x : F64) (q : Byte := qual 0) : State := s.putF p (F64.ofF32 (headingWord x)) q

/-- Latitude and longitude of the local origin, degrees. -/
def State.origin (s : State) : F64 × F64 :=
  (BitVec.ofNat 64 (s.get (Reg.OBS_ORIGIN_WORD.at 0) + 4294967296 * s.get (Reg.OBS_ORIGIN_WORD.at 1)),
   BitVec.ofNat 64 (s.get (Reg.OBS_ORIGIN_WORD.at 2) + 4294967296 * s.get (Reg.OBS_ORIGIN_WORD.at 3)))

/-- Write the local origin. -/
def State.setOrigin (s : State) (lat lon : F64) : State :=
  ((((s.set (Reg.OBS_ORIGIN_WORD.at 0) (lat.toNat % 4294967296)).set (Reg.OBS_ORIGIN_WORD.at 1) (lat.toNat / 4294967296)).set
    (Reg.OBS_ORIGIN_WORD.at 2) (lon.toNat % 4294967296)).set (Reg.OBS_ORIGIN_WORD.at 3) (lon.toNat / 4294967296))

/-- North and east of a latitude and longitude about an origin (R218). -/
def toLocal (o : F64 × F64) (lat lon : F64) : F64 × F64 :=
  let dlon := F64.wrap180 (F64.sub lon o.2)
  (F64.mul (F64.rad (F64.sub lat o.1)) (meridianRadius o.1),
   F64.mul (F64.mul (F64.rad dlon) (primeRadius o.1)) (F64.cosd o.1))

/-- Latitude and longitude of a local position: the inverse of `toLocal`. -/
def toGeographic (o : F64 × F64) (n e : F64) : F64 × F64 :=
  (F64.add o.1 (F64.deg (F64.div n (meridianRadius o.1))),
   F64.wrap180 (F64.add o.2 (F64.deg (F64.div e (F64.mul (primeRadius o.1) (F64.cosd o.1))))))

/-- R_z(ψ) R_y(θ) R_x(φ) r, its north and east components, angles in radians (R221). -/
def rotate (psi theta phi : F64) (r : F64 × F64 × F64) : F64 × F64 :=
  let c := F64.cos; let s := F64.sin
  let y1 := F64.sub (F64.mul (c phi) r.2.1) (F64.mul (s phi) r.2.2)
  let z1 := F64.add (F64.mul (s phi) r.2.1) (F64.mul (c phi) r.2.2)
  let x2 := F64.add (F64.mul (c theta) r.1) (F64.mul (s theta) z1)
  (F64.sub (F64.mul (c psi) x2) (F64.mul (s psi) y1), F64.add (F64.mul (s psi) x2) (F64.mul (c psi) y1))

end Sys2Proof.Machine
end

