-- ==== Sys2Proof/Machine/Ekf.lean ====
section
/-! DEFINITION. The arithmetic of the observer's Kalman filter, in binary64 with angles in radians (R216, R217, R223 to R225): the
equations of motion and of the covariance, the measurements, innovation and gain. The order of the states is that of R216. -/

namespace Sys2Proof.Machine

namespace F64

/-- An angle difference in radians, reduced to [−π, π]. -/
def wrapPi (x : F64) : F64 :=
  let turn := mul (ofNat 2) pi
  sub x (mul (ofInt (toInt (div x turn))) turn)

/-- Angular difference of two angles in radians, in degrees (R208). -/
def angleOf (a b : F64) : F64 := deg (abs (wrapPi (sub a b)))

end F64

namespace Ekf

/-- The number of an entry of the covariance, row by row of its upper triangle. -/
def idx (i j : Nat) : Nat :=
  let a := min i j
  a * 15 - a * (a - 1) / 2 + (max i j - a)

/-- The list of the entries of the upper triangle. -/
def upper (f : Nat → Nat → F64) : List F64 :=
  (List.range 15).flatMap (fun i => (List.range (15 - i)).map (fun k => f i (i + k)))

/-- An entry of a covariance. -/
def at_ (cov : List F64) (i j : Nat) : F64 := cov.getD (idx i j) 0

/-- The sum over the fifteen states. -/
def sum15 (f : Nat → F64) : F64 := F64.sum ((List.range 15).map f)

/-- Force and moment that act, divided by the mass, less the drag: the row of the rates u', v', r' (R217). -/
def rate (p : List F64) (k : Nat) (tau bias v : F64) : F64 :=
  F64.div (F64.sub (F64.add tau bias) (F64.mul (p.getD (5 + k) 0) v)) (p.getD (2 + k) 0)

/-- The equations of motion (R217): parameters, achieved τ, state. -/
def motion (p : List F64) (tau : F64 × F64 × F64) (x : List F64) : List F64 :=
  let v := fun (i : Nat) => x.getD i 0
  let c := F64.cos (v 2); let sn := F64.sin (v 2)
  let w0 := p.getD 9 0
  let bias := fun (i : Nat) => F64.neg (F64.div (v i) (p.getD 8 0))
  let wave := fun (i : Nat) => F64.sub (F64.neg (F64.mul (F64.sq w0) (v i)))
    (F64.mul (F64.mul (F64.mul (F64.ofNat 2) (p.getD 10 0)) w0) (v (i + 1)))
  [F64.sub (F64.mul (v 3) c) (F64.mul (v 4) sn), F64.add (F64.mul (v 3) sn) (F64.mul (v 4) c), v 5,
    rate p 0 tau.1 (v 6) (v 3), rate p 1 tau.2.1 (v 7) (v 4), rate p 2 tau.2.2 (v 8) (v 5),
    bias 6, bias 7, bias 8, v 10, wave 9, v 12, wave 11, v 14, wave 13]

/-- The Jacobian of the equations of motion. -/
def jacobian (p : List F64) (x : List F64) (i j : Nat) : F64 :=
  let v := fun (i : Nat) => x.getD i 0
  let c := F64.cos (v 2); let sn := F64.sin (v 2)
  let one := F64.ofNat 1
  let w0 := p.getD 9 0
  match i, j with
  | 0, 2 => F64.neg (F64.add (F64.mul (v 3) sn) (F64.mul (v 4) c))
  | 0, 3 => c
  | 0, 4 => F64.neg sn
  | 1, 2 => F64.sub (F64.mul (v 3) c) (F64.mul (v 4) sn)
  | 1, 3 => sn
  | 1, 4 => c
  | 2, 5 => one
  | 9, 10 | 11, 12 | 13, 14 => one
  | _, _ =>
    if 3 ≤ i ∧ i ≤ 5 then
      if j = i then F64.neg (F64.div (p.getD (i + 2) 0) (p.getD (i - 1) 0))
      else if j = i + 3 then F64.div one (p.getD (i - 1) 0) else 0
    else if 6 ≤ i ∧ i ≤ 8 ∧ j = i then F64.neg (F64.div one (p.getD 8 0))
    else if i = 10 ∨ i = 12 ∨ i = 14 then
      if j + 1 = i then F64.neg (F64.sq w0)
      else if j = i then F64.neg (F64.mul (F64.mul (F64.ofNat 2) (p.getD 10 0)) w0) else 0
    else 0

/-- The equations of motion and of the covariance together (R217, R223): the state's 15 numbers, then the covariance's 120. -/
def field (p : List F64) (tau : F64 × F64 × F64) (y : List F64) : List F64 :=
  let x := y.take 15
  let cov := y.drop 15
  motion p tau x ++ upper (fun i j =>
    F64.add (F64.add (sum15 (fun k => F64.mul (jacobian p x i k) (at_ cov k j)))
        (sum15 (fun k => F64.mul (at_ cov i k) (jacobian p x j k))))
      (if i = j then Config.processNoise p i else 0))

/-- State and covariance after an interval of constant τ. -/
def propagate (p : List F64) (tau : F64 × F64 × F64) (xc : List F64 × List F64) (dt : Nat) : List F64 × List F64 :=
  let y := Config.integrate (field p tau) (xc.1 ++ xc.2) dt
  ((y ++ List.replicate 15 0).take 15, ((y.drop 15) ++ List.replicate 120 0).take 120)

/-- An entry of P0 (R226, R227): the variances of north and east are the square of the position scale. -/
def p0 (p : List F64) (i j : Nat) : F64 :=
  if i = j ∧ i < 2 then F64.sq (p.getD 11 0) else Config.p0 p (idx i j)

/-- The states of a group: position n, e, u, v; heading ψ, r (R227); speed u, v. -/
def states : Nat → List Nat
  | 0 => [0, 1, 3, 4]
  | 1 => [2, 5]
  | 4 => [3, 4]
  | _ => []

/-- The covariance with the rows and columns of some states as in P0 (R225, R228). -/
def resetCov (p : List F64) (st : List Nat) (cov : List F64) : List F64 :=
  upper (fun i j => if st.contains i || st.contains j then p0 p i j else at_ cov i j)

/-- The states whose sum each value of a sample measures: η + ξ1 of its degree of freedom (R217), or a speed. -/
def rows : Nat → List (List Nat)
  | 0 => [[0, 9], [1, 11]]
  | 1 => [[2, 13]]
  | 4 => [[3], [4]]
  | _ => []

/-- The innovation y of a sample (R224). -/
def innovation (x : List F64) (group : Nat) (vals : List F64) : List F64 :=
  (rows group).zipIdx.map (fun e =>
    let d := F64.sub (vals.getD e.2 0) (F64.sum (e.1.map (fun i => x.getD i 0)))
    if group = 1 then F64.wrapPi d else d)

/-- An entry of S = H P Hᵀ + R (R224). -/
def innovCov (cov : List F64) (group : Nat) (var : F64) (a b : Nat) : F64 :=
  let r := fun (k : Nat) => (rows group).getD k []
  let hph := F64.sum ((r a).flatMap (fun i => (r b).map (at_ cov i)))
  if a = b then F64.add hph var else hph

/-- The inverse of S, of one row or of two. -/
def invCov (cov : List F64) (group : Nat) (var : F64) (a b : Nat) : F64 :=
  let s := innovCov cov group var
  if (rows group).length = 1 then F64.div (F64.ofNat 1) (s 0 0)
  else
    let det := F64.sub (F64.mul (s 0 0) (s 1 1)) (F64.mul (s 0 1) (s 1 0))
    F64.div (match a, b with | 0, 0 => s 1 1 | 1, 1 => s 0 0 | _, _ => F64.neg (s 0 1)) det

/-- ν = √(yᵀ S⁻¹ y) (R224). -/
def nu (xc : List F64 × List F64) (group : Nat) (vals : List F64) (var : F64) : F64 :=
  let y := innovation xc.1 group vals
  let n := (rows group).length
  F64.sqrt (F64.sum ((List.range n).flatMap (fun a => (List.range n).map (fun b =>
    F64.mul (F64.mul (y.getD a 0) (invCov xc.2 group var a b)) (y.getD b 0)))))

/-- An entry of the gain P Hᵀ S⁻¹; a state that may not move has gain 0. -/
def gain (cov : List F64) (group : Nat) (var : F64) (held : List Nat) (i b : Nat) : F64 :=
  if held.contains i then 0
  else F64.sum ((List.range (rows group).length).map (fun a =>
    F64.mul (F64.sum (((rows group).getD a []).map (at_ cov i))) (invCov cov group var a b)))

/-- State and covariance after a sample is fused (R223): x + K y, and (I − K H) P (I − K H)ᵀ + K R Kᵀ. -/
def fuse (xc : List F64 × List F64) (group : Nat) (vals : List F64) (var : F64) (held : List Nat) : List F64 × List F64 :=
  let y := innovation xc.1 group vals
  let m := List.range (rows group).length
  let k := fun (i b : Nat) => gain xc.2 group var held i b
  let keep := fun (i j : Nat) =>
    F64.sub (if i = j then F64.ofNat 1 else 0)
      (F64.sum (m.map (fun b => if ((rows group).getD b []).contains j then k i b else 0)))
  ((List.range 15).map (fun i => F64.add (xc.1.getD i 0) (F64.sum (m.map (fun b => F64.mul (k i b) (y.getD b 0))))),
   upper (fun i j =>
     F64.add (sum15 (fun a => F64.mul (keep i a) (sum15 (fun b => F64.mul (at_ xc.2 a b) (keep j b)))))
       (F64.sum (m.map (fun b => F64.mul (F64.mul (k i b) var) (k j b))))))

end Ekf

end Sys2Proof.Machine
end

