-- ==== Sys2Proof/Machine/Observer.lean ====
section
/-! DEFINITION. Moving references to the control origin, the contradiction tests, the vessel observer and calibration refinement
(R207 to R238). The filter's arithmetic is Machine/Ekf.lean; how its differential equations are solved, the process noise, P0 and the
refinement's numbers are free values (log entry 6). -/

namespace Sys2Proof.Machine

/-! ## Parameters (parameter table of chapter 9) -/

/-- A decimal number a / b in binary64. -/
def dec (a b : Nat) : F64 := F64.ofRat a b

/-- The derivation of observer parameter n at basic level, in binary64, rounded once. -/
def State.obsDerived (s : State) (n : Nat) : F64 :=
  let l := F64.ofF32 (BitVec.ofNat 32 (s.get Reg.OBS_PARAM_VALUE))
  let d := F64.ofF32 (BitVec.ofNat 32 (s.get (Reg.OBS_PARAM_VALUE.at 1)))
  let m33 := F64.mul (F64.mul (dec 13 10) d) (F64.sq (F64.mul (dec 1 4) l))
  match n with
  | 2 => F64.mul (dec 105 100) d
  | 3 => F64.mul (dec 18 10) d
  | 4 => m33
  | 5 => F64.div (F64.mul (dec 105 100) d) (dec 100 1)
  | 6 => F64.div (F64.mul (dec 18 10) d) (dec 60 1)
  | 7 => F64.div m33 (dec 60 1)
  | 8 => dec 1000 1
  | 9 => dec 8 10
  | 10 => dec 1 10
  | _ => dec 10 1

/-- Whether block b is at expert level (R58). -/
def State.expert (s : State) (b : Nat) : Bool := bitAt (s.get Reg.SYS_LEVEL_EXPERT) b

/-- The live value of parameter n: derived at basic level where it is an expert parameter (R58). -/
def State.obsParam (s : State) (n : Nat) : F64 :=
  F64.ofF32 (if 2 ≤ n && !s.expert 11 then F64.toF32 (s.obsDerived n) else BitVec.ofNat 32 (s.get (Reg.OBS_PARAM_VALUE.at n)))

/-- The twelve parameters of the observer. -/
def State.obsParams (s : State) : List F64 := (List.range 12).map s.obsParam

/-! ## Carrying samples to the close instant (R202, R221 to R223) -/

/-- The value of a quantity in a sample. -/
def Sample.quantity (m : Sample) (q : Nat) : Option F64 := ((m.qtys.zip m.fields).find? (fun e => decide (e.1 = q))).map Prod.snd

/-- Applied corrections of a channel: x, y, z in m, δ in rad (R234). -/
def State.applied (s : State) (c : Nat) : List F64 := storeGet s.obs.applied c [0, 0, 0, 0]

/-- Lever arm of a channel: installed value plus applied correction (R221). -/
def State.lever (s : State) (c : Nat) : F64 × F64 × F64 :=
  let a := s.applied c
  (F64.add (scaledInt (sext 16 (s.get Reg.OBS_CH_ARM_XY_ARM_X c)) 100) (a.getD 0 0),
   F64.add (scaledInt (sext 16 (s.get Reg.OBS_CH_ARM_XY_ARM_Y c)) 100) (a.getD 1 0),
   F64.add (scaledInt (sext 16 (s.get Reg.OBS_CH_ARM_Z_ARM_Z c)) 100) (a.getD 2 0))

/-- Heading offset of a channel in rad: installed value plus applied correction. -/
def State.headingOffset (s : State) (c : Nat) : F64 :=
  F64.add (F64.rad (scaledInt (sext 16 (s.get Reg.OBS_CH_ARM_Z_HDG_OFS c)) 100)) ((s.applied c).getD 3 0)

/-- Datum of a channel in m (R221). -/
def State.datum (s : State) (c : Nat) : F64 × F64 :=
  (scaledInt (sext 32 (s.get Reg.OBS_CH_DATUM_N_DATUM_N c)) 1000, scaledInt (sext 32 (s.get Reg.OBS_CH_DATUM_E_DATUM_E c)) 1000)

/-- The attitude sample for an instant (R222): from the lowest-numbered channel that delivered valid attitude to this frame or the
previous one, the sample nearest in t_c, within 100 ms. Roll and pitch in rad. -/
def State.attitudeAt (s : State) (tc : Int) : Option (F64 × F64) :=
  let chans := s.trough.chans.filter (fun e => !e.2.attitude.isEmpty)
  match chans with
  | [] => none
  | (_, ch) :: _ =>
    let best := ch.attitude.foldl (fun (b : Option Sample) sm => match b with
      | none => some sm
      | some x => if (sm.tc - tc).natAbs < (x.tc - tc).natAbs then some sm else some x) none
    match best with
    | none => none
    | some sm =>
      if (sm.tc - tc).natAbs ≤ 100000000 then
        match sm.quantity 4, sm.quantity 5 with
        | some roll, some pitch => some (F64.rad roll, F64.rad pitch)
        | _, _ => none
      else none

/-- VARIANCE of a channel as a sample is weighted (R191, R205). -/
def sampleVar (cfg : ChanCfg) (sm : Sample) : F64 :=
  let v := F64.ofF32 cfg.variance
  if sm.slip then F64.mul v (F64.ofNat 4) else v

/-- The time from a sample's t_c to the close instant, s. -/
def State.carryTime (s : State) (sm : Sample) : F64 := secondsOf ((s.trough.closeAt : Int) - sm.tc)

/-- ψ at the t_c of a sample: the heading of the state, moved by r (R221; DEDUCED, log entry 43). -/
def State.psiAt (s : State) (sm : Sample) : F64 := F64.sub (s.obs.x.getD 2 0) (F64.mul (s.obs.x.getD 5 0) (s.carryTime sm))

/-- Displacement of the CO from t_c to the close: the estimated earth-frame velocity over that time (R223). -/
def State.advanceOf (s : State) (sm : Sample) : F64 × F64 :=
  let u := s.obs.x.getD 3 0; let v := s.obs.x.getD 4 0
  let c := F64.cos (s.obs.x.getD 2 0); let sn := F64.sin (s.obs.x.getD 2 0)
  (F64.mul (F64.sub (F64.mul u c) (F64.mul v sn)) (s.carryTime sm), F64.mul (F64.add (F64.mul u sn) (F64.mul v c)) (s.carryTime sm))

/-- The lever arm of a position sample in the earth frame at its t_c, and whether roll and pitch were at hand (R221, R222). -/
def State.leverAt (s : State) (c : Nat) (sm : Sample) : (F64 × F64) × Bool :=
  let att := s.attitudeAt sm.tc
  let ap := att.getD (0, 0)
  (rotate (s.psiAt sm) ap.2 ap.1 (s.lever c), att.isSome)

/-- The measured position of a sample about the origin, before the lever arm (R218, R221). -/
def State.samplePos (s : State) (c : Nat) (sm : Sample) : F64 × F64 :=
  match sm.quantity 1, sm.quantity 2 with
  | some lat, some lon => toLocal s.origin lat lon
  | _, _ => (F64.add ((sm.quantity 7).getD 0) (s.datum c).1, F64.add ((sm.quantity 8).getD 0) (s.datum c).2)

/-- A position sample at the CO, carried to the close (R221, R223). -/
def State.positionAt (s : State) (c : Nat) (sm : Sample) : List F64 :=
  let p := s.samplePos c sm
  let r := (s.leverAt c sm).1
  let d := s.advanceOf sm
  [F64.add (F64.sub p.1 r.1) d.1, F64.add (F64.sub p.2 r.2) d.2]

/-- A sample's values at the close (R221, R223): north and east in m, heading in rad, u and v in m/s, or its raw fields. -/
def State.carriedVals (s : State) (c : Nat) (group : Nat) (sm : Sample) : List F64 :=
  let r := s.obs.x.getD 5 0
  match group with
  | 0 => s.positionAt c sm
  | 1 => [F64.add (F64.sub (F64.rad ((sm.quantity 3).getD 0)) (s.headingOffset c)) (F64.mul r (s.carryTime sm))]
  | 4 =>
    let l := s.lever c
    [F64.add ((sm.quantity 11).getD 0) (F64.mul r l.2.1), F64.sub ((sm.quantity 12).getD 0) (F64.mul r l.1)]
  | _ => sm.fields

/-- A sample carried to the close. -/
def State.carry (s : State) (c : Nat) (cfg : ChanCfg) (sm : Sample) : Carried :=
  { chan := c, group := cfg.group, tc := sm.tc, valid := sm.valid, var := sampleVar cfg sm,
    noise := Config.carryNoise s.obsParams cfg.group ((s.trough.closeAt : Int) - sm.tc).natAbs,
    vals := s.carriedVals c cfg.group sm, sample := sm }

/-- Every sample of the frame, carried to the close. -/
def State.carryAll (s : State) (l : List (Nat × ChanCfg × Sample)) : List Carried := l.map (fun e => s.carry e.1 e.2.1 e.2.2)

/-- Whether every position sample of the frame found roll and pitch (R222). -/
def State.attitudeOk (s : State) (l : List (Nat × ChanCfg × Sample)) : Bool :=
  l.all (fun e => decide (e.2.1.group ≠ 0) || (s.leverAt e.1 e.2.2).2)

/-! ## Contradiction (R207 to R212) -/

/-- Distance of two values of a group: horizontal distance in m, or angular difference in deg, in [0°, 180°] (R208). -/
def groupDistance (group : Nat) (a b : List F64) : F64 :=
  if group = 0 then F64.hyp (F64.sub (a.getD 0 0) (b.getD 0 0)) (F64.sub (a.getD 1 0) (b.getD 1 0))
  else F64.angleOf (a.getD 0 0) (b.getD 0 0)

/-- Whether a distance contradicts, with the two variances (R208). -/
def State.contradict (s : State) (group : Nat) (d v1 v2 : F64) : Bool :=
  if group = 0 then
    F64.lt (scaledInt (s.get Reg.TRG_CFG_CONTRA_POS) 10) d
      && F64.lt (F64.mul (F64.ofNat 4) (F64.sqrt (F64.add v1 v2))) d
  else F64.lt (scaledInt (s.get Reg.TRG_CFG_CONTRA_HDG) 100) d

/-- The median of a group (R209). -/
def groupMedian (group : Nat) (l : List Carried) : List F64 :=
  if group = 0 then
    [F64.median (l.map (fun c => c.vals.getD 0 0)), F64.median (l.map (fun c => c.vals.getD 1 0))]
  else
    let cost := fun (v : F64) => F64.sum (l.map (fun c => F64.angleOf v (c.vals.getD 0 0)))
    match l with
    | [] => []
    | h :: t => [(t.foldl (fun (b : F64 × F64) c =>
        let v := c.vals.getD 0 0
        if F64.lt (cost v) b.2 then (v, cost v) else b) (h.vals.getD 0 0, cost (h.vals.getD 0 0))).1]

/-- Outcome of the tests of one group: distance by channel, channels that contradicted, channels excluded by them, both of a pair. -/
structure TestResult where
  dist : List (Nat × F64) := []
  contradicting : List Nat := []
  exclude : List Nat := []
  pair : Bool := false

/-- The tests of a group on its valid channels, in channel order (R209, R210). -/
def State.testGroup (s : State) (group : Nat) (l : List Carried) : TestResult :=
  match l with
  | [] | [_] => {}
  | [a, b] =>
    let d := groupDistance group a.vals b.vals
    if s.contradict group d a.var b.var then
      let na := (s.chan a.chan).innov
      let nb := (s.chan b.chan).innov
      let two := F64.ofNat 2
      let ex := if F64.le (F64.mul two na) nb then [b.chan] else if F64.le (F64.mul two nb) na then [a.chan] else [a.chan, b.chan]
      { dist := [(a.chan, d), (b.chan, d)], contradicting := [a.chan, b.chan], exclude := ex, pair := decide (ex.length = 2) }
    else { dist := [(a.chan, d), (b.chan, d)] }
  | _ =>
    let m := groupMedian group l
    let ds := l.map (fun c =>
      let others := (l.filter (fun o => decide (o.chan ≠ c.chan))).map Carried.var
      let d := groupDistance group c.vals m
      (c.chan, d, s.contradict group d c.var (F64.minimum others 0)))
    let bad := ds.filter (fun e => e.2.2)
    let far := bad.foldl (fun (b : Option (Nat × F64)) e => match b with
      | none => some (e.1, e.2.1)
      | some x => if F64.lt e.2.1 x.2 then some x else some (e.1, e.2.1)) none
    { dist := ds.map (fun e => (e.1, e.2.1)), contradicting := bad.map Prod.fst, exclude := (far.map Prod.fst).toList }

/-- Apply the tests of a group to its channels (R209 to R212). -/
def State.applyTest (s : State) (group : Nat) (valid : List Carried) : State :=
  let t := s.testGroup group valid
  let members := (s.trough.cfg.filter (fun e => decide (e.2.group = group))).map Prod.fst
  let newly := t.exclude.filter (fun c => !(s.chan c).excluded)
  let s := members.foldl (fun u c =>
    let ch := u.chan c
    let contra := t.contradicting.contains c
    let ch := { ch with dist := (storeFind t.dist c).getD ch.dist, contradicts := !t.contradicting.isEmpty,
                        only := decide (valid.map Carried.chan = [c]) }
    if t.exclude.contains c then
      let u := u.setChan c { ch with excluded := true, agreed := 0, exclCnt := if ch.excluded then ch.exclCnt else satInc 32 ch.exclCnt }
      if ch.excluded then u else u.raise 0x0705
    else if ch.excluded then
      let n := if contra then 0 else ch.agreed + 1
      if 10 ≤ n then (u.setChan c { ch with excluded := false, agreed := 0 }).raise 0x0706
      else u.setChan c { ch with agreed := n }
    else u.setChan c ch) s
  if t.pair ∧ !newly.isEmpty then s.raise 0x0707 else s

/-! ## State of the observer -/

def State.obsState (s : State) : Nat := s.get Reg.OBS_STAT_STATE

/-- Draw a list of free binary64 values. -/
def State.drawList (s : State) : Nat → List F64 × State
  | 0 => ([], s)
  | n + 1 => let d := s.drawF64; let r := d.2.drawList n; (d.1 :: r.1, r.2)

/-- State and covariance. -/
def ObsState.xc (o : ObsState) : List F64 × List F64 := (o.x, o.cov)

/-- Put a state and a covariance. -/
def State.setXc (s : State) (v : List F64 × List F64) : State := { s with obs := { s.obs with x := v.1, cov := v.2 } }

/-- The achieved τ in effect from a boundary on (R217): that of the solution in effect, 0 without one. -/
def State.tauNote (s : State) : State :=
  let tau := (s.alloc.inEffect.map Solution.tau).getD (0, 0, 0)
  if (s.obs.tauLog.getLast?.map Prod.snd).getD (0, 0, 0) = tau then s
  else { s with obs := { s.obs with tauLog := s.obs.tauLog ++ [(s.bnd, tau)] } }

/-- Intervals of constant τ from an instant to another: their lengths in ns and τ, oldest first. -/
def tauSpans (from_ to_ : Nat) (cur : F64 × F64 × F64) : List (Nat × F64 × F64 × F64) → List (Nat × F64 × F64 × F64)
  | [] => [(to_ - from_, cur)]
  | e :: t =>
    if e.1 ≤ from_ then tauSpans from_ to_ e.2 t
    else if to_ ≤ e.1 then [(to_ - from_, cur)]
    else (e.1 - from_, cur) :: tauSpans e.1 to_ e.2 t

/-- What the log still needs after a close: the τ in effect there, and later changes. -/
def trimTau (close : Nat) (l : List (Nat × F64 × F64 × F64)) : List (Nat × F64 × F64 × F64) :=
  let old := l.filter (fun e => decide (e.1 ≤ close))
  old.drop (old.length - 1) ++ l.filter (fun e => decide (close < e.1))

/-- State and covariance propagated from the close instant before to that of this frame, under the τ of each pump boundary between
(R217, R223). -/
def State.obsPropagate (s : State) : State :=
  let t := { s with obs := { s.obs with closeAt := s.trough.closeAt, tauLog := trimTau s.trough.closeAt s.obs.tauLog } }
  if s.obsState ≠ 1 then t
  else t.setXc ((tauSpans s.obs.closeAt s.trough.closeAt (0, 0, 0) s.obs.tauLog).foldl
    (fun xc e => Ekf.propagate s.obsParams e.2 xc e.1) s.obs.xc)

/-- The group's covariance is reset to P0 (R225, R228). -/
def State.groupReset (s : State) (group : Nat) : State :=
  { s with obs := { s.obs with cov := Ekf.resetCov s.obsParams (Ekf.states group) s.obs.cov } }

/-- Whether any DP loop is AUTO or CASCADE (R219, R226). -/
def State.dpClosed (s : State) : Bool :=
  s.flag Reg.LOOP_CTL_DP_EN && [509, 510, 511].any (fun i => decide (3 ≤ (storeGet s.loops.slots i {}).state))

/-- The quality of the state points of a group: position, heading, or the rest (R226, R227, R229). -/
def State.obsQuality (s : State) (cut dr expired : Bool) : Byte :=
  if s.obsState = 0 then qual 0x01
  else if s.obsState = 2 then qual 0x0B
  else if cut then qual 0x09
  else if expired then qual 0x02
  else if dr then qual 0x09
  else qual 0

/-- The points of the observer (R237), written after each update. -/
def State.obsPoints (s : State) (cut : Bool) : State :=
  let o := s.obs
  let x := fun (i : Nat) => o.x.getD i 0
  let qp := s.obsQuality cut o.drPos o.expPos
  let qh := s.obsQuality cut o.drHdg o.expHdg
  let qr := s.obsQuality cut false false
  let sd := fun (i : Nat) => F64.sqrt (o.cov.getD i 0)
  let b := 0xE2000
  let s := [(0, x 0, qp), (1, x 1, qp), (3, x 3, qp), (4, x 4, qp), (5, F64.deg (x 5), qh),
      (6, x 6, qr), (7, x 7, qr), (8, x 8, qr), (9, x 9, qr), (10, x 11, qr), (11, F64.deg (x 13), qr),
      (12, sd 0, qp), (13, sd 15, qp), (14, F64.deg (sd 29), qh)].foldl
    (fun (t : State) (e : Nat × F64 × Byte) => t.putF (b + e.1) e.2.1 e.2.2) s
  let s := s.putHeading (b + 2) (F64.deg (x 2)) qh
  let env := fun (lo : Nat) => ofBits ((List.range 32).map (fun i => (storeFind o.atEnv (lo + i)).isSome))
  let flags := ofBits [o.drPos, o.drHdg, o.expPos, o.expHdg, o.attAbsent, o.farOrigin, s.flag Reg.OBS_STAT_FAILOVER,
    s.flag Reg.OBS_STAT_SPARE_LOST, s.flag Reg.OBS_STAT_CAL_FROZEN, o.saving.isSome || o.saveWanted]
  let s := s.putAll [(b + 15, s.obsState), (b + 16, flags), (b + 19, o.updates), (b + 20, o.gated), (b + 21, env 0), (b + 22, env 32)]
  (s.putF (b + 17) (secondsOf o.drPosNs)).putF (b + 18) (secondsOf o.drHdgNs)

/-- Enter INIT (R226). -/
def State.obsInit (s : State) : State :=
  let s := s.set Reg.OBS_STAT_STATE 0
  { s with obs := { s.obs with x := [], cov := [], hdgSet := false, posSet := false, drPos := false, drHdg := false, drPosNs := 0,
                               drHdgNs := 0, expPos := false, expHdg := false, gates := [], farOrigin := false } }

/-- Enter RUN (R226): u, v, r, the biases and the wave components start at 0, the covariance at P0. -/
def State.obsRun (s : State) : State :=
  let t := s.set Reg.OBS_STAT_STATE 1
  { t with obs := { t.obs with x := (t.obs.x ++ List.replicate 15 0).take 15, cov := Ekf.upper (Ekf.p0 s.obsParams),
                               runSince := t.up } }

/-- The origin of ORIGIN_AUTO (R219): a position sample moved to the CO, with the radii of its own latitude. -/
def State.originOf (s : State) (c : Nat) (sm : Sample) : Option (F64 × F64) :=
  match sm.quantity 1, sm.quantity 2 with
  | some lat, some lon =>
    let r := (s.leverAt c sm).1
    some (toGeographic (lat, lon) (F64.neg r.1) (F64.neg r.2))
  | _, _ => none

/-- A sample fused in INIT (R219, R226): the first heading sets ψ, the first position after it n and e. -/
def State.fuseInit (s : State) (c : Carried) : State :=
  let st := s.obs
  if c.group = 1 ∧ !st.hdgSet then
    { s with obs := { st with hdgSet := true, x := [0, 0, c.vals.getD 0 0] } }
  else if c.group = 0 ∧ st.hdgSet ∧ !st.posSet then
    match (if s.flag Reg.OBS_CFG_ORIGIN_AUTO then s.originOf c.chan c.sample else none) with
    | some g =>
      let t := s.setOrigin g.1 g.2
      ({ t with obs := { t.obs with posSet := true, x := [0, 0, st.x.getD 2 0] } }).obsRun
    | none => ({ s with obs := { st with posSet := true, x := s.positionAt c.chan c.sample ++ [st.x.getD 2 0] } }).obsRun
  else s

/-- Whether a group dead-reckons so far. -/
def State.drOf (s : State) (group : Nat) : Bool :=
  if group = 0 then s.obs.drPos else if group = 1 then s.obs.drHdg else false

/-- The states of the groups that dead-reckon, which propagate by the model alone (R227). -/
def State.drStates (s : State) : List Nat :=
  (if s.obs.drPos then Ekf.states 0 else []) ++ (if s.obs.drHdg then Ekf.states 1 else [])

/-- Dead-reckoning of a group ends (R228). -/
def State.drEnd (s : State) (group : Nat) : State :=
  let s := if group = 0 then { s with obs := { s.obs with drPos := false, drPosNs := 0, expPos := false } }
    else { s with obs := { s.obs with drHdg := false, drHdgNs := 0, expHdg := false } }
  s.raise 0x0803

/-- The gate count of a group. -/
def State.gateCount (s : State) (group : Nat) : Nat := storeGet s.obs.gates group 0

/-- The variance of a carried sample as the filter takes it: that of its channel in the unit of the state, with the process noise of its
carriage (R223). -/
def Carried.weight (c : Carried) : F64 :=
  F64.add (if c.group = 1 then F64.mul c.var (F64.sq (F64.rad (F64.ofNat 1))) else c.var) c.noise

/-- ν of a carried sample (R224). -/
def State.nuOf (s : State) (c : Carried) : F64 := Ekf.nu s.obs.xc c.group c.vals c.weight

/-- A sample passes the gate (R224). -/
def State.inGate (s : State) (c : Carried) : Bool := !F64.lt (scaledInt (s.get Reg.OBS_CFG_NU_GATE) 10) (s.nuOf c)

/-- A sample enters state and covariance (R223); its group has no gated frames any more. -/
def State.fuseOne (s : State) (c : Carried) : State :=
  let t := s.setXc (Ekf.fuse s.obs.xc c.group c.vals c.weight s.drStates)
  { t with obs := { t.obs with gates := storeSet t.obs.gates c.group 0 0 } }

/-- A sample offered in RUN (R224, R225, R228): ν is written; a sample whose group dead-reckons or is due to be anchored again is fused
without the gate, its group's covariance reset to P0; another one passes the gate or is not fused. -/
def State.offerSample (s : State) (c : Carried) : Bool × State :=
  let t := s.setChan c.chan { s.chan c.chan with innov := s.nuOf c }
  if s.drOf c.group then (true, (((t.drEnd c.group).groupReset c.group).fuseOne c))
  else if s.get Reg.OBS_CFG_NU_REANCHOR ≤ s.gateCount c.group then (true, (((t.raise 0x0806).groupReset c.group).fuseOne c))
  else if s.inGate c then (true, t.fuseOne c)
  else (false, ({ t with obs := { t.obs with gated := satInc 32 t.obs.gated } }).raise 0x0805)

/-- Fuse one sample of a frame (R223 to R228); `done` lists the samples fused already in this frame. -/
def State.fuseSample (s : State) (done : List Carried) (c : Carried) : List Carried × State :=
  if s.obsState = 0 then (c :: done, s.fuseInit c)
  else
    let r := s.offerSample c
    (if r.1 then c :: done else done, r.2)

/-- Fuse the samples of a frame, oldest first. -/
def State.fuseAll (s : State) (l : List Carried) : List Carried × State :=
  l.foldl (fun (acc : List Carried × State) c => acc.2.fuseSample acc.1 c) ([], s)

/-- Insert by t_c, then channel (R223). -/
def insertCarried (c : Carried) : List Carried → List Carried
  | [] => [c]
  | h :: t => if c.tc < h.tc ∨ c.tc = h.tc ∧ c.chan ≤ h.chan then c :: h :: t else h :: insertCarried c t

/-- Dead-reckoning begins at the close at which a group has no usable channel (R227). -/
def State.drStart (s : State) (group : Nat) (usable : Bool) : State :=
  if usable ∨ s.obsState ≠ 1 ∨ s.drOf group = true then s
  else if group = 0 then ({ s with obs := { s.obs with drPos := true, drPosNs := 0, expPos := false } }).raise 0x0801
  else ({ s with obs := { s.obs with drHdg := true, drHdgNs := 0, expHdg := false } }).raise 0x0802

/-- DR_TIME counts up over the interval before a close to which the group came dead-reckoning and which did not end it (R227). -/
def State.drCount (s : State) (group : Nat) (was : Bool) (dt : Nat) : State :=
  let o := s.obs
  if was ∧ s.drOf group = true then
    let ns := (if group = 0 then o.drPosNs else o.drHdgNs) + dt
    let lim := (if group = 0 then s.get Reg.OBS_CFG_DR_MAX_POS else s.get Reg.OBS_CFG_DR_MAX_HDG) * 1000000000
    let was_ := if group = 0 then o.expPos else o.expHdg
    let exp := was_ || decide (lim < ns)
    let t := if group = 0 then { s with obs := { o with drPosNs := ns, expPos := exp } }
      else { s with obs := { o with drHdgNs := ns, expHdg := exp } }
    if exp ∧ !was_ then t.raise 0x0804 else t
  else s

/-- Groups of which every fused-group sample of the frame was gated (R225). -/
def State.gateStep (s : State) (offered fused : List Nat) : State :=
  [0, 1, 2, 4].foldl (fun t g =>
    if offered.contains g ∧ !fused.contains g ∧ t.obsState = 1 then
      { t with obs := { t.obs with gates := storeSet t.obs.gates g (t.gateCount g + 1) 0 } }
    else t) s

/-! ## Calibration refinement (R231 to R236) -/

/-- Whether refinement gains information for a group at a close (R232): two valid fused channels of different INDEP_ID. -/
def State.independent (s : State) (group : Nat) (fused : List Carried) : Bool :=
  let ids := (fused.filter (fun c => decide (c.group = group))).map (fun c => s.get Reg.OBS_CH_REF_INDEP_ID c.chan)
  match ids with
  | [] => false
  | h :: t => t.any (fun i => decide (i ≠ h))

/-- The conditions of R232 that hold for every group. -/
def State.refineFree (s : State) : Bool :=
  !(s.trough.chans.any (fun e => e.2.excluded || e.2.slip)) && !s.trough.contradiction && !s.obs.drPos && !s.obs.drHdg
    && !s.obs.attAbsent && decide (s.obsState = 1) && decide (s.obs.runSince + 60000000000 ≤ s.up) && !s.standby

/-- An estimate held within an envelope, and whether it lies at the edge (R233). -/
def atEnvelope (x env : F64) : F64 × Bool :=
  (F64.clamp x (F64.neg env) env, F64.le env (F64.abs x))

/-- The envelope of correction i of a channel: arm in m, heading in rad. -/
def State.envelope (s : State) (i : Nat) : F64 :=
  if i < 3 then scaledInt (s.get Reg.OBS_CAL_CFG_ENV_ARM) 1000 else F64.rad (scaledInt (s.get Reg.OBS_CAL_CFG_ENV_HDG) 100)

/-- Clamp the estimates of a channel to the envelope; every axis that arrives at an edge records (R233). -/
def State.clampChannel (s : State) (c : Nat) : State :=
  match storeFind s.obs.est c with
  | none => s
  | some l =>
    let r := l.zipIdx.map (fun e => atEnvelope e.1 (s.envelope e.2))
    let was := storeGet s.obs.atEnv c 0
    let arrived := r.zipIdx.filter (fun e => e.1.2 && !bitAt was e.2)
    let t := { s with obs := { s.obs with est := storePut s.obs.est c (r.map Prod.fst),
                                          atEnv := storeSet s.obs.atEnv c (ofBits (r.map Prod.snd)) 0 } }
    arrived.foldl (fun u _ => u.raise 0x0809) t

/-- The corrections that a group refines: x, y, z for position, δ for heading (R231). -/
def axesOf (group : Nat) : List Nat := if group = 0 then [0, 1, 2] else [3]

/-- A list with what a group refines replaced. -/
def withAxes (group : Nat) (old new : List F64) : List F64 :=
  (List.range 4).map (fun i => if (axesOf group).contains i then new.getD i 0 else old.getD i 0)

/-- Put the estimates of a group for a channel. -/
def State.putEst (s : State) (c group : Nat) (new : List F64) : State :=
  { s with obs := { s.obs with est := storePut s.obs.est c (withAxes group (storeGet s.obs.est c [0, 0, 0, 0]) new) } }

/-- One refinement of a channel: free estimates of what its group refines, free covariance (R231). -/
def State.refineChannel (s : State) (group c : Nat) : State :=
  let d := s.drawList 4
  let v := d.2.drawList 4
  let t := v.2.putEst c group d.1
  { t with obs := { t.obs with estCov := storePut t.obs.estCov c (withAxes group (storeGet t.obs.estCov c []) v.1) } }

/-- The sum of a group's corrections is zero: the last channel takes what the others leave (R231). -/
def State.zeroSum (s : State) (group : Nat) (chans : List Nat) : State :=
  match chans.getLast? with
  | none => s
  | some c =>
    s.putEst c group ((List.range 4).map (fun i =>
      F64.neg (F64.sum ((chans.take (chans.length - 1)).map (fun d => (storeGet s.obs.est d [0, 0, 0, 0]).getD i 0)))))

/-- The channels that a group refines. -/
def State.refinedOf (s : State) (group : Nat) : List Nat :=
  (s.instancesOf Reg.OBS_CH_REF_REFINE).filter (fun c => decide (s.get Reg.TRG_CH_CFG_GROUP c = group))

/-- The refinement of one group that gains information (R231): with an anchor among the valid channels, or constrained. -/
def State.refineGroup (s : State) (group : Nat) (valid : List Nat) : State :=
  let chans := s.refinedOf group
  let t := chans.foldl (State.refineChannel · group ·) s
  if valid.all (fun c => chans.contains c) then t.zeroSum group chans else t

/-- The applied corrections of a group follow the estimates at 2 mm/s per axis and 0.01°/s (R234). -/
def State.followChannel (s : State) (group dt c : Nat) : State :=
  let est := storeGet s.obs.est c [0, 0, 0, 0]
  let now := s.applied c
  let step := fun (i : Nat) =>
    if i < 3 then F64.ofRat (2 * dt) 1000000000000 else F64.rad (F64.ofRat dt 100000000000)
  let next := now.zipIdx.map (fun e =>
    F64.add e.1 (F64.clamp (F64.sub (est.getD e.2 0) e.1) (F64.neg (step e.2)) (step e.2)))
  { s with obs := { s.obs with applied := storePut s.obs.applied c (withAxes group now next) } }

/-- Channels that have an estimate or an applied correction. -/
def State.corrected (s : State) : List Nat :=
  (List.range 64).filter (fun c => (storeFind s.obs.est c).isSome || (storeFind s.obs.applied c).isSome)

/-- Start a save of the estimates to the calibration store (R235); DIP or a save in progress defers it. -/
def State.calSaveStart (s : State) : State :=
  if s.flag Reg.PWR_STAT_DIP ∨ s.obs.saving.isSome then { s with obs := { s.obs with saveWanted := true } }
  else
    let seq := max ((s.obs.copyA.map CalCopy.seq).getD 0) ((s.obs.copyB.map CalCopy.seq).getD 0) + 1
    ({ s with obs := { s.obs with saving := some { seq := seq, est := s.obs.est, cov := s.obs.estCov }, saveWanted := false } }).setFlag
      Reg.OBS_STAT_CAL_BUSY true

/-- The save completes: the copy without the latest sequence number holds it (R235); DIP pauses it (R400). -/
def State.calSaveDone (s : State) : State :=
  match (if s.flag Reg.PWR_STAT_DIP then none else s.obs.saving) with
  | none => s
  | some c =>
    let a := (s.obs.copyA.map CalCopy.seq).getD 0
    let b := (s.obs.copyB.map CalCopy.seq).getD 0
    let obs := if a ≤ b then { s.obs with copyA := some c } else { s.obs with copyB := some c }
    let s := (({ s with obs := { obs with saving := none } }).setFlag Reg.OBS_STAT_CAL_BUSY false).raise 0x080A
    if s.obs.saveWanted then s.calSaveStart else s

/-- A save that DIP deferred begins (R235, R400). -/
def State.calSaveResume (s : State) : State :=
  if s.obs.saveWanted && s.obs.saving.isNone then s.calSaveStart else s

/-- The copy restored at start-up: valid, highest sequence number (R235). -/
def ObsState.latest (o : ObsState) : Option CalCopy :=
  match o.copyA.filter CalCopy.ok, o.copyB.filter CalCopy.ok with
  | none, b => b
  | a, none => a
  | some a, some b => if a.seq < b.seq then some b else some a

/-- CAL_RESET of all channels or of listed ones, at a close (R236). -/
def State.calResetApply (s : State) : State :=
  if s.obs.calReset then
    (({ s with obs := { s.obs with calReset := false, chanReset := [], est := [], estCov := [], atEnv := [] } }).calSaveStart).raise 0x080B
  else if s.obs.chanReset.isEmpty then s
  else
    let chans := s.obs.chanReset.map Prod.fst
    let drop := fun (l : Store (List F64)) => l.filter (fun e => !chans.contains e.1)
    (({ s with obs := { s.obs with chanReset := [], est := drop s.obs.est, estCov := drop s.obs.estCov,
                                    atEnv := s.obs.atEnv.filter (fun e => !chans.contains e.1) } }).calSaveStart).raise 0x080B

/-- Refinement at a close (R231 to R236): `fused` are the samples fused, `valid` all valid ones of the frame. A group that gains nothing
is frozen. -/
def State.refine (s : State) (fused valid : List Carried) (dt : Nat) : State :=
  let s := s.calResetApply
  let gains := fun (g : Nat) => s.refineFree && s.independent g fused
  let t := s.setFlag Reg.OBS_STAT_CAL_FROZEN (!(gains 0 || gains 1))
  let one := fun (u : State) (g : Nat) =>
    if gains g then
      let a := u.refineGroup g ((valid.filter (fun c => decide (c.group = g))).map Carried.chan)
      let b := a.obs.est.foldl (fun v e => v.clampChannel e.1) a
      b.corrected.foldl (State.followChannel · g dt ·) b
    else u
  let u := one (one t 0) 1
  u.obs.est.foldl (fun v e => v.clampChannel e.1) u

/-! ## One update (R223) -/

/-- A number of m as a DATUM word: mm, rounded to the nearest. -/
def datumWord (x : F64) : Nat := (F64.toInt (F64.mul x (F64.ofNat 1000)) % 4294967296).toNat

/-- The datum with which a relative sample agrees with the estimate (R221): the estimated CO at its t_c plus the lever arm, less the
reading. -/
def State.datumFor (s : State) (c : Nat) (sm : Sample) : F64 × F64 :=
  let d := s.advanceOf sm
  let r := (s.leverAt c sm).1
  let at_ := fun (x d r q : F64) => F64.sub (F64.add (F64.sub x d) r) q
  (at_ (s.obs.x.getD 0 0) d.1 r.1 ((sm.quantity 7).getD 0), at_ (s.obs.x.getD 1 0) d.2 r.2 ((sm.quantity 8).getD 0))

/-- DATUM_SET at a close (R221): a channel asked for takes the datum of its first relative sample in the frame. -/
def State.datumApply (s : State) (frame : List (Nat × ChanCfg × Sample)) : State :=
  if s.obsState ≠ 1 then s
  else s.obs.datumReq.foldl (fun t e =>
    match frame.find? (fun f => decide (f.1 = e.1) && (f.2.2.quantity 7).isSome && (f.2.2.quantity 8).isSome) with
    | some (c, _, sm) =>
      let d := s.datumFor c sm
      let t := (t.set Reg.OBS_CH_DATUM_N_DATUM_N (datumWord d.1) c).set Reg.OBS_CH_DATUM_E_DATUM_E (datumWord d.2) c
      { t with obs := { t.obs with datumReq := storeDel t.obs.datumReq c } }
    | none => t) s

/-- FAR_ORIGIN (R220). -/
def State.farCheck (s : State) : State :=
  let d := F64.hyp (s.obs.x.getD 0 0) (s.obs.x.getD 1 0)
  let far := decide (s.obsState = 1) && F64.lt (F64.ofNat 20000) d
  let was := s.obs.farOrigin
  let s := { s with obs := { s.obs with farOrigin := far } }
  if far ∧ !was then s.raise 0x080C else s

/-- ATT_ABSENT of a frame, recorded for each frame that lacks attitude (R222). -/
def State.attCheck (s : State) (attOk : Bool) : State :=
  let t := { s with obs := { s.obs with attAbsent := !attOk } }
  if attOk then t else t.raise 0x0807

/-- The samples that an update fuses: valid, of groups 0, 1 and 4, not excluded, oldest first (R223); none of a group without a usable
channel, which dead-reckons (R227, log entry 43). Attitude has no state to enter. -/
def State.fusable (s : State) (samples : List Carried) (posUsable hdgUsable : Bool) : List Carried :=
  (samples.filter (fun c => c.valid && !(s.chan c.chan).excluded
    && (decide (c.group = 4) || decide (c.group = 0) && posUsable || decide (c.group = 1) && hdgUsable))).foldr insertCarried []

/-- UPDATES counts one more. -/
def State.obsCount (s : State) : State := { s with obs := { s.obs with updates := satInc 32 s.obs.updates } }

/-- The mirrored state takes the state after the update (R226); in INIT there is none. -/
def State.obsMirror (s : State) : State :=
  { s with obs := { s.obs with mirrored := if s.obsState = 1 then some (s.obs.x, s.obs.cov, s.trough.closeAt) else none } }

/-- Both counts of DR_TIME (R227): `pos` and `hdg` say which groups came to the close dead-reckoning. -/
def State.drCounts (s : State) (pos hdg : Bool) (dt : Nat) : State := (s.drCount 0 pos dt).drCount 1 hdg dt

/-- The update proper: fusion, gating, dead-reckoning, refinement (R223 to R234), from the propagated state. -/
def State.obsFuse (s : State) (samples : List Carried) (posUsable hdgUsable : Bool) (dt : Nat) : State :=
  let fus := s.fusable samples posUsable hdgUsable
  let a := (s.drStart 0 posUsable).drStart 1 hdgUsable
  let r := a.fuseAll fus
  let t := if s.obsState = 1 then r.2.gateStep (fus.map Carried.group) (r.1.map Carried.group) else r.2
  ((((t.drCounts s.obs.drPos s.obs.drHdg dt).obsCount).farCheck).refine r.1 (samples.filter Carried.valid) dt).obsMirror

/-- What a close does in the observer without an update, after a fault of its engine or stopped (R229): the propagation stands, nothing is
fused and refinement is frozen. -/
def State.obsCut (s : State) (posUsable hdgUsable : Bool) (dt : Nat) : State :=
  let a := (s.drStart 0 posUsable).drStart 1 hdgUsable
  ((a.drCounts s.obs.drPos s.obs.drHdg dt).refine [] [] dt).obsMirror

/-- The update of the observer at a close (R216 to R230), from the propagated state: samples of the frame carried to the close, usable
groups, length of the interval. -/
def State.obsUpdate (s : State) (samples : List Carried) (posUsable hdgUsable : Bool) (dt : Nat) : State :=
  let t := { s with obs := { s.obs with cutUpdate := false } }
  if s.obsState = 2 then (t.refine [] [] dt).obsPoints false
  else if s.obs.cutUpdate then (t.obsCut posUsable hdgUsable dt).obsPoints (decide (s.obsState = 1))
  else (t.obsFuse samples posUsable hdgUsable dt).obsPoints false

/-! ## Commands and events -/

/-- ORIGIN_SET (R219). -/
def State.originSet (s : State) : Status × State :=
  if s.dpClosed then (.loopClosed, s) else (.done, { s with obs := { s.obs with originReq := true } })

/-- REINIT (R226). -/
def State.obsReinit (s : State) : Status × State :=
  if s.dpClosed then (.loopClosed, s) else (.done, { s with obs := { s.obs with reinitReq := true } })

/-- CAL_SAVE (R235). -/
def State.calSave (s : State) : Status × State :=
  if s.obs.saving.isSome then (.busy, s) else (.done, s.calSaveStart)

/-- CAL_RESET of all channels (R236). -/
def State.calResetCmd (s : State) : Status × State :=
  if s.grouped ∧ s.role = 1 then (.role, s) else (.done, { s with obs := { s.obs with calReset := true } })

/-- OBS_CH_CMD.CAL_RESET (R236). -/
def State.chanCalReset (s : State) (c : Nat) : Status × State :=
  if s.grouped ∧ s.role = 1 then (.role, s) else (.done, { s with obs := { s.obs with chanReset := storePut s.obs.chanReset c () } })

/-- OBS_CH_CMD.DATUM_SET (R221). -/
def State.datumSet (s : State) (c : Nat) : Status × State :=
  if s.obsState ≠ 1 then (.state, s) else (.done, { s with obs := { s.obs with datumReq := storePut s.obs.datumReq c () } })

/-- What the observer does at a hold boundary (R219, R226). -/
def State.obsBoundary (s : State) : State :=
  let s := if s.obs.originReq then
      let s := { s with obs := { s.obs with originReq := false } }
      if s.obsState = 1 then
        let g := toGeographic s.origin (s.obs.x.getD 0 0) (s.obs.x.getD 1 0)
        let s := s.setOrigin g.1 g.2
        ({ s with obs := { s.obs with x := 0 :: 0 :: s.obs.x.drop 2 } }).raise 0x080D
      else s
    else s
  if s.obs.reinitReq then
    (({ s with obs := { s.obs with reinitReq := false } }).obsInit).raise 0x080E
  else s

/-- The observer loses an engine: the spare, the engine in use with a spare left, or its last one (R229). -/
def State.engineLost (s : State) (engine : Nat) (duringUpdate : Bool) : State :=
  if s.get Reg.OBS_STAT_ENGINE ≠ engine then
    if engine = 1 then s.setFlag Reg.OBS_STAT_SPARE_LOST true else s
  else if engine = 0 ∧ s.variant = .d8 ∧ !s.obs.bad1 then
    ((({ s with obs := { s.obs with cutUpdate := duringUpdate } }).set Reg.OBS_STAT_ENGINE 1).setFlag Reg.OBS_STAT_FAILOVER true).raise
      0x0808
  else (s.set Reg.OBS_STAT_STATE 2).obsPoints false

/-- Engine C1 is known lost. -/
def State.markEngine (s : State) (engine : Nat) : State :=
  if engine = 1 then { s with obs := { s.obs with bad1 := true } } else s

/-- A fault of an observer engine (R229, R342). -/
def State.obsEngineFault (s : State) (engine : Nat) (cause : FaultCause) (duringUpdate : Bool) : State :=
  if !s.variant.has 11 ∨ 2 ≤ engine ∨ s.variant.dies ≤ engine then s
  else ((((s.markCause cause).markEngine engine).engineLost engine duringUpdate)).healthCheck

/-- DR_TIME passes its limit (R227): time passes until it does. -/
def State.drMaxExpired (s : State) (g : DrGroup) : State :=
  let o := s.obs
  match g with
  | .position =>
    if o.drPos ∧ !o.expPos then
      let lim := s.get Reg.OBS_CFG_DR_MAX_POS * 1000000000
      let s := s.advanceTo (o.closeAt + (lim - o.drPosNs) + 1)
      (({ s with obs := { s.obs with expPos := true } }).raise 0x0804).obsPoints false
    else s
  | .heading =>
    if o.drHdg ∧ !o.expHdg then
      let lim := s.get Reg.OBS_CFG_DR_MAX_HDG * 1000000000
      let s := s.advanceTo (o.closeAt + (lim - o.drHdgNs) + 1)
      (({ s with obs := { s.obs with expHdg := true } }).raise 0x0804).obsPoints false
    else s

/-- OBSERVER_ENGINE_FAULT (R229). -/
def execObserverEngineFault (engine : Nat) (cause : FaultCause) (duringUpdate : Bool) (s : State) : Host.Outcome State Fault Refusal :=
  .next (s.obsEngineFault engine cause duringUpdate)
/-- DR_MAX_EXPIRED (R227). -/
def execDrMaxExpired (g : DrGroup) (s : State) : Host.Outcome State Fault Refusal := .next (s.drMaxExpired g)
/-- CAL_SAVE_PERIODIC (R235): after every 10 min spent in RUN. -/
def execCalSavePeriodic (s : State) : Host.Outcome State Fault Refusal :=
  .next (if s.mode = .run ∧ s.variant.has 11 then s.calSaveStart else s)
/-- CAL_SAVE_DONE (R235). -/
def execCalSaveDone (s : State) : Host.Outcome State Fault Refusal := .next s.calSaveDone

end Sys2Proof.Machine
end

