-- ==== Sys2Proof/Machine/Loop.lean ====
section
/-! DEFINITION. The loop engine (R239 to R261): coefficients, reference generator, control law, states, hand-over, the DP loops, output
and device points. -/

namespace Sys2Proof.Machine

def State.loopSlot (s : State) (i : Nat) : LoopSlot := storeGet s.loops.slots i {}

def State.setLoop (s : State) (i : Nat) (l : LoopSlot) : State :=
  { s with loops := { s.loops with slots := storeSet s.loops.slots i l {} } }

/-- AUTO and CASCADE are closed (R247). -/
def LoopSlot.closed (l : LoopSlot) : Bool := decide (3 ≤ l.state)

/-- Whether a slot is one of the DP loops (R239). -/
def State.isDp (s : State) (i : Nat) : Bool := s.flag Reg.LOOP_CTL_DP_EN && decide (509 ≤ i)

/-- The ordinary loops that are enabled (R239, R256). -/
def State.ordinaryLoops (s : State) : List Nat := (s.instancesOf Reg.LOOP_CFG_ENABLE).filter (fun i => !s.isDp i)

/-- Sample time of a loop in seconds: m × T_p, or T_h for a DP loop (R240, R256); T_P counts 10 µs. -/
def State.loopTs (s : State) (i : Nat) : F64 :=
  let m := if s.isDp i then s.kHold else s.get Reg.LOOP_CFG_M i
  F64.ofRat (m * s.get Reg.PUMP_CYCLE_CTL_T_P : Nat) 100000

/-- The register word of a loop parameter. -/
def State.loopWord (s : State) (i n : Nat) : Word := BitVec.ofNat 32 (s.get (Reg.LOOP_COEF_VALUE.at n) i)

/-- The derivation of a loop's expert parameter at basic level (R58, parameter table of chapter 10). -/
def State.loopDerived (s : State) (i n : Nat) : Word :=
  match n with
  | 3 | 9 => F64.toF32 (F64.ofNat 10)
  | 4 | 10 => F64.toF32 (F64.ofNat 1)
  | 15 => s.loopWord i 12
  | 16 => s.loopWord i 13
  | _ =>
    let b := if n = 5 then 0 else 6
    let ti := F64.ofF32 (s.loopWord i (b + 1))
    let td := F64.ofF32 (s.loopWord i (b + 2))
    let ts := s.loopTs i
    if F64.isZero ti then F64.toF32 ts
    else if F64.lt F64.zero td then F64.toF32 (F64.max (F64.sqrt (F64.mul ti td)) ts)
    else F64.toF32 ti

/-- The expert parameters of a loop. -/
def loopExpert (n : Nat) : Bool := [3, 4, 5, 9, 10, 11, 15, 16].contains n

/-- The live word of a loop parameter. -/
def State.loopParam (s : State) (i n : Nat) : Word :=
  if loopExpert n && !s.expert 12 then s.loopDerived i n else s.loopWord i n

/-- A loop parameter in binary64. -/
def State.coef (s : State) (i n : Nat) : F64 := F64.ofF32 (s.loopParam i n)

/-- Parameter k (0 Kp to 5 Tt) of a gain set. -/
def State.gain (s : State) (i : Nat) (setB : Bool) (k : Nat) : F64 := s.coef i ((if setB then 6 else 0) + k)

/-! ## Points of a loop -/

/-- The address of a role, none where it is not in use. -/
def State.loopRole (s : State) (i n : Nat) : Option Nat :=
  if s.flag (Reg.LOOP_ADDR_USE.at n) i then some (s.get (Reg.LOOP_ADDR_ADDR.at n) i) else none

/-- A point record as a loop input: its value where its type is F32 and its class good or uncertain (R242). -/
def loopValue (r : Point) : Option F64 := if r.type = 3 ∧ r.usable then some (F64.ofF32 r.value) else none

/-- The record that a role reads: as it stands for an ordinary loop, as captured at t_h(k) for a DP loop (R241, R256). -/
def State.roleRecord (s : State) (i n : Nat) : Option Point :=
  (s.loopRole i n).map (fun p => if s.isDp i then storeGet s.loops.holdPoints p (s.point p) else s.point p)

/-- The value at a role in use; none where it is bad, not available or of another type. -/
def State.roleValue (s : State) (i n : Nat) : Option F64 := (s.roleRecord i n).bind loopValue

/-- A role in use whose point the engine cannot use (R242). -/
def State.roleBad (s : State) (i n : Nat) : Bool := (s.loopRole i n).isSome && (s.roleValue i n).isNone

/-- MAN of a loop. -/
def State.loopMan (s : State) (i : Nat) : F64 :=
  let p := 0xE0000 + 16 * i + 14
  F64.ofF32 (if s.isDp i then storeGet s.loops.holdPoints p (s.point p) else s.point p).value

/-! ## Set-point ramps (R250 to R253) -/

/-- A sign as a binary64 number times x. -/
def signTimes (sg : Int) (x : F64) : F64 := if 0 < sg then x else if sg < 0 then F64.neg x else F64.zero

/-- One sample of the reference generator: new w and vr (R250). -/
def refStep (w vr target r a ts : F64) : F64 × F64 :=
  if F64.isZero r ∧ F64.isZero a then (target, 0)
  else
    let d := F64.sub target w
    let sg := F64.sgn d
    let half := F64.div (F64.mul a ts) (F64.ofNat 2)
    let byAcc := F64.sub (F64.sqrt (F64.add (F64.mul (F64.mul (F64.ofNat 2) a) (F64.abs d)) (F64.sq half))) half
    let lim := if F64.isZero a then r else if F64.isZero r then byAcc else F64.min r byAcc
    let vdes := signTimes sg lim
    let vnew := if F64.isZero a then vdes
      else F64.clamp vdes (F64.sub vr (F64.mul a ts)) (F64.add vr (F64.mul a ts))
    if F64.sgn vnew = sg ∧ F64.le (F64.abs d) (F64.mul (F64.abs vnew) ts) then (target, 0)
    else (F64.add w (F64.mul vnew ts), vnew)

/-- The target of LOOP_511, replaced by the value equal modulo 360° within 180° of w, +180° when both are as near (R253). -/
def nearHeading (target w : F64) : F64 := F64.add w (F64.wrap180 (F64.sub (F64.mod360 target) w))

/-- The generator of a loop toward a new target, with OVERTRAVEL (R250, R251). The w of LOOP_511 is not reduced here: only what it publishes
is (R253). -/
def State.loopRef (s : State) (i : Nat) (l : LoopSlot) (source : Option F64) : LoopSlot :=
  let raw := source.or l.goodTarget
  match raw with
  | none => l
  | some t0 =>
    let heading := s.isDp i && decide (i = 511)
    let t := if heading then nearHeading t0 l.w else t0
    let changed := decide (l.target ≠ some t0)
    let rev := changed && !F64.isZero l.vr && decide (F64.sgn (F64.sub t l.w) * F64.sgn l.vr < 0)
    let mark := if rev then some l.w else l.reversal
    let r := refStep l.w l.vr t (s.coef i 22) (s.coef i 23) (s.loopTs i)
    let stopped := decide (F64.sgn r.2 * F64.sgn l.vr ≤ 0)
    match mark with
    | some m =>
      if stopped then { l with w := r.1, vr := r.2, target := some t0, reversal := none, overtravel := F64.abs (F64.sub r.1 m) }
      else { l with w := r.1, vr := r.2, target := some t0, reversal := some m }
    | none => { l with w := r.1, vr := r.2, target := some t0 }

/-! ## The control law (R243) -/

/-- What the law takes at a sample beside the slot: P, e, the change of the process value, FF, Ts. -/
structure LawIn where
  p : F64
  e : F64
  dy : F64
  ff : F64

/-- D of a gain set: ad·D_prev − bd·Δy, 0 when Td is 0. -/
def State.derivTerm (s : State) (i : Nat) (setB : Bool) (dPrev dy : F64) : F64 :=
  let kp := s.gain i setB 0; let td := s.gain i setB 2; let n := s.gain i setB 3
  if F64.isZero td then F64.zero
  else
    let den := F64.add td (F64.mul n (s.loopTs i))
    let ad := F64.div td den
    let bd := F64.div (F64.mul (F64.mul kp td) n) den
    F64.sub (F64.mul ad dPrev) (F64.mul bd dy)

/-- Saturation, then the rate limit about u_prev: u, whether saturated, whether rate-limited. -/
def State.limitOut (s : State) (i : Nat) (v uPrev : F64) : F64 × Bool × Bool :=
  let u1 := F64.clamp v (s.coef i 12) (s.coef i 13)
  let rate := s.coef i 14
  if F64.lt F64.zero rate then
    let st := F64.mul rate (s.loopTs i)
    let u2 := F64.clamp u1 (F64.sub uPrev st) (F64.add uPrev st)
    (u2, decide (u1 ≠ v), decide (u2 ≠ u1))
  else (u1, decide (u1 ≠ v), false)

/-- The sum P + I + D + FF + blend. -/
def lawSum (p i d ff blend : F64) : F64 := F64.add (F64.add (F64.add (F64.add p i) d) ff) blend

/-- One sample of a closed loop (R243): v, u, the integrator for the next sample, flags bits 0 and 1. -/
def State.closedStep (s : State) (k : Nat) (l : LoopSlot) (x : LawIn) : LoopSlot :=
  let kp := s.gain k l.gainB 0; let ti := s.gain k l.gainB 1; let tt := s.gain k l.gainB 5
  let ts := s.loopTs k
  let d := s.derivTerm k l.gainB l.d x.dy
  let v := lawSum x.p l.i d x.ff l.blend
  let o := s.limitOut k v l.u
  let i1 := if F64.isZero ti then l.i else F64.add l.i (F64.mul (F64.div (F64.mul kp ts) ti) x.e)
  let i2 := F64.add i1 (F64.mul (F64.div ts tt) (F64.sub o.1 v))
  let i3 := F64.clamp i2 (s.coef k 15) (s.coef k 16)
  let nb := F64.sub l.blend l.blendStep
  let blend := if F64.le (F64.abs l.blend) (F64.abs l.blendStep) then F64.zero else nb
  { l with e := x.e, d := d, ff := x.ff, v := v, u := o.1, i := i3, blend := blend,
           flags := ofBits [o.2.1, o.2.2], writeOut := true }

/-- One sample of an open loop (R247); `out` is OUT at the snapshot, `trk` the tracked value. A restored u that has not yet been written
into OUT is not replaced by it (R260, DEDUCED, log entry 26). -/
def State.openStep (s : State) (k : Nat) (l : LoopSlot) (x : LawIn) (out trk : Option F64) : LoopSlot :=
  let l := { l with w := l.y, vr := 0, e := x.e, d := 0, ff := x.ff, blend := 0, blendStep := 0, reversal := none }
  match l.state with
  | 1 =>
    let man := l.manNew.getD (s.loopMan k)
    let o := s.limitOut k man l.u
    { l with v := man, u := o.1, writeOut := true, flags := ofBits [o.2.1, o.2.2] }
  | 2 =>
    match trk with
    | some t =>
      let u := F64.clamp t (s.coef k 12) (s.coef k 13)
      let i := F64.clamp (F64.sub (F64.sub (F64.sub u x.p) 0) x.ff) (s.coef k 15) (s.coef k 16)
      { l with v := t, u := u, i := i, writeOut := true,
               flags := ofBits [decide (u ≠ t)] }
    | none =>
      let i := F64.clamp (F64.sub (F64.sub (F64.sub l.u x.p) 0) x.ff) (s.coef k 15) (s.coef k 16)
      { l with i := i, writeOut := true, flags := 1024 }
  | _ =>
    let u := if l.restoreOut then l.u else out.getD l.u
    { l with v := u, u := u, writeOut := false, flags := 0 }

/-! ## Requests and hand-over (R245, R246, R248, R254, R255) -/

/-- What a request comes to before the hand-over rules: refused, a plain change, a hand-over. -/
inductive LoopReq where
  | none | refuse (st : Status) | change (state : Nat) (gainB : Bool) | handover (state : Nat) (gainB force : Bool)
deriving DecidableEq, Repr

/-- Classify a CMD request (R245, R246, R248). -/
def State.loopRequest (s : State) (i : Nat) (l : LoopSlot) (w : Word) : LoopReq :=
  let mode := bitsAt w.toNat 0 3
  let gb := bitAt w.toNat 3
  if 5 ≤ mode ∨ w.toNat / 32 ≠ 0 then .refuse .range
  else if mode = 4 ∧ (s.loopRole i 2).isNone ∨ mode = 2 ∧ (s.loopRole i 4).isNone then .refuse .state
  else if mode < 3 then .change mode gb
  else if l.closed ∧ l.gainB = gb then .change mode gb
  else .handover mode gb (bitAt w.toNat 4)

/-- The hand-over of R254 on a slot whose w, vr, y stand for the switch: preload, remainder, blend; none where it is refused. The second
component says whether it went beyond the limit. -/
def State.handover (s : State) (k : Nat) (l : LoopSlot) (x : LawIn) (force : Bool) : Option (LoopSlot × Bool) :=
  let d := s.derivTerm k l.gainB l.d x.dy
  let istar := F64.sub (F64.sub (F64.sub l.u x.p) d) x.ff
  let i := F64.clamp istar (s.coef k 15) (s.coef k 16)
  let rem := F64.sub istar i
  let lim := F64.mul (s.coef k 17) (F64.sub (s.coef k 13) (s.coef k 12))
  let beyond := F64.lt lim (F64.abs rem)
  if beyond ∧ !force then none
  else
    some ({ l with i := i, blend := rem, blendStep := F64.div (F64.mul rem (s.loopTs k)) (s.coef k 18) }, beyond)

/-- The slot as a hand-over from an open state finds it: w := y, vr := 0, D_prev := 0, y_prev := y. -/
def LoopSlot.enter (l : LoopSlot) (state : Nat) (gainB : Bool) : LoopSlot :=
  if l.closed then { l with state := state, gainB := gainB }
  else { l with state := state, gainB := gainB, w := l.y, vr := 0, d := 0, yPrev := l.y }

/-- A plain change into a state (R248): MANUAL takes u(j-1) into MAN. -/
def LoopSlot.change (l : LoopSlot) (state : Nat) (gainB : Bool) : LoopSlot :=
  { l with state := state, gainB := gainB, manNew := if state = 1 ∧ l.state ≠ 1 then some l.u else none }

/-! ## One evaluation -/

/-- The inputs of an evaluation: process value (none: bad), value of a slot's target source, FF, OUT, TRK, and how P and e follow from a
slot's w and gain set. -/
structure LoopIn where
  pv : Option F64
  ff : F64
  ffBad : Bool
  out : Option F64
  outBad : Bool
  trk : Option F64
  law : LoopSlot → F64 × F64
  dy : LoopSlot → F64

/-- The source of a closed loop's target: SP in AUTO, CAS in CASCADE. -/
def State.loopSource (s : State) (i : Nat) (l : LoopSlot) : Option F64 := s.roleValue i (if l.state = 4 then 2 else 1)

/-- The inputs of the law for a slot. -/
def LoopIn.lawIn (x : LoopIn) (l : LoopSlot) : LawIn :=
  { p := (x.law l).1, e := (x.law l).2, dy := x.dy l, ff := x.ff }

/-- A slot after the request: the slot to run, whether its reference already stands for this sample, RESULT and the event code. While a
closed loop is held for a bad process value, a change of its gain set moves neither I nor the reference (R242, log entry 44). -/
def State.applyRequest (s : State) (i : Nat) (l : LoopSlot) (x : LoopIn) (req : LoopReq) : LoopSlot × Bool × Option Status × Option Nat :=
  match req with
  | .none => ({ l with manNew := none }, false, none, none)
  | .refuse st => ({ l with manNew := none }, false, some st, none)
  | .change st gb => (l.change st gb, false, some .done, none)
  | .handover st gb force =>
    if l.closed && x.pv.isNone then ({ l with state := st, gainB := gb, manNew := none }, false, some .done, none)
    else
    let c := l.enter st gb
    let c := if l.closed then s.loopRef i c (s.loopSource i c) else c
    match s.handover i c (x.lawIn c) force with
    | none => ({ l with manNew := none }, false, some .state, some 0x0902)
    | some r => ({ r.1 with manNew := none }, true, some .done, if r.2 then some 0x0903 else none)

/-- The law of a slot whose request was applied; `switched` says that its reference already stands for this sample. -/
def State.loopLaw (s : State) (i : Nat) (l : LoopSlot) (x : LoopIn) (switched : Bool) : LoopSlot :=
  if l.closed then
    let src := s.loopSource i l
    let bad := if src.isNone then 16 else 0
    if x.pv.isNone then { l with flags := 8 + bad, writeOut := true, goodTarget := src.or l.goodTarget }
    else
      let l := if switched then { l with target := src.or l.goodTarget } else s.loopRef i l src
      let r := s.closedStep i l (x.lawIn l)
      { r with flags := r.flags + bad, goodTarget := src.or l.goodTarget }
  else
    let l := { l with w := l.y }
    let r := s.openStep i l (x.lawIn l) x.out x.trk
    { r with flags := r.flags + (if x.pv.isNone then 8 else 0) + (if s.roleBad i 1 then 16 else 0),
             goodTarget := (s.roleValue i 1).or l.goodTarget }

/-- The integrator stands at a limit, in whatever state the loop is (R261). -/
def State.atLimit (s : State) (i : Nat) (l : LoopSlot) : Bool := F64.le l.i (s.coef i 15) || F64.le (s.coef i 16) l.i

/-- The flags that do not come from the law (R261). -/
def State.loopFlags (s : State) (i : Nat) (l : LoopSlot) (x : LoopIn) : Nat :=
  l.flags % 32 + (if s.atLimit i l then 4 else 0) + l.flags / 1024 % 2 * 1024 + (if x.ffBad then 32 else 0) + (if F64.isZero l.blend then 0 else 64)
    + (if F64.isZero l.vr then 0 else 128) + (if l.restored then 256 else 0) + (if s.isDp i then 512 else 0)
    + (if x.outBad then 2048 else 0)

/-- The process value that a sample uses (R242): the present one, else the last good one, else 0 when open. -/
def LoopSlot.sampleY (l : LoopSlot) (pv : Option F64) : LoopSlot :=
  match pv with
  | some y => { l with y := y, yGood := some y }
  | none => if l.closed then l else { l with y := l.yGood.getD 0 }

/-- An event code, where there is one. -/
def State.raiseOpt (s : State) (c : Option Nat) : State := match c with | some k => s.raise k | none => s

/-- One evaluation of a loop (R241 to R255). -/
def State.evalLoop (s : State) (i : Nat) (req : Option Word) (x : LoopIn) : State :=
  let l0 := (s.loopSlot i).sampleY x.pv
  let r := s.applyRequest i l0 x (match req with | some w => s.loopRequest i l0 w | none => .none)
  let l1 := s.loopLaw i r.1 x r.2.1
  let hold := l1.closed && x.pv.isNone
  let newly := hold && !(s.loopSlot i).held
  let l2 := { l1 with yPrev := if hold then l1.yPrev else l1.y, held := hold, flags := s.loopFlags i l1 x,
                      result := match r.2.2.1 with | some st => st.code | none => l1.result, publish := true,
                      restored := l1.restored && !l1.closed }
  ((s.setLoop i l2).raiseOpt r.2.2.2).raiseOpt (if newly then some 0x0901 else none)

/-- The feedforward of an ordinary loop: FF_GAIN × the value at FF, the last good value where it is bad (R242, R243). -/
def State.loopFf (s : State) (i : Nat) : F64 × Bool × F64 :=
  match s.loopRole i 3 with
  | none => (0, false, 0)
  | some _ =>
    match s.roleValue i 3 with
    | some v => (F64.mul (s.coef i 19) v, false, v)
    | none => let g := (s.loopSlot i).ffGood; (F64.mul (s.coef i 19) g, true, g)

/-- The request latched for a loop (R246): what came last of the latch and of what a hold boundary took from it. -/
def State.latched (s : State) (i : Nat) : Option Word := (storeFind s.loops.cmd i).or (storeFind s.loops.holdCmd i)

/-- An evaluation clears the latch. -/
def State.clearLatch (s : State) (i : Nat) : State :=
  { s with loops := { s.loops with cmd := storeDel s.loops.cmd i, holdCmd := storeDel s.loops.holdCmd i } }

/-- Evaluate an ordinary loop that is due (R241); u is written at the freeze of the cycle that ends at its next sample boundary (R30). -/
def State.evalOrdinary (s : State) (i : Nat) : State :=
  let ff := s.loopFf i
  let out := s.roleValue i 5
  let x : LoopIn :=
    { pv := s.roleValue i 0, ff := ff.1, ffBad := ff.2.1, out := out, outBad := out.isNone, trk := s.roleValue i 4,
      law := fun l => (F64.mul (s.gain i l.gainB 0) (F64.sub (F64.mul (s.gain i l.gainB 4) l.w) l.y), F64.sub l.w l.y),
      dy := fun l => F64.sub l.y l.yPrev }
  let req := s.latched i
  let s0 := s.clearLatch i
  let s1 := s0.evalLoop i req x
  s1.setLoop i { s1.loopSlot i with outAt := some (s.n + s.get Reg.LOOP_CFG_M i - 1), ffGood := ff.2.2,
                                    writeOut := (s1.loopSlot i).writeOut && out.isSome }

/-- Whether an ordinary loop is due in the present cycle (R240). -/
def State.loopDue (s : State) (i : Nat) : Bool := decide (s.n % max 1 (s.get Reg.LOOP_CFG_M i) = s.get Reg.LOOP_CFG_PHASE i)

def State.dueLoops (s : State) : List Nat := s.ordinaryLoops.filter s.loopDue

/-- The due bound of R240: for each multiple in use, the most loops that share a phase. -/
def State.dueBound (s : State) : Nat :=
  let mp := s.ordinaryLoops.map (fun i => (s.get Reg.LOOP_CFG_M i, s.get Reg.LOOP_CFG_PHASE i))
  let ms := (mp.map Prod.fst).eraseDups
  ms.foldl (fun n m => n + (mp.filter (fun e => decide (e.1 = m))).foldl (fun b e => max b (mp.countP (fun f => decide (f = e)))) 0) 0

/-! ## Writing at a freeze (R30, R241, R260, R261) -/

/-- The device points of a loop; `withU` also U (R241). MAN takes u(j-1) on entry to MANUAL. -/
def State.loopPoints (s : State) (i : Nat) (withU : Bool) : State :=
  let l := s.loopSlot i
  let b := 0xE0000 + 16 * i
  let s := s.putAll [(b + 1, l.state), (b + 2, l.result), (b + 15, l.flags)]
  let angle := s.isDp i && decide (i = 511)
  let s := [(3, l.w), (4, l.y)].foldl (fun (t : State) (e : Nat × F64) =>
    if angle then t.putHeading (b + e.1) e.2 else t.putF (b + e.1) e.2) s
  let s := [(5, l.e), (7, l.v), (8, l.i), (9, l.d), (10, l.ff), (11, l.vr), (12, l.overtravel),
    (13, l.blend)].foldl (fun (t : State) (e : Nat × F64) => t.putF (b + e.1) e.2) s
  let s := if withU then s.putF (b + 6) l.u else s
  match l.manNew with | some m => s.putF (b + 14) m | none => s

/-- The points of the loops evaluated in this cycle, at the reserve instant with or without a freeze (R482). -/
def State.publishLoops (s : State) : State :=
  s.loops.slots.foldl (fun t e =>
    if e.2.publish then let t := t.loopPoints e.1 false; t.setLoop e.1 { t.loopSlot e.1 with publish := false, manNew := none } else t) s

/-- Write u to OUT where the loop drives it and OUT may be written (R242, R247), and to the U point. -/
def State.writeLoopOut (s : State) (i : Nat) (drive : Bool) : State :=
  let l := s.loopSlot i
  let s := s.putF (0xE0000 + 16 * i + 6) l.u
  match s.loopRole i 5 with
  | some p => if drive ∧ s.blockWritable p then s.putF p l.u else s
  | none => s

/-- The restored u of a loop goes once into OUT, which R242 lets it write only where the point is F32 and its class good or uncertain;
that of a DP loop is only its held τ (R260). -/
def State.restoreWrite (s : State) (i : Nat) : State :=
  let usable := (s.loopRole i 5).any (fun p => (loopValue (s.point p)).isSome)
  let t := s.writeLoopOut i (usable && !s.isDp i)
  t.setLoop i { t.loopSlot i with restoreOut := false }

/-- Loop outputs at a freeze (R30): every held output whose write is due, and a restored u once (R260). -/
def State.loopOutputs (s : State) : State :=
  s.loops.slots.foldl (fun t e =>
    let t := match e.2.outAt with
      | some c =>
        if c ≤ t.n then (t.writeLoopOut e.1 e.2.writeOut).setLoop e.1 { t.loopSlot e.1 with outAt := none } else t
      | none => t
    if e.2.restoreOut then t.restoreWrite e.1 else t) s

/-! ## The DP loops (R256 to R259) -/

/-- The points that the DP loops read at a hold boundary: MAN and the roles in use (R25, R256). -/
def State.dpPoints (s : State) : List Nat :=
  [509, 510, 511].flatMap (fun i => (0xE0000 + 16 * i + 14) :: [1, 2, 4].filterMap (fun n => s.loopRole i n))

/-- The hold-cycle snapshot of the loop engine (R25): command requests are taken from their latch; one that no evaluation has taken yet
stands until it is replaced (R246). -/
def State.loopHoldSnapshot (s : State) : State :=
  let cmd := s.loops.cmd
  let dp := fun (e : Nat × Word) => s.isDp e.1
  { s with loops := { s.loops with holdCmd := (cmd.filter dp).foldl (fun st e => storePut st e.1 e.2) s.loops.holdCmd, cmd := cmd.filter (fun e => !dp e),
                                   holdPoints := s.dpPoints.foldl (fun st p => storePut st p (s.point p)) [] } }

/-- WIND_FF of the three DP loops from a wind sample (R258). -/
def State.windForces (s : State) (v gamma : F64) : List F64 :=
  let g := F64.rad gamma
  let f := fun (i : Nat) (c : F64) => F64.mul (F64.mul (F64.mul (s.coef i 19) (s.coef i 21)) (F64.sq v)) c
  [f 509 (F64.cos g), f 510 (F64.sin g), f 511 (F64.sin (F64.mul (F64.ofNat 2) g))]

/-- The wind feedforward after a frame (R258). -/
def State.windUpdate (s : State) : State :=
  match s.trough.windInFrame, s.trough.wind with
  | true, some (v, g) => { s with loops := { s.loops with windFF := s.windForces v g, windLost := false } }
  | _, some _ =>
    if s.trough.windAt + 10000000000 ≤ s.trough.closeAt ∧ !s.loops.windLost then
      ({ s with loops := { s.loops with windFF := [0, 0, 0], windLost := true } }).raise 0x0905
    else s
  | _, none => s

/-- The values of the DP loops' process, in point units: n, e, ψ in degrees; u, v, r with r in deg/s. -/
def State.dpValue (s : State) (i : Nat) : F64 :=
  if i = 511 then F64.mod360 (F64.deg (s.obs.x.getD 2 0)) else s.obs.x.getD (i - 509) 0

def State.dpRate (s : State) (i : Nat) : F64 :=
  if i = 511 then F64.deg (s.obs.x.getD 5 0) else s.obs.x.getD (i - 506) 0

/-- The process value of a DP loop, none while the observer's points of its group read bad or not available (R242, R259). -/
def State.dpPv (s : State) (i : Nat) : Option F64 :=
  if (s.point (0xE2000 + (i - 509))).usable then some (s.dpValue i) else none

/-- Vessel-frame error of a DP loop (R257), given the references of the three. -/
def State.dpError (s : State) (wn we wpsi : F64) (i : Nat) : F64 :=
  let psi := s.obs.x.getD 2 0
  let dn := F64.sub wn (s.dpValue 509)
  let de := F64.sub we (s.dpValue 510)
  if i = 509 then F64.add (F64.mul (F64.cos psi) dn) (F64.mul (F64.sin psi) de)
  else if i = 510 then F64.add (F64.neg (F64.mul (F64.sin psi) dn)) (F64.mul (F64.cos psi) de)
  else F64.wrap180 (F64.sub wpsi (s.dpValue 511))

/-- The reference that a DP loop has in this evaluation, before it is evaluated (R257): y while open or when it closes, frozen with a bad
process value, else one step of its generator toward the source that its request leaves it; a hand-over counts as accepted (log entry
44). -/
def State.dpW (s : State) (i : Nat) : F64 :=
  let l := (s.loopSlot i).sampleY (s.dpPv i)
  let req := match storeFind s.loops.holdCmd i with | some w => s.loopRequest i l w | none => .none
  let st := match req with | .change st _ | .handover st _ _ => st | _ => l.state
  if st < 3 ∨ l.state < 3 then l.y
  else if (s.dpPv i).isNone then l.w
  else
    let m := { l with state := st }
    (s.loopRef i m (s.loopSource i m)).w

/-- The reference of a DP loop for the error of loop i: that of a loop evaluated before it, the coming one of a later loop (R257). -/
def State.dpRefFor (s : State) (i k : Nat) : F64 := if k < i then (s.loopSlot k).w else s.dpW k

/-- Evaluate one DP loop (R256 to R258). -/
def State.evalDp (s : State) (i : Nat) : State :=
  let bias := F64.mul (s.coef i 20) (F64.neg (s.obs.x.getD (i - 503) 0))
  let x : LoopIn :=
    { pv := s.dpPv i, ff := F64.add (s.loops.windFF.getD (i - 509) 0) bias, ffBad := !s.trough.windInFrame, out := none, outBad := false,
      trk := s.roleValue i 4,
      law := fun l =>
        let w := fun (k : Nat) => if k = i then l.w else s.dpRefFor i k
        let e := s.dpError (w 509) (w 510) (w 511) i
        (F64.mul (s.gain i l.gainB 0) e, e),
      dy := fun _ => F64.mul (s.loopTs i) (s.dpRate i) }
  let req := storeFind s.loops.holdCmd i
  let s0 := { s with loops := { s.loops with holdCmd := storeDel s.loops.holdCmd i } }
  (s0.evalLoop i req x).loopPoints i true

/-- The DP loops at step 4 of a hold cycle (R256); their points are written at once. -/
def State.evalDpLoops (s : State) : State :=
  if s.flag Reg.LOOP_CTL_DP_EN ∧ s.variant.has 11 then
    let s := s.windUpdate
    let t := ((s.evalDp 509).evalDp 510).evalDp 511
    [509, 510, 511].foldl (fun u i => u.setLoop i { u.loopSlot i with publish := false, manNew := none }) t
  else s

/-- The force demand τ (R259). -/
def State.tauDemand (s : State) : F64 × F64 × F64 := ((s.loopSlot 509).u, (s.loopSlot 510).u, (s.loopSlot 511).u)

/-- WIND_FF_TIMEOUT (R258): 10 s after the last valid wind sample; without the DP loops there is no WIND_FF. -/
def State.windTimeout (s : State) : State :=
  if s.flag Reg.LOOP_CTL_DP_EN ∧ s.trough.wind.isSome ∧ !s.loops.windLost ∧ !s.trough.windInFrame then
    let s := s.advanceTo (s.trough.windAt + 10000000000)
    ({ s with loops := { s.loops with windFF := [0, 0, 0], windLost := true } }).raise 0x0905
  else s

/-! ## Restarts (R260) -/

/-- The loop section of a mirror: I and u of every loop with RETAIN_I. -/
def State.loopSection (s : State) : Store (List Nat) :=
  (s.instancesOf Reg.LOOP_CFG_RETAIN_I).foldl (fun st i =>
    let l := s.loopSlot i
    storePut st i [l.i.toNat, l.u.toNat]) []

/-- A restored loop: its I point carries RETAIN, its FLAGS point RESTORED (R260, R64). -/
def State.restoreLoop (s : State) (i : Nat) (l : LoopSlot) : State :=
  let b := 0xE0000 + 16 * i
  let t := ((s.setLoop i l).putF (b + 8) l.i).putGood (b + 15) l.flags
  t.setPoint (b + 8) { t.point (b + 8) with retain := true }

/-- What a loop slot keeps over a restart: the last good values since start-up (R242). -/
def LoopSlot.keep (l : LoopSlot) : LoopSlot := { yGood := l.yGood, goodTarget := l.goodTarget, ffGood := l.ffGood }

/-- Every loop starts OPEN; one with RETAIN_I and a record takes back I and u (R260). -/
def State.loopsRestart (s : State) (section_ : Store (List Nat)) : State :=
  let kept := s.loops.slots.foldl (fun st e => storeSet st e.1 e.2.keep {}) []
  let s := { s with loops := { s.loops with slots := kept, cmd := [], holdCmd := [], holdPoints := [], windFF := [0, 0, 0],
                                            windLost := false } }
  section_.foldl (fun t e =>
    if t.flag Reg.LOOP_CFG_RETAIN_I e.1 then
      match e.2 with
      | [i, u] =>
        (t.restoreLoop e.1 { t.loopSlot e.1 with i := BitVec.ofNat 64 i, u := BitVec.ofNat 64 u, restored := true, restoreOut := true, flags := 256 }).raise
          0x0904
      | _ => t
    else t) s

/-- WIND_FF_TIMEOUT (R258). -/
def execWindFfTimeout (s : State) : Host.Outcome State Fault Refusal := .next s.windTimeout

end Sys2Proof.Machine
end

