-- ==== Sys2Proof/Machine/Alloc.lean ====
section
/-! DEFINITION. The allocation block (R263 to R293): health, failed set, present state and rows, triggers, collection, switch-in,
fallback, points. -/

namespace Sys2Proof.Machine

/-! ## Sets of elements -/

def LossSet.union (a b : LossSet) : LossSet := { thr := a.thr ||| b.thr, bus := a.bus ||| b.bus, gen := a.gen ||| b.gen }
def LossSet.inter (a b : LossSet) : LossSet := { thr := a.thr &&& b.thr, bus := a.bus &&& b.bus, gen := a.gen &&& b.gen }
def LossSet.sub (a b : LossSet) : Bool := decide (a.inter b = a)

/-- A mask of the indices below n for which f holds. -/
def maskOf (n : Nat) (f : Nat → Bool) : Nat := ofBits ((List.range n).map f)

/-- Bits set in a mask below 2^n. -/
def bitCount (n v : Nat) : Nat := ((List.range n).filter (fun i => bitAt v i)).length

/-- Number of elements of a set. -/
def LossSet.size (a : LossSet) : Nat := bitCount 32 a.thr + bitCount 8 a.bus + bitCount 16 a.gen

/-! ## Descriptors -/

def State.thrBus (s : State) (i : Nat) : Nat := s.get Reg.ALLOC_THR_CFG_BUS i
/-- TMAX in kN. -/
def State.tmax (s : State) (i : Nat) : F64 := scaledInt (s.get Reg.ALLOC_THR_LIM_TMAX i) 10
def State.tneg (s : State) (i : Nat) : F64 := scaledInt (s.get Reg.ALLOC_THR_LIM_T_NEG i) 10
def State.pmax (s : State) (i : Nat) : F64 := F64.ofNat (s.get Reg.ALLOC_THR_PWR_PMAX i)
def State.pidle (s : State) (i : Nat) : F64 := F64.ofNat (s.get Reg.ALLOC_THR_PWR_PIDLE i)
/-- An azimuth thruster (KIND 1). -/
def State.azimuth (s : State) (i : Nat) : Bool := decide (s.get Reg.ALLOC_THR_CFG_KIND i = 1)
/-- T_h in seconds. -/
def State.thSeconds (s : State) : F64 := F64.ofRat s.th 1000000000
/-- ΔT = TRATE · T_h, kN (R267). -/
def State.deltaT (s : State) (i : Nat) : F64 := F64.mul (scaledInt (s.get Reg.ALLOC_THR_RATE_TRATE i) 10) s.thSeconds
/-- An ALLOC parameter (0 Q_F, 1 L_ARM, 2 R_MOVE). -/
def State.allocCoef (s : State) (n : Nat) : F64 := F64.ofF32 (BitVec.ofNat 32 (s.get (Reg.ALLOC_COEF_VALUE.at n)))

/-- The loss set of a context's descriptor (R276). -/
def State.lossSet (s : State) (c : Nat) : LossSet :=
  { thr := s.get Reg.ALLOC_CTX_LOSS_THR_THR c, bus := s.get Reg.ALLOC_CTX_LOSS_PWR_BUS c, gen := s.get Reg.ALLOC_CTX_LOSS_PWR_GEN c }

/-- Elements inside the vessel (R273). -/
def State.busIn (s : State) (b : Nat) : Bool := s.flag Reg.ALLOC_BUS_CFG_ENABLE b
def State.thrIn (s : State) (i : Nat) : Bool := decide (s.get Reg.ALLOC_THR_CFG_KIND i ≠ 0) && s.busIn (s.thrBus i)
def State.genIn (s : State) (g : Nat) : Bool := s.flag Reg.ALLOC_GEN_CFG_ENABLE g
def State.vessel (s : State) : LossSet := { thr := maskOf 32 s.thrIn, bus := maskOf 8 s.busIn, gen := maskOf 16 s.genIn }

/-- The members of a context's loss set inside the vessel. -/
def State.lossIn (s : State) (c : Nat) : LossSet := (s.lossSet c).inter s.vessel

/-! ## Health (R273) -/

/-- Bit 0 of an AVAIL point is 1 with class good or uncertain; true where the role is not in use. -/
def State.availOk (s : State) (use : Bool) (p : Nat) : Bool := !use || ((s.point p).usable && (s.point p).value.getLsbD 0)

def State.busHealthy (s : State) (b : Nat) : Bool :=
  s.availOk (s.flag (Reg.ALLOC_BUS_PT_USE.at 1) b) (s.get (Reg.ALLOC_BUS_PT_ADDR.at 1) b)

/-- The STATE point of a station reads OK or SINGLE (R173). -/
def State.stationUp (s : State) (n : Nat) : Bool :=
  let v := (s.point (0xE5000 + 4 * n)).value.toNat
  decide (v = 1 ∨ v = 2)

def State.thrHealthy (s : State) (i : Nat) : Bool :=
  s.busHealthy (s.thrBus i) && (!s.flag Reg.ALLOC_THR_CFG_STN_USE i || s.stationUp (s.get Reg.ALLOC_THR_CFG_STATION i))
    && s.availOk (s.flag (Reg.ALLOC_THR_PT_USE.at 0) i) (s.get (Reg.ALLOC_THR_PT_ADDR.at 0) i)

/-- A generator point's value, none where its class is bad or not available or the value is not finite. -/
def State.genValue (s : State) (g : Nat) : Option F64 :=
  let r := s.point (s.get Reg.ALLOC_GEN_CFG_ADDR g)
  let v := F64.ofF32 r.value
  if r.usable ∧ F64.isFinite v then some v else none

def State.genHealthy (s : State) (g : Nat) : Bool := (s.genValue g).any (fun v => F64.lt F64.zero v)

/-- For AUTO_TRIG a generator is not healthy while its class is bad or not available, or its value at or below 0 kW (R281). -/
def State.genDown (s : State) (g : Nat) : Bool :=
  let r := s.point (s.get Reg.ALLOC_GEN_CFG_ADDR g)
  !r.usable || F64.le (F64.ofF32 r.value) F64.zero

/-- The elements inside the vessel that are not healthy. -/
def State.unhealthy (s : State) : LossSet :=
  { thr := maskOf 32 (fun i => s.thrIn i && !s.thrHealthy i), bus := maskOf 8 (fun b => s.busIn b && !s.busHealthy b),
    gen := maskOf 16 (fun g => s.genIn g && !s.genHealthy g) }

/-! ## Contexts -/

def State.allocOn (s : State) : Bool := s.flag Reg.ALLOC_CFG_ENABLE && s.variant.has 13

/-- Armed by the ARM points of the hold snapshot (R278). -/
def State.armed (s : State) (c : Nat) : Bool := bitAt (s.alloc.arm.getD (c / 32) 0).toNat (c % 32)

/-- A spent context (R277). -/
def State.spent (s : State) (c : Nat) : Bool := (s.lossIn c).sub s.alloc.failed

/-- The failure contexts that are armed, enabled and unspent, in rising order. -/
def State.liveContexts (s : State) : List Nat :=
  (s.instancesOf Reg.ALLOC_CTX_CFG_ENABLE).filter (fun c => decide (c ≠ 0 ∧ c < s.variant.contexts) && s.armed c && !s.spent c)

/-- The hold snapshot of the ARM points (R278). -/
def State.armSnapshot (s : State) : State :=
  { s with alloc := { s.alloc with arm := (List.range 8).map (fun w => (s.point (0xE3290 + w)).value) } }

/-! ## Triggers (R280 to R282) -/

/-- Whether a term is true (R280). -/
def State.termTrue (s : State) (c t : Nat) : Bool :=
  let r := s.point (s.get (Reg.ALLOC_CTX_TERM_A_ADDR.at t 8) c)
  let bit := r.value.getLsbD (s.get (Reg.ALLOC_CTX_TERM_A_BIT.at t 8) c)
  let th := s.get (Reg.ALLOC_CTX_TERM_B_THRESH.at t 8) c
  match s.get (Reg.ALLOC_CTX_TERM_A_OP.at t 8) c with
  | 0 => bit && r.usable
  | 1 => !bit && r.usable
  | 2 => !r.usable
  | 3 => decide (r.quality = qual 0x02)
  | 4 => r.usable && Fp.f32.lt th r.value.toNat
  | 5 => r.usable && Fp.f32.lt r.value.toNat th
  | 6 => r.usable && decide (r.value.toNat = th)
  | _ => false

/-- The terms in use of a group of a context. -/
def State.terms (s : State) (c g : Nat) : List Nat :=
  (List.range 8).filter (fun t => s.flag (Reg.ALLOC_CTX_TERM_A_USE.at t 8) c && decide (s.get (Reg.ALLOC_CTX_TERM_A_GROUP.at t 8) c = g))

/-- AUTO_TRIG: every element of L_c outside F is not healthy (R281). -/
def State.autoTrue (s : State) (c : Nat) : Bool :=
  let l := s.lossIn c
  let f := s.alloc.failed
  s.flag Reg.ALLOC_CTX_CFG_AUTO_TRIG c
    && (List.range 32).all (fun i => !(bitAt l.thr i && !bitAt f.thr i) || !s.thrHealthy i)
    && (List.range 8).all (fun b => !(bitAt l.bus b && !bitAt f.bus b) || !s.busHealthy b)
    && (List.range 16).all (fun g => !(bitAt l.gen g && !bitAt f.gen g) || s.genDown g)

/-- The trigger expression of a context (R281). -/
def State.triggerTrue (s : State) (c : Nat) : Bool :=
  let g := fun (k : Nat) => let ts := s.terms c k; !ts.isEmpty && ts.all (s.termTrue c)
  g 0 || g 1 || s.autoTrue c

/-- The context that switches in among those whose trigger became true: most elements outside F, then the lowest number (R285). -/
def State.chooseSwitch (s : State) (l : List Nat) : Option Nat :=
  let size := fun (c : Nat) =>
    let x := s.lossIn c
    x.size - (x.inter s.alloc.failed).size
  l.foldl (fun b c => match b with
    | none => some c
    | some d => if size d < size c then some c else some d) none

/-- Evaluation of the triggers after FAST, and HOLD in a hold cycle (R282, R285). -/
def State.evalTriggers (s : State) : State :=
  if s.allocOn then
    let live := s.liveContexts
    let now := live.map (fun c => (c, s.triggerTrue c))
    let became := (now.filter (fun e => e.2 && decide (storeFind s.alloc.trig e.1 = some false))).map Prod.fst
    let pick := s.chooseSwitch became
    let s := { s with alloc := { s.alloc with trig := now } }
    match pick with
    | none => s
    | some c =>
      let s := { s with alloc := { s.alloc with switchIn := some (c, decide (s.alloc.governing ≠ 0)) } }
      (became.filter (fun d => decide (d ≠ c))).foldl (fun t _ => t.raise 0x0A09) s
  else s

/-! ## Present state and rows (R267, R268) -/

/-- Offset of an angle inside a clockwise range that starts at `a`, both in degrees. -/
def cwFrom (a x : F64) : F64 := F64.mod360 (F64.sub x a)

/-- The same in rad. -/
def cwRad (a x : F64) : F64 :=
  let d := F64.wrapPi (F64.sub x a)
  if F64.lt d F64.zero then F64.add d (F64.mul (F64.ofNat 2) F64.pi) else d

/-- The forbidden sectors in use: START and END in degrees. -/
def State.sectors (s : State) (i : Nat) : List (F64 × F64) :=
  [0, 1].filterMap (fun k =>
    if s.flag (Reg.ALLOC_THR_SECT_USE.at k) i then
      some (F64.ofNat (s.get (Reg.ALLOC_THR_SECT_START.at k) i), F64.ofNat (s.get (Reg.ALLOC_THR_SECT_END.at k) i))
    else none)

/-- The sectors in rad. -/
def State.sectorsRad (s : State) (i : Nat) : List (F64 × F64) := (s.sectors i).map (fun c => (F64.rad c.1, F64.rad c.2))

/-- An angle lies inside a forbidden sector, by the offset function of its unit. -/
def inSectorBy (cw : F64 → F64 → F64) (x : F64) (sec : F64 × F64) : Bool :=
  let o := cw sec.1 x
  F64.lt F64.zero o && F64.lt o (cw sec.1 sec.2)

/-- Angles and sectors in degrees, as the registers have them. -/
def inSector (x : F64) (sec : F64 × F64) : Bool := inSectorBy cwFrom x sec

/-- The unit vector of an angle in rad (R264). -/
def unitVec (a : F64) : F64 × F64 := (F64.cos a, F64.sin a)

/-- The wedge of an azimuth thruster (R267), in rad: axis, half width, edges; none where nothing is kept. -/
def wedgeOf (secs : List (F64 × F64)) (a0 span : F64) : (F64 × F64) × F64 × Option (F64 × F64) :=
  let inSec := inSectorBy cwRad
  match secs.find? (inSec a0) with
  | none =>
    let cw := F64.minimum (span :: secs.map (fun c => cwRad a0 c.1)) span
    let ccw := F64.minimum (span :: secs.map (fun c => cwRad c.2 a0)) span
    (unitVec a0, F64.max cw ccw, some (F64.sub a0 ccw, F64.add a0 cw))
  | some sec =>
    let others := secs.filter (fun c => decide (c ≠ sec))
    let toStart := cwRad sec.1 a0
    let toEnd := cwRad a0 sec.2
    if F64.le toStart toEnd then
      let w := if others.any (inSec sec.1) then F64.zero
        else F64.minimum (span :: others.map (fun c => cwRad c.2 sec.1)) span
      (unitVec sec.1, w, if F64.lt F64.zero w then some (F64.sub sec.1 w, sec.1) else none)
    else
      let w := if others.any (inSec sec.2) then F64.zero
        else F64.minimum (span :: others.map (fun c => cwRad sec.2 c.1)) span
      (unitVec sec.2, w, if F64.lt F64.zero w then some (sec.2, F64.add sec.2 w) else none)

/-- The value of a thruster's role in use with class good or uncertain. -/
def State.thrRole (s : State) (i n : Nat) : Option F64 :=
  if s.flag (Reg.ALLOC_THR_PT_USE.at n) i then
    let r := s.point (s.get (Reg.ALLOC_THR_PT_ADDR.at n) i)
    if r.usable then some (F64.ofF32 r.value) else none
  else none

/-- The direction of a fixed-direction thruster, rad. -/
def State.thrDir (s : State) (i : Nat) : F64 := F64.rad (F64.ofNat (s.get Reg.ALLOC_THR_CFG_DIR i))

/-- The commanded azimuth in effect, rad: that of the last solution whose thrust moved it, DIR for a fixed direction (R289, R291). -/
def State.azimuthNow (s : State) (i : Nat) : F64 := if s.azimuth i then storeGet s.alloc.azNow i 0 else s.thrDir i

/-- The commanded thrust and azimuth in effect. -/
def State.thrCommand (s : State) (i : Nat) : F64 × F64 :=
  ((s.alloc.inEffect.map (fun sol => (storeGet sol.thr i {}).thrust)).getD 0, s.azimuthNow i)

/-- Whether a thrust is too small to move the azimuth: below 0.5 % of TMAX (R289). -/
def State.smallThrust (s : State) (i : Nat) (t : F64) : Bool := F64.lt (F64.abs t) (F64.mul (F64.ofRat 5 1000) (s.tmax i))

/-- The present state of a thruster with its rows (R267, R268). -/
def State.thrPost (s : State) (i : Nat) : ThrPost :=
  let cmd := s.thrCommand i
  if s.azimuth i then
    let st := match s.thrRole i 1, s.thrRole i 2 with
      | some t, some a => (t, F64.rad (F64.mod360 a), false)
      | _, _ => (cmd.1, cmd.2, true)
    let span := F64.rad (F64.min (F64.mul (scaledInt (s.get Reg.ALLOC_THR_RATE_AZ_RATE i) 10) s.thSeconds) (F64.ofNat 30))
    let w := wedgeOf (s.sectorsRad i) st.2.1 span
    { t0 := st.1, a0 := st.2.1, d0 := w.1, h := w.2.1, wedge := w.2.2, fromCmd := st.2.2 }
  else
    let dir := s.thrDir i
    let t := s.thrRole i 1
    { t0 := t.getD cmd.1, a0 := dir, d0 := unitVec dir, h := 0, wedge := some (dir, dir), fromCmd := t.isNone }

/-- The LOAD of a bus: its point, the last good finite value where it is bad, 0 kW where there was none (R269). -/
def State.busLoad (s : State) (b : Nat) : F64 :=
  if s.flag (Reg.ALLOC_BUS_PT_USE.at 0) b then
    let r := s.point (s.get (Reg.ALLOC_BUS_PT_ADDR.at 0) b)
    let v := F64.ofF32 r.value
    if r.usable ∧ F64.isFinite v then v else storeGet s.alloc.loadGood b 0
  else 0

/-- Generators that feed a bus and are not in a set, summed, minus LOAD, minus RESERVE (R269). -/
def State.busAvail (s : State) (p : PostData) (lost : LossSet) (b : Nat) : F64 :=
  let gens := (p.gens.filter (fun e => decide (s.get Reg.ALLOC_GEN_CFG_BUS e.1 = b) && !bitAt lost.gen e.1)).map Prod.snd
  F64.sub (F64.sub (F64.sum gens) (storeGet p.loads b 0)) (F64.ofNat (s.get Reg.ALLOC_BUS_CFG_RESERVE b))

/-- GEN_KW of a bus: its generators that are not in a set. -/
def State.busGen (s : State) (p : PostData) (lost : LossSet) (b : Nat) : F64 :=
  F64.sum ((p.gens.filter (fun e => decide (s.get Reg.ALLOC_GEN_CFG_BUS e.1 = b) && !bitAt lost.gen e.1)).map Prod.snd)

/-- Thrusters of a bus that a set leaves (R274). -/
def State.busThrusters (s : State) (p : PostData) (lost : LossSet) (b : Nat) : List Nat :=
  (p.thr.map Prod.fst).filter (fun i => decide (s.thrBus i = b) && !bitAt lost.thr i && !bitAt lost.bus b)

/-- The usable thrusters of a bus: none where AVAIL is below the sum of their idle power (R269). -/
def State.usableOn (s : State) (p : PostData) (lost : LossSet) (b : Nat) : List Nat :=
  let l := s.busThrusters p lost b
  if F64.lt (s.busAvail p lost b) (F64.sum (l.map s.pidle)) then [] else l

/-- The buses of the vessel that a set leaves. -/
def State.liveBuses (s : State) (lost : LossSet) : List Nat := (List.range 8).filter (fun b => s.busIn b && !bitAt lost.bus b)

/-! ## The failed set and the post (R263, R274, R276) -/

/-- RESTORE at a post instant (R274, R292). -/
def State.restoreStep (s : State) : State :=
  match s.alloc.restore with
  | none => s
  | some w =>
    let kind := bitsAt w.toNat 0 2
    let i := bitsAt w.toNat 2 5
    let f := s.alloc.failed
    let hit := match kind with
      | 0 => bitAt f.thr i && s.thrHealthy i
      | 1 => bitAt f.bus i && s.busHealthy i
      | _ => bitAt f.gen i && s.genHealthy i
    let st : Status := if kind = 3 ∨ w.toNat / 128 ≠ 0 then .range else if s.standby then .role else if hit then .done else .state
    let f' := match kind with
      | 0 => { f with thr := f.thr ^^^ 2 ^ i }
      | 1 => { f with bus := f.bus ^^^ 2 ^ i }
      | _ => { f with gen := f.gen ^^^ 2 ^ i }
    let t := ({ s with alloc := { s.alloc with restore := none, restoreResult := st.code } }).putGood 0xE3299 st.code
    if st = .done then ({ t with alloc := { t.alloc with failed := f' } }).raise 0x0A07 else t

/-- Steps 1 to 3 of R274; every element that joins F without a switch-in is recorded. -/
def State.failedUpdate (s : State) : State :=
  let covered := s.alloc.switched.foldl (fun f c => f.union (s.lossIn c)) s.alloc.failed
  let trig := (s.liveContexts.filter (fun c => s.triggerTrue c)).foldl (fun f c => f.union (s.lossIn c)) covered
  let un := s.unhealthy
  let all := trig.union { thr := un.thr, bus := un.bus }
  let t := { s with alloc := { s.alloc with failed := all } }
  if all.size ≠ covered.size then
    (List.range (all.size - covered.size)).foldl (fun u _ => u.raise 0x0A06) (t.setFlag Reg.ALLOC_STAT_UNCOVERED true)
  else t

/-- The registers that repeat the block's state. -/
def State.allocRegs (s : State) : State :=
  (((s.set Reg.ALLOC_STAT_GOVERNING s.alloc.governing).set Reg.ALLOC_FAILED_THR_THR s.alloc.failed.thr).set
    Reg.ALLOC_FAILED_PWR_BUS s.alloc.failed.bus).set Reg.ALLOC_FAILED_PWR_GEN s.alloc.failed.gen

/-- The last good finite value of every LOAD point (R269), noted at every pump boundary and post. -/
def State.loadNote (s : State) : State :=
  { s with alloc := { s.alloc with loadGood := (List.range 8).map (fun b => (b, s.busLoad b)) } }

/-- What the block takes at the post instant. -/
def State.takePost (s : State) : PostData :=
  let f := s.alloc.failed
  let thr := (List.range 32).filter (fun i => s.thrIn i && !bitAt f.thr i && !bitAt f.bus (s.thrBus i))
  { tau := s.tauDemand, failed := f, thr := thr.map (fun i => (i, s.thrPost i)),
    gens := ((List.range 16).filter (fun g => s.genIn g && !bitAt f.gen g)).map (fun g => (g, (s.genValue g).getD 0)),
    loads := ((List.range 8).filter s.busIn).map (fun b => (b, s.busLoad b)),
    posted := 0 :: s.liveContexts }

/-- Present states newly taken from the command (R267). -/
def State.cmdEvents (s : State) (p : PostData) : State :=
  p.thr.foldl (fun t e =>
    if e.2.fromCmd && !((s.alloc.post.bind (fun q => storeFind q.thr e.1)).any ThrPost.fromCmd) then t.raise 0x0A08 else t) s

/-- ALLOC_POST (R263, R274, R276, R278): F is updated and the contexts formed. -/
def State.allocPost (s : State) : State :=
  if s.allocOn then
    let s := s.failedUpdate.restoreStep.allocRegs.loadNote
    let p := s.takePost
    let s := s.cmdEvents p
    let s := { s with alloc := { s.alloc with post := some p, tau := p.tau } }
    s.set Reg.ALLOC_STAT_ARMED p.posted.length
  else s

/-! ## The problem of a context (R264 to R269) -/

/-- Dot and cross product in the plane; a positive cross product turns clockwise. -/
def dot2 (a b : F64 × F64) : F64 := F64.add (F64.mul a.1 b.1) (F64.mul a.2 b.2)
def cross2 (a b : F64 × F64) : F64 := F64.sub (F64.mul a.1 b.2) (F64.mul a.2 b.1)

/-- The vertices of a thruster's region, clockwise (R271). -/
def State.polygon (s : State) (i : Nat) : List (F64 × F64) :=
  let n := s.get Reg.ALLOC_THR_CFG_NVERT i
  if n = 0 then (List.range 8).map (fun k =>
    let u := unitVec (F64.rad (F64.ofNat (45 * k)))
    (F64.mul (s.tmax i) u.1, F64.mul (s.tmax i) u.2))
  else (List.range n).map (fun v =>
    (scaledInt (sext 16 (s.get (Reg.ALLOC_THR_POLY_FX.at v) i)) 10, scaledInt (sext 16 (s.get (Reg.ALLOC_THR_POLY_FY.at v) i)) 10))

/-- The region rows: outward normal and bound of every edge (R267). Edges outside the wedge never bind inside it. -/
def State.regionRows (s : State) (i : Nat) : List ((F64 × F64) × F64) :=
  let vs := s.polygon i
  (vs.zip (vs.drop 1 ++ vs.take 1)).map (fun e =>
    let n := (F64.sub e.2.2 e.1.2, F64.sub e.1.1 e.2.1)
    (n, dot2 n e.1))

/-- A linear row: coefficients by variable, and the bound that their sum may not exceed. Variables 2 i and 2 i + 1 are f_x and f_y of
azimuth thruster i, or φ and t of a fixed-direction one (R264). -/
structure AllocRow where
  coef : List (Nat × F64)
  bound : F64
deriving DecidableEq, Repr

/-- The problem of a context: weights W·PMAX/TMAX² and R_MOVE·PMAX/TMAX² with the present force, by variable; the coefficients of X, Y and N
by variable; the rows; τ, Q_F and L_ARM (R265, R266). -/
structure AllocProblem where
  cost : List (Nat × F64 × F64 × F64)
  balance : List (Nat × F64 × F64 × F64)
  rows : List AllocRow
  tau : F64 × F64 × F64
  qf : F64
  lArm : F64
deriving DecidableEq, Repr

/-- Whether the directions of an edge meet the wedge (R267): either begins within the other. -/
def edgeMeets (w : F64 × F64) (e : (F64 × F64) × (F64 × F64)) : Bool :=
  let a := F64.atan2 e.1.2 e.1.1
  let b := F64.atan2 e.2.2 e.2.1
  F64.le (cwRad w.1 a) (F64.sub w.2 w.1) || F64.le (cwRad a w.1) (cwRad a b)

/-- The rows of an azimuth thruster: region edges that meet the wedge, the wedge's two half-planes, the rate row (R267). -/
def State.azimuthRows (s : State) (i : Nat) (p : ThrPost) (w : F64 × F64) : List AllocRow :=
  let vs := s.polygon i
  let x := 2 * i; let y := 2 * i + 1
  let u1 := unitVec w.1; let u2 := unitVec w.2
  (((vs.zip (vs.drop 1 ++ vs.take 1)).filter (edgeMeets w)).map (fun e =>
      let n := (F64.sub e.2.2 e.1.2, F64.sub e.1.1 e.2.1)
      ({ coef := [(x, n.1), (y, n.2)], bound := dot2 n e.1 } : AllocRow)))
    ++ [{ coef := [(x, u1.2), (y, F64.neg u1.1)], bound := 0 }, { coef := [(x, F64.neg u2.2), (y, u2.1)], bound := 0 },
        { coef := [(x, p.d0.1), (y, p.d0.2)], bound := F64.add p.t0 (s.deltaT i) }]

/-- The bounds and rows of a fixed-direction thruster (R268). -/
def State.fixedRows (s : State) (i : Nat) (p : ThrPost) : List AllocRow :=
  let f := 2 * i; let t := 2 * i + 1
  let one := F64.ofNat 1; let minus := F64.neg one
  [{ coef := [(f, one)], bound := s.tmax i }, { coef := [(f, minus)], bound := s.tneg i },
   { coef := [(f, one), (t, minus)], bound := 0 }, { coef := [(f, minus), (t, minus)], bound := 0 },
   { coef := [(t, one)], bound := F64.add (F64.abs p.t0) (s.deltaT i) }]

/-- Rows of a thruster; one whose wedge is empty has no variables (R267). -/
def State.thrRows (s : State) (e : Nat × ThrPost) : List AllocRow :=
  if s.azimuth e.1 then (e.2.wedge.map (s.azimuthRows e.1 e.2)).getD [] else s.fixedRows e.1 e.2

/-- Power of a thruster per unit of its variables: (PMAX − PIDLE) T̂ / TMAX (R269). -/
def State.powerCoef (s : State) (i : Nat) (p : ThrPost) : List (Nat × F64) :=
  let k := F64.div (F64.sub (s.pmax i) (s.pidle i)) (s.tmax i)
  if s.azimuth i then
    let c := F64.div k (F64.cos p.h)
    if p.wedge.isNone then [] else [(2 * i, F64.mul c p.d0.1), (2 * i + 1, F64.mul c p.d0.2)]
  else [(2 * i + 1, k)]

/-- Variables that carry force, with present value and the unit force that each contributes (R264, R267). -/
def State.forceVars (s : State) (e : Nat × ThrPost) : List (Nat × F64 × F64 × F64) :=
  let one := F64.ofNat 1
  if s.azimuth e.1 then
    if e.2.wedge.isNone then []
    else
      let u := unitVec e.2.a0
      [(2 * e.1, F64.mul e.2.t0 u.1, one, 0), (2 * e.1 + 1, F64.mul e.2.t0 u.2, 0, one)]
  else [(2 * e.1, e.2.t0, e.2.d0.1, e.2.d0.2)]

/-- The weight PMAX / TMAX² of a thruster (R266). -/
def State.weightOf (s : State) (i : Nat) : F64 := F64.div (s.pmax i) (F64.sq (s.tmax i))

/-- Position of a thruster in m. -/
def State.thrPos (s : State) (i : Nat) : F64 × F64 :=
  (scaledInt (sext 16 (s.get Reg.ALLOC_THR_POS_X i)) 100, scaledInt (sext 16 (s.get Reg.ALLOC_THR_POS_Y i)) 100)

/-- What a context leaves out of the vessel (R276). -/
def State.lostIn (s : State) (p : PostData) (c : Nat) : LossSet := if c = 0 then p.failed else p.failed.union (s.lossSet c)

/-- The usable thrusters of a context with their state at the post (R269, R274). -/
def State.usableIn (s : State) (p : PostData) (c : Nat) : List (Nat × ThrPost) :=
  let lost := s.lostIn p c
  p.thr.filter (fun e => (s.liveBuses lost).any (fun b => (s.usableOn p lost b).contains e.1))

/-- The bus row Σ P_i ≤ AVAIL_b of a bus that has usable thrusters (R269). -/
def State.busRow (s : State) (p : PostData) (lost : LossSet) (b : Nat) : Option AllocRow :=
  let on := s.usableOn p lost b
  if on.isEmpty then none
  else some { coef := (p.thr.filter (fun e => on.contains e.1)).flatMap (fun e => s.powerCoef e.1 e.2),
              bound := F64.sub (s.busAvail p lost b) (F64.sum (on.map s.pidle)) }

/-- The problem of a posted context (R263 to R269, R276). -/
def State.allocProblem (s : State) (p : PostData) (c : Nat) : AllocProblem :=
  let thr := s.usableIn p c
  let lost := s.lostIn p c
  { cost := thr.flatMap (fun e => (s.forceVars e).map (fun v =>
      (v.1, F64.mul (scaledInt (s.get Reg.ALLOC_THR_RATE_W e.1) 4) (s.weightOf e.1), F64.mul (s.allocCoef 2) (s.weightOf e.1), v.2.1))),
    balance := thr.flatMap (fun e => (s.forceVars e).map (fun v =>
      (v.1, v.2.2.1, v.2.2.2, F64.sub (F64.mul (s.thrPos e.1).1 v.2.2.2) (F64.mul (s.thrPos e.1).2 v.2.2.1)))),
    rows := thr.flatMap s.thrRows ++ (s.liveBuses lost).filterMap (s.busRow p lost),
    tau := p.tau, qf := s.allocCoef 0, lArm := s.allocCoef 1 }

/-- J of R266 at values of the variables. -/
def AllocProblem.objective (a : AllocProblem) (f : List F64) : F64 :=
  let at_ := fun (i : Nat) => f.getD i 0
  let part := fun (k : F64 × F64 × F64 → F64) => F64.sum (a.balance.map (fun b => F64.mul (k b.2) (at_ b.1)))
  let sx := F64.sub a.tau.1 (part (fun b => b.1))
  let sy := F64.sub a.tau.2.1 (part (fun b => b.2.1))
  let sn := F64.sub a.tau.2.2 (part (fun b => b.2.2))
  let move := F64.sum (a.cost.map (fun v => F64.add (F64.mul v.2.1 (F64.sq (at_ v.1))) (F64.mul v.2.2.1 (F64.sq (F64.sub (at_ v.1) v.2.2.2)))))
  F64.add move (F64.mul a.qf (F64.add (F64.add (F64.sq sx) (F64.sq sy)) (F64.sq (F64.div sn a.lArm))))

/-- The numbers of a problem, in order, as the hatch's feed takes them. -/
def AllocProblem.numbers (a : AllocProblem) : List F64 :=
  let n := F64.ofNat
  a.cost.flatMap (fun v => [n v.1, v.2.1, v.2.2.1, v.2.2.2]) ++ a.balance.flatMap (fun v => [n v.1, v.2.1, v.2.2.1, v.2.2.2])
    ++ a.rows.flatMap (fun r => r.coef.flatMap (fun c => [n c.1, c.2]) ++ [r.bound])
    ++ [a.tau.1, a.tau.2.1, a.tau.2.2, a.qf, a.lArm]

/-! ## Collection (R283, R284) -/

/-- The largest factor in [0, 1] at which a row a ≤ b holds. -/
def rowFactor (a b : F64) : F64 :=
  if F64.lt b a then (if F64.lt F64.zero b then F64.div b a else F64.zero) else F64.ofNat 1

/-- A thruster's part of a collected solution, its direction in rad: force of the returned iterate, scaled to its rows (R283). -/
def State.collectThr (s : State) (i : Nat) (p : ThrPost) (iter : List F64) : ThrSol :=
  let lim := F64.add p.t0 (s.deltaT i)
  if s.azimuth i then
    match p.wedge with
    | none => { az := s.azimuthNow i, flags := if p.fromCmd then 8 else 0, power := s.pidle i }
    | some (w1, w2) =>
      let f := (iter.getD (2 * i) 0, iter.getD (2 * i + 1) 0)
      let rows := s.regionRows i
      let inWedge := !F64.lt (cross2 (unitVec w1) f) F64.zero && !F64.lt (cross2 f (unitVec w2)) F64.zero
      let k := if inWedge then F64.minimum (rowFactor (dot2 p.d0 f) lim :: rows.map (fun r => rowFactor (dot2 r.1 f) r.2)) 0
        else F64.zero
      let g := (F64.mul k f.1, F64.mul k f.2)
      let t := F64.hyp g.1 g.2
      let that := F64.div (dot2 p.d0 g) (F64.cos p.h)
      { thrust := t, az := F64.atan2 g.2 g.1, fx := g.1, fy := g.2,
        power := F64.add (s.pidle i) (F64.div (F64.mul (F64.sub (s.pmax i) (s.pidle i)) that) (s.tmax i)),
        util := F64.div t (s.tmax i),
        flags := ofBits [rows.any (fun r => F64.le r.2 (dot2 r.1 g)),
          F64.isZero (cross2 (unitVec w1) g) || F64.isZero (cross2 g (unitVec w2)),
          F64.le lim (dot2 p.d0 g), p.fromCmd, F64.lt k (F64.ofNat 1)] }
  else
    let phi0 := iter.getD (2 * i) 0
    let reach := F64.add (F64.abs p.t0) (s.deltaT i)
    let hi := F64.min (s.tmax i) reach
    let lo := F64.min (s.tneg i) reach
    let k := if F64.lt phi0 F64.zero then rowFactor (F64.neg phi0) lo else rowFactor phi0 hi
    let phi := F64.mul k phi0
    let a := F64.abs phi
    { thrust := phi, az := p.a0, fx := F64.mul phi p.d0.1, fy := F64.mul phi p.d0.2,
      power := F64.add (s.pidle i) (F64.div (F64.mul (F64.sub (s.pmax i) (s.pidle i)) a) (s.tmax i)),
      util := if F64.lt phi F64.zero then F64.div a (s.tneg i) else F64.div a (s.tmax i),
      flags := ofBits [F64.le (s.tmax i) phi || F64.le (s.tneg i) (F64.neg phi), false, F64.le reach a, p.fromCmd,
        F64.lt k (F64.ofNat 1)] }

/-- ‖(X, Y, N / L_ARM)‖ (R265). -/
def State.slackNorm (s : State) (v : F64 × F64 × F64) : F64 :=
  F64.sqrt (F64.add (F64.add (F64.sq v.1) (F64.sq v.2.1)) (F64.sq (F64.div v.2.2 (s.allocCoef 1))))

/-- Achieved τ = B·f (R265). -/
def State.achieved (s : State) (l : Store ThrSol) : F64 × F64 × F64 :=
  let pos := s.thrPos
  (F64.sum (l.map (fun e => e.2.fx)), F64.sum (l.map (fun e => e.2.fy)),
   F64.sum (l.map (fun e => F64.sub (F64.mul (pos e.1).1 e.2.fy) (F64.mul (pos e.1).2 e.2.fx))))

/-- PLIM of a thruster (R283). -/
def State.plimOf (s : State) (i n : Nat) (power avail used : F64) : F64 :=
  if F64.isZero used then F64.div avail (F64.ofNat n) else F64.min (s.pmax i) (F64.div (F64.mul power avail) used)

/-- One context's solution from its returned iterate (R283, R284). -/
def State.collectContext (s : State) (p : PostData) (c : Nat) (iter : List F64) : Solution :=
  let lost := s.lostIn p c
  let buses := (s.liveBuses lost).map (fun b => (b, s.usableOn p lost b))
  let thr := p.thr.filterMap (fun e =>
    if buses.any (fun b => b.2.contains e.1) then some (e.1, s.collectThr e.1 e.2 iter) else none)
  let bus := buses.map (fun b =>
    let used := F64.sum ((thr.filter (fun e => b.2.contains e.1)).map (fun e => e.2.power))
    let avail := s.busAvail p lost b.1
    (b.1, ({ gen := s.busGen p lost b.1, avail := avail, used := used, util := F64.div used avail } : BusSol), b.2.length))
  let thr := thr.map (fun e =>
    match bus.find? (fun b => decide (b.1 = s.thrBus e.1)) with
    | some b => (e.1, { e.2 with plim := s.plimOf e.1 b.2.2 e.2.power b.2.1.avail b.2.1.used })
    | none => e)
  let ach := s.achieved thr
  let slack := (F64.sub p.tau.1 ach.1, F64.sub p.tau.2.1 ach.2.1, F64.sub p.tau.2.2 ach.2.2)
  let norm := s.slackNorm slack
  let tol := scaledInt (s.get Reg.ALLOC_CFG_SLACK_TOL) 100
  let busUtil := F64.maximum ((bus.filter (fun b => decide (b.2.2 ≠ 0))).map (fun b => b.2.1.util)) 0
  let worst := F64.maximum (busUtil :: thr.map (fun e => e.2.util)) 0
  let margin := if F64.le norm tol then F64.sub (F64.ofNat 1) worst
    else F64.neg (F64.min (F64.ofNat 1) (F64.div norm (s.slackNorm p.tau)))
  { thr := thr, bus := bus.map (fun b => (b.1, b.2.1)), tau := ach, slack := slack, margin := margin, busUtil := busUtil,
    overTol := F64.lt tol norm }

/-- The changes of a fallback for the loss set of a context (R287); what is then achieved is B·f of the forces that are left. -/
def State.fallbackChange (s : State) (sol : Solution) (c : Nat) : Solution :=
  let l := s.lossIn c
  let gone := fun (i : Nat) => bitAt l.thr i || bitAt l.bus (s.thrBus i)
  let thr := sol.thr.map (fun e =>
    if gone e.1 then (e.1, { e.2 with thrust := 0, fx := 0, fy := 0, plim := 0, flags := e.2.flags % 32 + 32 }) else e)
  let avail := fun (b : Nat) => match s.alloc.post with
    | some p => s.busAvail p (p.failed.union l) b
    | none => 0
  let thr := thr.map (fun e =>
    let b := s.thrBus e.1
    let used := (storeGet sol.bus b {}).used
    if F64.lt (avail b) used then (e.1, { e.2 with plim := F64.div (F64.mul e.2.plim (avail b)) used }) else e)
  { sol with thr := thr, tau := s.achieved thr }

/-- The solution that a collection takes for the governing context, with the changes of R287 after a fallback. -/
def State.governingSolution (s : State) : Option Solution :=
  let base := match storeFind s.alloc.sols s.alloc.governing with
    | some sol => some sol
    | none => s.alloc.inEffect
  if s.alloc.fallbackSince then base.map (fun sol => s.alloc.switched.foldl s.fallbackChange sol) else base

/-- The azimuth that a solution commands: its direction, or the one before where the thrust is small or absent (R289). -/
def State.azimuthOf (s : State) (i : Nat) (sol : Solution) : F64 :=
  match storeFind sol.thr i with
  | some t => if s.azimuth i && !s.smallThrust i t.thrust then t.az else s.azimuthNow i
  | none => s.azimuthNow i

/-- AZ_CONT moves by the wrapped difference of successive azimuths (R289). -/
def State.azContStep (s : State) (sol : Solution) : State :=
  let now := (List.range 32).map (fun i => (i, s.azimuthOf i sol))
  let cont := now.map (fun e => let old := storeGet s.alloc.azCont e.1 0; (e.1, F64.add old (F64.wrapPi (F64.sub e.2 old))))
  { s with alloc := { s.alloc with azNow := now, azCont := cont } }

/-- Take a solution into effect. -/
def State.takeEffect (s : State) (sol : Option Solution) : State :=
  match sol with
  | none => s
  | some x =>
    let s := s.azContStep x
    { s with alloc := { s.alloc with inEffect := some x } }

/-! ## Points (R291 to R293) -/

/-- STATE of a thruster or bus section: 0 outside the vessel, 3 in F, 2 not healthy, else 1. -/
def elementState (inside failed healthy : Bool) : Nat := if !inside then 0 else if failed then 3 else if !healthy then 2 else 1

/-- The points of a thruster slot (R291). -/
def State.thrPoints (s : State) (i : Nat) : State :=
  let b := 0xE3000 + 16 * i
  let s := s.putGood b (elementState (s.thrIn i) (bitAt s.alloc.failed.thr i) (s.thrHealthy i))
  match s.alloc.inEffect with
  | none => s
  | some sol =>
    let t := storeGet sol.thr i {}
    let s := (s.putGood (b + 9) t.flags).putHeading (b + 2) (F64.deg (s.azimuthNow i))
    [(1, t.thrust), (3, F64.deg (storeGet s.alloc.azCont i 0)), (4, t.fx), (5, t.fy), (6, t.power), (7, t.plim), (8, t.util)].foldl
      (fun (u : State) (e : Nat × F64) => u.putF (b + e.1) e.2) s

/-- The points of a bus section (R292). -/
def State.busPoints (s : State) (b : Nat) : State :=
  let a := 0xE3200 + 16 * b
  let s := s.putGood a (elementState (s.busIn b) (bitAt s.alloc.failed.bus b) (s.busHealthy b))
  match s.alloc.inEffect with
  | none => s
  | some sol =>
    let t := storeGet sol.bus b {}
    [(1, t.gen), (2, t.avail), (3, t.used), (4, t.util)].foldl (fun (u : State) (e : Nat × F64) => u.putF (a + e.1) e.2) s

/-- The summary points (R292). -/
def State.allocSummary (s : State) : State :=
  let a := s.alloc
  let flags := ofBits [s.flag Reg.ALLOC_STAT_CONSEQUENCE, s.flag Reg.ALLOC_STAT_DEFICIT, s.flag Reg.ALLOC_STAT_UNCOVERED,
    s.flag Reg.ALLOC_STAT_FALLBACK, a.switchedNow]
  let s := s.putAll [(0xE3280, a.governing), (0xE3281, flags), (0xE3282, a.lastSwitch), (0xE3283, a.switchCycle), (0xE3284, a.worstCtx),
    (0xE3289, a.failed.thr), (0xE328A, a.failed.bus + 256 * a.failed.gen), (0xE3299, a.restoreResult)]
  [(0xE3285, a.worstMargin), (0xE3286, a.tau.1), (0xE3287, a.tau.2.1), (0xE3288, a.tau.2.2)].foldl
    (fun (u : State) (e : Nat × F64) => u.putF e.1 e.2) s

/-- The points of a context (R293). -/
def State.ctxPoints (s : State) (c : Nat) : State :=
  let b := 0xE3400 + 12 * c
  let sol := storeFind s.alloc.sols c
  let flags := ofBits [s.armed c, s.flag Reg.ALLOC_CTX_CFG_ENABLE c, decide (storeFind s.alloc.trig c = some true),
    sol.any Solution.overTol, decide (c ≠ 0) && s.spent c, s.alloc.switched.contains c, sol.isSome, decide (s.alloc.governing = c)]
  let s := s.putAll [(b, flags), (b + 10, s.get Reg.ALLOC_CTX_LOSS_THR_THR c)]
  match sol with
  | none => s
  | some x =>
    let s := s.putGood (b + 9) x.age
    [(1, x.tau.1), (2, x.tau.2.1), (3, x.tau.2.2), (4, x.slack.1), (5, x.slack.2.1), (6, x.slack.2.2), (7, x.margin),
      (8, x.busUtil)].foldl (fun (u : State) (e : Nat × F64) => u.putF (b + e.1) e.2) s

/-- Thruster, bus and summary points, written at each collection and switch-in. -/
def State.allocPoints (s : State) : State :=
  ((List.range 8).foldl State.busPoints ((List.range 32).foldl State.thrPoints s)).allocSummary

/-- The points of every context, written at each collection (R283, R293). -/
def State.ctxPointsAll (s : State) : State := (List.range s.variant.contexts).foldl State.ctxPoints s

/-- CONSEQUENCE and DEFICIT after a collection (R284). -/
def State.consequence (s : State) : State :=
  let tolOver := fun (c : Nat) => (storeFind s.alloc.sols c).any Solution.overTol
  let cons := (s.alloc.collected.filter (fun c => decide (c ≠ 0))).any tolOver
  let defi := s.alloc.inEffect.any Solution.overTol
  let was := s.flag Reg.ALLOC_STAT_CONSEQUENCE
  let wasD := s.flag Reg.ALLOC_STAT_DEFICIT
  let s := s.setFlag Reg.ALLOC_STAT_CONSEQUENCE cons
  let s := if cons ∧ !was then s.raise 0x0A03 else if !cons ∧ was then s.raise 0x0A04 else s
  let s := s.setFlag Reg.ALLOC_STAT_DEFICIT defi
  if defi ∧ !wasD then s.raise 0x0A05 else s

/-- The governing context returns to 0 (R288). -/
def State.governReturn (s : State) (p : PostData) : State :=
  if s.alloc.switched.isEmpty then s
  else if s.alloc.switched.all (fun c => (s.lossIn c).sub p.failed) then
    { s with alloc := { s.alloc with governing := 0, switched := [], fallbackSince := false } }
  else s

/-- The failure context with the lowest margin of a collection (R292). -/
def worstOf (sols : Store Solution) (l : List Nat) : Option (Nat × F64) :=
  l.foldl (fun (b : Option (Nat × F64)) c =>
    match storeFind sols c with
    | none => b
    | some x => match b with
      | none => some (c, x.margin)
      | some w => if F64.lt x.margin w.2 then some (c, x.margin) else some w) none

/-- Collection at t_h(k+1) (R283, R284, R287, R288): `iters` holds the returned iterate of every posted context that has one; a
context that was not posted has status NOT_RUN and keeps no solution. -/
def State.collect (s : State) (iters : Store (List F64)) : State :=
  match s.alloc.post with
  | none => s
  | some p =>
    let got := p.posted.filterMap (fun c => (storeFind iters c).map (fun it => (c, { s.collectContext p c it with age := 1 })))
    let sols := got.foldl (fun st e => storePut st e.1 e.2) []
    let worst := worstOf sols ((got.map Prod.fst).filter (fun c => decide (c ≠ 0)))
    let t := { s with alloc := { s.alloc with sols := sols, collected := got.map Prod.fst, switchedNow := false,
                                              worstCtx := (worst.map Prod.fst).getD s.alloc.worstCtx,
                                              worstMargin := (worst.map Prod.snd).getD s.alloc.worstMargin } }
    let t := t.governReturn p
    (((t.takeEffect t.governingSolution).consequence).allocRegs).ctxPointsAll

/-- Forget the post of the hold cycle, once collected. -/
def State.closePost (s : State) : State := { s with alloc := { s.alloc with post := s.alloc.post.map (fun p => { p with posted := [] }) } }

/-- Switch-in at a boundary (R286, R287). -/
def State.doSwitchIn (s : State) : State :=
  match s.alloc.switchIn with
  | none => s
  | some (c, other) =>
    let sol := storeFind s.alloc.sols c
    let fall := other || sol.isNone
    let a := { s.alloc with switchIn := none, governing := c, lastSwitch := c, switchCycle := s.n % 4294967296,
                            switched := s.alloc.switched ++ [c], switchedNow := true,
                            fallbackSince := s.alloc.fallbackSince || fall }
    let t := ({ s with alloc := a }).setFlag Reg.ALLOC_STAT_SWITCHED true
    let t := t.allocRegs
    if fall then
      ((t.takeEffect (t.alloc.inEffect.map (fun x => t.fallbackChange x c))).setFlag Reg.ALLOC_STAT_FALLBACK true).raise 0x0A02
    else (t.takeEffect sol).raise 0x0A01

/-- A committed change of a context's descriptor (R279): its solution is discarded, that of a run posted before the change too, and its
trigger starts afresh. -/
def State.ctxChanged (s : State) (c : Nat) : State :=
  { s with alloc := { s.alloc with sols := storeDel s.alloc.sols c, trig := storeDel s.alloc.trig c,
                                   post := s.alloc.post.map (fun p => { p with posted := p.posted.filter (fun d => decide (d ≠ c)) }) } }

/-- The points of the thruster slots before the first collection after a restart (R275). -/
def State.thrInit (s : State) : State :=
  ((List.range 32).flatMap (fun i => (List.range 10).map (fun k => 0xE3000 + 16 * i + k))).foldl
    (fun t p => t.putPoint p 0 (qual 0x01)) s

/-- Every restart and every hardware reset (R275): F is empty, context 0 governs, no context has a solution; the thruster command points
read INIT. -/
def State.allocRestart (s : State) : State :=
  ({ s with alloc := { loadGood := s.alloc.loadGood, lastSwitch := s.alloc.lastSwitch,
                       switchCycle := s.alloc.switchCycle } }).allocRegs.thrInit

end Sys2Proof.Machine
end

