-- ==== Sys2Proof/Machine/Lane.lean ====
section
/-! DEFINITION. What a die computes for a context (R302, R307 to R313): storage in fixed point, the incomplete LDLᵀ factorisation with its
pivot floor, merit and residuals, the Newton steps of an IPM hatch and the inner iterates of a LINEAR one. The directions and residual
norms of MINRES come from the lanes, with the command that ends the run. How the KKT system of R307 is laid out is DEDUCED (log entry 46). -/

namespace Sys2Proof.Machine

/-! ## Fixed-point storage (R302) -/

namespace Q

/-- x / 2^e rounded to the nearest integer, ties to even; none for a NaN or an infinity. -/
def round (e : Int) (x : F64) : Option Int :=
  match Fp.f64.decode x.toNat with
  | .fin neg m xe =>
    let v := Fp.signed neg m
    let d := xe - e
    if 0 ≤ d then some (v * 2 ^ d.toNat)
    else
      let den : Int := 2 ^ (-d).toNat
      let q := v / den
      let r := 2 * (v % den)
      some (if den < r ∨ r = den ∧ q % 2 = 1 then q + 1 else q)
  | _ => none

/-- The value q · 2^e, exact in binary64. -/
def value (e q : Int) : F64 := if 0 ≤ e then F64.ofInt (q * 2 ^ e.toNat) else F64.ofRat q (2 ^ (-e).toNat)

/-- The ends of the range of q. -/
def top : Int := 2147483647
def bottom : Int := -2147483648

/-- The word that a result leaves in storage, as its value, and whether it saturates (R302); a NaN leaves a free word. -/
def store (e : Int) (x : F64) : F64 × Bool :=
  match round e x with
  | some q =>
    if top < q then (value e top, true) else if q < bottom then (value e bottom, true) else (value e q, false)
  | none => (value e (if F64.isNan x then Config.nanWord % 4294967296 - 2147483648 else if F64.signBit x then bottom else top), true)

/-- The same for a pivot: a nonzero one that rounds to 0 saturates too. -/
def storePivot (e : Int) (x : F64) : F64 × Bool :=
  let r := store e x
  (r.1, r.2 || !F64.isZero x && F64.isZero r.1)

end Q

/-! ## The problem in storage -/

/-- The kinds of words of a row block (R300). -/
inductive WordKind where | mat | rhs | res | fact
deriving DecidableEq, Repr

/-- A context's problem as it lies in storage: variables, inequality rows, matrix entries at or above the diagonal, right-hand side, fill
pattern, exponents by row, whether storage is wide. -/
structure LaneProblem where
  n : Nat
  m : Nat
  mat : List ((Nat × Nat) × F64)
  rhs : List (Nat × F64)
  fill : List (Nat × Nat)
  blockOf : List Nat
  qfmt : List (Int × Int × Int × Int)
  wide : Bool
deriving DecidableEq, Repr

/-- Rows of the KKT matrix. -/
def LaneProblem.dim (p : LaneProblem) : Nat := p.n + p.m

/-- The exponent of a kind of word in the block of a row. -/
def expOf (qfmt : List (Int × Int × Int × Int)) (blockOf : List Nat) (k : WordKind) (row : Nat) : Int :=
  let q := qfmt.getD (blockOf.getD row 0) (0, 0, 0, 0)
  match k with | .mat => q.1 | .rhs => q.2.1 | .res => q.2.2.1 | .fact => q.2.2.2

/-- A lane result in storage: its value there, and whether it would saturate in the narrow format (R302, R305). -/
def LaneProblem.keep (p : LaneProblem) (k : WordKind) (row : Nat) (x : F64) : F64 × Bool :=
  let r := Q.store (expOf p.qfmt p.blockOf k row) x
  if p.wide then (x, r.2) else r

/-- A pivot in storage. -/
def LaneProblem.keepPivot (p : LaneProblem) (row : Nat) (x : F64) : F64 × Bool :=
  let r := Q.storePivot (expOf p.qfmt p.blockOf .fact row) x
  if p.wide then (x, r.2) else r

/-- What a stored result does to the run: a saturation ends it in narrow storage, a result that is not finite in wide (R304, R306). -/
inductive LaneEnd where | none | breach | nonFinite
deriving DecidableEq, Repr

def LaneProblem.endOf (p : LaneProblem) (x : F64) (saturates : Bool) : LaneEnd :=
  if p.wide then (if F64.isFinite x then .none else .nonFinite) else if saturates then .breach else .none

/-- An entry of the stored matrix, 0 where the pattern has none. -/
def LaneProblem.entry (p : LaneProblem) (i j : Nat) : F64 :=
  ((p.mat.find? (fun e => decide (e.1 = (min i j, max i j)))).map Prod.snd).getD 0

def LaneProblem.rhsAt (p : LaneProblem) (i : Nat) : F64 := ((p.rhs.find? (fun e => decide (e.1 = i))).map Prod.snd).getD 0

/-! ## Iterates: x, then s, then λ -/

def LaneProblem.xOf (p : LaneProblem) (z : List F64) (i : Nat) : F64 := if i < p.n then z.getD i 0 else 0
def LaneProblem.sOf (p : LaneProblem) (z : List F64) (k : Nat) : F64 := z.getD (p.n + k) 0
def LaneProblem.lamOf (p : LaneProblem) (z : List F64) (k : Nat) : F64 := z.getD (p.n + p.m + k) 0

/-- Euclidean norm. -/
def norm2 (l : List F64) : F64 := F64.sqrt (F64.sum (l.map F64.sq))

/-- Row i of the product of the stored matrix with (x, λ), the diagonal of the inequality rows left out. -/
def LaneProblem.product (p : LaneProblem) (z : List F64) (i : Nat) : F64 :=
  let v := fun (j : Nat) => if j < p.n then p.xOf z j else p.lamOf z (j - p.n)
  F64.sum (p.mat.filterMap (fun e =>
    if e.1.1 = i ∧ (e.1.2 ≠ i ∨ i < p.n) then some (F64.mul e.2 (v e.1.2))
    else if e.1.2 = i ∧ e.1.1 ≠ i then some (F64.mul e.2 (v e.1.1)) else none))

/-- The dual residual: right-hand side less P x + Gᵀ λ. -/
def LaneProblem.dual (p : LaneProblem) (z : List F64) : List F64 := (List.range p.n).map (fun i => F64.sub (p.rhsAt i) (p.product z i))

/-- The primal residual: right-hand side less G x + s. -/
def LaneProblem.primal (p : LaneProblem) (z : List F64) : List F64 :=
  (List.range p.m).map (fun k => F64.sub (F64.sub (p.rhsAt (p.n + k)) (p.product z (p.n + k))) (p.sOf z k))

/-- The merit of an iterate (R307). -/
def LaneProblem.merit (p : LaneProblem) (z : List F64) : F64 :=
  F64.add (F64.add (norm2 (p.primal z)) (norm2 (p.dual z))) (F64.sum ((List.range p.m).map (fun k => F64.mul (p.sOf z k) (p.lamOf z k))))

/-- ‖λ‖₂ of an iterate. -/
def LaneProblem.lamNorm (p : LaneProblem) (z : List F64) : F64 := norm2 ((List.range p.m).map (p.lamOf z))

/-- The true residual norm of a LINEAR solve (R308). -/
def LaneProblem.residual (p : LaneProblem) (x : List F64) : F64 := norm2 (p.dual x)

/-- An entry of K(z), at or above the diagonal: the stored matrix, with −s/λ on the diagonal of the inequality rows. -/
def LaneProblem.kkt (p : LaneProblem) (z : List F64) (i j : Nat) : F64 :=
  if i = j ∧ p.n ≤ i then F64.sub (p.entry i i) (F64.div (p.sOf z (i - p.n)) (p.lamOf z (i - p.n))) else p.entry i j

/-! ## Factorisation (R302, R309 to R311) -/

/-- A factorisation in progress or complete: D and the columns of L as they are stored, replacements, column of the last one, whether a word
would have saturated narrow, whether it was abandoned at the pivot limit, how it ended. -/
structure Factor where
  d : List F64 := []
  l : List ((Nat × Nat) × F64) := []
  floors : Nat := 0
  floorCol : Nat := 0
  clash : Bool := false
  abandoned : Bool := false
  ended : LaneEnd := .none
deriving DecidableEq, Repr

def Factor.lAt (f : Factor) (i j : Nat) : Option F64 := (f.l.find? (fun e => decide (e.1 = (i, j)))).map Prod.snd

/-- A K entry less what the columns before j contribute: Σ L_ik L_jk d_k. -/
def Factor.reduce (f : Factor) (i j : Nat) (k0 : F64) : F64 :=
  (f.d.zipIdx).foldl (fun acc e => match f.lAt i e.2, f.lAt j e.2 with
    | some a, some b => F64.sub acc (F64.mul (F64.mul a b) e.1)
    | _, _ => acc) k0

/-- A stored word of a column: the factor with it, or ended. -/
def LaneProblem.storeWord (p : LaneProblem) (f : Factor) (x : F64) (r : F64 × Bool) (put : Factor → F64 → Factor) : Factor :=
  if f.ended ≠ .none then f
  else { put f r.1 with clash := f.clash || r.2, ended := p.endOf x r.2 }

/-- The pivot that stands for a computed one, and whether it is a replacement (R309). -/
def floorPivot (floor d : F64) : F64 × Bool :=
  if F64.isZero d then (floor, true) else if F64.lt (F64.abs d) floor then (if F64.signBit d then F64.neg floor else floor, true) else (d, false)

/-- Column j (R309 to R311): the pivot test comes before the column's words are stored. -/
def LaneProblem.column (p : LaneProblem) (z : List F64) (floor : F64) (limit : Nat) (f : Factor) (j : Nat) : Factor :=
  if f.abandoned ∨ f.ended ≠ .none then f
  else
    let piv := floorPivot floor (f.reduce j j (p.kkt z j j))
    if piv.2 ∧ limit < f.floors + 1 then { f with abandoned := true }
    else
      let g := if piv.2 then { f with floors := f.floors + 1, floorCol := j } else f
      let below := (p.fill.filter (fun e => decide (e.2 = j ∧ j < e.1))).map (fun e =>
        (e.1, F64.div (g.reduce e.1 j (p.kkt z (min e.1 j) (max e.1 j))) piv.1))
      let h := p.storeWord g piv.1 (p.keepPivot j piv.1) (fun a v => { a with d := a.d ++ [v] })
      below.foldl (fun a e => p.storeWord a e.2 (p.keep .fact e.1 e.2) (fun b v => { b with l := b.l ++ [((e.1, j), v)] })) h

/-- The pivot floor: 2^(−PIVOT_EXP) times the largest diagonal magnitude (R309). -/
def LaneProblem.floorOf (p : LaneProblem) (z : List F64) (pivotExp : Nat) : F64 :=
  let big := F64.maximum ((List.range p.dim).map (fun i => F64.abs (p.kkt z i i))) 0
  F64.div big (F64.ofInt (2 ^ pivotExp))

/-- The incomplete LDLᵀ factorisation of K(z) on the fixed fill. -/
def LaneProblem.factorise (p : LaneProblem) (z : List F64) (pivotExp limit : Nat) : Factor :=
  (List.range p.dim).foldl (p.column z (p.floorOf z pivotExp) limit) {}

/-! ## Runs (R307, R308, R313) -/

/-- How a run ended; `cut`: it had not ended when the trace did. -/
inductive RunEnd where | cut | converged | stopped | infeasible | breach | nonFinite
deriving DecidableEq, Repr

/-- A run: the present iterate, the best one and its merit, Newton steps and MINRES iterations done, replacements of the last factorisation,
its last column, replacements in all, whether the pivot limit was exceeded, the factor stored last, whether a word would have saturated
narrow, Newton steps since the primal residual was last within TOL_OUTER, how it ended. -/
structure Run where
  z : List F64
  best : List F64
  bestM : F64
  newton : Nat := 0
  inner : Nat := 0
  floors : Nat := 0
  floorCol : Nat := 0
  floorsAll : Nat := 0
  diagonal : Bool := false
  factor : Option (List F64) := none
  clash : Bool := false
  high : Nat := 0
  ended : RunEnd := .cut
deriving DecidableEq, Repr

/-- Limits of a run: steps, MINRES iterations, tolerances, pivot exponent and limit. -/
structure RunLimits where
  maxNewton : Nat
  maxInner : Nat
  tolOuter : F64
  tolInner : F64
  pivotExp : Nat
  pivotLimit : Nat
deriving DecidableEq, Repr

/-- The factorisation of one step: skipped with a kept factor or after an abandonment (R310, R314). -/
def Run.factorStep (r : Run) (p : LaneProblem) (lim : RunLimits) (kept : Bool) : Run :=
  if kept || r.diagonal then r
  else
    let f := p.factorise r.z lim.pivotExp lim.pivotLimit
    let t := { r with floors := f.floors, floorCol := f.floorCol, floorsAll := r.floorsAll + f.floors, clash := r.clash || f.clash }
    match f.ended with
    | .breach => { t with ended := .breach }
    | .nonFinite => { t with ended := .nonFinite }
    | .none => if f.abandoned then { t with diagonal := true } else { t with factor := some (f.d ++ f.l.map Prod.snd) }

/-- MINRES iterations until ‖r‖₂ ≤ TOL_INNER ‖b‖₂, at most MAX_INNER (R307). -/
def innerCount (lim : RunLimits) (bNorm : F64) : List F64 → Nat → Nat
  | [], done => done
  | r :: t, done =>
    if lim.maxInner ≤ done then done
    else if F64.le r (F64.mul lim.tolInner bNorm) then done + 1 else innerCount lim bNorm t (done + 1)

/-- The distance to the boundary of the cone of slacks and multipliers along a direction; none where there is no boundary. -/
def LaneProblem.distance (p : LaneProblem) (z d : List F64) : Option F64 :=
  (List.range (2 * p.m)).foldl (fun (b : Option F64) k =>
    let v := z.getD (p.n + k) 0
    let w := d.getD (p.n + k) 0
    if F64.lt w F64.zero then
      let a := F64.div v (F64.neg w)
      match b with
      | none => some a
      | some x => some (F64.min x a)
    else b) none

/-- The length of a step: 0.995 of the distance to the boundary, at most the whole direction (R307). -/
def stepLength (dist : Option F64) : F64 :=
  match dist with
  | none => F64.ofNat 1
  | some a => F64.min (F64.ofNat 1) (F64.mul (F64.ofRat 995 1000) a)

/-- The KKT row whose block stores element k of an iterate. -/
def LaneProblem.rowOf (p : LaneProblem) (k : Nat) : Nat := if k < p.n + p.m then k else k - p.m

/-- An iterate put into storage: its words, whether one would saturate narrow, how that ends the run. -/
def LaneProblem.storeIterate (p : LaneProblem) (z : List F64) : List F64 × Bool × LaneEnd :=
  let w := z.zipIdx.map (fun e => (p.keep .res (p.rowOf e.2) e.1, e.1))
  let ends := w.map (fun e => p.endOf e.2 e.1.2)
  (w.map (fun e => e.1.1), w.any (fun e => e.1.2),
   if ends.contains .breach then .breach else if ends.contains .nonFinite then .nonFinite else .none)

/-- A candidate iterate of a run with its merit or residual norm. -/
def Run.offer (r : Run) (z : List F64) (m : F64) : Run :=
  if F64.lt m r.bestM then { r with z := z, best := z, bestM := m } else { r with z := z }

/-- The step z + α d, the merit of what is then stored, and the tests of R307 and R313; `lam0` is ‖λ‖₂ of iterate 0. -/
def Run.takeStep (r : Run) (p : LaneProblem) (lim : RunLimits) (lam0 : F64) (d : List F64) : Run :=
  let a := stepLength (p.distance r.z d)
  let raw := r.z.zipIdx.map (fun e => F64.add e.1 (F64.mul a (d.getD e.2 0)))
  let w := p.storeIterate raw
  let t := { r with clash := r.clash || w.2.1 }
  match w.2.2 with
  | .breach => { t with ended := .breach }
  | .nonFinite => { t with ended := .nonFinite }
  | .none =>
    let m := p.merit w.1
    if p.wide && !F64.isFinite m then { t with ended := .nonFinite }
    else
      let rp := norm2 (p.primal w.1)
      let u : Run := { t.offer w.1 m with newton := r.newton + 1, high := if F64.lt lim.tolOuter rp then r.high + 1 else 0 }
      if F64.le m lim.tolOuter then { u with ended := .converged, best := w.1, bestM := m }
      else if decide (3 ≤ u.high) && F64.lt (F64.mul (F64.ofNat 1000000) lam0) (p.lamNorm w.1) then { u with ended := .infeasible }
      else if lim.maxNewton ≤ u.newton then { u with ended := .stopped }
      else u

/-- One Newton step (R307). -/
def Run.newtonStep (r : Run) (p : LaneProblem) (lim : RunLimits) (lam0 : F64) (kept : Bool) (st : NewtonStep) : Run :=
  if r.ended ≠ .cut then r
  else
    let f := r.factorStep p lim (kept && decide (r.newton = 0))
    if f.ended ≠ .cut then f
    else ({ f with inner := f.inner + innerCount lim st.bNorm st.residuals 0 }).takeStep p lim lam0 st.dir

/-- A run at iterate 0 (R312, R313). -/
def LaneProblem.start (p : LaneProblem) (linear : Bool) (z : List F64) : Run :=
  { z := z, best := z, bestM := if linear then p.residual z else p.merit z }

/-- One inner iterate of a LINEAR run (R308, R313). -/
def Run.innerStep (r : Run) (p : LaneProblem) (lim : RunLimits) (bNorm : F64) (x : List F64) : Run :=
  if r.ended ≠ .cut then r
  else
    let w := p.storeIterate x
    let t := { r with clash := r.clash || w.2.1 }
    match w.2.2 with
    | .breach => { t with ended := .breach }
    | .nonFinite => { t with ended := .nonFinite }
    | .none =>
      let m := p.residual w.1
      let u : Run := { t.offer w.1 m with inner := r.inner + 1 }
      if F64.le m (F64.mul lim.tolInner bNorm) then { u with ended := .converged, best := w.1, bestM := m }
      else if lim.maxInner ≤ u.inner then { u with ended := .stopped }
      else u

/-- The run that a trace gives from iterate 0 (R313): Newton steps, or one factorisation and inner iterates. A step that the trace does not
give leaves the iterate where it is; `whole` says that the run goes to its end, else it stops with the trace and, unless the deadline fell
inside it, the factorisation after its last step. -/
def LaneProblem.run (p : LaneProblem) (linear : Bool) (lim : RunLimits) (z : List F64) (kept whole inFactor : Bool) (tr : SolveTrace) : Run :=
  let r0 := p.start linear z
  if linear then
    let f := if inFactor && !whole then r0 else r0.factorStep p lim kept
    let b := norm2 ((List.range p.n).map p.rhsAt)
    let its := if whole then tr.inner ++ List.replicate (lim.maxInner - tr.inner.length) (tr.inner.getLastD z) else tr.inner
    its.foldl (fun r x => r.innerStep p lim b x) f
  else
    let lam0 := p.lamNorm z
    let blank : NewtonStep := { residuals := [], bNorm := 0, dir := [] }
    let sts := if whole then tr.steps ++ List.replicate (lim.maxNewton - tr.steps.length) blank else tr.steps
    let r := sts.foldl (fun r st => r.newtonStep p lim lam0 kept st) r0
    if whole || inFactor || r.ended ≠ .cut then r else r.factorStep p lim (kept && decide (r.newton = 0))

end Sys2Proof.Machine
end

