-- ==== Sys2Proof/Machine/Solver.lean ====
section
/-! DEFINITION. The solver engine (R295 to R321): slots, dies, posting, feed, runs, the deadline, wide mode, collection, the hatch library.
What a run computes is Machine/Lane.lean, from what the lanes gave. -/

namespace Sys2Proof.Machine

def State.slotRun (s : State) (c : Nat) : CtxSlot := storeGet s.solv.slots c {}

def State.setSlotRun (s : State) (c : Nat) (x : CtxSlot) : State :=
  { s with solv := { s.solv with slots := storeSet s.solv.slots c x {} } }

def State.die (s : State) (d : Nat) : DieState := storeGet s.solv.dies d {}

def State.setDie (s : State) (d : Nat) (x : DieState) : State :=
  { s with solv := { s.solv with dies := storeSet s.solv.dies d x {} } }

def State.hatchEntry (s : State) (e : Nat) : HatchEntry := storeGet s.solv.entries e {}

def State.setEntry (s : State) (e : Nat) (x : HatchEntry) : State :=
  { s with solv := { s.solv with entries := storeSet s.solv.entries e x {} } }

/-- A compute die is healthy. -/
def State.dieOk (s : State) (d : Nat) : Bool := bitAt (s.get Reg.SOLV_STAT_DIE_OK) d

/-- The die of context 0: the first healthy one (R297). -/
def State.ctxZeroDie (s : State) : Nat := ((List.range s.variant.dies).find? s.dieOk).getD 0

/-- The die of a context (R296, R297). -/
def State.ctxDie (s : State) (c : Nat) : Nat := if c = 0 then s.get Reg.SOLV_STAT_CTX0_DIE else c % max 1 s.variant.dies

/-- OWNER of a slot: 0 free, 1 allocation, 2 user (R295). -/
def State.slotOwner (s : State) (c : Nat) : Nat :=
  if c = 0 ∧ s.allocOn = true ∨ c ≠ 0 ∧ s.flag Reg.ALLOC_CTX_CFG_ENABLE c = true then 1
  else if s.flag Reg.SOLV_SLOT_CFG_USER_EN c then 2 else 0

/-- The Jesuwald allocation hatch of ENTRY_0 (R263, R298, R300): at most 24 Newton steps; what the manual does not state of it is free (log
entry 45). -/
def factoryHatch : Hatch :=
  { hdr := { kind := 2, id := 0, n := 67, m := 232, blocks := Config.allocFormats.length, maxNewton := Config.allocSteps.1 % 24 + 1,
             maxInner := Config.allocSteps.2 % 1024 + 1, costNs := 781250, wideNs := 1562500, tolOuter := Config.allocTols.1,
             tolInner := Config.allocTols.2, length := 0 },
    svn := 0, qfmt := Config.allocFormats,
    desc := { keyHash := 0, fill := Config.allocFill, blockOf := Config.allocBlocks,
              feed := Config.allocTargets.map (fun e => if e.1 then .matrix e.2.1 e.2.2 else .rhs e.2.1),
              bindIn := [], bindOut := [], defaults := Config.allocDefaults } }

/-- The hatch of a slot bound to a user hatch. -/
def State.userHatch (s : State) (c : Nat) : Option Hatch :=
  let e := s.hatchEntry (s.get Reg.SOLV_SLOT_CFG_ENTRY c)
  if 3 ≤ e.state then e.desc else none

/-- Slots bound to a user hatch, in rising order (R318). -/
def State.userSlots (s : State) : List Nat :=
  (s.instancesOf Reg.SOLV_SLOT_CFG_USER_EN).filter (fun c => decide (s.slotOwner c = 2) && (s.userHatch c).isSome)

/-- The hatch that a posted context runs: the user hatch it was posted with, else the allocation hatch. -/
def State.hatchOf (s : State) (c : Nat) : Hatch :=
  (((storeFind s.solv.bound c).bind (fun e => (s.hatchEntry e).desc))).getD factoryHatch

/-- Wide slots of a die that are taken (R305). -/
def State.wideTaken (s : State) (d : Nat) : Nat := (s.solv.slots.filter (fun e => e.2.wide && decide (s.ctxDie e.1 = d))).length

/-! ## Flags of R321 -/

/-- Set a bit of the FLAGS of a slot. -/
def CtxSlot.mark (x : CtxSlot) (bit : Nat) : CtxSlot := if bitAt x.flags bit then x else { x with flags := x.flags + 2 ^ bit }

/-! ## Starting (R296, R303, R306, R312) -/

/-- The slow-corner cost of iterate 0 of a context. -/
def State.iterZero (s : State) (c : Nat) : Nat :=
  Config.iterateZeroNs (s.hatchOf c).hdr.id

/-- A posted context that is not started returns NOT_RUN (R312). -/
def State.notRun (s : State) (c : Nat) : State := (s.setSlotRun c { s.slotRun c with status := 6 }).raise 0x0B06

/-- The problem of a posted context as it lies in storage. -/
def State.laneProblem (s : State) (c : Nat) : LaneProblem :=
  let h := s.hatchOf c
  let fed := h.desc.feed.zip (s.slotRun c).resident
  { n := h.hdr.n, m := h.hdr.m,
    mat := fed.filterMap (fun e => match e.1 with | .matrix r k => some ((r, k), e.2) | .rhs _ => none),
    rhs := fed.filterMap (fun e => match e.1 with | .rhs r => some (r, e.2) | .matrix _ _ => none),
    fill := h.desc.fill, blockOf := h.desc.blockOf, qfmt := h.qfmt, wide := (s.slotRun c).wide }

/-- PIVOT_EXP and PIVOT_LIMIT: derived at basic level (R58). -/
def State.pivotExp (s : State) : Nat := if s.expert 14 then s.get Reg.SOLV_CFG_PIVOT_EXP else 40
def State.pivotLimit (s : State) : Nat := if s.expert 14 then s.get Reg.SOLV_CFG_PIVOT_LIMIT else 4

/-- The limits of a context's run: those of its hatch and of SOLV_CFG. -/
def State.runLimits (s : State) (c : Nat) : RunLimits :=
  let h := (s.hatchOf c).hdr
  { maxNewton := h.maxNewton, maxInner := h.maxInner, tolOuter := F64.ofF32 h.tolOuter, tolInner := F64.ofF32 h.tolInner,
    pivotExp := s.pivotExp, pivotLimit := s.pivotLimit }

/-- Whether a hatch is LINEAR (R299). -/
def Hatch.linear (h : Hatch) : Bool := decide (h.hdr.kind = 1)

/-- The values that the poster sends, by feed index (R301): the inputs that a user hatch binds, as captured at t_h(k), over what is resident
(R318); the formed problem of an allocation context. -/
def State.feedValues (s : State) (c : Nat) : List F64 :=
  let h := s.hatchOf c
  let old := (s.slotRun c).resident
  if (storeFind s.solv.bound c).isSome then
    let vals := (h.desc.bindIn.map Prod.snd).zip (storeGet s.solv.holdIn c [])
    (List.range h.desc.feed.length).map (fun k => match vals.find? (fun e => decide (e.1 = k)) with
      | some e => F64.ofF32 e.2
      | none => old.getD k 0)
  else match s.alloc.post with
    | some p => Config.allocFeed (s.allocProblem p c).numbers
    | none => old

/-- The row and kind of a feed target. -/
def feedPlace : FeedTarget → WordKind × Nat
  | .matrix r _ => (.mat, r)
  | .rhs r => (.rhs, r)

/-- A feed value in the storage of its row block, and whether it saturates in the narrow format (R301, R306). -/
def feedWord (h : Hatch) (t : FeedTarget) (wide : Bool) (x : F64) : F64 × Bool :=
  let r := Q.store (expOf h.qfmt h.desc.blockOf (feedPlace t).1 (feedPlace t).2) x
  if wide then (x, r.2) else r

/-- The values of a feed in storage, and whether one of them saturates narrow. -/
def feedWords (h : Hatch) (wide : Bool) (vals : List F64) : List F64 × Bool :=
  let w := (h.desc.feed.zip vals).map (fun e => feedWord h e.1 wide e.2)
  (w.map Prod.fst, w.any Prod.snd)

/-- The iterate from which a context starts: its warm start, or DEFAULTS (R303). -/
def State.startIterate (s : State) (c : Nat) : List F64 := (s.slotRun c).warm.getD (s.hatchOf c).desc.defaults

/-- Whether an iterate fits the narrow formats of its hatch (R305). -/
def State.fitsNarrow (s : State) (c : Nat) (z : List F64) : Bool :=
  !(({ s.laneProblem c with wide := false }).storeIterate z).2.1

/-- Feed of a context before its run (R301, R303, R306): the values and the warm start go into storage; one that saturates breaches, takes a
free wide slot or leaves the context narrow. -/
def State.feed (s : State) (c : Nat) : State :=
  let x := s.slotRun c
  let h := s.hatchOf c
  let x := if x.warm.isNone then x.mark 5 else x
  let x := if x.keptPending ∧ x.factor.isSome then x.mark 4 else x
  let vals := s.feedValues c
  let sat := (feedWords h false vals).2 || !s.fitsNarrow c (s.startIterate c)
  let put := fun (y : CtxSlot) => { y with resident := (feedWords h y.wide vals).1, clash := sat }
  if x.wide then s.setSlotRun c (put (x.mark 1))
  else if !sat then s.setSlotRun c (put x)
  else
    let t := (s.count Reg.SOLV_EVT_CNT_BREACH_CNT).raise 0x0B04
    if t.wideTaken (t.ctxDie c) < 2 then t.setSlotRun c (put { (x.mark 0).mark 1 with wide := true, wideClean := 0 })
    else (t.setSlotRun c (put ((x.mark 0).mark 6))).raise 0x0B05

/-- The next context of a die's list that can start before the deadline. -/
def State.startList (s : State) (d dl : Nat) : List Nat → State
  | [] => s.setDie d { s.die d with list := [], running := none, rerun := false }
  | c :: t =>
    if s.now + s.iterZero c ≤ dl then
      (s.setDie d { s.die d with list := t, running := some c, rerun := false }).feed c
    else (s.notRun c).startList d dl t

/-- A wide re-run holds its words in binary64 (R304). -/
def State.refeedWide (s : State) (c : Nat) : State :=
  let x := s.slotRun c
  s.setSlotRun c { x.mark 1 with resident := (feedWords (s.hatchOf c) true (s.feedValues c)).1 }

/-- The next wide re-run of a die (R304). -/
def State.startRerun (s : State) (d dl : Nat) : List Nat → State
  | [] => s.setDie d { s.die d with reruns := [], running := none, rerun := false }
  | c :: t =>
    if s.now + s.iterZero c ≤ dl then
      (s.setDie d { s.die d with reruns := t, running := some c, rerun := true }).refeedWide c
    else
      let x := s.slotRun c
      (s.setSlotRun c { x with status := 1, iterate := x.keptNarrow }).startRerun d dl t

/-- A die takes its next context: the narrow list, then the queued re-runs. -/
def State.dieNext (s : State) (d : Nat) : State :=
  match s.solv.deadline with
  | none => s
  | some dl =>
    if s.dieOk d then
      let t := s.startList d dl (s.die d).list
      if (t.die d).running.isNone then t.startRerun d dl (t.die d).reruns else t
    else s

/-- Posting (R263, R276, R295 to R297, R318): allocation contexts and bound user slots; every die starts. -/
def State.solvPost (s : State) (alloc : List Nat) : State :=
  let s := s.set Reg.SOLV_STAT_CTX0_DIE s.ctxZeroDie
  let user := s.userSlots
  let posted := (alloc ++ user.filter (fun c => !alloc.contains c))
  let s := s.set Reg.SOLV_STAT_POSTED posted.length
  let s := posted.foldl (fun t c =>
    t.setSlotRun c { t.slotRun c with status := 6, iterate := none, keptNarrow := none, posted := true, forget := false, clash := false, newton := 0, inner := 0,
                                      flags := 128 + (if user.contains c then 256 else 0) }) s
  let listOf := fun (d : Nat) =>
    let l := (List.range s.variant.contexts).filter (fun c => posted.contains c && decide (s.ctxDie c = d))
    l
  let start := s.trough.closedTh.getD s.bnd
  let dl := start + s.th - s.get Reg.SOLV_CFG_SOLVE_RESERVE * 1000
  let s := { s with solv := { s.solv with deadline := some dl, bound := user.map (fun c => (c, s.get Reg.SOLV_SLOT_CFG_ENTRY c)),
                                          dies := (List.range s.variant.dies).map (fun d => (d, { list := listOf d })) } }
  (List.range s.variant.dies).foldl State.dieNext s

/-! ## Ends of runs (R304, R305, R309 to R315) -/

/-- The run of a context as its trace gives it, from its start iterate in storage (R303, R313, R314). -/
def State.runOf (s : State) (c : Nat) (tr : SolveTrace) (whole inFactor : Bool) : Run :=
  let p := s.laneProblem c
  let x := s.slotRun c
  p.run (s.hatchOf c).linear (s.runLimits c) (p.storeIterate (s.startIterate c)).1 (x.keptPending && x.factor.isSome) whole inFactor tr

/-- What a run leaves in its slot before its status (R309, R310, R313, R321). -/
def State.noteRun (s : State) (c : Nat) (r : Run) (timeNs : Nat) (inFactor : Bool) : State :=
  let x := s.slotRun c
  let y := { x with newton := r.newton, inner := r.inner, merit := r.bestM, floors := r.floors, floorCol := r.floorCol, timeNs := timeNs,
                    factor := r.factor.or x.factor, keptPending := inFactor, clash := x.clash || r.clash }
  let y := if r.diagonal then y.mark 2 else y
  let y := if r.floorsAll ≠ 0 then y.mark 3 else y
  let t := (s.setSlotRun c y).set Reg.SOLV_FLOOR_CNT_COUNT (min 4294967295 (s.get Reg.SOLV_FLOOR_CNT_COUNT + r.floorsAll))
  if r.diagonal then t.raise 0x0B03 else t

/-- A run returns an iterate with a status, raised to 2 after a pivot-limit abandonment (R315). -/
def State.returnIterate (s : State) (c status : Nat) (it : List F64) : State :=
  let x := s.slotRun c
  s.setSlotRun c { x with status := if bitAt x.flags 2 then max status 2 else status, iterate := some it }

/-- A saturation in narrow storage (R304, R305): the best iterate is kept; a wide slot and a re-run, or the kept iterate is returned. -/
def State.breachRun (s : State) (c d : Nat) (best : List F64) : State :=
  let s := (s.setSlotRun c { (s.slotRun c).mark 0 with keptNarrow := some best }).count Reg.SOLV_EVT_CNT_BREACH_CNT
  let s := s.raise 0x0B04
  let x := s.slotRun c
  if s.wideTaken d < 2 then
    (s.setSlotRun c { x with wide := true, wideClean := 0 }).setDie d { s.die d with reruns := (s.die d).reruns ++ [c] }
  else (s.setSlotRun c { x.mark 6 with status := if bitAt x.flags 2 then 2 else 1, iterate := some best }).raise 0x0B05

/-- An infeasible run, or a non-finite result in wide mode (R306, R307, R315). -/
def State.infeasibleRun (s : State) (c : Nat) : State :=
  (s.setSlotRun c { s.slotRun c with status := 5, iterate := none }).raise 0x0B08

/-- What the end of a run comes to (R304 to R307, R313). -/
def State.endRun (s : State) (c d : Nat) (r : Run) : State :=
  match r.ended with
  | .converged => s.returnIterate c 0 r.best
  | .stopped | .cut => s.returnIterate c 1 r.best
  | .infeasible | .nonFinite => s.infeasibleRun c
  | .breach => s.breachRun c d r.best

/-- The die that runs a context. -/
def State.dieRunning (s : State) (c : Nat) : Option Nat :=
  (List.range s.variant.dies).find? (fun d => decide ((s.die d).running = some c))

/-- SOLVE_CONTEXT_END (R313): the context that a die runs ends its run, and the die takes its next. -/
def State.contextEnd (s : State) (r : SolveReport) : State :=
  match s.dieRunning r.ctx with
  | none => s
  | some d =>
    let run := s.runOf r.ctx r.trace true false
    let t := (s.noteRun r.ctx run r.timeNs false).setDie d { s.die d with running := none, rerun := false }
    (t.endRun r.ctx d run).dieNext d

/-- One run cut at the deadline (R313, R314): a run that its trace brings to an end had ended before. -/
def State.cutRun (s : State) (c d : Nat) (k : Option CutRun) : State :=
  let inF := (k.map CutRun.inFactor).getD false
  let run := s.runOf c ((k.map CutRun.trace).getD { steps := [], inner := [] }) false inF
  let time := (k.map CutRun.timeNs).getD 0
  if run.ended ≠ .cut then (s.noteRun c run time false).endRun c d run
  else
    let t := (((s.noteRun c run time inF).count Reg.SOLV_EVT_CNT_DEADLINE_CNT).raise (if inF then 0x0B02 else 0x0B01))
    t.setSlotRun c { t.slotRun c with status := if inF then 4 else 3, iterate := some run.best }

/-- The deadline on one die: its run is cut, its waiting contexts return NOT_RUN, its waiting re-runs their kept iterate. -/
def State.deadlineDie (s : State) (cuts : List CutRun) (d : Nat) : State :=
  let x := s.die d
  let s := match x.running with
    | some c => s.cutRun c d (cuts.find? (fun k => decide (k.ctx = c)))
    | none => s
  let s := x.list.foldl State.notRun s
  let s := (s.die d).reruns.foldl (fun t c =>
    match (t.slotRun c).keptNarrow with
    | some it => t.returnIterate c 1 it
    | none => t) s
  s.setDie d {}

/-- SOLVE_DEADLINE (R312, R313): time passes to the deadline. -/
def State.solveDeadline (s : State) (cuts : List CutRun) : State :=
  match s.solv.deadline with
  | none => s
  | some dl =>
    let s := (List.range s.variant.dies).foldl (fun t d => t.deadlineDie cuts d) (s.advanceTo dl)
    { s with solv := { s.solv with deadline := none } }

/-- WIDE_RETURN (R305): a warm start that does not fit the narrow formats keeps the context wide. -/
def State.wideReturn (s : State) (c : Nat) : State :=
  let x := s.slotRun c
  if x.wide ∧ s.get Reg.SOLV_CFG_WIDE_HOLD ≤ x.wideClean ∧ x.warm.all (s.fitsNarrow c) = true then
    (s.setSlotRun c { x with wide := false, wideClean := 0 }).raise 0x0B0A
  else s

/-- A die leaves the solve: DIE_OK drops, and what it had to do returns NOT_RUN (R297). -/
def State.dieLost (s : State) (d : Nat) : State :=
  let ok := s.get Reg.SOLV_STAT_DIE_OK
  let x := s.die d
  let t := (x.running.toList ++ x.list ++ x.reruns).foldl
    (fun t c => t.setSlotRun c { t.slotRun c with status := 6, iterate := none, keptNarrow := none })
    (s.set Reg.SOLV_STAT_DIE_OK (if bitAt ok d then ok - 2 ^ d else ok))
  t.setDie d {}

/-- COMPUTE_DIE_FAULT (R297, R342). -/
def State.dieFault (s : State) (d : Nat) (cause : FaultCause) : State :=
  if s.variant.dies ≤ d then s else (((s.markCause cause).dieLost d).raise 0x0B07).healthCheck

/-! ## Collection (R283, R303, R315, R318, R321) -/

/-- The returned iterate of every posted context that has one (R315). -/
def State.returned (s : State) : Store (List F64) :=
  s.solv.slots.filterMap (fun e => if e.2.posted ∧ e.2.status < 5 then e.2.iterate.map (fun it => (e.1, it)) else none)

/-- The points of a slot at a collection (R321). -/
def State.solvPoints (s : State) (c : Nat) : State :=
  let b := 0xE4000 + 8 * c
  let x := s.slotRun c
  if x.posted then
    let s := s.putAll [(b, x.status), (b + 1, x.flags), (b + 2, x.newton), (b + 3, x.inner), (b + 5, x.floors), (b + 6, x.floorCol)]
    (s.putF (b + 4) x.merit).putF (b + 7) (F64.ofRat x.timeNs 1000)
  else s.putGood b 6

/-- One slot after a collection (R303, R305): its returned iterate is its next warm start; a context that was not posted, NOT_RUN or
INFEASIBLE has none, nor has one whose descriptor or binding changed; a wide context counts the hold cycles without a clash. -/
def CtxSlot.settle (x : CtxSlot) : CtxSlot :=
  { x with posted := false, iterate := none, keptNarrow := none, forget := false,
           warm := if x.posted && decide (x.status < 5) && !x.forget then x.iterate else none,
           wideClean := if x.wide then (if x.clash then 0 else x.wideClean + 1) else 0 }

/-- Every slot after a collection; wide contexts that have held long enough return to narrow storage (R305). -/
def State.solvSettle (s : State) : State :=
  let t : State := { s with solv := { s.solv with slots := s.solv.slots.foldl (fun st e => storeSet st e.1 e.2.settle {}) [] } }
  (t.solv.slots.filter (fun e => e.2.wide)).foldl (fun u e => u.wideReturn e.1) t

/-- Results of a user hatch at t_h(k+1) (R318). -/
def State.userResults (s : State) (c : Nat) : State :=
  match (storeFind s.solv.bound c).bind (fun e => (s.hatchEntry e).desc) with
  | none => s
  | some h =>
    let x := s.slotRun c
    let it := x.iterate.getD []
    h.desc.bindOut.foldl (fun t e =>
      if !t.blockWritable e.2 then t
      else if 5 ≤ x.status then t.putQuality e.2 (qual 0x0B)
      else t.putF e.2 (it.getD e.1 0) (if x.status = 0 then qual 0 else qual 0x07)) s

/-- The solver at a hold boundary before the allocation block collects: nothing runs past the deadline; results of user hatches, points,
RETURNED. -/
def State.solvCollect (s : State) : State :=
  let s := s.solveDeadline []
  let s := s.set Reg.SOLV_STAT_RETURNED s.returned.length
  let posted := (s.solv.slots.filter (fun e => e.2.posted)).map Prod.fst
  let s := posted.foldl State.userResults s
  (List.range s.variant.contexts).foldl State.solvPoints s

/-- The inputs of user hatches as committed before t_h(k) (R318). -/
def State.userSnapshot (s : State) : State :=
  { s with solv := { s.solv with holdIn := s.userSlots.map (fun c =>
      (c, ((s.userHatch c).map (fun h => h.desc.bindIn.map (fun e => (s.point e.1).value))).getD [])) } }

/-- A change of a descriptor or of a binding: the next run starts from DEFAULTS (R303). -/
def State.forgetWarm (s : State) (c : Nat) : State :=
  let x := s.slotRun c
  s.setSlotRun c { x with warm := none, forget := x.posted }

/-- A slot whose binding changes holds nothing of its former hatch. -/
def State.rebind (s : State) (c : Nat) : State :=
  s.setSlotRun c { s.slotRun c with warm := none, forget := (s.slotRun c).posted, resident := [], factor := none, keptPending := false }

/-- Every restart and every hardware reset (R320). -/
def State.solvRestart (s : State) : State :=
  { s with solv := { s.solv with slots := [], dies := [], deadline := none, holdIn := [] } }

/-! ## The hatch library (R298 to R300) -/

/-- A slot uses an entry. -/
def State.entryUsed (s : State) (e : Nat) : Bool :=
  (s.instancesOf Reg.SOLV_SLOT_CFG_USER_EN).any (fun c => decide (s.get Reg.SOLV_SLOT_CFG_ENTRY c = e))

/-- Bytes of the NV hatch store in use. -/
def State.storedBytes (s : State) : Nat :=
  s.solv.entries.foldl (fun n e => if e.2.state = 4 then n + ((e.2.desc.map (fun h => h.hdr.length)).getD 0) else n) 0

/-- A hatch command on an entry (R298). -/
def State.hatchCmdCore (s : State) (op e : Nat) : Status × State :=
  let x := s.hatchEntry e
  if op = 0 ∨ 6 ≤ op then (.range, s)
  else if e = 0 ∧ (op = 1 ∨ op = 3 ∨ op = 4) then (.range, s)
  else match op with
    | 1 =>
      if x.state = 0 ∧ !(s.solv.entries.any (fun n => decide (n.2.state = 1))) then (.done, s.setEntry e { state := 1 })
      else (.state, s)
    | 2 =>
      if x.state ≠ 1 then (.state, s)
      else if s.solv.op.isSome then (.busy, s)
      else (.done, ({ s.setEntry e { x with state := 2 } with solv := { (s.setEntry e { x with state := 2 }).solv with op := some (e, false) } }).setFlag
        Reg.SOLV_HATCH_STAT_BUSY true)
    | 3 =>
      if x.state ≠ 3 then (.state, s)
      else if s.solv.op.isSome then (.busy, s)
      else if 16777216 < s.storedBytes + (x.desc.map (fun h => h.hdr.length)).getD 0 then (.range, s)
      else (.done, ({ s with solv := { s.solv with op := some (e, true) } }).setFlag Reg.SOLV_HATCH_STAT_BUSY true)
    | 4 =>
      if s.solv.op.any (fun o => decide (o.1 = e)) then (.busy, s)
      else if x.state < 3 ∨ s.entryUsed e then (.state, s)
      else
        let t := s.setEntry e {}
        (.done, { t with solv := { t.solv with nv := storeDel t.solv.nv e } })
    | _ =>
      if x.state = 1 ∨ x.state = 2 ∨ x.state = 3 ∧ !s.entryUsed e ∧ e ≠ 0 ∧ !s.solv.op.any (fun o => decide (o.1 = e)) then
        let t := s.setEntry e {}
        let t := if x.state = 2 then ({ t with solv := { t.solv with op := none } }).setFlag Reg.SOLV_HATCH_STAT_BUSY false else t
        (.done, t)
      else (.state, s)

/-- A hatch command: HATCH_STAT names the entry and takes the status. -/
def State.hatchCmd (s : State) (op e : Nat) : Status × State :=
  let r := s.hatchCmdCore op e
  (r.1, (r.2.set Reg.SOLV_HATCH_STAT_ENTRY e).set Reg.SOLV_HATCH_STAT_RESULT r.1.code)

/-- The entry that is LOADING. -/
def State.loadingEntry (s : State) : Option Nat := (s.solv.entries.find? (fun n => decide (n.2.state = 1))).map Prod.fst

/-- A write to the hatch load window (R298). -/
def State.hatchWindow (s : State) (word : Nat) (v : Word) : Status × State :=
  match s.loadingEntry with
  | none => (.state, s)
  | some e => let x := s.hatchEntry e; (.done, s.setEntry e { x with words := storePut x.words word v })

/-- A byte of a hatch from its loaded words; a word never written is 0. -/
def hatchByte (ws : Store Word) (i : Nat) : Nat := (storeGet ws (i / 4) 0).toNat / 256 ^ (i % 4) % 256

/-- A little-endian number of n bytes at an offset. -/
def hatchNum (ws : Store Word) (ofs n : Nat) : Nat :=
  (List.range n).foldr (fun k acc => hatchByte ws (ofs + k) + 256 * acc) 0

/-- Bytes at an offset. -/
def hatchBytes (ws : Store Word) (ofs n : Nat) : List Nat := (List.range n).map (fun k => hatchByte ws (ofs + k))

/-- The header in the loaded words (R299). -/
def hatchHeader (ws : Store Word) : HatchHeader :=
  let f := hatchNum ws
  { version := f 4 2, kind := f 6 1, id := f 8 4, n := f 12 2, m := f 14 2, nnzK := f 16 4, nnzL := f 20 4, blocks := f 24 2,
    maxNewton := f 26 1, maxInner := f 28 2, sections := f 30 2, costNs := f 32 4, wideNs := f 36 4, resident := f 40 4,
    tolOuter := BitVec.ofNat 32 (f 44 4), tolInner := BitVec.ofNat 32 (f 48 4), tableOfs := f 52 4, length := f 56 4 }

/-- The ranges of the header, its magic, version, zero bytes and CRC, and the fit to one die (R299). -/
def headerOk (ws : Store Word) : Bool :=
  let h := hatchHeader ws
  decide (hatchNum ws 0 4 = 0x48435448) && decide (h.version = 1) && (decide (h.kind = 1) || decide (h.kind = 2))
    && decide (hatchNum ws 7 1 = 0 ∧ hatchNum ws 27 1 = 0) && decide (1 ≤ h.n ∧ h.n ≤ 4096)
    && decide (h.m ≤ 4096 ∧ (h.kind = 1 → h.m = 0)) && decide (1 ≤ h.blocks ∧ h.blocks ≤ 4096)
    && decide (if h.kind = 2 then 1 ≤ h.maxNewton ∧ h.maxNewton ≤ 24 else h.maxNewton = 0)
    && decide (1 ≤ h.maxInner ∧ h.maxInner ≤ 1024) && decide (h.resident ≤ 458752) && decide (h.length ≤ 4194304)
    && decide (hatchNum ws 60 4 = crc32c (hatchBytes ws 0 60))

/-- An entry of the section table: type, offset, length, CRC-32C, and whether its zero bytes are 0 (R300). -/
def hatchSections (ws : Store Word) : List (Nat × Nat × Nat × Nat × Bool) :=
  let h := hatchHeader ws
  (List.range h.sections).map (fun k =>
    let o := h.tableOfs + 16 * k
    (hatchNum ws o 2, hatchNum ws (o + 4) 4, hatchNum ws (o + 8) 4, hatchNum ws (o + 12) 4, decide (hatchNum ws (o + 2) 2 = 0)))

/-- A section within the hatch whose CRC agrees. -/
def sectionOk (ws : Store Word) (x : Nat × Nat × Nat × Nat × Bool) : Bool :=
  x.2.2.2.2 && decide (x.2.1 + x.2.2.1 ≤ (hatchHeader ws).length) && decide (x.2.2.2.1 = crc32c (hatchBytes ws x.2.1 x.2.2.1))

/-- The offset and length of the section of a type. -/
def sectionAt (ws : Store Word) (type : Nat) : Option (Nat × Nat) :=
  ((hatchSections ws).find? (fun x => decide (x.1 = type))).map (fun x => (x.2.1, x.2.2.1))

/-- A signed byte. -/
def signedByte (b : Nat) : Int := if b < 128 then b else (b : Int) - 256

/-- The exponents of QFMT, four signed bytes for each row block (R300). -/
def hatchFormats (ws : Store Word) : List (Int × Int × Int × Int) :=
  match sectionAt ws 4 with
  | none => []
  | some (o, _) =>
    let b := fun (k : Nat) => signedByte (hatchByte ws (o + k))
    (List.range (hatchHeader ws).blocks).map (fun k => (b (4 * k), b (4 * k + 1), b (4 * k + 2), b (4 * k + 3)))

/-- An exponent within −96 to 64 (R302). -/
def expOk (e : Int) : Bool := decide (-96 ≤ e ∧ e ≤ 64)

/-- The sections (R300): each type that a user hatch requires stands exactly once, none fails; QFMT covers the blocks within the range of
R302; KEY holds 72 bytes, the last four of them 0. -/
def sectionsOk (ws : Store Word) : Bool :=
  let h := hatchHeader ws
  let l := hatchSections ws
  decide (h.tableOfs + 16 * h.sections ≤ h.length) && l.all (sectionOk ws)
    && [1, 2, 3, 4, 5, 6, 7, 8, 9].all (fun t => decide ((l.filter (fun x => decide (x.1 = t))).length = 1))
    && (sectionAt ws 4).any (fun x => decide (x.2 = 4 * h.blocks))
    && (hatchFormats ws).all (fun q => expOk q.1 && expOk q.2.1 && expOk q.2.2.1 && expOk q.2.2.2)
    && (sectionAt ws 9).any (fun x => decide (x.2 = 72) && decide (hatchNum ws (x.1 + 68) 4 = 0))

/-- The SVN in the KEY section, after the 64-byte key (R300, R435). -/
def hatchSvn (ws : Store Word) : Nat := ((sectionAt ws 9).map (fun x => hatchNum ws (x.1 + 64) 4)).getD 0

/-- The hatch in the loaded words, with the contents of the sections whose layout the manual does not give. -/
def hatchIn (ws : Store Word) (d : HatchDesc) : Hatch :=
  { hdr := hatchHeader ws, svn := hatchSvn ws, qfmt := hatchFormats ws, desc := d }

/-- HATCH_VERIFY_DONE (R298 to R300, R435): the structure is checked in the loaded words. -/
def State.hatchVerifyDone (s : State) (v : Verdict) (d : HatchDesc) : State :=
  match s.solv.op with
  | some (e, false) =>
    let ws := (s.hatchEntry e).words
    let h := hatchIn ws d
    let r := s.verifyObject { v with structOk := v.structOk && headerOk ws && sectionsOk ws } d.keyHash h.svn false
    let t := ({ s with solv := { s.solv with op := none } }).setFlag Reg.SOLV_HATCH_STAT_BUSY false
    let t := t.set Reg.SOLV_HATCH_STAT_RESULT r.1.code
    if r.1 = .done then (t.setEntry e { t.hatchEntry e with state := 3, desc := some h }).raise 0x0B09
    else (t.setEntry e {}).verifyEvents r.2
  | _ => s

/-- HATCH_STORE_DONE (R298); DIP defers the write (R399). -/
def State.hatchStoreDone (s : State) : State :=
  match s.solv.op with
  | some (e, true) =>
    if s.flag Reg.PWR_STAT_DIP then s
    else
      let x := s.hatchEntry e
      let t := ({ s with solv := { s.solv with op := none } }).setFlag Reg.SOLV_HATCH_STAT_BUSY false
      let t := t.setEntry e { x with state := 4 }
      let nv := match x.desc with
        | some h => storePut t.solv.nv e (h, { sigOk := true, structOk := true })
        | none => t.solv.nv
      ({ t with solv := { t.solv with nv := nv } }).raise 0x0B09
  | _ => s

/-- The hatch library at a hardware reset: STORED entries that still verify are reloaded, ENTRY_0 comes from the factory image (R298,
R437, R438). -/
def State.hatchesReload (s : State) : State :=
  let ok := s.solv.nv.filter (fun e => decide ((s.verifyObject e.2.2 e.2.1.desc.keyHash e.2.1.svn false).1 = .done))
  let entries := ok.foldl (fun st e => storePut st e.1 { state := 4, desc := some e.2.1 }) [(0, { state := 4, desc := some factoryHatch })]
  { s with solv := { s.solv with entries := entries, op := none } }

/-- SOLVE_CONTEXT_END (R313). -/
def execSolveContextEnd (r : SolveReport) (s : State) : Host.Outcome State Fault Refusal := .next (s.contextEnd r)
/-- SOLVE_DEADLINE (R312). -/
def execSolveDeadline (cuts : List CutRun) (s : State) : Host.Outcome State Fault Refusal := .next (s.solveDeadline cuts)
/-- WIDE_RETURN (R305). -/
def execWideReturn (ctx : Nat) (s : State) : Host.Outcome State Fault Refusal := .next (s.wideReturn ctx)
/-- COMPUTE_DIE_FAULT (R297). -/
def execComputeDieFault (die : Nat) (cause : FaultCause) (s : State) : Host.Outcome State Fault Refusal := .next (s.dieFault die cause)
/-- HATCH_VERIFY_DONE (R300). -/
def execHatchVerifyDone (v : Verdict) (hatch : HatchDesc) (s : State) : Host.Outcome State Fault Refusal :=
  .next (s.hatchVerifyDone v hatch)
/-- HATCH_STORE_DONE (R298). -/
def execHatchStoreDone (s : State) : Host.Outcome State Fault Refusal := .next s.hatchStoreDone

end Sys2Proof.Machine
end

