-- ==== Sys2Proof/Machine/Trough.lean ====
section
/-! DEFINITION. The frames of the trough and steps 2 to 4 of the hold cycle (R26, R198 to R202, R207 to R213): a frame opens at t_h(k), closes,
is tested and consumed by the observer, and the DP loops, the allocation block and the solver follow. -/

namespace Sys2Proof.Machine

/-- Open frame k at t_h(k): the settings that stand now are those of the frame (R199, R201). -/
def State.troughOpen (s : State) : State :=
  if !s.variant.has 10 then s
  else
    let cfg := ((List.range s.variant.channels).filter s.chanOn).map (fun c =>
      (c, ({ required := s.flag Reg.TRG_CH_CFG_REQUIRED c, group := s.get Reg.TRG_CH_CFG_GROUP c, period := s.period c,
             variance := BitVec.ofNat 32 (s.get Reg.TRG_CH_VAR_VARIANCE c), template := s.get Reg.TRG_CH_CFG_TEMPLATE c,
             ownTime := s.flag Reg.TRG_CH_CFG_OWN_TIME c } : ChanCfg)))
    { s with trough := { s.trough with openTh := some s.bnd, limit := s.bnd + s.get Reg.TRG_CFG_W_PCT * s.th / 100, cfg := cfg,
                                       closer := none } }

/-- The first instant from now on at which a channel of the frame no longer holds it open: now when the channel is optional, disabled,
absent or complete, else when it becomes absent (R199). -/
def State.chanReadyAt (s : State) (th : Nat) (e : Nat × ChanCfg) : Nat :=
  if !e.2.required || !s.chanOn e.1 || s.chanAbsent e.1 e.2.period || s.chanComplete e.1 th e.2.period then s.now
  else ((s.chan e.1).lastAccept.getD 0) + 2 * e.2.period + 1

/-- The first instant from now on at which every required channel that is not absent is complete (R199). -/
def State.frameReadyAt (s : State) (th : Nat) : Nat := (s.trough.cfg.map (s.chanReadyAt th)).foldl max s.now

/-- The samples that a channel brings to the frame of [th − T_h, th) (R198). -/
def frameSamples (ch : Channel) (th period : Nat) : List Sample :=
  ch.samples.filter (fun m => decide ((th : Int) - period ≤ m.tc) && decide (m.tc < (th : Int)))

/-- The newest sample of a list: the largest t_c, the later acceptance of two. -/
def newestSample : List Sample → Option Sample
  | [] => none
  | a :: t => match newestSample t with
    | none => some a
    | some b => if b.tc < a.tc then some a else some b

/-- The frame: the samples of the channels of its settings that are still enabled, by channel and in order of acceptance (R198, R201). -/
def State.frameList (s : State) (th : Nat) : List (Nat × ChanCfg × Sample) :=
  (s.trough.cfg.filter (fun e => s.chanOn e.1)).flatMap (fun e =>
    (frameSamples (s.chan e.1) th s.th).map (fun m => (e.1, e.2, m)))

/-- What the close leaves of one channel: the held samples, what the frame brought of it, its attitude samples of this frame and the one
before (R198, R215, R222). -/
def closeChannel (s : State) (th : Nat) (frame : List (Nat × ChanCfg × Sample)) (e : Nat × Channel) : Nat × Channel :=
  let mine := (frame.filter (fun f => decide (f.1 = e.1))).map (fun f => f.2.2)
  let isAtt := (storeFind s.trough.cfg e.1).any (fun c => decide (c.group = 2))
  let old := e.2.attitude.filter (fun m => decide ((th : Int) - 2 * s.th ≤ m.tc))
  (e.1, { e.2 with samples := e.2.samples.filter (fun m => decide ((th : Int) ≤ m.tc)),
                   frameCount := mine.length, frameTc := ((newestSample mine).map Sample.tc).or e.2.frameTc,
                   attitude := if isAtt then old ++ mine.filter Sample.valid else [],
                   closedOn := decide (s.trough.closer = some e.1), only := false, contradicts := false })

/-- The wind sample of the frame: the newest valid one of the lowest-numbered wind channel that delivered one (R202). -/
def frameWind (frame : List (Nat × ChanCfg × Sample)) : Option (F64 × F64) :=
  match frame.filter (fun f => decide (f.2.1.group = 3) && f.2.2.valid) with
  | [] => none
  | (c, x) :: t =>
    (newestSample ((((c, x) :: t).filter (fun f => decide (f.1 = c))).map (fun f => f.2.2))).map (fun m =>
      ((m.quantity 9).getD 0, (m.quantity 10).getD 0))

/-- The wind of a frame is taken as holding at the close instant (R202). -/
def State.windTake (s : State) (w : Option (F64 × F64)) : State :=
  match w with
  | none => { s with trough := { s.trough with windInFrame := false } }
  | some x => { s with trough := { s.trough with wind := some x, windAt := s.now, windInFrame := true } }

/-- The newest valid sample of every channel of a group, carried to the close (R207). -/
def groupNewest (group : Nat) (l : List Carried) : List Carried :=
  let g := l.filter (fun c => decide (c.group = group))
  (g.filter (fun c => !(g.any (fun d => decide (d.chan = c.chan ∧ c.tc < d.tc))))).foldr
    (fun c acc => if acc.any (fun d => decide (d.chan = c.chan)) then acc else c :: acc) []

/-- The tests of one group at a close (R207 to R212). -/
def State.groupTest (s : State) (group : Nat) (l : List Carried) : State :=
  s.applyTest group ((groupNewest group l).filter Carried.valid)

/-- A group has a valid channel of this frame that is not excluded (R210, R211). -/
def State.groupUsable (s : State) (group : Nat) (l : List Carried) : Bool :=
  (groupNewest group l).any (fun c => c.valid && !(s.chan c.chan).excluded)

/-- Step 2 of the hold cycle: the frame closes now (R198 to R202, R207 to R213). -/
def State.closeFrame (s : State) (th : Nat) (byLimit : Bool) : List (Nat × ChanCfg × Sample) × State :=
  let frame := s.frameList th
  let t := { s with trough := { s.trough with
    openTh := none, closedTh := some th, closeAt := s.now, chans := s.trough.chans.map (closeChannel s th frame) } }
  let t := ((t.set Reg.TRG_FRAME_STAT_CLOSE_US ((s.now - th) / 1000)).setFlag Reg.TRG_FRAME_STAT_BY_LIMIT byLimit)
  let t := match s.trough.closer with
    | some c => t.set Reg.TRG_FRAME_STAT_LAST_CH c
    | none => t
  let t := t.windTake (frameWind frame)
  (frame, if byLimit then t.raise 0x0708 else t)

/-- The contradiction tests of both groups; whether a contradiction is flagged (R209, R210, R232). -/
def State.contradictions (s : State) (l : List Carried) : State :=
  let t := (s.groupTest 0 l).groupTest 1 l
  { t with trough := { t.trough with contradiction := t.trough.chans.any (fun e => e.2.contradicts) } }

/-- Step 3: the observer propagates to the close, the samples are carried there and tested, and the update takes them (R207, R223); the
points of every channel are written (R215). -/
def State.consumeFrame (s : State) (frame : List (Nat × ChanCfg × Sample)) : State :=
  let dt := s.trough.closeAt - s.obs.closeAt
  let p := ((s.obsPropagate).datumApply frame).attCheck (s.attitudeOk frame)
  let l := p.carryAll frame
  let t := p.contradictions l
  let u := t.obsUpdate l (t.groupUsable 0 l) (t.groupUsable 1 l) dt
  let v := (List.range u.variant.channels).foldl (fun x c => x.channelPoints c u.obs.drPos u.obs.drHdg) u
  { v with trough := { v.trough with chans := v.trough.chans.map (fun e => (e.1, { e.2 with lateInFrame := false })) } }

/-- Step 4: the DP loops, the allocation block and the solver (R256, R263, R295). In PARK, in REPLAY and in restart cycles the DP loops and
the allocation block post nothing (R407, R433, R482); bound user hatches are posted all the same (R318, log entry 20). -/
def State.postStep (s : State) : State :=
  let live := decide (s.mode = .run) && !s.restarting
  let t := if live then s.evalDpLoops.allocPost else s
  let posted := if live && t.allocOn then (t.alloc.post.map PostData.posted).getD [] else []
  t.solvPost posted

/-- TROUGH_FRAME_CLOSE (R199): the open frame closes at the first instant at which it may, at the latest at its limit; steps 2 to 4 of the
hold cycle follow. Without an open frame nothing happens. DESIGN CHOICE (log entry 37): steps 3 and 4 take no time, where R26 gives them a
bound of 1.5 ms and no duration, so the post instant is the close instant. -/
def State.troughClose (s : State) : State :=
  match s.trough.openTh with
  | none => s
  | some th =>
    let ready := s.frameReadyAt th
    let byLimit := decide (s.trough.limit < ready)
    let t := s.advanceTo (min ready s.trough.limit)
    let r := t.closeFrame th byLimit
    (r.2.consumeFrame r.1).postStep

/-- A frame that closes before an instant has closed by then. -/
def State.troughDue (s : State) (t : Nat) : State :=
  match s.trough.openTh with
  | none => s
  | some th => if min (s.frameReadyAt th) s.trough.limit < t then s.troughClose else s

end Sys2Proof.Machine
end

