-- ==== Sys2Proof/Machine/Station.lean ====
section
/-! DEFINITION. The station link: output frames and their slots (R156 to R163, R170), input copies (R160 to R162, R166), the close of the input
window (R161, R166, R171 to R173), ring status (R163), RELEASE (R169). -/

namespace Sys2Proof.Machine

/-! ## Rings -/

/-- The enabled stations of ring r, in order of position (R156, R159). -/
def State.ringStations (s : State) (r : Nat) : List Nat :=
  let l := (s.instancesOf Reg.STN_ST_CFG_ENABLE).filter (fun i => decide (i < s.variant.stations ∧ s.get Reg.STN_ST_CFG_RING i = r))
  ((List.range 129).flatMap (fun p => l.filter (fun i => decide (s.get Reg.STN_ST_CFG_POSITION i = p))))

/-- The enabled rings. -/
def State.rings (s : State) : List Nat := (List.range 8).filter s.ringOn

/-- The stations in use, on whatever ring. -/
def State.stationsOn (s : State) : List Nat := (s.instancesOf Reg.STN_ST_CFG_ENABLE).filter (fun i => decide (i < s.variant.stations))

/-- The enabled stations of every enabled ring. -/
def State.stations (s : State) : List Nat := s.rings.flatMap s.ringStations

/-- The stations of a group on a ring, in order of position. -/
def State.groupStations (s : State) (r g : Nat) : List Nat := (s.ringStations r).filter (fun i => decide (s.get Reg.STN_ST_CFG_GROUP i = g))

/-- The groups that a ring has stations in, in order. -/
def State.ringGroups (s : State) (r : Nat) : List Nat := (List.range 32).filter (fun g => !(s.groupStations r g).isEmpty)

/-- Bytes of a group's records (R159). -/
def State.groupBytes (s : State) (r g : Nat) : Nat :=
  ((s.groupStations r g).map (fun i => 10 + 4 * s.get Reg.STN_ST_OUT_OUT_COUNT i)).foldl (· + ·) 0

/-- Length of a group's output frame (R158): header, records, CRC-32C, padding, FCS. -/
def State.outFrameLen (s : State) (r g : Nat) : Nat := max 64 (14 + 16 + s.groupBytes r g + 4 + 4)

/-- Length of a station's input frame (R158, R160). -/
def State.inFrameLen (s : State) (i : Nat) : Nat := max 64 (14 + 16 + 6 + 5 * s.get Reg.STN_ST_IN_IN_COUNT i + 4 + 4)

/-- F: wire time of a frame of L bytes, ns (R163). -/
def wireTime (len : Nat) : Nat := (len + 20) * 8

/-- O of a ring, ns (R163). -/
def State.ringO (s : State) (r : Nat) : Nat := ((s.ringGroups r).map (fun g => wireTime (s.outFrameLen r g))).foldl (· + ·) 0

/-- I of a ring, ns. -/
def State.ringI (s : State) (r : Nat) : Nat := ((s.ringStations r).map (fun i => wireTime (s.inFrameLen i))).foldl (· + ·) 0

/-- RING_SPAN, ns (R163). -/
def State.ringSpan (s : State) (r : Nat) : Nat :=
  s.ringO r + s.ringI r + 2 * ((s.ringStations r).length + 1) * s.get Reg.STN_RING_CFG_HOP r

/-- SLOT_OFS of every station of a ring, in order of position (R163). -/
def slotOffsets (frame : Nat → Nat) : Nat → List Nat → List (Nat × Nat)
  | _, [] => []
  | ofs, i :: t => (i, ofs) :: slotOffsets frame (ofs + wireTime (frame i)) t

/-- SLOT_OFS of a station, ns. -/
def State.slotOfs (s : State) (r i : Nat) : Nat :=
  (storeFind (slotOffsets s.inFrameLen (s.ringO r) (s.ringStations r)) i).getD 0

/-! ## Output frames (R158, R159, R169, R170) -/

/-- The bytes of an output record (R159). -/
def OutRecord.bytes (x : OutRecord) : List Nat :=
  leBytes 2 x.station ++ [b2n x.release + 2 * b2n x.safeCmd, x.wdog] ++ leBytes 4 x.slotOfs ++ leBytes 2 x.values.length
    ++ x.values.flatMap (fun v => leBytes 4 v.toNat)

/-- The 16-byte header of a station frame (R158). -/
def stnHeader (version kind ring : Nat) (dir : Bool) (claim cycle group records length tp : Nat) : List Nat :=
  [16 * version + kind, ring + 128 * b2n dir] ++ leBytes 2 claim ++ leBytes 4 cycle ++ [group, records] ++ leBytes 2 length ++ leBytes 2 tp
    ++ [0, 0]

/-- Data of a station frame with its CRC-32C (R158). -/
def withCrc (l : List Nat) : List Nat := l ++ leBytes 4 (crc32c l)

/-- The station link data of an output frame on a leg: DIR is 0 on leg A (R158, R159). -/
def OutFrame.bytes (f : OutFrame) (legB : Bool) : List Nat :=
  let rs := f.records.flatMap OutRecord.bytes
  withCrc (stnHeader 1 1 f.ring legB f.claim f.cycle f.group f.records.length rs.length f.tp ++ rs)

/-- The destination address of output frames of ring r: 03-4A-53-4C-00-0r (R158). -/
def ringMac (r : Nat) : Nat := 0x034A534C0000 + r

/-- The record of a station in an output frame (R159): values of the image frozen in the previous cycle. -/
def State.outRecord (s : State) (r i : Nat) : OutRecord :=
  { station := i, release := decide (0 < storeGet s.stn.release i 0), safeCmd := s.stn.safeCmd,
    wdog := s.get Reg.STN_ST_CFG_WDOG i, slotOfs := s.slotOfs r i,
    values := (List.range (s.get Reg.STN_ST_OUT_OUT_COUNT i)).map (fun k =>
      let p := s.get Reg.STN_ST_OUT_OUT_BASE i + k
      (storeGet s.pump.image p (pointDefault s.variant p)).value) }

/-- The output frames of a ring, one for each of its groups (R158). -/
def State.ringFrames (s : State) (claim r : Nat) : List OutFrame :=
  (s.ringGroups r).map (fun g =>
    { ring := r, group := g, claim := claim, cycle := s.n % 4294967296, tp := s.get Reg.PUMP_CYCLE_CTL_T_P,
      records := (s.groupStations r g).map (s.outRecord r) })

/-- The rings that the part sends on: none while ISOLATED (R340); a ring with compatibility output stages only while ACTIVE (R349). -/
def State.sendRings (s : State) : List Nat :=
  if s.grouped ∧ s.role = 0 then []
  else s.rings.filter (fun r => decide (s.get Reg.RED_CFG_MODE ≠ 2) || !bitAt (s.get Reg.RED_CFG_COMPAT_RINGS) r || decide (s.role = 2))

/-- Give the frames of a ring to its transmit queues on both legs; the first of each leg asks for a stamp while TS_MON is 1 (R184). -/
def State.sendRing (s : State) (claim r : Nat) : State :=
  let fs := s.ringFrames claim r
  let t := { s with stn := { s.stn with sent := s.stn.sent ++ fs } }
  fs.foldl (fun u f =>
    let first := decide ((fs.head?).map OutFrame.group = some f.group)
    let d := fun (leg : Nat) => ({ port := 2 * r + leg, len := s.outFrameLen r f.group, frameId := s.n % 65536,
                                   tsReq := first && s.flag Reg.TSU_SRC_CTL_TS_MON,
                                   head := s.headTo (2 * r + leg) (ringMac r) (s.get Reg.STN_CYCLE_CFG_STN_ETYPE) } : TxDesc)
    (u.transmit 1 (d 0)).transmit 1 (d 1)) t

/-- Output frames leave every enabled ring with a claim (R18, R158); RELEASE is sent for at most 100 cycles (R169). -/
def State.sendFrames (s : State) (claim : Nat) : State :=
  if s.stn.started && s.portsUp then
    let t := s.sendRings.foldl (fun u r => u.sendRing claim r) s
    { t with stn := { t.stn with release := (t.stn.release.map (fun e => (e.1, e.2 - 1))).filter (fun e => decide (0 < e.2)) } }
  else s

/-- STN_ST_CMD.RELEASE (R169); a STANDBY refuses with ROLE. -/
def State.stnRelease (s : State) (i : Nat) : Status × State :=
  if s.grouped ∧ s.role = 1 then (.role, s)
  else (.done, { s with stn := { s.stn with release := storePut s.stn.release i 100 } })

/-! ## Input copies (R160, R162, R166) -/

/-- The input window of the present cycle is open. -/
def State.windowOpen (s : State) : Bool := s.running && decide (s.phase = .window)

/-- The station link data that a copy carries its CRC over: header and record (R158, R160). -/
def copyData (f : StationFrame) : List Nat :=
  stnHeader f.version.toNat f.kind.toNat f.ring.toNat f.dir f.claim.toNat f.cycle.toNat f.group.toNat f.records.toNat f.length.toNat f.tp.toNat
    ++ leBytes 2 f.station ++ [f.status.toNat, f.links.toNat] ++ leBytes 2 f.entries.length
    ++ f.entries.flatMap (fun e => leBytes 4 e.1.toNat ++ [e.2.toNat])

/-- The bytes of a number, most significant first, as Ethernet sends addresses and types. -/
def beBytes (n v : Nat) : List Nat := (leBytes n v).reverse

/-- A copy from the first byte of its Ethernet frame to the end of its CRC-32C (R158, R429). -/
def State.copyBytes (s : State) (f : StationFrame) : List Nat :=
  beBytes 6 f.dmac.toNat ++ beBytes 6 f.smac.toNat ++ beBytes 2 (s.get Reg.STN_CYCLE_CFG_STN_ETYPE) ++ copyData f ++ leBytes 4 f.crc.toNat

/-- Note a valid copy of a station: the first one keeps its entries. -/
def State.noteCopy (s : State) (f : StationFrame) : State :=
  let a := decide (f.port % 2 = 0)
  let t := s.now % 1099511627776
  let c := match storeFind s.stn.copies f.station with
    | some c => { c with legA := c.legA || a, legB := c.legB || !a }
    | none => { legA := a, legB := !a, claim := f.claim, status := f.status, links := f.links, entries := f.entries, port := f.port, stamp := t,
                bytes := s.copyBytes f }
  { s with stn := { s.stn with copies := storePut s.stn.copies f.station c } }

/-- The CRC-32C of a copy passes. -/
def copyCrcOk (f : StationFrame) : Bool := decide (f.crc.toNat = crc32c (copyData f))

/-- A copy as classification sees it (R151, R157). -/
def State.stationEth (s : State) (f : StationFrame) : EthFrame :=
  { port := f.port, len := max 64 ((copyData f).length + 22), dmac := f.dmac, smac := f.smac, tags := 0,
    etype := BitVec.ofNat 16 (s.get Reg.STN_CYCLE_CFG_STN_ETYPE), ip := none, fcsOk := true, stamp := s.now }

/-- A rule delivers the copy to a queue in use of the station link (R152, R153). -/
def State.stationRouted (s : State) (f : StationFrame) : Bool :=
  match s.classify (s.stationEth f) with
  | none => false
  | some i =>
    let q := s.get Reg.QMGR_RULE_CTL_QUEUE i
    s.flag Reg.QMGR_Q_CFG_ENABLE q && decide (s.get Reg.QMGR_Q_CFG_CONSUMER q = 1)

/-- A station in use, on the enabled ring at whose port a copy arrived (R162). -/
def State.stationKnown (s : State) (f : StationFrame) : Bool := s.ringOn (f.port / 2) && (s.ringStations (f.port / 2)).contains f.station

/-- OUTPUT_FRAME_RETURN (R162): the leg A frame returns at leg B's port 2r + 1, the leg B frame at leg A's port 2r. -/
def State.outputReturn (s : State) (port : Nat) : State :=
  if s.portsUp && s.running && decide (port < 16) && s.ringPort port && s.stn.sent.any (fun f => decide (f.ring = port / 2)) then
    let old := storeGet s.stn.returns (port / 2) 0
    let bit := if port % 2 = 1 then 1 else 2
    { s with stn := { s.stn with returns := storePut s.stn.returns (port / 2) (old ||| bit) } }
  else s

/-- A station has delivered: a copy on each leg, or one copy on a ring that was broken in the previous cycle (R166). -/
def State.delivered (s : State) (i : Nat) : Bool :=
  match storeFind s.stn.copies i with
  | none => false
  | some c => (c.legA && c.legB) || s.flag Reg.STN_RING_STAT_BROKEN (s.get Reg.STN_ST_CFG_RING i)

/-- Every enabled station of every enabled ring has delivered. -/
def State.stationsIn (s : State) : Bool := s.stations.all s.delivered

/-! ## The close of the input window (R161, R166, R171, R173) -/

/-- The quality that an entry is written with (R161). -/
def entryQuality (q : Byte) : Byte :=
  let r := q.toNat % 64
  if r = 0 ∨ r = 3 ∨ r = 4 ∨ r = 5 ∨ r = 7 then qual r
  else if 0x20 ≤ r then q
  else qual 0x03

/-- Write a delivered value to an input point: value, quality, stamp, STALE clear (R161). -/
def State.deliver (s : State) (p : Nat) (v : Word) (q : Byte) : State :=
  if s.blockWritable p then s.setPoint p { s.point p with value := v, quality := q, stamp := s.stamp, stale := false } else s

/-- A point whose source is missing: the value stays, not available, LOST, STALE (R171). -/
def State.lose (s : State) (p : Nat) : State :=
  if s.blockWritable p then s.setPoint p { s.point p with quality := qual 0x02, stamp := s.stamp, stale := true } else s

/-- The input points of a delivered copy (R161). -/
def State.writeEntries (s : State) (base : Nat) (q : Byte → Byte) (l : List (Word × Byte)) : State :=
  (l.zipIdx).foldl (fun t e => t.deliver (base + e.2) e.1.1 (q e.1.2)) s

/-- The input points of a missing source. -/
def State.loseRange (s : State) (base count : Nat) : State := (List.range count).foldl (fun t k => t.lose (base + k)) s

/-- First device point of a station (R173). -/
def stnPoint (i : Nat) : Nat := 0xE5000 + 4 * i

/-- A station that delivered by the close: inputs, STATE, LAST_CYCLE, FLAGS (R161, R166, R173). -/
def State.closeDelivered (s : State) (i : Nat) (c : StnCopy) : State :=
  let crc := (storeFind s.stn.crcBad i).isSome
  let st := if bitAt c.status.toNat 0 then 4 else if c.legA && c.legB then 1 else 2
  let flags := ofBits [c.legA, c.legB, bitAt c.status.toNat 1, bitAt c.status.toNat 2, crc, decide (c.claim.toNat ≠ s.frameClaim)]
  let t := s.writeEntries (s.get Reg.STN_ST_IN_IN_BASE i) entryQuality c.entries
  let t := t.putAll [(stnPoint i, st), (stnPoint i + 1, (s.point (stnPoint i + 1)).value.toNat), (stnPoint i + 2, s.n % 4294967296),
    (stnPoint i + 3, flags)]
  if bitAt c.status.toNat 0 then t else { t with stn := { t.stn with release := storeDel t.stn.release i } }

/-- A missing station (R171, R173). -/
def State.closeMissing (s : State) (i : Nat) : State :=
  let crc := (storeFind s.stn.crcBad i).isSome
  (s.loseRange (s.get Reg.STN_ST_IN_IN_BASE i) (s.get Reg.STN_ST_IN_IN_COUNT i)).putAll
    [(stnPoint i, 3), (stnPoint i + 1, satInc 32 (s.point (stnPoint i + 1)).value.toNat),
     (stnPoint i + 2, (s.point (stnPoint i + 2)).value.toNat), (stnPoint i + 3, if crc then 16 else 0)]

/-- One station at the close; a station that is not in use reads DISABLED. -/
def State.closeStation (s : State) (on : List Nat) (i : Nat) : State :=
  if on.contains i then
    match storeFind s.stn.copies i with
    | some c => s.closeDelivered i c
    | none => s.closeMissing i
  else s.putAll [(stnPoint i, 0), (stnPoint i + 1, (s.point (stnPoint i + 1)).value.toNat),
    (stnPoint i + 2, (s.point (stnPoint i + 2)).value.toNat), (stnPoint i + 3, 0)]

/-- Every station of the variant at the close of the input window. -/
def State.closeStations (s : State) : State :=
  let on := s.stations
  (List.range s.variant.stations).foldl (fun t i => t.closeStation on i) s

/-! ## Ring status (R163, STN_RING_STAT) -/

/-- The highest position that delivered on leg A only; 0 if none. -/
def State.breakAfter (s : State) (r : Nat) : Nat :=
  (((s.ringStations r).filter (fun i => (storeFind s.stn.copies i).any (fun c => c.legA && !c.legB))).map
    (fun i => s.get Reg.STN_ST_CFG_POSITION i)).foldl max 0

/-- The status of a ring after a cycle in which frames were sent. -/
def State.ringStatus (s : State) (r : Nat) : State :=
  let b := storeGet s.stn.returns r 0
  let closedA := bitAt b 0
  let closedB := bitAt b 1
  let broken := !(closedA && closedB)
  let answered := ((s.ringStations r).filter (fun i => (storeFind s.stn.copies i).isSome)).length
  let t := (s.setFlag Reg.STN_RING_STAT_CLOSED_A closedA r).setFlag Reg.STN_RING_STAT_CLOSED_B closedB r
  ((t.setFlag Reg.STN_RING_STAT_BROKEN broken r).set Reg.STN_RING_STAT_BREAK_AFTER (if broken then s.breakAfter r else 0) r).set
    Reg.STN_RING_STAT_ANSWERED answered r

/-- At a boundary, the cycle that ends leaves its ring status, and the copies of the new one are none. -/
def State.stnNewCycle (s : State) : State :=
  let t := if s.stn.sent.isEmpty then s else s.rings.foldl State.ringStatus s
  { t with stn := { t.stn with copies := [], crcBad := [], returns := [], sent := [] } }

/-- What a restart leaves of the station link (R390): station STATE and the stations' counters are cleared; the counters in registers
count on. -/
def State.stnRestart (s : State) : State :=
  { s with points := s.points.filter (fun e => !decide (0xE5000 ≤ e.1 ∧ e.1 < 0xE6000)) }

/-! ## Echoed claims (R346, R348, R362) -/

/-- The claim that more than half of a list of echoes hold. -/
def majority (l : List Nat) : Option Nat := l.find? (fun c => decide (l.length < 2 * (l.filter (fun d => decide (d = c))).length))

/-- The claims that the stations which delivered echo. -/
def State.stationEchoes (s : State) : List Nat := s.stn.copies.map (fun e => e.2.claim.toNat)

def execOutputFrameReturn (port : Nat) (s : State) : Host.Outcome State Fault Refusal := .next (s.outputReturn port)

end Sys2Proof.Machine
end

