-- ==== Sys2Proof/Machine/Time.lean ====
section
/-! DEFINITION. The time base and its sources, the boundary grid, stamps and stamp queues, the PTP instance, PPS inputs and outputs, discrete
input edges (R174 to R188). -/

namespace Sys2Proof.Machine

/-! ## The grid (R175, R179) -/

/-- A node of a span: it follows its upstream lane (R355, R358). -/
def State.spanNode (s : State) : Bool :=
  decide (s.get Reg.SPAN_CFG_TOPO ≠ 0 ∧ s.get Reg.SPAN_CFG_ADDRESS ≠ 0) && !s.flag Reg.SPAN_STAT_CFG_BAD

/-- The first aligned instant at or after t: (t − PHASE × 10 µs) mod T_p = 0 (R175). -/
def State.alignedFrom (s : State) (t : Nat) : Nat :=
  let p := max 1 s.tp
  let r := (t + p - s.get Reg.TSU_PHASE_PHASE * 10000 % p) % p
  if r = 0 then t else t + (p - r)

/-- The end of a cycle in which T_P, PHASE or the time base changed: the first aligned instant at least half T_p after its start. -/
def State.realign (s : State) : State := { s with nextBnd := s.alignedFrom (s.bnd + (s.tp + 1) / 2) }

/-! ## Sources (R176 to R178) -/

/-- Whether a source of this code is available (R177). -/
def State.sourceAvail (s : State) (c : Nat) : Bool :=
  match c with
  | 1 => s.time.ptpAvail | 2 => s.time.pps0Avail | 3 => s.time.pps1Avail | _ => false

/-- The first available source in the order SRC_1, SRC_2, SRC_3; 0 for none. -/
def State.sourceChoice (s : State) : Nat :=
  (([s.get Reg.TSU_SRC_CTL_SRC_1, s.get Reg.TSU_SRC_CTL_SRC_2, s.get Reg.TSU_SRC_CTL_SRC_3]).find? s.sourceAvail).getD 0

/-- The offset of the time base from a source that it last showed. -/
def State.sourceOffset (s : State) (c : Nat) : Int :=
  match c with
  | 1 => s.time.ptpOffset | 2 => s.time.pps0Offset | 3 => s.time.pps1Offset | _ => 0

/-- The part disciplines its time base: not as a span node (R358), not while REFCLK_IN fails (R460). -/
def State.disciplines (s : State) : Bool := !s.spanNode && !s.flag Reg.SYS_BOARD_STAT_REFCLK_BAD

/-- Select the source; each change of ACTIVE_SRC or HOLDOVER is recorded (R177). -/
def State.selectSource (s : State) : State :=
  if !s.disciplines then s
  else
    let c := s.sourceChoice
    let hold := decide (c = 0)
    if s.get Reg.TSU_SRC_STAT_ACTIVE_SRC = c ∧ s.flag Reg.TSU_SRC_STAT_HOLDOVER = hold then s
    else
      let t := (s.set Reg.TSU_SRC_STAT_ACTIVE_SRC c).setFlag Reg.TSU_SRC_STAT_HOLDOVER hold
      (if hold then t.setFlag Reg.TSU_SRC_STAT_LOCKED false else t).raise 0x0602

/-- A signed 32-bit register value, saturating. -/
def sat32 (x : Int) : Nat := ((max (-2147483648) (min 2147483647 x)) % 4294967296).toNat

/-- LOCKED within 100 ns; the first lock sets TIME_VALID (R178). -/
def State.lockCheck (s : State) (off : Int) : State :=
  let locked := decide (off.natAbs ≤ 100)
  let t := s.setFlag Reg.TSU_SRC_STAT_LOCKED locked
  if locked then t.setFlag Reg.TSU_SRC_STAT_TIME_VALID true else t

/-- Correct frequency and phase, together within 200 ppm (R176): the frequency follows the measured rate; of the rate that is left, how much
removes the offset is free (log entry 6). -/
def State.slewTo (s : State) (off rate : Int) : State :=
  let freq := max (-200000) (min 200000 (s.slew.freq + rate))
  let d := s.draw 32
  let part : Int := (d.1 % (200001 - freq.natAbs) : Nat)
  { d.2 with slew := { d.2.slew with freq := freq, rate := if 0 < off then -part else if off < 0 then part else 0,
                                     phase := -off * 1000000000, applied := 0 } }

/-- A measurement of the source in use: slewed, flagged as OFFSET_HIGH in RUN beyond STEP_LIMIT, where the phase is held, or taken by a step in
PARK while TIME_VALID = 0 (R176, R178). -/
def State.discipline (s : State) (off rate : Int) : State :=
  let t := { (s.set Reg.TSU_OFFSET_OFFSET (sat32 off)) with time := { s.time with offset := off } }
  if t.mode = .run ∧ (t.get Reg.TSU_SRC_CTL_STEP_LIMIT * 1000) < off.natAbs then
    (((t.slewTo 0 rate).setFlag Reg.TSU_SRC_STAT_OFFSET_HIGH true).raise 0x0601).lockCheck off
  else if t.mode = .park ∧ t.timeValid = false ∧ ¬ off.natAbs ≤ 100 then { t with time := { t.time with stepReq := true } }
  else (t.slewTo off rate).lockCheck off

/-- A measurement of a source: it disciplines the time base when the source is the one in use. -/
def State.measure (s : State) (c : Nat) (off rate : Int) : State :=
  let t := s.selectSource
  if t.disciplines && decide (t.get Reg.TSU_SRC_STAT_ACTIVE_SRC = c) && decide (c ≠ 0) then t.discipline off rate else t

/-- Measurements that a port had begun are dropped. -/
def PtpPort.restart (p : PtpPort) : PtpPort := { p with syncLast := none, syncWait := none, req := none, respWait := none }

/-- Instants of the trough move with a step of the time base. -/
def TroughState.rebase (r : TroughState) (back : Nat → Nat) : TroughState :=
  let chans := r.chans.map (fun (e : Nat × Channel) => (e.1, { e.2 with lastAccept := e.2.lastAccept.map back }))
  { r with openTh := r.openTh.map back, limit := back r.limit, closedTh := r.closedTh.map back, closeAt := back r.closeAt,
           windAt := back r.windAt, chans := chans }

/-- Instants of the observer move with a step of the time base. -/
def ObsState.rebase (o : ObsState) (back : Nat → Nat) : ObsState :=
  { o with closeAt := back o.closeAt, tauLog := o.tauLog.map (fun e => (back e.1, e.2)),
           mirrored := o.mirrored.map (fun e => (e.1, e.2.1, back e.2.2)) }

/-- Offsets and stamps of the sources move with a step of the time base. -/
def TimeState.rebase (t : TimeState) (off : Int) (back : Nat → Nat) : TimeState :=
  { t with offset := 0, ptpOffset := t.ptpOffset - off, pps0Offset := t.pps0Offset - off, pps1Offset := t.pps1Offset - off,
           pps0Last := t.pps0Last.map back, pps1Last := t.pps1Last.map back,
           ports := t.ports.map (fun (e : Nat × PtpPort) => (e.1, e.2.restart)) }

/-- The time base is set to the time of the source in use: by the offset that it last showed and what has been corrected since (R178, R179). The
instants from which later measurements and frames count move with it (log entry 47). -/
def State.stepTime (s : State) : State :=
  let c := s.get Reg.TSU_SRC_STAT_ACTIVE_SRC
  if c = 0 then s
  else
    let off := s.sourceOffset c + s.slew.applied / 1000000000
    let back := fun (x : Nat) => ((x : Int) - off).toNat
    let changed := s.safe.changed.map (fun (e : Nat × Nat) => (e.1, back e.2))
    let t : State := { s with trough := s.trough.rebase back, obs := s.obs.rebase back, safe := { s.safe with changed := changed },
                              span := { s.span with upLast := none }, now := back s.now, bnd := back s.bnd,
                              slew := { s.slew with rate := 0, phase := 0, applied := 0 }, time := s.time.rebase off back }
    (t.set Reg.TSU_OFFSET_OFFSET 0).lockCheck 0

/-- TSU_CMD.STEP (R179). -/
def State.tsuStep (s : State) : Status × State :=
  if s.mode ≠ .park then (.state, s) else (.done, { s with time := { s.time with stepReq := true } })

/-- A pending STEP at a boundary in PARK: whether the time base was stepped (R179). -/
def State.stepBoundary (s : State) : Bool × State :=
  if s.time.stepReq then
    let t := { s with time := { s.time with stepReq := false } }
    if s.mode = .park then (true, t.stepTime) else (false, t)
  else (false, s)

/-! ## The PTP instance (R187): what R187 takes from IEEE 1588-2019 is PRESUMED (log entry 15) -/

/-- A port takes part in PTP: PTP_EN, no ring port, ports up. -/
def State.ptpOn (s : State) (p : Nat) : Bool :=
  s.portsUp && decide (p < 16) && s.flag Reg.TSU_PORT_PTP_PTP_EN p && !s.ringPort p

def State.ptpPort (s : State) (p : Nat) : PtpPort := storeGet s.time.ports p {}

/-- State of a PTP port: 0 listening, 1 master, 2 slave, 3 passive. -/
def State.ptpState (s : State) (p : Nat) : Nat := (s.ptpPort p).state

def State.setPtpPort (s : State) (p : Nat) (x : PtpPort) : State := { s with time := { s.time with ports := storePut s.time.ports p x } }

/-- clockIdentity: the EUI-64 of BASE_MAC. -/
def State.clockId (s : State) : BitVec 64 :=
  BitVec.ofNat 64 (s.fuses.baseMac.toNat / 16777216 * 1099511627776 + 0xFFFE * 16777216 + s.fuses.baseMac.toNat % 16777216)

/-- The announce interval and the announce receipt timeout, ns (TSU_PTP_CFG). -/
def State.announceNs (s : State) : Nat := 1000000000 * 2 ^ s.get Reg.TSU_PTP_CFG_LOG_ANNOUNCE / 8
def State.announceLimit (s : State) : Nat := (s.get Reg.TSU_PTP_CFG_ANN_TIMEOUT + 2) * s.announceNs

/-- The part's own data set: a clock of class 248. -/
def State.ownMaster (s : State) : PtpMaster :=
  { priority1 := BitVec.ofNat 8 (s.get Reg.TSU_PTP_CFG_PRIORITY1), clockClass := 248, clockAccuracy := 0xFE, variance := 0xFFFF,
    priority2 := BitVec.ofNat 8 (s.get Reg.TSU_PTP_CFG_PRIORITY2), identity := s.clockId, steps := 0 }

/-- The order of data sets of the default best master clock algorithm, the smallest the best. -/
def ptpRank (m : PtpMaster) : List Nat :=
  [m.priority1.toNat, m.clockClass.toNat, m.clockAccuracy.toNat, m.variance.toNat, m.priority2.toNat, m.identity.toNat, m.steps.toNat]

/-- Lists of equal length in order. -/
def lexLt : List Nat → List Nat → Bool
  | a :: s, b :: t => decide (a < b) || decide (a = b) && lexLt s t
  | _, _ => false

/-- A is a better master than B, senders and their ports deciding between equals. -/
def betterMaster (a b : PtpMaster × BitVec 64 × BitVec 16) : Bool :=
  lexLt ((ptpRank a.1) ++ [a.2.1.toNat, a.2.2.toNat]) ((ptpRank b.1) ++ [b.2.1.toNat, b.2.2.toNat])

/-- The foreign master of a port, once two Announces have come without a gap, within the announce receipt timeout. -/
def State.foreign (s : State) (p : Nat) : Option (PtpMaster × BitVec 64 × BitVec 16) :=
  if 2 ≤ (s.ptpPort p).announces ∧ s.up ≤ (s.ptpPort p).announceAt + s.announceLimit then (s.ptpPort p).master else none

/-- The best foreign master and its port. -/
def State.bestForeign (s : State) : Option (Nat × PtpMaster × BitVec 64 × BitVec 16) :=
  ((List.range 16).filter s.ptpOn).foldl (fun b p =>
    match s.foreign p, b with
    | some m, some c => if betterMaster m c.2 then some (p, m) else some c
    | some m, none => some (p, m)
    | none, _ => b) none

/-- The state of a port by the default algorithm: slave at the best foreign master; while the own clock is better, or there is no other, master;
passive behind the same grandmaster; a slave-only instance never becomes master. -/
def State.ptpDecide (s : State) (best : Option (Nat × PtpMaster × BitVec 64 × BitVec 16)) (p : Nat) : Nat :=
  let slaveOnly := s.flag Reg.TSU_PTP_CFG_SLAVE_ONLY
  match best with
  | none => if slaveOnly then 0 else 1
  | some b =>
    if !slaveOnly && lexLt (ptpRank s.ownMaster) (ptpRank b.2.1) then 1
    else if b.1 = p then 2
    else if slaveOnly then 0
    else if (s.foreign p).any (fun m => decide (m.1.identity = b.2.1.identity)) then 3
    else 1

/-- A port in its new state: another state than slave forgets what the slave measured. -/
def PtpPort.enter (x : PtpPort) (v : Nat) : PtpPort :=
  if x.state = v then x else { x with state := v, syncAt := none, syncWait := none, syncLast := none }

/-- The state decision of every port (R187). -/
def State.ptpDecideAll (s : State) : State :=
  let best := s.bestForeign
  ((List.range 16).filter s.ptpOn).foldl (fun t p => t.setPtpPort p ((t.ptpPort p).enter (s.ptpDecide best p))) s

/-- An Announce: the port keeps the best master that it hears. -/
def State.ptpAnnounce (s : State) (p : Nat) (m : PtpMessage) (d : PtpMaster) : State :=
  let x := s.ptpPort p
  let fresh := decide (s.up ≤ x.announceAt + 4 * s.announceNs)
  let new := (d, m.clock, m.clockPort)
  let y := match x.master with
    | none => { x with master := some new, announces := 1, announceAt := s.up }
    | some o =>
      if o.2 = new.2 then { x with master := some new, announces := if fresh then min 2 (x.announces + 1) else 1, announceAt := s.up }
      else if betterMaster new o || !fresh then { x with master := some new, announces := 1, announceAt := s.up }
      else x
  (s.setPtpPort p y).ptpDecideAll

/-- The message comes from the parent of a slave port. -/
def State.fromParent (s : State) (p : Nat) (m : PtpMessage) : Bool :=
  decide (s.ptpState p = 2) && (s.ptpPort p).master.any (fun o => decide (o.2 = (m.clock, m.clockPort)))

/-- delayAsymmetry of a port, ns. -/
def State.ptpAsym (s : State) (p : Nat) : Int := sext 16 (s.get Reg.TSU_PORT_PTP_ASYM p)

/-- Nanoseconds of a correctionField. -/
def correctionNs (c : Int) : Int := c / 65536

/-- The full time of a message's corrected receive stamp (R181, R183). -/
def State.ptpArrival (s : State) (p : Nat) (m : PtpMessage) : Int := fullTime s.now (s.rxStamp p m.stamp)

/-- A complete Sync: origin time with correction, receive time. The offset is measured against the path delay, delayAsymmetry subtracted; the
rate against the Sync before. The source is available when an Announce lies within the receipt timeout as well (R177). -/
def State.ptpOffset (s : State) (p : Nat) (origin arrival : Int) : State :=
  let x := s.ptpPort p
  let off := arrival - origin - x.delay - s.ptpAsym p
  let rate := match x.syncLast with
    | some (o, a) => if o < origin then ((origin - o) - (arrival - a)) * 1000000000 / (origin - o) else 0
    | none => 0
  let t := s.setPtpPort p { x with syncLast := some (origin, arrival), syncAt := some s.up, syncWait := none }
  if s.up ≤ x.announceAt + s.announceLimit then
    ({ t with time := { t.time with ptpAvail := true, ptpOffset := off } }).measure 1 off rate
  else t

/-- Length of a PTP frame with a message body of n bytes: IEEE 802.3 or UDP over IPv4. -/
def State.ptpLen (s : State) (p n : Nat) : Nat := max 64 (14 + (if s.flag Reg.TSU_PORT_PTP_UDP p then 28 else 0) + n + 4)

/-- The head of a PTP frame: multicast, to the address of the peer delay messages or of all others (Annexes C and E). -/
def State.ptpHead (s : State) (p type : Nat) : FrameHead :=
  let peer := decide (type = 2 ∨ type = 3 ∨ type = 10)
  if s.flag Reg.TSU_PORT_PTP_UDP p then s.ipTo p (if peer then 0x01005E00006B else 0x01005E000181) (if peer then 0xE000006B else 0xE0000181)
  else s.headTo p (if peer then 0x0180C200000E else 0x011B19000000) 0x88F7

/-- Bytes of a message by its messageType. -/
def ptpBytes (type : Nat) : Nat := match type with | 0 | 1 | 8 => 44 | 11 => 64 | _ => 54

/-- Give a PTP message to the transmit queue; event messages ask for a stamp (R184). FRAME_ID is free (log entry 6). -/
def State.ptpSend (s : State) (p : Nat) (m : PtpMessage) : State :=
  let d := s.draw 16
  let x := { m with udp := if s.flag Reg.TSU_PORT_PTP_UDP p then some (BitVec.ofNat 32 (((s.ptpHead p m.type.toNat).ip.map IpHeader.dst).getD 0)) else none }
  let t := { d.2 with time := { d.2.time with ptpSent := d.2.time.ptpSent ++ [(p, x)] } }
  t.transmit 3 { port := p, len := s.ptpLen p (ptpBytes m.type.toNat), frameId := d.1, tsReq := decide (m.type.toNat < 8),
                 head := s.ptpHead p m.type.toNat, ptp := some x }

/-- A message of the port with the fields that every one carries. -/
def State.ptpNew (s : State) (p type : Nat) (seq : BitVec 16) : PtpMessage :=
  { type := BitVec.ofNat 4 type, domain := BitVec.ofNat 8 (s.get Reg.TSU_PTP_CFG_DOMAIN), clock := s.clockId, clockPort := BitVec.ofNat 16 (p + 1),
    seq := seq, twoStep := !s.flag Reg.TSU_PORT_PTP_ONE_STEP p && decide (type = 0 ∨ type = 3) }

/-- A response to a request: it names the requester. -/
def State.ptpReply (s : State) (p type : Nat) (m : PtpMessage) (time : Nat) (correction : Int) : PtpMessage :=
  { s.ptpNew p type m.seq with reqClock := m.clock, reqPort := m.clockPort, time := time, correction := correction }

/-- A response that names a request of the port. -/
def State.ptpMine (s : State) (p : Nat) (m : PtpMessage) : Option Int :=
  if m.reqClock = s.clockId ∧ m.reqPort.toNat = p + 1 then ((s.ptpPort p).req.filter (fun r => decide (r.1 = m.seq))).map Prod.snd else none

def State.ptpDelay (s : State) (p : Nat) (d : Int) : State := s.setPtpPort p { s.ptpPort p with delay := d, respWait := none }

/-- A peer delay response: complete in one step, or with the Follow_Up (R187). -/
def State.ptpPeer (s : State) (p : Nat) (m : PtpMessage) (t1 : Int) : State :=
  let t4 := s.ptpArrival p m
  if m.twoStep then s.setPtpPort p { s.ptpPort p with respWait := some (m.seq, t4, m.time, correctionNs m.correction) }
  else s.ptpDelay p ((t4 - t1 - correctionNs m.correction) / 2)

/-- A received message of the port's domain, by its messageType (R187): Signaling and Management messages are ignored. -/
def State.ptpTake (s : State) (p : Nat) (m : PtpMessage) : State :=
  let x := s.ptpPort p
  let p2p := s.flag Reg.TSU_PORT_PTP_P2P p
  match m.type.toNat with
  | 0 =>
    if !s.fromParent p m then s
    else if m.twoStep then s.setPtpPort p { x with syncWait := some (m.seq, s.ptpArrival p m, correctionNs m.correction) }
    else s.ptpOffset p (m.time + correctionNs m.correction) (s.ptpArrival p m)
  | 8 =>
    match s.fromParent p m, x.syncWait with
    | true, some (q, a, c) => if q = m.seq then s.ptpOffset p (m.time + c + correctionNs m.correction) a else s
    | _, _ => s
  | 1 => if s.ptpState p = 1 ∧ p2p = false then s.ptpSend p (s.ptpReply p 9 m (s.ptpArrival p m).toNat m.correction) else s
  | 9 =>
    match s.fromParent p m && !p2p, s.ptpMine p m, x.syncLast with
    | true, some t3, some (o, a) => s.ptpDelay p (((a - o) + (m.time - t3 - correctionNs m.correction)) / 2)
    | _, _, _ => s
  | 2 => if p2p then s.ptpSend p (s.ptpReply p 3 m (s.ptpArrival p m).toNat m.correction) else s
  | 3 =>
    match p2p, s.ptpMine p m with
    | true, some t1 => s.ptpPeer p m t1
    | _, _ => s
  | 10 =>
    match p2p, s.ptpMine p m, x.respWait with
    | true, some t1, some (q, t4, t2, c) =>
      if q = m.seq then s.ptpDelay p (((t4 - t1) - (m.time - t2) - c - correctionNs m.correction) / 2) else s
    | _, _, _ => s
  | 11 =>
    match m.master with
    | some d => s.ptpAnnounce p m d
    | none => s
  | _ => s

/-- PTP_MESSAGE (R187); one that arrives on a port of an enabled ring is a foreign frame (R157). A unicast datagram on a port without an address is
discarded (R154), and so is a message of another domain, of another transport than the port's, or of the part itself. -/
def State.ptpMessage (s : State) (p : Nat) (m : PtpMessage) : State :=
  if s.portsUp && decide (p < 16) && s.ringPort p then s.stnBad
  else if !s.ptpOn p ∨ s.strayDatagram p m.udp = true ∨ m.udp.isSome ≠ s.flag Reg.TSU_PORT_PTP_UDP p
      ∨ m.domain.toNat ≠ s.get Reg.TSU_PTP_CFG_DOMAIN ∨ m.clock = s.clockId then s
  else (({ s with time := { s.time with ptpSent := [] } }).stampReached m.stamp).ptpTake p m

/-- What a master port announces: the best foreign master one step further on, or the own clock. -/
def State.grandmaster (s : State) : PtpMaster :=
  match s.bestForeign with
  | some b => if lexLt (ptpRank s.ownMaster) (ptpRank b.2.1) then s.ownMaster else { b.2.1 with steps := b.2.1.steps + 1 }
  | none => s.ownMaster

/-- The messages of a port at its message interval: a master sends Sync and Announce; a slave with end-to-end delay sends Delay_Req; a
peer-to-peer port sends Pdelay_Req. delayAsymmetry is subtracted from the correctionField of the requests. -/
def State.ptpDue (s : State) (p : Nat) : List PtpMessage :=
  let x := s.ptpPort p
  let asym := -s.ptpAsym p * 65536
  (if x.state = 1 then [s.ptpNew p 0 x.seqSync, { s.ptpNew p 11 x.seqAnnounce with master := some s.grandmaster }] else [])
    ++ (if s.flag Reg.TSU_PORT_PTP_P2P p then [{ s.ptpNew p 2 x.seqReq with correction := asym }]
        else if x.state = 2 then [{ s.ptpNew p 1 x.seqReq with correction := asym }] else [])
/-- The sequence numbers after a message interval. -/
def PtpPort.numbered (x : PtpPort) : PtpPort :=
  { x with seqSync := x.seqSync + 1, seqReq := x.seqReq + 1, seqAnnounce := x.seqAnnounce + 1 }

/-- PTP_MESSAGE_INTERVAL (R187): the state decision, then the messages. -/
def State.ptpInterval (s : State) (p : Nat) : State :=
  if !s.ptpOn p then s
  else
    let t := ({ s with time := { s.time with ptpSent := [] } }).ptpDecideAll
    let u := (t.ptpDue p).foldl (fun u m => u.ptpSend p m) t
    u.setPtpPort p (u.ptpPort p).numbered

/-- What the stamp of a PTP message that leaves brings (R184, R187): one-step, the hardware writes it into the frame; two-step, a Follow_Up
carries it; of a request the port keeps it. The service core has taken the entry from the stamp queue of a port with PTP_EN (R186). -/
def State.ptpLeft (s : State) (p : Nat) (m : PtpMessage) (at_ : Int) : State :=
  match m.type.toNat with
  | 0 => if m.twoStep then s.ptpSend p { s.ptpNew p 8 m.seq with time := at_.toNat } else s
  | 1 | 2 => s.setPtpPort p { s.ptpPort p with req := some (m.seq, at_) }
  | 3 => if m.twoStep then s.ptpSend p { m with type := 10, twoStep := false, time := at_.toNat, correction := m.correction } else s
  | _ => s

/-- The message as it leaves: origin time of a one-step Sync, turnaround time in the correction of a one-step Pdelay_Resp (R187). -/
def ptpOneStep (m : PtpMessage) (at_ : Int) : PtpMessage :=
  if m.twoStep then m
  else match m.type.toNat with
    | 0 => { m with time := at_.toNat }
    | 3 => { m with correction := m.correction + (at_ - m.time) * 65536, time := 0 }
    | _ => m

/-- The service core reads the stamp queue of a port with PTP_EN (R186). -/
def State.serviceStamps (s : State) (p : Nat) : State := if s.flag Reg.TSU_PORT_PTP_PTP_EN p then s.setStampQueue p [] else s

/-- FRAME_TX_DONE (R148, R184, R187). -/
def State.frameLeft (s : State) (queue port stamp : Nat) : State :=
  let ptp := if !s.portsUp ∨ storeFind s.qm.busy port ≠ some queue then none
    else ((storeGet s.qm.tx queue []).head?).bind TxDesc.ptp
  let t := (s.frameTxDone queue port stamp)
  match ptp with
  | none => t
  | some m =>
    let at_ := fullTime t.now (s.txStamp port stamp)
    let u : State := { t with time := { t.time with ptpSent := [] },
                              qm := { t.qm with txDone := t.qm.txDone.map (fun d => { d with ptp := some (ptpOneStep m at_) }) } }
    (u.serviceStamps port).ptpLeft port m at_

/-- SOURCE_TIMEOUT (R177): the source is no longer available once the announce receipt timeout, or 1.5 s after the last PPS edge, has passed. A
source that is not available has nothing to lose. -/
def State.sourceTimeout (s : State) (c : Nat) : State :=
  match c with
  | 1 =>
    if s.time.ptpAvail then
      let last := ((s.time.ports.filter (fun e => decide (e.2.state = 2))).map (fun e => min e.2.announceAt (e.2.syncAt.getD s.up))).foldl min s.up
      let t := s.waitUntil (last + s.announceLimit + 1)
      (({ t with time := { t.time with ptpAvail := false } }).ptpDecideAll).selectSource
    else s
  | 2 =>
    if s.time.pps0Avail then
      let t := s.advanceTo (s.time.pps0Last.getD 0 + 1500000001)
      ({ t with time := { t.time with pps0Avail := false, pps0Last := none } }).selectSource
    else s
  | 3 =>
    if s.time.pps1Avail then
      let t := s.advanceTo (s.time.pps1Last.getD 0 + 1500000001)
      ({ t with time := { t.time with pps1Avail := false, pps1Last := none } }).selectSource
    else s
  | _ => s

/-! ## PPS (R177, R188) -/

/-- Offset of an instant from the nearest whole second. -/
def secondOffset (x : Int) : Int := (x + 500000000) % 1000000000 - 500000000

/-- An edge of a PPS input at instant x: available when the previous edge lies within 1.5 s (R177). -/
def State.ppsEdge (s : State) (input : Nat) (x : Int) : State :=
  let last := if input = 0 then s.time.pps0Last else s.time.pps1Last
  let gap := last.map (fun l => x - (l : Int))
  let ok := gap.any (fun g => decide (0 < g ∧ g ≤ 1500000000))
  let off := secondOffset x
  let rate := (gap.map (fun g => 1000000000 - g)).getD 0
  let t := if input = 0 then { s.time with pps0Last := some x.toNat, pps0Avail := ok, pps0Offset := off }
    else { s.time with pps1Last := some x.toNat, pps1Avail := ok, pps1Offset := off }
  ({ s with time := t }).measure (input + 2) off rate

/-- PPS_IN_EDGE (R177, R180). -/
def State.ppsIn (s : State) (input stamp : Nat) : State :=
  if 2 ≤ input then s
  else
    let t := s.stampReached stamp
    t.ppsEdge input (fullTime t.now stamp)

/-- An edge of a PPS output at an instant, which stays high for WIDTH, at most half the period (R188). -/
def State.ppsHigh (s : State) (out at_ period : Nat) : State :=
  let fall := at_ + min (s.get Reg.TSU_PPS_OUT_WIDTH out * 1000) (period / 2)
  { s with time := if out = 0 then { s.time with pps0High := true, pps0Fall := fall }
                   else { s.time with pps1High := true, pps1Fall := fall } }

/-- The level of a PPS ball; none: high-impedance, before DONE, in reset, SLEEP and BACKUP (R188, R384, R416). -/
def State.ppsBall (s : State) (out : Nat) : Option Bool :=
  if s.running || decide (s.mode = .done) then some (if out = 0 then s.time.pps0High else s.time.pps1High) else none

/-- The PPS outputs float (R188). -/
def State.ppsFloat (s : State) : State := { s with time := { s.time with pps0High := false, pps1High := false } }

/-- The GPIO outputs float: in SLEEP (R456) and while VIO_A is low (R405). -/
def State.gpioFloat (s : State) : State := { s with time := { s.time with gpioDriven := false, gpioOut := 0 } }

/-- PPS_OUT_EDGE (R188): at the next whole second, at the pump boundary or at the hold boundary of the present cycle. -/
def State.ppsOutEdge (s : State) (out : Nat) : State :=
  if 2 ≤ out ∨ !(s.running || decide (s.mode = .done)) then s
  else match s.get Reg.TSU_PPS_OUT_MODE out with
    | 1 =>
      if s.timeValid then
        let t := s.advanceTo ((s.now + 999999999) / 1000000000 * 1000000000)
        t.ppsHigh out t.now 1000000000
      else s
    | 2 => if s.running then s.ppsHigh out s.bnd s.tp else s
    | 3 => if s.running && s.isHold then s.ppsHigh out s.bnd s.th else s
    | _ => s

/-- PPS_OUT_FALL (R188). -/
def State.ppsOutFall (s : State) (out : Nat) : State :=
  if out = 0 ∧ s.time.pps0High then
    let t := s.advanceTo s.time.pps0Fall
    { t with time := { t.time with pps0High := false } }
  else if out = 1 ∧ s.time.pps1High then
    let t := s.advanceTo s.time.pps1Fall
    { t with time := { t.time with pps1High := false } }
  else s

/-! ## Discrete inputs (R180) and the stamp reads (R174, R186) -/

def State.dinUnit (s : State) (i : Nat) : DinUnit := storeGet s.time.din i {}

/-- The signed difference of two truncated stamps, b − a (R182). -/
def stampDiff (a b : Nat) : Int := let d := ((b : Int) - a) % 1099511627776; if 549755813888 ≤ d then d - 1099511627776 else d

/-- A unit after an edge: one less than 20 ns after the edge before is not resolved and changes the level only (R180). -/
def DinUnit.edge (u : DinUnit) (rising : Bool) (stamp : Nat) : DinUnit :=
  if u.seen ∧ (stampDiff u.stamp stamp).natAbs < 20 then { u with level := rising }
  else { stamp := stamp, rising := rising, level := rising, missed := u.missed || u.unread, unread := true, seen := true }

/-- DIN_EDGE (R180); with bank A unpowered the inputs read idle-low (R405). -/
def State.dinEdge (s : State) (i : Nat) (rising : Bool) (stamp : Nat) : State :=
  if 64 ≤ i ∨ s.flag Reg.PWR_STAT_VIO_A_LOW then s
  else
    let t := s.stampReached stamp
    { t with time := { t.time with din := storePut t.time.din i ((t.dinUnit i).edge rising (stamp % 1099511627776)) } }

/-- The present level of a discrete input. -/
def State.dinLevel (s : State) (i : Nat) : Bool := !s.flag Reg.PWR_STAT_VIO_A_LOW && (s.dinUnit i).level

/-- The two words of a DIN edge unit. -/
def State.dinWords (s : State) (i : Nat) : Nat × Nat :=
  let u := s.dinUnit i
  (u.stamp % 4294967296, u.stamp / 4294967296 % 256 + 256 * b2n u.rising + 512 * b2n (s.dinLevel i) + 1024 * b2n u.missed)

/-- A completed read of a DIN edge unit clears MISSED. -/
def State.dinRead (s : State) (i : Nat) : State :=
  { s with time := { s.time with din := storeSet s.time.din i { s.dinUnit i with missed := false, unread := false } {} } }

/-- The two words of the head entry of a port's stamp queue (R186). -/
def State.tsqWords (s : State) (p : Nat) : Nat × Nat :=
  match s.stampQueue p with
  | [] => (0, 0)
  | (id, ts) :: _ => (id % 65536 + ts / 4294967296 % 256 * 65536 + 2147483648, ts % 4294967296)

/-- A completed read frees the head entry (R186). -/
def State.tsqFree (s : State) (p : Nat) : State := s.setStampQueue p ((s.stampQueue p).drop 1)

/-- What a read of the stamp queue pair of a port gives: STATE on a port with PTP_EN (R186). -/
def State.tsqRead (s : State) (p : Nat) : Status × List Nat × State :=
  if s.flag Reg.TSU_PORT_PTP_PTP_EN p then (.state, [0, 0], s)
  else (.done, [(s.tsqWords p).1, (s.tsqWords p).2], s.tsqFree p)

/-- A read of TSU_TIME_LO latches the high bits into the path's TIME_HI (R174). -/
def State.timeLoRead (s : State) (omp : Bool) : Nat × State :=
  let hi := BitVec.ofNat 32 (s.now / 4294967296)
  (s.now % 4294967296, { s with host := if omp then { s.host with timeHiOmp := hi } else { s.host with timeHiSpi := hi } })

/-- A read of KEEP_TICK_LO latches bits [47:32] into the path's TICK_HI (R411). -/
def State.tickLoRead (s : State) (omp : Bool) : Nat × State :=
  let hi := s.keepTick / 4294967296
  (s.keepTick % 4294967296, { s with host := if omp then { s.host with tickHiOmp := hi } else { s.host with tickHiSpi := hi } })

/-! ## The commands of this file -/

def execPtpMessage (port : Nat) (m : PtpMessage) (s : State) : Host.Outcome State Fault Refusal := .next (s.ptpMessage port m)

def execFrameTxDone (queue port stamp : Nat) (s : State) : Host.Outcome State Fault Refusal := .next (s.frameLeft queue port stamp)

def execPpsInEdge (input stamp : Nat) (s : State) : Host.Outcome State Fault Refusal := .next (s.ppsIn input stamp)

def execSourceTimeout (source : Nat) (s : State) : Host.Outcome State Fault Refusal := .next (s.sourceTimeout source)

def execPpsOutEdge (out : Nat) (s : State) : Host.Outcome State Fault Refusal := .next (s.ppsOutEdge out)

def execPpsOutFall (out : Nat) (s : State) : Host.Outcome State Fault Refusal := .next (s.ppsOutFall out)

def execDinEdge (din : Nat) (rising : Bool) (stamp : Nat) (s : State) : Host.Outcome State Fault Refusal :=
  .next (s.dinEdge din rising stamp)

def execPtpMessageInterval (port : Nat) (s : State) : Host.Outcome State Fault Refusal := .next (s.ptpInterval port)

end Sys2Proof.Machine
end

