-- ==== Sys2Proof/Machine/Span.lean ====
section
/-! DEFINITION. Span topologies (R353 to R364): lane use, the frames of root and nodes, their check and forwarding, the close at the root. -/

namespace Sys2Proof.Machine

/-- The straps and the settings agree (R354). -/
def State.spanAgrees (s : State) : Bool :=
  let topo := s.get Reg.SPAN_CFG_TOPO
  match s.get Reg.SPAN_CFG_STRAPS with
  | 0 => decide (topo = 0)
  | 1 => decide (topo = 1 ∨ topo = 2)
  | 2 => decide (topo = 1 ∨ topo = 3) && decide (s.get Reg.RED_CFG_MODE = 0)
  | _ => false

/-- The part belongs to a span. -/
def State.spanOn (s : State) : Bool := decide (s.get Reg.SPAN_CFG_TOPO ≠ 0) && !s.flag Reg.SPAN_STAT_CFG_BAD

/-- The root of a span (R355). -/
def State.spanRoot (s : State) : Bool := s.spanOn && decide (s.get Reg.SPAN_CFG_ADDRESS = 0)

/-- Lanes that carry span frames, as the straps give them (R353). -/
def State.spanLanes (s : State) : List Nat :=
  match s.get Reg.SPAN_CFG_STRAPS with
  | 1 => [2, 3]
  | 2 => [0, 1, 2, 3]
  | _ => []

/-- Lanes on which the root sends its output frames (R353, R355, R358): in a ring, frames travel both ways round. -/
def State.rootLanes (s : State) : List Nat :=
  match s.get Reg.SPAN_CFG_STRAPS with
  | 1 => if s.get Reg.SPAN_CFG_TOPO = 2 then [3, 2] else [3]
  | 2 => [1, 2, 3]
  | _ => []

/-- The upstream lanes of a node. -/
def State.upLanes (s : State) : List Nat :=
  match s.get Reg.SPAN_CFG_STRAPS with
  | 1 => if s.get Reg.SPAN_CFG_TOPO = 2 then [2, 3] else [2]
  | 2 => [0]
  | _ => []

def State.laneUp (s : State) (l : Nat) : Bool := bitAt (s.get Reg.SPAN_STAT_LANE_UP) l

/-- The enabled nodes of a root, in address order. -/
def State.nodes (s : State) : List Nat := (s.instancesOf Reg.SPAN_NODE_IN_ENABLE).filter (fun a => decide (0 < a ∧ a < 64))

/-- Values of consecutive points in the frozen image. -/
def State.imageValues (s : State) (base count : Nat) : List Word :=
  (List.range count).map (fun k => (storeGet s.pump.image (base + k) (pointDefault s.variant (base + k))).value)

/-- Send the root's output frames: on every downstream lane one per enabled node (R358). -/
def State.spanSend (s : State) (claim : Nat) : State :=
  if s.spanRoot && s.stn.started then
    let frames := (s.rootLanes.filter s.laneUp).flatMap (fun l => s.nodes.map (fun a =>
      ({ lane := l, crcOk := true, output := true, sender := 0, address := a, claim := BitVec.ofNat 16 claim, cycle := BitVec.ofNat 32 s.n,
         time := s.now, echo := 0, values := s.imageValues (s.get Reg.SPAN_NODE_OUT_OUT_BASE a) (s.get Reg.SPAN_NODE_OUT_OUT_COUNT a), entries := [] } : SpanFrame)))
    { s with span := { s.span with sent := s.span.sent ++ frames } }
  else s

/-- Count a discarded frame (R356). -/
def State.spanBad (s : State) : State := s.count Reg.SPAN_STAT_SPAN_BAD_CNT

/-- A valid input record of a node at the root; on a ring the first copy wins (R356, R359). -/
def State.noteNode (s : State) (f : SpanFrame) : State :=
  let t := s.now % 1099511627776
  let c := match storeFind s.span.nodes f.address with
    | some c => { c with from2 := c.from2 || decide (f.lane = 2), from3 := c.from3 || decide (f.lane = 3) }
    | none => { from2 := decide (f.lane = 2), from3 := decide (f.lane = 3), echo := f.echo, entries := f.entries, lane := f.lane, stamp := t }
  { s with span := { s.span with nodes := storePut s.span.nodes f.address c } }

/-- Every enabled node has delivered one valid record (R359). -/
def State.nodesIn (s : State) : Bool := !s.spanRoot || s.nodes.all (fun a => (storeFind s.span.nodes a).isSome)

/-- Every station and node has delivered (R166, R359). -/
def State.allIn (s : State) : Bool := s.stationsIn && s.nodesIn

/-- The limit of the input window: at a span node it is measured from the arrival of its output record (R166, R358). -/
def State.windowLimit (s : State) : Nat := (if s.spanNode && s.span.upSeen then s.span.upAt else s.bnd) + s.inputWin

/-- A copy arrives after the close: past the limit, or when everything had been delivered already (R166). -/
def State.closedBy (s : State) : Bool := !s.windowOpen || decide (s.windowLimit < s.now) || s.allIn

/-- A span frame at the root (R356); one that comes after the close is not taken (R359). -/
def State.rootRx (s : State) (f : SpanFrame) : State :=
  let known := s.nodes.contains f.address && !f.output
  if !f.crcOk then
    (if known then { s with span := { s.span with crcBad := storePut s.span.crcBad f.address () } } else s).spanBad
  else if !known ∨ f.cycle.toNat ≠ s.n % 4294967296 then s.spanBad
  else if f.entries.length ≠ s.get Reg.SPAN_NODE_IN_IN_COUNT f.address then
    ({ s with span := { s.span with countBad := storePut s.span.countBad f.address () } }).spanBad
  else if s.closedBy then s
  else s.noteNode f

/-- First output point of a node that the root writes (R358). -/
def State.localOutBase (s : State) : Nat := 0x40000 + s.get Reg.SPAN_LOCAL_LOCAL_OUT_BASE

/-- Lengths of the node's local ranges, which its plate declares (R356). -/
def State.localOut (s : State) : Nat := (s.runPlate.map PlateDesc.localOut).getD 0
def State.localIn (s : State) : Nat := (s.runPlate.map PlateDesc.localIn).getD 0

/-- A node follows its upstream lane (R358): the time base slews towards the header's time stamp and the hop delay, which is at most 1.5 µs
(R357); what the node measures as the delay is free, since the manual gives no arrival of its own frames at the other end (log entry 6). -/
def State.spanFollow (s : State) (f : SpanFrame) : State :=
  if s.flag Reg.SYS_BOARD_STAT_REFCLK_BAD then s
  else
    let d := s.draw 32
    let hop := d.1 % 1501
    let rate : Int := match s.span.upLast with
      | some (t, r) => if t < f.time then (((f.time : Int) - t) - ((s.now : Int) - r)) * 1000000000 / ((f.time : Int) - t) else 0
      | none => 0
    let t : State := { d.2 with span := { d.2.span with hop := hop, upLast := some (f.time, s.now) } }
    t.slewTo ((s.now : Int) - (f.time + hop : Nat)) rate

/-- The lanes on which a node passes on a frame that came in on lane `l`: a chain or ring goes on the other way, a tree from the upstream lane to
every downstream lane and back (R353, R355). -/
def State.forwardLanes (s : State) (l : Nat) : List Nat :=
  (match s.get Reg.SPAN_CFG_STRAPS with
    | 1 => if l = 2 then [3] else [2]
    | _ => if l = 0 then [1, 2, 3] else [0]).filter s.laneUp

/-- Output frames are passed on in address order, input frames in order of arrival (R357). -/
def insertForward (f : SpanFrame) : List SpanFrame → List SpanFrame
  | [] => [f]
  | g :: t => if f.output && g.output && decide (f.lane = g.lane ∧ f.address < g.address) then f :: g :: t else g :: insertForward f t

/-- Pass a frame on (R357). -/
def State.spanForward (s : State) (f : SpanFrame) : State :=
  { s with span := { s.span with forwarded := (s.forwardLanes f.lane).foldl (fun l k => insertForward { f with lane := k } l) s.span.forwarded } }

/-- A node takes its output record: the points and its image take the values, and its station output frames leave with the root's claim
(R358). -/
def State.nodeTake (s : State) (f : SpanFrame) : State :=
  let t := (f.values.zipIdx).foldl (fun u e => u.deliver (u.localOutBase + e.2) e.1 (qual 0)) s
  let img := (List.range f.values.length).foldl (fun st k =>
    storeSet st (t.localOutBase + k) (t.point (t.localOutBase + k)) (pointDefault t.variant (t.localOutBase + k))) t.pump.image
  let u := { t with pump := { t.pump with image := img },
                    span := { t.span with upSeen := true, upAt := t.now, upClaim := f.claim } }
  ((u.setFlag Reg.SPAN_STAT_UP_LOST false).sendFrames f.claim.toNat).spanFollow f

/-- A span frame at a node: checked, forwarded when addressed elsewhere (R356, R357). -/
def State.nodeRx (s : State) (f : SpanFrame) : State :=
  if !f.crcOk ∨ f.cycle.toNat ≠ s.n % 4294967296 then s.spanBad
  else if !f.output ∨ f.address ≠ s.get Reg.SPAN_CFG_ADDRESS then
    s.spanForward f
  else if f.values.length ≠ s.localOut then s.spanBad
  else if s.span.upSeen || !s.upLanes.contains f.lane then s
  else s.nodeTake f

/-- SPAN_FRAME_RX (R356). -/
def State.spanFrameRx (s : State) (f : SpanFrame) : State :=
  if !(s.running && s.spanOn && s.spanLanes.contains f.lane && s.laneUp f.lane) then s
  else if s.spanRoot then s.rootRx f else s.nodeRx f

/-- A node without an output record in the present cycle (R358). -/
def State.spanUpLost (s : State) : State :=
  if s.running && s.spanNode && !s.span.upSeen && !s.flag Reg.SPAN_STAT_UP_LOST then
    (s.setFlag Reg.SPAN_STAT_UP_LOST true).raise 0x0D05
  else s

/-! ## The close (R359, R363) -/

/-- First device point of a node. -/
def nodePoint (a : Nat) : Nat := 0xE6400 + 4 * a

/-- STATE of a node at the close: SINGLE on a ring when only one direction delivered. -/
def State.nodeState (s : State) (c : NodeCopy) : Nat :=
  if s.get Reg.SPAN_CFG_TOPO = 2 ∧ ¬(c.from2 = true ∧ c.from3 = true) then 2 else 1

/-- One node at the root's close (R359, R363). -/
def State.closeNode (s : State) (on : List Nat) (a : Nat) : State :=
  let b := nodePoint a
  let was := (s.point b).value.toNat
  let lost := (s.point (b + 1)).value.toNat
  let crc := (storeFind s.span.crcBad a).isSome
  let cnt := (storeFind s.span.countBad a).isSome
  if !on.contains a then s.putAll [(b, 0), (b + 1, lost), (b + 2, 0), (b + 3, 0)]
  else match storeFind s.span.nodes a with
    | some c =>
      let t := s.writeEntries (s.get Reg.SPAN_NODE_IN_IN_BASE a) id c.entries
      let t := t.putAll [(b, s.nodeState c), (b + 1, lost), (b + 2, Config.spanDepth a),
        (b + 3, ofBits [c.from3, c.from2, crc, cnt, decide (c.echo.toNat = s.frameClaim)])]
      if was = 3 then t.raise 0x0D02 else t
    | none =>
      let t := s.loseRange (s.get Reg.SPAN_NODE_IN_IN_BASE a) (s.get Reg.SPAN_NODE_IN_IN_COUNT a)
      let t := t.putAll [(b, 3), (b + 1, satInc 32 lost), (b + 2, Config.spanDepth a), (b + 3, ofBits [false, false, crc, cnt, false])]
      if was = 3 then t else t.raise 0x0D01

/-- The ring is broken: a node that delivered did so from one direction only, or not at all (R363, R364). -/
def State.spanRingBroken (s : State) : Bool :=
  s.spanRoot && decide (s.get Reg.SPAN_CFG_TOPO = 2) && s.nodes.any (fun a =>
    match storeFind s.span.nodes a with
    | some c => !(c.from2 && c.from3)
    | none => true)

/-- The points that describe the part itself (R363). -/
def State.spanOwnPoints (s : State) : State :=
  let role := if s.spanRoot then 1 else if s.spanNode then 2 else 0
  let addr := s.get Reg.SPAN_CFG_ADDRESS
  s.putAll [(0xE6400, role), (0xE6401, addr), (0xE6402, if role = 2 then Config.spanDepth addr else 0),
    (0xE6403, ofBits [s.flag Reg.SPAN_STAT_UP_LOST, s.span.ringBroken, s.flag Reg.SPAN_STAT_CFG_BAD])]

/-- ECHO of a node's input record (R362): the claim that more than half of its delivering stations echo, else 0. -/
def State.nodeEcho (s : State) : Nat := (majority s.stationEchoes).getD 0

/-- The input record that a node sends upstream within 1 µs of its close (R358). -/
def State.nodeSend (s : State) : State :=
  if s.spanNode then
    let base := s.get Reg.SPAN_LOCAL_LOCAL_IN_BASE
    let entries := (List.range s.localIn).map (fun k => ((s.point (base + k)).value, (s.point (base + k)).quality))
    let f := fun (l : Nat) => ({ lane := l, crcOk := true, output := false, sender := s.get Reg.SPAN_CFG_ADDRESS,
                                 address := s.get Reg.SPAN_CFG_ADDRESS, claim := s.span.upClaim, cycle := BitVec.ofNat 32 s.n,
                                 time := s.now, echo := BitVec.ofNat 16 s.nodeEcho, values := [], entries := entries } : SpanFrame)
    { s with span := { s.span with sent := s.span.sent ++ (s.upLanes.filter s.laneUp).map f } }
  else s

/-- The span at a close of the input window (R358, R359, R363). -/
def State.closeSpan (s : State) : State :=
  let on := if s.spanRoot then s.nodes else []
  let t := (List.range 63).foldl (fun u k => u.closeNode on (k + 1)) s
  let broken := s.spanRingBroken
  let u := { t with span := { t.span with ringBroken := broken } }
  let u := if broken ∧ !s.span.ringBroken then u.raise 0x0D03 else u
  u.nodeSend.spanOwnPoints

/-- At a boundary, the new cycle has received and sent nothing. -/
def State.spanNewCycle (s : State) : State :=
  { s with span := { s.span with nodes := [], crcBad := [], countBad := [], upSeen := false, sent := [], forwarded := [] } }

/-- The echoes that the count of R346 takes: one for each station and node that delivered (R362). -/
def State.echoes (s : State) : List Nat := s.stationEchoes ++ s.span.nodes.map (fun e => e.2.echo.toNat)

/-! ## The bound on a span (R360) -/

/-- Wire time of a span frame of L bytes in 0.1 ns (R356). -/
def spanWire (len : Nat) : Nat := (len + 20) * 8

/-- The nodes that share the root lane of node a. -/
def State.laneMates (s : State) (a : Nat) : List Nat :=
  if s.get Reg.SPAN_CFG_TOPO = 3 then s.nodes.filter (fun b => decide (Config.spanLane b = Config.spanLane a)) else s.nodes

/-- R360 for one node, in 0.1 ns. -/
def State.spanFits (s : State) (a : Nat) : Bool :=
  let l := s.laneMates a
  let o := (l.map (fun b => spanWire (32 + 4 + 4 * s.get Reg.SPAN_NODE_OUT_OUT_COUNT b + 4))).foldl (· + ·) 0
  let i := (l.map (fun b => spanWire (32 + 4 + 4 + 5 * s.get Reg.SPAN_NODE_IN_IN_COUNT b + 4))).foldl (· + ·) 0
  decide (10000 + o + 15000 * Config.spanDepth a + 10000 + 10 * Config.nodeRingSpan a + 10000 + i + 15000 * Config.spanDepth a + 20000
    ≤ 10 * s.inputWin)

/-- R360 for every enabled node of a root. -/
def State.spanAllFit (s : State) : Bool := !s.spanRoot || s.nodes.all s.spanFits

def execSpanFrameRx (f : SpanFrame) (s : State) : Host.Outcome State Fault Refusal := .next (s.spanFrameRx f)

def execSpanUpLost (s : State) : Host.Outcome State Fault Refusal := .next s.spanUpLost

/-! ## Station input copies (R162, R166) -/

/-- A copy that reached the station link (R162). -/
def State.stationCopy (s : State) (f : StationFrame) : State :=
  if !copyCrcOk f then
    let t := if s.stationKnown f then { s with stn := { s.stn with crcBad := storePut s.stn.crcBad f.station () } } else s
    t.stnBad
  else if ¬ (f.version = 1 ∧ f.kind = 2) ∨ s.stationKnown f = false ∨ f.entries.length ≠ s.get Reg.STN_ST_IN_IN_COUNT f.station then s.stnBad
  else if f.cycle.toNat ≠ s.n % 4294967296 ∨ s.closedBy = true then s.count Reg.STN_LATE_CNT_COUNT
  else s.noteCopy f

/-- STATION_INPUT_FRAME (R162): classified like any other frame; one that no rule delivers to the station link never gets there (R152, R157). -/
def State.stationInput (s : State) (f : StationFrame) : State :=
  if !s.portsUp ∨ 16 ≤ f.port then s
  else if s.stationRouted f then s.stationCopy f
  else s.frameTake (s.stationEth f)

def execStationInputFrame (f : StationFrame) (s : State) : Host.Outcome State Fault Refusal := .next (s.stationInput f)

end Sys2Proof.Machine
end

