-- ==== Sys2Proof/Machine/Safe.lean ====
section
/-! DEFINITION. The safety block (R365 to R377): outputs, trip inputs, runaway monitors, resets and the restart interlock, the stipple test, and
the GPIO outputs of R456. -/

namespace Sys2Proof.Machine

/-! ## Outputs (R365, R366) -/

/-- Groups tripped by a latched trip input or monitor (R367, R369, R370). -/
def State.tripped (s : State) : Nat := (s.safe.tripLatch ++ s.safe.runLatch).foldl (fun m e => m ||| e.2) 0

/-- The part's own claim has ACTIVE = 1. -/
def State.active (s : State) : Bool := decide (s.role = 2)

/-- The part drives its balls: from DONE on, and bank A has its supply (R384, R405, R416). -/
def State.drivesA (s : State) : Bool := (s.running || decide (s.mode = .done)) && !s.flag Reg.PWR_STAT_VIO_A_LOW

/-- Whether output i is energised (R365). -/
def State.wantHigh (s : State) (i : Nat) : Bool :=
  s.drivesA && bitAt s.safe.cmd i && !bitAt s.tripped (s.get Reg.SAFE_OUT_CFG_GROUP i)
    && !bitAt s.safe.disc i && (!s.flag Reg.SAFE_OUT_CFG_GATE i || s.active) && s.flag Reg.SAFE_OUT_CFG_USE i

/-- Apply R365 to every output: changes are noted for FB_SETTLE, a pulse of an output that turns off ends without a check, and its pulses due are
skipped (R374). -/
def State.safeRefresh (s : State) : State :=
  let high := ofBits ((List.range 32).map s.wantHigh)
  let changed := (List.range 32).foldl (fun st i => if bitAt high i = bitAt s.safe.high i then st else storePut st i s.now) s.safe.changed
  { s with safe := { s.safe with high := high, changed := changed, pulsing := s.safe.pulsing.filter (fun i => bitAt high i),
                                 repeats := s.safe.repeats.filter (fun e => bitAt high e.1),
                                 waiting := s.safe.waiting.filter (fun i => bitAt high i) } }

/-- The level of every output: an output in its pulse is low (R374). -/
def State.outLevels (s : State) : Nat :=
  match s.safe.pulsing with
  | some i => if bitAt s.safe.high i then s.safe.high - 2 ^ i else s.safe.high
  | none => s.safe.high

/-- OUT_CMD as read at the last freeze is in force from the boundary on, for the outputs whose restart interlock is satisfied (R365, R366). -/
def State.safeBoundary (s : State) : State := ({ s with safe := { s.safe with cmd := s.safe.cmdRead &&& s.safe.interlock } }).safeRefresh

/-! ## Trip inputs (R367 to R369) -/

/-- A trip of input n latches its groups (R369). -/
def State.tripLatchIn (s : State) (n : Nat) : State :=
  if s.flag (Reg.SAFE_TRIP_CFG_ENABLE.at n) && (storeFind s.safe.tripLatch n).isNone then
    let m := s.get (Reg.SAFE_TRIP_CFG_GROUP_MASK.at n)
    (({ s with safe := { s.safe with tripLatch := storePut s.safe.tripLatch n m, tripCnt := satInc 32 s.safe.tripCnt } }).raise
      0x0E01).safeRefresh
  else s

/-- The safety block works from DONE on. -/
def State.safeOn (s : State) : Bool := s.running || decide (s.mode = .done)

/-- A mask without a bit. -/
def clearBit (m i : Nat) : Nat := if bitAt m i then m - 2 ^ i else m

/-- A mask with a bit. -/
def setBit (m i : Nat) : Nat := if bitAt m i then m else m + 2 ^ i

/-- TRIP_INPUT_LOW (R367): input n has been low for longer than FILTER. -/
def State.tripLow (s : State) (n : Nat) : State :=
  if s.safeOn && decide (n < 8) then
    ({ s with safe := { s.safe with tripIn := clearBit s.safe.tripIn n } }).tripLatchIn n
  else s

/-- TRIP_RECEIVER_DISAGREE (R368). -/
def State.tripDisagree (s : State) (n : Nat) : State :=
  if s.safeOn && decide (n < 8) && !bitAt s.safe.tripFault n then
    (({ s with safe := { s.safe with tripFault := setBit s.safe.tripFault n } }).raise 0x0E06).tripLatchIn n
  else s

/-- TRIP_FAULT_CLEAR (R368). -/
def State.tripFaultClear (s : State) (n : Nat) : State :=
  { s with safe := { s.safe with tripFault := clearBit s.safe.tripFault n } }

/-- Every enabled input that reads low or has a fault sets its latch: on leaving reset, and when bank A loses its supply (R369, R405). -/
def State.tripAll (s : State) : State :=
  (List.range 8).foldl (fun t n => if bitAt t.safe.tripIn n && !bitAt t.safe.tripFault n then t else t.tripLatchIn n) s

/-! ## Runaway monitors (R370) -/

/-- |cmd − fb| of monitor m exceeds TOL; with ANGLE the difference is reduced to ±180°. -/
def State.diverges (s : State) (m : Nat) : Bool :=
  let p := s.get Reg.SAFE_RUN_CMD_PT_ADDR m
  let cmd := F64.ofF32 (storeGet s.pump.image p (pointDefault s.variant p)).value
  let fb := F64.ofF32 (s.point (s.get Reg.SAFE_RUN_FB_PT_ADDR m)).value
  let d := F64.sub cmd fb
  let d := if s.flag Reg.SAFE_RUN_CFG_ANGLE m then F64.wrap180 d else d
  F64.lt (F64.ofF32 (BitVec.ofNat 32 (s.get Reg.SAFE_RUN_TOL_TOL m))) (F64.abs d)

def State.runCountOf (s : State) (m : Nat) : Nat := storeGet s.safe.runCount m 0

/-- One monitor at a close of the input window. -/
def State.runCheck (s : State) (m : Nat) : State :=
  if !s.flag Reg.SAFE_RUN_CFG_ENABLE m then s
  else
    let ok := (s.point (s.get Reg.SAFE_RUN_FB_PT_ADDR m)).usable
    let c := s.runCountOf m
    let c' := if !ok then (if s.flag Reg.SAFE_RUN_CFG_QUAL_TRIP m then c + 1 else c) else if s.diverges m then c + 1 else 0
    { s with safe := { s.safe with runCount := storeSet s.safe.runCount m c' 0 } }

/-- Every enabled monitor at a close, after input forces. -/
def State.runChecks (s : State) : State := (List.range 32).foldl State.runCheck s

/-- RUNAWAY_STOP (R370): a monitor whose count has reached TIME latches. -/
def State.runawayStop (s : State) (m : Nat) : State :=
  if s.flag Reg.SAFE_RUN_CFG_ENABLE m && decide (s.get Reg.SAFE_RUN_CFG_TIME m ≤ s.runCountOf m)
      && (storeFind s.safe.runLatch m).isNone then
    (({ s with safe := { s.safe with runLatch := storePut s.safe.runLatch m (s.get Reg.SAFE_RUN_CFG_GROUP_MASK m) } }).raise
      0x0E03).safeRefresh
  else s

/-- Every monitor whose stop is due. -/
def State.runStops (s : State) : State := (List.range 32).foldl State.runawayStop s

/-! ## Resets (R371, R372) -/

/-- Outputs whose latch has cleared take the restart interlock afresh (R371). -/
def State.reinterlock (s : State) (before : Nat → Bool) (after : Nat → Bool) : State :=
  let lost := ofBits ((List.range 32).map (fun i => bitAt s.safe.interlock i && !(before i && !after i)))
  { s with safe := { s.safe with interlock := lost, cmd := s.safe.cmd &&& lost } }

/-- A trip reset: latches of inputs that are high without a fault and of monitors whose count is 0 clear. -/
def State.tripReset (s : State) : State :=
  let keepIn := s.safe.tripLatch.filter (fun e => !bitAt s.safe.tripIn e.1 || bitAt s.safe.tripFault e.1)
  let keepRun := s.safe.runLatch.filter (fun e => decide (s.runCountOf e.1 ≠ 0))
  let cleared := s.safe.tripLatch.length + s.safe.runLatch.length - keepIn.length - keepRun.length
  let t := { s with safe := { s.safe with tripLatch := keepIn, runLatch := keepRun } }
  let grp := fun (i : Nat) => s.get Reg.SAFE_OUT_CFG_GROUP i
  let u := t.reinterlock (fun i => bitAt s.tripped (grp i)) (fun i => bitAt t.tripped (grp i))
  (List.range cleared).foldl (fun x _ => x.raise 0x0E02) u

/-- A discrepancy reset: latches of outputs that read back low, as commanded, clear. -/
def State.discReset (s : State) : State :=
  let keep := ofBits ((List.range 32).map (fun i => bitAt s.safe.disc i && bitAt s.safe.fb i))
  let cleared := (List.range 32).filter (fun i => bitAt s.safe.disc i && !bitAt keep i)
  let t := { s with safe := { s.safe with disc := keep, alarm := decide (keep ≠ 0) } }
  let u := t.reinterlock (fun i => bitAt s.safe.disc i) (fun i => bitAt keep i)
  cleared.foldl (fun x _ => x.raise 0x0E05) u

/-- SAFE_CMD.TRIP_RESET (R372): acts at the next freeze. -/
def State.safeTripReset (s : State) : Status × State := (.done, { s with safe := { s.safe with hostTrip := true } })

/-- SAFE_CMD.DISC_RESET (R372). -/
def State.safeDiscReset (s : State) : Status × State := (.done, { s with safe := { s.safe with hostDisc := true } })

/-- The levels of trip inputs and read-backs as the part reads them at the reserve instant; with bank A unpowered they read low (R405). -/
def State.safeLevels (s : State) (trip fb : Nat) : State :=
  let low := s.flag Reg.PWR_STAT_VIO_A_LOW
  { s with safe := { s.safe with tripIn := if low then 0 else trip % 256, fb := if low then 0 else fb % 4294967296 } }

/-- The safety block at a freeze (R371, R372): reset requests act, then OUT_CMD is read. -/
def State.safeFreeze (s : State) : State :=
  let r := (s.point 0xE6101).value.toNat
  let rise := fun (b : Nat) => bitAt r b && !bitAt s.safe.resetPt b
  let t := if s.safe.hostTrip || rise 0 then s.tripReset else s
  let t := if s.safe.hostDisc || rise 1 then t.discReset else t
  let cmd := (s.point 0xE6100).value.toNat
  let il := ofBits ((List.range 32).map (fun i => bitAt t.safe.interlock i || !bitAt cmd i))
  (({ t with safe := { t.safe with resetPt := r, hostTrip := false, hostDisc := false, cmdRead := cmd, interlock := il } }).safeRefresh).healthCheck

/-- The status points (R376). -/
def State.safePoints (s : State) : State :=
  let run := ofBits ((List.range 32).map (fun m => (storeFind s.safe.runLatch m).isSome))
  s.putAll [(0xE6102, s.outLevels), (0xE6103, s.safe.fb), (0xE6104, s.tripped + 256 * s.safe.tripIn + 65536 * s.safe.tripFault),
    (0xE6105, s.safe.disc), (0xE6106, run), (0xE6107, s.safe.tripCnt), (0xE6108, s.safe.discCnt), (0xE6109, s.safe.pulses)]

/-! ## The stipple test (R374) -/

/-- Latch an output off for a discrepancy. -/
def State.discLatch (s : State) (i : Nat) : State :=
  let f := { s.safe with disc := setBit s.safe.disc i, discCnt := satInc 32 s.safe.discCnt, alarm := true,
                         failed := storeDel s.safe.failed i, repeats := storeDel s.safe.repeats i }
  ((({ s with safe := f }).raise 0x0E04).safeRefresh).healthCheck

/-- A check of output i: four consecutive failures latch it off; a failed pulse is repeated. -/
def State.stippleResult (s : State) (i : Nat) (ok pulse : Bool) : State :=
  if bitAt s.safe.disc i then s
  else if ok then
    { s with safe := { s.safe with failed := storeDel s.safe.failed i, repeats := storeDel s.safe.repeats i } }
  else
    let k := storeGet s.safe.failed i 0 + 1
    if 4 ≤ k then s.discLatch i
    else { s with safe := { s.safe with failed := storePut s.safe.failed i k,
                                        repeats := if pulse then storePut s.safe.repeats i () else s.safe.repeats } }

/-- A pulse of output i starts. -/
def State.pulseStart (s : State) (i : Nat) : State :=
  { s with safe := { s.safe with pulsing := some i, changed := storePut s.safe.changed i s.now,
                                 waiting := s.safe.waiting.filter (fun j => decide (j ≠ i)) } }

/-- PERIOD in ns. -/
def State.pulsePeriod (s : State) : Nat := s.get Reg.SAFE_STIPPLE_CFG_PERIOD * 10000000

/-- The first instant t from the start of the present cycle on with (t − i × PERIOD / 32) mod PERIOD = 0 (R374). -/
def State.pulseInstant (s : State) (i : Nat) : Nat :=
  let p := max 1 s.pulsePeriod
  let r := (s.bnd + p - i * p / 32 % p) % p
  if r = 0 then s.bnd else s.bnd + (p - r)

/-- The next instant of the 500 µs grid of the time base (R374). -/
def State.gridInstant (s : State) : Nat := (s.now + 499999) / 500000 * 500000

/-- The regular pulse of an output, at its instant in the present cycle; while a failed pulse is to be repeated it waits (R374). -/
def State.regularPulse (s : State) (i : Nat) : State :=
  let at_ := s.pulseInstant i
  if s.nextBnd ≤ at_ ∨ storeFind s.safe.pulsed i = some at_ then s
  else
    let t := s.advanceTo at_
    let u : State := { t with safe := { t.safe with pulsed := storePut t.safe.pulsed i at_ } }
    if u.safe.pulsing.isNone && u.safe.repeats.isEmpty then u.pulseStart i
    else { u with safe := { u.safe with waiting := u.safe.waiting ++ [i] } }

/-- STIPPLE_PULSE (R374): skipped while the output is off; a failed pulse is repeated at the next instant of the grid. -/
def State.stipplePulse (s : State) (i : Nat) : State :=
  if !(bitAt s.safe.high i && s.flag Reg.SAFE_OUT_CFG_STIPPLE_EN i) || decide (s.safe.pulsing = some i) || s.safe.waiting.contains i then s
  else if (storeFind s.safe.repeats i).isSome then
    if s.safe.pulsing.isNone then (s.advanceTo s.gridInstant).pulseStart i else s
  else s.regularPulse i

/-- The pulse that waited for a repeat starts once none is left. -/
def State.pulseNext (s : State) : State :=
  match s.safe.waiting with
  | i :: _ => if s.safe.pulsing.isNone && s.safe.repeats.isEmpty then s.pulseStart i else s
  | [] => s

/-- STIPPLE_CHECK (R374): the pulse ends PULSE after it began, and the feedback must read low. -/
def State.stippleCheck (s : State) (i : Nat) (fbHigh : Bool) : State :=
  if s.safe.pulsing = some i then
    let t := s.advanceTo (storeGet s.safe.changed i s.now + s.get Reg.SAFE_STIPPLE_CFG_PULSE * 1000)
    let fb := if fbHigh then setBit t.safe.fb i else clearBit t.safe.fb i
    (({ t with safe := { t.safe with pulsing := none, changed := storePut t.safe.changed i t.now, fb := fb,
                                     pulses := (t.safe.pulses + 1) % 4294967296 } }).stippleResult i (!fbHigh) true).pulseNext
  else s

/-- One output on the 500 µs grid: not in its pulse, not about to repeat it, not within FB_SETTLE of a change. -/
def State.gridCheck (s : State) (i : Nat) : State :=
  let settle := s.get Reg.SAFE_STIPPLE_CFG_FB_SETTLE * 1000
  if !s.flag Reg.SAFE_OUT_CFG_USE i || decide (s.safe.pulsing = some i) || (storeFind s.safe.repeats i).isSome
      || (storeFind s.safe.changed i).any (fun t => decide (s.now < t + settle)) then s
  else s.stippleResult i (decide (bitAt s.safe.fb i = bitAt s.safe.high i)) false

/-- FEEDBACK_GRID_CHECK (R374): at the next instant of the 500 µs grid. -/
def State.feedbackGrid (s : State) (fb : Nat) : State :=
  if s.safeOn then
    let t := s.advanceTo s.gridInstant
    let u := t.safeLevels t.safe.tripIn fb
    (List.range 32).foldl State.gridCheck u
  else s

/-! ## GPIO outputs (R456) -/

/-- GPIO outputs at a boundary: driven from the frozen image once there is one, gated by ACTIVE with GPIO_GATE. -/
def State.gpioDrive (s : State) : State :=
  let p := s.get Reg.SYS_GPIO_OUT_GPIO_OUT_PT
  let v := (storeGet s.pump.image p (pointDefault s.variant p)).value
  let on := s.drivesA && s.flag Reg.SYS_GPIO_OUT_GPIO_OUT_EN && s.pump.imageValid && (!s.flag Reg.SYS_GPIO_OUT_GPIO_GATE || s.active)
  { s with time := { s.time with gpioDriven := on,
                                 gpioOut := if on then v &&& BitVec.ofNat 32 (s.get Reg.SYS_GPIO_DIR_DIR) else 0 } }

/-- What a hardware reset leaves of the safety block (R373): every latch clears, and every output takes the restart interlock. -/
def State.safeReset (s : State) : State := { s with safe := { tripIn := s.safe.tripIn } }

def execTripInputLow (input : Nat) (s : State) : Host.Outcome State Fault Refusal := .next (s.tripLow input)

def execTripReceiverDisagree (input : Nat) (s : State) : Host.Outcome State Fault Refusal := .next (s.tripDisagree input)

def execTripFaultClear (input : Nat) (s : State) : Host.Outcome State Fault Refusal := .next (s.tripFaultClear input)

def execRunawayStop (monitor : Nat) (s : State) : Host.Outcome State Fault Refusal := .next (s.runawayStop monitor)

def execStipplePulse (out : Nat) (s : State) : Host.Outcome State Fault Refusal := .next (s.stipplePulse out)

def execStippleCheck (out : Nat) (fbHigh : Bool) (s : State) : Host.Outcome State Fault Refusal := .next (s.stippleCheck out fbHigh)

def execFeedbackGridCheck (fb : Word) (s : State) : Host.Outcome State Fault Refusal := .next (s.feedbackGrid fb.toNat)

end Sys2Proof.Machine
end

