-- ==== Sys2Proof/Machine/Plate.lean ====
section
/-! DEFINITION. Forces (R128 to R134), plate slots and their commands (R135 to R138, R142, R144), the swap and the revert (R139 to R141, R145), the
execution budget (R86 to R88, R334, R336). -/

namespace Sys2Proof.Machine

/-! ## The budget (R86 to R88, R334, R336) -/

/-- What of T_p the budget B leaves out, ns (R86). -/
def State.budgetCut (s : State) : Nat := s.inputWin + 10240 + 8000 + s.outReserve

/-- PROOF_LIMIT and FWD_LIMIT in bytes (R334). -/
def State.proofLimit (s : State) : Nat := min 1048576 (1200 * (s.inputWin + s.outReserve - 10000) / 1000)
def State.fwdLimit (s : State) : Nat := min 1048576 (1200 * (s.tp - 10000) / 1000)

/-- The bounds of a plate fit the group's links (R336). -/
def State.meetsProof (s : State) (p : PlateDesc) : Bool := !s.grouped || decide (p.proofBound ≤ s.proofLimit ∧ p.fwdBound ≤ s.fwdLimit)

/-- A plate meets R87 against the live B (R88). -/
def State.meetsBudget (s : State) (p : PlateDesc) : Bool :=
  decide (p.wcetFast + p.wcetHold + s.budgetCut ≤ s.tp) && decide (250 * p.loopsDue + s.budgetCut ≤ s.tp) && s.meetsProof p

/-- The swap budget: M + WCET(FAST) ≤ B, WCET(HOLD) added when K = 1 (R138). -/
def State.meetsSwap (s : State) (p : PlateDesc) : Bool :=
  let m := (p.map.map InstanceMap.migrateNs).getD 0
  decide (m + p.wcetFast + (if s.kHold = 1 then p.wcetHold else 0) + s.budgetCut ≤ s.tp)

/-! ## Instances (R127) -/

/-- Counter and edge instances as a plate declares them. -/
def initInstances (p : PlateDesc) : Instances :=
  { timers := [], counters := p.counterInit.foldl (fun st e => storeSet st e.1 { cv := e.2 } {}) [],
    edges := p.edgeInit.foldl (fun st e => storeSet st e.1 e.2 false) [] }

/-! ## Forces (R128 to R134) -/

/-- The valid force entries, in order. -/
def State.forceEntries (s : State) : List Nat := s.instancesOf Reg.FORCE_ENT_ADDR_VALID

/-- The quality byte of an entry: the class that goes with a reason up to 0x0D, else as written (R129). -/
def State.forceQuality (s : State) (e : Nat) : Byte :=
  let q := s.get Reg.FORCE_ENT_QUAL_QUALITY e
  (storedQuality (BitVec.ofNat 32 q)).getD (BitVec.ofNat 8 q)

/-- Write one force over its point: value, quality, FORCED, stamp (R128). -/
def State.forceWrite (s : State) (e : Nat) : State :=
  let p := s.get Reg.FORCE_ENT_ADDR_POINT e
  s.setPoint p { s.point p with value := BitVec.ofNat 32 (s.get Reg.FORCE_ENT_VALUE_VALUE e),
                                quality := s.forceQuality e, forced := true, stamp := s.stamp }

/-- Apply every force of an area: input forces at step 3, output forces at step 6 (R128); none in REPLAY (R433). -/
def State.forceApply (s : State) (a : Area) : State :=
  if s.mode = .replay then s
  else (s.forceEntries.filter (fun e => decide (areaOf (s.get Reg.FORCE_ENT_ADDR_POINT e) = a))).foldl State.forceWrite s

/-- An entry leaves its point: FORCED and ORPHAN clear; an ORPHAN point reads as undeclared (R131). -/
def State.forceLeave (s : State) (p : Nat) : State :=
  if (s.point p).orphan then { s with points := storeDel s.points p }
  else s.setPoint p { s.point p with forced := false, orphan := false }

/-- Remove an entry (R131). -/
def State.forceRemove (s : State) (e : Nat) : State :=
  let p := s.get Reg.FORCE_ENT_ADDR_POINT e
  (((s.setFlag Reg.FORCE_ENT_ADDR_VALID false e).setFlag Reg.FORCE_ENT_QUAL_ORPHAN false e)).forceLeave p

/-- CLR_ALL at its application instant: every entry is removed (R131). -/
def State.forceClear (s : State) : State :=
  let t := s.forceEntries.foldl State.forceRemove s
  { t with wlog := { t.wlog with forceClear := true, forces := [] } }

/-- The whole table is cleared without a proof record, at a cold restart (R134). -/
def State.forceReset (s : State) : State := s.forceEntries.foldl State.forceRemove s

/-- ORPHAN of an entry and its point. -/
def State.forceOrphan (s : State) (e : Nat) (b : Bool) : State :=
  let p := s.get Reg.FORCE_ENT_ADDR_POINT e
  (s.setPoint p { s.point p with orphan := b }).setFlag Reg.FORCE_ENT_QUAL_ORPHAN b e

/-- An entry at a swap to a plate with these declarations (R140). -/
def State.forceSwap (s : State) (decls : List PointDecl) (e : Nat) : State :=
  match declOf decls (s.get Reg.FORCE_ENT_ADDR_POINT e) with
  | none => if s.flag Reg.FORCE_ENT_QUAL_ORPHAN e then s else (s.forceOrphan e true).raise 0x0402
  | some d =>
    if d.type = s.get Reg.FORCE_ENT_QUAL_TYPE e then s.forceOrphan e false
    else
      let t := (s.setFlag Reg.FORCE_ENT_ADDR_VALID false e).setFlag Reg.FORCE_ENT_QUAL_ORPHAN false e
      (t.setPoint d.addr (initPoint d)).raise 0x0403

/-- The image points that a valid force entry holds. -/
def State.forcedPoints (s : State) : List Nat := s.forceEntries.map (fun e => s.get Reg.FORCE_ENT_ADDR_POINT e)

/-! ## Swap and revert (R139 to R141) -/

def State.slotState (s : State) : Nat := s.get Reg.PLATE_STAT_SLOT_STATE

/-- Cancel an armed swap. -/
def PlateState.disarm (p : PlateState) : PlateState :=
  { p with armReq := none, swapAt := none, accepts := [], refused := false, confirmed := false, announced := false, announceNow := false }

/-- An instance map entry that carries: equal kinds, or both counters (R146). -/
def carryOk (e : MapEntry) : Bool :=
  decide (e.action ≠ 0) || decide (e.oldKind = e.newKind)
    || decide (4 ≤ e.oldKind ∧ e.oldKind ≤ 6) && decide (4 ≤ e.newKind ∧ e.newKind ≤ 6)

/-- The 8 bytes of a map entry (R146). -/
def mapEntryBytes (e : MapEntry) : List Nat :=
  leBytes 2 e.oldIndex ++ leBytes 2 e.newIndex ++ [e.area % 256, e.oldKind % 256, e.newKind % 256, e.action % 256]

/-- No element of a list comes twice. -/
def noRepeats (l : List (Nat × Nat)) : Bool := decide (l.eraseDups.length = l.length)

/-- Neighbours of a list stand in order. -/
def inOrder (le : MapEntry → MapEntry → Bool) : List MapEntry → Bool
  | a :: b :: t => le a b && inOrder le (b :: t)
  | _ => true

/-- The structure of an instance map of plate `id` (R146): MAGIC, VERSION, NEW_PLATE_ID, ENTRY_COUNT, the order of its entries, no index repeated
within an area on either side. -/
def mapWell (id : Word) (m : InstanceMap) : Bool :=
  decide (m.magic = 0x4D415031 ∧ m.version = 1 ∧ m.newPlateId = id ∧ m.entryCount = m.entries.length ∧ m.entryCount ≤ 131072)
    && inOrder (fun a b => decide (a.area < b.area ∨ a.area = b.area ∧ a.newIndex ≤ b.newIndex)) m.entries
    && noRepeats (m.entries.map (fun e => (e.area, e.newIndex))) && noRepeats (m.entries.map (fun e => (e.area, e.oldIndex)))

/-- The CRC-32C of an instance map holds over its entries (R137, R146). -/
def mapCrcOk (m : InstanceMap) : Bool := decide (m.crc = BitVec.ofNat 32 (crc32c (m.entries.flatMap mapEntryBytes)))

/-- The program blocks of a plate (R80, R99): FAST's entry block is there, HOLD's and SLOW's where the plate has these tasks, block numbers (none twice), lengths
and their sum lie in their ranges. -/
def blocksWell (p : PlateDesc) : Bool :=
  let has (b : Nat) : Bool := p.blocks.any (fun e => decide (e.1 = b))
  has 0 && (!p.hasHold || has 1) && (!p.hasSlow || has 2) && p.blocks.all (fun e => decide (e.1 ≤ 65535 ∧ e.2 ≤ 1048576))
    && decide ((p.blocks.map Prod.snd).sum ≤ 4194304) && noRepeats (p.blocks.map (fun e => (0, e.1)))

/-- Copy one instance record from an instance area into another (R139). -/
def carryInst (src dst : Instances) (kind a b : Nat) : Instances :=
  if kind = 7 then { dst with edges := storeSet dst.edges b (storeGet src.edges a false) false }
  else if kind ≤ 3 then { dst with timers := storeSet dst.timers b (storeGet src.timers a {}) {} }
  else { dst with counters := storeSet dst.counters b (storeGet src.counters a {}) {} }

/-- The instances after a swap: initial values, then the records carried (R127, R139). -/
def swapInst (old : Instances) (p : PlateDesc) : Instances :=
  (((p.map.map InstanceMap.entries).getD []).filter (fun e => decide (e.action = 0))).foldl
    (fun d e => carryInst old d e.newKind e.oldIndex e.newIndex) (initInstances p)

/-- The instances after a revert: those that the swap discarded as they were at t_p(s), the carried ones back through the map (R141). -/
def revertInst (kept now : Instances) (p : PlateDesc) : Instances :=
  (((p.map.map InstanceMap.entries).getD []).filter (fun e => decide (e.action = 0))).foldl
    (fun d e => carryInst now d e.oldKind e.newIndex e.oldIndex) kept

/-- The points when the declarations change: initial values for points declared for the first time or with another type, none for points no
longer declared unless a force keeps them (R139, R140). -/
def State.swapPoints (s : State) (old new : List PointDecl) : State :=
  let gone := (old.filter (fun d => (declOf new d.addr).isNone)).filter (fun d => !s.forcedPoints.contains d.addr)
  let t := gone.foldl (fun u d => u.setPoint d.addr (pointDefault u.variant d.addr)) s
  new.foldl (fun u d =>
    if areaOf d.addr = .device ∨ populated u.variant d.addr = false then u
    else match declOf old d.addr with
      | some o => if o.type = d.type then u else u.setPoint d.addr { initPoint d with forced := (u.point d.addr).forced }
      | none => if (u.point d.addr).orphan then u else u.setPoint d.addr (initPoint d)) t

/-- What swap and revert have in common: points, forces, slots; a suspended SLOW scan is abandoned (R139 to R141). -/
def State.changePlate (s : State) (dst : Nat) (inst : Instances) (slotState : Nat) : State :=
  match s.slotPlate s.runSlot, s.slotPlate dst with
  | some o, some p =>
    let t := (s.swapPoints o.decls p.decls)
    let t := t.forceEntries.foldl (fun u e => u.forceSwap p.decls e) t
    let pump := { t.pump with inst := inst, slow := { block := 2 }, slowOpen := false }
    ((({ t with pump := pump }).set Reg.PLATE_STAT_RUN_SLOT dst).set Reg.PLATE_STAT_SLOT_STATE slotState).set Reg.PLATE_NEW_ID_ID o.id.toNat
  | _, _ => s

/-- The swap of cycle s (R139); it takes MIGRATE_NS of slow-corner time (R138). -/
def State.doSwap (s : State) : State :=
  match s.slotPlate s.freeSlot with
  | none => s
  | some p =>
    let old := s.pump.inst
    let t := s.changePlate s.freeSlot (swapInst old p) 5
    ({ t with plate := { t.plate with swapAt := none, swappedAt := t.n, oldInst := old, announced := false, accepts := [], refused := false,
                                      confirmed := false } }).advance (t.paced ((p.map.map InstanceMap.migrateNs).getD 0))

/-- The revert of cycle c + 2 (R141). -/
def State.doRevert (s : State) : State :=
  match s.slotPlate s.runSlot with
  | none => s
  | some p =>
    let t := s.changePlate s.freeSlot (revertInst s.plate.oldInst s.pump.inst p) 3
    ({ t with plate := { t.plate with revertAt := none, oldInst := {} } }).advance (t.paced ((p.map.map InstanceMap.revertNs).getD 0))

/-- The part may swap: a STANDBY only with the active's CONFIRM (R145). -/
def State.maySwap (s : State) : Bool := !(s.grouped && decide (s.role = 1)) || s.plate.confirmed

/-- An armed plate returns to VERIFIED (R145). -/
def State.swapCancelled (s : State) : State :=
  if s.slotState = 4 then ({ s with plate := s.plate.disarm }).set Reg.PLATE_STAT_SLOT_STATE 3 else s

/-- The swap or revert that is due in the present cycle. -/
def State.swapDue (s : State) : State :=
  if s.plate.swapAt = some s.n then (if s.maySwap then s.doSwap else s.swapCancelled) else s
def State.revertDue (s : State) : State := if s.plate.revertAt = some s.n then s.doRevert else s

/-! ## Commands (R135 to R145) -/

/-- A partner that counts as a STANDBY of this active (R90, R145). -/
def State.hasStandby (s : State) : Bool :=
  s.grouped && s.active && s.red.partners.any (fun p => p.reachable && !p.isolated && !p.unitBad)

/-- Empty the free slot. -/
def State.emptySlot (s : State) (st : Nat) : State :=
  let t := s.setSlot s.freeSlot none
  (((({ t with plate := { t.plate with loadWords := [] } }).set Reg.PLATE_STAT_SLOT_STATE st).setFlag Reg.PLATE_STAT_MAP_OK false).set
    Reg.PLATE_NEW_ID_ID 0)

/-- LOAD (R135). -/
def State.plateLoad (s : State) : Status × State :=
  if s.slotState = 0 ∨ s.slotState = 3 then (.done, s.emptySlot 1) else (.state, s)

/-- VERIFY (R137). -/
def State.plateVerify (s : State) : Status × State :=
  if s.slotState = 1 then (.done, ({ s with plate := { s.plate with op := .verify } }).set Reg.PLATE_STAT_SLOT_STATE 2) else (.state, s)

/-- ARM (R138): judged at the write, applied at the next boundary. -/
def State.plateArm (s : State) : Status × State :=
  if s.grouped ∧ s.role = 1 then (.role, s)
  else match s.slotPlate s.freeSlot with
    | some p =>
      if s.slotState = 3 ∧ s.flag Reg.PLATE_STAT_MAP_OK ∧ s.meetsBudget p = true ∧ s.meetsSwap p = true then
        (.done, ({ s with plate := { s.plate with armReq := some s.boundarySkip } }).set Reg.PLATE_STAT_SLOT_STATE 4)
      else (.state, s)
    | none => (.state, s)

/-- The boundary at which a command given now applies (R53). -/
def State.applyCycle (s : State) : Nat := s.n + 1 + s.boundarySkip

/-- REVERT (R141). -/
def State.plateRevert (s : State) : Status × State :=
  let c := s.applyCycle
  if s.grouped ∧ s.role = 1 then (.role, s)
  else if s.slotState = 5 ∧ s.plate.revertReq.isNone ∧ s.plate.revertAt.isNone ∧ s.plate.swappedAt ≤ c
      ∧ c < s.plate.swappedAt + s.get Reg.PLATE_CFG_REVERT_WIN then
    (.done, { s with plate := { s.plate with revertReq := some s.boundarySkip } })
  else (.state, s)

/-- COMMIT (R142). -/
def State.plateCommit (s : State) : Status × State :=
  if s.slotState = 5 ∧ s.plate.revertReq.isNone ∧ s.plate.revertAt.isNone
      ∧ s.plate.swappedAt + s.get Reg.PLATE_CFG_REVERT_WIN ≤ s.applyCycle then
    (.done, ({ s with plate := { s.plate with op := .commit } }).set Reg.PLATE_STAT_SLOT_STATE 6)
  else (.state, s)

/-- ABORT (R135, R145). -/
def State.plateAbort (s : State) : Status × State :=
  if s.slotState = 1 ∨ s.slotState = 3 ∨ s.slotState = 4 ∧ s.plate.confirmed = false then
    let cancel := s.plate.announced
    let t := { s with plate := { s.plate.disarm with cancelNext := s.plate.cancelNext || cancel } }
    (.done, t.emptySlot 0)
  else (.state, s)

/-- INSTALL (R144). -/
def State.plateInstall (s : State) : Status × State :=
  match s.slotPlate s.freeSlot with
  | some p =>
    if s.slotState = 3 ∧ s.mode = .park ∧ s.meetsBudget p = true then
      (.done, ({ s with plate := { s.plate with op := .install } }).set Reg.PLATE_STAT_SLOT_STATE 6)
    else (.state, s)
  | none => (.state, s)

/-- A plate command with its outcome in RESULT (R135). -/
def State.plateCmd (s : State) (op : Nat) : Status × State :=
  let r := match op with
    | 1 => s.plateLoad | 2 => s.plateVerify | 3 => s.plateArm | 4 => s.plateRevert | 5 => s.plateCommit | 6 => s.plateAbort
    | 7 => s.plateInstall | _ => (Status.range, s)
  (r.1, r.2.set Reg.PLATE_STAT_RESULT r.1.code)

/-- A write to the plate load window (R136). -/
def State.plateWindow (s : State) (word : Nat) (v : Word) : Status × State :=
  if s.slotState = 1 then (.done, { s with plate := { s.plate with loadWords := storeSet s.plate.loadWords word v 0 } }) else (.state, s)

/-- MAP_OK of a plate against the identity of the running one (R137). -/
def mapOk (p : PlateDesc) (running : Word) : Bool := p.map.any (fun m => mapCrcOk m && decide (m.oldPlateId = running))

/-- What the check of a plate comes to (R80, R137, R146, R435). DEDUCED (log entry 42): a map whose header, order or indices are not as R146 states
is a fault of the plate's structure, BAD_IMAGE; a map whose CRC-32C does not hold leaves MAP_OK at 0. -/
def State.plateCheck (s : State) (v : Verdict) (p : PlateDesc) : Status × Nat :=
  let r := s.verifyObject v p.keyHash p.svn false
  if r.1 = .done ∧ (blocksWell p && p.map.all (fun m => mapWell p.id m && m.entries.all carryOk)) = false then (.badImage, 2) else r

/-- PLATE_VERIFY_DONE (R137). -/
def State.plateVerifyDone (s : State) (v : Verdict) (p : PlateDesc) : State :=
  if s.plate.op ≠ .verify then s
  else
    let r := s.plateCheck v p
    let t := ({ s with plate := { s.plate with op := .none } }).set Reg.PLATE_STAT_RESULT r.1.code
    if r.1 = .done then
      (((t.setSlot t.freeSlot (some p)).set Reg.PLATE_STAT_SLOT_STATE 3).setFlag Reg.PLATE_STAT_MAP_OK (mapOk p t.plateId)).set
        Reg.PLATE_NEW_ID_ID p.id.toNat
    else (t.emptySlot 0).verifyEvents r.2

/-- Write a plate into the NV store of a slot. -/
def State.setNvPlate (s : State) (k : Nat) (p : Option (PlateDesc × Verdict)) : State :=
  { s with plate := if k = 0 then { s.plate with nv0 := p } else { s.plate with nv1 := p } }

/-- PLATE_COMMIT_DONE (R142): not while DIP defers the write (R399). -/
def State.plateCommitDone (s : State) : State :=
  if s.plate.op ≠ .commit ∨ s.flag Reg.PWR_STAT_DIP then s
  else
    let nv := s.runPlate.map (fun p => (p, ({ sigOk := true, structOk := true } : Verdict)))
    let t := ({ s with plate := { s.plate with op := .none } }).setNvPlate s.runSlot nv
    ((t.set Reg.PLATE_STAT_COMMIT_SLOT s.runSlot).raise 0x0406).emptySlot 0

/-- PLATE_INSTALL_DONE (R144): the pointer moves and a cold restart follows at the next boundary. -/
def State.plateInstallDone (s : State) : State :=
  if s.plate.op ≠ .install ∨ s.flag Reg.PWR_STAT_DIP then s
  else
    let nv := (s.slotPlate s.freeSlot).map (fun p => (p, ({ sigOk := true, structOk := true } : Verdict)))
    let t := ({ s with plate := { s.plate with op := .none } }).setNvPlate s.freeSlot nv
    { (t.set Reg.PLATE_STAT_COMMIT_SLOT s.freeSlot) with pump := { t.pump with restartReq := some (true, s.boundarySkip) } }

/-! ## At a boundary and at a freeze -/

/-- ARM applies at t_p(a): the swap cycle s is fixed, one cycle later where it would start a hold cycle (R138). -/
def State.armApply (s : State) : State :=
  let c := s.n + s.get Reg.PLATE_CFG_SWAP_LEAD
  let c := if 1 < s.kHold ∧ c % s.kHold = 0 then c + 1 else c
  let t := { s with plate := { s.plate with armReq := none, swapAt := some c, announced := s.hasStandby, announceNow := s.hasStandby,
                                            accepts := [], refused := false, confirmed := false } }
  t.set Reg.PLATE_SWAP_CYC_S_LO c

/-- REVERT applies at t_p(c): the old plate returns in cycle c + 2 (R141). -/
def State.revertApply (s : State) : State :=
  let t := { s with plate := { s.plate with revertReq := none, revertAt := some (s.n + 2), revertAnnounce := s.hasStandby } }
  t.set Reg.PLATE_SWAP_CYC_S_LO (s.n + 2)

/-- Plate commands that apply at the present boundary. -/
def State.plateBoundary (s : State) : State :=
  let t := match s.plate.armReq with
    | some 0 => s.armApply
    | some (k + 1) => { s with plate := { s.plate with armReq := some k } }
    | none => s
  match t.plate.revertReq with
  | some 0 => t.revertApply
  | some (k + 1) => { t with plate := { t.plate with revertReq := some k } }
  | none => t

/-- Every STANDBY has answered ACCEPT (R145). -/
def State.allAccepted (s : State) : Bool :=
  !s.plate.refused && s.red.partners.all (fun p => !p.reachable || p.isolated || p.unitBad || s.plate.accepts.contains p.unit)

/-- What the active places in the proof of the present freeze about plates (R145): the announcement in cycle a, CONFIRM or CANCEL in cycle
s − 2, CANCEL after an ABORT, REVERT in cycle c. -/
def State.plateRecords (s : State) : List ProofRecord × State :=
  let cancel := if s.plate.cancelNext then [ProofRecord.swapCancel] else []
  let rev := if s.plate.revertAnnounce then [ProofRecord.revert] else []
  let ann := if s.plate.announceNow then
      [ProofRecord.swapAnnounce ((s.slotPlate s.freeSlot).map PlateDesc.id |>.getD 0) (BitVec.ofNat 32 (s.plate.swapAt.getD 0))] else []
  let t := { s with plate := { s.plate with cancelNext := false, revertAnnounce := false, announceNow := false } }
  if s.plate.announced && decide (s.plate.swapAt = some (s.n + 2)) then
    if s.allAccepted then (cancel ++ rev ++ ann ++ [.swapConfirm], { t with plate := { t.plate with confirmed := true } })
    else
      (cancel ++ rev ++ ann ++ [.swapCancel],
        ((({ t with plate := t.plate.disarm }).set Reg.PLATE_STAT_SLOT_STATE 3).set Reg.PLATE_STAT_RESULT Status.role.code).raise 0x0407)
  else (cancel ++ rev ++ ann, t)

/-! ## The commands of this file -/



def execPlateVerifyDone (v : Verdict) (plate : PlateDesc) (s : State) : Host.Outcome State Fault Refusal :=
  .next (s.plateVerifyDone v plate)

def execPlateCommitDone (s : State) : Host.Outcome State Fault Refusal := .next s.plateCommitDone

def execPlateInstallDone (s : State) : Host.Outcome State Fault Refusal := .next s.plateInstallDone

end Sys2Proof.Machine
end

