-- ==== Sys2Proof/Machine/Red.lean ====
section
/-! DEFINITION. Redundancy (R323 to R352): partners and proof-link frames, cycle proofs, the hold stream, admission, release, takeover and
yield, the heartbeat compatibility mode. -/

namespace Sys2Proof.Machine

/-! ## Point records on the link (R63) -/

/-- Bytes 4 to 7 of a point record: quality, type and flags, cycle stamp (R63). -/
def Point.word1 (r : Point) : Nat :=
  r.quality.toNat + r.type % 16 * 256 + b2n r.forced * 4096 + b2n r.retain * 8192 + b2n r.stale * 16384 + b2n r.orphan * 32768
    + r.stamp.toNat * 65536

/-- A point as its 8-byte record. -/
def Point.encode (r : Point) : BitVec 64 := BitVec.ofNat 64 (r.value.toNat + r.word1 * 4294967296)

/-- The point of an 8-byte record. -/
def decodePoint (b : BitVec 64) : Point :=
  let w := b.toNat / 4294967296
  { value := BitVec.ofNat 32 b.toNat, quality := BitVec.ofNat 8 w, type := w / 256 % 16, forced := bitAt w 12, retain := bitAt w 13,
    stale := bitAt w 14, orphan := bitAt w 15, stamp := BitVec.ofNat 16 (w / 65536) }

/-! ## Sending (R324) -/

/-- A frame of this part. -/
def State.mkFrame (s : State) (kind : ProofKind) (records : List ProofRecord) : ProofFrame :=
  { lane := 0, crcOk := true, direct := true, unit := s.get Reg.RED_CFG_UNIT, claim := BitVec.ofNat 16 s.linkClaim, n := s.n,
    plateId := s.plateId, sync := s.sync, serial := s.red.sentProofs.length, isolated := decide (s.role = 0),
    unitBad := s.flag Reg.RED_STAT_UNIT_BAD, kind := kind, records := records }

/-- Send a frame on the proof link; an ISOLATED part sends none but claim frames (R340). -/
def State.sendLink (s : State) (kind : ProofKind) (records : List ProofRecord) : State :=
  if s.grouped && decide (s.role ≠ 0) then { s with red := { s.red with sentProofs := s.red.sentProofs ++ [s.mkFrame kind records] } } else s

/-! ## Isolation (R323, R338, R340) -/

/-- The part becomes ISOLATED. -/
def State.isolate (s : State) : State :=
  ({ s with red := { s.red with admission := .none, rx := none, forwards := [], segments := [], release := none, released := none,
                                echoMajority := false, yieldTo := none, beatTake := false, waiting := false } }).set Reg.RED_STAT_ROLE 0
    |>.set Reg.RED_STAT_SYNC_STATE 0

/-- UNIT is 0 or not unique (R323). -/
def State.unitClash (s : State) : State :=
  if s.role = 0 ∧ s.flag Reg.RED_STAT_UNIT_BAD = true then s
  else ((s.setFlag Reg.RED_STAT_UNIT_BAD true).isolate.raise 0x0C06).claimUpdate

/-! ## Partners (R324, R325) -/

/-- Put a partner into the list, in order of UNIT. -/
def putPartner (p : Partner) : List Partner → List Partner
  | [] => [p]
  | q :: t => if p.unit < q.unit then p :: q :: t else if p.unit = q.unit then p :: t else q :: putPartner p t

/-- What is known of a partner. -/
def State.partner (s : State) (u : Nat) : Option Partner := s.red.partners.find? (fun p => decide (p.unit = u))

/-- A partner as a frame of cycle n shows it. -/
def partnerOf (f : ProofFrame) (n : Nat) : Partner :=
  { unit := f.unit, claim := f.claim, last := n, sync := f.sync, plateId := f.plateId, isolated := f.isolated, unitBad := f.unitBad,
    reachable := true }

/-- A valid frame renews what is known of its sender (R325). -/
def State.notePartner (s : State) (f : ProofFrame) : State :=
  { s with red := { s.red with partners := putPartner (partnerOf f s.n) s.red.partners } }

/-- No frame of a partner has arrived since t_p(c − CLAIM_WIN). -/
def State.partnerSilent (s : State) (p : Partner) : Bool := decide (p.last + s.get Reg.RED_CLAIM_CFG_CLAIM_WIN < s.n)

/-- PARTNER_UNREACHABLE (R325). -/
def State.partnerLost (s : State) (u : Nat) : State :=
  match s.partner u with
  | none => s
  | some p =>
    if p.reachable && s.partnerSilent p then
      (({ s with red := { s.red with partners := putPartner { p with reachable := false } s.red.partners } }).raise 0x0C08).healthCheck
    else s

/-- Every partner, at a boundary. -/
def State.partnersCheck (s : State) : State := (s.red.partners.map Partner.unit).foldl State.partnerLost s

/-- Some reachable partner holds ACTIVE. -/
def State.activePartner (s : State) : Bool := s.red.partners.any (fun p => p.reachable && bitAt p.claim.toNat 15)

/-! ## Claims received (R345, R347, R348) -/

/-- An ACTIVE claim: a standby adopts its EPOCH; an active to which it is a winning claim will yield. -/
def State.activeClaim (s : State) (c : Nat) : State :=
  if s.role = 2 then
    if wins c s.frameClaim then { s with red := { s.red with yieldTo := some (BitVec.ofNat 16 c) } } else s
  else s.set Reg.RED_STAT_EPOCH (bitsAt c 8 7)

/-- A release is received: the partner that held ACTIVE no longer does, and no other reachable part does (R345). -/
def State.noteRelease (s : State) (before : Option Partner) (f : ProofFrame) : State :=
  if s.role = 1 && before.any (fun p => p.reachable && bitAt p.claim.toNat 15) && !bitAt f.claim.toNat 15 && !s.activePartner
      && decide (s.get Reg.RED_CLAIM_CFG_RELEASE_HEALTH ≤ s.health) then
    { s with red := { s.red with released := some s.up } }
  else s

/-- The claim of a frame. -/
def State.noteClaim (s : State) (before : Option Partner) (f : ProofFrame) : State :=
  let t := s.noteRelease before f
  let t := if bitAt f.claim.toNat 15 then t.activeClaim f.claim.toNat else t
  if bitAt f.claim.toNat 15 && decide (f.kind = .claim) then { t with red := { t.red with beat1 := true, hbMiss1 := 0 } } else t

/-! ## Size of a proof (R330) -/

/-- Points that a cycle proof carries as records: those the pump or the host wrote, in the marker, retentive and output areas, and command
points. -/
def proofArea (p : Nat) : Bool :=
  match areaOf p with
  | .input => false
  | .device => isCommandPoint p
  | _ => true

/-- Runs of consecutive addresses in a rising list. -/
def runsOf : List Nat → Nat
  | [] => 0
  | [_] => 1
  | a :: b :: t => (if b = a + 1 then 0 else 1) + runsOf (b :: t)

/-- Bytes of one record, the run bytes of points aside. -/
def recordBytes : ProofRecord → Nat
  | .point _ _ => 8
  | .timer _ _ _ _ _ | .counter _ _ _ _ | .edge _ _ => 24
  | .loop _ _ _ _ => 72
  | .force _ _ _ _ _ _ => 20
  | .forceClear => 4
  | .swapAnnounce _ _ | .swapConfirm | .swapCancel | .revert => 16
  | .failedSet _ _ _ _ => 64
  | .digest _ => 8

/-- Addresses of the point records. -/
def recordPoints (l : List ProofRecord) : List Nat := l.filterMap (fun r => match r with | .point a _ => some a | _ => none)

/-- Bytes of the records of a list. -/
def recordsBytes (l : List ProofRecord) : Nat := (l.map recordBytes).foldl (· + ·) 0 + 8 * runsOf (recordPoints l)

/-- Frames of a list of records, each of at most 4,096 bytes (R324). -/
def framesOf (l : List ProofRecord) : Nat := max 1 ((recordsBytes l + 4095) / 4096)

/-- Bytes of a cycle proof. -/
def proofSize (l : List ProofRecord) : Nat := recordsBytes l + 36 * framesOf l

/-- Each record with the byte at which it ends, counted from `at_`; `last` is the point before it, whose run it may extend (R330). -/
def recordEnds (at_ : Nat) (last : Option Nat) : List ProofRecord → List (Nat × ProofRecord)
  | [] => []
  | r :: t =>
    let e := match r with
      | .point a _ => at_ + 8 + (if last = some (a - 1) ∧ 0 < a then 0 else 8)
      | _ => at_ + recordBytes r
    (e, r) :: recordEnds e (match r with | .point a _ => some a | _ => last) t

/-- The records cut into frames of at most 4,096 bytes (R324): a record belongs to the frame that holds its last byte (log entry 23). -/
def cutFrames (l : List ProofRecord) : List (List ProofRecord) :=
  let ends := recordEnds 0 none l
  (List.range (framesOf l)).map (fun k => (ends.filter (fun e => decide (4096 * k < e.1 ∧ e.1 ≤ 4096 * (k + 1)))).map Prod.snd)

/-- Send records in as many frames as they take; the kind of a frame follows from its number and from how many there are. -/
def State.sendCut (s : State) (kind : Nat → Nat → ProofKind) (l : List ProofRecord) : State :=
  let fs := cutFrames l
  (fs.zip (List.range fs.length)).foldl (fun t e => t.sendLink (kind e.2 fs.length) e.1) s

/-- Send a cycle proof with its marks; the last frame closes it (R330, R337). -/
def State.sendProof (s : State) (lockstepStart admits : Bool) (l : List ProofRecord) : State :=
  s.sendCut (fun k total => .cycleProof lockstepStart admits (decide (k + 1 = total)) total) l

/-! ## The cycle proof at the active (R330) -/

def State.timerRecord (s : State) (i : Nat) : ProofRecord :=
  let t := s.timer i
  .timer i t.state t.inp t.et t.last

def State.counterRecord (s : State) (i : Nat) : ProofRecord :=
  let c := s.counter i
  .counter i c.cv c.cu c.cd

/-- A loop state as its record: w, vr, y, u, i, d, blend and its step (log entry 23). -/
def State.loopRecord (s : State) (i : Nat) : ProofRecord :=
  let l := s.loopSlot i
  .loop i l.state (b2n l.gainB) [l.w, l.vr, l.y, l.u, l.i, l.d, l.blend, l.blendStep]

def State.forceRecord (s : State) (e : Nat) : ProofRecord :=
  .force e (s.flag Reg.FORCE_ENT_ADDR_VALID e) (s.get Reg.FORCE_ENT_ADDR_POINT e) (BitVec.ofNat 32 (s.get Reg.FORCE_ENT_VALUE_VALUE e))
    (BitVec.ofNat 8 (s.get Reg.FORCE_ENT_QUAL_QUALITY e)) (s.get Reg.FORCE_ENT_QUAL_TYPE e)

/-- Digest of the output area's records in address order (R330); the digest function is free (log entry 8). -/
def State.outputDigest (s : State) : BitVec 64 :=
  Config.digest ((s.points.filter (fun e => decide (areaOf e.1 = .output))).flatMap (fun e => [e.1, e.2.encode.toNat]))

/-- The records of the present cycle's proof; `loops` are the loops evaluated in it, `plates` the plate records. -/
def State.proofRecords (s : State) (loops : List Nat) (plates : List ProofRecord) : List ProofRecord :=
  let lastOfHold := decide ((s.n + 1) % s.kHold = 0)
  ((s.wlog.points.filter (fun e => proofArea e.1)).map (fun e => ProofRecord.point e.1 (s.point e.1).encode))
    ++ s.wlog.timers.map (fun e => s.timerRecord e.1) ++ s.wlog.counters.map (fun e => s.counterRecord e.1)
    ++ s.wlog.edges.map (fun e => ProofRecord.edge e.1 (s.edge e.1))
    ++ loops.map s.loopRecord
    ++ (if s.wlog.forceClear then [.forceClear] else []) ++ s.wlog.forces.map (fun e => s.forceRecord e.1)
    ++ plates
    ++ (if lastOfHold then [.failedSet (BitVec.ofNat 32 s.alloc.failed.thr) (BitVec.ofNat 8 s.alloc.failed.bus)
          (BitVec.ofNat 16 s.alloc.failed.gen) s.alloc.governing] else [])
    ++ [.digest s.outputDigest]

/-- PROOF_BYTES and the peak after a proof of this many bytes, which is a sample of code 0x0CF0 (R421). -/
def State.proofBytes (s : State) (b : Nat) : State :=
  let t := { s with red := { s.red with proofBytes := b } }
  (t.set Reg.RED_PROOF_PEAK_PEAK (max (s.get Reg.RED_PROOF_PEAK_PEAK) (min b 2097151))).sample 0x0CF0 (F64.toF32 (F64.ofRat b 1)).toNat

/-! ## Admission at the active (R337 to R339) -/

/-- A partner that a proof or an admission concerns: reachable, neither ISOLATED nor UNIT_BAD. -/
def Partner.usable (p : Partner) : Bool := p.reachable && !p.isolated && !p.unitBad

/-- The standby to be admitted next: not SYNCED, on the same plate, the lowest UNIT first. -/
def State.seeker (s : State) : Option Nat :=
  (s.red.partners.find? (fun p => p.usable && !bitAt p.claim.toNat 15 && decide (p.sync ≠ 3) && decide (p.plateId = s.plateId))).map
    Partner.unit

/-- Addresses of every device command point. -/
def commandPoints : List Nat :=
  ((List.range 512).flatMap (fun i => [0xE0000 + 16 * i, 0xE0000 + 16 * i + 14])) ++ (List.range 9).map (fun k => 0xE3290 + k)
    ++ [0xE6100, 0xE6101]

/-- Everything that a transfer sends, as it stands now, each item in a place that does not move from one segment to the next (R337). -/
def State.transferRecords (s : State) : List ProofRecord :=
  let declared := ((s.runPlate.map PlateDesc.decls).getD []).filter (fun d => proofArea d.addr)
  (declared.map (fun d => ProofRecord.point d.addr (s.point d.addr).encode))
    ++ commandPoints.map (fun p => ProofRecord.point p (s.point p).encode)
    ++ (List.range 512).map s.loopRecord
    ++ ProofRecord.forceClear :: (List.range 4096).map s.forceRecord
    ++ (List.range 65536).flatMap (fun i => [s.timerRecord i, s.counterRecord i, ProofRecord.edge i (storeGet s.pump.inst.edges i false)])

/-- Records that a segment takes: as many as the link time of one cycle carries (R325, log entry 23). -/
def State.segmentLength (s : State) : Nat := max 1 (s.fwdLimit / 80)

/-- Send the next segment of a transfer; with the last one the entry follows (R337). -/
def State.sendSegment (s : State) : State :=
  let all := s.transferRecords
  let part := (all.drop s.red.xferPos).take s.segmentLength
  let last := decide (all.length ≤ s.red.xferPos + s.segmentLength)
  let t := s.sendCut (fun k total => .segment (last && decide (k + 1 = total))) part
  { t with red := { t.red with xferPos := s.red.xferPos + part.length, admission := if last then .entry else .transfer } }

/-- A new admission begins when a standby seeks one and none runs. -/
def State.admitBegin (s : State) : State :=
  if s.red.admission = .none then
    match s.seeker with
    | some u => { s with red := { s.red with admission := .transfer, admitUnit := u, admitRun := 0, xferPos := 0, proofTest := false } }
    | none => s
  else s

/-- The admitting standby is gone: unreachable, isolated, or by its header back at the start. -/
def State.admitGone (s : State) : Bool :=
  match s.partner s.red.admitUnit with
  | none => true
  | some p => !p.usable || (decide (s.red.admission = .lockstep) && decide (p.sync = 4))

/-- Drop an admission whose standby is gone. -/
def State.admitWatch (s : State) : State :=
  if decide (s.red.admission ≠ .none) && s.admitGone then { s with red := { s.red with admission := .none, admitRun := 0, proofTest := false } } else s

/-- At the freeze the active sends the proof of the cycle, with its mark, a segment during TRANSFER, the digest during LOCKSTEP; a standby in
LOCKSTEP gets no cycle proof (R330, R337). -/
def State.proofSend (s : State) (loops : List Nat) (plates : List ProofRecord) : State :=
  let l := s.proofRecords loops plates
  let t := (s.admitWatch.admitBegin).proofBytes (proofSize l)
  match t.red.admission with
  | .none => t.sendProof false false l
  | .transfer => (t.sendProof false false l).sendSegment
  | .entry =>
    let u := t.sendProof true false l
    { u with red := { u.red with admission := .lockstep } }
  | .lockstep =>
    (t.sendProof false false l).sendLink (.forward 1) [.digest t.outputDigest]
  | .admission =>
    if t.red.fwdSent then (t.sendProof false false l).sendLink (.forward 1) [.digest t.outputDigest]
    else
      let u := t.sendProof false true l
      { u with red := { u.red with admission := .none, admitRun := 64, proofTest := false } }

/-- Points that a forward carries: input-area points written at the close, device status points written in this cycle or the one before
(R337). -/
def State.forwardPoints (s : State) : List Nat :=
  let fresh := fun (e : Nat × Point) => decide (e.2.stamp = s.stamp)
  let recent := fun (e : Nat × Point) => fresh e || decide (e.2.stamp = s.stamp - 1)
  (s.points.filter (fun e => (decide (areaOf e.1 = .input) && fresh e)
    || (decide (areaOf e.1 = .device) && !isCommandPoint e.1 && recent e) || (storeFind s.wlog.host e.1).isSome)).map Prod.fst

/-- From its close the active sends the forward of the cycle during LOCKSTEP (R337). -/
def State.forwardSend (s : State) : State :=
  if s.grouped && decide (s.role = 2) && decide (s.red.admission = .lockstep) then
    let l := (s.forwardPoints.map (fun p => ProofRecord.point p (s.point p).encode))
      ++ (if s.wlog.forceClear then [ProofRecord.forceClear] else []) ++ s.wlog.forces.map (fun e => s.forceRecord e.1)
    let t := s.sendCut (fun _ total => .forward total) l
    { t with red := { t.red with fwdSent := true } }
  else s

/-- An answer to a digest at the active: the 64th MATCH in a row ends LOCKSTEP, a MISMATCH the admission (R337, R338). -/
def State.digestAnswer (s : State) (u : Nat) (ok : Bool) : State :=
  if s.role = 2 ∧ s.red.admission = .lockstep ∧ s.red.admitUnit = u then
    if ok then
      let r := s.red.admitRun + 1
      { s with red := { s.red with admitRun := min r 64, admission := if 64 ≤ r then .admission else .lockstep } }
    else ({ s with red := { s.red with admission := .none, admitRun := 0, proofTest := false } }).raise 0x0C05
  else s

/-! ## Proofs received at a standby (R330, R331, R337) -/

/-- A standby without SYNC. -/
def State.unsync (s : State) : State :=
  (({ s with red := { s.red with admission := .none, segments := [], forwards := [], digests := [], admitRun := 0, proofTest := false } }).set
    Reg.RED_STAT_SYNC_STATE 4).healthCheck

/-- Another plate than the active's (R341). -/
def State.plateDiff (s : State) : State :=
  if s.flag Reg.RED_STAT_PLATE_DIFF then s
  else (((s.setFlag Reg.RED_STAT_PLATE_DIFF true).unsync).raise 0x0C0A)

/-- A standby that is not SYNCED and hears an ACTIVE part on the same plate seeks admission (R337). -/
def State.seekAdmission (s : State) (f : ProofFrame) : State :=
  if s.role = 1 ∧ s.sync ≠ 3 ∧ s.red.admission = .none ∧ bitAt f.claim.toNat 15 = true ∧ f.plateId = s.plateId ∧ s.mode = .run then
    (({ s with red := { s.red with admission := .transfer, proofFrom := s.n, segments := [] } }).set Reg.RED_STAT_SYNC_STATE 1)
  else s

/-- Add a frame to what has come of a proof or forward. -/
def addFrame (r : Option RxProof) (f : ProofFrame) (ls ad : Bool) (total : Nat) : RxProof :=
  let b := match r with
    | some r => if r.unit = f.unit ∧ r.n = f.n then r
      else { unit := f.unit, n := f.n, frames := 0, records := [], complete := false, lockstepStart := false, admission := false }
    | none => { unit := f.unit, n := f.n, frames := 0, records := [], complete := false, lockstepStart := false, admission := false }
  { b with frames := b.frames + 1, records := b.records ++ f.records, complete := decide (total ≤ b.frames + 1),
           lockstepStart := b.lockstepStart || ls, admission := b.admission || ad }

/-- A free slot that can answer ACCEPT to an announced plate (R145). -/
def State.acceptsPlate (s : State) (id : Word) : Bool :=
  match s.slotPlate s.freeSlot with
  | some p => decide (p.id = id) && decide (s.slotState = 3) && s.flag Reg.PLATE_STAT_MAP_OK && s.meetsBudget p && s.meetsSwap p
  | none => false

/-- The cycle count at or after n whose low 32 bits are those given (R145). -/
def cycleNear (n : Nat) (lo : Word) : Nat := n + (lo - BitVec.ofNat 32 n).toNat

/-- A plate record at a standby, on receipt (R145). -/
def State.plateMessage (s : State) (n : Nat) (r : ProofRecord) : State :=
  match r with
  | .swapAnnounce id c =>
    if s.acceptsPlate id then
      ((({ s with plate := { s.plate with swapAt := some (cycleNear n c), confirmed := false } }).set Reg.PLATE_STAT_SLOT_STATE 4).set
        Reg.PLATE_SWAP_CYC_S_LO c.toNat).sendLink (.swapAnswer true) []
    else (s.raise 0x0407).sendLink (.swapAnswer false) []
  | .swapConfirm => if s.slotState = 4 then { s with plate := { s.plate with confirmed := true } } else s
  | .swapCancel => s.swapCancelled
  | .revert =>
    if s.slotState = 5 then ({ s with plate := { s.plate with revertAt := some (n + 2) } }).set Reg.PLATE_SWAP_CYC_S_LO (n + 2) else s
  | _ => s

/-- A frame of a cycle proof (R330, R341). -/
def State.proofFrame (s : State) (f : ProofFrame) (ls ad : Bool) (total : Nat) : State :=
  if s.role = 1 ∧ f.plateId ≠ s.plateId then s.plateDiff
  else if s.role = 1 ∧ (s.red.admission ≠ .lockstep ∨ ad = true) then
    let r := addFrame s.red.rx f ls ad total
    let phase := if r.complete && r.admission && decide (s.red.admission = .lockstep) then AdmitPhase.admission else s.red.admission
    let t := { s with red := { s.red with rx := some r, admission := phase } }
    f.records.foldl (fun u x => u.plateMessage f.n x) (t.setFlag Reg.RED_STAT_PLATE_DIFF false)
  else s

/-- A frame of a forward, or the digest of a cycle (R337). -/
def State.forwardFrame (s : State) (f : ProofFrame) (total : Nat) : State :=
  if s.role = 1 ∧ f.plateId = s.plateId then
    match f.records with
    | [.digest d] => { s with red := { s.red with digests := storePut s.red.digests f.n d.toNat } }
    | _ =>
      let old := s.red.forwards.find? (fun r => decide (r.unit = f.unit ∧ r.n = f.n))
      let rest := s.red.forwards.filter (fun r => !decide (r.unit = f.unit ∧ r.n = f.n))
      { s with red := { s.red with forwards := rest ++ [addFrame old f false false total] } }
  else s

/-- Hold-stream parts at a standby (R332). -/
def State.obsFrame (s : State) (last : Bool) (vals : List (BitVec 64)) : State :=
  if s.role = 1 then
    let base := if s.red.obsWhole then [] else s.red.obsPart
    { s with red := { s.red with obsPart := base ++ vals, obsPartial := !last, obsWhole := last } }
  else s

def State.warmFrame (s : State) (last : Bool) (ctxs : List (Nat × List F64)) : State :=
  if s.role = 1 then
    let base := if s.red.warmWhole then [] else s.red.warmPart
    { s with red := { s.red with warmPart := base ++ ctxs, warmPartial := !last, warmWhole := last } }
  else s

/-- What a taken frame does beyond its header. -/
def State.frameBody (s : State) (f : ProofFrame) : State :=
  match f.kind with
  | .claim => s
  | .cycleProof ls ad _ total => s.proofFrame f ls ad total
  | .segment _ =>
    if s.role = 1 ∧ s.red.admission = .transfer ∧ f.plateId = s.plateId then
      { s with red := { s.red with segments := s.red.segments ++ f.records } }
    else s
  | .forward total => s.forwardFrame f total
  | .digestAnswer ok => s.digestAnswer f.unit ok
  | .swapAnswer ok =>
    if s.role = 2 then
      { s with plate := if ok then { s.plate with accepts := f.unit :: s.plate.accepts } else { s.plate with refused := true } }
    else s
  | .observerPart last vals => s.obsFrame last vals
  | .warmPart last ctxs => s.warmFrame last ctxs

/-- Neither the forward nor the cycle proofs are relayed while an admission runs (R337). -/
def State.relays (s : State) (f : ProofFrame) : Bool :=
  let stream := match f.kind with | .cycleProof _ _ _ _ | .forward _ => true | _ => false
  let admitting := decide (s.sync = 1 ∨ s.sync = 2) || s.red.partners.any (fun p => decide (p.sync = 1 ∨ p.sync = 2))
  f.direct && decide (s.red.partners.length = 2) && !(stream && admitting)

/-- A frame was taken already (R324). -/
def State.frameSeen (s : State) (f : ProofFrame) : Bool := s.red.seen.contains (f.unit, f.n, f.serial)

/-- Remember a frame; those of earlier cycles of the sender but the last are forgotten. -/
def State.noteSeen (s : State) (f : ProofFrame) : State :=
  { s with red := { s.red with seen := (f.unit, f.n, f.serial) :: s.red.seen.filter (fun e => decide (e.1 ≠ f.unit ∨ f.n ≤ e.2.1 + 1)) } }

/-- Relay a frame once on the other lane (R324). -/
def State.relay (s : State) (f : ProofFrame) : State :=
  { s with red := { s.red with relayed := if s.relays f then some (1 - f.lane, { f with lane := 1 - f.lane, direct := false }) else none } }

/-- A frame of an ACTIVE part on the same plate ends PLATE_DIFF (R341): both parts run the same plate. -/
def State.plateSame (s : State) (f : ProofFrame) : State :=
  if bitAt f.claim.toNat 15 = true ∧ f.plateId = s.plateId then s.setFlag Reg.RED_STAT_PLATE_DIFF false else s

/-- A frame of another part is taken. -/
def State.takeFrame (s : State) (f : ProofFrame) : State :=
  let before := s.partner f.unit
  let t := ((s.noteSeen f).notePartner f).relay f
  let t := (t.noteClaim before f).plateSame f
  let third := decide (t.get Reg.RED_CFG_MODE = 2 ∧ 1 < t.red.partners.length)
  let t := if third then t.setFlag Reg.RED_STAT_UNIT_BAD true else t
  if t.role = 0 then t.healthCheck else ((t.frameBody f).seekAdmission f).healthCheck

/-- The lanes of the proof link: SPAN_0 and SPAN_1, unless the straps give every lane to a span (R324, R353). -/
def State.linkLane (s : State) (l : Nat) : Bool := decide (l < 2) && s.laneUp l && decide (s.get Reg.SPAN_CFG_STRAPS ≠ 2)

/-- PROOF_LINK_FRAME_RX (R324). -/
def State.proofLinkRx (s : State) (f : ProofFrame) : State :=
  if !(s.grouped && (s.running || decide (s.mode = .done)) && s.linkLane f.lane && f.crcOk) then s
  else if f.unit = s.get Reg.RED_CFG_UNIT then s.unitClash
  else if s.frameSeen f then s
  else s.takeFrame f

/-! ## Applying a proof (R331, R337) -/

/-- A loop state takes a record; its points follow (R331). -/
def State.applyLoop (s : State) (i st gain : Nat) (v : List F64) : State :=
  let l := s.loopSlot i
  let g := fun (k : Nat) (d : F64) => v.getD k d
  let u := s.setLoop i { l with state := st, gainB := decide (gain = 1), w := g 0 l.w, vr := g 1 l.vr, y := g 2 l.y, u := g 3 l.u,
                                i := g 4 l.i, d := g 5 l.d, blend := g 6 l.blend, blendStep := g 7 l.blendStep }
  u.loopPoints i true

/-- A force entry takes a record (R133). -/
def State.applyForce (s : State) (e : Nat) (valid : Bool) (a : Nat) (v : Word) (q : Byte) (ty : Nat) : State :=
  let t := if s.flag Reg.FORCE_ENT_ADDR_VALID e then s.forceRemove e else s
  let t := if valid && (t.decl a).isNone then
      (t.setPoint a { t.point a with orphan := true }).setFlag Reg.FORCE_ENT_QUAL_ORPHAN true e
    else t.setFlag Reg.FORCE_ENT_QUAL_ORPHAN false e
  let t := ((t.setFlag Reg.FORCE_ENT_ADDR_VALID valid e).set Reg.FORCE_ENT_ADDR_POINT a e).set Reg.FORCE_ENT_VALUE_VALUE v.toNat e
  (t.set Reg.FORCE_ENT_QUAL_QUALITY q.toNat e).set Reg.FORCE_ENT_QUAL_TYPE ty e

/-- One record of a proof, a segment or a forward. -/
def State.applyRecord (s : State) (r : ProofRecord) : State :=
  match r with
  | .point a b => s.setPoint a (decodePoint b)
  | .timer i st inp et l =>
    { s with pump := { s.pump with inst := { s.pump.inst with
        timers := storeSet s.pump.inst.timers i { state := st, inp := inp, et := et, last := l } {} } } }
  | .counter i cv cu cd =>
    { s with pump := { s.pump with inst := { s.pump.inst with counters := storeSet s.pump.inst.counters i { cv := cv, cu := cu, cd := cd } {} } } }
  | .edge i m => { s with pump := { s.pump with inst := { s.pump.inst with edges := storeSet s.pump.inst.edges i m false } } }
  | .loop i st g v => s.applyLoop i st g v
  | .force e ok a v q ty => s.applyForce e ok a v q ty
  | .forceClear => s.forceReset
  | .failedSet thr bus gen gov =>
    { s with alloc := { s.alloc with failed := { thr := thr.toNat, bus := bus.toNat, gen := gen.toNat }, governing := gov } }
  | .digest d =>
    if d.toNat = s.red.ownDigest then s else { s with red := { s.red with digestDiff := satInc 32 s.red.digestDiff } }
  | .swapAnnounce _ _ | .swapConfirm | .swapCancel | .revert => s

/-- The cycle count that a proof gives (R16, R331 step 1); what is known of partners keeps its age. -/
def State.takeN (s : State) (n : Nat) : State :=
  { s with n := n, red := { s.red with partners := s.red.partners.map (fun p => { p with last := p.last + n - s.n }) } }

/-- R331 step 3: what the part wrote itself in its own cycle and the proof does not carry returns to what it held before. -/
def State.undoOwn (s : State) (l : List ProofRecord) : State :=
  let pts := recordPoints l
  let tm := l.filterMap (fun r => match r with | .timer i _ _ _ _ => some i | _ => none)
  let ct := l.filterMap (fun r => match r with | .counter i _ _ _ => some i | _ => none)
  let ed := l.filterMap (fun r => match r with | .edge i _ => some i | _ => none)
  let t := (s.wlogPrev.points.filter (fun e => !pts.contains e.1)).foldl (fun u e => u.setPoint e.1 e.2) s
  let ti := (s.wlogPrev.timers.filter (fun e => !tm.contains e.1)).foldl (fun st e => storeSet st e.1 (e.2.getD {}) {}) t.pump.inst.timers
  let ci := (s.wlogPrev.counters.filter (fun e => !ct.contains e.1)).foldl (fun st e => storeSet st e.1 (e.2.getD {}) {}) t.pump.inst.counters
  let ei := (s.wlogPrev.edges.filter (fun e => !ed.contains e.1)).foldl (fun st e => storeSet st e.1 (e.2.getD false) false) t.pump.inst.edges
  { t with pump := { t.pump with inst := { timers := ti, counters := ci, edges := ei } } }

/-- What the marks of an applied proof change (R337): LOCKSTEP_START keeps the tasks from running in this cycle, ADMIT makes the standby
SYNCED. -/
def State.applyMarks (s : State) (r : RxProof) : State :=
  if r.lockstepStart && decide (s.role = 1) then
    let t := { s with red := { s.red with admission := .lockstep, noTasks := true, admitRun := 0, forwards := [], digests := [] } }
    if s.sync = 3 then t else t.set Reg.RED_STAT_SYNC_STATE 2
  else if r.admission && decide (s.red.admission = .admission) then
    let t := { s with red := { s.red with admission := .none, failures := 0 } }
    if s.sync = 3 then t else ((t.set Reg.RED_STAT_SYNC_STATE 3).raise 0x0C04).healthCheck
  else s

/-- The proof of cycle k is applied in cycle k + 1 (R331), with the segments of the same cycle (R337). -/
def State.applyProof (s : State) (r : RxProof) : State :=
  let t := (s.takeN (r.n + 1)).undoOwn r.records
  let t := (s.red.segments ++ r.records).foldl State.applyRecord t
  let t := { t with red := { t.red with rx := none, segments := [], applied := r.n, waiting := false, lastProof := false } }
  (t.proofBytes (proofSize r.records)).applyMarks r

/-- A proof is to be applied in the present cycle: at a standby that is SYNCED or in an admission outside LOCKSTEP, and at a part that took
ACTIVE at this boundary from a releasing one (R331, R337, R345). -/
def State.proofExpected (s : State) : Bool :=
  s.grouped && decide (s.mode = .run) && !s.restarting &&
    ((decide (s.role = 1) && decide (s.red.proofFrom < s.n) && decide (s.red.admission ≠ .lockstep)
        && (decide (s.sync = 3) || decide (s.red.admission ≠ .none)))
      || (decide (s.role = 2) && s.red.lastProof))

/-- A complete proof is at hand. -/
def State.proofReady (s : State) : Option RxProof := s.red.rx.filter RxProof.complete

/-- LOCKSTEP: the forward of the next cycle to execute is taken, and with it n (R337); without it the standby goes on from its own inputs. -/
def State.lockstepTake (s : State) : State :=
  if s.role = 1 ∧ s.red.admission = .lockstep ∧ s.red.noTasks = false then
    let k := s.red.applied + 1
    let t := { s with red := { s.red with applied := k, forwards := s.red.forwards.filter (fun r => decide (k < r.n)) } }
    match s.red.forwards.find? (fun r => r.complete && decide (r.n = k)) with
    | some r => r.records.foldl State.applyRecord (t.takeN k)
    | none => t
  else s

/-- A cycle proof is missed (R333). -/
def State.missProof (s : State) : State :=
  let t := { s with red := { s.red with rx := none, waiting := false, lastProof := false, proofMiss := satInc 32 s.red.proofMiss } }
  let t := t.setFlag Reg.RED_STAT_PROOF_MISS true
  (if t.role = 1 then t.unsync else t).raise 0x0C03

/-- A MISMATCH at the standby (R338). -/
def State.mismatch (s : State) : State :=
  let f := s.red.failures + 1
  let t := (({ s with red := { s.red with failures := f } }).raise 0x0C05).unsync
  if s.get Reg.RED_CLAIM_CFG_ADMIT_LIMIT ≤ f then (t.isolate.raise 0x0C06).claimUpdate else t

/-- At its freeze a standby in LOCKSTEP compares digests and answers (R337). -/
def State.lockstepAnswer (s : State) : State :=
  if s.role = 1 ∧ s.red.admission = .lockstep ∧ s.red.noTasks = false then
    match storeFind s.red.digests s.n with
    | none => s
    | some d =>
      let t := { s with red := { s.red with digests := storeDel s.red.digests s.n } }
      if d = t.red.ownDigest then ({ t with red := { t.red with admitRun := min 64 (t.red.admitRun + 1) } }).sendLink (.digestAnswer true) []
      else (t.sendLink (.digestAnswer false) []).mismatch
  else s

/-- The redundancy block at a freeze (R330, R337): the digest of the output area; the active's proof, the standby's answer. -/
def State.redFreeze (s : State) (loops : List Nat) : State :=
  let t := { s with red := { s.red with ownDigest := s.outputDigest.toNat } }
  if !s.grouped then t
  else if t.role = 2 then
    let p := t.plateRecords
    p.2.proofSend loops p.1
  else t.lockstepAnswer

/-! ## The hold stream (R332) -/

/-- Values of the observer part: STATE with the heading found in INIT, state, covariance, applied corrections by channel, the states of the DP loops (log entry 23). -/
def State.obsValues (s : State) : List (BitVec 64) :=
  let pad := fun (l : List F64) (n : Nat) => (l ++ List.replicate n F64.zero).take n
  BitVec.ofNat 64 (s.obsState + 4 * b2n s.obs.hdgSet) :: pad s.obs.x 15 ++ pad s.obs.cov 120 ++ (List.range 64).flatMap (fun c => pad (s.applied c) 4)
    ++ [509, 510, 511].flatMap (fun i => let l := s.loopSlot i; [l.w, l.vr, l.y, l.u, l.i, l.d, l.blend, l.blendStep])

/-- The observer part, taken at the post instant. -/
def State.sendObsPart (s : State) : State :=
  if s.grouped && decide (s.role = 2) then s.sendLink (.observerPart true s.obsValues) [] else s

/-- The warm starts, taken at the collection: each context's returned iterate. -/
def State.sendWarmPart (s : State) : State :=
  if s.grouped && decide (s.role = 2) then s.sendLink (.warmPart true s.returned) [] else s

/-- STATE of the observer as the active has it; one that has stopped stays stopped (R229, R230). -/
def State.takeObsState (s : State) (v : Nat) : State :=
  if s.obsState = 2 ∨ v % 4 = 2 then s
  else
    let t := { s with obs := { s.obs with hdgSet := decide (v % 4 = 1) || decide (4 ≤ v), posSet := decide (v % 4 = 1),
                                          runSince := if v % 4 = 1 ∧ s.obsState = 0 then s.up else s.obs.runSince } }
    t.set Reg.OBS_STAT_STATE (v % 4)

/-- A standby takes a complete observer part at a hold boundary (R230, R332). -/
def State.takeObsPart (s : State) : State :=
  let s := s.takeObsState ((s.red.obsPart.headD 0).toNat)
  let v := s.red.obsPart.drop 1
  let ch := (List.range 64).map (fun c => (c, (v.drop (135 + 4 * c)).take 4))
  let t := { s with obs := { s.obs with x := v.take 15, cov := (v.drop 15).take 120,
                                        applied := ch.foldl (fun st e => storePut st e.1 e.2) s.obs.applied } }
  ([0, 1, 2].foldl (fun u k =>
    let l := u.loopSlot (509 + k)
    u.applyLoop (509 + k) l.state (b2n l.gainB) ((v.drop (391 + 8 * k)).take 8)) t)

/-- A standby takes the active's iterates as warm starts (R319, R332). -/
def State.takeWarmPart (s : State) : State :=
  s.red.warmPart.foldl (fun t e => t.setSlotRun e.1 { t.slotRun e.1 with warm := some e.2 }) s

/-- HOLD_STREAM_TAKE at a hold boundary (R332). -/
def State.holdStream (s : State) : State :=
  let t := if !s.standby then s
    else
      let a := if s.red.obsWhole then s.takeObsPart else if s.red.obsPartial then s.raise 0x0C0B else s
      if s.red.warmWhole then a.takeWarmPart else if s.red.warmPartial then a.raise 0x0C0B else a
  { t with red := { t.red with obsPart := [], obsPartial := false, obsWhole := false, warmPart := [], warmPartial := false, warmWhole := false } }

/-! ## Release, takeover, yield (R343 to R348) -/

/-- Elapsed time at the next boundary. -/
def State.boundaryUp (s : State) : Nat := s.up + (s.nextBnd - s.now)

/-- The highest EPOCH of two under the order of R327. -/
def laterEpoch (a b : Nat) : Nat := if (b + 128 - a) % 128 < 64 then b else a

/-- EPOCH of a part that takes ACTIVE (R345). -/
def State.nextEpoch (s : State) : Nat :=
  (((s.red.partners.filter Partner.reachable).map (fun p => bitsAt p.claim.toNat 8 7)).foldl laterEpoch (s.get Reg.RED_STAT_EPOCH) + 1) % 128

/-- The part takes ACTIVE in cycle k with an EPOCH (R345, R346, R350); a swap that is not confirmed is dropped (R145). -/
def State.takeActive (s : State) (k epoch : Nat) (fromRelease : Bool) : State :=
  let keep := fromRelease && (decide (s.sync = 3) || decide (s.sync = 1))
  let t := { s with red := { s.red with released := none, echoMajority := false, beatTake := false, yieldTo := none, admission := .none,
                                        segments := [], forwards := [], lastProof := keep, takeovers := satInc 32 s.red.takeovers,
                                        takeCycle := k % 4294967296 } }
  let t := (((t.set Reg.RED_STAT_ROLE 2).set Reg.RED_STAT_SYNC_STATE 0).set Reg.RED_STAT_EPOCH epoch)
  let t := if t.plate.confirmed then t else t.swapCancelled
  (t.raise 0x0C01).safeRefresh

/-- A release that was received takes effect at the next boundary (R345). -/
def State.takeoverDue (s : State) : Bool :=
  decide (s.role = 1) && decide (s.mode = .run)
    && match s.red.released with | some t => decide (t + 5000 ≤ s.boundaryUp) | none => false

/-- TAKEOVER, at the boundary of cycle k. -/
def State.takeoverAt (s : State) (k : Nat) : State := if s.takeoverDue then s.takeActive k s.nextEpoch true else s

/-- TAKEOVER_BY_ECHO (R346), and the takeover of R350. -/
def State.takeoverByEchoAt (s : State) (k : Nat) : State :=
  if s.role = 1 ∧ s.mode = .run ∧ s.red.echoMajority = true then s.takeActive k s.nextEpoch false else s

def State.takeoverByBeatAt (s : State) (k : Nat) : State :=
  if s.role = 1 ∧ s.mode = .run ∧ s.red.beatTake = true then s.takeActive k ((s.get Reg.RED_STAT_EPOCH + 1) % 128) false else s

/-- ACTIVE_YIELD (R348). -/
def State.yieldAt (s : State) : State :=
  match s.red.yieldTo with
  | none => s
  | some c =>
    if s.role = 2 then
      let t := { s with red := { s.red with yieldTo := none, release := none, admission := .none, lastProof := false, proofFrom := s.n + 1 } }
      let t := ((t.set Reg.RED_STAT_ROLE 1).set Reg.RED_STAT_SYNC_STATE 4).set Reg.RED_STAT_EPOCH (bitsAt c.toNat 8 7)
      ((t.setFlag Reg.RED_STAT_RELEASE_BLOCKED false).raise 0x0C09).safeRefresh
    else { s with red := { s.red with yieldTo := none } }

/-- RELEASE_TAKE_EFFECT (R344) in cycle k: the part becomes a SYNCED STANDBY; its own proofs end with cycle k − 1. -/
def State.releaseAt (s : State) (k : Nat) : State :=
  match s.red.release with
  | some 0 =>
    let t := { s with red := { s.red with release := none, admission := .none, proofFrom := k } }
    ((t.set Reg.RED_STAT_ROLE 1).set Reg.RED_STAT_SYNC_STATE 3).safeRefresh
  | some (j + 1) => { s with red := { s.red with release := some j } }
  | none => s

/-- Every role change that is due at the boundary of cycle k. -/
def State.rolesAt (s : State) (k : Nat) : State :=
  (((s.releaseAt k).yieldAt).takeoverAt k).takeoverByEchoAt k |>.takeoverByBeatAt k

/-- A role change by its own row happens at the next boundary, which the block then reaches. -/
def State.roleRow (s : State) (due : Bool) (f : State → State) : State :=
  if s.grouped && s.running && due then f (s.advanceTo s.nextBnd) else s

def State.releaseTakeEffect (s : State) : State := s.roleRow (decide (s.red.release = some 0)) (fun t => t.releaseAt (s.n + 1))
def State.takeover (s : State) : State := s.roleRow s.takeoverDue (fun t => t.takeActive (s.n + 1) t.nextEpoch true)
def State.takeoverByEcho (s : State) : State := s.roleRow s.red.echoMajority (fun t => t.takeoverByEchoAt (s.n + 1))
def State.activeYield (s : State) : State := s.roleRow s.red.yieldTo.isSome State.yieldAt

/-! ## Echoes and beats at the close (R346, R348 to R350) -/

/-- The claim that the output frames of the present cycle carry. -/
def State.sentClaim (s : State) : Nat :=
  match s.stn.sent with
  | f :: _ => f.claim
  | [] => match s.span.sent with
    | f :: _ => f.claim.toNat
    | [] => s.frameClaim

/-- What the echoes of the stations show (R346, R348). -/
def State.echoCheck (s : State) : State :=
  match majority s.echoes with
  | none => { s with red := { s.red with echoMajority := false } }
  | some c =>
    let own := decide (c = s.sentClaim)
    let t := { s with red := { s.red with echoMajority := own } }
    if s.role = 2 && bitAt c 15 && decide (bitsAt c 0 4 ≠ s.get Reg.RED_CFG_UNIT) && wins c s.frameClaim then
      { t with red := { t.red with yieldTo := some (BitVec.ofNat 16 c) } }
    else t

/-- A native station on HB_RING echoes an ACTIVE claim of the partner (R349). -/
def State.beatEcho (s : State) : Bool :=
  (s.ringStations (s.get Reg.RED_CLAIM_CFG_HB_RING)).any (fun i =>
    (storeFind s.stn.copies i).any (fun c => bitAt c.claim.toNat 15 && s.red.partners.any (fun p => decide (p.unit = bitsAt c.claim.toNat 0 4))))

/-- Count the misses of a cycle (R350): three on one path alone raise the alarm, three on both give the takeover. -/
def State.beatMiss (s : State) (p1 p2 : Bool) : State :=
  if s.red.beatAt = some s.n then s
  else
    let m1 := if p1 then min 255 (s.red.hbMiss1 + 1) else 0
    let m2 := if p2 then min 255 (s.red.hbMiss2 + 1) else 0
    let both := decide (3 ≤ m1 ∧ 3 ≤ m2)
    let one := decide (m1 = 3 ∧ m2 < 3 ∨ m2 = 3 ∧ m1 < 3)
    let t := { s with red := { s.red with hbMiss1 := m1, hbMiss2 := m2, beatAt := some s.n, beatTake := both } }
    if one then t.raise 0x0C0C else t

/-- Whether the heartbeat rules apply: a standby in compatibility mode. -/
def State.watchesBeat (s : State) : Bool := decide (s.get Reg.RED_CFG_MODE = 2 ∧ s.role = 1) && decide (s.mode = .run)

/-- The beats of the cycle at the standby's close. -/
def State.beatClose (s : State) : State := if s.watchesBeat then s.beatMiss (!s.red.beat1) (!(s.red.beat2 || s.beatEcho)) else s

/-- HEARTBEAT_MISS (R350): a cycle in which the named paths brought no beat. -/
def State.heartbeatMiss (s : State) (p1 p2 : Bool) : State := if s.watchesBeat then s.beatMiss p1 p2 else s

/-- Echoes, beats and the forward at the close of the input window. -/
def State.redClose (s : State) : State := if s.grouped && decide (s.role ≠ 0) then (s.echoCheck.beatClose).forwardSend else s

/-! ## A boundary -/

/-- The redundancy block at the boundary of the cycle that has begun (R323, R325): a single part is ACTIVE from its first boundary in RUN; a
group part sends its claim. -/
def State.redBoundary (s : State) : State :=
  if s.grouped then
    let t := { s with red := { s.red with sentClaims := [], sentProofs := [], relayed := none, fwdSent := false, noTasks := false,
                                          waiting := false, beat1 := false, beat2 := false } }
    let t := if t.get Reg.RED_CFG_UNIT = 0 then t.unitClash else t
    (t.partnersCheck.releaseDecide).sendClaim
  else if s.mode = .run ∧ s.role ≠ 2 then (s.set Reg.RED_STAT_ROLE 2).safeRefresh
  else s

/-! ## Commands (R339, R340, R343) -/

def State.redRelease (s : State) : Status × State :=
  if s.role ≠ 2 then (.role, s)
  else if s.red.release.isSome then (.done, s)
  else if s.grouped && s.successor then (.done, s.release)
  else (.state, s)

def State.redJoin (s : State) : Status × State :=
  if s.role ≠ 0 ∨ s.grouped = false ∨ s.flag Reg.RED_STAT_PLATE_DIFF then (.state, s)
  else (.done, ((({ s with red := { s.red with failures := 0 } }).set Reg.RED_STAT_ROLE 1).set Reg.RED_STAT_SYNC_STATE 4).claimUpdate)

/-- The SYNCED standby of a proof test. -/
def State.syncedPartner (s : State) : Option Nat :=
  (s.red.partners.find? (fun p => p.usable && !bitAt p.claim.toNat 15 && decide (p.sync = 3))).map Partner.unit

def State.redProofTest (s : State) : Status × State :=
  if s.role ≠ 2 then (.role, s)
  else if s.red.admission ≠ .none ∨ s.grouped = false then (.state, s)
  else match s.syncedPartner with
    | none => (.state, s)
    | some u => (.done, { s with red := { s.red with admission := .entry, admitUnit := u, admitRun := 0, proofTest := true } })

def State.redIsolate (s : State) : Status × State :=
  if s.role = 2 then (.role, s) else (.done, s.isolate.claimUpdate)

/-- A write of RED_CMD: the bits act in order, the first refusal is the answer. -/
def State.redCmd (s : State) (w : Nat) : Status × State :=
  let step := fun (r : Status × State) (b : Bool) (f : State → Status × State) => if r.1 = .done ∧ b = true then f r.2 else r
  let r := step (.done, s) (bitAt w 0) State.redRelease
  let r := step r (bitAt w 1) State.redJoin
  let r := step r (bitAt w 2) State.redProofTest
  step r (bitAt w 3) State.redIsolate

/-! ## Causes of R342 -/

/-- Lanes that the straps give a use; a part whose span settings disagree with them keeps every lane down (R353, R354). -/
def State.laneUsed (s : State) (l : Nat) : Bool :=
  !s.flag Reg.SPAN_STAT_CFG_BAD && (match s.get Reg.SPAN_CFG_STRAPS with | 0 => decide (l < 2) | 1 | 2 => decide (l < 4) | _ => false)

/-- SPAN_LANE_DOWN and SPAN_LANE_UP (R342): no lane comes up without the SerDes reference clock (R461), nor one without a use. -/
def State.laneDown (s : State) (l : Nat) : State :=
  if l < 4 then (s.set Reg.SPAN_STAT_LANE_UP (clearBit (s.get Reg.SPAN_STAT_LANE_UP) l)).healthCheck else s

def State.laneComesUp (s : State) (l : Nat) : State :=
  if s.laneUsed l && s.portsUp then (s.set Reg.SPAN_STAT_LANE_UP (setBit (s.get Reg.SPAN_STAT_LANE_UP) l)).healthCheck else s

/-- An uncorrectable memory error on the hub, cistern or NV die (R342). -/
def State.memoryError (s : State) : State := ({ s with red := { s.red with memErr := true } }).healthCheck

/-- A self-timed handshake timeout (R342). -/
def State.handshakeLost (s : State) : State := ({ s with red := { s.red with handshake := true } }).healthCheck

/-! ## Device points (R351) -/

/-- A partner's point: last claim, reachable. -/
def partnerWord (p : Option Partner) : Nat := match p with | none => 0 | some p => p.claim.toNat + b2n p.reachable * 65536

/-- The partners of lower and higher UNIT: of two, in order; one partner is placed against the own UNIT (log entry 23). -/
def State.partnerPair (s : State) : Option Partner × Option Partner :=
  match s.red.partners with
  | [] => (none, none)
  | [p] => if p.unit < s.get Reg.RED_CFG_UNIT then (some p, none) else (none, some p)
  | p :: q :: _ => (some p, some q)

/-- LINK (R351). -/
def State.linkWord (s : State) : Nat :=
  let up := s.get Reg.SPAN_STAT_LANE_UP
  ofBits [bitAt up 0, bitAt up 1, s.flag Reg.RED_STAT_RELEASE_BLOCKED, s.flag Reg.RED_STAT_PLATE_DIFF, s.red.echoMajority,
    decide (3 ≤ s.red.hbMiss1), decide (3 ≤ s.red.hbMiss2)]

/-- The points of the redundancy block, at each freeze. -/
def State.redPoints (s : State) : State :=
  let pr := s.partnerPair
  s.putAll [(0xE6000, s.role), (0xE6001, s.frameClaim), (0xE6002, s.health), (0xE6003, ofBits (s.penalties.map (fun p => decide (p ≠ 0)))),
    (0xE6004, s.sync), (0xE6005, s.red.admitRun), (0xE6006, s.red.proofBytes), (0xE6007, s.red.proofMiss), (0xE6008, partnerWord pr.1),
    (0xE6009, partnerWord pr.2), (0xE600A, s.linkWord), (0xE600B, s.red.takeovers), (0xE600C, s.red.digestDiff), (0xE600D, s.red.takeCycle),
    (0xE600E, s.get Reg.RED_STAT_EPOCH)]

/-- What a restart leaves (R390): the role stays, a standby is UNSYNCED. -/
def State.redRestart (s : State) : State :=
  let t := { s with red := { s.red with rx := none, segments := [], forwards := [], digests := [], admission := .none, waiting := false,
                                        lastProof := false, noTasks := false } }
  if s.grouped ∧ s.role = 1 then t.unsync else t

/-! ## The commands of this file -/

def execProofLinkFrameRx (f : ProofFrame) (s : State) : Host.Outcome State Fault Refusal := .next (s.proofLinkRx f)
def execPartnerUnreachable (unit : Nat) (s : State) : Host.Outcome State Fault Refusal := .next (s.partnerLost unit)
def execReleaseTakeEffect (s : State) : Host.Outcome State Fault Refusal := .next s.releaseTakeEffect
def execTakeover (s : State) : Host.Outcome State Fault Refusal := .next s.takeover
def execTakeoverByEcho (s : State) : Host.Outcome State Fault Refusal := .next s.takeoverByEcho
def execActiveYield (s : State) : Host.Outcome State Fault Refusal := .next s.activeYield
def execHeartbeatMiss (p1 p2 : Bool) (s : State) : Host.Outcome State Fault Refusal := .next (s.heartbeatMiss p1 p2)
def execSpanLaneDown (lane : Nat) (s : State) : Host.Outcome State Fault Refusal := .next (s.laneDown lane)
def execSpanLaneUp (lane : Nat) (s : State) : Host.Outcome State Fault Refusal := .next (s.laneComesUp lane)
def execUncorrectableMemoryError (_die : Nat) (s : State) : Host.Outcome State Fault Refusal := .next s.memoryError
def execHandshakeTimeout (s : State) : Host.Outcome State Fault Refusal := .next s.handshakeLost

end Sys2Proof.Machine
end

