-- ==== Sys2Proof/Machine/Power.lean ====
section
/-! DEFINITION. The retentive mirror (R76 to R78, R398, R404), the power manager (R31 to R33, R395 to R409, R469) and the keeper (R410 to
R414). -/

namespace Sys2Proof.Machine

/-! ## The retentive mirror (R76, R77, R398) -/

/-- Whether bank 1 is the one that does not hold the latest sequence number. -/
def MirrorState.target (m : MirrorState) : Bool :=
  match m.bank0, m.bank1 with
  | none, _ => false
  | some _, none => true
  | some a, some b => decide (b.seq < a.seq)

/-- The retentive records as they stand. -/
def State.retentive (s : State) : Store Point := s.points.filter (fun e => isRetentive e.1)

/-- Copy the retentive records and the loop section, and start their write (R76, R260). DESIGN CHOICE (log entry 41): every write carries the
whole area, since the bank that it goes to may lack what the write before put into the other one. -/
def State.mirrorStart (s : State) : State :=
  let m := s.mirror
  let bank : MirrorBank := { seq := m.seq + 1, points := s.retentive, loops := s.loopSection, ok := true }
  { s with mirror := { m with seq := m.seq + 1, writing := some (m.target, bank), dirty := [], full := false,
                              waiting := false, owed := false } }

/-- A mirror instant (R76, R77): while the last write is in progress this one waits, and MIRROR_LATE is set. -/
def State.mirrorTake (s : State) : State :=
  if s.mirror.writing.isSome then
    (({ s with mirror := { s.mirror with waiting := true, owed := false } }).setFlag Reg.PUMP_STAT_MIRROR_LATE true).raise 0x0306
  else s.mirrorStart

/-- The forced mirror of a dip: a write in progress is abandoned, and its bank is written (R398). -/
def State.mirrorForce (s : State) : State :=
  let t := { s with mirror := { s.mirror with writing := none, forced := false } }
  t.mirrorStart

/-- The mirror at the end of a cycle: `frozen` says that a freeze, or in a cycle without tasks the instant of R482, takes place. -/
def State.mirrorInstant (s : State) (frozen : Bool) : State :=
  let due := decide ((s.n + 1) % s.kHold = 0) || s.mirror.owed
  if s.mode = .replay then s
  else if !frozen then { s with mirror := { s.mirror with owed := due } }
  else if s.mirror.forced then s.mirrorForce
  else if due then s.mirrorTake
  else s

/-- MIRROR_WRITE_DONE (R77). -/
def State.mirrorDone (s : State) : State :=
  match s.mirror.writing with
  | none => s
  | some (b, bank) =>
    let m := { s.mirror with writing := none }
    let t := { s with mirror := if b then { m with bank1 := some bank } else { m with bank0 := some bank } }
    if t.mirror.waiting then t.mirrorStart else t

/-- The mirror of a warm restart: a write in progress ends, then every line is written within the restart (R92). -/
def State.mirrorNow (s : State) : State :=
  (({ s with mirror := { s.mirror with waiting := false } }).mirrorDone).mirrorStart.mirrorDone

/-- The bank to restore: the highest sequence number among those whose lines pass their check (R76). -/
def MirrorState.best (m : MirrorState) : Option MirrorBank :=
  match m.bank0.filter MirrorBank.ok, m.bank1.filter MirrorBank.ok with
  | some a, some b => if a.seq < b.seq then some b else some a
  | some a, none => some a
  | none, b => b

/-- The records of the retentive area that a plate declares, restored from a bank where the type agrees, else initial (R78). -/
def restoreRetentive (v : Variant) (decls : List PointDecl) (bank : Option MirrorBank) (img : Store Point) : Store Point :=
  (decls.filter (fun d => isRetentive d.addr && populated v d.addr)).foldl (fun st d =>
    let r := match bank.bind (fun b => storeFind b.points d.addr) with
      | some r => if r.type = d.type then r else initPoint d
      | none => initPoint d
    storeSet st d.addr r (pointDefault v d.addr)) img

/-! ## VIN and DIP (R396 to R402) -/

/-- A voltage in mV as a binary32 number of volts. -/
def volts32 (mv : Nat) : Word := F64.toF32 (F64.ofRat mv 1000)

/-- DIP applies in this state (R397): in RUN, PARK, REPLAY and restart cycles and from stage LOAD of a boot. -/
def State.dipApplies (s : State) : Bool :=
  s.running || decide (s.mode = .done) || decide (s.mode = .boot ∧ 4 ≤ s.get Reg.RST_BOOT_STAGE)

/-- A sample of VIN against VIN_WARN and, 0.3 V above it, the exit level (R396, R397). -/
def State.vinCompare (s : State) (mv : Nat) : State :=
  let warn := s.get Reg.PWR_VIN_CFG_VIN_WARN * 10
  { s with pwr := { s.pwr with belowSince := if mv < warn then some (s.pwr.belowSince.getD s.up) else none,
                               aboveSince := if warn + 300 < mv then some (s.pwr.aboveSince.getD s.up) else none } }

/-- VIN_SAMPLE (R396): sampled while the power manager has its supply. -/
def State.vinSample (s : State) (mv : Nat) : State :=
  if s.mode = .backup ∨ s.mode = .held then s
  else
    let v := min mv 65535
    let t := (s.set Reg.PWR_VIN_STAT_VIN_MV v).set Reg.PWR_VIN_STAT_VIN_MIN_MV (min v (s.get Reg.PWR_VIN_STAT_VIN_MIN_MV))
    let t := if t.pwr.dipping then { t with pwr := { t.pwr with dipLow := min t.pwr.dipLow v } } else t
    (t.vinCompare v).sample 0x01F0 (volts32 v).toNat

/-- The part enters DIP (R397, R398): a retentive mirror is forced, at the next freeze while a task may run, else at once. -/
def State.dipState (s : State) : State :=
  let t := (s.setFlag Reg.PWR_STAT_DIP true).raise 0x0101
  if !t.running || decide (t.mode = .replay) then t
  else if t.phase = .tasks ∧ t.tasksRun = true then { t with mirror := { t.mirror with forced := true } }
  else t.mirrorForce

/-- Let time pass until a condition that has held since `since` has held for `ns`; nothing where the samples do not show since when it holds. -/
def State.heldFor (s : State) (since : Option Nat) (ns : Nat) : State :=
  match since with
  | some t => s.waitUntil (t + ns)
  | none => s

/-- DIP_ENTER (R397): VIN has been below VIN_WARN for 5 µs; the keeper counts every entry. -/
def State.dipEnter (s : State) : State :=
  if s.pwr.dipping ∨ s.mode = .held ∨ s.mode = .backup then s
  else
    let s := s.heldFor s.pwr.belowSince 5000
    let t := { s with pwr := { s.pwr with dipping := true, dipStart := s.up, dipLow := s.get Reg.PWR_VIN_STAT_VIN_MV },
                      keep := { s.keep with dips := satInc 32 s.keep.dips } }
    if t.dipApplies then t.dipState else t

/-- Depth of the dip in 10 mV, its duration in 10 µs (R401). -/
def State.dipDepth (s : State) : Nat := s.get Reg.PWR_VIN_CFG_VIN_WARN - s.pwr.dipLow / 10
def State.dipDuration (s : State) : Nat := (s.up - s.pwr.dipStart) / 10000

/-- DIP_EXIT (R397, R401, R402): VIN has been above VIN_WARN + 0.3 V for 1 ms; the readings are taken, what was deferred goes on. -/
def State.dipExit (s : State) : State :=
  let s := if s.pwr.dipping then s.heldFor s.pwr.aboveSince 1000000 else s
  let t := { s with pwr := { s.pwr with dipping := false } }
  if !s.flag Reg.PWR_STAT_DIP then t
  else
    let t := (t.setFlag Reg.PWR_STAT_DIP false).setFlag Reg.PWR_STAT_UV_SUSTAINED false
    let t := (t.set Reg.PWR_DIP_LAST_DEPTH (min s.dipDepth 4095)).set Reg.PWR_DIP_LAST_DURATION (min s.dipDuration 1048575)
    (((t.mergePending.raiseWith 0x0102 s.dipDuration).raiseWith 0x0103 s.dipDepth).calSaveResume.healthCheck)

/-- UV_SUSTAINED (R402). -/
def State.uvSustained (s : State) : State :=
  if s.flag Reg.PWR_STAT_DIP && !s.flag Reg.PWR_STAT_UV_SUSTAINED then
    let t := s.waitUntil (s.pwr.dipStart + s.get Reg.PWR_VIN_CFG_DIP_MAX * 10000000)
    ((t.setFlag Reg.PWR_STAT_UV_SUSTAINED true).raise 0x0104).healthCheck
  else s

/-! ## Bank supplies (R405) -/

/-- The bank supplies are watched while the core is on. -/
def State.powered (s : State) : Bool := decide (s.mode ≠ .held ∧ s.mode ≠ .sleep ∧ s.mode ≠ .backup)

/-- VIO_A_LOW: bank A floats, trip inputs read low and latch. -/
def State.vioALow (s : State) : State :=
  if s.powered && !s.flag Reg.PWR_STAT_VIO_A_LOW then
    let t := (s.setFlag Reg.PWR_STAT_VIO_A_LOW true).raise 0x0105
    (({ t with safe := { t.safe with tripIn := 0, fb := 0 } }).gpioFloat.tripAll).safeRefresh
  else s

/-- VIO_B_LOW: the SPI target stops answering. -/
def State.vioBLow (s : State) : State :=
  if s.powered && !s.flag Reg.PWR_STAT_VIO_B_LOW then (s.setFlag Reg.PWR_STAT_VIO_B_LOW true).raise 0x0105 else s

/-- VIO_RECOVER. -/
def State.vioRecover (s : State) (bankB : Bool) : State :=
  if bankB then s.setFlag Reg.PWR_STAT_VIO_B_LOW false else (s.setFlag Reg.PWR_STAT_VIO_A_LOW false).safeRefresh

/-! ## Pace (R31 to R33, R342) -/

/-- VCORE_STEP (R32): at most one step of 5 mV per millisecond. -/
def State.vcoreStep (s : State) : State :=
  let v := s.get Reg.PWR_PACE_STAT_VCORE_MV
  let p := s.get Reg.PWR_PACE_STAT_PACE
  let fl := s.get Reg.PWR_PACE_CTL_PACE_FLOOR
  let mg := s.get Reg.PWR_PACE_CTL_PACE_MARGIN
  let w := if p < fl + mg ∧ v < 900 then v + 5 else if fl + 2 * mg < p ∧ 700 < v then v - 5 else v
  if w ≠ v ∧ s.pwr.lastVcoreStep ≤ s.up then
    (({ s with pwr := { s.pwr with lastVcoreStep := s.up + 1000000 } }).set Reg.PWR_PACE_STAT_VCORE_MV w).setFlag
      Reg.PWR_PACE_STAT_AT_VMAX (decide (w = 900))
  else s

/-- PACE_LOW (R33). -/
def State.paceLowCheck (s : State) : State :=
  if s.get Reg.PWR_PACE_STAT_VCORE_MV = 900 ∧ s.get Reg.PWR_PACE_STAT_PACE < s.get Reg.PWR_PACE_CTL_PACE_FLOOR then
    if s.flag Reg.PWR_PACE_STAT_PACE_LOW then s else (s.setFlag Reg.PWR_PACE_STAT_PACE_LOW true).raise 0x0108
  else s

/-- Since when the pace is below PACE_FLOOR − 0.05, since when at or above PACE_FLOOR; the penalty clears after 10 s of the latter (R342). -/
def State.paceWatch (s : State) : State :=
  let p := s.get Reg.PWR_PACE_STAT_PACE
  let fl := s.get Reg.PWR_PACE_CTL_PACE_FLOOR
  let low := if p + 5 < fl then some (s.pwr.paceLowSince.getD s.up) else none
  let ok := if fl ≤ p then some (s.pwr.paceOkSince.getD s.up) else none
  let clear := match ok with | some t => decide (t + 10000000000 ≤ s.up) | none => false
  let t := { s with pwr := { s.pwr with paceLowSince := low, paceOkSince := ok },
                    red := { s.red with paceLow := s.red.paceLow && !clear } }
  t.healthCheck

/-- A pace index in hundredths as a binary32 number. -/
def pace32 (p : Nat) : Word := F64.toF32 (F64.ofRat p 100)

/-- The lowest reading. -/
def lowest : List Nat → Option Nat
  | [] => none
  | x :: t => some (t.foldl min x)

/-- The pace index takes a value, in hundredths; each update is a sample of code 0x03F0 (R421). DESIGN CHOICE (log entry 39): an index above 5.11
reads 5.11, the most that the field holds. -/
def State.paceSet (s : State) (pace : Nat) : State :=
  let t := (s.set Reg.PWR_PACE_STAT_PACE (min pace 511)).vcoreStep
  ((t.paceLowCheck).paceWatch).sample 0x03F0 (pace32 (min pace 511)).toNat

/-- PACE_UPDATE (R31): 100 µs after the update before, the index is the lowest of the oscillators' readings. -/
def State.paceUpdate (s : State) (readings : List Nat) : State :=
  match s.powered, lowest readings with
  | true, some p =>
    let t := s.waitUntil (s.pwr.paceAt + 100000)
    ({ t with pwr := { t.pwr with paceAt := t.up } }).paceSet p
  | _, _ => s

/-- PACE_HEALTH_LOSS (R33): the pace has stayed low for 100 ms. -/
def State.paceHealthLoss (s : State) : State :=
  match s.pwr.paceLowSince with
  | none => s
  | some t =>
    let u := s.waitUntil (t + 100000000)
    ({ u with red := { u.red with paceLow := true } }).healthCheck

/-! ## Temperature (R469) -/

/-- The over-temperature limit of the grade, in 0.5 °C (R468). -/
def State.tempLimit (s : State) : Int := if s.gradeXT then 220 else 200

/-- A temperature in 0.5 °C as the 10-bit field of PWR_TEMP_STAT. -/
def tempField (tj : Int) : Nat := (tj % 1024).toNat

/-- A temperature in 0.5 °C as a binary32 number of °C. -/
def temp32 (tj : Int) : Word := F64.toF32 (F64.ofRat tj 2)

/-- Consecutive hot samples, and the start of consecutive samples at or below the limit. -/
def State.tempCount (s : State) (tj : Int) : State :=
  if s.tempLimit < tj then { s with pwr := { s.pwr with hotSamples := min 10 (s.pwr.hotSamples + 1), coolSince := none } }
  else { s with pwr := { s.pwr with hotSamples := 0, coolSince := some (s.pwr.coolSince.getD s.up) } }

/-- OVERTEMP clears after 60 s (R469). -/
def State.overtempEnd (s : State) : State := ((s.setFlag Reg.PWR_TEMP_STAT_OVERTEMP false).raise 0x010B).healthCheck

/-- OVERTEMP after ten hot samples, or its end when 60 s of cool samples have passed. -/
def State.overtempCheck (s : State) : State :=
  if s.flag Reg.PWR_TEMP_STAT_OVERTEMP then
    match s.pwr.coolSince with
    | some t => if t + 60000000000 ≤ s.up then s.overtempEnd else s
    | none => s
  else if s.pwr.hotSamples = 10 then ((s.setFlag Reg.PWR_TEMP_STAT_OVERTEMP true).raise 0x010A).healthCheck
  else s

/-- TEMP_SAMPLE (R469): the highest reading and the die that gave it. -/
def State.tempSample (s : State) (tj : Int) (die : Nat) : State :=
  if s.powered then
    let old := sext 10 (s.get Reg.PWR_TEMP_STAT_TJ_MAX)
    let t := ((s.set Reg.PWR_TEMP_STAT_TJ (tempField tj)).set Reg.PWR_TEMP_STAT_HOTTEST die).set Reg.PWR_TEMP_STAT_TJ_MAX
      (tempField (max old tj))
    ((t.sample 0x01F1 (temp32 tj).toNat).tempCount tj).overtempCheck
  else s

/-- OVERTEMP_CLEAR (R469). -/
def State.overtempClear (s : State) : State :=
  match s.pwr.coolSince with
  | some t => if s.flag Reg.PWR_TEMP_STAT_OVERTEMP then (s.waitUntil (t + 60000000000)).overtempEnd else s
  | none => s

/-! ## Power states (R406 to R408) -/

/-- A condition of R388 other than AUTO_RUN and BOOT_SEL fails. -/
def State.runBlocked (s : State) : Bool :=
  s.flag Reg.IMG_STAT_IMG_FALLBACK || s.flag Reg.RST_BOOT_PLATE_BAD || s.flag Reg.RST_BOOT_FATAL_HOLD || s.flag Reg.SPAN_STAT_CFG_BAD
    || !(s.runPlate.any s.meetsBudget)

/-- A command of PWR_CMD (R406). -/
def State.pwrCmd (s : State) (op : Nat) : Status × State :=
  let go := fun (_ : Unit) => (Status.done, { s with pwr := { s.pwr with cmd := some (op, s.boundarySkip) } })
  if op = 0 then (.range, s)
  else if op = 1 ∧ s.mode = .park then
    if s.restarting ∨ s.pump.restartReq.isSome then (.busy, s) else if s.runBlocked then (.state, s) else go ()
  else if op = 2 ∧ s.mode = .run then if s.hasStandby then (.role, s) else go ()
  else if op = 3 ∧ s.mode = .park then if s.flag Reg.PWR_STAT_DIP then (.busy, s) else go ()
  else (.state, s)

/-- A suspended SLOW scan is abandoned, and no task runs (R407). -/
def State.tasksOff (s : State) : State :=
  { s with pump := { s.pump with running := none, slow := { block := 2 }, slowOpen := false, slowStarted := false } }

/-- The part enters PARK (R407). -/
def State.enterPark (s : State) : State :=
  let t := (({ s with mode := .park }).setFlag Reg.PWR_STAT_PARKED true).setFlag Reg.PUMP_STAT_RUNNING false
  let t := t.tasksOff
  if t.grouped ∧ t.role = 1 then ({ t with red := { t.red with waiting := false, rx := none } }).unsync else t

/-- The part enters RUN (R388, R406). -/
def State.enterRun (s : State) : State :=
  (({ s with mode := .run }).setFlag Reg.PWR_STAT_PARKED false).setFlag Reg.PUMP_STAT_RUNNING true

/-- The four lifetime counters. -/
def KeepState.counters (k : KeepState) : List Nat := [k.powered, k.dips, k.resets, k.overtemp]

/-- Write the lifetime mirror and, with it, the lifetime record (R413, R424). -/
def State.lifetimeWrite (s : State) : State :=
  ({ s with keep := { s.keep with mirror := s.keep.counters, mirrorDue := false } }).writeLifetime

/-- SLEEP begins with a mirror and the lifetime mirror (R408), which a dip defers (R399). -/
def State.sleepBegin (s : State) : State :=
  let t := ({ s with pwr := { s.pwr with sleeping := true } }).mirrorTake
  if t.flag Reg.PWR_STAT_DIP then { t with keep := { t.keep with mirrorDue := true } } else t.lifetimeWrite

/-- A commanded state change at its boundary (R406). -/
def State.pwrBoundary (s : State) : State :=
  match s.pwr.cmd with
  | none => s
  | some (op, k + 1) => { s with pwr := { s.pwr with cmd := some (op, k) } }
  | some (op, 0) =>
    let t := { s with pwr := { s.pwr with cmd := none } }
    if op = 1 then t.enterRun else if op = 2 then t.enterPark else t.sleepBegin

/-- An NV operation runs or is deferred (R400, R408). -/
def State.nvBusy (s : State) : Bool :=
  s.mirror.writing.isSome || s.mirror.waiting || decide (s.plate.op = .commit ∨ s.plate.op = .install)
    || s.images.saveWanted || s.images.saving.isSome || s.obs.saving.isSome || s.obs.saveWanted
    || s.solv.op.any (fun o => o.2) || s.sec.fuseOp.isSome || (s.pwr.sleeping && s.keep.mirrorDue)

/-- SLEEP_ENTER (R408): once the NV work is complete the rails turn off; what a reset clears is cleared at the wake. -/
def State.sleepEnter (s : State) : State :=
  if s.pwr.sleeping && !s.nvBusy then
    let t := (s.tasksOff).setFlag Reg.PUMP_STAT_RUNNING false
    ({ t with mode := .sleep, phase := .idle, pwr := { t.pwr with sleeping := false }, safe := { t.safe with high := 0 } }).ppsFloat.gpioFloat
  else s

/-- DEFER of PWR_STAT (R400): in DIP an operation of R399 is deferred. -/
def State.deferred (s : State) : Bool :=
  s.flag Reg.PWR_STAT_DIP &&
    (decide (s.plate.op = .commit ∨ s.plate.op = .install) || s.images.saving.isSome || s.obs.saving.isSome || s.obs.saveWanted
      || s.solv.op.any (fun o => o.2) || s.keep.mirrorDue || s.rcd.opened.any (fun e => e.2.dirty) || !s.rcd.pend.isEmpty)

/-! ## The keeper (R410 to R414) -/

/-- The keeper works: it is not lost and its oscillator runs (R462). -/
def State.keeperOn (s : State) : Bool := s.keep.running

/-- CASE_OPEN_DETECT (R414): the first detection takes the tick; the event is recorded now in RUN and PARK, else at the next boot. -/
def State.caseOpen (s : State) : State :=
  if !s.keeperOn then s
  else if s.keep.caseOpen then { s with keep := { s.keep with caseLevel := true } }
  else
    let t := { s with keep := { s.keep with caseLevel := true, caseOpen := true, caseTick := s.keepTick % 4294967296 } }
    if t.running then t.raise 0x0107 else { t with rst := { t.rst with toRecord := t.rst.toRecord ++ [(0x0107, 0)] } }

/-- VBAT_LOW_DETECT (R414). -/
def State.vbatLow (s : State) : State :=
  if !s.keeperOn || s.keep.vbatLow then s
  else
    let t := { s with keep := { s.keep with vbatLow := true } }
    if t.running then t.raise 0x0106 else { t with rst := { t.rst with toRecord := t.rst.toRecord ++ [(0x0106, 0)] } }

/-- KEEPER_LOST (R410): the registers of the keeper are invalid; only the NV mirror and the input levels remain. While it runs from VIN its
supply stands above 1.8 V. -/
def State.keeperLost (s : State) : State :=
  if s.keep.onVin then s else
  { s with keep := { running := false, lost := true, mirror := s.keep.mirror, caseLevel := s.keep.caseLevel, wakeN := s.keep.wakeN,
                     onVin := s.keep.onVin } }

/-- KEEPER_START (R411, R413): KEEP_TICK at 0, the counters from the mirror. The power-on that follows is one with the keeper lost. -/
def State.keeperStart (s : State) : State :=
  if s.keep.lost && !s.keep.running then
    let g := fun (i : Nat) => s.keep.mirror.getD i 0
    { s with keep := { s.keep with running := true, ns := 0, powered := g 0, dips := g 1, resets := g 2, overtemp := g 3, calBase := 0,
                                   calValid := false } }
  else s

/-- LIFETIME_MIRROR_WRITE (R413, R399). -/
def State.lifetimeMirror (s : State) : State :=
  if s.keep.mirrorDue && !s.flag Reg.PWR_STAT_DIP then s.lifetimeWrite else s

/-- POWERED_SECOND (R413, R469): seconds with VIN above VIN_RST, seconds of OVERTEMP. -/
def State.poweredSecond (s : State) : State :=
  if s.keep.running && !s.pwr.vinAbsent && decide (s.mode ≠ .backup) then
    let p := satInc 32 s.keep.powered
    { s with keep := { s.keep with powered := p, mirrorDue := s.keep.mirrorDue || decide (p % 3600 = 0),
                                   overtemp := if s.flag Reg.PWR_TEMP_STAT_OVERTEMP then satInc 32 s.keep.overtemp else s.keep.overtemp } }
  else s

/-- CAL_BASE_UPDATE (R412): not without a lock, nor while the oscillator stands still (R462). -/
def State.calBaseUpdate (s : State) : State :=
  if s.flag Reg.TSU_SRC_STAT_LOCKED && s.keep.running then
    { s with keep := { s.keep with calBase := s.now - s.keepTick * 1953125 / 64, calValid := true } }
  else s

/-! ## Device points (R417) -/

/-- The points of the power manager and the keeper. -/
def State.powerPoints (s : State) : State :=
  let flags := ofBits [s.flag Reg.PWR_STAT_DIP, s.flag Reg.PWR_STAT_UV_SUSTAINED, s.flag Reg.PWR_STAT_VIO_A_LOW,
    s.flag Reg.PWR_STAT_VIO_B_LOW, s.keep.vbatLow, s.keep.caseOpen, s.keep.calValid, s.deferred, s.flag Reg.PWR_PACE_STAT_PACE_LOW]
  s.putAll [(0xE6200, (volts32 (s.get Reg.PWR_VIN_STAT_VIN_MV)).toNat), (0xE6201, flags), (0xE6202, if s.mode = .run then 0 else 1),
    (0xE6203, (volts32 (s.get Reg.PWR_PACE_STAT_VCORE_MV)).toNat), (0xE6204, s.keep.dips), (0xE6205, s.keep.powered)]

/-! ## The commands of this file -/

def execMirrorWriteDone (s : State) : Host.Outcome State Fault Refusal := .next s.mirrorDone
def execVinSample (mv : Nat) (s : State) : Host.Outcome State Fault Refusal := .next (s.vinSample mv)
def execDipEnter (s : State) : Host.Outcome State Fault Refusal := .next s.dipEnter
def execDipExit (s : State) : Host.Outcome State Fault Refusal := .next s.dipExit
def execUvSustained (s : State) : Host.Outcome State Fault Refusal := .next s.uvSustained
def execVioALow (s : State) : Host.Outcome State Fault Refusal := .next s.vioALow
def execVioBLow (s : State) : Host.Outcome State Fault Refusal := .next s.vioBLow
def execVioRecover (bankB : Bool) (s : State) : Host.Outcome State Fault Refusal := .next (s.vioRecover bankB)
def execPaceUpdate (readings : List Nat) (s : State) : Host.Outcome State Fault Refusal := .next (s.paceUpdate readings)
def execPaceHealthLoss (s : State) : Host.Outcome State Fault Refusal := .next s.paceHealthLoss
def execTempSample (tj : Int) (die : Nat) (s : State) : Host.Outcome State Fault Refusal := .next (s.tempSample tj die)
def execOvertempClear (s : State) : Host.Outcome State Fault Refusal := .next s.overtempClear
def execSleepEnter (s : State) : Host.Outcome State Fault Refusal := .next s.sleepEnter
def execVbatLowDetect (s : State) : Host.Outcome State Fault Refusal := .next s.vbatLow
def execKeeperLost (s : State) : Host.Outcome State Fault Refusal := .next s.keeperLost
def execKeeperStart (s : State) : Host.Outcome State Fault Refusal := .next s.keeperStart
def execLifetimeMirrorWrite (s : State) : Host.Outcome State Fault Refusal := .next s.lifetimeMirror
def execPoweredSecond (s : State) : Host.Outcome State Fault Refusal := .next s.poweredSecond
def execCalBaseUpdate (s : State) : Host.Outcome State Fault Refusal := .next s.calBaseUpdate

end Sys2Proof.Machine
end

