-- ==== Sys2Proof/Machine/RegMap.lean ====
section
/-! DEFINITION. Finding registers and fields by address (R41, R45), and the image-backed settings as one set (R61, R62). -/

namespace Sys2Proof.Machine

/-- Whether an address is a word of this register or array of registers. -/
def RegDef.holds (d : RegDef) (a : Nat) : Bool :=
  decide (d.addr ≤ a ∧ (a - d.addr) % d.stride = 0 ∧ (a - d.addr) / d.stride < d.count)

/-- The fields of the word at an address of this register. -/
def RegDef.fieldsAt (d : RegDef) (a : Nat) : List Fld := d.fields.map (fun f => { f with addr := f.addr + (a - d.addr) })

/-- The register at a word address. -/
def regAt (a : Nat) : Option RegDef := (Reg.blockTable (a / 65536)).find? (fun d => d.holds a)

/-- Address, instance and low bit of a storage key. -/
def keyAddr (k : Nat) : Nat := k / 32 % 16777216
def keyIndex (k : Nat) : Nat := k / 536870912
def keyLo (k : Nat) : Nat := k % 32

/-- The field of a storage key. -/
def fieldOfKey (k : Nat) : Option Fld :=
  (regAt (keyAddr k)).bind (fun d => (d.fieldsAt (keyAddr k)).find? (fun f => decide (f.lo = keyLo k)))

/-- Lay saved settings over the registers: image-backed fields only (R61). -/
def applySettings (l : List (Nat × Nat)) (regs : Store Nat) : Store Nat :=
  l.foldl (fun st e =>
    match fieldOfKey e.1 with
    | some f => if f.image then storeSet st e.1 (e.2 % 2 ^ f.width) (f.resetOf (keyIndex e.1)) else st
    | none => st) regs

/-- The live values of every image-backed field that differs from its factory default (R62). -/
def State.liveSettings (s : State) : List (Nat × Nat) := s.regs.filter (fun e => (fieldOfKey e.1).any (fun f => f.image))

/-- Whether a register entry outlives a cold restart: status fields, and the LOCK bits (R390). -/
def keptCold (e : Nat × Nat) : Bool :=
  decide (keyAddr e.1 = Reg.SYS_LOCK_LOCK.addr) || (fieldOfKey e.1).all (fun f => decide (f.acc ≠ .rw))

/-- Settings as a cold restart leaves them: factory values, then the booted image's saved values (R61, R390). -/
def State.reloadSettings (s : State) : State :=
  { s with regs := applySettings s.images.bootSettings (s.regs.filter keptCold) }

end Sys2Proof.Machine
end

