-- ==== Sys2Proof/Machine/Restart.lean ====
section
/-! DEFINITION. Warm and cold restarts (R56, R89 to R92, R143, R144, R226, R260, R390, R391, R393). -/

namespace Sys2Proof.Machine

/-! ## The booted image (R61, R386, R440) -/

/-- A user copy that passes its checks (R386, R435). -/
def State.goodCopy (s : State) (b : Bool) : Option ImageDesc :=
  match (if b then s.images.copyB else s.images.copyA) with
  | some (d, v) => if (s.verifyImage v d).1 = .done then some d else none
  | none => none

/-- The fields of KEEP_WAKE_CFG take a written word. -/
def State.wakeCfg (s : State) (v : Nat) : State :=
  { s with keep := { s.keep with wakeNEn := bitAt v 0, caseWakeEn := bitAt v 1, postedCfg := none } }

/-- KEEP_WAKE_CFG as the booted image gives it: its home is the keeper, not the register store. -/
def State.wakeFromImage (s : State) : State :=
  if s.flag Reg.IMG_STAT_IMG_FALLBACK then s
  else
    let v := s.get Reg.KEEP_WAKE_CFG_WAKE_N_EN + 2 * s.get Reg.KEEP_WAKE_CFG_CASE_WAKE_EN
    (((s.wakeCfg v).set Reg.KEEP_WAKE_CFG_WAKE_N_EN 0).set Reg.KEEP_WAKE_CFG_CASE_WAKE_EN 0)

/-- A copy that was ACTIVATED takes effect at a cold restart (R440). -/
def State.bootActivated (s : State) : State :=
  match (if s.imgLoadState = 4 then s.goodCopy s.images.pointerB else none) with
  | some d =>
    let t := { s with images := { s.images with bootSettings := d.settings, loadWords := [] }, rst := { s.rst with imgSvn := d.svn } }
    ((t.setFlag Reg.IMG_STAT_BOOT_B s.images.pointerB).setFlag Reg.IMG_STAT_IMG_FALLBACK false).set Reg.SEC_IMG_STAT_STATE 0
  | none => s

/-! ## What a restart discards -/

/-- A restart discards an open or pending transaction, and says so in RESULT (R56). -/
def State.txnDiscard (s : State) : State :=
  if s.host.phase = .idle ∧ s.host.commits.isEmpty then s
  else { s with host := { s.host with phase := .idle, staged := [], commits := [], result := Status.state.code } }

/-- A restart ends REPLAY: the part is in PARK again (R434; log entry 24). -/
def State.replayLeave (s : State) : State :=
  if s.mode = .replay then
    ({ s with mode := .park, cap := { s.cap with replayFree := false, replayEndReq := false, replayOut := [] } }).set
      Reg.CAP_STAT_STATE s.cap.beforeState
  else s

/-! ## Plates (R143, R144, R391) -/

/-- The plate that INSTALL wrote runs from its slot, and the other slot is EMPTY (R144). -/
def State.installRestart (s : State) : State :=
  let t := s.set Reg.PLATE_STAT_RUN_SLOT (s.get Reg.PLATE_STAT_COMMIT_SLOT)
  (t.emptySlot 0).setFlag Reg.RST_BOOT_PLATE_BAD false

/-- A provisional plate gives way to the committed one: its slot is VERIFIED, MAP_OK is evaluated anew (R143). -/
def State.provisionalDrop (s : State) : State :=
  let t := ({ s with plate := { s.plate with op := .none, revertReq := none, revertAt := none, oldInst := {} } }).set
    Reg.PLATE_STAT_RUN_SLOT (s.get Reg.PLATE_STAT_COMMIT_SLOT)
  let free := t.slotPlate t.freeSlot
  let t := (t.set Reg.PLATE_STAT_SLOT_STATE 3).setFlag Reg.PLATE_STAT_MAP_OK (free.any (fun p => mapOk p t.plateId))
  (t.set Reg.PLATE_NEW_ID_ID ((free.map PlateDesc.id).getD 0).toNat).raise 0x0401

/-- The plate slots at a restart. -/
def State.plateRestart (s : State) (cold : Bool) : State :=
  let t := s.swapCancelled
  if !cold then t
  else if t.slotState = 6 ∧ t.plate.op = .none then t.installRestart
  else if t.slotState = 5 ∨ t.slotState = 6 ∧ t.plate.op = .commit then t.provisionalDrop
  else t

/-! ## Points, instances, tasks (R92) -/

/-- The device status points of an image. -/
def devicePoints (l : Store Point) : Store Point := l.filter (fun e => decide (areaOf e.1 = .device) && !isCommandPoint e.1)

/-- The image after a restart: initial values outside the device area, no command points; the retentive area is given. -/
def restartImage (init old ret : Store Point) : Store Point :=
  init.filter (fun e => decide (e.1 < 0xE0000)) ++ devicePoints old ++ ret

/-- A force that outlives a warm restart marks its point again; an orphan point stands as it was (R134, R140). -/
def State.forceKeep (before s : State) (e : Nat) : State :=
  let p := s.get Reg.FORCE_ENT_ADDR_POINT e
  let r := if (before.point p).orphan then before.point p else { s.point p with forced := true }
  { s with points := storeSet s.points p r (pointDefault s.variant p) }

/-- The points at a restart. -/
def State.pointsRestart (s : State) (cold : Bool) : State :=
  let init := initImage s.variant ((s.runPlate.map PlateDesc.decls).getD [])
  let ret := if cold then init.filter (fun e => isRetentive e.1) else s.retentive
  let t := { s with points := restartImage init s.points ret,
                    mirror := if cold then { s.mirror with full := true, dirty := [] } else s.mirror }
  t.forceEntries.foldl (fun u e => s.forceKeep u e) t

/-- The pump at a restart: tasks cleared, instances at the plate's initial values, first scans to come (R79, R91, R92). -/
def PumpState.restart (p : PumpState) (inst : Instances) (cycles kind : Nat) : PumpState :=
  { p with fast := {}, hold := { block := 1 }, slow := { block := 2 }, running := none, tasksEnd := none, faulted := false, slowOpen := false,
           slowStarted := false, slowSpan := 0, firstFast := true, firstHold := true, firstSlow := true, inst := inst, restartReq := none,
           restartLeft := cycles, slackMin := none, startKind := kind, taskCost := 0, scanCost := 0,
           loopsDue := 0, loopEnd := 0 }

/-- Pump cycles that a restart occupies (R91). -/
def State.restartCycles (s : State) (cold : Bool) : Nat :=
  ((if cold then 10000000 else 5000000) + s.tp - 1) / max 1 s.tp

/-- The pump at a restart, with its status registers. -/
def State.pumpRestart (s : State) (cold : Bool) : State :=
  let inst := (s.runPlate.map initInstances).getD {}
  let kind := if cold then 2 else 1
  let t := { s with pump := s.pump.restart inst (s.restartCycles cold) kind, wlog := {}, wlogPrev := {} }
  (t.set Reg.PUMP_STAT_LAST_START kind).setFlag Reg.PUMP_STAT_RESTARTING true

/-! ## Observer and loops (R226, R260) -/

/-- The observer at a restart: a warm one keeps a mirrored state less than 10 s old (R226); a stopped observer stays stopped. -/
def State.obsRestart (s : State) (cold : Bool) : State :=
  if s.obsState = 2 then s
  else match s.obs.mirrored with
    | some (x, c, at_) =>
      if !cold && decide (s.now < at_ + 10000000000) then
        { s with obs := { s.obs with x := x, cov := c, closeAt := at_, hdgSet := true, posSet := true } }.set Reg.OBS_STAT_STATE 1
      else ({ s with obs := { s.obs with mirrored := none } }).obsInit
    | none => s.obsInit

/-- The loop section that a restart restores: a warm one mirrors first; a cold one takes the NV mirror (R92, R260). -/
def State.restartSection (s : State) (cold : Bool) : Store (List Nat) :=
  if cold then (s.mirror.best.map MirrorBank.loops).getD [] else s.loopSection

/-! ## The restart -/

/-- What a cold restart does with settings, the SPI path's window selects among them, forces and the capture ring (R61, R134, R390, R432). -/
def State.coldReload (s : State) : State :=
  let t := ((((s.forceReset).bootActivated).reloadSettings).wakeFromImage).mergePending.capClear
  { t with host := { t.host with spiWsel := [] } }

/-- The blocks that every restart clears (R275, R320, R390). -/
def State.blocksRestart (s : State) : State :=
  let t := (((s.allocRestart).solvRestart).stnRestart).redRestart
  { t with time := { t.time with stampq := [] } }

/-- A restart that a live budget no longer allows leaves the part in PARK (R88). -/
def State.budgetPark (s : State) : State :=
  if s.mode = .run ∧ s.runPlate.any s.meetsBudget = false then s.enterPark else s

/-- A restart takes effect (R89 to R92). -/
def State.restartAt (s : State) (cold : Bool) : State :=
  let t := (s.txnDiscard).replayLeave
  let sect := t.restartSection cold
  let t := if cold then t.coldReload else t.mirrorNow
  let t := (((t.plateRestart cold).pointsRestart cold).pumpRestart cold).obsRestart cold
  let t := (t.blocksRestart).loopsRestart sect
  (t.raise (if cold then 0x0207 else 0x0206)).budgetPark

/-- The restart that is due at a boundary; one accepted too late waits for the next (R89). -/
def State.restartBoundary (s : State) : State :=
  match s.pump.restartReq with
  | none => s
  | some (c, k + 1) => { s with pump := { s.pump with restartReq := some (c, k) } }
  | some (c, 0) => s.restartAt c

/-- A write of PUMP_CMD.RESTART (R89, R90, R393). -/
def State.restartCmd (s : State) (op : Nat) : Status × State :=
  if op = 0 then (.done, s)
  else if 2 < op then (.range, s)
  else if s.restarting ∨ s.pump.restartReq.isSome then (.busy, s)
  else if s.hasStandby then (.role, s)
  else (.done, { s with pump := { s.pump with restartReq := some (decide (op = 2), s.boundarySkip) } })

end Sys2Proof.Machine
end

