-- ==== Sys2Proof/Machine/Reset.lean ====
section
/-! DEFINITION. Hardware resets: their kinds and causes, what they leave, fatal resets (R49, R373, R378 to R382, R390 to R393, R403, R409, R410). -/

namespace Sys2Proof.Machine

/-! ## Posted keeper writes (R49) -/

/-- A W1C write of KEEP_STAT reaches the keeper: CASE_OPEN and its tick, VBAT_LOW. -/
def State.keepClear (s : State) (v : Nat) : State :=
  let k := s.keep
  let c := bitAt v 2
  { s with keep := { k with vbatLow := k.vbatLow && !bitAt v 1, caseOpen := k.caseOpen && !c, caseTick := if c then 0 else k.caseTick,
                            postedStat := none } }

/-- KEEP_WRITE_COMPLETE (R49): every posted write reaches the keeper. -/
def State.keepComplete (s : State) : State :=
  let t := match s.keep.postedCfg with | some v => s.wakeCfg v | none => s
  match t.keep.postedStat with | some v => t.keepClear v | none => t

/-- A reset while a write is posted: whether it still reaches the keeper is open. -/
def State.keepCut (s : State) : State :=
  if s.keep.postedCfg.isSome || s.keep.postedStat.isSome then
    let d := s.draw 1
    if d.1 = 1 then d.2.keepComplete else { d.2 with keep := { d.2.keep with postedCfg := none, postedStat := none } }
  else s

/-! ## Causes (R378, R379, R382) -/

/-- The lowest code of a mask of causes. -/
def lowestCause (m : Nat) : Nat := ((List.range 5).find? (fun c => bitAt m c)).getD 0

/-- The recorder code of a cause (R378). -/
def causeCode (c : Nat) : Nat :=
  match c with | 0 => 0x0202 | 1 => 0x0201 | 2 => 0x0203 | 3 => 0x0204 | _ => 0x0205

/-- Keeper times of the fatal resets counted, with the present one. -/
def State.fatalPush (s : State) : List Nat := (s.keep.ns :: s.rst.fatalTimes).take 15

/-- FATAL_LIMIT fatal resets lie within FATAL_WIN (R382). -/
def State.fatalHolds (s : State) (l : List Nat) : Bool :=
  let lim := s.get Reg.RST_CFG_FATAL_LIMIT
  decide (lim ≤ (l.filter (fun t => decide (s.keep.ns ≤ t + s.get Reg.RST_CFG_FATAL_WIN * 1000000000))).length)

/-! ## What a hardware reset leaves (R390, R391) -/

/-- Measured readings, the pointers in NV, and after a fatal reset the count and the status of the capture ring. -/
def keptFields (fatal ring : Bool) : List Fld :=
  [Reg.PWR_VIN_STAT_VIN_MV, Reg.PWR_PACE_STAT_PACE, Reg.PWR_TEMP_STAT_TJ, Reg.PWR_TEMP_STAT_HOTTEST, Reg.PWR_STAT_VIO_A_LOW,
    Reg.PWR_STAT_VIO_B_LOW, Reg.SYS_BOARD_STAT_XTAL_STOP, Reg.SYS_BOARD_STAT_SERDES_CLK_BAD, Reg.PLATE_STAT_COMMIT_SLOT]
    ++ (if fatal then [Reg.RST_CAUSE_FATAL_RUN] else [])
    ++ (if ring then [Reg.CAP_STAT_STATE, Reg.CAP_STAT_TRIGGERED, Reg.CAP_STAT_LOST, Reg.CAP_OLDEST_OFFSET, Reg.CAP_NEWEST_OFFSET] else [])

/-- The register store after a hardware reset. -/
def State.resetRegs (s : State) (fatal : Bool) : Store Nat :=
  let r : State := (keptFields fatal fatal).foldl (fun t f => t.set f (s.get f)) {}
  let r := (r.set Reg.PWR_VIN_STAT_VIN_MIN_MV (s.get Reg.PWR_VIN_STAT_VIN_MV)).set Reg.PWR_TEMP_STAT_TJ_MAX (s.get Reg.PWR_TEMP_STAT_TJ)
  r.regs

/-- A provisional plate that becomes VERIFIED with the reset (R143, R391): also one that an earlier reset of the same boot left so. -/
def State.resetProvisional (s : State) : Bool :=
  decide (s.slotState = 5 ∨ s.slotState = 6 ∧ s.plate.op = .commit)
    || decide ((s.mode = .boot ∨ s.mode = .held ∨ s.mode = .backup) ∧ s.slotState = 3)

/-- The slot of that plate: the one that is not committed. -/
def State.resetSlots (s : State) : PlateState :=
  let free := 1 - s.get Reg.PLATE_STAT_COMMIT_SLOT
  let p := if s.resetProvisional then s.slotPlate free else none
  { nv0 := s.plate.nv0, nv1 := s.plate.nv1, slot0 := if free = 0 then p else none, slot1 := if free = 1 then p else none }

/-- The register fields of that slot. -/
def State.slotFields (s before : State) : State :=
  let t := s.set Reg.PLATE_STAT_RUN_SLOT (s.get Reg.PLATE_STAT_COMMIT_SLOT)
  if before.resetProvisional then t.set Reg.PLATE_STAT_SLOT_STATE 3 else t

/-- Reset bookkeeping: causes of this reset, counts, what the next LOAD records. -/
def State.resetBook (s : State) (cause : Nat) : ResetState :=
  let m := setBit s.rst.causes cause
  let fatal := decide (lowestCause m = 4)
  let times := if cause = 4 ∧ fatal then s.fatalPush else if fatal then s.rst.fatalTimes else []
  let events := if s.rst.causes = 0 then s.rst.toRecord.filter (fun e => decide (e.1 = 0x0106 ∨ e.1 = 0x0107)) else s.rst.toRecord
  let prov := decide (s.slotState = 5 ∨ s.slotState = 6 ∧ s.plate.op = .commit)
  { causes := m, bootStart := s.up, fatalTimes := times, fatalReason := if fatal then s.rst.fatalReason else 0,
    fatalHold := fatal && s.fatalHolds times, wakeSleep := s.rst.wakeSleep, wakeBackup := s.rst.wakeBackup,
    toRecord := events ++ (if prov then [(0x0401, 0)] else []) }

/-- Capture ring (R432): kept in state HELD by a fatal reset, else cleared. -/
def State.resetRing (s : State) (fatal : Bool) : CapState :=
  if fatal then { entries := s.cap.entries, head := s.cap.head, sinceKey := s.cap.sinceKey } else {}

/-- The power manager's own measurements go on. -/
def State.resetPower (s : State) : PowerState :=
  { vinAbsent := s.pwr.vinAbsent, dipping := s.pwr.dipping, dipStart := s.pwr.dipStart, dipLow := s.pwr.dipLow,
    belowSince := s.pwr.belowSince, aboveSince := s.pwr.aboveSince,
    paceLowSince := s.pwr.paceLowSince, paceOkSince := s.pwr.paceOkSince }

/-- Input levels are what the balls carry. -/
def State.resetTime (s : State) : TimeState :=
  { din := (s.time.din.map (fun e => (e.1, ({ level := e.2.level } : DinUnit)))).filter (fun e => e.2.level), gpio := s.time.gpio }

/-- The part after a hardware reset: everything but what R390 keeps is at its value after reset. -/
def State.resetState (s : State) (cause : Nat) : State :=
  let book := s.resetBook cause
  let fatal := decide (lowestCause book.causes = 4)
  let t : State :=
    { pending := s.pending, freeCtr := s.freeCtr, variant := s.variant, gradeXT := s.gradeXT, fuses := s.fuses, now := s.now, up := s.up,
      regs := s.resetRegs fatal, images := { copyA := s.images.copyA, copyB := s.images.copyB, pointerB := s.images.pointerB },
      mirror := { bank0 := s.mirror.bank0, bank1 := s.mirror.bank1, seq := s.mirror.seq }, plate := s.resetSlots,
      obs := { copyA := s.obs.copyA, copyB := s.obs.copyB }, solv := { nv := s.solv.nv }, rcd := s.resetRecorder.rcd,
      cap := s.resetRing fatal, keep := s.keep, rst := book, pwr := s.resetPower, red := { paceLow := s.red.paceLow },
      time := s.resetTime, safe := { tripIn := s.safe.tripIn } }
  t.slotFields s

/-- FATAL_RUN counts a fatal reset, and the ring that it keeps is HELD (R382, R432). -/
def State.fatalCount (s : State) : State :=
  if lowestCause s.rst.causes = 4 then
    let t := s.set Reg.RST_CAUSE_FATAL_RUN (min 15 (s.get Reg.RST_CAUSE_FATAL_RUN + 1))
    if t.cap.entries.isEmpty then t else t.set Reg.CAP_STAT_STATE 4
  else s

/-- A hardware reset of a cause (R378, R392): NV operations in progress leave the previous copy in force; the keeper counts the reset. -/
def State.hwReset (s : State) (cause : Nat) : State :=
  let t := ((s.fuseCut).keepCut).resetState cause
  let t := if cause = 4 then t.fatalCount else t
  { t with keep := { t.keep with resets := if t.keep.running then satInc 32 t.keep.resets else t.keep.resets } }

/-- The boot starts at stage RAILS or ROM (R378). -/
def State.bootAt (s : State) (stage : Nat) : State := ({ s with mode := .boot }).set Reg.RST_BOOT_STAGE stage

/-! ## Resets -/

/-- A fatal reset (R381): control is released, outputs go low, and the boot runs from stage ROM. -/
def State.fatalReset (s : State) (reason : Nat) : State :=
  let claims := if s.grouped then [s.claimOf false] else []
  let t := (({ s with rst := { s.rst with fatalReason := reason } }).waitUntil (s.up + 100000)).hwReset 4
  (({ t with red := { t.red with sentClaims := claims } }).bootAt 1)

/-- The service core runs: from the end of stage ROM on. -/
def State.serviceRuns (s : State) : Bool :=
  s.running || decide (s.mode = .done) || decide (s.mode = .boot ∧ 2 ≤ s.get Reg.RST_BOOT_STAGE)

/-- SERVICE_WATCHDOG_EXPIRY (R381). -/
def State.watchdog (s : State) : State := if s.serviceRuns then s.fatalReset 2 else s

/-- A cause that is absorbed into the reset in progress and appears only in ALSO (R380). -/
def State.absorb (s : State) (cause : Nat) : State := { s with rst := { s.rst with causes := setBit s.rst.causes cause } }

/-- RESET_N takes effect, or is absorbed while VIN is below VIN_RST and during stage RAILS; without rails there is nothing to reset. -/
def State.resetTaken (s : State) : State :=
  if s.mode = .sleep ∨ s.mode = .backup then s
  else if s.mode = .held ∨ s.mode = .boot ∧ s.get Reg.RST_BOOT_STAGE = 0 then s.absorb 3
  else (s.hwReset 3).bootAt 1

/-- RESET_N_LOW (R380): ignored below 100 ns, either way below 1 µs, a reset from 1 µs on; the reset is held for as long as it lasts. -/
def State.resetN (s : State) (ns : Nat) : State :=
  if ns < 100 then s.waitUntil (s.up + ns)
  else if ns < 1000 then
    let d := (s.waitUntil (s.up + ns)).draw 1
    if d.1 = 1 then d.2.resetTaken else d.2
  else (s.waitUntil (s.up + ns)).resetTaken

/-- BROWN_OUT (R403): the reset is held until VIN is back. A dip that ends so enters no histogram (R401). In SLEEP there is nothing to reset,
but the return of VIN wakes the part (R409). -/
def State.brownOut (s : State) : State :=
  let t := { s with pwr := { s.pwr with vinAbsent := true, dipping := false } }
  if s.mode = .sleep ∨ s.mode = .backup ∨ s.mode = .held then t
  else { t.hwReset 2 with mode := .held }

/-- BACKUP_ENTER (R410): VIN has fallen through VIN_RST on its way. -/
def State.backupEnter (s : State) : State :=
  let t := s.brownOut
  { t with mode := .backup, rst := { t.rst with wakeSleep := false }, keep := { t.keep with onVin := false } }

/-- A power-on starts the boot at RAILS. With the keeper lost, it starts again, its counters from the mirror (R410, R411, R413). -/
def State.powerUp (s : State) (cause : Nat) : State :=
  let t := { s with pwr := { s.pwr with vinAbsent := false }, keep := { s.keep with onVin := true } }
  let lost := t.keep.lost
  let t := t.keeperStart
  let t := { t with keep := { t.keep with lost := false } }
  let t := if t.rst.causes = 0 ∨ lost = true then t.hwReset (if lost then 0 else cause) else t.resetState (if lost then 0 else cause)
  t.bootAt 0

/-- A brown-out's own return of VIN: no further cause unless the keeper was lost (R378, R379). -/
def State.brownOutEnd (s : State) : State :=
  if s.keep.lost then s.powerUp 0
  else ({ s with pwr := { s.pwr with vinAbsent := false }, rst := { s.rst with bootStart := s.up } }).bootAt 0

/-- POWER_ON (R378, R403, R409, R410). -/
def State.powerOn (s : State) : State :=
  match s.mode with
  | .held => s.brownOutEnd
  | .backup => ({ s with rst := { s.rst with wakeBackup := true } }).powerUp 1
  | .sleep => if s.pwr.vinAbsent then ({ s with rst := { s.rst with wakeSleep := true } }).powerUp 1 else s
  | _ => s

/-- A wake from SLEEP: a power-on with the keeper alive (R409). -/
def State.wake (s : State) : State :=
  if s.mode = .sleep ∧ s.pwr.vinAbsent = false then ({ s with rst := { s.rst with wakeSleep := true } }).powerUp 1 else s

/-- WAKE_N_EDGE (R409, R414). -/
def State.wakeN (s : State) : State :=
  if s.keep.running then
    let t := { s with keep := { s.keep with wakeN := false } }
    if t.keep.wakeNEn then t.wake else t
  else s

/-- CASE_OPEN_DETECT (R409, R414). -/
def State.caseDetect (s : State) : State :=
  let t := s.caseOpen
  if t.keep.running && t.keep.caseWakeEn then t.wake else t

/-! ## The commands of this file -/

def execKeepWriteComplete (s : State) : Host.Outcome State Fault Refusal := .next s.keepComplete
def execPowerOn (s : State) : Host.Outcome State Fault Refusal := .next s.powerOn
def execBrownOut (s : State) : Host.Outcome State Fault Refusal := .next s.brownOut
def execResetNLow (ns : Nat) (s : State) : Host.Outcome State Fault Refusal := .next (s.resetN ns)
def execServiceWatchdogExpiry (s : State) : Host.Outcome State Fault Refusal := .next s.watchdog
def execWakeNEdge (s : State) : Host.Outcome State Fault Refusal := .next s.wakeN
def execCaseOpenDetect (s : State) : Host.Outcome State Fault Refusal := .next s.caseDetect
def execBackupEnter (s : State) : Host.Outcome State Fault Refusal := .next s.backupEnter

end Sys2Proof.Machine
end

