-- ==== Sys2Proof/Machine/Boot.lean ====
section
/-! DEFINITION. The boot, stage by stage (R178, R235, R260, R354, R383 to R389, R444, R451, R452, R458, R459, R462). -/

namespace Sys2Proof.Machine

/-- The boot is at a stage. -/
def State.atStage (s : State) (k : Nat) : Bool := decide (s.mode = .boot ∧ s.get Reg.RST_BOOT_STAGE = k)

/-- Note an event for stage LOAD. -/
def State.later (s : State) (code : Nat) : State := { s with rst := { s.rst with toRecord := s.rst.toRecord ++ [(code, 0)] } }

/-! ## RAILS and ROM -/

/-- BOOT_RAILS_DONE (R383, R451): the boot stays before ROM until VIO_B stands. -/
def State.bootRails (s : State) (vioBOk : Bool) : State := if s.atStage 0 && vioBOk then s.set Reg.RST_BOOT_STAGE 1 else s

/-- RST_CAUSE as this boot reports it (R378, R379). -/
def State.causeRegs (s : State) : State :=
  let b := s.rst
  let t := (s.set Reg.RST_CAUSE_CAUSE (lowestCause b.causes)).set Reg.RST_CAUSE_ALSO b.causes
  ((t.setFlag Reg.RST_CAUSE_WAKE_SLEEP b.wakeSleep).setFlag Reg.RST_CAUSE_WAKE_BACKUP b.wakeBackup).set Reg.RST_CAUSE_FATAL_REASON
    b.fatalReason

/-- The straps as latched (R323, R353, R385, R452). BOOT_SEL = 3 with MFG_OFF blown acts as 2; the register shows the straps. -/
def State.latchStraps (s : State) (st : Straps) : State :=
  let t := { s with rst := { s.rst with straps := st } }
  ((t.set Reg.RED_CFG_UNIT st.unitId).set Reg.SPAN_CFG_STRAPS st.spanMode).set Reg.RST_BOOT_BOOT_SEL st.bootSel

/-- The time base from the keeper's calendar (R178, R411); a standing oscillator is seen now (R462). -/
def State.timeFromKeeper (s : State) : State :=
  let t := { s with now := s.calendar }
  let t := t.setFlag Reg.TSU_SRC_STAT_TIME_VALID t.keep.calValid
  if t.keep.running || t.flag Reg.SYS_BOARD_STAT_XTAL_STOP then t else (t.setFlag Reg.SYS_BOARD_STAT_XTAL_STOP true).later 0x0109

/-- BOOT_ROM_DONE (R383, R384, R452, R459): without REFCLK_IN the boot is held here. -/
def State.bootRom (s : State) (st : Straps) (refclkOk : Bool) (trip : Nat) : State :=
  if !s.atStage 1 then s
  else if !refclkOk then s.setFlag Reg.SYS_BOARD_STAT_REFCLK_BAD true
  else
    let t := ((s.setFlag Reg.SYS_BOARD_STAT_REFCLK_BAD false).causeRegs).latchStraps st
    let t := (t.timeFromKeeper).setFlag Reg.RST_BOOT_FATAL_HOLD s.rst.fatalHold
    ({ t with rst := { t.rst with spiServes := true }, safe := { t.safe with tripIn := trip } }).set Reg.RST_BOOT_STAGE 2

/-! ## IMAGE -/

/-- Boot a user copy: its settings over the factory defaults (R61). -/
def State.bootCopy (s : State) (b : Bool) (d : ImageDesc) : State :=
  let t := { s with regs := applySettings d.settings s.regs, images := { s.images with bootSettings := d.settings },
                    rst := { s.rst with imgSvn := d.svn } }
  (t.setFlag Reg.IMG_STAT_BOOT_B b).wakeFromImage

/-- Neither copy is booted: factory defaults stand (R61, R385, R386). -/
def State.imageFallback (s : State) : State := s.setFlag Reg.IMG_STAT_IMG_FALLBACK true

/-- The copy that boots (R386). -/
def State.bootImageCopy (s : State) : State :=
  let p := s.images.pointerB
  if s.rst.straps.bootSel = 1 then s.imageFallback
  else match s.goodCopy p, s.goodCopy (!p) with
    | some d, _ => s.bootCopy p d
    | none, some d => (s.bootCopy (!p) d).later 0x0209
    | none, none => (s.imageFallback).later 0x0208

/-- SYS_BOARD_ID from the EEPROM (R458). -/
def State.boardId (s : State) : Option Word → State
  | some v => s.set Reg.SYS_BOARD_ID_ID v.toNat
  | none => (s.set Reg.SYS_BOARD_ID_ID 4294967295).setFlag Reg.SYS_BOARD_STAT_BOARD_ID_ABSENT true

/-- BOOT_IMAGE_DONE (R386, R458). -/
def State.bootImage (s : State) (eeprom : Option Word) : State :=
  if s.atStage 2 then ((s.boardId eeprom).bootImageCopy).set Reg.RST_BOOT_STAGE 3 else s

/-! ## MEMORY -/

/-- The compute dies and the observer's engines after their tests (R229, R297): C0 and, on ONA-D8, C1 carry the observer. -/
def State.diesTested (s : State) (dieOk : Nat) : State :=
  let t := s.set Reg.SOLV_STAT_DIE_OK (dieOk % 2 ^ s.variant.dies)
  let t := t.set Reg.SOLV_STAT_CTX0_DIE t.ctxZeroDie
  if !t.variant.has 11 then t
  else
    let c0 := bitAt dieOk 0
    let c1 := decide (t.variant = .d8) && bitAt dieOk 1
    let t := { t with obs := { t.obs with bad1 := !bitAt dieOk 1 } }
    if c0 then t.setFlag Reg.OBS_STAT_SPARE_LOST (decide (t.variant = .d8) && !c1)
    else if c1 then t.set Reg.OBS_STAT_ENGINE 1
    else t.set Reg.OBS_STAT_STATE 2

/-- The interleave seed and the TRNG (R444): with a failed TRNG the seed is fixed. -/
def State.seedTaken (s : State) (trngOk : Bool) : State :=
  if trngOk then
    let d := s.draw 32
    { d.2 with sec := { d.2.sec with seed := d.1 } }
  else ({ s with sec := { s.sec with seed := 0 } }).setFlag Reg.SEC_STAT_RNG_FAIL true |>.later 0x0F05

/-- The ring after the cistern is trained: HELD with its contents after a fatal reset, else empty (R383, R432). -/
def State.ringTrained (s : State) : State := if s.cap.entries.isEmpty then s.capClear else s

/-- BOOT_MEMORY_DONE (R383, R397, R444): from LOAD on a dip counts as the state DIP. -/
def State.bootMemory (s : State) (dieOk : Nat) (trngOk : Bool) : State :=
  if s.atStage 3 then
    let t := (((s.diesTested dieOk).seedTaken trngOk).ringTrained).set Reg.RST_BOOT_STAGE 4
    if t.pwr.dipping then t.dipState else t
  else s

/-! ## LOAD -/

/-- The plate in NV of a slot. -/
def State.nvPlate (s : State) (k : Nat) : Option (PlateDesc × Verdict) := if k = 0 then s.plate.nv0 else s.plate.nv1

/-- The committed plate is verified and, if good, stands in its slot (R387). -/
def State.loadPlate (s : State) : State :=
  let k := s.get Reg.PLATE_STAT_COMMIT_SLOT
  match s.nvPlate k with
  | none => ((s.setFlag Reg.RST_BOOT_PLATE_BAD true).set Reg.PLATE_STAT_RESULT Status.badImage.code).raise 0x020B
  | some (p, v) =>
    let r := s.verifyObject v p.keyHash p.svn false
    if r.1 = .done then s.setSlot k (some p)
    else (((s.setFlag Reg.RST_BOOT_PLATE_BAD true).set Reg.PLATE_STAT_RESULT r.1.code).verifyEvents r.2).raise 0x020B

/-- A formerly provisional plate: MAP_OK against the committed plate (R143). -/
def State.loadFree (s : State) : State :=
  match s.slotPlate s.freeSlot with
  | some p => (s.setFlag Reg.PLATE_STAT_MAP_OK (mapOk p s.plateId)).set Reg.PLATE_NEW_ID_ID p.id.toNat
  | none => s

/-- Points, instances and the retentive area (R71, R76, R78, R127). -/
def State.loadPoints (s : State) : State :=
  let decls := (s.runPlate.map PlateDesc.decls).getD []
  let bank := s.mirror.best
  let t := { s with points := restoreRetentive s.variant decls bank (initImage s.variant decls),
                    pump := { s.pump with inst := (s.runPlate.map initInstances).getD {} } }
  let t := t.loopsRestart ((bank.map MirrorBank.loops).getD [])
  if bank.isNone then (t.setFlag Reg.PUMP_STAT_MIRROR_INIT true).raise 0x0307 else t

/-- The calibration store (R235): estimates and applied corrections as saved. -/
def State.loadCal (s : State) : State :=
  match s.obs.latest with
  | some c => { s with obs := { s.obs with est := c.est, estCov := c.cov, applied := c.est } }
  | none => s

/-- The events that stage LOAD records (R394, R414, R442, R462). -/
def State.loadEvents (s : State) : State :=
  let c := lowestCause s.rst.causes
  let t := if c = 4 then s.raiseWith 0x0205 s.rst.fatalReason else s.raise (causeCode c)
  let t := s.rst.toRecord.foldl (fun u e => u.raise e.1) { t with rst := { t.rst with toRecord := [] } }
  let t := if s.flag Reg.RST_BOOT_FATAL_HOLD then t.raise 0x020A else t
  if s.fuses.dbgOff then t else t.raise 0x0F06

/-- The span settings against the straps (R354). -/
def State.spanCheck (s : State) : State := if s.spanAgrees then s else (s.setFlag Reg.SPAN_STAT_CFG_BAD true).raise 0x0D04

/-- A group part starts as an UNSYNCED standby (R347). -/
def State.groupStart (s : State) : State := if s.grouped then s.set Reg.RED_STAT_SYNC_STATE 4 else s

/-- BOOT_LOAD_DONE (R383, R387). -/
def State.bootLoad (s : State) : State :=
  if s.atStage 4 then
    let t := ((((s.loadEvents).loadPlate).loadFree).hatchesReload).loadPoints
    let t := ((t.loadCal).spanCheck).groupStart
    ({ t with rst := { t.rst with syncStart := t.up } }).set Reg.RST_BOOT_STAGE 5
  else s

/-! ## SYNC and DONE -/

/-- The wait for a time source, and the step to it (R178). -/
def State.syncWait (s : State) : State :=
  let w := s.rst.syncStart + s.get Reg.TSU_SRC_CTL_SYNC_WAIT * 1000000000
  let t := (if s.sourceChoice = 0 then s.waitUntil w else s).selectSource
  if t.get Reg.TSU_SRC_STAT_ACTIVE_SRC = 0 then t else t.stepTime

/-- BOOT_DONE (R384, R388): the first boundary is the first aligned instant at least 10 µs later; a low trip input sets its latch (R373). -/
def State.bootDone (s : State) : State :=
  if s.atStage 5 then
    let t := s.syncWait
    let ms := min 65535 ((t.up - t.rst.bootStart) / 1000000)
    let t := ((t.set Reg.RST_BOOT_STAGE 6).set Reg.RST_BOOT_BOOT_MS ms)
    let t := { t with mode := .done, nextBnd := t.alignedFrom (t.now + 10000),
                      rst := { t.rst with causes := 0, wakeSleep := false, wakeBackup := false } }
    (t.tripAll).safeRefresh
  else s

/-- The conditions of R388 for entering RUN at the first boundary. -/
def State.startsInRun (s : State) : Bool :=
  s.flag Reg.RST_CFG_AUTO_RUN && decide (s.get Reg.RST_BOOT_BOOT_SEL = 0) && !s.runBlocked

/-- The first pump boundary: RUN or PARK (R388); under hold no record says that the part did not start. -/
def State.runEntry (s : State) : State :=
  if s.startsInRun then s.enterRun
  else
    let t := s.enterPark
    if 2 ≤ t.get Reg.RST_BOOT_BOOT_SEL then t else (t.setFlag Reg.RST_BOOT_NO_START true).raise 0x020C

/-- RST_CMD.CLR_HOLD (R382). -/
def State.clearHold (s : State) : Status × State :=
  let t := { s with rst := { s.rst with fatalTimes := [], fatalHold := false } }
  (.done, (t.setFlag Reg.RST_BOOT_FATAL_HOLD false).set Reg.RST_CAUSE_FATAL_RUN 0)

/-! ## The commands of this file -/

def execBootRailsDone (vioBOk : Bool) (s : State) : Host.Outcome State Fault Refusal := .next (s.bootRails vioBOk)

/-- BOOT_ROM_DONE. Under BOOT_SEL = 3 with MFG_OFF not blown the part enters Jesuwald factory test, of which the manual says no more (R385). -/
def execBootRomDone (straps : Straps) (refclkOk : Bool) (trip : Byte) (s : State) : Host.Outcome State Fault Refusal :=
  if s.atStage 1 = true ∧ refclkOk = true ∧ straps.bootSel = 3 ∧ s.fuses.mfgOff = false then .refused .factoryTest
  else .next (s.bootRom straps refclkOk trip.toNat)

def execBootImageDone (eeprom : Option Word) (s : State) : Host.Outcome State Fault Refusal := .next (s.bootImage eeprom)
def execBootMemoryDone (dieOk : BitVec 4) (trngOk : Bool) (s : State) : Host.Outcome State Fault Refusal :=
  .next (s.bootMemory dieOk.toNat trngOk)
def execBootLoadDone (s : State) : Host.Outcome State Fault Refusal := .next s.bootLoad
def execBootDone (s : State) : Host.Outcome State Fault Refusal := .next s.bootDone

end Sys2Proof.Machine
end

