-- ==== Sys2Proof/Machine/Capture.lean ====
section
/-! DEFINITION. Capture at the close and at the freeze, its commands, and replay (R429 to R434). -/

namespace Sys2Proof.Machine

/-! ## Appending (R430) -/

/-- Payload lengths: a station's input frame from the first byte of the Ethernet frame to the end of its CRC-32C, a span input record's frame
(R158, R160, R356, R429). -/
def stationLen (count : Nat) : Nat := 14 + 16 + 6 + 5 * count + 4
def nodeLen (count : Nat) : Nat := 32 + 4 + 4 + 5 * count + 4

/-- The input entry of a station, of a node. -/
def State.capStation (s : State) (e : Nat × StnCopy) : State :=
  s.ringAppend { type := 1, source := e.2.port, ident := e.1, cycle := s.n, stamp := e.2.stamp, entries := e.2.entries,
                 bytes := e.2.bytes, len := stationLen e.2.entries.length }
def State.capNode (s : State) (e : Nat × NodeCopy) : State :=
  s.ringAppend { type := 2, source := e.2.lane, ident := e.1, cycle := s.n, stamp := e.2.stamp, entries := e.2.entries,
                 len := nodeLen e.2.entries.length }

/-- Input entries of the present close: every station and node that delivered. -/
def State.capInputs (s : State) : State :=
  if s.capOn then s.span.nodes.foldl State.capNode (s.stn.copies.foldl State.capStation s) else s

/-- The lists of at most 5,461 points of a delta or keyframe (R430). -/
def chunks (fuel : Nat) (l : List (Nat × Point)) : List (List (Nat × Point)) :=
  match fuel with
  | 0 => []
  | k + 1 => if l.length ≤ 5461 then [l] else l.take 5461 :: chunks k (l.drop 5461)

/-- Append a delta (4) or keyframe (5) as its run of entries. -/
def State.capRun (s : State) (type : Nat) (l : List (Nat × Point)) : State :=
  (chunks 49 l).zipIdx.foldl (fun t e =>
    t.ringAppend { type := type, source := if e.2 = 0 then 0 else 1, cycle := t.n, stamp := t.bnd, points := e.1, len := 12 * e.1.length }) s

/-- The record of an output point in the frozen image. -/
def State.frozen (s : State) (p : Nat) : Point := storeGet s.pump.image p (pointDefault s.variant p)

/-- Output points whose record differs from the previous freeze. -/
def State.capDelta (s : State) : List (Nat × Point) :=
  s.pump.image.filter (fun e => decide (storeGet s.pump.lastFreeze e.1 (pointDefault s.variant e.1) ≠ e.2))
    ++ (s.pump.lastFreeze.filter (fun e => (storeFind s.pump.image e.1).isNone)).map (fun e => (e.1, pointDefault s.variant e.1))

/-- Every declared output point. -/
def State.capKey (s : State) : List (Nat × Point) :=
  (((s.runPlate.map PlateDesc.decls).getD []).filter (fun d => decide (areaOf d.addr = .output))).map (fun d => (d.addr, s.frozen d.addr))

/-- The output entry of a freeze. -/
def State.capFreeze (s : State) : State :=
  if !s.capOn then s
  else if s.cap.sinceKey = 0 then
    let t := s.capRun 5 s.capKey
    { t with cap := { t.cap with sinceKey := s.get Reg.CAP_CFG_KEY_CYC } }
  else if s.capDelta.isEmpty then s
  else s.capRun 4 s.capDelta

/-- A cycle has ended for the ring: one cycle nearer to the next keyframe and to the end of appending (R430, R431). -/
def State.capCycle (s : State) : State :=
  { s with cap := { s.cap with sinceKey := s.cap.sinceKey - 1, postLeft := if s.get Reg.CAP_STAT_STATE = 2 then s.cap.postLeft - 1 else 0 } }

/-- CAPTURE_STOPPED (R431): the POST-th cycle has passed. -/
def State.capStopped (s : State) : State :=
  if s.get Reg.CAP_STAT_STATE = 2 ∧ s.cap.postLeft = 0 then
    (s.set Reg.CAP_STAT_STATE 3).setFlag Reg.CAP_STAT_TRIGGERED s.cap.stopByEvent
  else s

/-! ## Commands (R431, R433, R434) -/

/-- START. -/
def State.capStart (s : State) : Status × State :=
  if s.get Reg.CAP_CFG_CAP_SIZE = 0 ∨ s.mode = .replay then (.state, s)
  else
    let t := ((s.set Reg.CAP_STAT_STATE 1).setFlag Reg.CAP_STAT_TRIGGERED false).set Reg.CAP_STAT_LOST 0
    (.done, { t with cap := { t.cap with postLeft := 0, stopByEvent := false } })

/-- STOP: nothing happens to a ring that does not run (log entry 25). -/
def State.capStop (s : State) : Status × State :=
  if s.get Reg.CAP_STAT_STATE = 1 then
    (.done, { s.set Reg.CAP_STAT_STATE 2 with cap := { s.cap with postLeft := s.postCycles, stopByEvent := false } })
  else (.done, s)

/-- Whether a complete keyframe is in the ring: the first entry of its run is. -/
def State.keyframe (s : State) : Option CapEntry := s.cap.entries.find? (fun e => decide (e.type = 5 ∧ e.source = 0))

/-- REPLAY. -/
def State.capReplay (s : State) (free : Bool) : Status × State :=
  let st := s.get Reg.CAP_STAT_STATE
  if s.mode = .park ∧ (st = 3 ∨ st = 4) ∧ s.keyframe.isSome = true ∧ s.restarting = false ∧ (free = true → s.slotState = 3) then
    (.done, { s with cap := { s.cap with replayReq := some (free, s.boundarySkip) } })
  else (.state, s)

/-- REPLAY_END. -/
def State.capReplayEnd (s : State) : Status × State :=
  if s.mode = .replay then (.done, { s with cap := { s.cap with replayEndReq := true } }) else (.state, s)

/-- A write to CAP_CMD: the bits act in their order. -/
def State.capCmd (s : State) (w : Nat) : Status × State :=
  let step := fun (r : Status × State) (b : Bool) (f : State → Status × State) => if b && decide (r.1 = .done) then f r.2 else r
  let r := step (.done, s) (bitAt w 0) State.capStart
  let r := step r (bitAt w 1) State.capStop
  let r := step r (bitAt w 2) (fun t => t.capReplay (bitAt w 4))
  step r (bitAt w 3) State.capReplayEnd

/-! ## Replay (R433, R434) -/

/-- The image with initial values and the retentive markers of the NV mirror; device status points stand. -/
def State.replayImage (s : State) : State :=
  let decls := (s.runPlate.map PlateDesc.decls).getD []
  let init := restoreRetentive s.variant decls s.mirror.best (initImage s.variant decls)
  let ret := init.filter (fun e => isRetentive e.1)
  { s with points := restartImage (init.filter (fun e => !isRetentive e.1)) s.points ret }

/-- The plate's execution state as after a cold restart, without restart cycles; loops start OPEN. -/
def State.replayPump (s : State) (kind : Nat) : State :=
  let inst := (s.runPlate.map initInstances).getD {}
  { s with pump := s.pump.restart inst 0 kind, wlog := {}, wlogPrev := {} }

/-- REPLAY begins at a boundary. -/
def State.replayBegin (s : State) (free : Bool) : State :=
  let first := (s.keyframe.map CapEntry.cycle).getD 0
  let cap := { s.cap with replayReq := none, replayFree := free, replayCycle := first, replayOut := [], replayEndReq := false,
                          beforeState := s.get Reg.CAP_STAT_STATE }
  let t := (({ s with mode := .replay, cap := cap }).set Reg.CAP_STAT_STATE 5).set Reg.CAP_REPLAY_DIFF_COUNT 0
  let t := (t.replayImage).replayPump 2
  t.loopsRestart ((t.mirror.best.map MirrorBank.loops).getD [])

/-- REPLAY ends: initial values again, and PARK (R434). -/
def State.replayFinish (s : State) : State :=
  let t := s.replayLeave
  let u := (t.replayImage).replayPump t.pump.startKind
  let u := u.loopsRestart ((u.mirror.best.map MirrorBank.loops).getD [])
  u.forceEntries.foldl (fun v e => t.forceKeep v e) u

/-- The newest captured cycle has been replayed. -/
def State.replayDone (s : State) : Bool :=
  decide (s.mode = .replay) && decide (((s.cap.entries.getLast?.map CapEntry.cycle).getD 0) < s.cap.replayCycle)

/-- REPLAY_COMPLETE (R434): without the row the next boundary ends it. -/
def State.replayComplete (s : State) : State := if s.replayDone then s.replayFinish else s

/-- Replay at a boundary: it ends, begins, or goes on. -/
def State.replayBoundary (s : State) : State :=
  if s.mode = .replay then (if s.replayDone || s.cap.replayEndReq then s.replayFinish else s)
  else match s.cap.replayReq with
    | some (f, 0) => if s.mode = .park then s.replayBegin f else { s with cap := { s.cap with replayReq := none } }
    | some (f, k + 1) => { s with cap := { s.cap with replayReq := some (f, k) } }
    | none => s

/-- The copies that the captured cycle delivers (R433): what arrives in fact is not taken. -/
def State.replayInputs (s : State) : State :=
  let es := s.cap.entries.filter (fun e => decide (e.cycle = s.cap.replayCycle))
  let st := (es.filter (fun e => decide (e.type = 1))).foldl (fun (m : Store StnCopy) e =>
    storePut m e.ident { legA := true, legB := true, claim := 0, status := 0, links := 0, entries := e.entries, port := e.source, stamp := e.stamp }) []
  let nd := (es.filter (fun e => decide (e.type = 2))).foldl (fun (m : Store NodeCopy) e =>
    storePut m e.ident { from2 := true, from3 := true, echo := 0, entries := e.entries, lane := e.source, stamp := e.stamp }) []
  { s with stn := { s.stn with copies := st, crcBad := [] }, span := { s.span with nodes := nd } }

/-- The captured output state with the entries of a cycle. -/
def capturedOut (entries : List CapEntry) (cycle : Nat) (st : Store Point) : Store Point :=
  (entries.filter (fun e => decide (e.cycle = cycle ∧ (e.type = 4 ∨ e.type = 5)))).foldl (fun m e =>
    e.points.foldl (fun m x => storePut m x.1 x.2) (if e.type = 5 ∧ e.source = 0 then [] else m)) st

/-- Two output records agree for replay: value, quality and type (log entry 25). -/
def sameOut (a b : Point) : Bool := decide (a.value = b.value ∧ a.quality = b.quality ∧ a.type = b.type)

/-- The freeze of a replayed cycle: every output point that differs counts (R433). -/
def State.replayFreeze (s : State) : State :=
  let out := capturedOut s.cap.entries s.cap.replayCycle s.cap.replayOut
  let diff := (out.filter (fun e => !sameOut (s.point e.1) e.2)).length
  let t := s.set Reg.CAP_REPLAY_DIFF_COUNT (min 4294967295 (s.get Reg.CAP_REPLAY_DIFF_COUNT + diff))
  { t with cap := { t.cap with replayOut := out, replayCycle := s.cap.replayCycle + 1 } }

/-- A device status point that REPLAY holds: all but the pump and system points. -/
def heldPoint (p : Nat) : Bool := decide (areaOf p = .device) && !isCommandPoint p && !decide (0xE6300 ≤ p ∧ p ≤ 0xE630D)

/-- Device status points keep their values in REPLAY. -/
def State.holdStatus (before s : State) : State :=
  let kept := before.points.filter (fun e => heldPoint e.1)
  let rest := s.points.filter (fun e => !heldPoint e.1)
  if s.mode = .replay then { s with points := kept.foldl (fun m e => storePut m e.1 e.2) rest } else s

/-! ## The read window (R431) -/

/-- A word of a station input entry's payload; it is padded with zeros (R429). -/
def payloadWord (bytes : List Nat) (k : Nat) : Nat := leWord ((bytes.drop (4 * k)).take 4)

/-- Word k of an entry: its header, a station's frame, points of an output entry, zeros of the padding; the manual lays out neither a span
frame's header nor a sensor message's entry: free (log entry 25). -/
def entryWord (e : CapEntry) (k : Nat) : Option Nat :=
  match k with
  | 0 => some (e.type + e.source * 256 + e.len * 65536)
  | 1 => some e.cycle
  | 2 => some (e.stamp % 4294967296)
  | 3 => some (e.stamp / 4294967296)
  | k + 4 =>
    if e.len ≤ 4 * k then some 0
    else if e.type = 4 ∨ e.type = 5 then
      (e.points[k / 3]?).map (fun x =>
        match k % 3 with
        | 0 => x.1
        | 1 => x.2.encode.toNat % 4294967296
        | _ => x.2.encode.toNat / 4294967296)
    else if e.type = 1 then some (payloadWord e.bytes k)
    else none

/-- The entry that holds a unit of the ring, and the unit's place in it. -/
def State.entryAt (s : State) (unit : Nat) : Option (CapEntry × Nat) :=
  (s.cap.entries.map (fun e => (e, (unit + s.ringUnits - e.offset) % max 1 s.ringUnits))).find? (fun x => decide (x.2 < x.1.size))

/-- A word of the ring read through the window. -/
def State.ringRead (s : State) (segment word : Nat) : Status × Nat × State :=
  let st := s.get Reg.CAP_STAT_STATE
  if st ≠ 3 ∧ st ≠ 4 then (.state, 0, s)
  else
    let w := segment * 4194304 + word
    match (s.entryAt (w / 2)).bind (fun x => entryWord x.1 (2 * x.2 + w % 2)) with
    | some v => (.done, v, s)
    | none => let d := s.draw 32; (.done, d.1, d.2)

/-! ## The commands of this file -/

def execCaptureStopped (s : State) : Host.Outcome State Fault Refusal := .next s.capStopped
def execReplayComplete (s : State) : Host.Outcome State Fault Refusal := .next s.replayComplete

end Sys2Proof.Machine
end

