-- ==== Sys2Proof/Machine/Board.lean ====
section
/-! DEFINITION. The board's clocks and the MDIO bus (R457, R460 to R462), and the saving of the image-backed settings (R62). -/

namespace Sys2Proof.Machine

/-! ## MDIO (R457) -/

/-- A write of SYS_MDIO_CMD: refused while a frame runs; OP 0 and 3 need clause 45. The fields hold the frame in progress. -/
def State.mdioStart (s : State) (w : Nat) : Status × State :=
  let op := bitsAt w 11 2
  if s.flag Reg.SYS_MDIO_STAT_BUSY then (.busy, s)
  else if bitAt w 10 = false ∧ (op = 0 ∨ op = 3) then (.range, s)
  else
    let t := ((s.set Reg.SYS_MDIO_CMD_PHYAD w).set Reg.SYS_MDIO_CMD_REGAD (bitsAt w 5 5)).set Reg.SYS_MDIO_CMD_C45 (bitsAt w 10 1)
    (.done, ((t.set Reg.SYS_MDIO_CMD_OP op).set Reg.SYS_MDIO_CMD_DATA (bitsAt w 16 16)).setFlag Reg.SYS_MDIO_STAT_BUSY true)

/-- MDIO_FRAME_DONE: RDATA takes the data of a read frame. -/
def State.mdioDone (s : State) (rdata : Nat) : State :=
  if s.flag Reg.SYS_MDIO_STAT_BUSY then
    let t := s.setFlag Reg.SYS_MDIO_STAT_BUSY false
    if 2 ≤ s.get Reg.SYS_MDIO_CMD_OP then t.set Reg.SYS_MDIO_STAT_RDATA rdata else t
  else s

/-! ## Clocks (R459 to R462) -/

/-- The boot has reached DONE (R383). -/
def State.booted (s : State) : Bool := s.running || decide (s.mode = .done)

/-- An event recorded now, or in stage LOAD of the boot that runs or comes next. -/
def State.raiseOrLater (s : State) (code : Nat) : State := if s.booted then s.raise code else s.later code

/-- REFCLK_FAIL (R460): before the boot is done, only REFCLK_BAD shows it (R459). -/
def State.refclkFail (s : State) : State :=
  if !s.powered || s.flag Reg.SYS_BOARD_STAT_REFCLK_BAD then s
  else
    let t := s.setFlag Reg.SYS_BOARD_STAT_REFCLK_BAD true
    if s.booted then
      ((t.setFlag Reg.TSU_SRC_STAT_LOCKED false).setFlag Reg.SYS_BOARD_STAT_REFCLK_LOST true).raise 0x0604
    else t

/-- REFCLK_RESTORE (R460): the discipline of the time base goes on. -/
def State.refclkRestore (s : State) : State :=
  if s.flag Reg.SYS_BOARD_STAT_REFCLK_BAD then
    let t := s.setFlag Reg.SYS_BOARD_STAT_REFCLK_BAD false
    if s.booted then t.selectSource else t
  else s

/-- SERDES_CLK_LOSS (R461): every port and every span lane is down. -/
def State.serdesLoss (s : State) : State :=
  if s.powered then [0, 1, 2, 3].foldl State.laneDown (s.setFlag Reg.SYS_BOARD_STAT_SERDES_CLK_BAD true) else s

/-- SERDES_REFCLK_RETURN (R461): ports and lanes can come up. -/
def State.serdesReturn (s : State) : State := s.setFlag Reg.SYS_BOARD_STAT_SERDES_CLK_BAD false

/-- XTAL_STOP (R462): KEEP_TICK, calendar and comparators stand; seen at the next boot where the part is not powered. -/
def State.xtalStop (s : State) : State :=
  if !s.keep.running then s
  else
    let t := { s with keep := { s.keep with running := false } }
    if s.powered then (t.setFlag Reg.SYS_BOARD_STAT_XTAL_STOP true).raiseOrLater 0x0109 else t

/-- XTAL32_RESTART (R462): a keeper that is not lost goes on from where it stood. -/
def State.xtalRestart (s : State) : State :=
  if s.keep.running || s.keep.lost then s
  else ({ s with keep := { s.keep with running := true } }).setFlag Reg.SYS_BOARD_STAT_XTAL_STOP false

/-! ## Saving the settings (R62) -/

/-- The live image-backed settings, those of the keeper included. -/
def State.settingsNow (s : State) : Store Nat :=
  let a := storeSet s.liveSettings (Reg.KEEP_WAKE_CFG_WAKE_N_EN.key 0) (b2n s.keep.wakeNEn) 0
  storeSet a (Reg.KEEP_WAKE_CFG_CASE_WAKE_EN.key 0) (b2n s.keep.caseWakeEn) 0

/-- UNSAVED: a live setting differs from the boot copy's. -/
def State.unsaved (s : State) : Bool := decide (s.settingsNow ≠ applySettings s.images.bootSettings [])

/-- IMG_CTL.IMG_SAVE (R62, R440). -/
def State.imgSave (s : State) : Status × State :=
  if s.host.phase ≠ .idle then (.txnBusy, s)
  else if s.imgSaving then (.busy, s)
  else if s.flag Reg.IMG_STAT_IMG_FALLBACK then (.badImage, s)
  else if s.imgLoadState = 4 then (.state, s)
  else if s.imgLoadState ≠ 0 then (.busy, s)
  else (.done, { s with images := { s.images with saveWanted := true } })

/-- The values of a save are taken at the boundary, after its commits. -/
def State.imgSaveBoundary (s : State) : State :=
  if s.images.saveWanted then
    { s with images := { s.images with saveWanted := false, saving := some s.settingsNow } }
  else s

/-- The copy that a completed save leaves: the booted copy's HEADER and SIG_ID unchanged, with the saved settings under a fresh seal in place of
SIG_SET (R439). -/
def State.savedCopy (s : State) (l : List (Nat × Nat)) : Option (ImageDesc × Verdict) :=
  (if s.flag Reg.IMG_STAT_BOOT_B then s.images.copyB else s.images.copyA).map (fun e =>
    ({ e.1 with settings := l, settingsBy := .seal true }, e.2))

/-- IMG_SAVE_DONE (R62): deferred in DIP (R399). The saved copy becomes the boot copy; a save that fails its verification leaves the
boot copy in force, with a SAVE_RESULT that the manual does not state. -/
def State.imgSaveDone (s : State) (ok : Bool) : State :=
  match s.images.saving with
  | none => s
  | some l =>
    if s.flag Reg.PWR_STAT_DIP then s
    else
      let t := { s with images := { s.images with saving := none } }
      if ok then
        let b := s.otherCopyB
        let t := t.setOtherCopy (s.savedCopy l)
        let t := { t with images := { t.images with pointerB := b, bootSettings := l } }
        (t.setFlag Reg.IMG_STAT_BOOT_B b).set Reg.IMG_STAT_SAVE_RESULT Status.done.code
      else
        let d := t.draw 8
        d.2.set Reg.IMG_STAT_SAVE_RESULT d.1

/-! ## The commands of this file -/

def execMdioFrameDone (rdata : BitVec 16) (s : State) : Host.Outcome State Fault Refusal := .next (s.mdioDone rdata.toNat)
def execRefclkFail (s : State) : Host.Outcome State Fault Refusal := .next s.refclkFail
def execRefclkRestore (s : State) : Host.Outcome State Fault Refusal := .next s.refclkRestore
def execSerdesClkLoss (s : State) : Host.Outcome State Fault Refusal := .next s.serdesLoss
def execSerdesRefclkReturn (s : State) : Host.Outcome State Fault Refusal := .next s.serdesReturn
def execXtalStop (s : State) : Host.Outcome State Fault Refusal := .next s.xtalStop
def execXtal32Restart (s : State) : Host.Outcome State Fault Refusal := .next s.xtalRestart
def execImgSaveDone (ok : Bool) (s : State) : Host.Outcome State Fault Refusal := .next (s.imgSaveDone ok)

end Sys2Proof.Machine
end

