-- ==== Sys2Proof/Machine/Vote.lean ====
section
/-! DEFINITION. Voted fields (R48): three copies of each, voted at every read and scrubbed once per pump cycle. The register store holds the value in
use; a deviation lists the copies of a field while they differ. -/

namespace Sys2Proof.Machine

/-- The copies of a field, by storage key: all equal to the value in use where no deviation is listed. -/
def State.copies (s : State) (f : Fld) (i : Nat) : Deviation :=
  match s.deviations.find? (fun d => decide (d.addr = f.key i)) with
  | some d => d
  | none => { addr := f.key i, c0 := s.get f i, c1 := s.get f i, c2 := s.get f i, agreed := s.get f i }

/-- Change one copy. -/
def Deviation.upset (d : Deviation) (copy v : Nat) : Deviation :=
  match copy with | 0 => { d with c0 := v } | 1 => { d with c1 := v } | _ => { d with c2 := v }

/-- The copies with this deviation listed, or unlisted where they agree on the value in use. -/
def putDeviation (d : Deviation) (l : List Deviation) : List Deviation :=
  let rest := l.filter (fun e => decide (e.addr ≠ d.addr))
  if d.c0 = d.agreed ∧ d.c1 = d.agreed ∧ d.c2 = d.agreed then rest else rest ++ [d]

/-- An upset of one copy of a field; a field that is not voted has one copy, and R48 says nothing of it. -/
def State.upsetField (s : State) (u : Upset) : Option Fld → State
  | none => s
  | some f =>
    if f.voted then { s with deviations := putDeviation ((s.copies f u.index).upset u.copy (u.value % 2 ^ f.width)) s.deviations } else s

/-- A single-event upset changes one copy of a voted field. -/
def State.upset (s : State) (u : Upset) : State := s.upsetField u (fieldOfKey ((u.index * 16777216 + u.addr) * 32 + u.lo))

/-- The value on which at least two copies agree. -/
def Deviation.majority (d : Deviation) : Option Nat :=
  if d.c0 = d.c1 ∨ d.c0 = d.c2 then some d.c0 else if d.c1 = d.c2 then some d.c1 else none

/-- Vote one field: the minority copy is rewritten and counted; three different copies leave the last agreed value in use, a persistent
disagreement (R48, R342). -/
def State.voteOne (s : State) (d : Deviation) : State :=
  match d.majority, fieldOfKey d.addr with
  | some v, some f =>
    let t := { s with deviations := s.deviations.filter (fun e => decide (e.addr ≠ d.addr)) }
    ((t.set f v (keyIndex d.addr)).count Reg.SYS_VOTE_CNT_COUNT).set Reg.SYS_VOTE_LAST_ADDR (keyAddr d.addr)
  | _, _ => ({ s with red := { s.red with voteErr := true } }).set Reg.SYS_VOTE_LAST_ADDR (keyAddr d.addr)

/-- The vote of a read (R48): the fields of one register word. -/
def State.voteAt (s : State) (a i : Nat) : State :=
  (s.deviations.filter (fun d => decide (keyAddr d.addr = a ∧ keyIndex d.addr = i))).foldl State.voteOne s

/-- Scrubs in a row that found a disagreement in a word; the third is a persistent disagreement. -/
def State.voteStreaks (s : State) (words : List Nat) : State :=
  let st := words.foldl (fun (m : Store Nat) w => storePut m w (storeGet s.voteStreak w 0 + 1)) []
  { s with voteStreak := st, red := { s.red with voteErr := s.red.voteErr || st.any (fun e => decide (3 ≤ e.2)) } }

/-- VOTE_SCRUB (R48). -/
def State.scrub (s : State) : State :=
  let words := (s.deviations.map (fun d => d.addr / 32)).eraseDups
  ((s.deviations.foldl State.voteOne s).voteStreaks words).healthCheck

/-- A written field has three equal copies again. -/
def State.unite (s : State) (key : Nat) : State :=
  { s with deviations := s.deviations.filter (fun d => decide (d.addr ≠ key)) }

end Sys2Proof.Machine
end

