-- ==== Sys2Proof/Machine/HostRead.lean ====
section
/-! DEFINITION. Reading the map (R3, R4, R35, R41 to R46, R58): registers whose fields repeat other state, the values that expert fields derive,
recorder slots, the windows, and runs of consecutive words. -/

namespace Sys2Proof.Machine

/-! ## Alarms (R40) -/

/-- Blocks with an alarm active: SYS (R460), PWR (R33, R402, R405, R469), TSU (R176), ALLOC (R284), RED (R350), SAFE (R374). -/
def State.alarms (s : State) : Nat :=
  let pwr := s.flag Reg.PWR_PACE_STAT_PACE_LOW || s.flag Reg.PWR_STAT_UV_SUSTAINED || s.flag Reg.PWR_STAT_VIO_A_LOW
    || s.flag Reg.PWR_STAT_VIO_B_LOW || s.flag Reg.PWR_TEMP_STAT_OVERTEMP
  let alloc := s.flag Reg.ALLOC_STAT_CONSEQUENCE || s.flag Reg.ALLOC_STAT_DEFICIT
  let red := decide (3 ≤ s.red.hbMiss1 ∨ 3 ≤ s.red.hbMiss2)
  b2n (s.flag Reg.SYS_BOARD_STAT_REFCLK_LOST) + 2 * b2n pwr + 2 ^ 8 * b2n (s.flag Reg.TSU_SRC_STAT_OFFSET_HIGH) + 2 ^ 13 * b2n alloc
    + 2 ^ 15 * b2n red + 2 ^ 17 * b2n s.safe.alarm

/-- ALERT_N is held low (R40). -/
def State.alert (s : State) : Bool := decide (s.alarms &&& s.get Reg.SYS_ALARM_MASK_BLK_MASK ≠ 0)

/-! ## Expert fields (R58) -/

/-- The derived value of an expert field, none for a basic field. -/
def State.derived (s : State) (f : Fld) (i : Nat) : Option Nat :=
  if 0x0B0108 ≤ f.addr ∧ f.addr < 0x0B0130 then some (F64.toF32 (s.obsDerived ((f.addr - 0x0B0100) / 4))).toNat
  else if 0x0C9020 ≤ f.addr ∧ f.addr < 0x0C9080 then
    (if loopExpert ((f.addr - 0x0C9020) / 4) then some (s.loopDerived i ((f.addr - 0x0C9020) / 4)).toNat else none)
  else if f.addr = 0x0E0000 ∧ f.lo = 10 then some 4
  else if f.addr = 0x0E0000 ∧ f.lo = 25 then some 40
  else none

/-! ## Fields computed at the read -/

/-- Bits of the key slots of the fuse bank. -/
def Fuses.slotBits (f : Fuses) (g : KeySlot → Bool) : Nat := ofBits [g f.slot0, g f.slot1, g f.slot2, g f.slot3]

/-- Dies, cistern in GiB (R1). -/
def Variant.dieCount : Variant → Nat | .d2 => 2 | .d4 => 4 | .d8 => 8
def Variant.cistern : Variant → Nat | .d2 => 0 | .d4 => 4 | .d8 => 8

/-- TXN_STAT (R50 to R55). -/
def State.txnField (s : State) (lo : Nat) : Nat :=
  let h := s.host
  match lo with
  | 0 => (match h.phase with | .idle => 0 | .openTxn => 1 | .pendingTxn => 2)
  | 2 => b2n (decide (h.phase ≠ .idle) && decide (h.owner = .spi))
  | 3 => h.result
  | 11 => if h.phase = .idle then 0 else h.staged.length
  | _ => h.failPos

/-- Registers of SYS. -/
def State.sysField (s : State) (a lo : Nat) : Option Nat :=
  match a, lo with
  | 0x000000, 0 => some s.variant.dieCount
  | 0x000000, 4 => some s.variant.cistern
  | 0x000000, 8 => some (b2n (!s.gradeXT))
  | 0x000000, 16 => some s.fuses.stepping.toNat
  | 0x000000, _ => some 0x0D
  | 0x000030, _ => some s.alarms
  | 0x000044, l => some (s.txnField l)
  | 0x000054, 2 => some (b2n s.imgSaving)
  | 0x000054, 3 => some (b2n s.unsaved)
  | 0x000090, _ => some (s.fuses.baseMac.toNat % 4294967296)
  | 0x000094, _ => some (s.fuses.baseMac.toNat / 4294967296)
  | _, _ => none

/-- Registers of KEEP: their home is the keeper (R49, R411 to R414). -/
def State.keepField (s : State) (omp : Bool) (a lo : Nat) : Option Nat :=
  let k := s.keep
  match a, lo with
  | 0x020000, _ => some (s.keepTick % 4294967296)
  | 0x020004, _ => some (if omp then s.host.tickHiOmp else s.host.tickHiSpi)
  | 0x020008, _ => some (k.calBase % 4294967296)
  | 0x02000C, _ => some (k.calBase / 4294967296 % 4294967296)
  | 0x020010, 0 => some (b2n k.calValid)
  | 0x020010, 1 => some (b2n k.vbatLow)
  | 0x020010, 2 => some (b2n k.caseOpen)
  | 0x020010, 3 => some (b2n k.wakeN)
  | 0x020010, 4 => some (b2n k.onVin)
  | 0x020014, _ => some k.caseTick
  | 0x020018, 0 => some (b2n k.wakeNEn)
  | 0x020018, 1 => some (b2n k.caseWakeEn)
  | 0x02001C, 0 => some (b2n k.postedCfg.isSome)
  | 0x02001C, 1 => some (b2n k.postedStat.isSome)
  | 0x020020, _ => some k.powered
  | 0x020024, _ => some k.dips
  | 0x020028, _ => some k.resets
  | 0x02002C, _ => some k.overtemp
  | _, _ => none

/-- A number of mm or of thousandths as a 16-bit signed field, rounded to the nearest. -/
def milli16 (x : F64) : Nat := (max (-32768) (min 32767 (F64.toInt (F64.mul x (dec 1000 1)))) % 65536).toNat

/-- Registers of PWR, PUMP, FORCE, STN. -/
def State.pumpField (s : State) (a lo i : Nat) : Option Nat :=
  match a, lo with
  | 0x010004, 3 => some (b2n s.deferred)
  | 0x040014, 7 => some (b2n (decide (s.mode = .park) && s.runPlate.any (fun p => !s.meetsBudget p)))
  | 0x050004, 0 => some s.forceEntries.length
  | 0x050004, _ => some (s.instancesOf Reg.FORCE_ENT_QUAL_ORPHAN).length
  | 0x079004, 19 => some ((s.ringSpan i + 999) / 1000)
  | _, _ => none

/-- Registers of TSU. -/
def State.tsuField (s : State) (omp : Bool) (a lo i : Nat) : Option Nat :=
  match a, lo with
  | 0x080000, _ => some (s.now % 4294967296)
  | 0x080004, _ => some (if omp then s.host.timeHiOmp else s.host.timeHiSpi).toNat
  | 0x089008, 0 => some (s.stampQueue i).length
  | _, _ => none

/-- The held solution of a context, as its registers show it (R283): 0 where there is none. -/
def State.heldWord (s : State) (a i : Nat) : Nat :=
  match storeFind s.alloc.sols i with
  | none => 0
  | some sol =>
    if a < 0x0D9500 then
      let n := (a - 0x0D9400) / 4
      let t := storeGet sol.thr (n / 2) {}
      (if n % 2 = 0 then F64.toF32 t.thrust else headingWord (F64.deg (s.azimuthOf (n / 2) sol))).toNat
    else (F64.toF32 (storeGet sol.bus ((a - 0x0D9500) / 4) {}).used).toNat

/-- Registers of OBS, LOOP, ALLOC, SOLV. -/
def State.dpField (s : State) (a lo i : Nat) : Option Nat :=
  match a, lo with
  | 0x0B9014, 0 => some (milli16 ((s.applied i).getD 0 0))
  | 0x0B9014, _ => some (milli16 ((s.applied i).getD 1 0))
  | 0x0B9018, 0 => some (milli16 ((s.applied i).getD 2 0))
  | 0x0B9018, _ => some (milli16 (F64.deg ((s.applied i).getD 3 0)))
  | 0x0C0004, 0 => some s.dueBound
  | 0x0C0004, 10 => some s.ordinaryLoops.length
  | 0x0C0004, _ => some (b2n (s.loops.slots.any (fun e => e.2.closed)))
  | 0x0E0024, 0 => some (s.hatchEntry (s.get Reg.SOLV_HATCH_STAT_ENTRY)).state
  | 0x0E9000, 6 => some (s.slotOwner i)
  | 0x0E9000, 8 => some (b2n (s.slotRun i).wide)
  | _, _ => if 0x0D9400 ≤ a ∧ a < 0x0D9520 then some (s.heldWord a i) else none

/-- Registers of RED and SAFE. -/
def State.redField (s : State) (a lo : Nat) : Option Nat :=
  match a, lo with
  | 0x0F0014, 5 => some s.health
  | 0x0F0018, _ => some s.proofLimit
  | 0x110024, 0 => some s.tripped
  | 0x110024, 8 => some s.safe.tripIn
  | 0x110024, 16 => some (b2n !s.safe.runLatch.isEmpty)
  | 0x110024, 17 => some (b2n (decide (s.safe.disc ≠ 0)))
  | 0x110024, _ => some (b2n (decide (s.safe.tripFault ≠ 0)))
  | _, _ => none

/-! ## Recorder slots (R419, R420) -/

/-- The body of a record (R420), bytes 8 to 59. -/
def recordBody (r : Record) : List Nat :=
  let b := match r.kind with
    | .hist => leBytes 4 r.suppressed ++ leBytes 8 r.last
        ++ leBytes 40 (((List.range 16).map (fun k => r.bins.getD k 0 % 1048576 * 1048576 ^ k)).foldl (· + ·) 0)
    | .extreme => leBytes 4 r.count ++ leBytes 4 r.minV.toNat ++ leBytes 8 r.minT ++ leBytes 4 r.maxV.toNat ++ leBytes 8 r.maxT ++ leBytes 8 r.first
    | .counter => leBytes 4 r.suppressed ++ leBytes 4 r.count ++ leBytes 8 r.first ++ leBytes 8 r.last ++ leBytes 4 r.lastValue
    | .lifetime => (r.life.flatMap (leBytes 4)).take 16 ++ leBytes 8 r.tick ++ leBytes 8 r.first
  (b ++ List.replicate 52 0).take 52

/-- The 64 bytes of a slot that holds a record. -/
def recordBytesOf (r : Record) : List Nat :=
  let kind := match r.kind with | .hist => 0 | .extreme => 1 | .counter => 2 | .lifetime => 3
  let flags := ofBits [r.isOpen, r.saturated, r.timeInvalid]
  let b := leBytes 2 r.code ++ [r.sev % 8 + 8 * kind, flags] ++ leBytes 4 r.seq ++ recordBody r
  b ++ leBytes 4 (crc32c b)

/-- A word of the slot window: what a free slot holds is free (log entry 6). -/
def State.slotWord (s : State) (slot n : Nat) : Nat × State :=
  match storeFind s.rcd.slots slot with
  | some r => (leWord (((recordBytesOf r).drop (4 * n)).take 4), s)
  | none => s.draw 32

/-! ## Words of the map -/

/-- The live value of a field of instance i, as a path reads it. -/
def State.liveField (s : State) (omp : Bool) (f : Fld) (i : Nat) : Nat :=
  let blk := f.addr / 65536
  let c := match blk with
    | 0 => s.sysField f.addr f.lo
    | 2 => s.keepField omp f.addr f.lo
    | 8 => s.tsuField omp f.addr f.lo i
    | 11 | 12 | 13 | 14 => s.dpField f.addr f.lo i
    | 15 | 17 => s.redField f.addr f.lo
    | 18 => if f.addr = 0x120004 ∧ f.lo = 0 then some (b2n s.slotsHeld)
        else if f.addr = 0x120004 ∧ f.lo = 2 then some s.rcd.pend.length
        else if f.addr = 0x120004 ∧ f.lo = 16 then some ((s.rcd.slots.length + 1023) / 1024) else none
    | 19 => match f.addr, f.lo with
        | 0x130000, 0 => some (s.fuses.slotBits KeySlot.valid)
        | 0x130000, 4 => some (s.fuses.slotBits KeySlot.revoked)
        | 0x130000, 8 => some (s.fuses.slotBits KeySlot.spoiled)
        | 0x130000, 12 => some s.fuses.rollback
        | 0x130000, 19 => some (b2n s.fuses.dbgOff)
        | 0x130000, 20 => some (b2n s.fuses.mfgOff)
        | 0x130000, 31 => some (b2n (!s.fuses.dbgOff))
        | _, _ => none
    | _ => s.pumpField f.addr f.lo i
  match c with
  | some v => v % 2 ^ f.width
  | none =>
    match (if s.expert blk then none else s.derived f i) with
    | some v => v
    | none => s.get f i

/-- The word of a register: write-only fields and reserved bits read 0 (R44, R46). -/
def State.liveWord (s : State) (omp : Bool) (fs : List Fld) (i : Nat) : Nat :=
  fs.foldl (fun w f => w + (if f.acc = .wo then 0 else s.liveField omp f i) * 2 ^ f.lo) 0

/-! ## Windows (R4, R45) -/

/-- Whether an instance window accepts an index: RANGE where the window-select register's table says so, else NOT_PRESENT. -/
def windowStatus (v : Variant) (a : Nat) (w : Window) (i : Nat) : Status :=
  let within := fun (n : Nat) (st : Status) => if i < n then Status.done else st
  match w with
  | .none => .done
  | .force => within 4096 .notPresent
  | .queue => within 64 .range
  | .rule => within 512 .notPresent
  | .ring => within 8 .range
  | .station => within v.stations .notPresent
  | .port => within 16 (if a / 65536 = 8 then .range else .notPresent)
  | .pps => within 2 .range
  | .din => within 64 .range
  | .channel => within 64 .range
  | .template => within 256 .notPresent
  | .uart => within 24 .notPresent
  | .can => within 4 .range
  | .obsChannel => within 64 .notPresent
  | .loop => within 512 .notPresent
  | .thruster => within 32 .range
  | .bus => within 8 .range
  | .generator => within 16 .range
  | .context => if 256 ≤ i then .range else within v.contexts .notPresent
  | .slot => within v.contexts .notPresent
  | .node => if i = 0 then .range else within 64 .notPresent
  | .safe => within 32 .notPresent
  | .recSlot => within 524288 .notPresent

def Path.isOmp : Path → Bool | .omp _ _ => true | .spi => false

/-- The window-select registers (R45). -/
def isWsel (a : Nat) : Bool := decide (a % 65536 = 0x8000)

/-- WSEL of the SPI path for a block. -/
def State.spiSel (s : State) (blk : Nat) : Nat := storeGet s.host.spiWsel blk 0

/-! ## One register word -/

/-- A read of a register word that belongs to no 8-byte unit: status, value, and the state with what the read latches. -/
def State.readReg (s : State) (omp : Bool) (a i : Nat) : Status × Nat × State :=
  match regAt a with
  | none => (.range, 0, s)
  | some d =>
    if !s.variant.has (a / 65536) then (if a / 65536 = 20 then .notPresent else .done, 0, s)
    else
      let st := windowStatus s.variant a d.window i
      if st ≠ .done then (st, 0, s)
      else if isWsel a && !omp then (.done, s.spiSel (a / 65536), s)
      else if a = 0x080000 then let r := s.timeLoRead omp; (.done, r.1, r.2)
      else if a = 0x020000 then let r := s.tickLoRead omp; (.done, r.1, r.2)
      else if a = 0x130040 then s.rngWord
      else if d.window = .recSlot then let r := s.slotWord i ((a - 0x129000) / 4); (.done, r.1, r.2)
      else let t := s.voteAt a i; (.done, t.liveWord omp (d.fieldsAt a) i, t)

/-- A read of one word of the load windows or the ring's window (R136, R298, R431, R440). `seg` is the path's CAP_WSEL. DESIGN CHOICE (log
entry 33): on a variant without the block, a read of the hatch window or of the ring's window answers RANGE with 0. -/
def State.readWindow (s : State) (a seg : Nat) : Status × Nat × State :=
  let w := a % 16777216 / 4
  if a < 0x42000000 then (.done, (if s.slotState = 1 then storeGet s.plate.loadWords w 0 else 0).toNat, s)
  else if a < 0x42400000 then
    if !s.variant.has 14 then (.range, 0, s)
    else (.done, ((s.loadingEntry.map (fun e => storeGet (s.hatchEntry e).words w 0)).getD 0).toNat, s)
  else if 0x43000000 ≤ a ∧ a < 0x44000000 then
    if !s.variant.has 20 then (.range, 0, s)
    else if s.get Reg.CAP_CFG_CAP_SIZE ≤ seg then (.range, 0, s) else s.ringRead seg w
  else if 0x44000000 ≤ a ∧ a < 0x44C00000 then
    (.done, (if s.imgLoadState = 1 then storeGet s.images.loadWords w 0 else 0).toNat, s)
  else (.range, 0, s)

/-- Before DONE the SPI target serves SYS, PWR, KEEP, RST and SEC; other registers read 0 (R384). -/
def State.servedEarly (a : Nat) : Bool := [0, 1, 2, 3, 19].contains (a / 65536)

/-- A word of the point window: word 0 the value, word 1 the rest (R42, R63). -/
def State.pointWord (s : State) (a : Nat) : Nat :=
  let r := s.point ((a - 0x40000000) / 8)
  if a % 8 = 0 then r.value.toNat else r.word1

/-- A read of one word that belongs to no unit of R186. -/
def State.readWord (s : State) (omp : Bool) (a i : Nat) : Status × Nat × State :=
  if !s.booted && !State.servedEarly a then (.done, 0, s)
  else if a < 0x01000000 then s.readReg omp a i
  else if 0x40000000 ≤ a ∧ a < 0x40800000 then (.done, s.pointWord a, s)
  else if 0x41000000 ≤ a then s.readWindow a (if omp then i else s.spiSel 20)
  else (.range, 0, s)

/-! ## 8-byte units (R180, R186) -/

/-- First word of a unit: the stamp queue pair, the DIN edge pair. -/
def unitAt (a : Nat) : Bool := decide (a = 0x089010 ∨ a = 0x089030)

/-- Both words of a unit, complete: the head entry is freed, MISSED clears. -/
def State.readUnit (s : State) (a i : Nat) : Status × Nat × Nat × State :=
  if a = 0x089010 then
    if 16 ≤ i then (.range, 0, 0, s)
    else
      let r := s.tsqRead i
      (r.1, r.2.1.getD 0 0, r.2.1.getD 1 0, r.2.2)
  else if 64 ≤ i then (.range, 0, 0, s)
  else (.done, (s.dinWords i).1, (s.dinWords i).2, s.dinRead i)

/-- Consecutive words from an address: status and value of each. -/
def State.readWords (s : State) (omp : Bool) (a i : Nat) : Nat → List (Status × Nat) × State
  | 0 => ([], s)
  | 1 =>
    if unitAt a || unitAt (a - 4) then ([(.range, 0)], s)
    else let r := s.readWord omp a (if omp then i else s.spiSel (a / 65536)); ([(r.1, r.2.1)], r.2.2)
  | n + 2 =>
    let j := if omp then i else s.spiSel (a / 65536)
    if unitAt a && s.booted then
      let u := s.readUnit a j
      let r := State.readWords u.2.2.2 omp (a + 8) i n
      ((u.1, u.2.1) :: (u.1, u.2.2.1) :: r.1, r.2)
    else if (unitAt a || unitAt (a - 4)) && s.booted then
      let r := State.readWords s omp (a + 4) i (n + 1)
      ((.range, 0) :: r.1, r.2)
    else
      let w := s.readWord omp a j
      let r := State.readWords w.2.2 omp (a + 4) i (n + 1)
      ((w.1, w.2.1) :: r.1, r.2)

/-- The first word that failed, and its position (R37, R39). -/
def firstFail (l : List (Status × Nat)) : Nat → Option (Status × Nat)
  | k => match l with
    | [] => none
    | e :: t => if e.1 ≠ .done then some (e.1, k) else firstFail t (k + 1)

end Sys2Proof.Machine
end

