-- ==== Sys2Proof/Machine/HostCheck.lean ====
section
/-! DEFINITION. What a register write is checked for: ranges inside one word (R44), and the conditions of each block at the
application of a transaction (R54). A commit is judged on the state that all its words together leave (log entry 31). -/

namespace Sys2Proof.Machine

/-! ## Ranges inside one word (R44) -/

/-- A binary32 word from lo/den to hi/den, bounds rounded to binary32; a NaN is outside. -/
def in32 (w : Nat) (lo hi : Int) (den : Nat) : Bool :=
  let b := fun (n : Int) => (F64.toF32 (F64.ofRat n den)).toNat
  Fp.f32.le (b lo) w && Fp.f32.le w (b hi)

/-- Whether `count` points from `base` lie in an area of the variant (R68, R69). -/
def rangeIn (v : Variant) (ar : Area) (base count : Nat) : Bool :=
  decide (count = 0) || decide (areaOf base = ar ∧ areaOf (base + count - 1) = ar ∧ base + count ≤ 0x100000)
    && populated v base && populated v (base + count - 1)

/-- Ranges of OBS_PARAM_n (parameter table of chapter 9). -/
def obsParamOk (n w : Nat) : Bool :=
  match n with
  | 0 => in32 w 10 400 1
  | 1 => in32 w 50 500000 1
  | 2 | 3 => in32 w 10 1000000 1
  | 4 => in32 w 1000 100000000000 1
  | 5 | 6 => in32 w 1 10000000 100
  | 7 => in32 w 1 10000000000 1
  | 8 => in32 w 10 10000 1
  | 9 => in32 w 2 20 10
  | 10 => in32 w 1 100 100
  | _ => in32 w 1 1000 10

/-- Ranges of LOOP_COEF_n (parameter table of chapter 10); the lower bound Ts is judged at the commit. -/
def loopCoefOk (n w : Nat) : Bool :=
  match n with
  | 0 | 6 => in32 w (-1000000) 1000000 1
  | 1 | 5 | 7 | 11 => in32 w 0 100000 1
  | 2 | 8 => in32 w 0 10000 1
  | 3 | 9 => in32 w 1 100 1
  | 4 | 10 | 17 | 19 | 20 => in32 w 0 1 1
  | 12 | 13 | 15 | 16 => in32 w (-1000000000) 1000000000 1
  | 18 => in32 w 1 6000 10
  | 21 => in32 w (-10000) 10000 1
  | _ => in32 w 0 1000000000 1

/-- Ranges of ALLOC_COEF_n (parameter table of chapter 11). -/
def allocCoefOk (n w : Nat) : Bool :=
  match n with
  | 0 => in32 w 1 100000000 1
  | 1 => in32 w 1 400 1
  | _ => in32 w 0 10 1

/-- An IPv4 address that a port may hold: no multicast, broadcast or loopback address. -/
def ipOk (v : Nat) : Bool := decide (v / 268435456 ≠ 14 ∧ v ≠ 4294967295 ∧ v / 16777216 ≠ 127)

/-- Ranges stated between fields of one word, or by the kind of a value. -/
def wordOk (var : Variant) (a v : Nat) : Bool :=
  if 0x0B0100 ≤ a ∧ a < 0x0B0130 then obsParamOk ((a - 0x0B0100) / 4) v
  else if 0x0C9020 ≤ a ∧ a < 0x0C9080 then loopCoefOk ((a - 0x0C9020) / 4) v
  else if 0x0D0010 ≤ a ∧ a < 0x0D001C then allocCoefOk ((a - 0x0D0010) / 4) v
  else match a with
    | 0x009000 => ipOk v
    | 0x000078 => !bitAt v 20 || decide (areaOf (v % 1048576) = .output)
    | 0x0A9000 => decide (bitsAt v 5 6 < (match bitsAt v 3 2 with | 0 => 24 | 1 => 4 | _ => 64))
    | 0x0A9008 => in32 v 1 1000000000000 1000000
    | 0x099010 => decide (v % 4 ≠ 1 ∨ bitsAt v 2 3 = 1)
    | 0x0B9004 => let d := sext 16 (bitsAt v 16 16); decide (-18000 ≤ d ∧ d ≤ 18000)
    | 0x0D9000 => let n := bitsAt v 25 4; decide (n = 0 ∨ 3 ≤ n ∧ n ≤ 8)
    | 0x0D9008 => decide (bitsAt v 16 16 ≤ v % 65536)
    | 0x0D9010 => decide (bitsAt v 16 16 ≤ v % 65536)
    | 0x0E9000 => !bitAt v 0 || decide (bitsAt v 1 5 ≠ 0)
    | 0x119010 => in32 v 1 1000000000 1000
    | 0x140000 => decide (var = .d8 ∨ v % 512 ≤ 128)
    | _ => true

/-- Whether every field of a word that a write sets lies in its stated range (R44). -/
def fieldsOk (fs : List Fld) (v : Nat) : Bool :=
  fs.all (fun f => decide (f.acc ≠ .rw ∧ f.acc ≠ .wo) || decide (f.vmin ≤ bitsAt v f.lo f.width ∧ bitsAt v f.lo f.width ≤ f.vmax))

/-! ## Conditions of a commit -/

/-- The first failure of a list of conditions. -/
def firstStatus : List (Bool × Status) → Status
  | [] => .done
  | (ok, st) :: t => if ok then firstStatus t else st

/-- The first of a list of outcomes that is not DONE. -/
def worstStatus (l : List Status) : Status := (l.find? (fun x => decide (x ≠ .done))).getD .done

/-- A field that a commit leaves as it was. -/
def sameField (s t : State) (f : Fld) (i : Nat := 0) : Bool := decide (s.get f i = t.get f i)

/-- A point declared with a type by the running plate, in an area. -/
def State.declaredAs (s : State) (type p : Nat) : Bool := (s.decl p).any (fun d => decide (d.type = type))

/-- The loop closes: AUTO or CASCADE. -/
def State.loopClosed (s : State) (i : Nat) : Bool := (s.loopSlot i).closed

/-- Ranges of points do not overlap; an empty range overlaps nothing. -/
def apart (b1 n1 b2 n2 : Nat) : Bool := decide (n1 = 0 ∨ n2 = 0 ∨ b1 + n1 ≤ b2 ∨ b2 + n2 ≤ b1)

/-- Whether a range overlaps no input range of an enabled station other than `i`. -/
def State.clearOfStations (t : State) (base count : Nat) (i : Option Nat) : Bool :=
  t.stationsOn.all (fun j => decide (i = some j) || apart base count (t.get Reg.STN_ST_IN_IN_BASE j) (t.get Reg.STN_ST_IN_IN_COUNT j))

/-- Whether a range overlaps no input range of an enabled node other than `i`. -/
def State.clearOfNodes (t : State) (base count : Nat) (i : Option Nat) : Bool :=
  t.nodes.all (fun j => decide (i = some j) || apart base count (t.get Reg.SPAN_NODE_IN_IN_BASE j) (t.get Reg.SPAN_NODE_IN_IN_COUNT j))

/-- The fields that a channel writes to input points. -/
def State.chanWidth (t : State) (c : Nat) : Nat := t.tplCount (t.get Reg.TRG_CH_CFG_TEMPLATE c)

/-- Whether a range overlaps no input range of an enabled channel other than `i` (R203). -/
def State.clearOfChannels (t : State) (base count : Nat) (i : Option Nat) : Bool :=
  ((t.instancesOf Reg.TRG_CH_IN_IN_EN).filter t.chanOn).all (fun c =>
    decide (i = some c) || apart base count (t.get Reg.TRG_CH_IN_IN_BASE c) (t.chanWidth c))

/-! ## SYS -/

/-- DIN and GPIO input points (R455). -/
def State.bitInputs (t : State) (base count : Nat) : Bool :=
  (List.range count).all (fun k => decide (areaOf (base + k) = .input) && t.declaredAs 0 (base + k))
    && t.clearOfStations base count none && t.clearOfChannels base count none

def checkSys (s t : State) (a i : Nat) : Status :=
  match a with
  | 0x000014 => firstStatus [(decide (bitAt (s.get Reg.SYS_LEVEL_EXPERT) 12 = bitAt (t.get Reg.SYS_LEVEL_EXPERT) 12)
      || !(s.loops.slots.any (fun e => e.2.closed)), .loopClosed)]
  | 0x000070 => firstStatus [(!t.flag Reg.SYS_DIN_CFG_DIN_EN || t.bitInputs (t.get Reg.SYS_DIN_CFG_DIN_BASE) 2, .state)]
  | 0x000074 => firstStatus [(!t.flag Reg.SYS_GPIO_IN_GPIO_IN_EN || t.bitInputs (t.get Reg.SYS_GPIO_IN_GPIO_IN_PT) 1, .state)]
  | 0x009000 => firstStatus [(decide (t.portIp i = 0) || (List.range 16).all (fun j => decide (j = i) || decide (t.portIp j ≠ t.portIp i)), .state)]
  | _ => .done

/-! ## Cycle timing: PUMP, STN, TSU, SPAN -/

/-- R167: every enabled ring completes within the input window. -/
def State.ringsFit (t : State) : Bool := t.rings.all (fun r => decide (1000 + t.ringSpan r + 2000 ≤ t.inputWin))

/-- R88, R336: the change does not bring B or a proof limit below what the running plate needs. -/
def budgetKept (s t : State) : Bool :=
  match s.runPlate with
  | none => true
  | some p => t.meetsBudget p || !s.meetsBudget p && decide (t.budgetCut + s.tp ≤ s.budgetCut + t.tp)

/-- R240: sample times and phases of the enabled ordinary loops. -/
def State.loopsTimed (t : State) : Bool :=
  t.ordinaryLoops.all (fun i => decide (500000 ≤ t.get Reg.LOOP_CFG_M i * t.tp ∧ t.get Reg.LOOP_CFG_PHASE i < t.get Reg.LOOP_CFG_M i))

/-- R175: PHASE lies below T_P. -/
def State.phaseOk (t : State) : Bool := decide (t.get Reg.TSU_PHASE_PHASE < t.get Reg.PUMP_CYCLE_CTL_T_P)

def checkPump (s t : State) (a : Nat) : Status :=
  if a = 0x040000 then
    firstStatus [
      (decide (s.mode = .park) || sameField s t Reg.PUMP_CYCLE_CTL_T_P && sameField s t Reg.PUMP_CYCLE_CTL_K, .state),
      (decide (10000000 ≤ t.th ∧ t.th ≤ 1000000000), .range), (t.phaseOk, .range), (t.loopsTimed, .range), (t.ringsFit, .range),
      (t.spanAllFit, .range), (budgetKept s t, .state)]
  else .done

/-- R129, R132: a valid force entry at its application instant. -/
def checkForce (s t : State) (a i : Nat) : Status :=
  if a < 0x059000 then firstStatus [(!s.standby, .role)]
  else
    let p := t.get Reg.FORCE_ENT_ADDR_POINT i
    if s.standby then .role
    else if !t.flag Reg.FORCE_ENT_ADDR_VALID i then .done
    else firstStatus [
      (decide (areaOf p = .input ∨ areaOf p = .output), .range),
      (t.declared p, .notPresent),
      (t.declaredAs (t.get Reg.FORCE_ENT_QUAL_TYPE i) p, .range),
      (!decide (0x0E ≤ t.get Reg.FORCE_ENT_QUAL_QUALITY i % 64 ∧ t.get Reg.FORCE_ENT_QUAL_QUALITY i % 64 ≤ 0x1F), .range),
      (t.forceEntries.all (fun e => decide (e = i ∨ t.get Reg.FORCE_ENT_ADDR_POINT e ≠ p)), .state)]

/-! ## QMGR (R147, R153) -/

/-- The queues in use: those that the registers list, and the factory's (R153). -/
def State.queuesOn (t : State) : List Nat := (List.range 64).filter (fun q => t.flag Reg.QMGR_Q_CFG_ENABLE q)

/-- Rule i against its queue (R153). -/
def State.ruleState (t : State) (i : Nat) : Status :=
  let q := t.get Reg.QMGR_RULE_CTL_QUEUE i
  firstStatus [
    (decide (t.get Reg.QMGR_Q_CFG_DIR q = 0), .range),
    (decide (t.get Reg.QMGR_RULE_CTL_PORT_MASK i &&& t.get Reg.QMGR_Q_PORTS_PORTS q = t.get Reg.QMGR_RULE_CTL_PORT_MASK i), .state)]

/-- Queue q against the rings and its consumer (R153). -/
def State.queueState (t : State) (q : Nat) : Status :=
  let c := t.get Reg.QMGR_Q_CFG_CONSUMER q
  firstStatus [
    (decide (c = 1) || (List.range 16).all (fun p => !(bitAt (t.get Reg.QMGR_Q_PORTS_PORTS q) p && t.ringPort p)), .state),
    (decide (c ≠ 1 ∨ t.get Reg.QMGR_Q_CFG_PRIO q = 7), .state)]

/-- The rules that name a queue. -/
def State.rulesOf (t : State) (q : Nat) : List Nat := (List.range 512).filter (fun i => decide (t.get Reg.QMGR_RULE_CTL_QUEUE i = q))

/-- R147: descriptors in hub SRAM. -/
def State.ringsSram (t : State) : Bool :=
  decide (t.variant ≠ .d2 ∨ ((t.queuesOn.map (fun q => t.ringLen q)).foldl (· + ·) 0) ≤ 8192)

def checkQmgr (t : State) (a i : Nat) : Status :=
  if a = 0x069000 ∨ a = 0x069004 then
    worstStatus (firstStatus [(t.ringsSram, .range)] :: t.queueState i :: (t.rulesOf i).map t.ruleState)
  else if 0x069100 ≤ a then t.ruleState i
  else .done

/-! ## STN (R157 to R167, R329) -/

/-- R329: CLAIM_WIN against the watchdogs. -/
def State.claimsFit (t : State) : Bool := t.stations.all (fun j => decide (t.get Reg.RED_CLAIM_CFG_CLAIM_WIN ≤ t.get Reg.STN_ST_CFG_WDOG j))

/-- The output range of a station lies in the output area (STN_ST_OUT.OUT_BASE). -/
def State.stnOutOk (t : State) (i : Nat) : Bool :=
  rangeIn t.variant .output (t.get Reg.STN_ST_OUT_OUT_BASE i) (t.get Reg.STN_ST_OUT_OUT_COUNT i)

/-- The settings of one enabled station. -/
def State.stationState (t : State) (i : Nat) : Status :=
  let r := t.get Reg.STN_ST_CFG_RING i
  let g := t.get Reg.STN_ST_CFG_GROUP i
  let b := t.get Reg.STN_ST_IN_IN_BASE i
  let n := t.get Reg.STN_ST_IN_IN_COUNT i
  if !t.flag Reg.STN_ST_CFG_ENABLE i then .done
  else firstStatus [
    (t.stationsOn.all (fun j => decide (j = i ∨ t.get Reg.STN_ST_CFG_RING j ≠ r
      ∨ t.get Reg.STN_ST_CFG_POSITION j ≠ t.get Reg.STN_ST_CFG_POSITION i)), .state),
    (rangeIn t.variant .input b n && t.clearOfStations b n (some i) && t.clearOfChannels b n none, .state),
    (t.stnOutOk i, .range),
    (decide (t.groupBytes r g ≤ 1480), .range)]

def checkStn (s t : State) (a i : Nat) : Status :=
  match a with
  | 0x070000 => firstStatus [(t.ringsFit, .range), (t.spanAllFit, .range), (budgetKept s t, .state)]
  | 0x079000 => worstStatus (firstStatus [(t.ringsFit, .range)] :: (List.range 64).map t.queueState)
  | 0x079100 => worstStatus [t.stationState i, firstStatus [(t.ringsFit, .range), (t.claimsFit, .state)]]
  | 0x079104 => worstStatus [t.stationState i, firstStatus [(t.ringsFit, .range)]]
  | 0x079108 => worstStatus [t.stationState i, firstStatus [(t.stnOutOk i, .range), (t.ringsFit, .range)]]
  | _ => .done

def checkTsu (s t : State) (a i : Nat) : Status :=
  match a with
  | 0x080024 => firstStatus [(decide (s.mode = .park) || sameField s t Reg.TSU_PHASE_PHASE, .state), (t.phaseOk, .range)]
  | 0x089004 => firstStatus [
      (!t.flag Reg.TSU_PORT_PTP_PTP_EN i || !t.ringPort i, .state),
      (!t.flag Reg.TSU_PORT_PTP_UDP i || decide (t.portIp i ≠ 0), .state)]
  | _ => .done

/-! ## TRG and OBS -/

/-- R193: a field entry of a template. -/
def State.tplFieldOk (t : State) (n k : Nat) : Bool :=
  let f := t.tplField n k
  let unit := [0x02, 0x03, 0x04, 0x0D, 0x0E, 0x0F].contains f.enc
  decide (1 ≤ f.enc ∧ f.enc ≤ 0x0F ∧ f.qty ≤ 14) && (!unit || decide (f.scale.toNat = 1065353216))

/-- R193: a template record; KIND 0 is a template that is not in use. -/
def State.tplOk (t : State) (n : Nat) : Bool :=
  let kind := t.tplKind n
  let cnt := t.tplCount n
  let len := t.tplNat n 12 2
  decide (kind = 0) ||
    (decide (kind ≤ 5 ∧ 1 ≤ cnt ∧ cnt ≤ 6) && decide (t.tplTime n = 255 ∨ t.tplTime n < cnt)
      && decide (t.tplValid n = 255 ∨ t.tplValid n < cnt)
      && decide (kind < 3 ∨ 4 ≤ len ∧ len ≤ 1024) && decide (kind ≠ 3 ∧ kind ≠ 5 ∨ t.tplByte n 8 ≤ 4)
      && decide (bitsAt (t.tplFlags n) 4 4 = 0 ∧ bitsAt (t.tplFlags n) 2 2 ≠ 3 ∧ t.tplByte n 15 = 0)
      && (List.range cnt).all (t.tplFieldOk n))

/-- Whether a template KIND fits a SRC_KIND (R190, R193). -/
def kindFits (kind src : Nat) : Bool :=
  match kind with
  | 1 => decide (src = 0 ∨ src = 2)
  | 2 | 4 => decide (src = 1)
  | 3 => decide (src = 0)
  | 5 => decide (src = 2)
  | _ => false

/-- R203: the input range of a channel. -/
def State.chanRange (t : State) (c : Nat) : Bool :=
  let b := t.get Reg.TRG_CH_IN_IN_BASE c
  !(t.chanOn c && t.flag Reg.TRG_CH_IN_IN_EN c) ||
    (rangeIn t.variant .input b (t.chanWidth c) && t.clearOfStations b (t.chanWidth c) none && t.clearOfChannels b (t.chanWidth c) (some c))

/-- R231: at most 8 refined channels in each of the two groups. -/
def State.refineOk (t : State) : Bool :=
  [0, 1].all (fun g => decide (((t.instancesOf Reg.OBS_CH_REF_REFINE).filter (fun c => decide (t.get Reg.TRG_CH_CFG_GROUP c = g))).length ≤ 8))

def checkTrg (t : State) (a i : Nat) : Status :=
  if a = 0x0A9000 then
    let n := t.get Reg.TRG_CH_CFG_TEMPLATE i
    let src := t.get Reg.TRG_CH_CFG_SRC_KIND i
    firstStatus [
      (decide (src ≠ 2 ∨ t.get Reg.QMGR_Q_CFG_CONSUMER (t.get Reg.TRG_CH_CFG_SRC_INDEX i) = 2), .state),
      (kindFits (t.tplKind n) src || decide (t.tplKind n = 0) && !t.chanOn i, .state),
      (!t.flag Reg.TRG_CH_CFG_OWN_TIME i || decide (t.tplTime n ≠ 255), .state),
      (t.chanRange i, .state), (t.refineOk, .range)]
  else if a = 0x0A9010 then firstStatus [(t.chanRange i, .state)]
  else if 0x0A9100 ≤ a then
    firstStatus [(t.tplOk i, .range),
      ((List.range t.variant.channels).all (fun c => decide (t.get Reg.TRG_CH_CFG_TEMPLATE c ≠ i) || t.chanRange c), .state)]
  else .done

/-- An angle in degrees within a limit; a NaN is not. -/
def within (x : F64) (limit : Nat) : Bool := F64.le (F64.abs x) (F64.ofNat limit)

def checkObs (s t : State) (a : Nat) : Status :=
  if 0x0B0020 ≤ a ∧ a < 0x0B0030 then
    firstStatus [(!s.dpClosed, .loopClosed), (if a < 0x0B0028 then within t.origin.1 85 else within t.origin.2 180, .range)]
  else if a = 0x0B9008 then firstStatus [(t.refineOk, .range)]
  else .done

/-! ## LOOP (R239, R240, R249) -/

/-- R240: the loops due in one cycle fit B. -/
def State.dueFits (t : State) : Bool := decide (250 * t.dueBound + t.budgetCut ≤ t.tp)

/-- A role in use names a populated point; OUT an output or marker point that no other enabled loop names. -/
def State.roleOk (t : State) (i n : Nat) : Bool :=
  match t.loopRole i n with
  | none => true
  | some p =>
    populated t.variant p &&
      (decide (n ≠ 5) || decide (areaOf p = .output ∨ areaOf p = .marker)
        && t.ordinaryLoops.all (fun j => decide (j = i) || decide (t.loopRole j 5 ≠ some p)))

/-- An enabled ordinary loop has PV and OUT in use. -/
def State.loopWhole (t : State) (i : Nat) : Bool :=
  !t.ordinaryLoops.contains i || (t.loopRole i 0).isSome && (t.loopRole i 5).isSome

/-- Output and integrator limits in order; Ti and Tt not below Ts. -/
def State.limitsOk (t : State) (i n : Nat) : Bool :=
  let ts := t.loopTs i
  match n with
  | 12 | 13 | 15 | 16 => F64.lt (t.coef i 12) (t.coef i 13) && F64.lt (t.coef i 15) (t.coef i 16)
  | 1 | 7 => F64.isZero (t.coef i n) || F64.le (F64.ofF32 (F64.toF32 ts)) (t.coef i n)
  | 5 | 11 => F64.le (F64.ofF32 (F64.toF32 ts)) (t.coef i n) || !t.expert 12
  | _ => true

def checkLoop (s t : State) (a i : Nat) : Status :=
  if a = 0x0C0000 then
    firstStatus [
      ([509, 510, 511].all (fun j => !s.loopClosed j), .loopClosed),
      (!t.flag Reg.ALLOC_CFG_ENABLE || t.flag Reg.LOOP_CTL_DP_EN, .state),
      ([509, 510, 511].all t.loopWhole, .state), (t.loopsTimed, .range), (t.dueFits, .state)]
  else if a = 0x0C9000 then
    firstStatus [(!s.loopClosed i, .loopClosed), (t.loopsTimed && decide (t.get Reg.LOOP_CFG_PHASE i < t.get Reg.LOOP_CFG_M i), .range), (t.loopWhole i, .state), (t.roleOk i 5, .state), (t.dueFits, .state)]
  else if 0x0C9004 ≤ a ∧ a < 0x0C901C then
    firstStatus [(!s.loopClosed i, .loopClosed), (t.loopWhole i, .state), (t.roleOk i ((a - 0x0C9004) / 4), .state)]
  else if 0x0C9020 ≤ a ∧ a < 0x0C9080 then
    let n := (a - 0x0C9020) / 4
    firstStatus [(decide (22 ≤ n) || !s.loopClosed i, .loopClosed), (t.limitsOk i n, .range)]
  else .done

/-! ## ALLOC (R263, R271, R272, R280, R295) -/

/-- The cross product of two edges in a row of a polygon is negative: clockwise and convex, x forward and y to starboard. -/
def turnsRight : List (F64 × F64) → Bool
  | a :: b :: c :: t =>
    F64.lt F64.zero (cross2 (F64.sub b.1 a.1, F64.sub b.2 a.2) (F64.sub c.1 b.1, F64.sub c.2 b.2)) && turnsRight (b :: c :: t)
  | _ => true

/-- The origin lies strictly inside every edge. -/
def holdsOrigin : List (F64 × F64) → Bool
  | a :: b :: t => F64.lt F64.zero (cross2 a b) && holdsOrigin (b :: t)
  | _ => true

/-- Whether an interval of directions [a, a + 60°] meets the directions that an edge covers, from x clockwise over w degrees. -/
def meets60 (a x w : F64) : Bool :=
  F64.le (cwFrom a x) (F64.ofNat 60) || F64.le (cwFrom x a) w

/-- The direction of a vertex in degrees. -/
def bearing (v : F64 × F64) : F64 := F64.mod360 (F64.deg (F64.atan2 v.2 v.1))

/-- How often a clockwise polygon passes the direction 0°: once where it winds once about the origin. -/
def passesNorth : List (F64 × F64) → Nat
  | a :: b :: t => (if F64.lt a.2 F64.zero && F64.le F64.zero b.2 then 1 else 0) + passesNorth (b :: t)
  | _ => 0

/-- No interval of 60° of direction meets more than 4 edges: the intervals that begin at a vertex or end at one decide it. -/
def few60 (vs : List (F64 × F64)) : Bool :=
  let bs := vs.map bearing
  let edges := (bs.zip (bs.drop 1 ++ bs.take 1)).map (fun e => (e.1, cwFrom e.1 e.2))
  let starts := bs ++ bs.map (fun b => F64.mod360 (F64.sub b (F64.ofNat 60)))
  starts.all (fun a => decide ((edges.filter (fun e => meets60 a e.1 e.2)).length ≤ 4))

/-- The polygon of an azimuth thruster (R271). -/
def State.polygonOk (t : State) (i : Nat) : Bool :=
  let vs := t.polygon i
  decide (t.get Reg.ALLOC_THR_CFG_NVERT i = 0) ||
    (turnsRight (vs ++ vs.take 2) && holdsOrigin (vs ++ vs.take 1) && decide (passesNorth (vs ++ vs.take 1) = 1) && few60 vs)

/-- Whether directions remain free of the used sectors: closed sectors cover the circle or not. -/
def State.directionFree (t : State) (i : Nat) : Bool :=
  match t.sectors i with
  | [a, b] =>
    !((inSector a.2 b && inSector a.1 b) && (inSector b.2 a && inSector b.1 a))
  | _ => true

/-- R271 for one thruster slot; a fixed-direction thruster ignores polygon and sectors (R268). -/
def State.thrusterState (t : State) (i : Nat) : Status :=
  if t.get Reg.ALLOC_THR_CFG_KIND i ≠ 1 then .done
  else firstStatus [
    (t.polygonOk i, .state),
    (decide (t.get Reg.ALLOC_THR_CFG_NVERT i = 0) || (t.polygon i).all (fun v => F64.le (F64.hyp v.1 v.2) (t.tmax i)), .range),
    ((t.sectors i).all (fun x => !F64.eq x.1 x.2), .range),
    (t.directionFree i, .state)]

/-- A role in use names a point declared with its type. -/
def State.roleTyped (t : State) (f : Fld) (use_ : Fld) (i type : Nat) : Bool := !t.flag use_ i || t.declaredAs type (t.get f i)

def checkThr (t : State) (a i : Nat) : Status :=
  let n := (a - 0x0D9040) / 4
  if 0x0D9040 ≤ a then
    firstStatus [(t.roleTyped (Reg.ALLOC_THR_PT_ADDR.at n) (Reg.ALLOC_THR_PT_USE.at n) i (if n = 0 then 0 else 3), .state)]
  else t.thrusterState i

/-- Enabling a context or the block needs slots that hold no user hatch (R295). -/
def State.slotClear (t : State) (c : Nat) : Bool := !t.flag Reg.SOLV_SLOT_CFG_USER_EN c

def checkAlloc (s t : State) (a i : Nat) : Status :=
  let openDp := firstStatus [(!s.dpClosed, .loopClosed)]
  if a = 0x0D0000 then
    if t.flag Reg.ALLOC_CFG_ENABLE then
      firstStatus [(sameField s t Reg.ALLOC_CFG_ENABLE || !s.dpClosed, .loopClosed), (t.flag Reg.LOOP_CTL_DP_EN, .state), (t.slotClear 0, .state)]
    else firstStatus [(sameField s t Reg.ALLOC_CFG_ENABLE || !s.dpClosed, .loopClosed)]
  else if a < 0x0D9000 then openDp
  else if a < 0x0D9100 then worstStatus [openDp, checkThr t a i]
  else if 0x0D9104 ≤ a ∧ a < 0x0D910C then
    let n := (a - 0x0D9104) / 4
    worstStatus [openDp, firstStatus [(t.roleTyped (Reg.ALLOC_BUS_PT_ADDR.at n) (Reg.ALLOC_BUS_PT_USE.at n) i (if n = 0 then 3 else 0), .state)]]
  else if a = 0x0D9180 then
    worstStatus [openDp, firstStatus [(t.roleTyped Reg.ALLOC_GEN_CFG_ADDR Reg.ALLOC_GEN_CFG_ENABLE i 3, .state)]]
  else if a < 0x0D9200 then openDp
  else if a = 0x0D9200 then firstStatus [(!t.flag Reg.ALLOC_CTX_CFG_ENABLE i || t.slotClear i, .state)]
  else if 0x0D9220 ≤ a ∧ a < 0x0D9260 ∧ a % 8 = 0 then
    firstStatus [(decide (t.get (Reg.ALLOC_CTX_TERM_A_OP.at ((a - 0x0D9220) / 8) 8) i ≠ 7), .range)]
  else .done

/-! ## SOLV, RED, SPAN, SAFE, PWR, CAP -/

/-- The window of R27 from the live T_h, W and SOLVE_RESERVE, ns. -/
def State.solveWindow (t : State) : Nat :=
  t.th - t.th * t.get Reg.TRG_CFG_W_PCT / 100 - 1500000 - t.get Reg.SOLV_CFG_SOLVE_RESERVE * 1000

/-- Units of one context: a user hatch by its cost, an allocation context 1 (R316). -/
def State.slotUnits (t : State) (c : Nat) : Nat :=
  if t.slotOwner c = 1 then 1
  else if t.slotOwner c = 2 then (((t.userHatch c).map (fun h => h.hdr.costNs)).getD 0 + 781249) / 781250 else 0

/-- The units of a die's list (R316, R318). -/
def State.dieUnits (t : State) (d : Nat) : Nat :=
  (((List.range t.variant.contexts).filter (fun c => decide (t.ctxDie c = d))).map t.slotUnits).foldl (· + ·) 0
    + 4 + (if t.variant = .d8 then 1 else 0)

/-- R318: the points of a user hatch. -/
def State.bindOk (t : State) (c : Nat) : Bool :=
  (t.userHatch c).all (fun h =>
    h.desc.bindIn.all (fun e => t.declaredAs 3 e.1)
      && h.desc.bindOut.all (fun e => t.declaredAs 3 e.2 && decide (areaOf e.2 = .output ∨ areaOf e.2 = .marker)))

def checkSolv (t : State) (a i : Nat) : Status :=
  if a = 0x0E9000 ∧ t.flag Reg.SOLV_SLOT_CFG_USER_EN i = true then
    firstStatus [
      (decide (t.slotOwner i = 2), .state), ((t.userHatch i).isSome, .badImage), (t.bindOk i, .state),
      (decide (t.dieUnits (t.ctxDie i) * 781250 ≤ t.solveWindow), .range)]
  else .done

/-- R349: the heartbeat ring of the compatibility mode is native and holds a station. -/
def State.beatRingOk (t : State) : Bool :=
  let r := t.get Reg.RED_CLAIM_CFG_HB_RING
  decide (t.get Reg.RED_CFG_MODE ≠ 2) ||
    !bitAt (t.get Reg.RED_CFG_COMPAT_RINGS) r && t.stations.any (fun j => decide (t.get Reg.STN_ST_CFG_RING j = r))

def checkRed (s t : State) (a : Nat) : Status :=
  match a with
  | 0x0F0000 => firstStatus [(decide (s.mode = .park) || sameField s t Reg.RED_CFG_MODE, .state), (t.beatRingOk, .state)]
  | 0x0F0004 => firstStatus [(t.beatRingOk, .state), (t.claimsFit, .state)]
  | _ => .done

/-- The output range of a node lies in the output area (SPAN_NODE_OUT.OUT_BASE). -/
def State.nodeOutOk (t : State) (a : Nat) : Bool :=
  rangeIn t.variant .output (t.get Reg.SPAN_NODE_OUT_OUT_BASE a) (t.get Reg.SPAN_NODE_OUT_OUT_COUNT a)

/-- The settings of one enabled node at the root (R359). -/
def State.nodeRangesOk (t : State) (a : Nat) : Status :=
  let b := t.get Reg.SPAN_NODE_IN_IN_BASE a
  let n := t.get Reg.SPAN_NODE_IN_IN_COUNT a
  if !t.flag Reg.SPAN_NODE_IN_ENABLE a then .done
  else firstStatus [
    (rangeIn t.variant .input b n && t.clearOfStations b n none && t.clearOfNodes b n (some a), .state),
    (t.nodeOutOk a, .range)]

def checkSpan (s t : State) (a i : Nat) : Status :=
  if a = 0x100000 then
    firstStatus [
      (decide (s.mode = .park) || sameField s t Reg.SPAN_CFG_TOPO && sameField s t Reg.SPAN_CFG_ADDRESS, .state), (t.spanAllFit, .range)]
  else if 0x109000 ≤ a then worstStatus [t.nodeRangesOk i, firstStatus [(!decide (a = 0x109004) || t.nodeOutOk i, .range), (t.spanAllFit, .range)]]
  else .done

def checkSafe (t : State) (a i : Nat) : Status :=
  let cmd := t.get Reg.SAFE_RUN_CMD_PT_ADDR i
  let fb := t.get Reg.SAFE_RUN_FB_PT_ADDR i
  let cmdOk := t.declaredAs 3 cmd && decide (areaOf cmd = .output)
  let fbOk := t.declaredAs 3 fb && decide (areaOf fb = .input)
  match a with
  | 0x110028 => firstStatus [(decide (t.get Reg.SAFE_STIPPLE_CFG_FB_SETTLE < t.get Reg.SAFE_STIPPLE_CFG_PULSE), .range)]
  | 0x119004 => firstStatus [(!t.flag Reg.SAFE_RUN_CFG_ENABLE i || cmdOk && fbOk, .state)]
  | 0x119008 => firstStatus [(cmdOk, .state)]
  | 0x11900C => firstStatus [(fbOk, .state)]
  | _ => .done

/-- The conditions that the blocks state, for one word of a commit: s before the commit, t the state that it would leave. -/
def blockCheck (s t : State) (a i : Nat) : Status :=
  match a / 65536 with
  | 0 => checkSys s t a i
  | 1 => if a = 0x010008 then firstStatus [(decide (t.get Reg.PWR_VIN_CFG_VIN_RST + 100 ≤ t.get Reg.PWR_VIN_CFG_VIN_WARN), .range)] else .done
  | 4 => checkPump s t a
  | 5 => checkForce s t a i
  | 6 => checkQmgr t a i
  | 7 => checkStn s t a i
  | 8 => checkTsu s t a i
  | 10 => checkTrg t a i
  | 11 => checkObs s t a
  | 12 => checkLoop s t a i
  | 13 => checkAlloc s t a i
  | 14 => checkSolv t a i
  | 15 => checkRed s t a
  | 16 => checkSpan s t a i
  | 17 => checkSafe t a i
  | 20 => if a = 0x140000 then firstStatus [(decide (s.mode = .park) || sameField s t Reg.CAP_CFG_CAP_SIZE, .state)] else .done
  | _ => .done

end Sys2Proof.Machine
end

