-- ==== Sys2Proof/Machine/HostWrite.lean ====
section
/-! DEFINITION. Writes (R37, R41 to R47, R49 to R59, R70): registers, windows and points, the transaction, and its application at a
pump boundary. -/

namespace Sys2Proof.Machine

/-! ## The transaction (R50 to R56) -/

/-- The idle limit in ns (R55). -/
def State.txnLimit (s : State) : Nat := s.get Reg.TXN_CFG_TXN_TIMEOUT * 1000000000

/-- An open transaction whose owner has been idle for TXN_TIMEOUT is rolled back (R55). -/
def State.txnExpire (s : State) : State :=
  let h := s.host
  if h.phase = .openTxn ∧ h.lastAccess + s.txnLimit ≤ s.up then
    { s with host := { h with phase := .idle, staged := [], timeoutOwner := some h.owner, result := Status.txnTimeout.code, failPos := 0 } }
  else s

/-- An access of any kind by a path: the owner's idle time starts again (R55). -/
def State.touch (s : State) (p : Path) : State :=
  let t := s.txnExpire
  if t.host.phase ≠ .idle ∧ t.host.owner = p then { t with host := { t.host with lastAccess := t.up } } else t

/-- BEGIN (R50). -/
def State.txnBegin (s : State) (p : Path) : Status × State :=
  if s.host.phase ≠ .idle then (.txnBusy, s)
  else (.done, { s with host := { s.host with phase := .openTxn, owner := p, staged := [], lastAccess := s.up, timeoutOwner := none } })

/-- COMMIT (R53): the transaction is applied at the next boundary at least 10 µs away. -/
def State.txnCommit (s : State) (p : Path) : Status × State :=
  let h := s.host
  if h.phase ≠ .openTxn ∨ h.owner ≠ p then (.state, s)
  else
    let c : Commit := { words := h.staged, oneWrite := false, skip := s.boundarySkip }
    (.done, { s with host := { h with phase := .pendingTxn, commits := h.commits ++ [c] } })

/-- ROLLBACK (R55): RESULT reads STATE. -/
def State.txnRollback (s : State) (p : Path) : Status × State :=
  let h := s.host
  if h.phase ≠ .openTxn ∨ h.owner ≠ p then (.state, s)
  else (.done, { s with host := { h with phase := .idle, staged := [], result := Status.state.code, failPos := 0 } })

/-- A write of TXN_CTL.OP. -/
def State.txnCmd (s : State) (p : Path) (op : Nat) : Status × State :=
  match op with
  | 1 => s.txnBegin p
  | 2 => s.txnCommit p
  | 3 => s.txnRollback p
  | _ => (.done, s)

/-- Replace the staged word of an address, at its place (R51). -/
def restage (l : List Staged) (w : Staged) : List Staged :=
  l.map (fun x => if x.addr = w.addr ∧ x.index = w.index then w else x)

/-- A write to a T field (R50 to R52, R55): staged, or committed at once as a transaction of one write. -/
def State.stage (s : State) (p : Path) (w : Staged) : Status × State :=
  let h := s.host
  if h.timeoutOwner = some p then (.txnTimeout, { s with host := { h with timeoutOwner := none } })
  else if h.phase = .idle then
    (.done, { s with host := { h with commits := h.commits ++ [{ words := [w], oneWrite := true, skip := s.boundarySkip }] } })
  else if h.phase = .pendingTxn ∨ h.owner ≠ p then (.txnBusy, s)
  else if h.staged.any (fun x => decide (x.addr = w.addr ∧ x.index = w.index)) then
    (.done, { s with host := { h with staged := restage h.staged w } })
  else if 1024 ≤ h.staged.length then (.range, s)
  else (.done, { s with host := { h with staged := h.staged ++ [w] } })

/-- TXN_TIMEOUT (R55): the owner's idle limit is reached. -/
def State.txnTimeout (s : State) : State :=
  if s.host.phase = .openTxn then (s.waitUntil (s.host.lastAccess + s.txnLimit)).txnExpire else s

/-! ## Storing a word -/

/-- Store one field of a word; a voted field then has three equal copies (R48). -/
def State.putField (s : State) (f : Fld) (i v : Nat) : State :=
  let t := s.set f (bitsAt v f.lo f.width) i
  if f.voted then t.unite (f.key i) else t

/-- CLR_ALL in the table of a commit: no entry stays valid. -/
def State.dropForces (s : State) : State :=
  s.forceEntries.foldl (fun t e => (t.setFlag Reg.FORCE_ENT_ADDR_VALID false e).setFlag Reg.FORCE_ENT_QUAL_ORPHAN false e) s

/-- Store one staged word: its T fields, but for expert fields of a block at basic level, which stay derived (R58). -/
def State.storeStaged (level : Nat) (s : State) (w : Staged) : State :=
  let v := w.value.toNat
  if w.addr = Reg.FORCE_CMD_CLR_ALL.addr then (if bitAt v 0 then s.dropForces else s)
  else
    match regAt w.addr with
    | none => s
    | some d =>
      ((d.fieldsAt w.addr).filter (fun f => decide (f.acc = .rw) && f.txn
        && ((s.derived f w.index).isNone || bitAt level (w.addr / 65536)))).foldl (fun t f => t.putField f w.index v) s

/-- SYS_LEVEL as a commit leaves it (R54). -/
def State.levelOf (s : State) (ws : List Staged) : Nat :=
  match ws.find? (fun w => decide (w.addr = Reg.SYS_LEVEL_EXPERT.addr)) with
  | some w => w.value.toNat % 2097152
  | none => s.get Reg.SYS_LEVEL_EXPERT

/-! ## Checks -/

/-- Whether the L fields among these that a write would set are locked (R47): all of a register, or where it also has fields that are
not L, those that the write would change. -/
def State.lockHits (s : State) (fs : List Fld) (a i v : Nat) : Bool :=
  let ws := fs.filter (fun f => decide (f.acc ≠ .ro))
  let ls := ws.filter Fld.lock
  bitAt (s.get Reg.SYS_LOCK_LOCK) (a / 65536) && !ls.isEmpty
    && (decide (ls.length = ws.length) || ls.any (fun f => decide (bitsAt v f.lo f.width ≠ s.liveField true f i)))

/-- Whether a write would change an expert field of a basic block from its derived value (R58). -/
def levelHits (level : Nat) (t : State) (fs : List Fld) (a i v : Nat) : Bool :=
  !bitAt level (a / 65536) && fs.any (fun f => match t.derived f i with
    | some d => decide (bitsAt v f.lo f.width ≠ d)
    | none => false)

/-- R54 for one staged word: s before the commit, t the state that it would leave. An expert field is held against the value derived at the
application instant, from the live basic fields. -/
def wordCheck (level : Nat) (s t : State) (w : Staged) : Status :=
  match regAt w.addr with
  | none => .range
  | some d =>
    let fs := (d.fieldsAt w.addr).filter Fld.txn
    let v := w.value.toNat
    if s.lockHits fs w.addr w.index v then .locked
    else if levelHits level s fs w.addr w.index v then .level
    else blockCheck s t w.addr w.index

/-- The first word that fails, with its position. -/
def firstBad (f : Staged → Status) : Nat → List Staged → Option (Status × Nat)
  | _, [] => none
  | k, w :: t => if f w ≠ .done then some (f w, k) else firstBad f (k + 1) t

/-! ## What the application of a commit brings about -/

/-- The words of a commit at force entries. -/
def forceWords (ws : List Staged) : List Nat :=
  ((ws.filter (fun w => decide (0x059000 ≤ w.addr ∧ w.addr ≤ 0x059008))).map Staged.index).eraseDups

/-- The force table changes (R130, R131, R133): points that no entry names any more are left, changed entries go into the proof. -/
def State.hookForces (s : State) (ws : List Staged) (t : State) : State :=
  let clr := ws.any (fun w => decide (w.addr = Reg.FORCE_CMD_CLR_ALL.addr) && bitAt w.value.toNat 0)
  let es := forceWords ws
  if !clr && es.isEmpty then t
  else
    let old := s.forcedPoints.filter (fun p => !t.forcedPoints.contains p)
    let u := old.foldl State.forceLeave t
    let u := es.foldl (fun x e =>
      if x.flag Reg.FORCE_ENT_ADDR_VALID e && decide (s.get Reg.FORCE_ENT_ADDR_POINT e = x.get Reg.FORCE_ENT_ADDR_POINT e) then x
      else x.setFlag Reg.FORCE_ENT_QUAL_ORPHAN false e) u
    let fs := es.foldl (fun (m : Store Unit) e => storePut m e ()) (if clr then [] else u.wlog.forces)
    { u with wlog := { u.wlog with forceClear := u.wlog.forceClear || clr, forces := fs } }

/-- A changed context descriptor (R279, R303). -/
def hookContexts (ws : List Staged) (t : State) : State :=
  (((ws.filter (fun w => decide (0x0D9200 ≤ w.addr ∧ w.addr < 0x0D9260))).map Staged.index).eraseDups).foldl (fun u c => (u.ctxChanged c).forgetWarm c) t

/-- A changed binding of a user hatch (R303, R318). -/
def State.hookSlots (s : State) (ws : List Staged) (t : State) : State :=
  (((ws.filter (fun w => decide (w.addr = 0x0E9000))).map Staged.index).eraseDups).foldl (fun u c =>
    if sameField s u Reg.SOLV_SLOT_CFG_USER_EN c && sameField s u Reg.SOLV_SLOT_CFG_ENTRY c then u
    else (u.rebind c).raiseWith 0x0B09 c) t

/-- A disabled channel: its samples leave the frame (R201). -/
def State.hookChannels (s : State) (ws : List Staged) (t : State) : State :=
  (((ws.filter (fun w => decide (w.addr = 0x0A9000))).map Staged.index).eraseDups).foldl (fun u c =>
    if s.chanOn c && !u.chanOn c then u.setChan c { u.chan c with samples := [] } else u) t

/-- A changed MODE of the redundancy block (R323, R337): a part that joins a group starts as an unsynchronised standby. -/
def State.hookRole (s t : State) : State :=
  if sameField s t Reg.RED_CFG_MODE then t
  else
    let u := { t with red := { t.red with partners := [], admission := .none } }
    if u.grouped then (u.set Reg.RED_STAT_ROLE 1).set Reg.RED_STAT_SYNC_STATE 4 else u.set Reg.RED_STAT_SYNC_STATE 0

/-- The expert fields of a block, with the instances that they have. -/
def expertFields (blk : Nat) : List (Fld × Nat) :=
  match blk with
  | 11 => (List.range 10).map (fun n => (Reg.OBS_PARAM_VALUE.at (n + 2), 0))
  | 12 => (List.range 512).flatMap (fun i => ((List.range 24).filter loopExpert).map (fun n => (Reg.LOOP_COEF_VALUE.at n, i)))
  | 14 => [(Reg.SOLV_CFG_PIVOT_LIMIT, 0), (Reg.SOLV_CFG_PIVOT_EXP, 0)]
  | _ => []

/-- A block's level changes (R59): at expert level its fields start at their derived values, but for those written in the same commit; at basic
level what was written is forgotten. DESIGN CHOICE (log entry 35): the values kept are those derived from the basic fields as the commit
leaves them, where it also writes basic fields. -/
def State.hookLevel (s : State) (ws : List Staged) (t : State) : State :=
  [11, 12, 14].foldl (fun u b =>
    let was := s.expert b
    let is := t.expert b
    if was = is then u
    else if is then
      (expertFields b).foldl (fun x e =>
        if ws.any (fun w => decide (w.addr = e.1.addr ∧ w.index = e.2)) then x
        else match t.derived e.1 e.2 with | some v => x.set e.1 v e.2 | none => x) u
    else (expertFields b).foldl (fun x e => x.set e.1 (e.1.resetOf e.2) e.2) u) t

/-- Everything that a commit brings about beside the stored fields. -/
def State.commitHooks (s : State) (ws : List Staged) (t : State) : State :=
  let u := s.hookLevel ws (s.hookForces ws t)
  let u := s.hookChannels ws (s.hookSlots ws (hookContexts ws u))
  let u := s.hookRole u
  let u := if sameField s u Reg.CAP_CFG_CAP_SIZE then u else u.capClear
  if ws.any (fun w => decide (w.addr = 0x080010)) then u.selectSource else u

/-- The end of a transaction: RESULT and FAIL_POS; FAIL_POS reads 0 for a transaction of one write (R52, R54). -/
def State.txnEnd (s : State) (c : Commit) (st : Status) (pos : Nat) : State :=
  let h := { s.host with result := st.code, failPos := if c.oneWrite then 0 else pos }
  { s with host := if c.oneWrite then h else { h with phase := .idle, staged := [] } }

/-- TXN_APPLY for one transaction (R54): all of its words or none. -/
def State.applyCommit (s : State) (c : Commit) : State :=
  let level := s.levelOf c.words
  let t := c.words.foldl (State.storeStaged level) s
  match firstBad (wordCheck level s t) 0 c.words with
  | some (st, pos) => s.txnEnd c st pos
  | none => (s.commitHooks c.words t).txnEnd c .done 0

/-- TXN_APPLY at a boundary: the transactions due there, in the order in which they were committed (R52, R53). -/
def State.txnApply (s : State) : State :=
  let t := s.txnExpire
  let due := t.host.commits.filter (fun c => decide (c.skip = 0))
  let rest := (t.host.commits.filter (fun c => decide (c.skip ≠ 0))).map (fun c => { c with skip := c.skip - 1 })
  due.foldl State.applyCommit { t with host := { t.host with commits := rest } }

/-! ## Commands (R44, R60) -/

/-- Several bits of one command word: each acts on what the ones before leave; the first refusal answers and nothing changes. -/
def bitCommands (s : State) (l : List (Bool × (State → Status × State))) : Status × State :=
  let r := l.foldl (fun (r : Status × State) e => if e.1 && decide (r.1 = .done) then e.2 r.2 else r) (.done, s)
  if r.1 = .done then r else (r.1, s)

/-- The status of a command, with the state as it was where it is refused. -/
def orElse (s : State) (r : Status × State) : Status × State := if r.1 = .done then r else (r.1, s)

/-- Whether a word is a command register that acts at once. -/
def isCommand (a : Nat) : Bool :=
  [0x000040, 0x000050, 0x000084, 0x010000, 0x030010, 0x040010, 0x040030, 0x07910C, 0x080020, 0x099004, 0x0B0000, 0x0B901C, 0x0E0020,
   0x0F0010, 0x110020, 0x130030, 0x130034, 0x130050, 0x140004].contains a

/-- A write to a command register. -/
def State.command (s : State) (p : Path) (a i v : Nat) : Status × State :=
  match a with
  | 0x000040 => s.txnCmd p (v % 4)
  | 0x000050 => if bitAt v 0 then s.imgSave else (.done, s)
  | 0x000084 => s.mdioStart v
  | 0x010000 => s.pwrCmd (v % 4)
  | 0x030010 => if bitAt v 0 then s.clearHold else (.done, s)
  | 0x040010 => s.restartCmd (v % 4)
  | 0x040030 => s.plateCmd (v % 8)
  | 0x07910C => if bitAt v 0 then s.stnRelease i else (.done, s)
  | 0x080020 => if bitAt v 0 then s.tsuStep else (.done, s)
  | 0x099004 => s.uartSend i (v % 128)
  | 0x0B0000 => bitCommands s [(bitAt v 0, State.originSet), (bitAt v 1, State.obsReinit), (bitAt v 2, State.calSave),
      (bitAt v 3, State.calResetCmd)]
  | 0x0B901C => bitCommands s [(bitAt v 0, fun t => t.chanCalReset i), (bitAt v 1, fun t => t.datumSet i)]
  | 0x0E0020 => s.hatchCmd (v % 8) (bitsAt v 3 5)
  | 0x0F0010 => orElse s (s.redCmd v)
  | 0x110020 => bitCommands s [(bitAt v 0, State.safeTripReset), (bitAt v 1, State.safeDiscReset)]
  | 0x130030 => s.fuseArm (v % 65536)
  | 0x130034 => s.fuseCmd (v % 8) (bitsAt v 3 2)
  | 0x130050 => s.imgCmd (v % 8)
  | 0x140004 => orElse s (s.capCmd v)
  | _ => (.done, s)

/-! ## Registers -/

/-- FREEZE (R427): slots are held from now on, or pending entries merge. -/
def State.freezeSet (s : State) (b : Bool) : State :=
  if s.flag Reg.REC_CTL_FREEZE = b then s
  else if b then ({ s with rcd := { s.rcd with freezeAt := s.up } }).setFlag Reg.REC_CTL_FREEZE true
  else (s.setFlag Reg.REC_CTL_FREEZE false).mergePending

/-- FREEZE_AUTO_CLEAR (R427): 600 s after FREEZE was set. -/
def State.freezeExpire (s : State) : State :=
  if s.flag Reg.REC_CTL_FREEZE then
    ((s.waitUntil (s.rcd.freezeAt + 600000000000)).freezeSet false).setFlag Reg.REC_STAT_THAW_AUTO true
  else s

/-- Posted writes of keeper fields (R49, R414): one at a time for each register. -/
def State.keepWrite (s : State) (a v : Nat) : Status × State :=
  if a = 0x020018 then
    if s.keep.postedCfg.isSome then (.busy, s) else (.done, { s with keep := { s.keep with postedCfg := some (v % 4) } })
  else if s.keep.postedStat.isSome then (.busy, s)
  else if bitAt v 2 && s.keep.caseLevel then (.state, s)
  else (.done, { s with keep := { s.keep with postedStat := some (v % 8) } })

/-- The registers that name a point in bits [19:0]. -/
def namesPoint (a : Nat) : Bool :=
  [0x000070, 0x000074, 0x000078, 0x059000, 0x079104, 0x079108, 0x0A9010, 0x0D9180, 0x109000, 0x109004, 0x119008, 0x11900C].contains a
    || decide (0x0C9004 ≤ a ∧ a < 0x0C901C ∨ 0x0D9040 ≤ a ∧ a < 0x0D904C ∨ 0x0D9104 ≤ a ∧ a < 0x0D910C
      ∨ 0x0D9220 ≤ a ∧ a < 0x0D9260 ∧ a % 8 = 0)

/-- What a block refuses at the write (R4, R133, R196, R239, R279). -/
def State.writeCheck (s : State) (a i v : Nat) : Status :=
  if namesPoint a && !populated s.variant (v % 1048576) then .notPresent
  else if a / 65536 = 5 ∧ a ≠ 0x058000 then (if s.grouped && decide (s.role = 1) then .role else .done)
  else if 0x0D9200 ≤ a ∧ a < 0x0D9260 then (if i = 0 then .range else .done)
  else if 0x099100 ≤ a ∧ a < 0x099150 then (if (storeFind s.ser.busy i).isSome then .busy else .done)
  else if a = 0x0C0000 then (if s.variant = .d2 ∧ bitAt v 0 = true then .notPresent else .done)
  else .done

/-- The fields of a register that is not transactional take a write at once (R46). -/
def State.storeNow (s : State) (fs : List Fld) (i v : Nat) : State :=
  fs.foldl (fun t f =>
    if f.acc = .rw ∧ f.txn = false then t.putField f i v
    else if f.acc = .w1c ∧ bitAt v f.lo = true then t.set f 0 i
    else t) s

/-- A write of a register with T fields: outside a transaction a word that would change an expert field at basic level answers LEVEL and
commits nothing (R37, R58); inside one, LEVEL is judged at the application (R51, R54). -/
def State.writeTxn (s : State) (p : Path) (fs : List Fld) (w : Staged) : Status × State :=
  if decide (s.host.phase = .idle ∧ s.host.timeoutOwner ≠ some p)
      && levelHits (s.get Reg.SYS_LEVEL_EXPERT) s fs w.addr w.index w.value.toNat then (.level, s)
  else s.stage p w

/-- The recorder's control register: its T fields are staged, FREEZE acts at once (R50 to R52, R427). -/
def State.recWrite (s : State) (p : Path) (w : Staged) : Status × State :=
  let r := s.stage p w
  if r.1 = .done then (.done, r.2.freezeSet (bitAt w.value.toNat 0)) else r

/-- A write of the SPI path's WSEL of a block: its reserved bits are ignored (R44, R45). -/
def State.wselWrite (s : State) (fs : List Fld) (blk v : Nat) : State :=
  let sel := fs.foldl (fun n f => n + bitsAt v f.lo f.width * 2 ^ f.lo) 0
  { s with host := { s.host with spiWsel := storePut s.host.spiWsel blk sel } }

/-- A write of a register word that passed the general checks. -/
def State.writePlain (s : State) (p : Path) (fs : List Fld) (a i v : Nat) : Status × State :=
  let w : Staged := { addr := a, index := i, value := BitVec.ofNat 32 v }
  if a = 0x120000 then s.recWrite p w
  else if fs.any Fld.txn then s.writeTxn p fs w
  else if isCommand a then s.command p a i v
  else if a = 0x020010 ∨ a = 0x020018 then s.keepWrite a v
  else if isWsel a ∧ Path.isOmp p = false then (.done, s.wselWrite (fs.filter (fun f => decide (f.acc = .rw))) (a / 65536) v)
  else (.done, s.storeNow fs i v)

/-- The checks of a write (R4, R44 to R47). DESIGN CHOICE (log entry 34): where several refuse one word, the first in this order answers; the
manual gives no order. -/
def State.writeFields (s : State) (p : Path) (fs : List Fld) (a i v : Nat) : Status × State :=
  if fs.all (fun f => decide (f.acc = .ro)) then (.range, s)
  else if s.lockHits fs a i v then (.locked, s)
  else if a = 0x000010 then (.done, s.putField Reg.SYS_LOCK_LOCK 0 (s.get Reg.SYS_LOCK_LOCK ||| v % 2097152))
  else match s.writeCheck a i v with
    | .done => if !(fieldsOk fs v && wordOk s.variant a v) then (.range, s) else s.writePlain p fs a i v
    | st => (st, s)

/-- A write of a register word. -/
def State.writeReg (s : State) (p : Path) (a i v : Nat) : Status × State :=
  match regAt a with
  | none => (.range, s)
  | some d =>
    if !s.variant.has (a / 65536) then (if isCommand a || decide (a / 65536 = 20) then .notPresent else .done, s)
    else match windowStatus s.variant a d.window i with
      | .done => s.writeFields p (d.fieldsAt a) a i v
      | st => (st, s)

/-! ## Windows and points -/

/-- A write of a word of the load windows (R136, R298, R440); the capture window is read-only. -/
def State.writeWindow (s : State) (a : Nat) (v : Word) : Status × State :=
  let w := a % 16777216 / 4
  if a < 0x42000000 then s.plateWindow w v
  else if a < 0x42400000 then (if s.variant.has 14 then s.hatchWindow w v else (.notPresent, s))
  else if 0x44000000 ≤ a ∧ a < 0x44C00000 then s.imgWindow w v
  else (.range, s)

/-- Runs of consecutive addresses in a rising list. -/
def hostRuns (l : Store Unit) : Nat := runsOf (l.map Prod.fst)

/-- The bytes of the host reserve that a cycle's host writes and force changes take (R335). -/
def reserveBytes (l : Store Unit) (forces : Nat) : Nat := 20 * forces + 8 * l.length + 8 * hostRuns l

/-- What a host write of a point is refused for (R69, R70, R335). -/
def State.pointRefusal (s : State) (p type : Nat) : Status :=
  let ty := if (s.point p).type = type then (if reserveBytes (storePut s.wlog.host p ()) s.wlog.forces.length ≤ 65536 then Status.done else .busy)
    else .range
  if !populated s.variant p then .notPresent
  else match areaOf p with
    | .input => .state
    | .device =>
      if devAbsent s.variant (p - 0xE0000) || (devTypeOf (p - 0xE0000)).isNone then .notPresent
      else if isCommandPoint p then ty else .range
    | _ => if s.declared p then ty else .notPresent

/-- A host write of a point record (R70): value and quality byte; flags stay (R64). -/
def State.pointWrite (s : State) (p : Nat) (value : Word) (quality : Byte) (type : Nat) : Status × State :=
  match s.pointRefusal p type with
  | .done =>
    let t := (s.notePoint p).setPoint p { s.point p with value := value, quality := quality, stamp := s.stamp }
    (.done, { t with wlog := { t.wlog with host := storePut t.wlog.host p () } })
  | st => (st, s)

/-! ## One word of a write -/

/-- Whether a path's writes are enabled (SYS_PATH_CTL). -/
def State.pathWrites (s : State) (p : Path) : Bool :=
  if Path.isOmp p then s.flag Reg.SYS_PATH_CTL_MGMT_WR_EN else s.flag Reg.SYS_PATH_CTL_SPI_WR_EN

/-- A write of one word that belongs to no point record: before DONE only SYS, PWR, KEEP, RST and SEC take writes (R384). -/
def State.writeWord (s : State) (p : Path) (a i : Nat) (v : Word) : Status × State :=
  if !s.booted && !State.servedEarly a then (.busy, s)
  else if !s.pathWrites p then (.locked, s)
  else if a < 0x01000000 then s.writeReg p a i v.toNat
  else if 0x41000000 ≤ a then s.writeWindow a v
  else (.range, s)

/-- A write of a whole point record. -/
def State.writePoint (s : State) (p : Path) (pt : Nat) (value : Word) (quality : Byte) (type : Nat) : Status × State :=
  if !s.booted then (.busy, s)
  else if !s.pathWrites p then (.locked, s)
  else s.pointWrite pt value quality type

end Sys2Proof.Machine
end

