-- ==== Sys2Proof/Machine/HostCmd.lean ====
section
/-! DEFINITION. The two access paths (R35 to R43): OMP requests, SPI transfers, and the commands that have a row of their own, which act as the write or
the read of their register over the path they name. -/

namespace Sys2Proof.Machine

/-! ## Paths -/

/-- Whether a path is served: OMP from DONE on while the ports work (R384, R461), SPI from the end of stage ROM while VIO_B is good (R384, R405). -/
def State.pathUp (s : State) (p : Path) : Bool :=
  if Path.isOmp p then s.portsUp && s.booted
  else s.rst.spiServes && s.powered && !s.flag Reg.PWR_STAT_VIO_B_LOW

/-- The status of a write, as the path reports it (R39, R60). -/
def State.answer (s : State) (p : Path) (st : Status) : State :=
  let t := { s with host := { s.host with lastStatus := st } }
  if Path.isOmp p then t else t.set Reg.SYS_SPI_STAT_LAST_STATUS st.code

/-- The status of a read transfer at its end (R39). -/
def State.readEnd (s : State) (st : Status) (pos : Nat) : State :=
  (s.set Reg.SYS_SPI_STAT_READ_STATUS st.code).set Reg.SYS_SPI_STAT_READ_POS pos

/-- The outcome of a read by its own row. -/
def State.answerRead (s : State) (p : Path) (st : Status) (ws : List Nat) : State :=
  let t := { s with host := { s.host with lastStatus := st, lastRead := ws } }
  if Path.isOmp p then t else t.readEnd st 0

/-- A write of one word over a path; nothing happens on a path that is not served. -/
def State.hostWord (s : State) (p : Path) (a i : Nat) (v : Word) : State :=
  if s.pathUp p then
    let t := s.touch p
    let r := if a % 4 = 0 then t.writeWord p a i v else (.range, t)
    r.2.answer p r.1
  else s

/-- A command word that the operands cannot form: RANGE (R44). -/
def State.hostRange (s : State) (p : Path) : State := if s.pathUp p then (s.touch p).answer p .range else s

/-- A command word, where its operand fits its field. -/
def State.hostCmd (s : State) (p : Path) (a i : Nat) (v : Nat) (fits : Bool := true) : State :=
  if fits then s.hostWord p a i (BitVec.ofNat 32 v) else s.hostRange p

/-- A write to a load window. -/
def State.hostWindow (s : State) (p : Path) (lo hi a : Nat) (v : Word) : State :=
  if lo ≤ a ∧ a < hi then s.hostWord p a 0 v else s.hostRange p

/-- A host write of a point record by its own row (R70). -/
def State.hostPoint (s : State) (p : Path) (pt : Nat) (v : Word) (q : Byte) (type : Nat) : State :=
  if s.pathUp p then
    let r := (s.touch p).writePoint p pt v q type
    r.2.answer p r.1
  else s

/-- A read of one word by its own row; a read before DONE of a block that is not served yet gives 0. -/
def State.hostRead (s : State) (p : Path) (a : Nat) : State :=
  if s.pathUp p then
    let r := (s.touch p).readWord (Path.isOmp p) a 0
    r.2.2.answerRead p r.1 [r.2.1]
  else s

/-- A read of an 8-byte unit by its own row (R180, R186). -/
def State.hostUnit (s : State) (p : Path) (a i : Nat) : State :=
  if s.pathUp p then
    let t := s.touch p
    if t.booted then
      let r := t.readUnit a i
      r.2.2.2.answerRead p r.1 [r.2.1, r.2.2.1]
    else t.answerRead p .done [0, 0]
  else s

/-! ## OMP (R36 to R38, R155) -/

/-- The frame that carries a request, as classification sees it. -/
def State.ompFrame (s : State) (r : OmpRequest) : EthFrame :=
  { port := r.port, len := max 64 (r.bytes + 46), dmac := BitVec.ofNat 48 (s.portMac r.port), smac := r.srcMac, tags := 0,
    etype := 0x0800, fcsOk := true, stamp := s.now,
    ip := some { dst := r.dstIp, src := r.srcIp, dstPort := r.dstPort, srcPort := r.srcPort, fragmented := false, udp := true } }

/-- A rule delivers the request to an enabled receive queue of the management consumer (R36, R152). -/
def State.ompQueue (s : State) (r : OmpRequest) : Bool :=
  match s.classify (s.ompFrame r) with
  | none => false
  | some i =>
    let q := s.get Reg.QMGR_RULE_CTL_QUEUE i
    s.flag Reg.QMGR_Q_CFG_ENABLE q && decide (s.get Reg.QMGR_Q_CFG_CONSUMER q = 4 ∧ s.get Reg.QMGR_Q_CFG_DIR q = 0)

/-- The request reaches the management consumer and is well formed (R36, R154, R155). -/
def State.ompTaken (s : State) (r : OmpRequest) (write : Bool) : Bool :=
  s.pathUp (.omp r.srcIp r.srcPort) && !s.ringPort r.port && s.ompQueue r
    && decide (s.portIp r.port ≠ 0 ∧ r.dstIp.toNat = s.portIp r.port ∧ r.dstPort.toNat = s.get Reg.SYS_PATH_CTL_MGMT_PORT)
    && decide (r.magic = 0x4D4F ∧ r.version = 1 ∧ 1 ≤ r.count ∧ r.count ≤ 255)
    && (if write then decide (r.bytes = 16 + 4 * r.count ∧ r.data.length = r.count) else decide (r.bytes = 16))

/-- The kept response of a request that repeats a key (R38). -/
def State.ompKept (s : State) (r : OmpRequest) : Option OmpResponse :=
  s.host.responses.find? (fun x => decide (x.srcIp = r.srcIp ∧ x.srcPort = r.srcPort ∧ x.seq = r.seq))

/-- Send a response from the port's address to the requester's addresses, as one datagram of the management consumer (R36, R154). Its FRAME_ID is
free (log entry 6). -/
def State.ompSend (s : State) (x : OmpResponse) : State :=
  let d := s.draw 16
  let t := { d.2 with host := { d.2.host with lastResponse := some x } }
  t.transmit 4 { port := x.port, len := max 64 (62 + 4 * x.data.length), frameId := d.1, tsReq := false,
                 head := t.ipTo x.port x.dstMac.toNat x.srcIp.toNat }

/-- The header of a response, and its words (R36). -/
def OmpResponse.bytes (x : OmpResponse) : List Nat :=
  leBytes 2 0x4D4F ++ [0x01, if x.write then 0x82 else 0x81] ++ leBytes 2 x.seq.toNat ++ [x.status.code, x.count] ++ leBytes 4 x.addr.toNat
    ++ leBytes 2 x.index ++ leBytes 2 x.fail ++ x.data.flatMap (fun w => leBytes 4 w.toNat)

/-- Send a response and keep it (R38). -/
def State.respond (s : State) (r : OmpRequest) (write : Bool) (st : Status) (fail : Nat) (data : List Word) : State :=
  let x : OmpResponse := { srcIp := r.srcIp, srcPort := r.srcPort, seq := r.seq, port := r.port, dstMac := r.srcMac, fromIp := s.portIp r.port,
                           fromPort := s.get Reg.SYS_PATH_CTL_MGMT_PORT, count := r.count, addr := r.addr, index := r.index,
                           write := write, status := st, fail := fail, data := data }
  ({ s with host := { s.host with responses := (x :: s.host.responses).take 16 } }).ompSend x

/-- OMP_READ (R37): all words, the status of the first that failed and its position. -/
def State.ompReadRun (s : State) (r : OmpRequest) : State :=
  let t := s.touch (.omp r.srcIp r.srcPort)
  if r.addr.toNat % 4 ≠ 0 then t.respond r false .range 0 (List.replicate r.count 0)
  else
    let x := t.readWords true r.addr.toNat r.index r.count
    let f := (firstFail x.1 0).getD (.done, 0)
    x.2.respond r false f.1 f.2 (x.1.map (fun e => BitVec.ofNat 32 (if e.1 = .done then e.2 else 0)))

/-- The words of a write, one after the other, up to the first that fails: its status and position (R37); point records whole (R43). -/
def State.ompWords (s : State) (p : Path) (a i k : Nat) : List Word → (Status × Nat) × State
  | [] => ((.done, 0), s)
  | [w] =>
    let r := s.writeWord p a i w
    ((r.1, if r.1 = .done then 0 else k), r.2)
  | w :: v :: t =>
    if 0x40000000 ≤ a ∧ a < 0x40800000 ∧ a % 8 = 0 then
      let r := s.writePoint p ((a - 0x40000000) / 8) w (BitVec.ofNat 8 v.toNat) (v.toNat / 256 % 16)
      if r.1 = .done then State.ompWords r.2 p (a + 8) i (k + 2) t else ((r.1, k), r.2)
    else
      let r := s.writeWord p a i w
      if r.1 = .done then State.ompWords r.2 p (a + 4) i (k + 1) (v :: t) else ((r.1, k), r.2)

/-- What a refused request leaves: nothing written; a TXN_TIMEOUT answer is used up (R37, R55). A request of one word leaves what the refused
command reports of itself. -/
def State.ompRefused (s : State) (st : Status) (words : Nat) (after : State) : State :=
  if words = 1 then after
  else if st = .txnTimeout then { s with host := { s.host with timeoutOwner := none } } else s

/-- OMP_WRITE (R37): applied entirely or not at all. -/
def State.ompWriteRun (s : State) (r : OmpRequest) : State :=
  let p := Path.omp r.srcIp r.srcPort
  let t := s.touch p
  if r.addr.toNat % 4 ≠ 0 then t.respond r true .range 0 []
  else
    let x := t.ompWords p r.addr.toNat r.index 0 r.data
    let u := if x.1.1 = .done then x.2 else t.ompRefused x.1.1 r.data.length x.2
    u.respond r true x.1.1 x.1.2 []

/-- A request that is not served: on a ring port, or where no rule delivers it to the management consumer, it is a frame like any other
(R149 to R152, R157); one that reached the consumer is discarded (R36, R155). -/
def State.ompDiscard (s : State) (r : OmpRequest) : State :=
  let t := { s with host := { s.host with lastResponse := none } }
  if !s.ringPort r.port && s.ompQueue r then t else t.frameReceive (s.ompFrame r)

/-- An OMP request: discarded, answered from the kept responses, or served (R36, R38). DESIGN CHOICE (log entry 36): an answer from the kept
responses is no access of a transaction's owner (R55). -/
def State.ompServe (s : State) (r : OmpRequest) (write : Bool) (run : State → State) : State :=
  if !s.ompTaken r write then s.ompDiscard r
  else match s.ompKept r with
    | some x => s.ompSend x
    | none => run s

/-! ## SPI (R39, R43) -/

/-- Chip select rises: the status of a read transfer, an incomplete point record (R39, R43). -/
def State.spiEnd (s : State) : State :=
  let h := s.host
  let t := { s with host := { h with spi := .none, spiAddr := 0, spiOut := [], spiFail := none, spiPos := 0, spiStatOnly := true, spiHeld := none } }
  match h.spi with
  | .read => if h.spiStatOnly then t else let f := h.spiFail.getD (.done, 0); t.readEnd f.1 f.2
  | .write => if h.spiHeld.isSome then t.set Reg.SYS_SPI_STAT_LAST_STATUS Status.range.code else t
  | _ => t

/-- A transfer starts: one still in progress has ended. -/
def State.spiStart (s : State) (c : SpiCmd) (a : Word) : State :=
  let t := (s.touch .spi).spiEnd
  { t with host := { t.host with spi := c, spiAddr := a, spiSdo := [] } }

/-- The bytes that the part drives (R39). -/
def State.driveSdo (s : State) (l : List Byte) : State := { s with host := { s.host with spiSdo := l } }

/-- The bytes of a word, least significant first (R12). -/
def wordBytes (w : Word) : List Byte := (List.range 4).map (fun k => BitVec.ofNat 8 (w.toNat / 256 ^ k))

/-- What a read drives: 0xFF until the first word is there, at most 31 bytes, the ready token 0xA5, the words (R39). How many bytes of 0xFF
is free (log entry 6). -/
def State.driveRead (s : State) (ws : List Word) : State :=
  let d := s.draw 5
  d.2.driveSdo (List.replicate d.1 0xFF#8 ++ 0xA5#8 :: ws.flatMap wordBytes)

/-- SPI_READ: consecutive words; of an address that is not a multiple of 4 every word is 0 and RANGE (R39). -/
def State.spiReadRun (s : State) (a : Word) (n : Nat) : State :=
  let t := s.spiStart .read a
  let r := if a.toNat % 4 = 0 then t.readWords false a.toNat 0 n else (List.replicate n (.range, 0), t)
  let out := r.1.map (fun e => BitVec.ofNat 32 (if e.1 = .done then e.2 else 0))
  let h := r.2.host
  let t := { r.2 with host := { h with spiOut := out, spiFail := firstFail r.1 0, spiPos := n, spiStatOnly := decide (a.toNat = 0x000024 ∧ n = 1) } }
  t.driveRead out

/-- The words of a write transfer; each reports its status, a record once both its words are there (R39, R43). -/
def State.spiWords (s : State) (a : Nat) : List Word → State
  | [] => s
  | [w] =>
    if 0x40000000 ≤ a ∧ a < 0x40800000 ∧ a % 8 = 0 then
      { s with host := { s.host with spiHeld := some (BitVec.ofNat 20 ((a - 0x40000000) / 8), w) } }
    else let r := s.writeWord .spi a (s.spiSel (a / 65536)) w; r.2.answer .spi r.1
  | w :: v :: t =>
    if 0x40000000 ≤ a ∧ a < 0x40800000 ∧ a % 8 = 0 then
      let r := s.writePoint .spi ((a - 0x40000000) / 8) w (BitVec.ofNat 8 v.toNat) (v.toNat / 256 % 16)
      State.spiWords (r.2.answer .spi r.1) (a + 8) t
    else
      let r := s.writeWord .spi a (s.spiSel (a / 65536)) w
      State.spiWords (r.2.answer .spi r.1) (a + 4) (v :: t)

/-- SPI_WRITE. -/
def State.spiWriteRun (s : State) (a : Word) (ws : List Word) : State :=
  let t := (s.spiStart .write a).driveSdo (List.replicate (5 + 4 * ws.length) 0xFF#8)
  if a.toNat % 4 = 0 then t.spiWords a.toNat ws
  else if ws.isEmpty then t else t.answer .spi .range

/-! ## The commands -/

def execOmpRead (r : OmpRequest) (s : State) : Host.Outcome State Fault Refusal := .next (s.ompServe r false (fun t => t.ompReadRun r))
def execOmpWrite (r : OmpRequest) (s : State) : Host.Outcome State Fault Refusal := .next (s.ompServe r true (fun t => t.ompWriteRun r))
def execSpiRead (addr : Word) (words : Nat) (s : State) : Host.Outcome State Fault Refusal :=
  .next (if s.pathUp .spi then s.spiReadRun addr words else s)
def execSpiWrite (addr : Word) (words : List Word) (s : State) : Host.Outcome State Fault Refusal :=
  .next (if s.pathUp .spi then s.spiWriteRun addr words else s)
def execSpiUnknownCommand (_cmd : Byte) (s : State) : Host.Outcome State Fault Refusal :=
  .next (if s.pathUp .spi then (s.spiStart .unknown 0).driveSdo [0xFF#8] else s)
def execSpiCsHigh (s : State) : Host.Outcome State Fault Refusal := .next s.spiEnd
def execRegisterWrite (path : Path) (addr index : Nat) (value : Word) (s : State) : Host.Outcome State Fault Refusal :=
  .next (s.hostWord path addr index value)
def execPointWrite (path : Path) (p : PointAddr) (value : Word) (quality : Byte) (type : Nat) (s : State) : Host.Outcome State Fault Refusal :=
  .next (s.hostPoint path p.toNat value quality type)
def execSysLockWrite (path : Path) (value : Word) (s : State) : Host.Outcome State Fault Refusal := .next (s.hostWord path 0x000010 0 value)
def execTxnBegin (path : Path) (s : State) : Host.Outcome State Fault Refusal := .next (s.hostCmd path 0x000040 0 1)
def execTxnCommit (path : Path) (s : State) : Host.Outcome State Fault Refusal := .next (s.hostCmd path 0x000040 0 2)
def execTxnRollback (path : Path) (s : State) : Host.Outcome State Fault Refusal := .next (s.hostCmd path 0x000040 0 3)
def execTxnTimeout (s : State) : Host.Outcome State Fault Refusal := .next s.txnTimeout
def execImgSave (path : Path) (s : State) : Host.Outcome State Fault Refusal := .next (s.hostCmd path 0x000050 0 1)
def execTsqRead (path : Path) (port : Nat) (s : State) : Host.Outcome State Fault Refusal := .next (s.hostUnit path 0x089010 port)
def execTsuTimeLoRead (path : Path) (s : State) : Host.Outcome State Fault Refusal := .next (s.hostRead path 0x080000)
def execKeepTickLoRead (path : Path) (s : State) : Host.Outcome State Fault Refusal := .next (s.hostRead path 0x020000)
def execDinEdgeRead (path : Path) (din : Nat) (s : State) : Host.Outcome State Fault Refusal := .next (s.hostUnit path 0x089030 din)
def execRngRead (path : Path) (s : State) : Host.Outcome State Fault Refusal := .next (s.hostRead path 0x130040)
def execWarmRestart (path : Path) (s : State) : Host.Outcome State Fault Refusal := .next (s.hostCmd path 0x040010 0 1)
def execColdRestart (path : Path) (s : State) : Host.Outcome State Fault Refusal := .next (s.hostCmd path 0x040010 0 2)
def execPlateLoad (path : Path) (s : State) : Host.Outcome State Fault Refusal := .next (s.hostCmd path 0x040030 0 1)
def execPlateVerify (path : Path) (s : State) : Host.Outcome State Fault Refusal := .next (s.hostCmd path 0x040030 0 2)
def execPlateArm (path : Path) (s : State) : Host.Outcome State Fault Refusal := .next (s.hostCmd path 0x040030 0 3)
def execPlateRevert (path : Path) (s : State) : Host.Outcome State Fault Refusal := .next (s.hostCmd path 0x040030 0 4)
def execPlateCommit (path : Path) (s : State) : Host.Outcome State Fault Refusal := .next (s.hostCmd path 0x040030 0 5)
def execPlateAbort (path : Path) (s : State) : Host.Outcome State Fault Refusal := .next (s.hostCmd path 0x040030 0 6)
def execPlateInstall (path : Path) (s : State) : Host.Outcome State Fault Refusal := .next (s.hostCmd path 0x040030 0 7)
def execPlateLoadWindowWrite (path : Path) (addr : Nat) (value : Word) (s : State) : Host.Outcome State Fault Refusal :=
  .next (s.hostWindow path 0x41000000 0x42000000 addr value)
def execForceClrAll (path : Path) (s : State) : Host.Outcome State Fault Refusal := .next (s.hostCmd path 0x050000 0 1)
def execStnRelease (path : Path) (station : Nat) (s : State) : Host.Outcome State Fault Refusal := .next (s.hostCmd path 0x07910C station 1)
def execTsuStep (path : Path) (s : State) : Host.Outcome State Fault Refusal := .next (s.hostCmd path 0x080020 0 1)
def execUartTxSend (path : Path) (uart len : Nat) (s : State) : Host.Outcome State Fault Refusal :=
  .next (s.hostCmd path 0x099004 uart len (decide (len < 128)))
def execOriginSet (path : Path) (s : State) : Host.Outcome State Fault Refusal := .next (s.hostCmd path 0x0B0000 0 1)
def execObsReinit (path : Path) (s : State) : Host.Outcome State Fault Refusal := .next (s.hostCmd path 0x0B0000 0 2)
def execCalSave (path : Path) (s : State) : Host.Outcome State Fault Refusal := .next (s.hostCmd path 0x0B0000 0 4)
def execCalReset (path : Path) (s : State) : Host.Outcome State Fault Refusal := .next (s.hostCmd path 0x0B0000 0 8)
def execChanCalReset (path : Path) (chan : Nat) (s : State) : Host.Outcome State Fault Refusal := .next (s.hostCmd path 0x0B901C chan 1)
def execDatumSet (path : Path) (chan : Nat) (s : State) : Host.Outcome State Fault Refusal := .next (s.hostCmd path 0x0B901C chan 2)
def execHatchLoad (path : Path) (entry : Nat) (s : State) : Host.Outcome State Fault Refusal :=
  .next (s.hostCmd path 0x0E0020 0 (1 + 8 * entry) (decide (entry < 32)))
def execHatchVerify (path : Path) (entry : Nat) (s : State) : Host.Outcome State Fault Refusal :=
  .next (s.hostCmd path 0x0E0020 0 (2 + 8 * entry) (decide (entry < 32)))
def execHatchStore (path : Path) (entry : Nat) (s : State) : Host.Outcome State Fault Refusal :=
  .next (s.hostCmd path 0x0E0020 0 (3 + 8 * entry) (decide (entry < 32)))
def execHatchErase (path : Path) (entry : Nat) (s : State) : Host.Outcome State Fault Refusal :=
  .next (s.hostCmd path 0x0E0020 0 (4 + 8 * entry) (decide (entry < 32)))
def execHatchAbort (path : Path) (entry : Nat) (s : State) : Host.Outcome State Fault Refusal :=
  .next (s.hostCmd path 0x0E0020 0 (5 + 8 * entry) (decide (entry < 32)))
def execHatchLoadWindowWrite (path : Path) (addr : Nat) (value : Word) (s : State) : Host.Outcome State Fault Refusal :=
  .next (s.hostWindow path 0x42000000 0x42400000 addr value)
def execRedRelease (path : Path) (s : State) : Host.Outcome State Fault Refusal := .next (s.hostCmd path 0x0F0010 0 1)
def execRedJoin (path : Path) (s : State) : Host.Outcome State Fault Refusal := .next (s.hostCmd path 0x0F0010 0 2)
def execRedProofTest (path : Path) (s : State) : Host.Outcome State Fault Refusal := .next (s.hostCmd path 0x0F0010 0 4)
def execRedIsolate (path : Path) (s : State) : Host.Outcome State Fault Refusal := .next (s.hostCmd path 0x0F0010 0 8)
def execSafeTripReset (path : Path) (s : State) : Host.Outcome State Fault Refusal := .next (s.hostCmd path 0x110020 0 1)
def execSafeDiscReset (path : Path) (s : State) : Host.Outcome State Fault Refusal := .next (s.hostCmd path 0x110020 0 2)
def execClrHold (path : Path) (s : State) : Host.Outcome State Fault Refusal := .next (s.hostCmd path 0x030010 0 1)
def execPwrRun (path : Path) (s : State) : Host.Outcome State Fault Refusal := .next (s.hostCmd path 0x010000 0 1)
def execPwrPark (path : Path) (s : State) : Host.Outcome State Fault Refusal := .next (s.hostCmd path 0x010000 0 2)
def execPwrSleep (path : Path) (s : State) : Host.Outcome State Fault Refusal := .next (s.hostCmd path 0x010000 0 3)
def execRecordWrite (code : Nat) (s : State) : Host.Outcome State Fault Refusal := .next (s.writeRecord code)
def execRecFreezeSet (path : Path) (freeze : Bool) (s : State) : Host.Outcome State Fault Refusal :=
  .next (s.hostCmd path 0x120000 0 (s.liveWord true [Reg.REC_CTL_RATE, Reg.REC_CTL_BURST, Reg.REC_CTL_INTERVAL] 0 + b2n freeze))
def execFreezeAutoClear (s : State) : Host.Outcome State Fault Refusal := .next s.freezeExpire
def execCapStart (path : Path) (s : State) : Host.Outcome State Fault Refusal := .next (s.hostCmd path 0x140004 0 1)
def execCapStop (path : Path) (s : State) : Host.Outcome State Fault Refusal := .next (s.hostCmd path 0x140004 0 2)
def execCapReplay (path : Path) (freeSlot : Bool) (s : State) : Host.Outcome State Fault Refusal :=
  .next (s.hostCmd path 0x140004 0 (4 + 16 * b2n freeSlot))
def execCapReplayEnd (path : Path) (s : State) : Host.Outcome State Fault Refusal := .next (s.hostCmd path 0x140004 0 8)
def execSecFuseArm (path : Path) (code : BitVec 16) (s : State) : Host.Outcome State Fault Refusal :=
  .next (s.hostCmd path 0x130030 0 code.toNat)
def execProgramSlot (path : Path) (slot : Nat) (s : State) : Host.Outcome State Fault Refusal :=
  .next (s.hostCmd path 0x130034 0 (1 + 8 * slot) (decide (slot < 4)))
def execRevokeSlot (path : Path) (slot : Nat) (s : State) : Host.Outcome State Fault Refusal :=
  .next (s.hostCmd path 0x130034 0 (2 + 8 * slot) (decide (slot < 4)))
def execAdvanceRollback (path : Path) (s : State) : Host.Outcome State Fault Refusal := .next (s.hostCmd path 0x130034 0 3)
def execDbgOff (path : Path) (s : State) : Host.Outcome State Fault Refusal := .next (s.hostCmd path 0x130034 0 4)
def execImgLoad (path : Path) (s : State) : Host.Outcome State Fault Refusal := .next (s.hostCmd path 0x130050 0 1)
def execImgVerify (path : Path) (s : State) : Host.Outcome State Fault Refusal := .next (s.hostCmd path 0x130050 0 2)
def execImgActivate (path : Path) (s : State) : Host.Outcome State Fault Refusal := .next (s.hostCmd path 0x130050 0 3)
def execImgAbort (path : Path) (s : State) : Host.Outcome State Fault Refusal := .next (s.hostCmd path 0x130050 0 4)
def execImgLoadWindowWrite (path : Path) (addr : Nat) (value : Word) (s : State) : Host.Outcome State Fault Refusal :=
  .next (s.hostWindow path 0x44000000 0x44C00000 addr value)
def execMdioFrame (path : Path) (value : Word) (s : State) : Host.Outcome State Fault Refusal := .next (s.hostWord path 0x000084 0 value)

end Sys2Proof.Machine
end

