-- ==== Sys2Proof/Machine/Cycle.lean ====
section
/-! DEFINITION. The pump cycle (R15 to R22, R80 to R85, R91, R388, R389, R482): the boundary, the close of the input window, the tasks, the
output reserve instant, and the rows that carry a waiting close on. -/

namespace Sys2Proof.Machine

/-! ## Tasks (R74, R79, R80, R21) -/

/-- The running plate has this task. -/
def State.hasTask (s : State) (t : Task) : Bool :=
  match t with
  | .fast => s.runPlate.isSome | .hold => s.runPlate.any PlateDesc.hasHold | .slow => s.runPlate.any PlateDesc.hasSlow

/-- FIRST_SCAN before a task starts or resumes (R74): the bit of a suspended first SLOW scan stands. -/
def State.firstScan (s : State) (t : Task) : Nat :=
  let slow := s.pump.slowOpen && bitAt (s.point 0xE6303).value.toNat 2
  match t with
  | .fast => b2n s.pump.firstFast + 4 * b2n slow
  | .hold => 2 * b2n s.pump.firstHold + 4 * b2n slow
  | .slow => 4 * b2n (if s.pump.slowOpen then slow else s.pump.firstSlow)

/-- The first scan of a task has been marked. -/
def PumpState.marked (p : PumpState) (t : Task) : PumpState :=
  match t with
  | .fast => { p with firstFast := false } | .hold => { p with firstHold := false } | .slow => { p with firstSlow := false }

/-- Let a task run from now on. -/
def State.runTask (s : State) (t : Task) : State :=
  let u := s.putGood 0xE6303 (s.firstScan t)
  { u with pump := { u.pump.marked t with running := some t, taskStart := u.now, taskCost := 0, scanCost := 0 } }

/-- A scan starts at its entry block with accumulators, flags and stacks clear (R79). -/
def State.startTask (s : State) (t : Task) : State := (s.setProc t (Task.entry t)).runTask t

/-- SLOW in the leftover time (R21, R80): a suspended scan resumes, else a scan starts, at most one in a cycle. -/
def State.slowTurn (s : State) : State :=
  if s.pump.slowOpen then s.runTask .slow
  else if s.hasTask .slow && !s.pump.slowStarted then
    let t := s.startTask .slow
    { t with pump := { t.pump with slowOpen := true, slowStarted := true, slowSpan := 1 } }
  else s

/-- The triggers are evaluated in RUN (R282): not in PARK, restart cycles or REPLAY. -/
def State.triggers (s : State) : State := if s.mode = .run then s.evalTriggers else s

/-- FAST, and HOLD in a hold cycle, have ended: the triggers are evaluated, and SLOW follows (R17 step 5, R21). -/
def State.tasksDone (s : State) : State :=
  (({ s with pump := { s.pump with tasksEnd := some s.now } }).triggers).slowTurn

/-- The scan of a task ends without a fault (R80, R113). -/
def State.scanEnd (s : State) (t : Task) : State :=
  let u := s.measured t
  let u := { u with pump := { u.pump with running := none } }
  match t with
  | .fast => if u.isHold && u.hasTask .hold then u.startTask .hold else u.tasksDone
  | .hold => u.tasksDone
  | .slow => { u with pump := { u.pump with slowOpen := false, slowStarted := true, slowScanCyc := some u.pump.slowSpan } }

/-- A RET that is taken pops the return point; at call level 0 it is not a pop (R113). -/
def retFlow (c : BitVec 5) (p : Proc) (s : State) : Flow :=
  match p.cond c with
  | none => .illegal
  | some false => .cont p s
  | some true =>
    match p.calls with
    | [] => .cont p s
    | (b, o) :: rest => .cont { p with calls := rest, block := b, offset := o } s

/-- Whether a RET executes now and ends the scan of the running task. -/
def State.retEnds (s : State) (c : BitVec 5) : Option Task :=
  s.pump.running.filter (fun t => s.inBlock (s.proc t) 1 && s.fits t 3 && decide ((s.proc t).cond c = some true) && (s.proc t).calls.isEmpty)

/-- RET (R113): taken at call level 0 it ends the scan. -/
def State.opRet (s : State) (c : BitVec 5) : State :=
  let u := s.runInstr 1 3 (retFlow c)
  match s.retEnds c with
  | some t => u.scanEnd t
  | none => u

/-! ## The close of the input window (R17 steps 2 to 4, R166, R331, R455) -/

/-- A DIN or GPIO word is written to its input point; without the supply of bank A it is not available (R455). -/
def State.levelWord (s : State) (on : Bool) (p v : Nat) : State :=
  if !on then s else if s.flag Reg.PWR_STAT_VIO_A_LOW then s.lose p else s.deliver p (BitVec.ofNat 32 v) (qual 0)

/-- The levels of 32 discrete inputs from DIN_k on. -/
def State.dinWord (s : State) (k : Nat) : Nat := ofBits ((List.range 32).map (fun i => s.dinLevel (k + i)))

/-- DIN and GPIO levels at the close: every GPIO ball, outputs included. -/
def State.levelInputs (s : State) (gpio : Word) : State :=
  let t := { s with time := { s.time with gpio := gpio } }
  let en := t.flag Reg.SYS_DIN_CFG_DIN_EN
  let b := t.get Reg.SYS_DIN_CFG_DIN_BASE
  ((t.levelWord en b (t.dinWord 0)).levelWord en (b + 1) (t.dinWord 32)).levelWord (t.flag Reg.SYS_GPIO_IN_GPIO_IN_EN)
    (t.get Reg.SYS_GPIO_IN_GPIO_IN_PT) gpio.toNat

/-- Step 2: the window closes, and what it brought is written; with it what the redundancy block does at a close. -/
def State.closeInputs (s : State) (gpio : Word) : State :=
  let t := if s.mode = .replay then s.replayInputs else s
  let t := { t with phase := .tasks }
  let t := (((t.closeStations).sensorInputs).levelInputs gpio).closeSpan
  ((t.capInputs).redClose).lockstepTake

/-- CYCLE_LO, CYCLE_HI, HOLD_PHASE and START_KIND (R74, R482). -/
def State.cyclePoints (s : State) : State :=
  s.putAll [(0xE6300, s.n), (0xE6301, s.n / 4294967296), (0xE6302, s.n % s.kHold), (0xE6304, s.pump.startKind)]

/-- Tasks run and an image is frozen in the present cycle (R91, R337, R407). -/
def State.taskCycle (s : State) : Bool := s.tasksRun && !s.red.noTasks

/-- Slow-corner cost of applying the input forces (R86: 10.24 µs for 4,096). -/
def State.forceNs (s : State) : Nat :=
  (s.forceEntries.filter (fun e => decide (areaOf (s.get Reg.FORCE_ENT_ADDR_POINT e) = .input))).length * 5 / 2

/-- The loop engine takes its snapshot and evaluates the loops that are due, in parallel with FAST (R19, R20, R241); FAST starts after the
snapshot. DESIGN CHOICE (log entry 38): the snapshot takes exactly 8 µs and an evaluation exactly 0.25 µs, divided by the pace, where the manual
bounds them. -/
def State.stepFour (s : State) : State :=
  let due := s.dueLoops
  let t := due.foldl State.evalOrdinary s
  let p := { t.pump with loopsDue := due.length, loopEnd := t.now + t.paced (8000 + 250 * due.length), tasksEnd := none, faulted := false,
                         slowStarted := false }
  (({ t with pump := p }).advance (t.paced 8000)).startTask .fast

/-- Steps 3 and 4: input forces, runaway monitors, a swap or revert that is due, the cycle points, and in a cycle with tasks the snapshot and
FAST. -/
def State.closeTasks (s : State) : State :=
  let t := ((s.forceApply .input).runChecks).advance (if s.mode = .replay then 0 else s.paced s.forceNs)
  let t := ((t.swapDue).revertDue).cyclePoints
  let t := if t.taskCycle then t.stepFour else t
  s.holdStatus t

/-- INPUT_WINDOW_CLOSE (R166): at the limit, or at once when every station and node has delivered. A standby that expects a proof goes on when
it is applied or missed (R331). -/
def State.windowClose (s : State) (gpio : Word) : State :=
  if !s.windowOpen then s
  else
    let t := if s.allIn then s else s.advanceTo s.windowLimit
    let u := t.holdStatus (t.closeInputs gpio)
    if !u.proofExpected then u.closeTasks
    else match u.proofReady with
      | some r => (u.applyProof r).closeTasks
      | none => { u with red := { u.red with waiting := true } }

/-- PLATE_SWAP (R139): in cycle s, after step 3; the row brings the close of the input window, which carries the swap out. -/
def State.plateSwap (s : State) : State :=
  if s.windowOpen && decide (s.plate.swapAt = some s.n) then s.windowClose s.time.gpio else s

/-- PLATE_REVERT_APPLY (R141), at the same place in cycle c + 2. -/
def State.plateRevertApply (s : State) : State :=
  if s.windowOpen && decide (s.plate.revertAt = some s.n) then s.windowClose s.time.gpio else s

def execPlateSwap (s : State) : Host.Outcome State Fault Refusal := .next s.plateSwap
def execPlateRevertApply (s : State) : Host.Outcome State Fault Refusal := .next s.plateRevertApply

/-- The close waits for a proof. -/
def State.closeWaits (s : State) : Bool := s.running && s.red.waiting && decide (s.phase = .tasks)

/-- PROOF_APPLY (R331): the complete proof is applied, and the cycle goes on with step 3. -/
def State.proofApply (s : State) : State :=
  if s.closeWaits then
    match s.proofReady with
    | some r => (s.applyProof r).closeTasks
    | none => s
  else s

/-- PROOF_MISS (R333): the proof is incomplete at t_p(k+1) + INPUT_WIN. -/
def State.proofMissed (s : State) : State :=
  if s.closeWaits && s.proofReady.isNone then ((s.advanceTo (s.bnd + s.inputWin)).missProof).closeTasks else s

/-- A close that still waits when the cycle goes on. -/
def State.proofSettle (s : State) : State := (s.proofApply).proofMissed

/-! ## The output reserve instant (R17 step 6, R22, R82 to R85, R482) -/

/-- FAST or HOLD has not ended (R84). -/
def State.tasksCut (s : State) : Bool := s.pump.tasksEnd.isNone && !s.pump.faulted

/-- The loop engine has not finished (R20). -/
def State.loopsCut (s : State) : Bool := decide (s.reserveAt < s.pump.loopEnd)

/-- The cycle is an overrun (R84). -/
def State.overran (s : State) : Bool := s.tasksCut || s.loopsCut || s.pump.faulted

/-- Slow-corner work that the cut tasks had still to do, by their proven WCETs, in ns. -/
def State.taskDeficit (s : State) : Nat :=
  let wf := (s.runPlate.map PlateDesc.wcetFast).getD 0
  let wh := (s.runPlate.map PlateDesc.wcetHold).getD 0
  if !s.tasksCut then 0
  else if s.pump.running = some .hold then wh - s.pump.scanCost
  else wf - s.pump.scanCost + (if s.isHold && s.hasTask .hold then wh else 0)

/-- 0.25 µs for each evaluation not completed, in ns. -/
def State.loopDeficit (s : State) : Nat :=
  let left := (s.pump.loopEnd - s.reserveAt) * s.pace
  250 * min s.pump.loopsDue ((left + 24999) / 25000)

/-- The slack deficit that an overrun records: whole µs, rounded up. -/
def State.deficit (s : State) : Nat := (max s.taskDeficit s.loopDeficit + 999) / 1000

/-- The slack of the cycle in ns (R82). -/
def State.slack (s : State) : Nat := s.reserveAt - max (s.pump.tasksEnd.getD s.now) s.pump.loopEnd

/-- Keep the smallest slack. -/
def State.noteSlack (s : State) : State :=
  { s with pump := { s.pump with slackMin := some (min s.slack (s.pump.slackMin.getD s.slack)) } }

/-- SLOW is suspended (R21, R81), and a cut task is abandoned. -/
def State.tasksStop (s : State) : State := { s with pump := { s.pump with running := none } }

/-- Steps 2 and 4 of an overrun (R84). -/
def State.overrunCount (s : State) (deficit : Nat) : State :=
  let t := s.triggers
  let t := { t with pump := { t.pump with ovrCnt := satInc 32 t.pump.ovrCnt, ovrRun := t.pump.ovrRun + 1 } }
  ((t.count Reg.PUMP_OVR_CNT_COUNT).setFlag Reg.PUMP_STAT_OVR true).raiseWith 0x0301 deficit

/-- An overrun (R84): no image, no loop outputs, no output forces. The slack of a cycle that only a fault made an overrun counts (R96). -/
def State.overrun (s : State) : State :=
  let d := s.deficit
  let t := if s.tasksCut || s.loopsCut then s else s.noteSlack
  (t.tasksStop).overrunCount d

/-- The output area as an image. -/
def State.outputImage (s : State) : Store Point := s.points.filter (fun e => decide (areaOf e.1 = .output))

/-- IMAGE_FREEZE (R17): the image that leaves at the next boundary. -/
def State.freezeImage (s : State) : State :=
  { s with pump := { s.pump with image := s.outputImage, lastFreeze := s.pump.image, imageValid := true },
           stn := { s.stn with safeCmd := false } }

/-- The loops evaluated since the last freeze. -/
def State.loopsEvaluated (s : State) : List Nat := (s.loops.slots.filter (fun e => e.2.publish)).map Prod.fst

/-- A cycle completes (R82, R85): its slack is sampled. -/
def State.cycleDone (s : State) : State :=
  let t := (s.noteSlack).sample 0x03F1 (micros32 s.slack).toNat
  { t with pump := { t.pump with ovrRun := 0 } }

/-- Step 6 of a cycle that completes: loop outputs, output forces, the freeze; in REPLAY the comparison in place of it (R433). -/
def State.freeze (s : State) : State :=
  let loops := s.loopsEvaluated
  let t := ((s.cycleDone).tasksStop).loopOutputs
  let t := t.forceApply .output
  if t.mode = .replay then t.replayFreeze
  else (((t.freezeImage).safeFreeze).redFreeze loops).capFreeze

/-- A replayed cycle that overran has no comparison. -/
def State.replaySkip (s : State) : State :=
  if s.mode = .replay then { s with cap := { s.cap with replayCycle := s.cap.replayCycle + 1 } } else s

/-- A measured value is written once there is one. -/
def State.putMeasured (s : State) (p : Nat) (v : Option Nat) : State :=
  match v with
  | some x => s.putGood p x
  | none => s

/-- The pump and system points of the freeze (R74, R482); those that describe a task scan keep their values in a cycle without tasks. -/
def State.pumpPoints (s : State) (tasks : Bool) : State :=
  let t := s.putAll [(0xE6305, s.pump.ovrCnt), (0xE6306, s.pump.ovrRun), (0xE630B, s.pump.wrviol),
    (0xE630C, Fp.f32.ofRat (s.get Reg.PWR_PACE_STAT_PACE) 100), (0xE630D, s.plateId.toNat)]
  let t := t.putMeasured 0xE6309 (s.pump.slackMin.map (fun x => (micros32 x).toNat))
  if tasks then
    ((t.putMeasured 0xE6307 (s.pump.fastUs.map BitVec.toNat)).putMeasured 0xE6308 (s.pump.holdUs.map BitVec.toNat)).putMeasured 0xE630A
      s.pump.slowScanCyc
  else t

/-- Every point that is written at the freeze, or where no freeze takes place, at its instant (R482). -/
def State.freezePoints (s : State) (tasks : Bool) : State :=
  ((((s.publishLoops).redPoints).safePoints).powerPoints).pumpPoints tasks

/-- What every cycle ends with: points, mirror, the log of writes for R331, the capture ring. -/
def State.cycleEnd (s : State) (tasks frozen : Bool) : State :=
  let t := (s.freezePoints tasks).mirrorInstant frozen
  ({ t with phase := .frozen, wlogPrev := t.wlog, wlog := {} }).capCycle

/-- Step 6 of a cycle with tasks; the third consecutive overrun is fatal (R85). -/
def State.taskReserve (s : State) : State :=
  if s.overran then
    let t := s.overrun
    if 3 ≤ t.pump.ovrRun then t.fatalReset 1 else (t.replaySkip).cycleEnd true false
  else (s.freeze).cycleEnd true true

/-- The reserve instant of a cycle without tasks (R91, R337, R407, R482). -/
def State.idleReserve (s : State) : State := ({ s with pump := { s.pump with ovrRun := 0 } }).cycleEnd false true

/-- OUTPUT_RESERVE_INSTANT, once the window has closed. -/
def State.reserve (s : State) (trip fb : Nat) : State :=
  let t := (((s.proofSettle).advanceTo s.reserveAt).safeLevels trip fb).runStops
  t.holdStatus (if t.taskCycle then t.taskReserve else t.idleReserve)

/-- A window that is still open has closed by the reserve instant. -/
def State.windowDue (s : State) : State := if s.windowOpen then s.windowClose s.time.gpio else s

/-- OUTPUT_RESERVE_INSTANT (R17). -/
def State.reserveInstant (s : State) (trip fb : Nat) : State :=
  let t := s.windowDue
  if t.running && decide (t.phase = .tasks) then t.reserve trip fb else s

/-! ## The boundary (R15 to R18, R25, R28, R88 to R91, R388) -/

/-- What is still due in the cycle that ends: its close, its freeze, the end of capture, a trough frame at its limit, a node's missing
record. -/
def State.cycleDue (s : State) : State :=
  let t := s.reserveInstant s.safe.tripIn s.safe.fb
  let t := (t.capStopped).spanUpLost
  if t.running && t.trough.openTh.isSome && decide (t.trough.limit < t.nextBnd) then t.holdStatus t.troughClose else t

/-- The pump at the start of a cycle: one restart cycle fewer, a suspended SLOW scan spans one more (R74, R91). -/
def PumpState.newCycle (p : PumpState) : PumpState :=
  { p with running := none, tasksEnd := none, faulted := false, slowStarted := false, loopsDue := 0, loopEnd := 0,
           slowSpan := if p.slowOpen then p.slowSpan + 1 else p.slowSpan, restartLeft := p.restartLeft - 1 }

/-- Cycle k starts at the next boundary (R15, R16). -/
def State.newCycle (s : State) (k : Nat) : State :=
  let t := s.advanceTo s.nextBnd
  let t := ({ t with n := k, bnd := t.nextBnd, nextBnd := t.nextBnd + t.tp, phase := .window, pump := t.pump.newCycle })
  let t := (t.stnNewCycle).spanNewCycle
  if t.restarting then t else t.setFlag Reg.PUMP_STAT_RESTARTING false

/-- Restarts, transactions, the values of a save, the scrub, in that order (R48, R52 to R56, R62, R89). -/
def State.boundaryHost (s : State) (upsets : List Upset) : State :=
  let t := upsets.foldl State.upset s
  (((t.restartBoundary).txnApply).imgSaveBoundary).scrub

/-- A step of the time base, or a change of T_P or PHASE since `before`, ends the cycle at a new instant (R175, R179). -/
def State.boundaryGrid (before s : State) : State :=
  let r := s.stepBoundary
  if r.1 || decide (before.tp ≠ s.tp) || decide (before.get Reg.TSU_PHASE_PHASE ≠ s.get Reg.TSU_PHASE_PHASE) then r.2.realign else r.2

/-- On leaving PARK, last_n of every timer is the n of the first cycle in RUN (R121). -/
def State.timersResume (s : State) : State :=
  { s with pump := { s.pump with inst := { s.pump.inst with timers := s.pump.inst.timers.map (fun e => (e.1, { e.2 with last := some s.n })) } } }

/-- Commanded changes of state, of the plate, of replay (R138, R141, R406, R433). -/
def State.boundaryModes (s : State) : State :=
  let t := s.pwrBoundary
  let t := if s.mode = .park ∧ t.mode = .run then t.timersResume else t
  let t := { t with stn := { t.stn with started := t.stn.started || decide (t.mode = Mode.run) } }
  (t.plateBoundary).replayBoundary

/-- HOLD_SNAPSHOT (R25, R278, R318). -/
def State.holdSnapshot (s : State) : State := ((s.loopHoldSnapshot).armSnapshot).userSnapshot

/-- The allocation block collects where it posted, and in RUN (R283). -/
def State.collects (s : State) : Bool :=
  s.allocOn && (s.alloc.post.any (fun p => !p.posted.isEmpty) || decide (s.mode = .run) && !s.restarting)

/-- Collection (R283, R303, R318, R332). -/
def State.collection (s : State) : State :=
  let t := s.solvCollect
  let t := if t.collects then t.collect t.returned else t
  ((t.sendWarmPart).solvSettle).closePost

/-- A hold boundary (R25, R26 step 6, R219, R226, R332): snapshot, collection, the hold stream, the observer's commands, the next frame. -/
def State.holdWork (s : State) : State :=
  if s.isHold then ((((s.holdSnapshot).collection).holdStream).obsBoundary).troughOpen else s

/-- Collection, then switch-in, then the points of both (R28, R286). -/
def State.boundaryHold (s : State) : State :=
  let t := s.holdWork
  let switched := t.allocOn && t.alloc.switchIn.isSome
  let t := (if switched then t.doSwitchIn else { t with alloc := { t.alloc with switchIn := none } }).loadNote
  s.holdStatus ((if (s.isHold && s.collects) || switched then t.allocPoints else t).tauNote)

/-- What leaves at the boundary: claims, station and span frames, GPIO and safety outputs (R18, R325, R358, R366, R456). -/
def State.boundarySend (s : State) : State :=
  let t := s.redBoundary
  let t := if t.spanNode then t else (t.sendFrames t.frameClaim).spanSend t.frameClaim
  (t.gpioDrive).safeBoundary

/-- The boundary of a cycle that has begun. -/
def State.boundaryWork (s : State) (upsets : List Upset) : State :=
  let t := s.boundaryHost upsets
  ((((s.boundaryGrid t).boundaryModes).boundaryHold)).boundarySend

/-- The first boundary (R388): cycle 0 in RUN or PARK. -/
def State.firstCycle (s : State) : State := (s.newCycle 0).runEntry

/-- A later boundary: role changes first, then cycle n + 1. -/
def State.laterCycle (s : State) : State :=
  let t := s.advanceTo s.nextBnd
  (t.rolesAt (t.n + 1)).newCycle (t.n + 1)

/-- PUMP_BOUNDARY (R15): the time base reaches the next boundary, once what the cycle that ends still had to do is done. -/
def State.boundary (s : State) (upsets : List Upset) : State :=
  if s.mode = .done then (s.firstCycle).boundaryWork upsets
  else if s.running then
    let t := s.cycleDue
    if t.running then (t.laterCycle).boundaryWork upsets else t
  else s

/-- RESTART_CYCLES_END (R91): the last restart cycle ends; FAST runs from the next close on with FIRST_SCAN set. -/
def State.restartEnd (s : State) : State :=
  if s.running && decide (s.pump.restartLeft = 1) then
    let t := (s.cycleDue).advanceTo s.nextBnd
    ({ t with pump := { t.pump with restartLeft := 0 } }).setFlag Reg.PUMP_STAT_RESTARTING false
  else s

/-- TROUGH_FRAME_CLOSE (R199): steps 2 to 4 of the hold cycle, and the active's observer part (R332). -/
def State.frameClose (s : State) : State :=
  if s.running && s.trough.openTh.isSome then s.holdStatus (s.troughClose).sendObsPart else s

/-- SENSOR_MESSAGE (R191): accepted after the close of a frame that closes by now (R199). -/
def State.sensorArrives (s : State) (src : SensorSource) (body : SensorBody) (stamp : Nat) : State :=
  let t := s.stampReached stamp
  let u := if t.running && t.trough.openTh.any (fun th => t.frameReady th || decide (t.trough.limit ≤ t.now)) then t.frameClose else t
  u.sensorMessage src body stamp

/-! ## Time between commands (log entry 10) -/

/-- With no command waiting, the consumers of the receive queues work on and the time base counts 1 µs, at most up to the next boundary. -/
def State.tick (s : State) : State :=
  let t := s.drainRx
  if s.running || decide (s.mode = .done) then t.advance (min 1000 (t.nextBnd - t.now)) else t.advance 1000

/-! ## The commands of this file -/

def execPumpBoundary (upsets : List Upset) (s : State) : Host.Outcome State Fault Refusal := .next (s.boundary upsets)
def execInputWindowClose (gpio : Word) (s : State) : Host.Outcome State Fault Refusal := .next (s.windowClose gpio)
def execOutputReserveInstant (trip : Byte) (fb : Word) (s : State) : Host.Outcome State Fault Refusal :=
  .next (s.reserveInstant trip.toNat fb.toNat)
def execRestartCyclesEnd (s : State) : Host.Outcome State Fault Refusal := .next s.restartEnd
def execSensorMessage (source : SensorSource) (body : SensorBody) (stamp : Nat) (s : State) : Host.Outcome State Fault Refusal :=
  .next (s.sensorArrives source body stamp)
def execTroughFrameClose (s : State) : Host.Outcome State Fault Refusal := .next s.frameClose
def execRet (c : BitVec 5) (s : State) : Host.Outcome State Fault Refusal := .next (s.opRet c)
def execProofApply (s : State) : Host.Outcome State Fault Refusal := .next s.proofApply
def execProofMiss (s : State) : Host.Outcome State Fault Refusal := .next s.proofMissed

end Sys2Proof.Machine
end

