-- ==== Sys2Proof/Machine/PumpBit.lean ====
section
/-! DEFINITION. The bit-logic, bracket and edge instructions (chapter 04: R104 to R109). -/

namespace Sys2Proof.Machine

/-- Combine BA with a bit of a point (bit form, R104). -/
def State.opBit (s : State) (p : PointAddr) (bit : BitVec 5) (f : Bool → Bool → Bool) : State :=
  s.runProc 1 1 (fun pr s => { pr with ba := f pr.ba (s.pointBit p bit) })

/-- A bit-form write of `v` of BA, done when `w` of BA holds (R104). -/
def State.opBitWrite (s : State) (p : PointAddr) (bit : BitVec 5) (w v : Bool → Bool) : State :=
  s.runInstr 1 1 (fun pr s => .cont pr (if w pr.ba then s.storeBit p bit (v pr.ba) else s))

/-- Combine BA with whether a point's class is good (R66). -/
def State.opGood (s : State) (p : PointAddr) (f : Bool → Bool → Bool) : State :=
  s.runProc 1 1 (fun pr s => { pr with ba := f pr.ba (s.point p.toNat).good })

/-- Change BA alone. -/
def State.opBa (s : State) (f : Bool → Bool) : State := s.runProc 1 1 (fun pr _ => { pr with ba := f pr.ba })

/-- Combine BA with a flag condition; a reserved code is an instruction fault (R96, R105). -/
def State.opCond (s : State) (c : BitVec 5) (f : Bool → Bool → Bool) : State :=
  s.runInstr 1 1 (fun pr s => match pr.cond c with
    | some b => .cont { pr with ba := f pr.ba b } s
    | none => .illegal)

/-- NEST (R107): push BA; a 17th level is a stack fault. -/
def State.opNest (s : State) : State :=
  s.runInstr 1 1 (fun pr s => if pr.nesting.length < 16 then .cont { pr with nesting := pr.ba :: pr.nesting } s else .stack)

/-- A JOIN (R107): pop the saved BA and combine; an empty stack is a stack fault. -/
def State.opJoin (s : State) (f : Bool → Bool → Bool) : State :=
  s.runInstr 1 1 (fun pr s => match pr.nesting with
    | [] => .stack
    | b :: t => .cont { pr with ba := f b pr.ba, nesting := t } s)

/-- RISE and FALL (R109): `f` of M and BA gives the new BA; M takes BA. -/
def State.opEdge (s : State) (i : BitVec 16) (f : Bool → Bool → Bool) : State :=
  s.runInstr 1 2 (fun pr s => .cont { pr with ba := f (s.edge i.toNat) pr.ba } (s.setEdge i.toNat pr.ba))

def execLdb (p : PointAddr) (bit : BitVec 5) (s : State) : Host.Outcome State Fault Refusal :=
  .next (s.opBit p bit (fun _ b => b))
def execLdbn (p : PointAddr) (bit : BitVec 5) (s : State) : Host.Outcome State Fault Refusal :=
  .next (s.opBit p bit (fun _ b => !b))
def execAndb (p : PointAddr) (bit : BitVec 5) (s : State) : Host.Outcome State Fault Refusal :=
  .next (s.opBit p bit (fun a b => a && b))
def execAndbn (p : PointAddr) (bit : BitVec 5) (s : State) : Host.Outcome State Fault Refusal :=
  .next (s.opBit p bit (fun a b => a && !b))
def execOrb (p : PointAddr) (bit : BitVec 5) (s : State) : Host.Outcome State Fault Refusal :=
  .next (s.opBit p bit (fun a b => a || b))
def execOrbn (p : PointAddr) (bit : BitVec 5) (s : State) : Host.Outcome State Fault Refusal :=
  .next (s.opBit p bit (fun a b => a || !b))
def execXorb (p : PointAddr) (bit : BitVec 5) (s : State) : Host.Outcome State Fault Refusal :=
  .next (s.opBit p bit (fun a b => xor a b))
def execXorbn (p : PointAddr) (bit : BitVec 5) (s : State) : Host.Outcome State Fault Refusal :=
  .next (s.opBit p bit (fun a b => xor a (!b)))
def execSetb (p : PointAddr) (bit : BitVec 5) (s : State) : Host.Outcome State Fault Refusal :=
  .next (s.opBitWrite p bit (fun a => a) (fun _ => true))
def execClrb (p : PointAddr) (bit : BitVec 5) (s : State) : Host.Outcome State Fault Refusal :=
  .next (s.opBitWrite p bit (fun a => a) (fun _ => false))
def execOutb (p : PointAddr) (bit : BitVec 5) (s : State) : Host.Outcome State Fault Refusal :=
  .next (s.opBitWrite p bit (fun _ => true) (fun a => a))
def execOutbn (p : PointAddr) (bit : BitVec 5) (s : State) : Host.Outcome State Fault Refusal :=
  .next (s.opBitWrite p bit (fun _ => true) (fun a => !a))
def execAndq (p : PointAddr) (s : State) : Host.Outcome State Fault Refusal := .next (s.opGood p (fun a g => a && g))
def execAndnq (p : PointAddr) (s : State) : Host.Outcome State Fault Refusal := .next (s.opGood p (fun a g => a && !g))
def execLdq (p : PointAddr) (s : State) : Host.Outcome State Fault Refusal := .next (s.opGood p (fun _ g => g))
def execNotba (s : State) : Host.Outcome State Fault Refusal := .next (s.opBa (fun a => !a))
def execSetba (s : State) : Host.Outcome State Fault Refusal := .next (s.opBa (fun _ => true))
def execClrba (s : State) : Host.Outcome State Fault Refusal := .next (s.opBa (fun _ => false))
def execLdc (c : BitVec 5) (s : State) : Host.Outcome State Fault Refusal := .next (s.opCond c (fun _ b => b))
def execAndc (c : BitVec 5) (s : State) : Host.Outcome State Fault Refusal := .next (s.opCond c (fun a b => a && b))
def execOrc (c : BitVec 5) (s : State) : Host.Outcome State Fault Refusal := .next (s.opCond c (fun a b => a || b))
def execNest (s : State) : Host.Outcome State Fault Refusal := .next s.opNest
def execJoina (s : State) : Host.Outcome State Fault Refusal := .next (s.opJoin (fun t a => t && a))
def execJoinan (s : State) : Host.Outcome State Fault Refusal := .next (s.opJoin (fun t a => t && !a))
def execJoino (s : State) : Host.Outcome State Fault Refusal := .next (s.opJoin (fun t a => t || a))
def execJoinon (s : State) : Host.Outcome State Fault Refusal := .next (s.opJoin (fun t a => t || !a))
def execJoinx (s : State) : Host.Outcome State Fault Refusal := .next (s.opJoin (fun t a => xor t a))
def execJoinxn (s : State) : Host.Outcome State Fault Refusal := .next (s.opJoin (fun t a => xor t (!a)))
def execRise (i : BitVec 16) (s : State) : Host.Outcome State Fault Refusal := .next (s.opEdge i (fun m a => a && !m))
def execFall (i : BitVec 16) (s : State) : Host.Outcome State Fault Refusal := .next (s.opEdge i (fun m a => m && !a))

end Sys2Proof.Machine
end

