-- ==== Sys2Proof/Machine/PumpFloat.lean ====
section
/-! DEFINITION. The floating-point instructions of the pump (chapter 04: R106, R111, R112). -/

namespace Sys2Proof.Machine

/-- A binary32 operation of two operands with FLT flags (R106, R111). -/
def State.opFlt (s : State) (x : Acc) (op : Operand) (cost : Nat) (f : Nat → Nat → Nat) : State :=
  s.runWord x op cost (fun p a b => (p.setAcc x (fltOp f a b)).flagsFlt (fltOp f a b) (finite32 a && finite32 b))

/-- V of a division: a finite operand by zero gives an infinity with V = 0 (R111). -/
def State.opFdiv (s : State) (x : Acc) (op : Operand) : State :=
  s.runWord x op 10 (fun p a b => (p.setAcc x (fltOp Fp.f32.div a b)).flagsFlt (fltOp Fp.f32.div a b)
    (finite32 a && finite32 b && !Fp.f32.isZero b.toNat))

/-- A binary32 operation of the accumulator alone with FLT flags; `fin` says whether an infinite result sets V. -/
def State.opFlt1 (s : State) (x : Acc) (cost : Nat) (f : Word → Word) : State :=
  s.runProc 1 cost (fun p _ => (p.setAcc x (f (p.acc x))).flagsFlt (f (p.acc x)) (finite32 (p.acc x)))

/-- ITF and UTF: an integer to binary32; no integer gives an infinity. -/
def State.opItof (s : State) (x : Acc) (f : Word → Word) : State :=
  s.runProc 1 2 (fun p _ => (p.setAcc x (f (p.acc x))).flagsFlt (f (p.acc x)) true)

/-- FTI and FTU (R112): Z and N from the integer written, V and U as the conversion says. -/
def State.opFtoi (s : State) (x : Acc) (f : Word → Word × Bool × Bool) : State :=
  s.runProc 1 2 (fun p _ => let r := f (p.acc x)
    (p.setAcc x r.1).flags (decide (r.1 = 0)) r.1.msb r.2.1 r.2.2)

def execFadd (x : Acc) (op : Operand) (s : State) : Host.Outcome State Fault Refusal := .next (s.opFlt x op 2 Fp.f32.add)
def execFsub (x : Acc) (op : Operand) (s : State) : Host.Outcome State Fault Refusal := .next (s.opFlt x op 2 Fp.f32.sub)
def execFmul (x : Acc) (op : Operand) (s : State) : Host.Outcome State Fault Refusal := .next (s.opFlt x op 2 Fp.f32.mul)
def execFdiv (x : Acc) (op : Operand) (s : State) : Host.Outcome State Fault Refusal := .next (s.opFdiv x op)
def execFmin (x : Acc) (op : Operand) (s : State) : Host.Outcome State Fault Refusal := .next (s.opFlt x op 2 Fp.f32.minimum)
def execFmax (x : Acc) (op : Operand) (s : State) : Host.Outcome State Fault Refusal := .next (s.opFlt x op 2 Fp.f32.maximum)
def execFcmp (x : Acc) (op : Operand) (s : State) : Host.Outcome State Fault Refusal :=
  .next (s.runWord x op 2 (fun p a b => p.flagsFcmp a b))
def execFneg (x : Acc) (s : State) : Host.Outcome State Fault Refusal := .next (s.opFlt1 x 1 (fun a => a ^^^ 0x80000000#32))
def execFabs (x : Acc) (s : State) : Host.Outcome State Fault Refusal := .next (s.opFlt1 x 1 (fun a => a &&& 0x7FFFFFFF#32))
def execFsqrt (x : Acc) (s : State) : Host.Outcome State Fault Refusal :=
  .next (s.opFlt1 x 12 (fun a => w32 (Fp.f32.sqrt a.toNat)))
def execItf (x : Acc) (s : State) : Host.Outcome State Fault Refusal :=
  .next (s.opItof x (fun a => w32 (Fp.f32.ofInt a.toInt)))
def execUtf (x : Acc) (s : State) : Host.Outcome State Fault Refusal :=
  .next (s.opItof x (fun a => w32 (Fp.f32.ofInt a.toNat)))
def execFti (x : Acc) (s : State) : Host.Outcome State Fault Refusal := .next (s.opFtoi x ftoi)
def execFtu (x : Acc) (s : State) : Host.Outcome State Fault Refusal := .next (s.opFtoi x ftou)

end Sys2Proof.Machine
end

