-- ==== Sys2Proof/Machine/PumpTimer.lean ====
section
/-! DEFINITION. Timer and counter instructions (chapters 04 and 05: R116, R117, R120 to R126). -/

namespace Sys2Proof.Machine

/-- The kinds of timer. -/
inductive TimerKind where
  | ton | tof | tp
deriving DecidableEq, Repr

/-- Whether a timer accrues in a state (R122 to R124). -/
def TimerKind.accrues : TimerKind → Nat → Bool
  | .tof, st => decide (st = 2)
  | _, st => decide (st = 1)

/-- ET after accruing the interval since the last scan (R120): `n` is the pump cycle count, `tp` T_P in 10 µs, `pt` PT in ms. -/
def accrue (k : TimerKind) (t : Timer) (n tp pt : Nat) : Nat :=
  match t.last with
  | none => t.et
  | some l => if k.accrues t.state then min (t.et + (n + 2 ^ 48 - l) % 2 ^ 48 * tp) (pt * 100) else t.et

/-- State and ET after the row of the state table for the present IN (R122 to R124); `et` has accrued. -/
def timerRow (k : TimerKind) (st et : Nat) (inp : Bool) (pt : Nat) : Nat × Nat :=
  match k, st, inp with
  | .ton, 0, false => (0, 0)
  | .ton, 0, true => if pt = 0 then (2, 0) else (1, 0)
  | .ton, 1, false => (0, 0)
  | .ton, 1, true => if pt * 100 ≤ et then (2, et) else (1, et)
  | .ton, _, false => (0, 0)
  | .ton, _, true => if et < pt * 100 then (1, et) else (2, pt * 100)
  | .tof, 0, false => (0, et)
  | .tof, 0, true => (1, 0)
  | .tof, 1, false => if pt = 0 then (0, 0) else (2, 0)
  | .tof, 1, true => (1, et)
  | .tof, _, false => if pt * 100 ≤ et then (0, pt * 100) else (2, et)
  | .tof, _, true => (1, 0)
  | .tp, 0, false => (0, et)
  | .tp, 0, true => if pt = 0 then (2, 0) else (1, 0)
  | .tp, 1, false => if pt * 100 ≤ et then (0, 0) else (1, et)
  | .tp, 1, true => if pt * 100 ≤ et then (2, pt * 100) else (1, et)
  | .tp, _, false => (0, 0)
  | .tp, _, true => (2, et)

/-- Q after the transition (R122 to R124). -/
def TimerKind.q : TimerKind → Nat → Bool
  | .ton, st => decide (st = 2)
  | .tof, st => decide (st ≠ 0)
  | .tp, st => decide (st = 1)

/-- A timer instance after a scan (R120). -/
def scanTimer (k : TimerKind) (t : Timer) (n tp pt : Nat) (inp : Bool) : Timer :=
  let r := timerRow k t.state (accrue k t n tp pt) inp pt
  { state := r.1, inp := inp, et := r.2, last := some (n % 2 ^ 48) }

/-- TON, TOF, TP (R120 to R124): IN is BA, PT is A; BA takes Q and B takes ET in ms. -/
def State.opTimer (s : State) (k : TimerKind) (i : BitVec 16) : State :=
  s.runInstr 1 6 (fun p s =>
    let t := scanTimer k (s.timer i.toNat) s.n (s.get Reg.PUMP_CYCLE_CTL_T_P) p.a.toNat p.ba
    .cont { p with ba := k.q t.state, b := BitVec.ofNat 32 (t.et / 100) } (s.setTimer i.toNat t))

/-- CV plus one, saturating (R125). -/
def cvUp (cv : Word) : Word := if cv = 0x7FFFFFFF#32 then cv else cv + 1
/-- CV minus one, saturating (R125). -/
def cvDown (cv : Word) : Word := if cv = 0x80000000#32 then cv else cv - 1

/-- CTU (R125). -/
def State.opCtu (s : State) (i : BitVec 16) : State :=
  s.runInstr 1 5 (fun p s =>
    let c := s.counter i.toNat
    let cv := if p.ba && !c.cu then cvUp c.cv else c.cv
    .cont { p with ba := p.a.sle cv, b := cv } (s.setCounter i.toNat { c with cv := cv, cu := p.ba }))

/-- CTD (R125). -/
def State.opCtd (s : State) (i : BitVec 16) : State :=
  s.runInstr 1 5 (fun p s =>
    let c := s.counter i.toNat
    let cv := if p.ba && !c.cd then cvDown c.cv else c.cv
    .cont { p with ba := cv.sle 0, b := cv } (s.setCounter i.toNat { c with cv := cv, cd := p.ba }))

/-- CTUD (R125): CD is the bit that the second word names; both rising leave CV unchanged. -/
def State.opCtud (s : State) (i : BitVec 16) (pt : PointAddr) (bit : BitVec 5) : State :=
  s.runInstr 2 6 (fun p s =>
    let c := s.counter i.toNat
    let cd := s.pointBit pt bit
    let up := p.ba && !c.cu
    let down := cd && !c.cd
    let cv := if up && down then c.cv else if up then cvUp c.cv else if down then cvDown c.cv else c.cv
    .cont { p with ba := p.a.sle cv, b := cv } (s.setCounter i.toNat { cv := cv, cu := p.ba, cd := cd }))

/-- CRST and CLD (R125, R126): when BA is 1, CV takes `v` of A. -/
def State.opSetCv (s : State) (i : BitVec 16) (v : Word → Word) : State :=
  s.runInstr 1 2 (fun p s =>
    .cont p (if p.ba then s.setCounter i.toNat { s.counter i.toNat with cv := v p.a } else s))

def execTon (i : BitVec 16) (s : State) : Host.Outcome State Fault Refusal := .next (s.opTimer .ton i)
def execTof (i : BitVec 16) (s : State) : Host.Outcome State Fault Refusal := .next (s.opTimer .tof i)
def execTp (i : BitVec 16) (s : State) : Host.Outcome State Fault Refusal := .next (s.opTimer .tp i)
def execCtu (i : BitVec 16) (s : State) : Host.Outcome State Fault Refusal := .next (s.opCtu i)
def execCtd (i : BitVec 16) (s : State) : Host.Outcome State Fault Refusal := .next (s.opCtd i)
def execCtud (i : BitVec 16) (pt : PointAddr) (bit : BitVec 5) (s : State) : Host.Outcome State Fault Refusal :=
  .next (s.opCtud i pt bit)
def execCrst (i : BitVec 16) (s : State) : Host.Outcome State Fault Refusal := .next (s.opSetCv i (fun _ => 0))
def execCld (i : BitVec 16) (s : State) : Host.Outcome State Fault Refusal := .next (s.opSetCv i (fun a => a))

end Sys2Proof.Machine
end

