-- ==== Sys2Proof/Machine/PumpWord.lean ====
section
/-! DEFINITION. The word instructions of the pump (chapter 04: R94, R100 to R103, R106, R110, R112). -/

namespace Sys2Proof.Machine

/-- LD (R101, R102): an address beyond the point space loads 0 and sets V; the flags are else unchanged. A SEL that the operand form does
not allow is an instruction fault (R94, R96). -/
def State.opLd (s : State) (x : Acc) (sel : Sel) (op : Operand) : State :=
  s.runInstr (operandWords op) (1 + operandExtra op) (fun p s =>
    if selOk sel op then
      let o := s.operand p x sel op
      .cont ((p.setAcc x o.1).orV o.2) s
    else .illegal)

/-- ST to a point: the value store or the quality store form (R103); SEL = age is an instruction fault. -/
def State.opStAt (p : Proc) (s : State) (x : Acc) (sel : Sel) (a : Nat) : Flow :=
  match sel with
  | .value => .cont p (s.storeValue a (p.acc x))
  | .quality =>
    let r := s.storeQuality a (p.acc x)
    .cont (p.orV r.2) r.1
  | .age => .illegal

/-- ST (R101, R103): MODE 0b10 and 0b11 are instruction faults; a store beyond the point space is discarded and counted (R72), and V is
set. -/
def State.opSt (s : State) (x : Acc) (sel : Sel) (op : Operand) : State :=
  s.runInstr (operandWords op) (1 + operandExtra op) (fun p s =>
    match op with
    | .direct a => State.opStAt p s x sel a.toNat
    | .indexed base =>
      if sel = .age then .illegal
      else match indexedAddr base (p.partner x) with
        | some a => State.opStAt p s x sel a
        | none => .cont (p.orV true) s.wrviol
    | _ => .illegal)

/-- A word instruction whose result goes to the accumulator with INT flags. -/
def State.opInt (s : State) (x : Acc) (op : Operand) (cost : Nat) (f : Word → Word → Word × Bool) : State :=
  s.runWord x op cost (fun p a b => let r := f a b; (p.setAcc x r.1).flagsInt r.1 r.2)

/-- The same with LOG flags. -/
def State.opLog (s : State) (x : Acc) (op : Operand) (f : Word → Word → Word) : State :=
  s.runWord x op 1 (fun p a b => (p.setAcc x (f a b)).flagsLog (f a b))

/-- A single-accumulator instruction with INT flags. -/
def State.opInt1 (s : State) (x : Acc) (f : Word → Word × Bool) : State :=
  s.runProc 1 1 (fun p _ => let r := f (p.acc x); (p.setAcc x r.1).flagsInt r.1 r.2)

def execLd (x : Acc) (sel : Sel) (op : Operand) (s : State) : Host.Outcome State Fault Refusal := .next (s.opLd x sel op)
def execSt (x : Acc) (sel : Sel) (op : Operand) (s : State) : Host.Outcome State Fault Refusal := .next (s.opSt x sel op)
def execAdd (x : Acc) (op : Operand) (s : State) : Host.Outcome State Fault Refusal := .next (s.opInt x op 1 intAdd)
def execSub (x : Acc) (op : Operand) (s : State) : Host.Outcome State Fault Refusal := .next (s.opInt x op 1 intSub)
def execMul (x : Acc) (op : Operand) (s : State) : Host.Outcome State Fault Refusal := .next (s.opInt x op 2 intMul)
def execDiv (x : Acc) (op : Operand) (s : State) : Host.Outcome State Fault Refusal := .next (s.opInt x op 12 intDiv)
def execDivu (x : Acc) (op : Operand) (s : State) : Host.Outcome State Fault Refusal := .next (s.opInt x op 12 intDivu)
def execMod (x : Acc) (op : Operand) (s : State) : Host.Outcome State Fault Refusal := .next (s.opInt x op 12 intMod)
def execAndw (x : Acc) (op : Operand) (s : State) : Host.Outcome State Fault Refusal := .next (s.opLog x op (fun a b => a &&& b))
def execOrw (x : Acc) (op : Operand) (s : State) : Host.Outcome State Fault Refusal := .next (s.opLog x op (fun a b => a ||| b))
def execXorw (x : Acc) (op : Operand) (s : State) : Host.Outcome State Fault Refusal := .next (s.opLog x op (fun a b => a ^^^ b))
def execShl (x : Acc) (op : Operand) (s : State) : Host.Outcome State Fault Refusal :=
  .next (s.opLog x op (fun a b => a <<< shiftCount b))
def execShr (x : Acc) (op : Operand) (s : State) : Host.Outcome State Fault Refusal :=
  .next (s.opLog x op (fun a b => a >>> shiftCount b))
def execSar (x : Acc) (op : Operand) (s : State) : Host.Outcome State Fault Refusal :=
  .next (s.opLog x op (fun a b => a.sshiftRight (shiftCount b)))
def execCmp (x : Acc) (op : Operand) (s : State) : Host.Outcome State Fault Refusal :=
  .next (s.runWord x op 1 (fun p a b => p.flagsCmp (decide (a = b)) (a.slt b)))
def execCmpu (x : Acc) (op : Operand) (s : State) : Host.Outcome State Fault Refusal :=
  .next (s.runWord x op 1 (fun p a b => p.flagsCmp (decide (a = b)) (a.ult b)))
def execNeg (x : Acc) (s : State) : Host.Outcome State Fault Refusal := .next (s.opInt1 x intNeg)
def execAbs (x : Acc) (s : State) : Host.Outcome State Fault Refusal := .next (s.opInt1 x intAbs)
/-- SWAP: A and B exchanged, flags unchanged. -/
def execSwap (s : State) : Host.Outcome State Fault Refusal :=
  .next (s.runProc 1 1 (fun p _ => { p with a := p.b, b := p.a }))

end Sys2Proof.Machine
end

