-- ==== Sys2Proof/Machine/Dispatch.lean ====
section
/-! DEFINITION. The meaning of every command: one arm per constructor of Instr, in the order of spec/opcode_table.json. -/

namespace Sys2Proof.Machine

def exec (i : Instr) (s : State) : Host.Outcome State Fault Refusal :=
  match i with
  | .pumpBoundary upsets => Sys2Proof.Machine.execPumpBoundary upsets s
  | .inputWindowClose gpio => Sys2Proof.Machine.execInputWindowClose gpio s
  | .outputReserveInstant trip fb => Sys2Proof.Machine.execOutputReserveInstant trip fb s
  | .mirrorWriteDone => Sys2Proof.Machine.execMirrorWriteDone s
  | .plateSwap => Sys2Proof.Machine.execPlateSwap s
  | .plateRevertApply => Sys2Proof.Machine.execPlateRevertApply s
  | .restartCyclesEnd => Sys2Proof.Machine.execRestartCyclesEnd s
  | .troughFrameClose => Sys2Proof.Machine.execTroughFrameClose s
  | .solveContextEnd r => Sys2Proof.Machine.execSolveContextEnd r s
  | .solveDeadline cuts => Sys2Proof.Machine.execSolveDeadline cuts s
  | .wideReturn ctx => Sys2Proof.Machine.execWideReturn ctx s
  | .computeDieFault die cause => Sys2Proof.Machine.execComputeDieFault die cause s
  | .observerEngineFault engine cause duringUpdate => Sys2Proof.Machine.execObserverEngineFault engine cause duringUpdate s
  | .drMaxExpired group => Sys2Proof.Machine.execDrMaxExpired group s
  | .windFfTimeout => Sys2Proof.Machine.execWindFfTimeout s
  | .calSavePeriodic => Sys2Proof.Machine.execCalSavePeriodic s
  | .calSaveDone => Sys2Proof.Machine.execCalSaveDone s
  | .frameReceive f => Sys2Proof.Machine.execFrameReceive f s
  | .arpRequest port targetIp sender => Sys2Proof.Machine.execArpRequest port targetIp sender s
  | .frameTxDone queue port stamp => Sys2Proof.Machine.execFrameTxDone queue port stamp s
  | .stationInputFrame f => Sys2Proof.Machine.execStationInputFrame f s
  | .outputFrameReturn port => Sys2Proof.Machine.execOutputFrameReturn port s
  | .stnRelease path station => Sys2Proof.Machine.execStnRelease path station s
  | .ompRead r => Sys2Proof.Machine.execOmpRead r s
  | .ompWrite r => Sys2Proof.Machine.execOmpWrite r s
  | .spiRead addr words => Sys2Proof.Machine.execSpiRead addr words s
  | .spiWrite addr words => Sys2Proof.Machine.execSpiWrite addr words s
  | .spiUnknownCommand cmd => Sys2Proof.Machine.execSpiUnknownCommand cmd s
  | .spiCsHigh => Sys2Proof.Machine.execSpiCsHigh s
  | .registerWrite path addr index value => Sys2Proof.Machine.execRegisterWrite path addr index value s
  | .pointWrite path p value quality type => Sys2Proof.Machine.execPointWrite path p value quality type s
  | .sysLockWrite path value => Sys2Proof.Machine.execSysLockWrite path value s
  | .txnBegin path => Sys2Proof.Machine.execTxnBegin path s
  | .txnCommit path => Sys2Proof.Machine.execTxnCommit path s
  | .txnRollback path => Sys2Proof.Machine.execTxnRollback path s
  | .txnTimeout => Sys2Proof.Machine.execTxnTimeout s
  | .imgSave path => Sys2Proof.Machine.execImgSave path s
  | .imgSaveDone ok => Sys2Proof.Machine.execImgSaveDone ok s
  | .keepWriteComplete => Sys2Proof.Machine.execKeepWriteComplete s
  | .tsqRead path port => Sys2Proof.Machine.execTsqRead path port s
  | .tsuTimeLoRead path => Sys2Proof.Machine.execTsuTimeLoRead path s
  | .keepTickLoRead path => Sys2Proof.Machine.execKeepTickLoRead path s
  | .dinEdgeRead path din => Sys2Proof.Machine.execDinEdgeRead path din s
  | .warmRestart path => Sys2Proof.Machine.execWarmRestart path s
  | .coldRestart path => Sys2Proof.Machine.execColdRestart path s
  | .plateLoad path => Sys2Proof.Machine.execPlateLoad path s
  | .plateLoadWindowWrite path addr value => Sys2Proof.Machine.execPlateLoadWindowWrite path addr value s
  | .plateVerify path => Sys2Proof.Machine.execPlateVerify path s
  | .plateVerifyDone v plate => Sys2Proof.Machine.execPlateVerifyDone v plate s
  | .plateArm path => Sys2Proof.Machine.execPlateArm path s
  | .plateRevert path => Sys2Proof.Machine.execPlateRevert path s
  | .plateCommit path => Sys2Proof.Machine.execPlateCommit path s
  | .plateCommitDone => Sys2Proof.Machine.execPlateCommitDone s
  | .plateAbort path => Sys2Proof.Machine.execPlateAbort path s
  | .plateInstall path => Sys2Proof.Machine.execPlateInstall path s
  | .plateInstallDone => Sys2Proof.Machine.execPlateInstallDone s
  | .forceClrAll path => Sys2Proof.Machine.execForceClrAll path s
  | .ldb p bit => Sys2Proof.Machine.execLdb p bit s
  | .ldbn p bit => Sys2Proof.Machine.execLdbn p bit s
  | .andb p bit => Sys2Proof.Machine.execAndb p bit s
  | .andbn p bit => Sys2Proof.Machine.execAndbn p bit s
  | .orb p bit => Sys2Proof.Machine.execOrb p bit s
  | .orbn p bit => Sys2Proof.Machine.execOrbn p bit s
  | .xorb p bit => Sys2Proof.Machine.execXorb p bit s
  | .xorbn p bit => Sys2Proof.Machine.execXorbn p bit s
  | .setb p bit => Sys2Proof.Machine.execSetb p bit s
  | .clrb p bit => Sys2Proof.Machine.execClrb p bit s
  | .outb p bit => Sys2Proof.Machine.execOutb p bit s
  | .outbn p bit => Sys2Proof.Machine.execOutbn p bit s
  | .andq p => Sys2Proof.Machine.execAndq p s
  | .andnq p => Sys2Proof.Machine.execAndnq p s
  | .ldq p => Sys2Proof.Machine.execLdq p s
  | .notba => Sys2Proof.Machine.execNotba s
  | .setba => Sys2Proof.Machine.execSetba s
  | .clrba => Sys2Proof.Machine.execClrba s
  | .ldc cond => Sys2Proof.Machine.execLdc cond s
  | .andc cond => Sys2Proof.Machine.execAndc cond s
  | .orc cond => Sys2Proof.Machine.execOrc cond s
  | .nest => Sys2Proof.Machine.execNest s
  | .joina => Sys2Proof.Machine.execJoina s
  | .joinan => Sys2Proof.Machine.execJoinan s
  | .joino => Sys2Proof.Machine.execJoino s
  | .joinon => Sys2Proof.Machine.execJoinon s
  | .joinx => Sys2Proof.Machine.execJoinx s
  | .joinxn => Sys2Proof.Machine.execJoinxn s
  | .rise inst => Sys2Proof.Machine.execRise inst s
  | .fall inst => Sys2Proof.Machine.execFall inst s
  | .ld acc sel op => Sys2Proof.Machine.execLd acc sel op s
  | .st acc sel op => Sys2Proof.Machine.execSt acc sel op s
  | .add acc op => Sys2Proof.Machine.execAdd acc op s
  | .sub acc op => Sys2Proof.Machine.execSub acc op s
  | .mul acc op => Sys2Proof.Machine.execMul acc op s
  | .div acc op => Sys2Proof.Machine.execDiv acc op s
  | .divu acc op => Sys2Proof.Machine.execDivu acc op s
  | .mod acc op => Sys2Proof.Machine.execMod acc op s
  | .andw acc op => Sys2Proof.Machine.execAndw acc op s
  | .orw acc op => Sys2Proof.Machine.execOrw acc op s
  | .xorw acc op => Sys2Proof.Machine.execXorw acc op s
  | .shl acc op => Sys2Proof.Machine.execShl acc op s
  | .shr acc op => Sys2Proof.Machine.execShr acc op s
  | .sar acc op => Sys2Proof.Machine.execSar acc op s
  | .cmp acc op => Sys2Proof.Machine.execCmp acc op s
  | .cmpu acc op => Sys2Proof.Machine.execCmpu acc op s
  | .fadd acc op => Sys2Proof.Machine.execFadd acc op s
  | .fsub acc op => Sys2Proof.Machine.execFsub acc op s
  | .fmul acc op => Sys2Proof.Machine.execFmul acc op s
  | .fdiv acc op => Sys2Proof.Machine.execFdiv acc op s
  | .fmin acc op => Sys2Proof.Machine.execFmin acc op s
  | .fmax acc op => Sys2Proof.Machine.execFmax acc op s
  | .fcmp acc op => Sys2Proof.Machine.execFcmp acc op s
  | .neg acc => Sys2Proof.Machine.execNeg acc s
  | .abs acc => Sys2Proof.Machine.execAbs acc s
  | .fneg acc => Sys2Proof.Machine.execFneg acc s
  | .fabs acc => Sys2Proof.Machine.execFabs acc s
  | .fsqrt acc => Sys2Proof.Machine.execFsqrt acc s
  | .itf acc => Sys2Proof.Machine.execItf acc s
  | .utf acc => Sys2Proof.Machine.execUtf acc s
  | .fti acc => Sys2Proof.Machine.execFti acc s
  | .ftu acc => Sys2Proof.Machine.execFtu acc s
  | .swap => Sys2Proof.Machine.execSwap s
  | .jc cond target => Sys2Proof.Machine.execJc cond target s
  | .call cond block => Sys2Proof.Machine.execCall cond block s
  | .ret cond => Sys2Proof.Machine.execRet cond s
  | .bmov src dst countLess1 => Sys2Proof.Machine.execBmov src dst countLess1 s
  | .bmovx countLess1 => Sys2Proof.Machine.execBmovx countLess1 s
  | .ton inst => Sys2Proof.Machine.execTon inst s
  | .tof inst => Sys2Proof.Machine.execTof inst s
  | .tp inst => Sys2Proof.Machine.execTp inst s
  | .ctu inst => Sys2Proof.Machine.execCtu inst s
  | .ctd inst => Sys2Proof.Machine.execCtd inst s
  | .ctud inst p bit => Sys2Proof.Machine.execCtud inst p bit s
  | .crst inst => Sys2Proof.Machine.execCrst inst s
  | .cld inst => Sys2Proof.Machine.execCld inst s
  | .ldcyc => Sys2Proof.Machine.execLdcyc s
  | .ldtask => Sys2Proof.Machine.execLdtask s
  | .loopreq loop => Sys2Proof.Machine.execLoopreq loop s
  | .nop => Sys2Proof.Machine.execNop s
  | .instructionFault => Sys2Proof.Machine.execInstructionFault s
  | .tsuStep path => Sys2Proof.Machine.execTsuStep path s
  | .ptpMessage port m => Sys2Proof.Machine.execPtpMessage port m s
  | .ppsInEdge input stamp => Sys2Proof.Machine.execPpsInEdge input stamp s
  | .sourceTimeout source => Sys2Proof.Machine.execSourceTimeout source s
  | .ppsOutEdge out => Sys2Proof.Machine.execPpsOutEdge out s
  | .ppsOutFall out => Sys2Proof.Machine.execPpsOutFall out s
  | .dinEdge din rising stamp => Sys2Proof.Machine.execDinEdge din rising stamp s
  | .refclkFail => Sys2Proof.Machine.execRefclkFail s
  | .refclkRestore => Sys2Proof.Machine.execRefclkRestore s
  | .serdesClkLoss => Sys2Proof.Machine.execSerdesClkLoss s
  | .xtalStop => Sys2Proof.Machine.execXtalStop s
  | .sensorMessage source body stamp => Sys2Proof.Machine.execSensorMessage source body stamp s
  | .n2kClaimStart can => Sys2Proof.Machine.execN2kClaimStart can s
  | .n2kAddressClaimRx can addr name => Sys2Proof.Machine.execN2kAddressClaimRx can addr name s
  | .n2kRequestRx can => Sys2Proof.Machine.execN2kRequestRx can s
  | .uartTxSend path uart len => Sys2Proof.Machine.execUartTxSend path uart len s
  | .uartTxDone uart => Sys2Proof.Machine.execUartTxDone uart s
  | .originSet path => Sys2Proof.Machine.execOriginSet path s
  | .obsReinit path => Sys2Proof.Machine.execObsReinit path s
  | .calSave path => Sys2Proof.Machine.execCalSave path s
  | .calReset path => Sys2Proof.Machine.execCalReset path s
  | .chanCalReset path chan => Sys2Proof.Machine.execChanCalReset path chan s
  | .datumSet path chan => Sys2Proof.Machine.execDatumSet path chan s
  | .hatchLoad path entry => Sys2Proof.Machine.execHatchLoad path entry s
  | .hatchLoadWindowWrite path addr value => Sys2Proof.Machine.execHatchLoadWindowWrite path addr value s
  | .hatchVerify path entry => Sys2Proof.Machine.execHatchVerify path entry s
  | .hatchVerifyDone v hatch => Sys2Proof.Machine.execHatchVerifyDone v hatch s
  | .hatchStore path entry => Sys2Proof.Machine.execHatchStore path entry s
  | .hatchStoreDone => Sys2Proof.Machine.execHatchStoreDone s
  | .hatchErase path entry => Sys2Proof.Machine.execHatchErase path entry s
  | .hatchAbort path entry => Sys2Proof.Machine.execHatchAbort path entry s
  | .proofLinkFrameRx f => Sys2Proof.Machine.execProofLinkFrameRx f s
  | .proofApply => Sys2Proof.Machine.execProofApply s
  | .proofMiss => Sys2Proof.Machine.execProofMiss s
  | .partnerUnreachable unit => Sys2Proof.Machine.execPartnerUnreachable unit s
  | .releaseTakeEffect => Sys2Proof.Machine.execReleaseTakeEffect s
  | .takeover => Sys2Proof.Machine.execTakeover s
  | .takeoverByEcho => Sys2Proof.Machine.execTakeoverByEcho s
  | .activeYield => Sys2Proof.Machine.execActiveYield s
  | .heartbeatMiss path1 path2 => Sys2Proof.Machine.execHeartbeatMiss path1 path2 s
  | .redRelease path => Sys2Proof.Machine.execRedRelease path s
  | .redJoin path => Sys2Proof.Machine.execRedJoin path s
  | .redProofTest path => Sys2Proof.Machine.execRedProofTest path s
  | .redIsolate path => Sys2Proof.Machine.execRedIsolate path s
  | .spanFrameRx f => Sys2Proof.Machine.execSpanFrameRx f s
  | .spanUpLost => Sys2Proof.Machine.execSpanUpLost s
  | .tripInputLow input => Sys2Proof.Machine.execTripInputLow input s
  | .tripReceiverDisagree input => Sys2Proof.Machine.execTripReceiverDisagree input s
  | .tripFaultClear input => Sys2Proof.Machine.execTripFaultClear input s
  | .runawayStop monitor => Sys2Proof.Machine.execRunawayStop monitor s
  | .stipplePulse out => Sys2Proof.Machine.execStipplePulse out s
  | .stippleCheck out fbHigh => Sys2Proof.Machine.execStippleCheck out fbHigh s
  | .feedbackGridCheck fb => Sys2Proof.Machine.execFeedbackGridCheck fb s
  | .safeTripReset path => Sys2Proof.Machine.execSafeTripReset path s
  | .safeDiscReset path => Sys2Proof.Machine.execSafeDiscReset path s
  | .powerOn => Sys2Proof.Machine.execPowerOn s
  | .brownOut => Sys2Proof.Machine.execBrownOut s
  | .resetNLow ns => Sys2Proof.Machine.execResetNLow ns s
  | .serviceWatchdogExpiry => Sys2Proof.Machine.execServiceWatchdogExpiry s
  | .bootRailsDone vioBOk => Sys2Proof.Machine.execBootRailsDone vioBOk s
  | .bootRomDone straps refclkOk trip => Sys2Proof.Machine.execBootRomDone straps refclkOk trip s
  | .bootImageDone eeprom => Sys2Proof.Machine.execBootImageDone eeprom s
  | .bootMemoryDone dieOk trngOk => Sys2Proof.Machine.execBootMemoryDone dieOk trngOk s
  | .bootLoadDone => Sys2Proof.Machine.execBootLoadDone s
  | .bootDone => Sys2Proof.Machine.execBootDone s
  | .clrHold path => Sys2Proof.Machine.execClrHold path s
  | .pwrRun path => Sys2Proof.Machine.execPwrRun path s
  | .pwrPark path => Sys2Proof.Machine.execPwrPark path s
  | .pwrSleep path => Sys2Proof.Machine.execPwrSleep path s
  | .sleepEnter => Sys2Proof.Machine.execSleepEnter s
  | .wakeNEdge => Sys2Proof.Machine.execWakeNEdge s
  | .caseOpenDetect => Sys2Proof.Machine.execCaseOpenDetect s
  | .vbatLowDetect => Sys2Proof.Machine.execVbatLowDetect s
  | .dipEnter => Sys2Proof.Machine.execDipEnter s
  | .dipExit => Sys2Proof.Machine.execDipExit s
  | .uvSustained => Sys2Proof.Machine.execUvSustained s
  | .vioALow => Sys2Proof.Machine.execVioALow s
  | .vioBLow => Sys2Proof.Machine.execVioBLow s
  | .vioRecover bankB => Sys2Proof.Machine.execVioRecover bankB s
  | .backupEnter => Sys2Proof.Machine.execBackupEnter s
  | .keeperLost => Sys2Proof.Machine.execKeeperLost s
  | .lifetimeMirrorWrite => Sys2Proof.Machine.execLifetimeMirrorWrite s
  | .calBaseUpdate => Sys2Proof.Machine.execCalBaseUpdate s
  | .paceUpdate pace => Sys2Proof.Machine.execPaceUpdate pace s
  | .paceHealthLoss => Sys2Proof.Machine.execPaceHealthLoss s
  | .tempSample tj die => Sys2Proof.Machine.execTempSample tj die s
  | .overtempClear => Sys2Proof.Machine.execOvertempClear s
  | .recordWrite code => Sys2Proof.Machine.execRecordWrite code s
  | .recFreezeSet path freeze => Sys2Proof.Machine.execRecFreezeSet path freeze s
  | .freezeAutoClear => Sys2Proof.Machine.execFreezeAutoClear s
  | .capStart path => Sys2Proof.Machine.execCapStart path s
  | .capStop path => Sys2Proof.Machine.execCapStop path s
  | .captureStopped => Sys2Proof.Machine.execCaptureStopped s
  | .capReplay path freeSlot => Sys2Proof.Machine.execCapReplay path freeSlot s
  | .capReplayEnd path => Sys2Proof.Machine.execCapReplayEnd path s
  | .replayComplete => Sys2Proof.Machine.execReplayComplete s
  | .secFuseArm path code => Sys2Proof.Machine.execSecFuseArm path code s
  | .fuseArmExpire => Sys2Proof.Machine.execFuseArmExpire s
  | .programSlot path slot => Sys2Proof.Machine.execProgramSlot path slot s
  | .revokeSlot path slot => Sys2Proof.Machine.execRevokeSlot path slot s
  | .advanceRollback path => Sys2Proof.Machine.execAdvanceRollback path s
  | .dbgOff path => Sys2Proof.Machine.execDbgOff path s
  | .fuseOpDone => Sys2Proof.Machine.execFuseOpDone s
  | .imgLoad path => Sys2Proof.Machine.execImgLoad path s
  | .imgLoadWindowWrite path addr value => Sys2Proof.Machine.execImgLoadWindowWrite path addr value s
  | .imgVerify path => Sys2Proof.Machine.execImgVerify path s
  | .imgVerifyDone v image => Sys2Proof.Machine.execImgVerifyDone v image s
  | .imgActivate path => Sys2Proof.Machine.execImgActivate path s
  | .imgAbort path => Sys2Proof.Machine.execImgAbort path s
  | .rngRead path => Sys2Proof.Machine.execRngRead path s
  | .trngHealthFail => Sys2Proof.Machine.execTrngHealthFail s
  | .mdioFrame path value => Sys2Proof.Machine.execMdioFrame path value s
  | .mdioFrameDone rdata => Sys2Proof.Machine.execMdioFrameDone rdata s
  | .spanLaneDown lane => Sys2Proof.Machine.execSpanLaneDown lane s
  | .spanLaneUp lane => Sys2Proof.Machine.execSpanLaneUp lane s
  | .uncorrectableMemoryError die => Sys2Proof.Machine.execUncorrectableMemoryError die s
  | .handshakeTimeout => Sys2Proof.Machine.execHandshakeTimeout s
  | .serdesRefclkReturn => Sys2Proof.Machine.execSerdesRefclkReturn s
  | .xtal32Restart => Sys2Proof.Machine.execXtal32Restart s
  | .trngHealthRecover => Sys2Proof.Machine.execTrngHealthRecover s
  | .keeperStart => Sys2Proof.Machine.execKeeperStart s
  | .ptpMessageInterval port => Sys2Proof.Machine.execPtpMessageInterval port s
  | .vinSample mv => Sys2Proof.Machine.execVinSample mv s
  | .poweredSecond => Sys2Proof.Machine.execPoweredSecond s

end Sys2Proof.Machine
end

