-- ==== Sys2Proof/Safety.lean ====
section
/-! DEFINITION. What counts as a safe run, in the terms that the claims use. -/

namespace Sys2Proof

/-- The pump's instructions that change no other block: all of chapter 04 but RET, which can end a scan. -/
def Instr.isPump : Instr → Bool
  | .ldb .. | .ldbn .. | .andb .. | .andbn .. | .orb .. | .orbn .. | .xorb .. | .xorbn .. | .setb .. | .clrb .. | .outb .. | .outbn ..
  | .andq .. | .andnq .. | .ldq .. | .notba | .setba | .clrba | .ldc .. | .andc .. | .orc .. | .nest | .joina | .joinan | .joino
  | .joinon | .joinx | .joinxn | .rise .. | .fall .. | .ld .. | .st .. | .add .. | .sub .. | .mul .. | .div .. | .divu .. | .mod ..
  | .andw .. | .orw .. | .xorw .. | .shl .. | .shr .. | .sar .. | .cmp .. | .cmpu .. | .neg .. | .abs .. | .swap | .fadd .. | .fsub ..
  | .fmul .. | .fdiv .. | .fmin .. | .fmax .. | .fcmp .. | .fneg .. | .fabs .. | .fsqrt .. | .itf .. | .utf .. | .fti .. | .ftu ..
  | .ton .. | .tof .. | .tp .. | .ctu .. | .ctd .. | .ctud .. | .crst .. | .cld .. | .jc .. | .call .. | .bmov .. | .bmovx .. | .ldcyc
  | .ldtask | .loopreq .. | .nop | .instructionFault => true
  | _ => false

/-- The rows that can change the operating state of the part. -/
def Instr.movesMode : Instr → Bool
  | .pumpBoundary .. | .outputReserveInstant .. | .restartCyclesEnd | .replayComplete .. | .bootDone .. | .sleepEnter .. | .backupEnter ..
  | .powerOn .. | .brownOut .. | .resetNLow .. | .serviceWatchdogExpiry .. | .wakeNEdge .. | .caseOpenDetect .. => true
  | _ => false

end Sys2Proof

namespace Sys2Proof.Machine

/-- The queue of waiting commands, the variant, the grade and the fuse bank. -/
def State.base (s : State) : List Instr × Variant × Bool × Fuses := (s.pending, s.variant, s.gradeXT, s.fuses)

/-- The type of `State.core`. -/
abbrev Core := List Instr × Variant × Bool × Fuses × Mode × Phase × Nat

/-- What most operations leave alone: the base, the mode, the phase of the cycle and the pump cycle count. -/
def State.core (s : State) : Core :=
  (s.pending, s.variant, s.gradeXT, s.fuses, s.mode, s.phase, s.n)

/-- The phase of the cycle and the pump cycle count. -/
def State.clk (s : State) : Phase × Nat := (s.phase, s.n)

/-- The mode, as a pair so that rewriting has a head symbol. -/
def State.modeTag (s : State) : Mode × Bool := (s.mode, true)

/-- A key slot whose fuses have only been blown further: a valid hash stands, a revocation stands (R436, R437). -/
def KeySlot.blown (a b : KeySlot) : Prop := (a.valid = true → b.valid = true ∧ b.hash = a.hash) ∧ (a.revoked = true → b.revoked = true)

/-- A fuse bank that has only been blown further (R436 to R442). -/
def Fuses.blown (a b : Fuses) : Prop :=
  a.slot0.blown b.slot0 ∧ a.slot1.blown b.slot1 ∧ a.slot2.blown b.slot2 ∧ a.slot3.blown b.slot3 ∧ a.rollback ≤ b.rollback
    ∧ (a.dbgOff = true → b.dbgOff = true) ∧ a.mfgOff = b.mfgOff ∧ a.baseMac = b.baseMac

/-- Queue, variant and grade as before, and the fuses only blown further. -/
def State.kept (s t : State) : Prop :=
  t.pending = s.pending ∧ t.variant = s.variant ∧ t.gradeXT = s.gradeXT ∧ s.fuses.blown t.fuses

/-- A part of variant v whose fuse bank is f or blown further. -/
def FuseInv (v : Variant) (f : Fuses) (s : State) : Prop := s.variant = v ∧ f.blown s.fuses

/-- The command completes: it answers a next state, of which P holds. -/
def Completes (i : Instr) (s : State) (P : State → Prop) : Prop := ∃ t, exec i s = .next t ∧ P t

/-- Task t runs, can complete an instruction of this cost before the output reserve instant (R81, R97), and the instruction's words lie within
its block (R96). -/
def Ready (s : State) (t : Task) (cost : Nat) (words : Nat := 1) : Prop :=
  s.pump.running = some t ∧ s.fits t cost = true ∧ s.inBlock (s.proc t) words = true

/-- Task t's processor state with its position moved past `words` words. -/
def State.ahead (s : State) (t : Task) (words : Nat) : Proc := { s.proc t with offset := (s.proc t).offset + words }

/-- The pump block after task t has completed an instruction of slow-corner cost `cost` that leaves its processor state at p. -/
def State.pumpAfter (s : State) (t : Task) (cost : Nat) (p : Proc) : PumpState :=
  let q := { s.pump with taskCost := s.pump.taskCost + cost, scanCost := s.pump.scanCost + cost }
  match t with
  | .fast => { q with fast := p }
  | .hold => { q with hold := p }
  | .slow => { q with slow := p }

/-- From s to u task t completed an instruction that left its processor state at p: its cost is charged, time has passed to its end, and
nothing else changed. -/
def OnlyProc (s u : State) (t : Task) (cost : Nat) (p : Proc) : Prop :=
  u.pump = s.pumpAfter t cost p ∧ u.now = max s.now (s.taskInstant cost)
    ∧ { u with pump := s.pump, now := s.now, up := s.up, slew := s.slew, keep := s.keep } = s

/-- From s to u nothing of the mirror, the loops and the allocation changed but the marks that a write of points leaves there: a retentive
line's dirty mark (R76), a loop's latched command (R246), a latched RESTORE (R274). -/
def PointMarks (s u : State) : Prop :=
  { u.mirror with dirty := s.mirror.dirty } = s.mirror ∧ { u.loops with cmd := s.loops.cmd } = s.loops
    ∧ { u.alloc with restore := s.alloc.restore } = s.alloc

/-- The same for an instruction that also gives the point at address a the record r. -/
def OnlyPoint (s u : State) (t : Task) (cost : Nat) (p : Proc) (a : Nat) (r : Point) : Prop :=
  u.pump = s.pumpAfter t cost p ∧ u.now = max s.now (s.taskInstant cost)
    ∧ u.point a = r ∧ (∀ b, b ≠ a → u.point b = s.point b)
    ∧ (isRetentive a = true → r ≠ s.point a → storeFind u.mirror.dirty (a / 8) = some true)
    ∧ (isLoopCmd a = true → storeFind u.loops.cmd ((a - 0xE0000) / 16) = some r.value)
    ∧ PointMarks s u
    ∧ { u with pump := s.pump, now := s.now, up := s.up, slew := s.slew, keep := s.keep, points := s.points, wlog := s.wlog,
               mirror := s.mirror, loops := s.loops, alloc := s.alloc } = s

/-- The same for an instruction that also changes the instance areas to `inst`. -/
def OnlyInst (s u : State) (t : Task) (cost : Nat) (p : Proc) (inst : Instances) : Prop :=
  u.pump = { s.pumpAfter t cost p with inst := inst } ∧ u.now = max s.now (s.taskInstant cost)
    ∧ { u with pump := s.pump, now := s.now, up := s.up, slew := s.slew, keep := s.keep, wlog := s.wlog } = s

/-- The same for an instruction whose store was discarded (R72): no point changes, the store is counted, flagged and recorded as 0x0303. In
v everything but the record of the event has happened. -/
def Discarded (s u : State) (t : Task) (cost : Nat) (p : Proc) : Prop :=
  ∃ v : State, u = (v.raise 0x0303).setProc t p ∧ v.pump = { s.pumpAfter t cost (s.proc t) with wrviol := satInc 32 s.pump.wrviol }
    ∧ v.now = max s.now (s.taskInstant cost) ∧ v.flag Reg.PUMP_STAT_WRVIOL = true
    ∧ (∀ f i, f.key i ≠ Reg.PUMP_STAT_WRVIOL.key 0 → v.get f i = s.get f i)
    ∧ { v with pump := s.pump, now := s.now, up := s.up, slew := s.slew, keep := s.keep, regs := s.regs } = s

/-- A task met a fault at its present position (R83, R84, R96): its scan ends there, no task runs again in this cycle, PUMP_FAULT says where,
the flag is set and the code recorded; no point, instance or accumulator changes. `cost` is the time that counts. -/
def TaskFaulted (s u : State) (t : Task) (cost : Nat) (illegal : Bool) : Prop :=
  ∃ v : State, u = v.raise (if illegal then 0x0304 else 0x0302)
    ∧ v.pump.running = none ∧ v.pump.faulted = true ∧ (∀ t', v.proc t' = s.proc t') ∧ v.pump.inst = s.pump.inst
    ∧ v.pump.scanCost = s.pump.scanCost + cost ∧ v.now = max s.now (s.taskInstant cost)
    ∧ v.get Reg.PUMP_FAULT_TASK = t.num
    ∧ v.get Reg.PUMP_FAULT_WORD
        = plateWord ((s.runPlate.map PlateDesc.blocks).getD []) (s.proc t).block (s.proc t).offset % 2 ^ Reg.PUMP_FAULT_WORD.width
    ∧ (if illegal then v.flag Reg.PUMP_FAULT_ILLEGAL = true else v.flag Reg.PUMP_STAT_STACK_FAULT = true)
    ∧ (∀ f i, f.key i ∉ [Reg.PUMP_FAULT_TASK.key 0, Reg.PUMP_FAULT_WORD.key 0, Reg.PUMP_FAULT_ILLEGAL.key 0,
        Reg.PUMP_STAT_STACK_FAULT.key 0] → v.get f i = s.get f i)
    ∧ { v with pump := s.pump, now := s.now, up := s.up, slew := s.slew, keep := s.keep, regs := s.regs } = s

/-- Everything but the free-value counter, registers, recorder, capture ring and redundancy block. -/
def State.quietRest (s : State) : State := { s with freeCtr := 0, regs := [], rcd := {}, cap := {}, red := {} }

/-- The register fields that recording an event, or a change of HEALTH, may write. -/
def quietKeys : List Nat :=
  [Reg.REC_LOSS_DROP_CNT.key 0, Reg.REC_LOSS_PEND_DROP.key 0, Reg.CAP_STAT_STATE.key 0, Reg.RED_STAT_RELEASE_BLOCKED.key 0]

/-- From s to t nothing changed but what recording an event, and the decisions that follow a change of HEALTH, may change: the recorder, the
capture ring, the redundancy block's claim and release, and the fields of `quietKeys`. -/
def Quiet (s t : State) : Prop := t.quietRest = s.quietRest ∧ ∀ (f : Fld) (i : Nat), f.key i ∉ quietKeys → t.get f i = s.get f i

/-- From s to u every register field reads as before but those of these keys and those that recording an event may write. -/
def FieldsBut (keys : List Nat) (s u : State) : Prop := ∀ f i, f.key i ∉ keys → f.key i ∉ quietKeys → u.get f i = s.get f i

/-- A host path over which a command reaches block `blk`: the path is served, its writes are enabled, the part is at DONE, the variant has the
block and no lock bit stands over it (R35, R44, R47, R384). -/
def State.takes (s : State) (p : Path) (blk : Nat) : Bool :=
  s.pathUp p && s.booted && s.pathWrites p && s.variant.has blk && !bitAt (s.get Reg.SYS_LOCK_LOCK) blk

/-- The host command completes over path p: it answers `st` there (R60) and, apart from that answer, leaves the state u, of which P holds. The
access itself counts first, as an access by the owner of a transaction (R55): `s.touch p`. -/
def Answers (i : Instr) (s : State) (p : Path) (st : Status) (P : State → Prop) : Prop := ∃ u, exec i s = .next (u.answer p st) ∧ P u

/-- From s to u the part gave a frame of the management consumer to a transmit queue (R36): but for the host block, that queue, its fill mark
and a free number nothing changed. -/
def Sent (s u : State) : Prop :=
  { u with host := s.host, qm := { u.qm with tx := s.qm.tx, busy := s.qm.busy }, freeCtr := s.freeCtr, regs := s.regs } = s
    ∧ ∀ f i, (∀ q, f.key i ≠ Reg.QMGR_Q_STAT_MAX_FILL.key q) → u.get f i = s.get f i

/-- From s to u the part sent the response with this status, position and data to a request, from the address and MGMT_PORT of the port that
the request came on, and keeps it as the newest of at most 16 (R36, R38); nothing else changed. -/
def Responded (s u : State) (r : OmpRequest) (write : Bool) (st : Status) (fail : Nat) (data : List Word) : Prop :=
  let x : OmpResponse :=
    { srcIp := r.srcIp, srcPort := r.srcPort, seq := r.seq, port := r.port, dstMac := r.srcMac, fromIp := s.portIp r.port,
      fromPort := s.get Reg.SYS_PATH_CTL_MGMT_PORT, count := r.count, addr := r.addr, index := r.index, write := write,
      status := st, fail := fail, data := data }
  u.host = { s.host with lastResponse := some x, responses := (x :: s.host.responses).take 16 } ∧ Sent s u

/-- n consecutive words of the point window from its word w on: the value and the second word of each record (R42, R63). -/
def State.pointWords (s : State) (w n : Nat) : List Word :=
  (List.range n).map (fun j => if (w + j) % 2 = 0 then (s.point ((w + j) / 2)).value else BitVec.ofNat 32 (s.point ((w + j) / 2)).word1)

/-- From s to u the point at address a took this record, and nothing else changed but the marks that a host write of a point leaves. -/
def PointTaken (s u : State) (a : Nat) (r : Point) : Prop :=
  u.point a = r ∧ (∀ b, b ≠ a → u.point b = s.point b) ∧ storeFind u.wlog.host a = some () ∧ PointMarks s u
    ∧ { u with points := s.points, wlog := s.wlog, mirror := s.mirror, loops := s.loops, alloc := s.alloc } = s

/-- From s to u every register field reads as before but those of these keys. -/
def RegsBut (keys : List Nat) (s u : State) : Prop := ∀ f i, f.key i ∉ keys → u.get f i = s.get f i

end Sys2Proof.Machine
end

