-- ==== Sys2Proof/Certificates/Slice0/Obligations.lean ====
section
/-! DEFINITION. The statements for the provers. Each docstring says what the statement states and which rules of the spec it rests on. -/

open Sys2Proof Sys2Proof.Machine

/-- A step executes the command at the front of the queue. For every command c and state s: a step of s with c at the front of its queue is
exec of c on s with the queue's rest. (A block is asked this in place of a statement on decoding; the queue is the model's own, first in,
first out.) (R35, R36) -/
def Obligations.StepRunsCommand : Prop :=
  ∀ (c : Instr) (s : State), step { s with pending := c :: s.pending } = exec c s

/-- On an empty queue the block idles while time passes. Model's choice (log entry 10): on an empty queue a step answers a next state with the
queue still empty, in which the time base has advanced by at most 1 us and not past the next boundary of a running part, with the mode,
the phase of the cycle, the pump cycle count and the fuses as they were. (R15) -/
def Obligations.StepIdles : Prop :=
  ∀ s : State, s.pending = [] → ∃ t, step s = .next t ∧ t.core = s.core ∧ s.now ≤ t.now ∧ t.now ≤ s.now + 1000
    ∧ (s.running = true → s.now ≤ s.nextBnd → t.now ≤ s.nextBnd)

/-- No command changes the queue, the variant or the grade. For every command and state: where exec answers a next state, the waiting
commands, the variant and the temperature grade are as they were. (R2, R35) -/
def Obligations.QueueKept : Prop :=
  ∀ (c : Instr) (s t : State), exec c s = .next t → t.pending = s.pending ∧ t.variant = s.variant ∧ t.gradeXT = s.gradeXT

/-- Every command runs; only the ROM stage of a part with open factory test is refused. For every command and state exec answers a next state,
but for BOOT_ROM_DONE on a part that is in stage ROM with BOOT_SEL 0b11 and MFG_OFF not blown (factory test, which the spec does not
describe), which is refused under the name factoryTest. No command faults. (R385, R443) -/
def Obligations.NoStop : Prop :=
  ∀ (c : Instr) (s : State), (∃ t, exec c s = .next t)
    ∨ (exec c s = .refused .factoryTest ∧ s.fuses.mfgOff = false
        ∧ ∃ straps trip, c = .bootRomDone straps true trip ∧ straps.bootSel = 3 ∧ s.atStage 1 = true)

/-- The invariant of the fuse bank: every step blows fuses only further, in one part that keeps its variant. For every variant v, fuse bank f
and state s of variant v whose fuses are f or blown further: if a step of s answers a next state, that state has variant v too, and its
fuses are f or blown further: a VALID slot keeps its hash and stays VALID, a blown REVOKE or DBG_OFF fuse stays blown, the anti-rollback
count never falls, MFG_OFF and the base MAC address stay. Commands, restarts, resets and the passing of time are all steps. (R436, R437,
R438, R441, R442) -/
def Obligations.FusesOnlyBlown : Prop :=
  ∀ (v : Variant) (f : Fuses) (s t : State), FuseInv v f s → step s = .next t → FuseInv v f t

/-- Only these rows change the operating state. For every command and state: where exec answers a next state whose operating state differs,
the command is a pump boundary (where a restart, RUN, PARK, SLEEP and REPLAY take effect), the output reserve instant or the end of
restart cycles (which can end in the fatal reset of a third overrun), the end of a replay, BOOT_DONE, SLEEP_ENTER, BACKUP_ENTER, power-on,
a brown-out, RESET_N low, an expiry of the service watchdog, or a wake. No pump instruction, no read or write over a host path, no frame
received and no other event of a block changes it. (R388, R403, R406, R408) -/
def Obligations.ModeMoves : Prop :=
  ∀ (c : Instr) (s t : State), exec c s = .next t → t.mode ≠ s.mode → c.movesMode = true

/-- What reset leaves, and the fuse invariant there. After reset the queue is empty, the part is in the boot stages, no pump cycle runs, the
register store lists nothing, so every field reads its reset value, the point image lists nothing, no plate, transaction, fuse operation
or restart is in progress, the arming of fuse commands is clear and no task runs. The state after reset meets the invariant of
FusesOnlyBlown for its own variant and fuse bank, and so does every state for its own. (R46, R79, R127, R390, R441) -/
def Obligations.ResetState : Prop :=
  (
    State.reset.pending = [] ∧ State.reset.mode = .boot ∧ State.reset.running = false ∧ State.reset.regs = [] ∧ State.reset.points = []
      ∧ (∀ f i, State.reset.get f i = f.resetOf i) ∧ State.reset.host.phase = .idle ∧ State.reset.sec.fuseOp = none
      ∧ State.reset.sec.armedAt = none ∧ State.reset.pump.restartReq = none ∧ State.reset.pump.running = none
      ∧ ∀ t : Task, (State.reset.proc t).ba = false ∧ (State.reset.proc t).a = 0 ∧ (State.reset.proc t).nesting = [] ∧ (State.reset.proc t).calls = [])
  ∧ (
    FuseInv State.reset.variant State.reset.fuses State.reset ∧ ∀ s : State, FuseInv s.variant s.fuses s)

/-- The bit-form reads, the quality reads, the BA instructions, RISE and FALL. For every state in which task t runs, an instruction of 1 ns
ends before the output reserve instant and the instruction lies within its block, each of LDB, LDBN, ANDB, ANDBN, ORB, ORBN, XORB and
XORBN completes: BA takes the instruction's function of BA and the addressed bit of the point's raw value, the position moves one word, 1
ns is charged, and nothing else changes. For every state in which task t runs, an instruction of 1 ns ends before the output reserve
instant and the instruction lies within its block, ANDQ, ANDNQ and LDQ combine BA with whether the point's quality byte has class good
(bits 7:6 equal 0), NOTBA, SETBA and CLRBA set BA to not BA, 1 and 0; the position moves one word, 1 ns is charged, and nothing else
changes. For every state in which task t runs, 2 ns are left and the instruction lies within its block, RISE sets BA to BA and not M and
FALL sets BA to M and not BA, M being the edge memory of the named instance; M then takes the former BA. No other edge instance, no timer,
counter, point or register changes. (R66, R98, R104, R109) -/
def Obligations.BitReads : Prop :=
  (
    ∀ e ∈ ([(Instr.ldb, fun _ b => b), (.ldbn, fun _ b => !b), (.andb, fun a b => a && b), (.andbn, fun a b => a && !b),
        (.orb, fun a b => a || b), (.orbn, fun a b => a || !b), (.xorb, fun a b => a != b), (.xorbn, fun a b => a != !b)]
        : List ((PointAddr → BitVec 5 → Instr) × (Bool → Bool → Bool))),
    ∀ (s : State) (t : Task) (p : PointAddr) (bit : BitVec 5), Ready s t 1 →
      Completes (e.1 p bit) s fun u => OnlyProc s u t 1
        { s.ahead t 1 with ba := e.2 (s.proc t).ba ((s.point p.toNat).value.getLsbD bit.toNat) })
  ∧ (
    ∀ e ∈ ([(Instr.andq, fun a g => a && g), (.andnq, fun a g => a && !g), (.ldq, fun _ g => g), (fun _ => .notba, fun a _ => !a),
        (fun _ => .setba, fun _ _ => true), (fun _ => .clrba, fun _ _ => false)] : List ((PointAddr → Instr) × (Bool → Bool → Bool))),
    ∀ (s : State) (t : Task) (p : PointAddr), Ready s t 1 →
      Completes (e.1 p) s fun u => OnlyProc s u t 1
        { s.ahead t 1 with ba := e.2 (s.proc t).ba (decide ((s.point p.toNat).quality.toNat / 64 = 0)) })
  ∧ (
    ∀ (s : State) (t : Task) (i : BitVec 16), Ready s t 2 →
      ∀ e ∈ ([(Instr.rise i, fun m a => a && !m), (Instr.fall i, fun m a => m && !a)] : List (Instr × (Bool → Bool → Bool))),
      Completes e.1 s fun u =>
        (∃ inst, OnlyInst s u t 2 { s.ahead t 1 with ba := e.2 (s.edge i.toNat) (s.proc t).ba } inst
          ∧ { inst with edges := s.pump.inst.edges } = s.pump.inst)
        ∧ u.edge i.toNat = (s.proc t).ba ∧ ∀ j, j ≠ i.toNat → u.edge j = s.edge j)

/-- The condition codes, in the condition loads, the jump, the call and the return. For every state and every condition code of the table of
R105, LDC, ANDC and ORC combine BA with the condition; JC jumps to a target within the block exactly when it holds, and CALL to a block
that the plate defines pushes the return position and enters the block exactly when it holds (below call level 32), and RET above call
level 0 pops the return position exactly when it holds; where the condition does not hold each only advances. For codes 13 to 31, which
are reserved, each of the six meets an instruction fault. (R105) -/
def Obligations.Conditions : Prop :=
  ∀ (s : State) (t : Task) (c : BitVec 5) (target : BitVec 20) (block : BitVec 16), Ready s t 4 → Ready s t 3 → Ready s t 2 → Ready s t 1 →
    let p := s.proc t
    match [true, p.ba, !p.ba, p.z && !p.u, !p.z || p.u, p.n, p.n || p.z, !p.n && !p.z && !p.u, !p.n && !p.u, p.v, !p.v, p.u, !p.u][c.toNat]? with
    | some b =>
      Completes (.ldc c) s (fun u => OnlyProc s u t 1 { s.ahead t 1 with ba := b })
      ∧ Completes (.andc c) s (fun u => OnlyProc s u t 1 { s.ahead t 1 with ba := p.ba && b })
      ∧ Completes (.orc c) s (fun u => OnlyProc s u t 1 { s.ahead t 1 with ba := p.ba || b })
      ∧ (target.toNat < (s.blockLen p.block).getD 0 → Completes (.jc c target) s (fun u =>
          OnlyProc s u t 2 { s.ahead t 1 with offset := if b then target.toNat else p.offset + 1 }))
      ∧ (s.blockLen block.toNat ≠ none → p.calls.length < 32 → Completes (.call c block) s (fun u =>
          OnlyProc s u t 4 (if b then { p with calls := (p.block, p.offset + 1) :: p.calls, block := block.toNat, offset := 0 }
            else s.ahead t 1)))
      ∧ (b = false → Completes (.ret c) s fun u => OnlyProc s u t 3 (s.ahead t 1))
      ∧ (∀ q o r, b = true → p.calls = (q, o) :: r → Completes (.ret c) s fun u =>
          OnlyProc s u t 3 { p with calls := r, block := q, offset := o })
    | none => ∀ i ∈ [Instr.ldc c, .andc c, .orc c, .jc c target, .call c block, .ret c], Completes i s fun u => TaskFaulted s u t 1 true

/-- What meets an instruction fault, and the 33rd call level. For every state in which task t runs, 1 ns is left before the output reserve
instant and the instruction lies within its block, each of these ends the task's scan with an instruction fault: an opcode or field that
R96 forbids (the row INSTRUCTION_FAULT), whatever its condition a jump whose target lies beyond the block's last word and a call to a
block that the plate does not define, LD or ST with a SEL that its operand form does not allow, ST with SEL age, and ST with an immediate
or accumulator operand. PUMP_FAULT says where, code 0x0304 is recorded, 1 ns is charged and no point, instance or accumulator changes. For
every state in which task t runs, 4 ns fit and 32 call levels are open, a CALL whose condition holds to a block that the plate defines
meets a stack fault, 4 ns being charged. (R83, R96, R113) -/
def Obligations.TaskFaults : Prop :=
  (
    ∀ (s : State) (t : Task) (c : BitVec 5) (target : BitVec 20) (block : BitVec 16) (x : Acc) (sel : Sel) (op : Operand), Ready s t 1 →
      Completes .instructionFault s (fun u => TaskFaulted s u t 1 true)
      ∧ ((s.blockLen (s.proc t).block).getD 0 ≤ target.toNat → Completes (.jc c target) s fun u => TaskFaulted s u t 1 true)
      ∧ (s.blockLen block.toNat = none → Completes (.call c block) s fun u => TaskFaulted s u t 1 true)
      ∧ (sel ≠ .value → (∃ w, op = .imm w) ∨ op = .partner → Completes (.ld x sel op) s fun u => TaskFaulted s u t 1 true)
      ∧ ((∃ a, op = .direct a ∨ op = .indexed a) → Completes (.st x .age op) s fun u => TaskFaulted s u t 1 true)
      ∧ ((∃ w, op = .imm w) ∨ op = .partner → Completes (.st x sel op) s fun u => TaskFaulted s u t 1 true))
  ∧ (
    ∀ (s : State) (t : Task) (block : BitVec 16), Ready s t 4 → s.blockLen block.toNat ≠ none → 32 ≤ (s.proc t).calls.length →
      Completes (.call 0 block) s fun u => TaskFaulted s u t 4 false)

/-- NEST pushes, a JOIN pops and combines, and both stacks' limits fault. For every state in which task t runs, 1 ns is left before the output
reserve instant and the instruction lies within its block: NEST with fewer than 16 entries pushes BA and leaves BA unchanged, and with 16
meets a stack fault; each of the six JOIN instructions pops the top entry s and sets BA to s combined with BA, negated first by JOINAN,
JOINON and JOINXN, and with the nesting stack empty meets a stack fault. Nothing else changes where the instruction completes. (R107) -/
def Obligations.Nesting : Prop :=
  ∀ (s : State) (t : Task), Ready s t 1 →
    ((s.proc t).nesting.length < 16 → Completes .nest s fun u =>
      OnlyProc s u t 1 { s.ahead t 1 with nesting := (s.proc t).ba :: (s.proc t).nesting })
    ∧ (16 ≤ (s.proc t).nesting.length → Completes .nest s fun u => TaskFaulted s u t 1 false)
    ∧ ∀ e ∈ ([(Instr.joina, fun s a => s && a), (.joinan, fun s a => s && !a), (.joino, fun s a => s || a), (.joinon, fun s a => s || !a),
        (.joinx, fun s a => s != a), (.joinxn, fun s a => s != !a)] : List (Instr × (Bool → Bool → Bool))),
      (∀ b r, (s.proc t).nesting = b :: r → Completes e.1 s fun u =>
        OnlyProc s u t 1 { s.ahead t 1 with ba := e.2 b (s.proc t).ba, nesting := r })
      ∧ ((s.proc t).nesting = [] → Completes e.1 s fun u => TaskFaulted s u t 1 false)

/-- The bit-form writes change one bit of a storable point, set its quality good and its stamp; elsewhere they are discarded. For every state
in which task t runs, 1 ns is left before the output reserve instant and the instruction lies within its block: SETB and CLRB with BA 1,
OUTB and OUTBN always, write the addressed bit (1, 0, BA, not BA) of a point that R72 lets the pump write, every other bit of the value as
it was, quality good with reason NONE, the cycle's stamp, type and flags kept; on any other point the write is discarded and counted. SETB
and CLRB with BA 0 write nothing. No other point, and nothing else, changes. (R104, R72) -/
def Obligations.BitWrites : Prop :=
  ∀ (s : State) (t : Task) (p : PointAddr) (bit : BitVec 5), Ready s t 1 →
    ∀ e ∈ ([(Instr.setb p bit, (s.proc t).ba, true), (.clrb p bit, (s.proc t).ba, false), (.outb p bit, true, (s.proc t).ba),
      (.outbn p bit, true, !(s.proc t).ba)] : List (Instr × Bool × Bool)),
    (e.2.1 = false → Completes e.1 s fun u => OnlyProc s u t 1 (s.ahead t 1))
    ∧ (e.2.1 = true → s.storable p.toNat = true → Completes e.1 s fun u => ∃ v : Word,
        (∀ j < 32, v.getLsbD j = if j = bit.toNat then e.2.2 else (s.point p.toNat).value.getLsbD j)
        ∧ OnlyPoint s u t 1 (s.ahead t 1) p.toNat { s.point p.toNat with value := v, quality := 0, stamp := s.stamp })
    ∧ (e.2.1 = true → s.storable p.toNat = false → Completes e.1 s fun u => Discarded s u t 1 (s.ahead t 1))

/-- LD in every operand form. For every state in which task t runs and the instruction fits (it ends before the output reserve instant and its
words lie within its block): LD of a point, direct or indexed by the partner within the point space, loads its value, its quality byte
zero-extended or its age in cycles modulo 65,536, as SEL says; an indexed address beyond 0xF_FFFF loads 0 and sets V; LD of an immediate
or of the partner loads it. The flags are else unchanged, an indexed operand costs 1 ns more, an immediate one word more, and nothing else
changes. (R94, R101, R102) -/
def Obligations.Loads : Prop :=
  ∀ (s : State) (t : Task) (x : Acc) (sel : Sel) (a : PointAddr) (w : Word),
    let part : Nat → Word := fun n => match sel with
      | .value => (s.point n).value
      | .quality => BitVec.ofNat 32 (s.point n).quality.toNat
      | .age => BitVec.ofNat 32 ((s.n + 2 ^ 16 - (s.point n).stamp.toNat) % 2 ^ 16)
    let other := (s.proc t).partner x
    let n := (a.toNat + other.toNat) % 2 ^ 32
    (Ready s t 1 → Completes (.ld x sel (.direct a)) s fun u => OnlyProc s u t 1 ((s.ahead t 1).setAcc x (part a.toNat)))
    ∧ (Ready s t 2 → n ≤ 0xFFFFF → Completes (.ld x sel (.indexed a)) s fun u => OnlyProc s u t 2 ((s.ahead t 1).setAcc x (part n)))
    ∧ (Ready s t 2 → 0xFFFFF < n → Completes (.ld x sel (.indexed a)) s fun u =>
        OnlyProc s u t 2 { (s.ahead t 1).setAcc x 0 with v := true })
    ∧ (Ready s t 1 2 → Completes (.ld x .value (.imm w)) s fun u => OnlyProc s u t 1 ((s.ahead t 2).setAcc x w))
    ∧ (Ready s t 1 → Completes (.ld x .value .partner) s fun u => OnlyProc s u t 1 ((s.ahead t 1).setAcc x other))

/-- ST of a value and of a quality, and LOOPREQ. For every state in which task t runs and the instruction fits (it ends before the output
reserve instant and its words lie within its block): ST of a value to a point that R72 lets the pump write, direct or indexed within the
point space, writes the accumulator as its value, quality good with reason NONE, or bad with reason CONVERSION where a NaN goes to an F32
point, and the cycle's stamp; ST of a quality writes bits 7:0 of the accumulator, for a reason to 0x0D with the class paired with it, and
the stamp, leaving the value. For a reserved reason nothing is written and V is set. Type and flags of the point, and every other point,
are kept. A store that R72 forbids is discarded and counted, and one beyond the point space also sets V. For every state in which task t
runs, 2 ns are left and the instruction lies within its block, LOOPREQ with BA 1 stores A at 0xE_0000 + 16 x loop, as a pump store does,
where R72 lets the pump write it, and is discarded else; with BA 0 it only advances. Nothing else changes, and no status is returned.
(R67, R72, R101, R103, R119) -/
def Obligations.Stores : Prop :=
  (
    ∀ (s : State) (t : Task) (x : Acc) (a : PointAddr),
      let w := (s.proc t).acc x
      let n := (a.toNat + ((s.proc t).partner x).toNat) % 2 ^ 32
      ∀ e ∈ ([(Operand.direct a, a.toNat, 1), (.indexed a, n, 2)] : List (Operand × Nat × Nat)), Ready s t e.2.2 →
      (e.2.1 ≤ 0xFFFFF → s.storable e.2.1 = true →
        Completes (.st x .value e.1) s (fun u => OnlyPoint s u t e.2.2 (s.ahead t 1) e.2.1
          { s.point e.2.1 with value := w, quality := if (s.point e.2.1).type = 3 ∧ isNan32 w = true then qual 0x06 else qual 0x00, stamp := s.stamp })
        ∧ (w.toNat % 64 ≤ 0x0D → Completes (.st x .quality e.1) s fun u => OnlyPoint s u t e.2.2 (s.ahead t 1) e.2.1
          { s.point e.2.1 with quality := qual (w.toNat % 64), stamp := s.stamp })
        ∧ (0x20 ≤ w.toNat % 64 → Completes (.st x .quality e.1) s fun u => OnlyPoint s u t e.2.2 (s.ahead t 1) e.2.1
          { s.point e.2.1 with quality := w.setWidth 8, stamp := s.stamp }))
      ∧ (e.2.1 ≤ 0xFFFFF → 0x0D < w.toNat % 64 → w.toNat % 64 < 0x20 → Completes (.st x .quality e.1) s fun u =>
          OnlyProc s u t e.2.2 { s.ahead t 1 with v := true })
      ∧ (e.2.1 ≤ 0xFFFFF → s.storable e.2.1 = false → Completes (.st x .value e.1) s fun u => Discarded s u t e.2.2 (s.ahead t 1))
      ∧ (e.2.1 ≤ 0xFFFFF → s.storable e.2.1 = false → w.toNat % 64 ≤ 0x0D ∨ 0x20 ≤ w.toNat % 64 →
          Completes (.st x .quality e.1) s fun u => Discarded s u t e.2.2 (s.ahead t 1))
      ∧ (0xFFFFF < e.2.1 → ∀ sel, sel ≠ .age → Completes (.st x sel e.1) s fun u => Discarded s u t e.2.2 { s.ahead t 1 with v := true }))
  ∧ (
    ∀ (s : State) (t : Task) (i : BitVec 9), Ready s t 2 →
      let a := 0xE0000 + 16 * i.toNat
      ((s.proc t).ba = false → Completes (.loopreq i) s fun u => OnlyProc s u t 2 (s.ahead t 1))
      ∧ ((s.proc t).ba = true → s.storable a = true → Completes (.loopreq i) s fun u => OnlyPoint s u t 2 (s.ahead t 1) a
          { s.point a with value := (s.proc t).a, quality := if (s.point a).type = 3 ∧ isNan32 (s.proc t).a = true then qual 0x06 else qual 0x00, stamp := s.stamp })
      ∧ ((s.proc t).ba = true → s.storable a = false → Completes (.loopreq i) s fun u => Discarded s u t 2 (s.ahead t 1)))

/-- ADD, SUB, MUL, DIV, MOD and their overflow against exact integers. For every state in which task t runs and the instruction fits (it ends
before the output reserve instant and its words lie within its block), and every operand form: the accumulator takes the low 32 bits of
the exact signed result (for DIV the quotient truncated toward zero, for MOD the remainder with the dividend's sign); V is 1 exactly where
the result, for MOD the quotient, is not representable in I32, or where an indexed address lay beyond the point space; Z and N come from
the word written, U is 0. With a zero divisor DIV, DIVU and MOD give 0 and set V; DIVU divides unsigned. Nothing else changes. (R106,
R110) -/
def Obligations.IntegerArithmetic : Prop :=
  ∀ (s : State) (t : Task) (x : Acc) (op : Operand),
    let a := (s.proc t).acc x
    let o := s.operand (s.proc t) x .value op
    let b := o.1
    let done (u : State) (cost : Nat) (r : Word) (v : Bool) : Prop := OnlyProc s u t (cost + operandExtra op)
      { (s.ahead t (operandWords op)).setAcc x r with z := decide (r = 0), n := r.msb, v := v || o.2, u := false }
    let wide (z : Int) : Bool := decide (z < -2147483648 ∨ 2147483647 < z)
    (∀ e ∈ ([(Instr.add, 1, a.toInt + b.toInt), (.sub, 1, a.toInt - b.toInt), (.mul, 2, a.toInt * b.toInt)]
        : List ((Acc → Operand → Instr) × Nat × Int)),
      Ready s t (e.2.1 + operandExtra op) (operandWords op) → Completes (e.1 x op) s fun u => done u e.2.1 (BitVec.ofInt 32 e.2.2) (wide e.2.2))
    ∧ (Ready s t (12 + operandExtra op) (operandWords op) → b ≠ 0 →
      Completes (.div x op) s (fun u => done u 12 (BitVec.ofInt 32 (a.toInt.tdiv b.toInt)) (wide (a.toInt.tdiv b.toInt)))
      ∧ Completes (.mod x op) s (fun u => done u 12 (BitVec.ofInt 32 (a.toInt.tmod b.toInt)) (wide (a.toInt.tdiv b.toInt)))
      ∧ Completes (.divu x op) s (fun u => done u 12 (BitVec.ofNat 32 (a.toNat / b.toNat)) false))
    ∧ (Ready s t (12 + operandExtra op) (operandWords op) → b = 0 → ∀ i ∈ [Instr.div x op, .mod x op, .divu x op], Completes i s fun u => done u 12 0 true)

/-- Word logic, shifts, comparisons; NEG, ABS, SWAP, LDCYC, LDTASK and NOP. For every state in which task t runs and the instruction fits (it
ends before the output reserve instant and its words lie within its block), and every operand form: ANDW, ORW and XORW combine bit by bit,
SHL, SHR and SAR shift by the low 5 bits of the operand, and set Z and N from the word written, V and U to 0; CMP and CMPU leave the
accumulators, set Z where the operands are equal and N where the accumulator is smaller, signed for CMP and unsigned for CMPU, V and U to
0. V is 1 where an indexed address lay beyond the point space. Nothing else changes. For every state in which task t runs, 1 ns is left
before the output reserve instant and the instruction lies within its block: NEG and ABS write the low 32 bits of the exact result and set
V where it is not representable in I32, Z and N from the word written, U to 0; SWAP exchanges A and B; LDCYC puts the 64 bits of n into A
and B; LDTASK puts the task's number (0 FAST, 1 HOLD, 2 SLOW) into A; NOP only advances. Nothing else changes. (R98, R106, R110, R118) -/
def Obligations.WordLogic : Prop :=
  (
    ∀ (s : State) (t : Task) (x : Acc) (op : Operand), Ready s t (1 + operandExtra op) (operandWords op) →
      let a := (s.proc t).acc x
      let o := s.operand (s.proc t) x .value op
      let b := o.1
      (∀ e ∈ ([(Instr.andw, fun j => a.getLsbD j && b.getLsbD j), (.orw, fun j => a.getLsbD j || b.getLsbD j),
          (.xorw, fun j => a.getLsbD j != b.getLsbD j), (.shl, fun j => decide (b.toNat % 32 ≤ j) && a.getLsbD (j - b.toNat % 32)),
          (.shr, fun j => a.getLsbD (j + b.toNat % 32)),
          (.sar, fun j => if j + b.toNat % 32 < 32 then a.getLsbD (j + b.toNat % 32) else a.getLsbD 31)]
          : List ((Acc → Operand → Instr) × (Nat → Bool))),
        Completes (e.1 x op) s fun u => ∃ r : Word, (∀ j < 32, r.getLsbD j = e.2 j) ∧ OnlyProc s u t (1 + operandExtra op)
          { (s.ahead t (operandWords op)).setAcc x r with z := decide (r = 0), n := r.getLsbD 31, v := o.2, u := false })
      ∧ ∀ e ∈ ([(Instr.cmp, decide (a.toInt < b.toInt)), (.cmpu, decide (a.toNat < b.toNat))] : List ((Acc → Operand → Instr) × Bool)),
        Completes (e.1 x op) s fun u => OnlyProc s u t (1 + operandExtra op)
          { s.ahead t (operandWords op) with z := decide (a = b), n := e.2, v := o.2, u := false })
  ∧ (
    ∀ (s : State) (t : Task) (x : Acc), Ready s t 1 →
      let a := (s.proc t).acc x
      (∀ e ∈ ([(Instr.neg, -a.toInt), (.abs, (a.toInt.natAbs : Int))] : List ((Acc → Instr) × Int)),
        Completes (e.1 x) s fun u => OnlyProc s u t 1 { (s.ahead t 1).setAcc x (BitVec.ofInt 32 e.2) with
          z := decide (BitVec.ofInt 32 e.2 = 0), n := (BitVec.ofInt 32 e.2).msb, v := decide (2147483647 < e.2), u := false })
      ∧ Completes .swap s (fun u => OnlyProc s u t 1 { s.ahead t 1 with a := (s.proc t).b, b := (s.proc t).a })
      ∧ Completes .ldcyc s (fun u => OnlyProc s u t 1 { s.ahead t 1 with a := BitVec.ofNat 32 s.n, b := BitVec.ofNat 32 (s.n >>> 32) })
      ∧ Completes .ldtask s (fun u => OnlyProc s u t 1 { s.ahead t 1 with
          a := match t with | .fast => 0 | .hold => 1 | .slow => 2 })
      ∧ Completes .nop s (fun u => OnlyProc s u t 1 (s.ahead t 1)))

/-- The binary32 instructions of two operands, and NaN operands. For every state in which task t runs and the instruction fits (it ends before
the output reserve instant and its words lie within its block), and every operand form: FADD, FSUB, FMUL, FDIV, FMIN and FMAX write the
binary32 result, Z where it is a zero, N where its sign bit is set and it is no NaN, U where it is a NaN, and V where finite operands gave
an infinite result other than by a division by zero; FCMP leaves the accumulators, sets U where either operand is a NaN, and else Z and N
by the comparison, V to 0. V is 1 where an indexed address lay beyond the point space. Nothing else changes. Whatever the other operand,
FADD, FSUB, FMUL, FDIV, FMIN and FMAX of a NaN give 0x7FC0_0000, and so does FSQRT of a NaN; a comparison with a NaN is unordered. (R106,
R111) -/
def Obligations.FloatArithmetic : Prop :=
  (
    ∀ (s : State) (t : Task) (x : Acc) (op : Operand),
      let a := (s.proc t).acc x
      let o := s.operand (s.proc t) x .value op
      let b := o.1
      (∀ e ∈ ([(Instr.fadd, 2, Fp.f32.add a.toNat b.toNat), (.fsub, 2, Fp.f32.sub a.toNat b.toNat), (.fmul, 2, Fp.f32.mul a.toNat b.toNat),
          (.fdiv, 10, Fp.f32.div a.toNat b.toNat), (.fmin, 2, Fp.f32.minimum a.toNat b.toNat), (.fmax, 2, Fp.f32.maximum a.toNat b.toNat)]
          : List ((Acc → Operand → Instr) × Nat × Nat)),
        Ready s t (e.2.1 + operandExtra op) (operandWords op) → Completes (e.1 x op) s fun u =>
          let r := BitVec.ofNat 32 e.2.2
          OnlyProc s u t (e.2.1 + operandExtra op) { (s.ahead t (operandWords op)).setAcc x r with
            z := Fp.f32.isZero r.toNat, n := r.getLsbD 31 && !Fp.f32.isNan r.toNat, u := Fp.f32.isNan r.toNat,
            v := (Fp.f32.isFinite a.toNat && Fp.f32.isFinite b.toNat && Fp.f32.isInf r.toNat
              && !(decide (e.2.1 = 10) && Fp.f32.isZero b.toNat)) || o.2 })
      ∧ (Ready s t (2 + operandExtra op) (operandWords op) → Completes (.fcmp x op) s fun u => OnlyProc s u t (2 + operandExtra op)
          { s.ahead t (operandWords op) with
            z := decide (Fp.f32.cmp a.toNat b.toNat = some 0), n := (match Fp.f32.cmp a.toNat b.toNat with | some c => decide (c < 0) | none => false),
            u := Fp.f32.isNan a.toNat || Fp.f32.isNan b.toNat, v := o.2 }))
  ∧ (
    ∀ a b : Word, Fp.f32.isNan a.toNat = true ∨ Fp.f32.isNan b.toNat = true →
      (∀ f ∈ [Fp.f32.add, Fp.f32.sub, Fp.f32.mul, Fp.f32.div, Fp.f32.minimum, Fp.f32.maximum], f a.toNat b.toNat = 0x7FC00000)
      ∧ (Fp.f32.isNan a.toNat = true → Fp.f32.sqrt a.toNat = 0x7FC00000) ∧ Fp.f32.cmp a.toNat b.toNat = none)

/-- FNEG, FABS, FSQRT, ITF and UTF. For every state in which task t runs and the instruction fits (it ends before the output reserve instant
and its words lie within its block): FNEG and FABS change bit 31 of the accumulator alone, to its complement and to 0; FSQRT writes the
binary32 square root; ITF and UTF write the binary32 nearest to the signed and the unsigned integer. Z, N and U come from the result as
FLT states and V is 0 unless a finite operand gave an infinite result. Nothing else changes. (R111, R112) -/
def Obligations.FloatSingle : Prop :=
  ∀ (s : State) (t : Task) (x : Acc),
    let a := (s.proc t).acc x
    ∀ e ∈ ([(Instr.fneg, 1, BitVec.ofNat 32 (if a.getLsbD 31 then a.toNat - 2 ^ 31 else a.toNat + 2 ^ 31)),
        (.fabs, 1, BitVec.ofNat 32 (a.toNat % 2 ^ 31)), (.fsqrt, 12, BitVec.ofNat 32 (Fp.f32.sqrt a.toNat)),
        (.itf, 2, BitVec.ofNat 32 (Fp.f32.ofInt a.toInt)), (.utf, 2, BitVec.ofNat 32 (Fp.f32.ofInt a.toNat))]
        : List ((Acc → Instr) × Nat × Word)),
      Ready s t e.2.1 → Completes (e.1 x) s fun u => OnlyProc s u t e.2.1 { (s.ahead t 1).setAcc x e.2.2 with
        z := Fp.f32.isZero e.2.2.toNat, n := e.2.2.getLsbD 31 && !Fp.f32.isNan e.2.2.toNat, u := Fp.f32.isNan e.2.2.toNat,
        v := (decide (e.2.1 = 2) || Fp.f32.isFinite a.toNat) && Fp.f32.isInf e.2.2.toNat }

/-- FTI and FTU round to nearest even, saturate, and give 0 for a NaN. For every state in which task t runs, 2 ns are left and the instruction
lies within its block: with z the operand rounded to an integer, ties to even (an infinity beyond either range), FTI writes z where it
lies in I32 and else the nearer end with V set, FTU the same for U32; a NaN gives 0 with V and U set. Z and N come from the integer
written in every case, V and U are else 0, and nothing else changes. (R112) -/
def Obligations.FloatToInteger : Prop :=
  ∀ (s : State) (t : Task) (x : Acc), Ready s t 2 →
    ∀ e ∈ ([(Instr.fti, -2147483648, 2147483647), (.ftu, 0, 4294967295)] : List ((Acc → Instr) × Int × Int)),
    Completes (e.1 x) s fun u =>
      let z := Fp.f32.toInt ((s.proc t).acc x).toNat (2 ^ 40)
      let r : Word := match z with
        | none => 0
        | some v => BitVec.ofInt 32 (max e.2.1 (min e.2.2 v))
      OnlyProc s u t 2 { (s.ahead t 1).setAcc x r with
        z := decide (r = 0), n := r.msb, u := decide (z = none),
        v := match z with | none => true | some v => decide (v < e.2.1 ∨ e.2.2 < v) }

/-- TON, TOF and TP follow their state tables. For every state in which task t runs, 6 ns are left and the instruction lies within its block,
TON of an instance in IDLE, TIMING or DONE, ET being what the accrual of R120 leaves it at, gives the instance the state and ET of R122's
row for the present IN (BA) and PT (A): BA takes Q, B takes ET in whole milliseconds, IN and last_n are kept for the next scan. No other
instance, no point and no register changes. For every state in which task t runs, 6 ns are left and the instruction lies within its block,
TOF of an instance in OFF, ON or TIMING, ET being what the accrual of R120 leaves it at, gives the instance the state and ET of R123's row
for the present IN (BA) and PT (A): BA takes Q, which is 1 in ON and TIMING, B takes ET in whole milliseconds. No other instance, no point
and no register changes. For every state in which task t runs, 6 ns are left and the instruction lies within its block, TP of an instance
in IDLE, PULSE or END, ET being what the accrual of R120 leaves it at, gives the instance the state and ET of R124's row for the present
IN (BA) and PT (A): BA takes Q, which is 1 in PULSE, B takes ET in whole milliseconds. No other instance, no point and no register
changes. (R122, R123, R124) -/
def Obligations.Timers : Prop :=
  (
    ∀ (s : State) (t : Task) (i : BitVec 16), Ready s t 6 →
      let m := s.timer i.toNat
      let p := s.proc t
      let pt := p.a.toNat
      let et := match m.last with
        | none => m.et
        | some l => if m.state = 1 then min (m.et + (s.n + 2 ^ 48 - l) % 2 ^ 48 * s.get Reg.PUMP_CYCLE_CTL_T_P) (pt * 100) else m.et
      let r : Nat × Nat := match m.state, p.ba with
        | _, false => (0, 0)
        | 0, true => if pt = 0 then (2, 0) else (1, 0)
        | 1, true => if pt * 100 ≤ et then (2, et) else (1, et)
        | _, true => if et < pt * 100 then (1, et) else (2, pt * 100)
      Completes (.ton i) s fun u =>
        (∃ inst, OnlyInst s u t 6 { s.ahead t 1 with ba := decide (r.1 = 2), b := BitVec.ofNat 32 (r.2 / 100) } inst
          ∧ { inst with timers := s.pump.inst.timers } = s.pump.inst)
        ∧ u.timer i.toNat = { state := r.1, inp := p.ba, et := r.2, last := some (s.n % 2 ^ 48) }
        ∧ ∀ j, j ≠ i.toNat → u.timer j = s.timer j)
  ∧ (
    ∀ (s : State) (t : Task) (i : BitVec 16), Ready s t 6 →
      let m := s.timer i.toNat
      let p := s.proc t
      let pt := p.a.toNat
      let et := match m.last with
        | none => m.et
        | some l => if m.state = 2 then min (m.et + (s.n + 2 ^ 48 - l) % 2 ^ 48 * s.get Reg.PUMP_CYCLE_CTL_T_P) (pt * 100) else m.et
      let r : Nat × Nat := match m.state, p.ba with
        | 0, false => (0, et)
        | 0, true => (1, 0)
        | 1, false => if pt = 0 then (0, 0) else (2, 0)
        | 1, true => (1, et)
        | _, false => if pt * 100 ≤ et then (0, pt * 100) else (2, et)
        | _, true => (1, 0)
      Completes (.tof i) s fun u =>
        (∃ inst, OnlyInst s u t 6 { s.ahead t 1 with ba := decide (r.1 ≠ 0), b := BitVec.ofNat 32 (r.2 / 100) } inst
          ∧ { inst with timers := s.pump.inst.timers } = s.pump.inst)
        ∧ u.timer i.toNat = { state := r.1, inp := p.ba, et := r.2, last := some (s.n % 2 ^ 48) }
        ∧ ∀ j, j ≠ i.toNat → u.timer j = s.timer j)
  ∧ (
    ∀ (s : State) (t : Task) (i : BitVec 16), Ready s t 6 →
      let m := s.timer i.toNat
      let p := s.proc t
      let pt := p.a.toNat
      let et := match m.last with
        | none => m.et
        | some l => if m.state = 1 then min (m.et + (s.n + 2 ^ 48 - l) % 2 ^ 48 * s.get Reg.PUMP_CYCLE_CTL_T_P) (pt * 100) else m.et
      let r : Nat × Nat := match m.state, p.ba with
        | 0, false => (0, et)
        | 0, true => if pt = 0 then (2, 0) else (1, 0)
        | 1, b => if pt * 100 ≤ et then (if b then (2, pt * 100) else (0, 0)) else (1, et)
        | _, false => (0, 0)
        | _, true => (2, et)
      Completes (.tp i) s fun u =>
        (∃ inst, OnlyInst s u t 6 { s.ahead t 1 with ba := decide (r.1 = 1), b := BitVec.ofNat 32 (r.2 / 100) } inst
          ∧ { inst with timers := s.pump.inst.timers } = s.pump.inst)
        ∧ u.timer i.toNat = { state := r.1, inp := p.ba, et := r.2, last := some (s.n % 2 ^ 48) }
        ∧ ∀ j, j ≠ i.toNat → u.timer j = s.timer j)

/-- CTU, CTD, CTUD, CRST and CLD. For every state in which task t runs and the instruction fits (it ends before the output reserve instant and
its words lie within its block): CTU adds 1 to CV on a rising CU, saturating at 2,147,483,647, CTD subtracts 1 on a rising CD, saturating
at -2,147,483,648, CTUD does both, and neither where both rise; BA takes CV >= PV (A) for CTU and CTUD and CV <= 0 for CTD, B takes CV,
and the edge memories take the inputs. CRST and CLD write 0 and A into CV at once when BA is 1. No other instance, no point and no
register changes. (R125) -/
def Obligations.Counters : Prop :=
  ∀ (s : State) (t : Task) (i : BitVec 16) (pt : PointAddr) (bit : BitVec 5), Ready s t 6 2 →
    let p := s.proc t
    let c := s.counter i.toNat
    let cd := (s.point pt.toNat).value.getLsbD bit.toNat
    let moved (up down : Bool) : Word :=
      if up = down then c.cv
      else if up then BitVec.ofInt 32 (min 2147483647 (c.cv.toInt + 1))
      else BitVec.ofInt 32 (max (-2147483648) (c.cv.toInt - 1))
    let up := p.ba && !c.cu
    ∀ e ∈ ([(Instr.ctu i, 5, 1, { c with cv := moved up false, cu := p.ba }, fun r => { p with ba := decide (p.a.toInt ≤ r.toInt), b := r }),
        (.ctd i, 5, 1, { c with cv := moved false (p.ba && !c.cd), cd := p.ba }, fun r => { p with ba := decide (r.toInt ≤ 0), b := r }),
        (.ctud i pt bit, 6, 2, { cv := moved up (cd && !c.cd), cu := p.ba, cd := cd }, fun r => { p with ba := decide (p.a.toInt ≤ r.toInt), b := r }),
        (.crst i, 2, 1, if p.ba then { c with cv := 0 } else c, fun _ => p),
        (.cld i, 2, 1, if p.ba then { c with cv := p.a } else c, fun _ => p)] : List (Instr × Nat × Nat × Counter × (Word → Proc))),
    Completes e.1 s fun u =>
      (∃ inst, OnlyInst s u t e.2.1 { e.2.2.2.2 e.2.2.2.1.cv with offset := p.offset + e.2.2.1 } inst
        ∧ { inst with counters := s.pump.inst.counters } = s.pump.inst)
      ∧ u.counter i.toNat = e.2.2.2.1 ∧ ∀ j, j ≠ i.toNat → u.counter j = s.counter j

/-- BMOV and BMOVX copy as if through a buffer, or not at all. For every state in which task t runs and the move fits, with the source range
inside the point space and every destination point one that R72 lets the pump write: after BMOV (source and destination from its words)
and BMOVX (from A and B) each destination point holds the value that its source point held before the move, whatever the overlap, quality
good or CONVERSION as R67 says, the stamp of the cycle, its type and flags; every other point is as before. A discarded move changes no
point: BMOV counts it once, BMOVX sets V and counts it exactly where R72 forbids a destination point, one beyond the point space included.
(R114, R115) -/
def Obligations.BlockMoves : Prop :=
  ∀ (s : State) (t : Task) (src dst : PointAddr) (c : BitVec 12),
    let p := s.proc t
    ∀ e ∈ ([(Instr.bmov src dst c, 5 + c.toNat, 2, src.toNat, dst.toNat, p.v), (.bmovx c, 6 + c.toNat, 1, p.a.toNat, p.b.toNat, true)]
        : List (Instr × Nat × Nat × Nat × Nat × Bool)),
    let len := c.toNat + 1
    let from_ := e.2.2.2.1
    let dest := e.2.2.2.2.1
    let inside := from_ + len ≤ 0x100000
    let may := ∀ j < len, s.storable (dest + j) = true
    Ready s t e.2.1 e.2.2.1 →
    (inside → may → Completes e.1 s fun u =>
      u.pump = s.pumpAfter t e.2.1 (s.ahead t e.2.2.1)
      ∧ (∀ j < len, u.point (dest + j) = storedPoint (s.point (dest + j)) (s.point (from_ + j)).value s.stamp)
      ∧ (∀ b, b < dest ∨ dest + len ≤ b → u.point b = s.point b)
      ∧ PointMarks s u
      ∧ { u with pump := s.pump, now := s.now, up := s.up, slew := s.slew, keep := s.keep, points := s.points, wlog := s.wlog,
                 mirror := s.mirror, loops := s.loops, alloc := s.alloc } = s)
    ∧ (¬ may → Completes e.1 s fun u => Discarded s u t e.2.1 { s.ahead t e.2.2.1 with v := e.2.2.2.2.2 })
    ∧ (¬ inside → may → Completes e.1 s fun u => if e.2.2.1 = 2 then Discarded s u t e.2.1 (s.ahead t 2)
        else OnlyProc s u t e.2.1 { s.ahead t 1 with v := true })

/-- What the pump may not store to, and that no pump instruction changes such a point. In every state the pump's store check refuses every
input point, every device status point, every point outside the populated areas, and every point outside the device area that the running
plate does not declare. For every state, every instruction of the pump but RET and every point that the pump may not store to: where the
instruction answers a next state, the point's record is as it was. (R72, R361) -/
def Obligations.PumpIsolation : Prop :=
  (
    ∀ (s : State) (p : Nat),
      (areaOf p = .input → s.storable p = false)
      ∧ (areaOf p = .device → isCommandPoint p = false → s.storable p = false)
      ∧ (populated s.variant p = false → s.storable p = false)
      ∧ (areaOf p ≠ .device → s.declared p = false → s.storable p = false))
  ∧ (
    ∀ (s u : State) (i : Instr), i.isPump = true → exec i s = .next u → ∀ a, s.storable a = false → u.point a = s.point a)

/-- An instruction past its block's end, and one that the output reserve instant cuts off. For every state in which task t runs, and every
instruction of the pump but RET: at a position past the last word of its block it meets an instruction fault, where 1 ns is left. Where
not even 1 ns is left before the output reserve instant no instruction has any effect: no point, register, instance or processor state
changes; SLOW is suspended, while FAST and HOLD stand, cancelled, at that instant. (R81, R84, R96, R97) -/
def Obligations.InstructionLimits : Prop :=
  ∀ (s : State) (t : Task) (i : Instr), i.isPump = true → s.pump.running = some t →
    (s.fits t 1 = true → s.inBlock (s.proc t) 1 = false → Completes i s fun u => TaskFaulted s u t 1 true)
    ∧ (s.fits t 1 = false → Completes i s fun u =>
      u.points = s.points ∧ u.regs = s.regs ∧ u.pump.inst = s.pump.inst ∧ (∀ t', u.proc t' = s.proc t')
        ∧ (t = .slow → u = { s with pump := { s.pump with running := none } })
        ∧ (t ≠ .slow → u.pump.running = some t ∧ u.now = max s.now s.reserveAt))

/-- The words of the pump's instructions: decoding what is encoded, and encoding what is decoded. For every instruction of the pump with
operands that its form allows, whatever word v follows: the instruction's words, decoded, give the instruction back with every operand.
For every pair of words that decodes, the instruction read is one that its form allows, and its encoding is the first word, with the
second where the form has two; so no bit of an encoding is dropped, a field that the form reserves is 0, and every other word is one that
R96 makes an instruction fault. (R93, R94, R95, R96, R105) -/
def Obligations.PumpEncoding : Prop :=
  (∀ (i : Instr) (p : PumpWords) (v : Word), pumpEncode i = some p → pumpLegal i = true → pumpDecode p.first (p.second.getD v) = some i)
  ∧ (∀ (w v : Word) (i : Instr), pumpDecode w v = some i →
      pumpLegal i = true ∧ ∃ p, pumpEncode i = some p ∧ p.first = w ∧ (p.second = none ∨ p.second = some v))

/-- PUMP_BOUNDARY starts the next pump cycle, INPUT_WINDOW_CLOSE ends its input window; the end of restart cycles, the close of a trough
frame. For every state: after DONE, PUMP_BOUNDARY starts cycle 0; on a running part whose image of the present cycle is frozen it starts
cycle n + 1; in both cases the input window opens. For every level of the GPIO balls: while the window of a running part is open,
INPUT_WINDOW_CLOSE closes it and the cycle goes on to its tasks, in the same operating state. On a running part in its last restart cycle,
RESTART_CYCLES_END leaves no restart cycle and PUMP_STAT.RESTARTING reads 0; with a trough frame open, TROUGH_FRAME_CLOSE leaves no frame
open, in the same operating state, cycle and phase. Outside these operating states no boundary exists, with no window open no close, and
the state is unchanged. (What a row does whose subject is absent is the model's choice, log entry 10.) (R15, R16, R17, R91, R166, R199,
R388) -/
def Obligations.CycleStarts : Prop :=
  ∀ (s : State) (upsets : List Upset) (gpio : Word),
    (s.mode = .done → Completes (.pumpBoundary upsets) s fun u => u.n = 0 ∧ u.phase = .window)
    ∧ (s.running = true → s.phase = .frozen → Completes (.pumpBoundary upsets) s fun u => u.n = s.n + 1 ∧ u.phase = .window)
    ∧ (s.mode ≠ .done → s.running = false → Completes (.pumpBoundary upsets) s fun u => u = s)
    ∧ (s.running = true → s.phase = .window → Completes (.inputWindowClose gpio) s fun u => u.phase = .tasks ∧ u.mode = s.mode)
    ∧ (s.running = false ∨ s.phase ≠ .window → Completes (.inputWindowClose gpio) s fun u => u = s)
    ∧ (s.running = true → s.pump.restartLeft = 1 → Completes .restartCyclesEnd s fun u =>
      u.pump.restartLeft = 0 ∧ u.restarting = false ∧ u.flag Reg.PUMP_STAT_RESTARTING = false)
    ∧ (s.running = false ∨ s.pump.restartLeft ≠ 1 → Completes .restartCyclesEnd s fun u => u = s)
    ∧ (s.running = true → s.trough.openTh ≠ none → Completes .troughFrameClose s fun u => u.trough.openTh = none ∧ u.core = s.core)
    ∧ (s.running = false ∨ s.trough.openTh = none → Completes .troughFrameClose s fun u => u = s)

/-- OUTPUT_RESERVE_INSTANT freezes the image, or counts an overrun. For every state of a running part whose window has closed and that waits
for no proof, and every reading of the trip and feedback balls: in a cycle without tasks (PARK, restart cycles) OUTPUT_RESERVE_INSTANT
ends the cycle's work; in a cycle with tasks that ended in time, without a fault, it freezes the image, the former image becoming the last
one, and sets the run of overruns to 0; in a cycle whose tasks or loops did not end in time, or met a fault, no image is frozen,
PUMP_STAT.OVR is set and the run of overruns is one longer, and the third in a row resets the part into the boot. In each case but the
last the cycle is frozen in the same operating state, no task runs, and the time base has reached the reserve instant. Once the cycle is
frozen, and on a part without boundaries, nothing changes. (R17, R84, R85, R91, R407) -/
def Obligations.ReserveFreezes : Prop :=
  ∀ (s : State) (trip : Byte) (fb : Word),
    let ended (u : State) : Prop := u.phase = .frozen ∧ u.mode = s.mode ∧ s.reserveAt ≤ u.now
    (s.running = true → s.phase = .tasks → s.red.waiting = false →
      (s.taskCycle = false → Completes (.outputReserveInstant trip fb) s fun u => ended u ∧ u.pump.ovrRun = 0)
      ∧ (s.taskCycle = true → s.mode ≠ .replay → s.overran = false → Completes (.outputReserveInstant trip fb) s fun u =>
        ended u ∧ u.pump.running = none ∧ u.pump.imageValid = true ∧ u.pump.lastFreeze = s.pump.image ∧ u.pump.ovrRun = 0)
      ∧ (s.taskCycle = true → s.overran = true → s.pump.ovrRun < 2 → Completes (.outputReserveInstant trip fb) s fun u =>
        ended u ∧ u.pump.running = none ∧ u.pump.image = s.pump.image ∧ u.pump.ovrRun = s.pump.ovrRun + 1 ∧ u.flag Reg.PUMP_STAT_OVR = true)
      ∧ (s.taskCycle = true → s.overran = true → 2 ≤ s.pump.ovrRun → Completes (.outputReserveInstant trip fb) s fun u => u.mode = .boot))
    ∧ (s.running = false ∨ s.phase = .frozen → Completes (.outputReserveInstant trip fb) s fun u => u = s)

/-- RET at call level 0 ends the scan. For every state in which task t runs at call level 0 and 3 ns fit, a RET whose condition holds ends the
task's scan: FAST is followed, in a hold cycle of a plate that has it, by HOLD from its entry block with accumulators, flags and stacks
clear; SLOW leaves no task running and no scan open, and its span is kept for SLOW_SCAN_CYC. In every case the task no longer runs, in the
same operating state, cycle and phase. (R79, R80, R113) -/
def Obligations.ScanEnds : Prop :=
  ∀ (s : State) (t : Task) (c : BitVec 5), Ready s t 3 → (s.proc t).cond c = some true → (s.proc t).calls = [] →
    (t = .fast → s.isHold = true → s.hasTask .hold = true → Completes (.ret c) s fun u =>
      u.pump.running = some .hold ∧ u.pump.hold = { block := 1 } ∧ u.pump.taskCost = 0 ∧ u.pump.firstHold = false
        ∧ u.now = max s.now (s.taskInstant 3) ∧ u.regs = s.regs ∧ ∀ a, a ≠ 0xE6303 → u.point a = s.point a)
    ∧ (t = .slow → Completes (.ret c) s fun u =>
      u.pump.running = none ∧ u.pump.slowOpen = false ∧ u.pump.slowScanCyc = some s.pump.slowSpan
        ∧ u.points = s.points ∧ u.regs = s.regs ∧ u.pump.inst = s.pump.inst)
    ∧ Completes (.ret c) s fun u => u.pump.running ≠ some t ∧ u.core = s.core

/-- Supply samples, dips and the bank supplies. For every state: VIN_SAMPLE shows the voltage, and the lowest one; DIP_ENTER in a state where
DIP applies begins a dip, counts it in the keeper and sets DIP, 5 us after the samples fell below VIN_WARN; DIP_EXIT ends it, 1 ms after
they rose above the exit level, clears DIP and UV_SUSTAINED and gives depth and duration; UV_SUSTAINED in DIP sets its bit after DIP_MAX;
VIO_A_LOW and VIO_B_LOW set their bits (bank A low also reads every trip input low and floats the GPIO outputs) and VIO_RECOVER clears
them. The operating state, the points, the pump and the fuses stay, and no register field outside those named changes, but for what
recording an event or a change of HEALTH may write (of VIO_A_LOW and VIO_RECOVER no frame of the fields is stated here: they act on the
safety outputs). (R396, R397, R401, R402, R405, R413) -/
def Obligations.SupplyEvents : Prop :=
  ∀ (s : State) (mv : Nat),
    (s.mode ≠ .backup → s.mode ≠ .held → Completes (.vinSample mv) s fun u =>
      u.get Reg.PWR_VIN_STAT_VIN_MV = min mv 65535
        ∧ u.get Reg.PWR_VIN_STAT_VIN_MIN_MV = min (min mv 65535) (s.get Reg.PWR_VIN_STAT_VIN_MIN_MV) % 65536
        ∧ FieldsBut [Reg.PWR_VIN_STAT_VIN_MV.key 0, Reg.PWR_VIN_STAT_VIN_MIN_MV.key 0] s u
        ∧ { u.quietRest with pwr := s.pwr } = s.quietRest)
    ∧ (s.pwr.dipping = false → s.dipApplies = true → Completes .dipEnter s fun u =>
      u.pwr.dipping = true ∧ u.pwr.dipStart = u.up ∧ s.up ≤ u.up ∧ (∀ b, s.pwr.belowSince = some b → b + 5000 ≤ u.up) ∧ u.keep.dips = satInc 32 s.keep.dips ∧ u.flag Reg.PWR_STAT_DIP = true
        ∧ u.core = s.core ∧ u.points = s.points ∧ u.pump = s.pump)
    ∧ (s.flag Reg.PWR_STAT_DIP = true → Completes .dipExit s fun u =>
      u.pwr.dipping = false ∧ u.flag Reg.PWR_STAT_DIP = false ∧ u.flag Reg.PWR_STAT_UV_SUSTAINED = false
        ∧ u.get Reg.PWR_DIP_LAST_DEPTH = min (s.get Reg.PWR_VIN_CFG_VIN_WARN - s.pwr.dipLow / 10) 4095
        ∧ u.get Reg.PWR_DIP_LAST_DURATION = min ((u.up - s.pwr.dipStart) / 10000) 1048575
        ∧ (∀ b, s.pwr.dipping = true → s.pwr.aboveSince = some b → b + 1000000 ≤ u.up)
        ∧ u.core = s.core ∧ u.points = s.points ∧ u.pump = s.pump)
    ∧ (s.flag Reg.PWR_STAT_DIP = true → s.flag Reg.PWR_STAT_UV_SUSTAINED = false → Completes .uvSustained s fun u =>
      u.flag Reg.PWR_STAT_UV_SUSTAINED = true ∧ s.pwr.dipStart + s.get Reg.PWR_VIN_CFG_DIP_MAX * 10000000 ≤ u.up
        ∧ FieldsBut [Reg.PWR_STAT_UV_SUSTAINED.key 0] s u
        ∧ { u.quietRest with now := s.now, up := s.up, slew := s.slew, keep := s.keep } = s.quietRest)
    ∧ (s.powered = true → s.flag Reg.PWR_STAT_VIO_A_LOW = false → Completes .vioALow s fun u =>
      u.flag Reg.PWR_STAT_VIO_A_LOW = true ∧ u.safe.tripIn = 0 ∧ u.safe.fb = 0 ∧ u.time.gpioDriven = false ∧ u.core = s.core
        ∧ u.points = s.points ∧ u.pump = s.pump)
    ∧ (s.powered = true → s.flag Reg.PWR_STAT_VIO_B_LOW = false → Completes .vioBLow s fun u =>
      u.flag Reg.PWR_STAT_VIO_B_LOW = true ∧ FieldsBut [Reg.PWR_STAT_VIO_B_LOW.key 0] s u ∧ u.quietRest = s.quietRest)
    ∧ Completes (.vioRecover true) s (fun u =>
      u.flag Reg.PWR_STAT_VIO_B_LOW = false ∧ FieldsBut [Reg.PWR_STAT_VIO_B_LOW.key 0] s u ∧ u.quietRest = s.quietRest)
    ∧ Completes (.vioRecover false) s (fun u =>
      u.flag Reg.PWR_STAT_VIO_A_LOW = false ∧ u.core = s.core ∧ u.points = s.points ∧ u.pump = s.pump)

/-- Pace, core voltage and temperature. For every powered state: PACE_UPDATE, 100 us after the update before, shows the lowest of its
readings, steps VCORE by 5 mV up while the pace is below PACE_FLOOR plus the margin and VCORE is below 900 mV, down while it is above
PACE_FLOOR plus twice the margin and VCORE is above 700 mV, at most once per millisecond, and leaves it else; PACE_HEALTH_LOSS sets the
pace penalty 100 ms after the pace fell low; TEMP_SAMPLE shows the hottest reading, its die and the highest reading so far; OVERTEMP_CLEAR
clears OVERTEMP 60 s after the readings became cool. No point, and nothing of the pump, changes. (R31, R32, R33, R469) -/
def Obligations.PaceAndHeat : Prop :=
  ∀ (s : State) (x die : Nat) (rs : List Nat) (tj : Int),
    let v := s.get Reg.PWR_PACE_STAT_VCORE_MV
    let p := min (rs.foldl min x) 511
    let low := s.get Reg.PWR_PACE_CTL_PACE_FLOOR + s.get Reg.PWR_PACE_CTL_PACE_MARGIN
    let high := s.get Reg.PWR_PACE_CTL_PACE_FLOOR + 2 * s.get Reg.PWR_PACE_CTL_PACE_MARGIN
    let w := if p < low ∧ v < 900 then v + 5 else if high < p ∧ 700 < v then v - 5 else v
    (s.powered = true → Completes (.paceUpdate (x :: rs)) s fun u =>
      s.pwr.paceAt + 100000 ≤ u.up ∧
      u.get Reg.PWR_PACE_STAT_PACE = p ∧ u.get Reg.PWR_PACE_STAT_VCORE_MV = (if w ≠ v ∧ s.pwr.lastVcoreStep ≤ u.up then w % 2 ^ Reg.PWR_PACE_STAT_VCORE_MV.width else v)
        ∧ FieldsBut [Reg.PWR_PACE_STAT_PACE.key 0, Reg.PWR_PACE_STAT_VCORE_MV.key 0, Reg.PWR_PACE_STAT_AT_VMAX.key 0,
            Reg.PWR_PACE_STAT_PACE_LOW.key 0] s u
        ∧ { u.quietRest with pwr := s.pwr, now := s.now, up := s.up, slew := s.slew, keep := s.keep } = s.quietRest)
    ∧ (∀ t, s.pwr.paceLowSince = some t → Completes .paceHealthLoss s fun u =>
      u.red.paceLow = true ∧ t + 100000000 ≤ u.up ∧ FieldsBut [] s u
        ∧ { u.quietRest with now := s.now, up := s.up, slew := s.slew, keep := s.keep } = s.quietRest)
    ∧ (s.powered = true → Completes (.tempSample tj die) s fun u =>
      u.get Reg.PWR_TEMP_STAT_TJ = (tj % 1024).toNat ∧ u.get Reg.PWR_TEMP_STAT_HOTTEST = die % 2 ^ Reg.PWR_TEMP_STAT_HOTTEST.width
        ∧ u.get Reg.PWR_TEMP_STAT_TJ_MAX = (max (sext 10 (s.get Reg.PWR_TEMP_STAT_TJ_MAX)) tj % 1024).toNat
        ∧ FieldsBut [Reg.PWR_TEMP_STAT_TJ.key 0, Reg.PWR_TEMP_STAT_HOTTEST.key 0, Reg.PWR_TEMP_STAT_TJ_MAX.key 0,
            Reg.PWR_TEMP_STAT_OVERTEMP.key 0] s u
        ∧ { u.quietRest with pwr := s.pwr } = s.quietRest)
    ∧ (∀ t, s.pwr.coolSince = some t → s.flag Reg.PWR_TEMP_STAT_OVERTEMP = true → Completes .overtempClear s fun u =>
      u.flag Reg.PWR_TEMP_STAT_OVERTEMP = false ∧ t + 60000000000 ≤ u.up ∧ FieldsBut [Reg.PWR_TEMP_STAT_OVERTEMP.key 0] s u
        ∧ { u.quietRest with now := s.now, up := s.up, slew := s.slew, keep := s.keep } = s.quietRest)

/-- The keeper, the retentive mirror's bank writes and the entry of SLEEP. For every state: a complete write of a mirror bank leaves that bank
holding what was copied and the other bank as it was, and starts the write that waits, if any; KEEPER_LOST away from VIN leaves the keeper
stopped with its time, counters and flags clear, its NV mirror kept; KEEPER_START of a lost keeper starts KEEP_TICK at 0 with the counters
from that mirror; POWERED_SECOND counts one second, and one of OVERTEMP while it lasts; LIFETIME_MIRROR_WRITE outside DIP writes the
counters; CAL_BASE_UPDATE under a lock makes the calendar valid and equal to the time base; VBAT_LOW_DETECT and CASE_OPEN_DETECT set their
flags, the first detection with the tick; KEEP_WRITE_COMPLETE brings the posted writes to the keeper; SLEEP_ENTER, once no NV work
remains, puts the part to sleep with no task running, the GPIO outputs floating and the safety outputs low; XTAL_STOP and XTAL32_RESTART
stop and restart the oscillator. The points and the fuses stay. (R49, R77, R408, R410, R411, R412, R413, R414, R462) -/
def Obligations.KeeperEvents : Prop :=
  ∀ s : State,
    (∀ b bank, s.mirror.writing = some (b, bank) → Completes .mirrorWriteDone s fun u =>
      (if b then u.mirror.bank1 = some bank ∧ u.mirror.bank0 = s.mirror.bank0 else u.mirror.bank0 = some bank ∧ u.mirror.bank1 = s.mirror.bank1)
        ∧ (u.mirror.writing ≠ none ↔ s.mirror.waiting = true) ∧ { u with mirror := s.mirror } = s)
    ∧ (s.keep.onVin = false → Completes .keeperLost s fun u =>
      u.keep = { running := false, lost := true, mirror := s.keep.mirror, caseLevel := s.keep.caseLevel, wakeN := s.keep.wakeN, onVin := false }
        ∧ { u with keep := s.keep } = s)
    ∧ (s.keep.lost = true → s.keep.running = false → Completes .keeperStart s fun u =>
      u.keepTick = 0 ∧ u.keep.running = true ∧ u.keep.calValid = false
        ∧ [u.keep.powered, u.keep.dips, u.keep.resets, u.keep.overtemp] = [0, 1, 2, 3].map (fun i => s.keep.mirror.getD i 0)
        ∧ { u with keep := s.keep } = s)
    ∧ (s.keep.running = true → s.pwr.vinAbsent = false → s.mode ≠ .backup → Completes .poweredSecond s fun u =>
      u.keep.powered = min (s.keep.powered + 1) 4294967295
        ∧ u.keep.overtemp = (if s.flag Reg.PWR_TEMP_STAT_OVERTEMP then min (s.keep.overtemp + 1) 4294967295 else s.keep.overtemp)
        ∧ { u with keep := s.keep } = s)
    ∧ (s.keep.mirrorDue = true → s.flag Reg.PWR_STAT_DIP = false → Completes .lifetimeMirrorWrite s fun u =>
      u.keep.mirror = [s.keep.powered, s.keep.dips, s.keep.resets, s.keep.overtemp] ∧ u.keep.mirrorDue = false
        ∧ u.core = s.core ∧ u.points = s.points ∧ u.pump = s.pump)
    ∧ (s.flag Reg.TSU_SRC_STAT_LOCKED = true → s.keep.running = true → Completes .calBaseUpdate s fun u =>
      u.keep.calValid = true ∧ u.keep.calBase = s.now - s.keepTick * 1953125 / 64 ∧ { u with keep := s.keep } = s)
    ∧ (s.keep.running = true → s.keep.vbatLow = false → Completes .vbatLowDetect s fun u =>
      u.keep = { s.keep with vbatLow := true } ∧ FieldsBut [] s u ∧ { u.quietRest with keep := s.keep, rst := s.rst } = s.quietRest)
    ∧ (s.keep.running = true → s.keep.caseOpen = false → s.keep.caseWakeEn = false ∨ s.mode ≠ .sleep → Completes .caseOpenDetect s fun u =>
      u.keep = { s.keep with caseOpen := true, caseLevel := true, caseTick := s.keepTick % 4294967296 }
        ∧ FieldsBut [] s u ∧ { u.quietRest with keep := s.keep, rst := s.rst } = s.quietRest)
    ∧ Completes .keepWriteComplete s (fun u =>
      (∀ w, s.keep.postedCfg = some w → u.keep.wakeNEn = w.testBit 0 ∧ u.keep.caseWakeEn = w.testBit 1)
        ∧ (∀ w, s.keep.postedStat = some w → u.keep.vbatLow = (s.keep.vbatLow && !w.testBit 1) ∧ u.keep.caseOpen = (s.keep.caseOpen && !w.testBit 2))
        ∧ u.keep.postedCfg = none ∧ u.keep.postedStat = none ∧ { u with keep := s.keep } = s)
    ∧ (s.pwr.sleeping = true → s.nvBusy = false → Completes .sleepEnter s fun u =>
      u.mode = .sleep ∧ u.pump.running = none ∧ u.safe.high = 0 ∧ u.time.gpioDriven = false ∧ u.pwr.sleeping = false
        ∧ u.points = s.points ∧ u.keep = s.keep
        ∧ u.fuses = s.fuses ∧ FieldsBut [Reg.PUMP_STAT_RUNNING.key 0] s u)
    ∧ (s.keep.running = true → Completes .xtalStop s fun u =>
      u.keep = { s.keep with running := false } ∧ (s.powered = true → u.flag Reg.SYS_BOARD_STAT_XTAL_STOP = true)
        ∧ FieldsBut [Reg.SYS_BOARD_STAT_XTAL_STOP.key 0] s u ∧ { u.quietRest with keep := s.keep, rst := s.rst } = s.quietRest)
    ∧ (s.keep.running = false → s.keep.lost = false → Completes .xtal32Restart s fun u =>
      u.keep = { s.keep with running := true } ∧ u.flag Reg.SYS_BOARD_STAT_XTAL_STOP = false
        ∧ FieldsBut [Reg.SYS_BOARD_STAT_XTAL_STOP.key 0] s u ∧ { u.quietRest with keep := s.keep } = s.quietRest)

/-- RESET_N, the service watchdog and a brown-out reset the part. For every running state with no fuse operation in progress: RESET_N low for
1 us or longer and an expiry of the service watchdog leave the part in the boot at stage ROM, a brown-out leaves it held in reset; the
cause is noted (3, 4 and 2). As R390 lists, fuses, image copies, the image pointer, plates in NV, the banks of the retentive mirror and
the stored hatches are kept; every point, timer, counter and edge instance, the lock bits, transactions, kept responses, forces, the pump
and the cycle count are as after reset. RESET_N low for less than 100 ns changes nothing but the time. (R378, R380, R381, R390, R403) -/
def Obligations.Resets : Prop :=
  ∀ (s : State) (ns : Nat), s.running = true → s.sec.fuseOp = none →
    let cleared (u : State) : Prop :=
      u.fuses = s.fuses ∧ u.images.copyA = s.images.copyA ∧ u.images.copyB = s.images.copyB ∧ u.images.pointerB = s.images.pointerB
        ∧ u.plate.nv0 = s.plate.nv0 ∧ u.plate.nv1 = s.plate.nv1 ∧ u.mirror.bank0 = s.mirror.bank0 ∧ u.mirror.bank1 = s.mirror.bank1
        ∧ u.solv.nv = s.solv.nv ∧ u.points = [] ∧ u.pump = {} ∧ u.host = {} ∧ u.loops = {} ∧ u.alloc = {} ∧ u.n = 0 ∧ u.pending = s.pending
        ∧ u.get Reg.SYS_LOCK_LOCK = 0 ∧ ∀ e, u.flag Reg.FORCE_ENT_ADDR_VALID e = false
    (1000 ≤ ns → Completes (.resetNLow ns) s fun u =>
      cleared u ∧ u.mode = .boot ∧ u.get Reg.RST_BOOT_STAGE = 1 ∧ bitAt u.rst.causes 3 = true ∧ u.up = s.up + ns)
    ∧ Completes .serviceWatchdogExpiry s (fun u =>
      cleared u ∧ u.mode = .boot ∧ u.get Reg.RST_BOOT_STAGE = 1 ∧ bitAt u.rst.causes 4 = true)
    ∧ Completes .brownOut s (fun u => cleared u ∧ u.mode = .held ∧ bitAt u.rst.causes 2 = true ∧ u.pwr.vinAbsent = true)
    ∧ (ns < 100 → Completes (.resetNLow ns) s fun u => u.up = s.up + ns ∧ { u with now := s.now, up := s.up, slew := s.slew, keep := s.keep } = s)

/-- Power-on, backup and the wake from SLEEP. For every state: BACKUP_ENTER of a running part ends in BACKUP, on the battery; POWER_ON of a
part held in reset with its keeper alive, or of one in BACKUP or SLEEP without VIN, starts the boot at stage RAILS; WAKE_N_EDGE, where
enabled in the keeper, and CASE_OPEN_DETECT, where enabled, wake a part from SLEEP into the boot at stage RAILS. WAKE_N_EDGE that is not
enabled, or does not find the part asleep, only has the edge noted. Variant, image pointer and queue stay. (R378, R403, R409, R410, R414) -/
def Obligations.Wakes : Prop :=
  ∀ s : State,
    let boots (u : State) : Prop :=
      u.mode = .boot ∧ u.get Reg.RST_BOOT_STAGE = 0 ∧ u.pwr.vinAbsent = false ∧ u.variant = s.variant ∧ u.pending = s.pending
        ∧ u.images.pointerB = s.images.pointerB
    (s.running = true → Completes .backupEnter s fun u => u.mode = .backup ∧ u.keep.onVin = false ∧ u.points = [] ∧ u.pending = s.pending)
    ∧ (s.mode = .held → s.keep.lost = false → Completes .powerOn s fun u => boots u ∧ u.points = s.points ∧ u.fuses = s.fuses)
    ∧ (s.mode = .backup ∨ s.mode = .sleep ∧ s.pwr.vinAbsent = true → Completes .powerOn s fun u => boots u ∧ u.points = [])
    ∧ (s.mode = .sleep → s.pwr.vinAbsent = false → s.keep.running = true → s.keep.wakeNEn = true →
        Completes .wakeNEdge s fun u => boots u ∧ u.points = [] ∧ u.keep.wakeN = false)
    ∧ (s.mode = .sleep → s.pwr.vinAbsent = false → s.keep.running = true → s.keep.caseWakeEn = true →
        Completes .caseOpenDetect s fun u => boots u ∧ u.points = [])
    ∧ (s.keep.running = true → s.keep.wakeNEn = false ∨ s.mode ≠ .sleep → Completes .wakeNEdge s fun u =>
        { u with keep := { u.keep with wakeN := s.keep.wakeN } } = s)

/-- The boot, stage by stage. For every booting state at the stage that a row ends, the row takes the boot to the next stage: RAILS once VIO_B
stands; ROM once REFCLK_IN runs, latching the straps, taking the time from the keeper's calendar and serving SPI from then on, and without
REFCLK_IN it stays there with REFCLK_BAD set; IMAGE, with IMG_FALLBACK set under BOOT_SEL 0b01 and else the copy that the pointer names
booted where it verifies; MEMORY, with a failed TRNG shown as RNG_FAIL; LOAD, with every noted event recorded; DONE, from which on the
part serves commands, with its first boundary at least 10 us away and the causes cleared. At another stage each row changes nothing.
(R178, R383, R384, R385, R386, R387, R444, R452, R458, R459) -/
def Obligations.BootStages : Prop :=
  ∀ (s : State) (straps : Straps) (trip : Byte) (eeprom : Option Word) (dies : BitVec 4) (trng : Bool),
    (s.atStage 0 = true → Completes (.bootRailsDone true) s fun u =>
      u.get Reg.RST_BOOT_STAGE = 1 ∧ { u with regs := s.regs } = s ∧ FieldsBut [Reg.RST_BOOT_STAGE.key 0] s u)
    ∧ (s.atStage 1 = true → ¬ (straps.bootSel = 3 ∧ s.fuses.mfgOff = false) → Completes (.bootRomDone straps true trip) s fun u =>
      u.get Reg.RST_BOOT_STAGE = 2 ∧ u.mode = .boot ∧ u.rst.straps = straps ∧ u.rst.spiServes = true ∧ u.now = s.calendar
        ∧ u.get Reg.RST_BOOT_BOOT_SEL = straps.bootSel % 4 ∧ u.get Reg.RED_CFG_UNIT = straps.unitId % 16
        ∧ u.flag Reg.SYS_BOARD_STAT_REFCLK_BAD = false ∧ u.safe.tripIn = trip.toNat ∧ u.points = s.points ∧ u.fuses = s.fuses)
    ∧ (s.atStage 1 = true → Completes (.bootRomDone straps false trip) s fun u =>
      u.flag Reg.SYS_BOARD_STAT_REFCLK_BAD = true ∧ u.atStage 1 = true ∧ { u with regs := s.regs } = s
        ∧ FieldsBut [Reg.SYS_BOARD_STAT_REFCLK_BAD.key 0] s u)
    ∧ (s.atStage 2 = true → Completes (.bootImageDone eeprom) s fun u =>
      u.get Reg.RST_BOOT_STAGE = 3 ∧ u.mode = .boot ∧ u.points = s.points ∧ u.fuses = s.fuses
        ∧ (s.rst.straps.bootSel = 1 → u.flag Reg.IMG_STAT_IMG_FALLBACK = true)
        ∧ (∀ d, s.rst.straps.bootSel ≠ 1 → s.goodCopy s.images.pointerB = some d →
            u.images.bootSettings = d.settings ∧ u.rst.imgSvn = d.svn ∧ u.flag Reg.IMG_STAT_BOOT_B = s.images.pointerB))
    ∧ (s.atStage 3 = true → Completes (.bootMemoryDone dies trng) s fun u =>
      u.get Reg.RST_BOOT_STAGE = 4 ∧ u.mode = .boot ∧ u.points = s.points ∧ u.fuses = s.fuses
        ∧ u.get Reg.SOLV_STAT_DIE_OK = dies.toNat % 2 ^ s.variant.dies
        ∧ (trng = false → u.flag Reg.SEC_STAT_RNG_FAIL = true))
    ∧ (s.atStage 4 = true → Completes .bootLoadDone s fun u =>
      u.get Reg.RST_BOOT_STAGE = 5 ∧ u.mode = .boot ∧ u.rst.toRecord = [] ∧ u.fuses = s.fuses)
    ∧ (s.atStage 5 = true → Completes .bootDone s fun u =>
      u.get Reg.RST_BOOT_STAGE = 6 ∧ u.mode = .done ∧ u.booted = true ∧ u.now + 10000 ≤ u.nextBnd ∧ u.rst.causes = 0 ∧ u.fuses = s.fuses)
    ∧ ∀ e ∈ ([(0, Instr.bootRailsDone true), (1, .bootRomDone straps true trip), (2, .bootImageDone eeprom), (3, .bootMemoryDone dies trng),
        (4, .bootLoadDone), (5, .bootDone)] : List (Nat × Instr)), s.atStage e.1 = false → Completes e.2 s fun u => u = s

/-- BEGIN, COMMIT, ROLLBACK and the idle limit of a transaction. For every state and every path that takes commands: an access changes nothing
but the host block. BEGIN with no transaction open or pending opens one owned by the path, and answers TXN_BUSY and changes nothing else.
COMMIT by the owner of an open transaction makes it pending behind the commits that already wait; ROLLBACK by the owner closes it, with
RESULT reading STATE; both answer STATE and change nothing where the path does not own an open transaction. TXN_TIMEOUT lets time pass to
the idle limit and rolls the open transaction back, with RESULT reading TXN_TIMEOUT and that answer kept for its owner; without an open
transaction it changes nothing. (R50, R53, R55) -/
def Obligations.Transactions : Prop :=
  ∀ (s : State) (p : Path),
    let t := s.touch p
    let owned := t.host.phase = .openTxn ∧ t.host.owner = p
    { t with host := s.host } = s
    ∧ (s.takes p 0 = true →
      (t.host.phase = .idle → Answers (.txnBegin p) s p .done fun u =>
        u = { t with host := { t.host with phase := .openTxn, owner := p, staged := [], lastAccess := t.up, timeoutOwner := none } })
      ∧ (t.host.phase ≠ .idle → Answers (.txnBegin p) s p .txnBusy fun u => u = t)
      ∧ (owned → Answers (.txnCommit p) s p .done fun u =>
        u.host.phase = .pendingTxn ∧ u.host.staged = t.host.staged
          ∧ u.host.commits = t.host.commits ++ [{ words := t.host.staged, oneWrite := false, skip := t.boundarySkip }]
          ∧ { u with host := { u.host with phase := t.host.phase, commits := t.host.commits } } = t)
      ∧ (owned → Answers (.txnRollback p) s p .done fun u =>
        u.host.phase = .idle ∧ u.host.staged = [] ∧ u.host.result = Status.state.code ∧ u.host.failPos = 0
          ∧ u.host.commits = t.host.commits ∧ { u with host := t.host } = t)
      ∧ (¬ owned → Answers (.txnCommit p) s p .state (fun u => u = t) ∧ Answers (.txnRollback p) s p .state fun u => u = t))
    ∧ (s.host.phase = .openTxn → Completes .txnTimeout s fun u =>
      u.host.phase = .idle ∧ u.host.staged = [] ∧ u.host.timeoutOwner = some s.host.owner ∧ u.host.result = Status.txnTimeout.code
        ∧ u.host.commits = s.host.commits ∧ s.host.lastAccess + s.txnLimit ≤ u.up
        ∧ { u with host := s.host, now := s.now, up := s.up, slew := s.slew, keep := s.keep } = s)
    ∧ (s.host.phase ≠ .openTxn → Completes .txnTimeout s fun u => u = s)

/-- Writes of transactional fields, and the application of a transaction as a whole. For every legal REGISTER_WRITE of a word with a writable
T field (the recorder's control word apart, which also has a field that is not T): the owner of a timed-out transaction is answered
TXN_TIMEOUT once; without a transaction the write is committed at once as a transaction of one write, but one that would change an expert
field of a block at basic level from its derived value answers LEVEL; in a pending transaction, or one that another path owns, it answers
TXN_BUSY; in its own open transaction it replaces the staged word of that address and instance at its place or is appended, and is refused
with RANGE as a 1,025th word. Nothing else changes, the live registers included. At its boundary a transaction leaves RESULT DONE, or
nothing but the host block changes; one whose first word writes an L field of a locked block ends with LOCKED at position 0. (R50, R51,
R52, R54, R55, R58) -/
def Obligations.StagedWrites : Prop :=
  (∀ (s : State) (p : Path) (a i : Nat) (v : Word) (d : RegDef),
    let t := s.touch p
    let w : Staged := { addr := a, index := i, value := v }
    let has := t.host.staged.any (fun x => decide (x.addr = a ∧ x.index = i))
    let hits := levelHits (t.get Reg.SYS_LEVEL_EXPERT) t (d.fieldsAt a) a i v.toNat
    a % 4 = 0 → a < 0x01000000 → a ≠ 0x120000 → regAt a = some d → (∃ f ∈ d.fieldsAt a, f.txn = true ∧ f.acc ≠ .ro) →
    s.takes p (a / 65536) = true → fieldsOk (d.fieldsAt a) v.toNat = true → wordOk s.variant a v.toNat = true →
    windowStatus s.variant a d.window i = .done → t.writeCheck a i v.toNat = .done →
      (t.host.timeoutOwner = some p → Answers (.registerWrite p a i v) s p .txnTimeout fun u =>
        u = { t with host := { t.host with timeoutOwner := none } })
      ∧ (t.host.timeoutOwner ≠ some p →
        (t.host.phase = .idle → hits = false → Answers (.registerWrite p a i v) s p .done fun u =>
          u = { t with host := { t.host with commits := t.host.commits ++ [{ words := [w], oneWrite := true, skip := t.boundarySkip }] } })
        ∧ (t.host.phase = .idle → hits = true → Answers (.registerWrite p a i v) s p .level fun u => u = t)
        ∧ (t.host.phase = .pendingTxn ∨ t.host.phase = .openTxn ∧ t.host.owner ≠ p → Answers (.registerWrite p a i v) s p .txnBusy fun u => u = t)
        ∧ (t.host.phase = .openTxn → t.host.owner = p →
          (has = true → Answers (.registerWrite p a i v) s p .done fun u =>
            u.host.staged.length = t.host.staged.length ∧ w ∈ u.host.staged
              ∧ { u with host := { u.host with staged := t.host.staged } } = t)
          ∧ (has = false → t.host.staged.length < 1024 → Answers (.registerWrite p a i v) s p .done fun u =>
            u = { t with host := { t.host with staged := t.host.staged ++ [w] } })
          ∧ (has = false → 1024 ≤ t.host.staged.length → Answers (.registerWrite p a i v) s p .range fun u => u = t))))
  ∧ (∀ (s : State) (c : Commit),
    ((s.applyCommit c).host.result = Status.done.code ∨ { s.applyCommit c with host := s.host } = s)
    ∧ (∀ w ws e, c.words = w :: ws → regAt w.addr = some e →
        s.lockHits ((e.fieldsAt w.addr).filter Fld.txn) w.addr w.index w.value.toNat = true →
        (s.applyCommit c).host.result = Status.locked.code ∧ (s.applyCommit c).host.failPos = 0 ∧ { s.applyCommit c with host := s.host } = s))

/-- Writes that act at once: plain fields, the lock bits, point records, and writes of a path that has none. For every path that takes
commands: a legal REGISTER_WRITE of a word of plain RW fields outside any transaction, command or voted field gives each field its bits
and leaves every other field and every other part of the state; SYS_LOCK_WRITE sets the lock bits given and clears none, so a block once
locked stays locked; POINT_WRITE of a point that takes host writes gives it value and quality, stamps it, keeps its type and flags, and
changes no other point; MDIO_FRAME with no frame in progress shows the frame and BUSY. On a path whose writes are disabled REGISTER_WRITE,
POINT_WRITE, SYS_LOCK_WRITE and MDIO_FRAME answer LOCKED and change nothing. (R37, R42, R47, R64, R70, R457) -/
def Obligations.PlainWrites : Prop :=
  ∀ (s : State) (p : Path) (a i : Nat) (v : Word) (d : RegDef) (f : Fld) (pt : PointAddr) (q : Byte) (type : Nat),
    let t := s.touch p
    let r := { t.point pt.toNat with value := v, quality := q, stamp := t.stamp }
    (a % 4 = 0 → a < 0x01000000 → a ≠ 0x120000 → a ≠ 0x10 → regAt a = some d → d.fieldsAt a = [f] → f.acc = .rw → f.txn = false → f.voted = false →
      isCommand a = false → isWsel a = false → a / 65536 ≠ 2 →
      s.takes p (a / 65536) = true → fieldsOk [f] v.toNat = true → wordOk s.variant a v.toNat = true →
      windowStatus s.variant a d.window i = .done → t.writeCheck a i v.toNat = .done →
      Answers (.registerWrite p a i v) s p .done fun u =>
        u.get f i = bitsAt v.toNat f.lo f.width % 2 ^ f.width ∧ (∀ g j, g.key j ≠ f.key i → u.get g j = t.get g j) ∧ { u with regs := s.regs } = t)
    ∧ (s.takes p 0 = true → Answers (.sysLockWrite p v) s p .done fun u =>
      u.get Reg.SYS_LOCK_LOCK = (s.get Reg.SYS_LOCK_LOCK ||| v.toNat % 2 ^ 21) % 2 ^ Reg.SYS_LOCK_LOCK.width
        ∧ (∀ g j, g.key j ≠ Reg.SYS_LOCK_LOCK.key 0 → u.get g j = s.get g j) ∧ { u with regs := s.regs, deviations := s.deviations, voteStreak := s.voteStreak } = t)
    ∧ (s.pathUp p = true → s.booted = true → s.pathWrites p = true → t.pointRefusal pt.toNat type = .done →
      Answers (.pointWrite p pt v q type) s p .done fun u => PointTaken t u pt.toNat r ∧ r.type = type)
    ∧ (s.takes p 0 = true → s.flag Reg.SYS_MDIO_STAT_BUSY = false → (bitAt v.toNat 10 = true ∨ bitsAt v.toNat 11 2 = 1 ∨ bitsAt v.toNat 11 2 = 2) →
      Answers (.mdioFrame p v) s p .done fun u =>
        u.flag Reg.SYS_MDIO_STAT_BUSY = true ∧ u.get Reg.SYS_MDIO_CMD_OP = bitsAt v.toNat 11 2 ∧ u.get Reg.SYS_MDIO_CMD_DATA = bitsAt v.toNat 16 16
          ∧ u.get Reg.SYS_MDIO_CMD_PHYAD = v.toNat % 32 ∧ u.get Reg.SYS_MDIO_CMD_REGAD = bitsAt v.toNat 5 5 ∧ { u with regs := s.regs } = t)
    ∧ (s.pathUp p = true → s.booted = true → s.pathWrites p = false → ∀ c ∈ [Instr.sysLockWrite p v, .mdioFrame p v, .pointWrite p pt v q type,
        .registerWrite p (4 * a) i v], Answers c s p .locked fun u => u = t)

/-- Reads that latch, free or draw: the time base, KEEP_TICK, stamp queue, DIN edges, SEC_RNG. For every state with the path served after
DONE: TSU_TIME_LO_READ returns the low 32 bits of the time base and latches the high 32 into the TIME_HI of that path only, so that both
words together are the time base at that instant; KEEP_TICK_LO_READ likewise for KEEP_TICK; TSQ_READ of a port without PTP_EN returns both
words of a unit and answers STATE with zeros on a PTP port; DIN_EDGE_READ returns both words and clears MISSED of that input; RNG_READ
answers STATE and 0 while RNG_FAIL stands, and else returns a free value and goes on. Registers and points stay. (R174, R180, R186, R411,
R444) -/
def Obligations.LatchedReads : Prop :=
  ∀ (s : State) (p : Path) (i : Nat), s.pathUp p = true → s.booted = true →
    let t := s.touch p
    let omp := Path.isOmp p
    let regsKept (u : State) : Prop := u.points = s.points ∧ u.pump = s.pump ∧ ∀ f j, f.key j ≠ Reg.SYS_SPI_STAT_READ_STATUS.key 0 →
      f.key j ≠ Reg.SYS_SPI_STAT_READ_POS.key 0 → u.get f j = s.get f j
    Completes (.tsuTimeLoRead p) s (fun u =>
      u.host.lastRead = [s.now % 2 ^ 32] ∧ u.host.lastStatus = .done ∧ regsKept u
        ∧ (if omp then u.host.timeHiOmp else u.host.timeHiSpi) = BitVec.ofNat 32 (s.now / 2 ^ 32)
        ∧ (if omp then u.host.timeHiSpi = s.host.timeHiSpi else u.host.timeHiOmp = s.host.timeHiOmp))
    ∧ Completes (.keepTickLoRead p) s (fun u =>
      u.host.lastRead = [s.keepTick % 2 ^ 32] ∧ u.host.lastStatus = .done ∧ regsKept u
        ∧ (if omp then u.host.tickHiOmp else u.host.tickHiSpi) = s.keepTick / 2 ^ 32
        ∧ (if omp then u.host.tickHiSpi = s.host.tickHiSpi else u.host.tickHiOmp = s.host.tickHiOmp))
    ∧ (i < 16 → s.flag Reg.TSU_PORT_PTP_PTP_EN i = true → Completes (.tsqRead p i) s fun u =>
      u.host.lastStatus = .state ∧ u.host.lastRead = [0, 0] ∧ regsKept u ∧ u.time = s.time)
    ∧ (i < 16 → s.flag Reg.TSU_PORT_PTP_PTP_EN i = false → Completes (.tsqRead p i) s fun u =>
      u.host.lastStatus = .done ∧ u.host.lastRead = [(t.tsqWords i).1, (t.tsqWords i).2] ∧ u.points = s.points ∧ u.pump = s.pump)
    ∧ (i < 64 → Completes (.dinEdgeRead p i) s fun u =>
      u.host.lastStatus = .done ∧ u.host.lastRead = [(t.dinWords i).1, (t.dinWords i).2] ∧ regsKept u
        ∧ (u.dinUnit i).missed = false ∧ (u.dinUnit i).stamp = (s.dinUnit i).stamp ∧ ∀ j, j ≠ i → u.dinUnit j = s.dinUnit j)
    ∧ (64 ≤ i → Completes (.dinEdgeRead p i) s fun u => u.host.lastStatus = .range ∧ u.time = s.time ∧ regsKept u)
    ∧ (s.flag Reg.SEC_STAT_RNG_FAIL = true → Completes (.rngRead p) s fun u =>
      u.host.lastStatus = .state ∧ u.host.lastRead = [0] ∧ u.sec.lastRng = 0 ∧ regsKept u ∧ u.freeCtr = s.freeCtr)
    ∧ (s.flag Reg.SEC_STAT_RNG_FAIL = false → Completes (.rngRead p) s fun u =>
      u.host.lastStatus = .done ∧ u.host.lastRead = [u.sec.lastRng] ∧ u.sec.lastRng < 2 ^ 32 ∧ regsKept u ∧ u.freeCtr = s.freeCtr + 1)

/-- OMP requests: discarded, answered again, served. For every state and every request to the management consumer: one that is not well formed
is discarded with no response and nothing else; one that no rule delivers to it is a frame like any other. A well-formed request that
repeats a kept one gets the kept response again and has no other effect. OMP_READ of any number of words of the point window answers DONE
with exactly those words; of an address that is not a multiple of 4 it answers RANGE with zeros. OMP_WRITE of a point record that the part
takes answers DONE, and the point has the value, quality byte and stamp and no other changes; a request of several words one of which is
refused answers that word's status and position and changes nothing but, where it was the answer TXN_TIMEOUT, that this answer is used up;
of an address that is not a multiple of 4 it answers RANGE. Each response goes out from the port's address and MGMT_PORT, and is kept as
the newest of at most 16. (R36, R37, R38, R42, R43) -/
def Obligations.OmpRequests : Prop :=
  ∀ (s : State) (r : OmpRequest) (w : Nat) (v x : Word),
    let p := Path.omp r.srcIp r.srcPort
    let t := s.touch p
    let dropped := { s with host := { s.host with lastResponse := none } }
    let pt := w / 2
    let words := t.ompWords p r.addr.toNat r.index 0 r.data
    (∀ e ∈ [(Instr.ompRead r, false), (.ompWrite r, true)],
      (s.ompTaken r e.2 = false → s.ringPort r.port = false → s.ompQueue r = true → Completes e.1 s fun u => u = dropped)
      ∧ (s.ringPort r.port = true ∨ s.ompQueue r = false → Completes e.1 s fun u => u = dropped.frameReceive (s.ompFrame r))
      ∧ (∀ y, s.ompTaken r e.2 = true → s.ompKept r = some y → Completes e.1 s fun u =>
          u.host = { s.host with lastResponse := some y } ∧ Sent s u))
    ∧ (s.ompTaken r false = true → s.ompKept r = none →
      (r.addr.toNat = 0x40000000 + 4 * w → w + r.count ≤ 2 ^ 21 → Completes (.ompRead r) s fun u =>
        Responded t u r false .done 0 (s.pointWords w r.count))
      ∧ (r.addr.toNat % 4 ≠ 0 → Completes (.ompRead r) s fun u => Responded t u r false .range 0 (List.replicate r.count 0)))
    ∧ (s.ompTaken r true = true → s.ompKept r = none →
      (r.addr.toNat = 0x40000000 + 4 * w → w < 2 ^ 21 → w % 2 = 0 → r.data = [v, x] → s.pathWrites p = true →
        s.pointRefusal pt (x.toNat / 256 % 16) = .done → Completes (.ompWrite r) s fun u => ∃ m,
          PointTaken t m pt { s.point pt with value := v, quality := BitVec.ofNat 8 x.toNat, stamp := s.stamp } ∧ Responded m u r true .done 0 [])
      ∧ (r.addr.toNat % 4 = 0 → 1 < r.count → words.1.1 ≠ .done → Completes (.ompWrite r) s fun u =>
        Responded (if words.1.1 = .txnTimeout then { t with host := { t.host with timeoutOwner := none } } else t) u r true words.1.1 words.1.2 [])
      ∧ (r.addr.toNat % 4 ≠ 0 → Completes (.ompWrite r) s fun u => Responded t u r true .range 0 []))

/-- SPI transfers. While the SPI target is not served no transfer changes anything. While it is: SPI_READ of words of the point window drives
0xFF for at most 31 bytes, the ready token and exactly those words; of an address that is not a multiple of 4 it drives zeros and fails
with RANGE at position 0. SPI_WRITE of the first word of a point record holds it; of a whole record that the part takes it answers DONE,
and the point has the value, quality byte and stamp; of one on a path whose writes are disabled it answers LOCKED; of an address that is
not a multiple of 4 RANGE, and no point changes; 0xFF is driven throughout. SPI_UNKNOWN_COMMAND drives 0xFF until the chip select goes
high and takes nothing. SPI_CS_HIGH ends the transfer, reports a read's first failed word and its position, but not of a read of
SYS_SPI_STAT alone, and RANGE for a held first word of a record, which is dropped. Nothing outside the host block, SYS_SPI_STAT and what
is said changes. (R39, R42, R43, R384) -/
def Obligations.SpiTransfers : Prop :=
  ∀ (s : State) (a v x : Word) (w n : Nat) (c : Byte),
    let stat (u : State) : Prop := { u with host := s.host, regs := s.regs, freeCtr := s.freeCtr } = s
      ∧ RegsBut [Reg.SYS_SPI_STAT_READ_STATUS.key 0, Reg.SYS_SPI_STAT_READ_POS.key 0, Reg.SYS_SPI_STAT_LAST_STATUS.key 0] s u
    let drives (u : State) (l : List Word) : Prop := u.host.spi = .read ∧ u.host.spiOut = l ∧ u.host.spiPos = n
      ∧ ∃ k, k ≤ 31 ∧ u.host.spiSdo = List.replicate k 0xFF#8 ++ 0xA5#8 :: l.flatMap wordBytes
    let idleSdo (u : State) (k : Nat) : Prop := u.host.spi = .write ∧ u.host.spiSdo = List.replicate (5 + 4 * k) 0xFF#8
    (s.pathUp .spi = false → ∀ e ∈ [Instr.spiRead a n, .spiWrite a [v], .spiUnknownCommand c], Completes e s fun u => u = s)
    ∧ (s.pathUp .spi = true →
      (s.booted = true → a.toNat = 0x40000000 + 4 * w → w + n ≤ 2 ^ 21 → Completes (.spiRead a n) s fun u =>
        drives u (s.pointWords w n) ∧ u.host.spiFail = none ∧ stat u)
      ∧ (a.toNat % 4 ≠ 0 → 0 < n → Completes (.spiRead a n) s fun u =>
        drives u (List.replicate n 0) ∧ u.host.spiFail = some (.range, 0) ∧ stat u)
      ∧ Completes (.spiUnknownCommand c) s (fun u => u.host.spi = .unknown ∧ u.host.spiSdo = [0xFF#8] ∧ stat u)
      ∧ (a.toNat % 4 ≠ 0 → Completes (.spiWrite a [v]) s fun u => idleSdo u 1 ∧ u.get Reg.SYS_SPI_STAT_LAST_STATUS = Status.range.code ∧ stat u)
      ∧ (a.toNat = 0x40000000 + 4 * w → w < 2 ^ 21 → w % 2 = 0 →
        Completes (.spiWrite a [v]) s (fun u => idleSdo u 1 ∧ u.host.spiHeld = some (BitVec.ofNat 20 (w / 2), v) ∧ stat u)
        ∧ (s.booted = true → s.pathWrites .spi = true → s.pointRefusal (w / 2) (x.toNat / 256 % 16) = .done → Completes (.spiWrite a [v, x]) s fun u =>
          ∃ m, stat m ∧ idleSdo m 2 ∧ u.host.spiHeld = none ∧ u.get Reg.SYS_SPI_STAT_LAST_STATUS = 0 ∧ ∃ y, u = y.answer .spi .done
            ∧ PointTaken m y (w / 2) { s.point (w / 2) with value := v, quality := BitVec.ofNat 8 x.toNat, stamp := s.stamp })
        ∧ (s.booted = true → s.pathWrites .spi = false → Completes (.spiWrite a [v, x]) s fun u =>
          idleSdo u 2 ∧ u.get Reg.SYS_SPI_STAT_LAST_STATUS = Status.locked.code ∧ stat u)))
    ∧ Completes .spiCsHigh s (fun u => u.host.spi = .none ∧ u.host.spiHeld = none ∧ u.host.spiSdo = s.host.spiSdo ∧ stat u
        ∧ (s.host.spi = .read → s.host.spiStatOnly = false → ∀ f k, s.host.spiFail = some (f, k) →
            u.get Reg.SYS_SPI_STAT_READ_STATUS = f.code % 2 ^ Reg.SYS_SPI_STAT_READ_STATUS.width
              ∧ u.get Reg.SYS_SPI_STAT_READ_POS = k % 2 ^ Reg.SYS_SPI_STAT_READ_POS.width)
        ∧ (s.host.spi = .read → s.host.spiStatOnly = true → u.regs = s.regs)
        ∧ (s.host.spi = .write → s.host.spiHeld.isSome = true → u.get Reg.SYS_SPI_STAT_LAST_STATUS = Status.range.code % 2 ^ Reg.SYS_SPI_STAT_LAST_STATUS.width))

/-- Restart and power commands, and CLR_HOLD. For every state and path that takes commands: WARM_RESTART and COLD_RESTART are refused with
BUSY while a restart waits or runs, with ROLE on an active with a standby, and else accepted for the next boundary that is 10 us away;
PWR_RUN is accepted in PARK where nothing of R388 blocks it, and refused with STATE where something does, PWR_PARK in RUN without a
standby, PWR_SLEEP in PARK without a dip, each for the same boundary, and refused with STATE in any other operating state; CLR_HOLD clears
the fatal count and FATAL_HOLD. None of them changes anything else, the operating state and the points included. (R53, R89, R90, R382,
R393, R406) -/
def Obligations.PowerCommands : Prop :=
  ∀ (s : State) (p : Path),
    let t := s.touch p
    let busy := s.restarting = true ∨ s.pump.restartReq.isSome = true
    let asked (op : Nat) (u : State) : Prop := u = { t with pwr := { t.pwr with cmd := some (op, s.boundarySkip) } }
    (s.takes p 4 = true → ∀ e ∈ [(Instr.warmRestart p, false), (.coldRestart p, true)],
      (busy → Answers e.1 s p .busy fun u => u = t)
      ∧ (¬ busy → s.hasStandby = true → Answers e.1 s p .role fun u => u = t)
      ∧ (¬ busy → s.hasStandby = false → Answers e.1 s p .done fun u =>
        u.pump.restartReq = some (e.2, s.boundarySkip) ∧ { u with pump := { u.pump with restartReq := s.pump.restartReq } } = t))
    ∧ (s.takes p 1 = true →
      (s.mode = .park → ¬ busy → s.runBlocked = false → Answers (.pwrRun p) s p .done (asked 1))
      ∧ (s.mode = .park → ¬ busy → s.runBlocked = true → Answers (.pwrRun p) s p .state fun u => u = t)
      ∧ (s.mode = .park → busy → Answers (.pwrRun p) s p .busy fun u => u = t)
      ∧ (s.mode ≠ .park → Answers (.pwrRun p) s p .state fun u => u = t)
      ∧ (s.mode = .run → s.hasStandby = false → Answers (.pwrPark p) s p .done (asked 2))
      ∧ (s.mode = .run → s.hasStandby = true → Answers (.pwrPark p) s p .role fun u => u = t)
      ∧ (s.mode ≠ .run → Answers (.pwrPark p) s p .state fun u => u = t)
      ∧ (s.mode = .park → s.flag Reg.PWR_STAT_DIP = false → Answers (.pwrSleep p) s p .done (asked 3))
      ∧ (s.mode = .park → s.flag Reg.PWR_STAT_DIP = true → Answers (.pwrSleep p) s p .busy fun u => u = t)
      ∧ (s.mode ≠ .park → Answers (.pwrSleep p) s p .state fun u => u = t))
    ∧ (s.takes p 3 = true → Answers (.clrHold p) s p .done fun u =>
      u.rst.fatalTimes = [] ∧ u.rst.fatalHold = false ∧ u.flag Reg.RST_BOOT_FATAL_HOLD = false ∧ u.get Reg.RST_CAUSE_FATAL_RUN = 0
        ∧ RegsBut [Reg.RST_BOOT_FATAL_HOLD.key 0, Reg.RST_CAUSE_FATAL_RUN.key 0] s u
        ∧ { u with regs := s.regs, rst := { u.rst with fatalTimes := s.rst.fatalTimes, fatalHold := s.rst.fatalHold } } = t)

/-- The commands of the free plate slot. For every state and path that takes commands: LOAD of an EMPTY or VERIFIED slot empties it and makes
it LOADING, VERIFY of a LOADING slot starts the check, ARM of a VERIFIED plate with a good map that meets the execution and swap budgets
makes it ARMED for the next boundary, REVERT of a PROVISIONAL swap inside the revert window asks for the old plate, COMMIT after the
window starts the NV write, ABORT of a slot that is LOADING, VERIFIED, or ARMED and not confirmed empties it, INSTALL of a VERIFIED plate
in PARK starts its NV write. On a standby ARM and REVERT answer ROLE; in another state each answers STATE, and then only RESULT changes.
RESULT takes the status. A word of the load window is stored while LOADING and refused with STATE else. Points, instances and the running
plate stay. (R135, R136, R137, R138, R141, R142, R144, R145) -/
def Obligations.PlateCommands : Prop :=
  ∀ (s : State) (p : Path) (w : Nat) (v : Word), s.takes p 4 = true →
    let t := s.touch p
    let keys := [Reg.PLATE_STAT_RESULT.key 0, Reg.PLATE_STAT_SLOT_STATE.key 0, Reg.PLATE_STAT_MAP_OK.key 0, Reg.PLATE_NEW_ID_ID.key 0]
    let standby := s.grouped = true ∧ s.role = 1
    let ok (st : Nat) (u : State) : Prop := u.slotState = st ∧ u.get Reg.PLATE_STAT_RESULT = 0 ∧ RegsBut keys s u
      ∧ { u with regs := s.regs, plate := s.plate } = t ∧ u.slotPlate u.runSlot = s.slotPlate s.runSlot
    let no (st : Status) (u : State) : Prop := u.get Reg.PLATE_STAT_RESULT = st.code ∧ RegsBut [Reg.PLATE_STAT_RESULT.key 0] s u
      ∧ { u with regs := s.regs } = t
    let inWin := s.plate.swappedAt ≤ s.applyCycle ∧ s.applyCycle < s.plate.swappedAt + s.get Reg.PLATE_CFG_REVERT_WIN
    let settled := s.slotState = 5 ∧ s.plate.revertReq = none ∧ s.plate.revertAt = none
    let aborts := s.slotState = 1 ∨ s.slotState = 3 ∨ s.slotState = 4 ∧ s.plate.confirmed = false
    (s.slotState = 0 ∨ s.slotState = 3 → Answers (.plateLoad p) s p .done fun u =>
      ok 1 u ∧ u.slotPlate u.freeSlot = none ∧ u.plate.loadWords = [] ∧ u.flag Reg.PLATE_STAT_MAP_OK = false)
    ∧ (¬ (s.slotState = 0 ∨ s.slotState = 3) → Answers (.plateLoad p) s p .state (no .state))
    ∧ (s.slotState = 1 → Answers (.plateVerify p) s p .done fun u => ok 2 u ∧ u.plate = { s.plate with op := .verify })
    ∧ (s.slotState ≠ 1 → Answers (.plateVerify p) s p .state (no .state))
    ∧ (standby → Answers (.plateArm p) s p .role (no .role) ∧ Answers (.plateRevert p) s p .role (no .role))
    ∧ (∀ d, ¬ standby → s.slotPlate s.freeSlot = some d → s.slotState = 3 → s.flag Reg.PLATE_STAT_MAP_OK = true → s.meetsBudget d = true →
        s.meetsSwap d = true → Answers (.plateArm p) s p .done fun u => ok 4 u ∧ u.plate = { s.plate with armReq := some s.boundarySkip })
    ∧ (¬ standby → s.slotState ≠ 3 → Answers (.plateArm p) s p .state (no .state))
    ∧ (¬ standby → settled ∧ inWin → Answers (.plateRevert p) s p .done fun u => ok 5 u ∧ u.plate = { s.plate with revertReq := some s.boundarySkip })
    ∧ (¬ standby → ¬ (settled ∧ inWin) → Answers (.plateRevert p) s p .state (no .state))
    ∧ (settled → s.plate.swappedAt + s.get Reg.PLATE_CFG_REVERT_WIN ≤ s.applyCycle → Answers (.plateCommit p) s p .done fun u =>
      ok 6 u ∧ u.plate = { s.plate with op := .commit })
    ∧ (s.slotState ≠ 5 → Answers (.plateCommit p) s p .state (no .state))
    ∧ (aborts → Answers (.plateAbort p) s p .done fun u => ok 0 u ∧ u.slotPlate u.freeSlot = none ∧ u.plate.swapAt = none ∧ u.plate.armReq = none
      ∧ (s.plate.announced = true → u.plate.cancelNext = true))
    ∧ (¬ aborts → Answers (.plateAbort p) s p .state (no .state))
    ∧ (∀ d, s.slotPlate s.freeSlot = some d → s.slotState = 3 → s.mode = .park → s.meetsBudget d = true → Answers (.plateInstall p) s p .done fun u =>
      ok 6 u ∧ u.plate = { s.plate with op := .install })
    ∧ (s.mode ≠ .park → Answers (.plateInstall p) s p .state (no .state))
    ∧ (w < 2 ^ 22 → s.slotState = 1 → Answers (.plateLoadWindowWrite p (0x41000000 + 4 * w) v) s p .done fun u =>
      storeGet u.plate.loadWords w 0 = v ∧ (∀ x, x ≠ w → storeGet u.plate.loadWords x 0 = storeGet s.plate.loadWords x 0)
        ∧ { u with plate := { u.plate with loadWords := s.plate.loadWords } } = t)
    ∧ (w < 2 ^ 22 → s.slotState ≠ 1 → Answers (.plateLoadWindowWrite p (0x41000000 + 4 * w) v) s p .state fun u => u = t)

/-- The end of a plate's check, swap and revert, the end of commit and install. For every state: PLATE_VERIFY_DONE of a plate in check that
passes leaves it VERIFIED in the free slot with its identity shown, one that does not leaves the slot EMPTY with the status of the check;
PLATE_SWAP in the swap cycle, on a part that takes no proof at this close, closes the input window, makes the new plate run and the old
one PROVISIONAL, carries the instances that its map names, gives the others their initial values and abandons a suspended SLOW scan; on a
standby that waits for a proof with the active's CONFIRM the end of that wait by PROOF_MISS does so; PLATE_REVERT_APPLY in its cycle
brings the old plate back with the instances that the swap discarded; outside their cycle or the open input window both change nothing;
PLATE_COMMIT_DONE and PLATE_INSTALL_DONE outside a dip leave the plate in NV with the pointer at it, the first an EMPTY slot, the second a
cold restart asked for. The fuses stay. (R127, R137, R139, R140, R141, R142, R144, R399, R435) -/
def Obligations.PlateEvents : Prop :=
  ∀ (s : State) (v : Verdict) (d o : PlateDesc),
    let r := s.plateCheck v d
    let swapped (inst : Instances) (st : Nat) (u : State) : Prop :=
      u.get Reg.PLATE_STAT_RUN_SLOT = s.freeSlot ∧ u.slotState = st ∧ u.get Reg.PLATE_NEW_ID_ID = o.id.toNat ∧ u.pump.inst = inst
        ∧ u.pump.slow = { block := 2 } ∧ u.pump.slowOpen = false ∧ u.slotPlate 0 = s.slotPlate 0 ∧ u.slotPlate 1 = s.slotPlate 1 ∧ u.fuses = s.fuses
        ∧ u.n = s.n ∧ s.now ≤ u.now ∧ u.phase = .tasks ∧ u.mode = s.mode
    let plates := s.runSlot ≤ 1 ∧ s.slotPlate s.runSlot = some o ∧ s.slotPlate s.freeSlot = some d
    let alone := s.role ≠ 1 ∧ s.red.lastProof = false
    let swap (u : State) : Prop :=
      swapped (swapInst s.pump.inst d) 5 u ∧ u.plate.swapAt = none ∧ u.plate.swappedAt = s.n ∧ u.plate.oldInst = s.pump.inst
    (s.plate.op = .verify → r.1 = .done → Completes (.plateVerifyDone v d) s fun u =>
      u.slotPlate s.freeSlot = some d ∧ u.slotState = 3 ∧ u.get Reg.PLATE_STAT_RESULT = 0 ∧ u.get Reg.PLATE_NEW_ID_ID = d.id.toNat
        ∧ u.flag Reg.PLATE_STAT_MAP_OK = mapOk d s.plateId ∧ u.plate.op = .none ∧ { u with regs := s.regs, plate := s.plate } = s)
    ∧ (s.plate.op = .verify → r.1 ≠ .done → Completes (.plateVerifyDone v d) s fun u =>
      u.slotPlate s.freeSlot = none ∧ u.slotState = 0 ∧ u.get Reg.PLATE_STAT_RESULT = r.1.code ∧ u.plate.op = .none
        ∧ { u.quietRest with plate := s.plate } = s.quietRest)
    ∧ (s.windowOpen = true → s.plate.swapAt = some s.n → s.plate.revertAt ≠ some s.n → alone → plates → Completes .plateSwap s swap)
    ∧ (s.closeWaits = true → s.proofReady = none → s.plate.swapAt = some s.n → s.plate.revertAt ≠ some s.n → s.maySwap = true → plates →
        Completes .proofMiss s swap)
    ∧ (s.windowOpen = true → s.plate.revertAt = some s.n → s.plate.swapAt ≠ some s.n → alone → plates →
        Completes .plateRevertApply s fun u => swapped (revertInst s.plate.oldInst s.pump.inst o) 3 u ∧ u.plate.revertAt = none)
    ∧ (s.windowOpen = false ∨ s.plate.swapAt ≠ some s.n → Completes .plateSwap s fun u => u = s)
    ∧ (s.windowOpen = false ∨ s.plate.revertAt ≠ some s.n → Completes .plateRevertApply s fun u => u = s)
    ∧ (s.plate.op = .commit → s.flag Reg.PWR_STAT_DIP = false → s.runSlot ≤ 1 → s.runPlate = some o → Completes .plateCommitDone s fun u =>
      (if s.runSlot = 0 then u.plate.nv0 else u.plate.nv1) = some (o, { sigOk := true, structOk := true }) ∧ u.get Reg.PLATE_STAT_COMMIT_SLOT = s.runSlot
        ∧ u.slotState = 0 ∧ u.plate.op = .none ∧ u.slotPlate s.runSlot = s.slotPlate s.runSlot ∧ u.slotPlate s.freeSlot = none
        ∧ { u.quietRest with plate := s.plate } = s.quietRest)
    ∧ (s.plate.op = .install → s.flag Reg.PWR_STAT_DIP = false → s.runSlot ≤ 1 → s.slotPlate s.freeSlot = some d → Completes .plateInstallDone s fun u =>
      (if s.freeSlot = 0 then u.plate.nv0 else u.plate.nv1) = some (d, { sigOk := true, structOk := true }) ∧ u.get Reg.PLATE_STAT_COMMIT_SLOT = s.freeSlot
        ∧ u.pump.restartReq = some (true, s.boundarySkip) ∧ u.plate.op = .none
        ∧ { u with regs := s.regs, plate := s.plate, pump := { u.pump with restartReq := s.pump.restartReq } } = s)
    ∧ (s.flag Reg.PWR_STAT_DIP = true → Completes .plateCommitDone s (fun u => u = s) ∧ Completes .plateInstallDone s fun u => u = s)

/-- Loading an image, saving the settings. For every state and path that takes commands: IMG_LOAD outside a save, of a load state other than
VERIFYING and ACTIVATED, empties the copy that did not boot and makes the load LOADING; a word of its window is stored while LOADING and
refused with STATE else; IMG_VERIFY of a LOADING image starts the check, whose end leaves it VERIFIED in that copy where it passes and
EMPTY with WHY where it does not; IMG_ACTIVATE of a VERIFIED image moves the boot pointer to it; IMG_ABORT empties it; else they answer
STATE. IMG_SAVE outside a transaction, a save, a load and the fallback is accepted; IMG_SAVE_DONE outside a dip leaves a good save in the
other copy, which becomes the boot copy, and a bad one the boot pointer as it was. The booted copy and the points stay. (R62, R399, R435,
R439, R440) -/
def Obligations.ImageCommands : Prop :=
  ∀ (s : State) (p : Path) (w : Nat) (v : Word) (g : Verdict) (d : ImageDesc),
    let t := s.touch p
    let st := s.imgLoadState
    let booted (u : State) : Option (ImageDesc × Verdict) := if s.flag Reg.IMG_STAT_BOOT_B then u.images.copyB else u.images.copyA
    let other (u : State) : Option (ImageDesc × Verdict) := if s.flag Reg.IMG_STAT_BOOT_B then u.images.copyA else u.images.copyB
    let ok (n : Nat) (u : State) : Prop := u.imgLoadState = n ∧ u.get Reg.SEC_IMG_STAT_RESULT = 0
      ∧ RegsBut [Reg.SEC_IMG_STAT_STATE.key 0, Reg.SEC_IMG_STAT_RESULT.key 0] s u ∧ booted u = booted s ∧ { u with regs := s.regs, images := s.images } = t
    let no (u : State) : Prop := u.get Reg.SEC_IMG_STAT_RESULT = Status.state.code ∧ RegsBut [Reg.SEC_IMG_STAT_RESULT.key 0] s u ∧ { u with regs := s.regs } = t
    let r := s.verifyImage g d
    (s.takes p 19 = true →
      (s.imgSaving = false → st ≠ 2 → st ≠ 4 → Answers (.imgLoad p) s p .done fun u => ok 1 u ∧ other u = none ∧ u.images.loadWords = [] ∧ u.images.pointerB = s.images.pointerB)
      ∧ (s.imgSaving = false → st = 2 ∨ st = 4 → Answers (.imgLoad p) s p .state no)
      ∧ (st = 1 → Answers (.imgVerify p) s p .done fun u => ok 2 u ∧ u.images = s.images)
      ∧ (st ≠ 1 → Answers (.imgVerify p) s p .state no)
      ∧ (st = 3 → Answers (.imgActivate p) s p .done fun u => ok 4 u ∧ u.images = { s.images with pointerB := s.otherCopyB })
      ∧ (st ≠ 3 → Answers (.imgActivate p) s p .state no)
      ∧ (st = 1 ∨ st = 2 ∨ st = 3 → Answers (.imgAbort p) s p .done fun u => ok 0 u ∧ other u = none ∧ u.images.pointerB = s.images.pointerB)
      ∧ (st = 0 ∨ 4 ≤ st → Answers (.imgAbort p) s p .state no)
      ∧ (w < 0x300000 → st = 1 → Answers (.imgLoadWindowWrite p (0x44000000 + 4 * w) v) s p .done fun u =>
        storeFind u.images.loadWords w = some v ∧ { u with images := { u.images with loadWords := s.images.loadWords } } = t)
      ∧ (w < 0x300000 → st ≠ 1 → Answers (.imgLoadWindowWrite p (0x44000000 + 4 * w) v) s p .state fun u => u = t))
    ∧ (s.takes p 0 = true → t.host.phase = .idle → s.imgSaving = false → s.flag Reg.IMG_STAT_IMG_FALLBACK = false → st = 0 →
      Answers (.imgSave p) s p .done fun u => u = { t with images := { t.images with saveWanted := true } })
    ∧ (s.takes p 0 = true → t.host.phase ≠ .idle → Answers (.imgSave p) s p .txnBusy fun u => u = t)
    ∧ (st = 2 → r.1 = .done → Completes (.imgVerifyDone g d) s fun u =>
      u.imgLoadState = 3 ∧ other u = some (d, g) ∧ booted u = booted s ∧ u.get Reg.SEC_IMG_STAT_WHY = 0
        ∧ { u with regs := s.regs, images := s.images } = s)
    ∧ (st = 2 → r.1 ≠ .done → Completes (.imgVerifyDone g d) s fun u =>
      u.imgLoadState = 0 ∧ u.images = s.images ∧ u.get Reg.SEC_IMG_STAT_RESULT = r.1.code ∧ u.get Reg.SEC_IMG_STAT_WHY = r.2 ∧ u.quietRest = s.quietRest)
    ∧ (∀ l, s.images.saving = some l → s.flag Reg.PWR_STAT_DIP = false →
      Completes (.imgSaveDone true) s (fun u => u.images.saving = none ∧ u.images.pointerB = s.otherCopyB ∧ other u = s.savedCopy l ∧ booted u = booted s
        ∧ u.images.bootSettings = l ∧ u.get Reg.IMG_STAT_SAVE_RESULT = 0 ∧ { u with regs := s.regs, images := s.images } = s)
      ∧ Completes (.imgSaveDone false) s (fun u => u.images = { s.images with saving := none }
        ∧ { u with regs := s.regs, images := s.images, freeCtr := s.freeCtr } = s))

/-- Arming and blowing fuses, and the health of the random number generator. For every state and path that takes commands: SEC_FUSE_ARM with
0xF05E arms for 1 s, with another code it changes nothing; a fuse command is refused with STATE outside PARK, with BUSY in a dip or an
operation, with STATE when not armed; armed, it uses the arming up, and is refused where the fuses forbid it and else starts, with
FUSE_BUSY set and no fuse blown yet. FUSE_ARM_EXPIRE ends an arming 1 s after it. FUSE_OP_DONE ends the operation with RESULT DONE: a slot
that held no hash becomes VALID with the hash given, REVOKE is blown, the anti-rollback count rises to the booted image's version, DBG_OFF
is blown, and no other fuse changes. TRNG_HEALTH_FAIL sets RNG_FAIL, TRNG_HEALTH_RECOVER clears it. (R435, R436, R437, R438, R441, R442,
R444) -/
def Obligations.FuseCommands : Prop :=
  ∀ (s : State) (p : Path) (code : BitVec 16) (slot : Nat),
    let t := s.touch p
    let cmds := [(Instr.programSlot p slot, 1), (.revokeSlot p slot, 2), (.advanceRollback p, 3), (.dbgOff p, 4)]
    let n (op : Nat) : Nat := if op ≤ 2 then slot else 0
    (s.takes p 19 = true →
      (code = 0xF05E → Answers (.secFuseArm p code) s p .done fun u => u = { t with sec := { t.sec with armedAt := some s.up } })
      ∧ (code ≠ 0xF05E → Answers (.secFuseArm p code) s p .done fun u => u = t)
      ∧ (slot < 4 → ∀ e ∈ cmds,
        (s.mode ≠ .park → Answers e.1 s p .state fun u => u = t)
        ∧ (s.mode = .park → s.flag Reg.PWR_STAT_DIP = true ∨ s.sec.fuseOp.isSome = true → Answers e.1 s p .busy fun u => u = t)
        ∧ (s.mode = .park → s.flag Reg.PWR_STAT_DIP = false → s.sec.fuseOp = none →
          (s.fuseArmed = false → Answers e.1 s p .state fun u => u = t)
          ∧ (s.fuseArmed = true → s.fuseRefused e.2 (n e.2) = true → Answers e.1 s p .state fun u => u = { t with sec := { t.sec with armedAt := none } })
          ∧ (s.fuseArmed = true → s.fuseRefused e.2 (n e.2) = false → Answers e.1 s p .done fun u =>
            u.sec.fuseOp = some (e.2, n e.2) ∧ u.sec.armedAt = none ∧ u.fuses = s.fuses ∧ u.flag Reg.SEC_STAT_FUSE_BUSY = true
              ∧ RegsBut [Reg.SEC_STAT_FUSE_BUSY.key 0] s u ∧ { u with regs := s.regs, sec := s.sec } = t)))
      ∧ (4 ≤ slot → Answers (.programSlot p slot) s p .range (fun u => u = t) ∧ Answers (.revokeSlot p slot) s p .range fun u => u = t))
    ∧ (∀ a, s.sec.armedAt = some a → Completes .fuseArmExpire s fun u =>
      u.sec = { s.sec with armedAt := none } ∧ a + 1000000000 ≤ u.up ∧ { u with sec := s.sec, now := s.now, up := s.up, slew := s.slew, keep := s.keep } = s)
    ∧ (∀ op, s.sec.fuseOp = some (op, slot) → Completes .fuseOpDone s fun u =>
      u.sec = { s.sec with fuseOp := none } ∧ u.flag Reg.SEC_STAT_FUSE_BUSY = false ∧ u.get Reg.SEC_STAT_FUSE_RESULT = 0
        ∧ FieldsBut [Reg.SEC_STAT_FUSE_BUSY.key 0, Reg.SEC_STAT_FUSE_RESULT.key 0] s u
        ∧ { u.quietRest with sec := s.sec, fuses := s.fuses } = s.quietRest
        ∧ (op = 1 → slot < 4 → (s.fuses.slot slot).valid = false → (s.fuses.slot slot).hash = [] →
            (u.fuses.slot slot).valid = true ∧ (u.fuses.slot slot).hash = s.sec.fuseHash)
        ∧ (op = 2 → slot < 4 → (u.fuses.slot slot).revoked = true)
        ∧ (op = 3 → u.fuses = { s.fuses with rollback := max s.fuses.rollback s.rst.imgSvn })
        ∧ (op = 4 → u.fuses = { s.fuses with dbgOff := true })
        ∧ (op ≤ 2 → 1 ≤ op → u.fuses.rollback = s.fuses.rollback ∧ u.fuses.dbgOff = s.fuses.dbgOff
            ∧ ∀ k, k < 4 → k ≠ slot → slot < 4 → u.fuses.slot k = s.fuses.slot k))
    ∧ (s.flag Reg.SEC_STAT_RNG_FAIL = false → Completes .trngHealthFail s fun u =>
      u.flag Reg.SEC_STAT_RNG_FAIL = true ∧ FieldsBut [Reg.SEC_STAT_RNG_FAIL.key 0] s u ∧ u.quietRest = s.quietRest)
    ∧ Completes .trngHealthRecover s fun u =>
      u.flag Reg.SEC_STAT_RNG_FAIL = false ∧ RegsBut [Reg.SEC_STAT_RNG_FAIL.key 0] s u ∧ { u with regs := s.regs } = s

/-- The observer's commands, its engines, dead reckoning's limit and the calibration store. For every state and path that takes commands:
ORIGIN_SET and OBS_REINIT with every positioning loop open, DATUM_SET in the running state, CAL_RESET and CHAN_CAL_RESET on a part that is
no standby, are accepted for the next update and change nothing yet; LOOP_CLOSED, STATE and ROLE are their refusals. CAL_SAVE with no save
in progress starts one, or waits while a dip lasts, and answers BUSY during one; CAL_SAVE_PERIODIC does so in RUN. CAL_SAVE_DONE outside a
dip, which pauses the write, leaves the saved estimates in the copy with the older sequence number and the other copy as it was.
DR_MAX_EXPIRED lets time pass to the limit and marks the group expired, once. OBSERVER_ENGINE_FAULT on C0 of a D8 with its spare whole
moves the observer to C1 and keeps its state; of the spare sets SPARE_LOST; of the last engine leaves the observer failed. Loops, pump and
fuses stay. (R219, R221, R226, R227, R229, R235, R236, R342, R399) -/
def Obligations.ObserverCommands : Prop :=
  ∀ (s : State) (p : Path) (c : Nat),
    let t := s.touch p
    let standby := s.grouped = true ∧ s.role = 1
    let started (u : State) : Prop := (∃ k, u.obs.saving = some k ∧ k.est = s.obs.est ∧ k.cov = s.obs.estCov
      ∧ (∀ a, s.obs.copyA = some a ∨ s.obs.copyB = some a → a.seq < k.seq)) ∧ u.flag Reg.OBS_STAT_CAL_BUSY = true
      ∧ RegsBut [Reg.OBS_STAT_CAL_BUSY.key 0] s u
    (s.takes p 11 = true →
      (s.dpClosed = false → Answers (.originSet p) s p .done (fun u => u = { t with obs := { t.obs with originReq := true } })
        ∧ Answers (.obsReinit p) s p .done fun u => u = { t with obs := { t.obs with reinitReq := true } })
      ∧ (s.dpClosed = true → Answers (.originSet p) s p .loopClosed (fun u => u = t) ∧ Answers (.obsReinit p) s p .loopClosed fun u => u = t)
      ∧ (¬ standby → Answers (.calReset p) s p .done fun u => u = { t with obs := { t.obs with calReset := true } })
      ∧ (¬ standby → c < 64 → Answers (.chanCalReset p c) s p .done fun u =>
        storeFind u.obs.chanReset c = some () ∧ { u with obs := { u.obs with chanReset := s.obs.chanReset } } = t)
      ∧ (standby → c < 64 → Answers (.calReset p) s p .role (fun u => u = t) ∧ Answers (.chanCalReset p c) s p .role fun u => u = t)
      ∧ (s.obsState = 1 → c < 64 → Answers (.datumSet p c) s p .done fun u =>
        storeFind u.obs.datumReq c = some () ∧ { u with obs := { u.obs with datumReq := s.obs.datumReq } } = t)
      ∧ (s.obsState ≠ 1 → c < 64 → Answers (.datumSet p c) s p .state fun u => u = t)
      ∧ (s.obs.saving = none → s.flag Reg.PWR_STAT_DIP = false → Answers (.calSave p) s p .done fun u => started u ∧ { u with regs := s.regs, obs := s.obs } = t)
      ∧ (s.obs.saving = none → s.flag Reg.PWR_STAT_DIP = true → Answers (.calSave p) s p .done fun u => u = { t with obs := { t.obs with saveWanted := true } })
      ∧ (s.obs.saving ≠ none → Answers (.calSave p) s p .busy fun u => u = t))
    ∧ (s.mode = .run → s.variant ≠ .d2 → s.obs.saving = none → s.flag Reg.PWR_STAT_DIP = false → Completes .calSavePeriodic s fun u =>
      started u ∧ { u with regs := s.regs, obs := s.obs } = s)
    ∧ (s.mode ≠ .run → Completes .calSavePeriodic s fun u => u = s)
    ∧ (s.flag Reg.PWR_STAT_DIP = true → Completes .calSaveDone s fun u => u = s)
    ∧ (∀ k, s.flag Reg.PWR_STAT_DIP = false → s.obs.saving = some k → s.obs.saveWanted = false → Completes .calSaveDone s fun u =>
      u.obs.saving = none ∧ u.flag Reg.OBS_STAT_CAL_BUSY = false ∧ FieldsBut [Reg.OBS_STAT_CAL_BUSY.key 0] s u
        ∧ (if (s.obs.copyA.map CalCopy.seq).getD 0 ≤ (s.obs.copyB.map CalCopy.seq).getD 0 then u.obs.copyA = some k ∧ u.obs.copyB = s.obs.copyB
            else u.obs.copyB = some k ∧ u.obs.copyA = s.obs.copyA)
        ∧ { u.quietRest with obs := s.obs } = s.quietRest)
    ∧ (s.obs.drPos = true → s.obs.expPos = false → Completes (.drMaxExpired .position) s fun u =>
      u.obs = { s.obs with expPos := true } ∧ s.obs.closeAt + (s.get Reg.OBS_CFG_DR_MAX_POS * 1000000000 - s.obs.drPosNs) < u.now
        ∧ FieldsBut [] s u ∧ u.loops.slots = s.loops.slots ∧ u.pump = s.pump)
    ∧ (s.obs.drHdg = true → s.obs.expHdg = false → Completes (.drMaxExpired .heading) s fun u =>
      u.obs = { s.obs with expHdg := true } ∧ s.obs.closeAt + (s.get Reg.OBS_CFG_DR_MAX_HDG * 1000000000 - s.obs.drHdgNs) < u.now
        ∧ FieldsBut [] s u ∧ u.loops.slots = s.loops.slots ∧ u.pump = s.pump)
    ∧ (∀ cause b, s.variant = .d8 →
      (s.get Reg.OBS_STAT_ENGINE = 0 → s.obs.bad1 = false → Completes (.observerEngineFault 0 cause b) s fun u =>
        u.get Reg.OBS_STAT_ENGINE = 1 ∧ u.flag Reg.OBS_STAT_FAILOVER = true ∧ u.obs = { s.obs with cutUpdate := b }
          ∧ FieldsBut [Reg.OBS_STAT_ENGINE.key 0, Reg.OBS_STAT_FAILOVER.key 0] s u ∧ { u.quietRest with obs := s.obs } = s.quietRest)
      ∧ (s.get Reg.OBS_STAT_ENGINE = 0 → Completes (.observerEngineFault 1 cause b) s fun u =>
        u.flag Reg.OBS_STAT_SPARE_LOST = true ∧ u.obs = { s.obs with bad1 := true } ∧ FieldsBut [Reg.OBS_STAT_SPARE_LOST.key 0] s u
          ∧ { u.quietRest with obs := s.obs } = s.quietRest)
      ∧ (s.get Reg.OBS_STAT_ENGINE = 1 → Completes (.observerEngineFault 1 cause b) s fun u =>
        u.obsState = 2 ∧ u.obs = { s.obs with bad1 := true } ∧ FieldsBut [Reg.OBS_STAT_STATE.key 0] s u ∧ u.loops.slots = s.loops.slots ∧ u.pump = s.pump))

/-- The hatch library. For every state and path that takes commands, and every library entry but entry 0, which holds the built-in hatch and
answers RANGE to LOAD, STORE and ERASE: LOAD of an EMPTY entry with none LOADING makes it LOADING; a window word then goes to that entry;
VERIFY of it with no operation in progress starts the check, which leaves it VERIFIED with the hatch that its loaded words spell where
key, structure, section checks and version hold, or EMPTY; STORE of a VERIFIED one with room in the NV store starts the write, which
outside a dip leaves it STORED and in NV; ERASE of an unused one that is not in an operation empties it and its NV place; ABORT of a
LOADING one empties it; without the state it needs each answers STATE. HATCH_STAT names the entry and the status. No other entry and no
solver slot changes. (R298, R299, R300, R318, R399, R435) -/
def Obligations.HatchCommands : Prop :=
  ∀ (s : State) (p : Path) (e w : Nat) (v : Word) (g : Verdict) (d : HatchDesc), 0 < e → e < 32 →
    let t := s.touch p
    let x := s.hatchEntry e
    let h := hatchIn x.words d
    let r := s.verifyObject { g with structOk := g.structOk && headerOk x.words && sectionsOk x.words } d.keyHash h.svn false
    let keys := [Reg.SOLV_HATCH_STAT_ENTRY.key 0, Reg.SOLV_HATCH_STAT_RESULT.key 0, Reg.SOLV_HATCH_STAT_BUSY.key 0]
    let others (u : State) : Prop := (∀ k, k ≠ e → u.hatchEntry k = s.hatchEntry k) ∧ u.solv.slots = s.solv.slots ∧ u.solv.dies = s.solv.dies
    let ok (u : State) : Prop := u.get Reg.SOLV_HATCH_STAT_ENTRY = e ∧ u.get Reg.SOLV_HATCH_STAT_RESULT = 0 ∧ RegsBut keys s u ∧ others u
      ∧ { u with regs := s.regs, solv := s.solv } = t
    let no (st : Status) (u : State) : Prop := u.get Reg.SOLV_HATCH_STAT_RESULT = st.code ∧ RegsBut keys s u ∧ { u with regs := s.regs } = t
    let loading := s.solv.entries.any (fun n => decide (n.2.state = 1))
    let busyHere := s.solv.op.any (fun o => decide (o.1 = e))
    (s.takes p 14 = true →
      (x.state = 0 → loading = false → Answers (.hatchLoad p e) s p .done fun u => ok u ∧ (u.hatchEntry e).state = 1 ∧ (u.hatchEntry e).words = [])
      ∧ (x.state ≠ 0 ∨ loading = true → Answers (.hatchLoad p e) s p .state (no .state))
      ∧ (x.state = 1 → s.solv.op = none → Answers (.hatchVerify p e) s p .done fun u =>
        ok u ∧ (u.hatchEntry e).state = 2 ∧ u.solv.op = some (e, false) ∧ u.flag Reg.SOLV_HATCH_STAT_BUSY = true)
      ∧ (x.state ≠ 1 → Answers (.hatchVerify p e) s p .state (no .state))
      ∧ (x.state = 3 → s.solv.op = none → s.storedBytes + (x.desc.map (fun y => y.hdr.length)).getD 0 ≤ 16777216 → Answers (.hatchStore p e) s p .done fun u =>
        ok u ∧ u.hatchEntry e = x ∧ u.solv.op = some (e, true) ∧ u.flag Reg.SOLV_HATCH_STAT_BUSY = true)
      ∧ (x.state ≠ 3 → Answers (.hatchStore p e) s p .state (no .state))
      ∧ (3 ≤ x.state → s.entryUsed e = false → busyHere = false → Answers (.hatchErase p e) s p .done fun u =>
        ok u ∧ u.hatchEntry e = {} ∧ storeFind u.solv.nv e = none)
      ∧ (x.state < 3 → busyHere = false → Answers (.hatchErase p e) s p .state (no .state))
      ∧ (x.state = 1 → Answers (.hatchAbort p e) s p .done fun u => ok u ∧ u.hatchEntry e = {})
      ∧ (x.state = 0 ∨ x.state = 4 → Answers (.hatchAbort p e) s p .state (no .state))
      ∧ (∀ c ∈ [Instr.hatchLoad p 0, .hatchStore p 0, .hatchErase p 0], Answers c s p .range (no .range))
      ∧ (w < 2 ^ 20 → s.loadingEntry = some e → Answers (.hatchLoadWindowWrite p (0x42000000 + 4 * w) v) s p .done fun u =>
        storeFind (u.hatchEntry e).words w = some v ∧ (u.hatchEntry e).state = x.state ∧ others u ∧ { u with solv := s.solv } = t)
      ∧ (w < 2 ^ 20 → s.loadingEntry = none → Answers (.hatchLoadWindowWrite p (0x42000000 + 4 * w) v) s p .state fun u => u = t))
    ∧ (s.solv.op = some (e, false) → r.1 = .done → Completes (.hatchVerifyDone g d) s fun u =>
      (u.hatchEntry e).state = 3 ∧ (u.hatchEntry e).desc = some h ∧ others u ∧ u.solv.op = none ∧ FieldsBut keys s u
        ∧ u.get Reg.SOLV_HATCH_STAT_RESULT = 0 ∧ u.flag Reg.SOLV_HATCH_STAT_BUSY = false ∧ { u.quietRest with solv := s.solv } = s.quietRest)
    ∧ (s.solv.op = some (e, false) → r.1 ≠ .done → Completes (.hatchVerifyDone g d) s fun u =>
      u.hatchEntry e = {} ∧ others u ∧ u.solv.op = none ∧ FieldsBut keys s u ∧ u.get Reg.SOLV_HATCH_STAT_RESULT = r.1.code
        ∧ { u.quietRest with solv := s.solv } = s.quietRest)
    ∧ (s.solv.op = some (e, true) → s.flag Reg.PWR_STAT_DIP = false → Completes .hatchStoreDone s fun u =>
      u.hatchEntry e = { x with state := 4 } ∧ others u ∧ u.solv.op = none ∧ FieldsBut keys s u
        ∧ (∀ y, x.desc = some y → storeFind u.solv.nv e = some (y, { sigOk := true, structOk := true }))
        ∧ { u.quietRest with solv := s.solv } = s.quietRest)
    ∧ (s.flag Reg.PWR_STAT_DIP = true → s.solv.op = some (e, true) → Completes .hatchStoreDone s fun u => u = s)

/-- Ends of solver runs, the deadline, a lost die, the return to narrow storage, the wind limit. For every state: the end of the run of a
context that a die runs, r being what its trace computes from the start iterate in the storage of its hatch, gives the context the Newton
steps, inner iterations, merit and die time of the run with status 0 and the best iterate where it converged, 1 and the best iterate where
it stopped, 5 without an iterate where it was infeasible or not finite; with nothing else waiting the die is idle then and no other
context changes; a breach in narrow storage with a wide place free is counted and puts the context in wide mode; the end of a context that
no die runs changes nothing. SOLVE_DEADLINE lets time pass to the deadline, leaves no die with work and every context that still waited as
not run; without a deadline it changes nothing. COMPUTE_DIE_FAULT empties the die and clears its DIE_OK bit. WIDE_RETURN takes a context
back to narrow storage once its clean runs reach WIDE_HOLD and its warm start fits, and else changes nothing. WIND_FF_TIMEOUT, with DP_EN,
10 s after the last wind, ends the wind feed-forward. Points, pump and fuses stay. (R258, R297, R303, R304, R305, R306, R312, R313, R315,
R342) -/
def Obligations.SolverRuns : Prop :=
  ∀ (s : State) (r : SolveReport) (cuts : List CutRun) (d c : Nat),
    let x := s.slotRun r.ctx
    let run := s.runOf r.ctx r.trace true false
    let runs := s.dieRunning r.ctx = some d ∧ r.ctx ∉ (s.die d).list ∧ r.ctx ∉ (s.die d).reruns
    let ended (st : Nat) (it : Option (List F64)) (u : State) : Prop :=
      (u.slotRun r.ctx).status = st ∧ (u.slotRun r.ctx).newton = run.newton ∧ (u.slotRun r.ctx).inner = run.inner
        ∧ (u.slotRun r.ctx).merit = run.bestM ∧ (u.slotRun r.ctx).timeNs = r.timeNs ∧ (u.slotRun r.ctx).iterate = it
        ∧ u.points = s.points ∧ u.pump = s.pump ∧ u.fuses = s.fuses
        ∧ ((s.die d).list = [] → (s.die d).reruns = [] → (u.die d).running = none ∧ (∀ k, k ≠ r.ctx → u.slotRun k = s.slotRun k)
            ∧ (∀ k, k ≠ d → u.die k = s.die k) ∧ FieldsBut [Reg.SOLV_FLOOR_CNT_COUNT.key 0] s u ∧ { u.quietRest with solv := s.solv } = s.quietRest)
    (runs → run.diagonal = false → bitAt x.flags 2 = false →
      (run.ended = .converged → Completes (.solveContextEnd r) s (ended 0 (some run.best)))
      ∧ (run.ended = .stopped → Completes (.solveContextEnd r) s (ended 1 (some run.best))))
    ∧ (runs → run.ended = .infeasible ∨ run.ended = .nonFinite → Completes (.solveContextEnd r) s (ended 5 none))
    ∧ (runs → (s.die d).list = [] → run.ended = .breach → s.wideTaken d < 2 → Completes (.solveContextEnd r) s fun u =>
      (u.slotRun r.ctx).wide = true ∧ u.get Reg.SOLV_EVT_CNT_BREACH_CNT = satInc Reg.SOLV_EVT_CNT_BREACH_CNT.width (s.get Reg.SOLV_EVT_CNT_BREACH_CNT)
        ∧ u.points = s.points ∧ u.pump = s.pump ∧ u.fuses = s.fuses)
    ∧ (s.dieRunning r.ctx = none → Completes (.solveContextEnd r) s fun u => u = s)
    ∧ (∀ dl, s.solv.deadline = some dl → Completes (.solveDeadline cuts) s fun u =>
      u.solv.deadline = none ∧ dl ≤ u.now ∧ (∀ k, k < s.variant.dies → u.die k = {}) ∧ u.points = s.points ∧ u.pump = s.pump ∧ u.fuses = s.fuses
        ∧ (d < s.variant.dies → c ∈ (s.die d).list → (∀ k, (s.die k).running ≠ some c ∧ c ∉ (s.die k).reruns) → (u.slotRun c).status = 6))
    ∧ (s.solv.deadline = none → Completes (.solveDeadline cuts) s fun u => u = s)
    ∧ (∀ cause, d < s.variant.dies → Completes (.computeDieFault d cause) s fun u =>
      u.die d = {} ∧ bitAt (u.get Reg.SOLV_STAT_DIE_OK) d = false ∧ (∀ k, k ≠ d → u.die k = s.die k)
        ∧ (if cause = .uncorrectable then u.red.memErr = true else u.red.handshake = true)
        ∧ FieldsBut [Reg.SOLV_STAT_DIE_OK.key 0] s u ∧ { u.quietRest with solv := s.solv } = s.quietRest)
    ∧ (∀ cause, s.variant.dies ≤ d → Completes (.computeDieFault d cause) s fun u => u = s)
    ∧ ((s.slotRun c).wide = true → s.get Reg.SOLV_CFG_WIDE_HOLD ≤ (s.slotRun c).wideClean → (s.slotRun c).warm.all (s.fitsNarrow c) = true → Completes (.wideReturn c) s fun u =>
      u.slotRun c = { s.slotRun c with wide := false, wideClean := 0 } ∧ (∀ k, k ≠ c → u.slotRun k = s.slotRun k) ∧ FieldsBut [] s u
        ∧ { u.quietRest with solv := s.solv } = s.quietRest)
    ∧ ((s.slotRun c).wide = false ∨ (s.slotRun c).wideClean < s.get Reg.SOLV_CFG_WIDE_HOLD ∨ (s.slotRun c).warm.all (s.fitsNarrow c) = false → Completes (.wideReturn c) s fun u => u = s)
    ∧ (s.flag Reg.LOOP_CTL_DP_EN = true → s.trough.wind.isSome = true → s.loops.windLost = false → s.trough.windInFrame = false → Completes .windFfTimeout s fun u =>
      u.loops = { s.loops with windFF := [0, 0, 0], windLost := true } ∧ s.trough.windAt + 10000000000 ≤ u.now ∧ FieldsBut [] s u
        ∧ { u.quietRest with now := s.now, up := s.up, slew := s.slew, keep := s.keep, loops := s.loops } = s.quietRest)

/-- Frames in and out of the queue manager. While the ports are down nothing changes. FRAME_RECEIVE lets time pass to a stamp that lies ahead;
on a port that is no ring port, of a frame of at most 1,522 bytes that is not ARP for the part: one that no rule matches is counted in
NOMATCH; one whose rule names an enabled queue with room is appended there in a buffer of its own with its corrected stamp, one for a full
ring is counted as a drop, one for a queue of the station link is counted as a bad copy. A longer frame is counted as an error and goes
nowhere; on a ring port a frame that is no station frame is counted as a bad copy. ARP_REQUEST for the port's own address is answered from
the port's MAC address to the asker's, for another it changes nothing. FRAME_TX_DONE of the frame in progress takes it from its ring with
its stamp, which a one-step Sync carries; of another queue it changes nothing. (R36, R148, R149, R150, R152, R154, R157, R181, R182, R184,
R187) -/
def Obligations.Network : Prop :=
  ∀ (s : State) (f : EthFrame) (target sender : BitVec 32) (mac : BitVec 48) (q port stamp : Nat),
    let t := s.stampReached f.stamp
    let v := s.stampReached stamp
    let up := s.portsUp = true ∧ f.port < 16 ∧ s.ringPort f.port = false
    let plain := f.len ≤ 1522 ∧ (f.etype ≠ 0x0806#16 ∨ s.portIp f.port = 0)
    let err := !f.fcsOk || decide (f.len < 64)
    let l := storeGet s.qm.rx q []
    let errs := s.qm.errCount + (if err then 1 else 0)
    let bad (u : State) : Prop := u.get Reg.STN_BAD_CNT_COUNT = satInc Reg.STN_BAD_CNT_COUNT.width (s.get Reg.STN_BAD_CNT_COUNT)
      ∧ RegsBut [Reg.STN_BAD_CNT_COUNT.key 0] s u ∧ u.qm.rx = s.qm.rx
    let leaves := s.portsUp = true ∧ storeFind s.qm.busy port = some q
    let ts := s.txStamp port stamp
    (s.portsUp = false → ∀ c ∈ [Instr.frameReceive f, .arpRequest port target { ip := sender, mac := mac }, .frameTxDone q port stamp], Completes c s fun u => u = s)
    ∧ (up → plain → s.classify f = none → Completes (.frameReceive f) s fun u =>
      u.get Reg.QMGR_NOMATCH_CNT_COUNT = satInc Reg.QMGR_NOMATCH_CNT_COUNT.width (s.get Reg.QMGR_NOMATCH_CNT_COUNT)
        ∧ RegsBut [Reg.QMGR_NOMATCH_CNT_COUNT.key 0] s u ∧ { u with regs := s.regs } = t)
    ∧ (∀ i, up → plain → s.classify f = some i → s.get Reg.QMGR_RULE_CTL_QUEUE i = q → s.flag Reg.QMGR_Q_CFG_ENABLE q = true →
      (s.get Reg.QMGR_Q_CFG_CONSUMER q ≠ 1 → l.length < s.ringLen q → Completes (.frameReceive f) s fun u =>
        (∃ b, b % 64 = 0 ∧ storeGet u.qm.rx q [] = l ++ [{ buf := b, len := f.len, port := f.port, rule := i, ts := s.rxStamp f.port f.stamp, err := err }])
          ∧ (∀ j, j ≠ q → storeGet u.qm.rx j [] = storeGet s.qm.rx j []) ∧ u.qm.errCount = errs
          ∧ RegsBut [Reg.QMGR_Q_STAT_MAX_FILL.key q] s u ∧ { u with regs := s.regs, qm := s.qm, freeCtr := s.freeCtr } = t)
      ∧ (s.get Reg.QMGR_Q_CFG_CONSUMER q ≠ 1 → s.ringLen q ≤ l.length → Completes (.frameReceive f) s fun u =>
        u.get Reg.QMGR_Q_STAT_DROPS q = satInc Reg.QMGR_Q_STAT_DROPS.width (s.get Reg.QMGR_Q_STAT_DROPS q) ∧ RegsBut [Reg.QMGR_Q_STAT_DROPS.key q] s u
          ∧ u.qm = { s.qm with errCount := errs } ∧ { u with regs := s.regs, qm := s.qm } = t)
      ∧ (s.get Reg.QMGR_Q_CFG_CONSUMER q = 1 → Completes (.frameReceive f) s bad))
    ∧ (up → 1522 < f.len → Completes (.frameReceive f) s fun u => u = { t with qm := { t.qm with errCount := s.qm.errCount + 1 } })
    ∧ (s.portsUp = true → f.port < 16 → s.ringPort f.port = true → f.tags ≠ 0 ∨ f.etype.toNat ≠ s.get Reg.STN_CYCLE_CFG_STN_ETYPE →
      Completes (.frameReceive f) s bad)
    ∧ (s.portsUp = true → port < 16 → s.ringPort port = false →
      (s.portIp port ≠ 0 → target.toNat = s.portIp port → Completes (.arpRequest port target { ip := sender, mac := mac }) s fun u =>
        u = { s with qm := { s.qm with arpReply := some { port := port, askerIp := sender, head := { smac := s.portMac port, dmac := mac.toNat, etype := 0x0806 } } } })
      ∧ (target.toNat ≠ s.portIp port → Completes (.arpRequest port target { ip := sender, mac := mac }) s fun u => u = s))
    ∧ (∀ d rest, leaves → storeGet s.qm.tx q [] = d :: rest →
      (d.ptp = none → Completes (.frameTxDone q port stamp) s fun u =>
        storeGet u.qm.tx q [] = rest ∧ u.qm.txDone = some { d with ts := ts } ∧ storeFind u.qm.turn port = some q
          ∧ (∀ j, j ≠ q → storeGet u.qm.tx j [] = storeGet s.qm.tx j [])
          ∧ (d.tsReq = false → { u with qm := s.qm } = v)
          ∧ (d.tsReq = true → (s.stampQueue port).length < 16 → u.stampQueue port = s.stampQueue port ++ [(d.frameId, ts)]))
      ∧ (∀ m, d.ptp = some m → m.type = 0 → m.twoStep = false → Completes (.frameTxDone q port stamp) s fun u =>
        storeGet u.qm.tx q [] = rest ∧ u.qm.txDone = some { d with ts := ts, ptp := some { m with time := (fullTime v.now ts).toNat } }))
    ∧ (storeFind s.qm.busy port ≠ some q → Completes (.frameTxDone q port stamp) s fun u => u = s)

/-- Station link frames, RELEASE, and the clearing of the force table. For every state with the ports up and a station frame that a rule
delivers to the station link: one whose CRC-32C, taken over its data, differs is counted as bad; one of another version, kind, station or
length than its ring has is counted as bad; one of another cycle, or after the close, is counted as late; the first valid copy of a
station in the window keeps its entries with the leg it came on, a second copy only adds its leg. One that no rule delivers to the station
link is a frame like any other. OUTPUT_FRAME_RETURN of a ring that sent notes the leg that came round. No point changes. STN_RELEASE on a
part that is no standby is sent to the station for 100 cycles, on a standby it answers ROLE; FORCE_CLR_ALL outside any transaction is
committed for the boundary, on a standby it answers ROLE. (R130, R133, R157, R158, R160, R162, R166, R169) -/
def Obligations.Stations : Prop :=
  ∀ (s : State) (f : StationFrame) (port i : Nat) (p : Path),
    let t := s.touch p
    let known := s.stationKnown f = true
    let crcOk := f.crc.toNat = crc32c (copyData f)
    let fits := f.version = 1 ∧ f.kind = 2 ∧ known ∧ f.entries.length = s.get Reg.STN_ST_IN_IN_COUNT f.station
    let inTime := f.cycle.toNat = s.n % 4294967296 ∧ s.windowOpen = true ∧ s.now ≤ s.windowLimit ∧ s.allIn = false
    let counted (g : Fld) (u : State) : Prop := u.get g = satInc g.width (s.get g) ∧ RegsBut [g.key 0] s u
    let standby := s.grouped = true ∧ s.role = 1
    (s.portsUp = true → f.port < 16 → s.stationRouted f = true →
      (¬ crcOk → Completes (.stationInputFrame f) s fun u => counted Reg.STN_BAD_CNT_COUNT u ∧ u.stn.copies = s.stn.copies
        ∧ (known → storeFind u.stn.crcBad f.station = some ()) ∧ { u with regs := s.regs, stn := s.stn } = s)
      ∧ (crcOk → ¬ fits → Completes (.stationInputFrame f) s fun u => counted Reg.STN_BAD_CNT_COUNT u ∧ { u with regs := s.regs } = s)
      ∧ (crcOk → fits → ¬ inTime → Completes (.stationInputFrame f) s fun u => counted Reg.STN_LATE_CNT_COUNT u ∧ { u with regs := s.regs } = s)
      ∧ (crcOk → fits → inTime → Completes (.stationInputFrame f) s fun u =>
        (∃ c, storeFind u.stn.copies f.station = some c
          ∧ (storeFind s.stn.copies f.station = none → c.entries = f.entries ∧ c.claim = f.claim ∧ c.status = f.status
              ∧ c.legA = decide (f.port % 2 = 0) ∧ c.legB = decide (f.port % 2 ≠ 0))
          ∧ (∀ c', storeFind s.stn.copies f.station = some c' → c = { c' with legA := c.legA, legB := c.legB }
              ∧ (c.legA = true ↔ c'.legA = true ∨ f.port % 2 = 0) ∧ (c.legB = true ↔ c'.legB = true ∨ f.port % 2 ≠ 0)))
          ∧ (∀ j, j ≠ f.station → storeFind u.stn.copies j = storeFind s.stn.copies j)
          ∧ { u with stn := { u.stn with copies := s.stn.copies } } = s))
    ∧ (s.portsUp = true → f.port < 16 → s.stationRouted f = false → Completes (.stationInputFrame f) s fun u =>
      u = s.frameTake (s.stationEth f) ∧ u.stn = s.stn)
    ∧ (s.portsUp = false → Completes (.stationInputFrame f) s fun u => u = s)
    ∧ (s.portsUp = true → s.running = true → port < 16 → s.ringPort port = true → s.stn.sent.any (fun x => decide (x.ring = port / 2)) = true →
      Completes (.outputFrameReturn port) s fun u =>
        storeFind u.stn.returns (port / 2) = some (storeGet s.stn.returns (port / 2) 0 ||| (if port % 2 = 1 then 1 else 2))
          ∧ { u with stn := { u.stn with returns := s.stn.returns } } = s)
    ∧ (s.takes p 7 = true → i < s.variant.stations → ¬ standby → Answers (.stnRelease p i) s p .done fun u =>
      storeFind u.stn.release i = some 100 ∧ { u with stn := { u.stn with release := s.stn.release } } = t)
    ∧ (s.takes p 7 = true → i < s.variant.stations → standby → Answers (.stnRelease p i) s p .role fun u => u = t)
    ∧ (s.takes p 5 = true → ¬ standby → t.host.phase = .idle → t.host.timeoutOwner ≠ some p → Answers (.forceClrAll p) s p .done fun u =>
      u = { t with host := { t.host with commits := t.host.commits ++ [{ words := [{ addr := 0x050000, index := 0, value := 1 }], oneWrite := true, skip := t.boundarySkip }] } })
    ∧ (s.takes p 5 = true → standby → Answers (.forceClrAll p) s p .role fun u => u = t)

/-- Time sources, PPS outputs, discrete input edges, the PTP instance. For every state: TSU_STEP is accepted in PARK for the next boundary and
answers STATE elsewhere. PTP_MESSAGE on a ring port is counted as a bad copy; on a port without PTP, of another domain or transport or of
the part itself it changes nothing; an Announce is kept as the port's best master, and the second one of a master better than the part's
clock, with no master heard elsewhere, makes the port the slave port; a one-step Sync of the parent gives the offset from its corrected
stamps less path delay and delayAsymmetry and makes PTP available; at a master port with end-to-end delay a Delay_Req is answered with its
receive time. PTP_MESSAGE_INTERVAL sends the messages that are due and counts their sequence numbers on. PPS_IN_EDGE keeps the edge and
makes its source available when the last one lay within 1.5 s; SOURCE_TIMEOUT lets the limit pass and makes an available source
unavailable; none of them steps the time base. PPS_OUT_EDGE of an output that follows the boundary drives it high for WIDTH, at most half
the cycle, of one that follows the second at a whole second; PPS_OUT_FALL drives it low then. DIN_EDGE with bank A powered keeps stamp and
direction and sets MISSED where the last edge is unread; one within 20 ns of the last changes the level only. (R157, R175, R176, R177,
R178, R179, R180, R181, R183, R187, R188, R405) -/
def Obligations.TimeSources : Prop :=
  ∀ (s : State) (p : Path) (port k stamp : Nat) (b : Bool) (m : PtpMessage),
    let t := s.touch p
    let v := s.stampReached stamp
    let x := fullTime v.now stamp
    let w := ({ s with time := { s.time with ptpSent := [] } }).stampReached m.stamp
    let y := s.ptpPort port
    let sent := fullTime w.now (s.rxStamp port m.stamp)
    let still (w u : State) : Prop := u.now = w.now ∧ u.points = s.points ∧ u.pump = s.pump ∧ u.fuses = s.fuses ∧ u.mode = s.mode
    let near (last : Option Nat) : Bool := last.any (fun l => decide ((l : Int) < x ∧ x - l ≤ 1500000000))
    let takes := s.ptpOn port = true ∧ s.strayDatagram port m.udp = false ∧ m.udp.isSome = s.flag Reg.TSU_PORT_PTP_UDP port
      ∧ m.domain.toNat = s.get Reg.TSU_PTP_CFG_DOMAIN ∧ m.clock ≠ s.clockId
    (s.takes p 8 = true → s.mode = .park → Answers (.tsuStep p) s p .done fun u => u = { t with time := { t.time with stepReq := true } })
    ∧ (s.takes p 8 = true → s.mode ≠ .park → Answers (.tsuStep p) s p .state fun u => u = t)
    ∧ (s.portsUp = true → port < 16 → s.ringPort port = true → Completes (.ptpMessage port m) s fun u =>
      u.get Reg.STN_BAD_CNT_COUNT = satInc Reg.STN_BAD_CNT_COUNT.width (s.get Reg.STN_BAD_CNT_COUNT) ∧ RegsBut [Reg.STN_BAD_CNT_COUNT.key 0] s u
        ∧ { u with regs := s.regs } = s)
    ∧ (¬ takes → s.ringPort port = false → Completes (.ptpMessage port m) s fun u => u = s)
    ∧ (takes →
      (∀ d, m.type = 11 → m.master = some d → y.master = none → Completes (.ptpMessage port m) s fun u =>
        (u.ptpPort port).master = some (d, m.clock, m.clockPort) ∧ (u.ptpPort port).announces = 1 ∧ (u.ptpPort port).announceAt = u.up ∧ still w u)
      ∧ (∀ d o, m.type = 11 → m.master = some d → y.master = some (o, m.clock, m.clockPort) → 1 ≤ y.announces →
          w.up ≤ y.announceAt + 4 * s.announceNs → (∀ j, j ≠ port → s.foreign j = none) → lexLt (ptpRank s.ownMaster) (ptpRank d) = false →
          Completes (.ptpMessage port m) s fun u =>
        (u.ptpPort port).master = some (d, m.clock, m.clockPort) ∧ (u.ptpPort port).announces = 2 ∧ u.ptpState port = 2 ∧ still w u)
      ∧ (m.type = 0 → m.twoStep = false → s.fromParent port m = true → w.up ≤ y.announceAt + s.announceLimit → Completes (.ptpMessage port m) s fun u =>
        u.time.ptpAvail = true ∧ u.time.ptpOffset = sent - (m.time + m.correction / 65536) - y.delay - sext 16 (s.get Reg.TSU_PORT_PTP_ASYM port)
          ∧ (u.ptpPort port).syncAt = some u.up ∧ still w u)
      ∧ (m.type = 0 → s.fromParent port m = false → Completes (.ptpMessage port m) s fun u => u = w)
      ∧ (m.type = 1 → s.ptpState port = 1 → s.flag Reg.TSU_PORT_PTP_P2P port = false → Completes (.ptpMessage port m) s fun u =>
        (∃ a, u.time.ptpSent = [(port, a)] ∧ a.type = 9 ∧ a.seq = m.seq ∧ a.clock = s.clockId ∧ a.reqClock = m.clock ∧ a.reqPort = m.clockPort
          ∧ a.time = sent.toNat ∧ a.correction = m.correction ∧ (a.udp.isSome = true ↔ s.flag Reg.TSU_PORT_PTP_UDP port = true))
          ∧ u.time.ports = s.time.ports ∧ still w u))
    ∧ (s.ptpOn port = false → Completes (.ptpMessageInterval port) s fun u => u = s)
    ∧ (s.ptpOn port = true → Completes (.ptpMessageInterval port) s fun u =>
      u.time.ptpSent.map (fun e => (e.1, { e.2 with udp := none })) = (s.ptpDecideAll.ptpDue port).map (fun a => (port, a))
        ∧ (u.ptpPort port).seqSync = y.seqSync + 1 ∧ (u.ptpPort port).seqAnnounce = y.seqAnnounce + 1 ∧ (u.ptpPort port).seqReq = y.seqReq + 1
        ∧ still s u)
    ∧ Completes (.ppsInEdge 0 stamp) s (fun u => u.time.pps0Last = some x.toNat ∧ u.time.pps0Avail = near s.time.pps0Last
        ∧ u.time.pps0Offset = secondOffset x ∧ u.time.pps1Last = s.time.pps1Last ∧ still v u)
    ∧ Completes (.ppsInEdge 1 stamp) s (fun u => u.time.pps1Last = some x.toNat ∧ u.time.pps1Avail = near s.time.pps1Last
        ∧ u.time.pps1Offset = secondOffset x ∧ u.time.pps0Last = s.time.pps0Last ∧ still v u)
    ∧ (2 ≤ k → Completes (.ppsInEdge k stamp) s fun u => u = s)
    ∧ (s.time.ptpAvail = true → Completes (.sourceTimeout 1) s fun u => u.time.ptpAvail = false ∧ s.up ≤ u.up ∧ u.points = s.points ∧ u.pump = s.pump)
    ∧ (∀ l, s.time.pps0Avail = true → s.time.pps0Last = some l → Completes (.sourceTimeout 2) s fun u =>
      u.time.pps0Avail = false ∧ u.time.pps0Last = none ∧ l + 1500000000 < u.now ∧ u.points = s.points ∧ u.pump = s.pump)
    ∧ (∀ l, s.time.pps1Avail = true → s.time.pps1Last = some l → Completes (.sourceTimeout 3) s fun u =>
      u.time.pps1Avail = false ∧ u.time.pps1Last = none ∧ l + 1500000000 < u.now ∧ u.points = s.points ∧ u.pump = s.pump)
    ∧ (s.running = true → s.get Reg.TSU_PPS_OUT_MODE 0 = 2 → Completes (.ppsOutEdge 0) s fun u =>
      u.time.pps0High = true ∧ u.time.pps0Fall = s.bnd + min (s.get Reg.TSU_PPS_OUT_WIDTH 0 * 1000) (s.tp / 2) ∧ { u with time := s.time } = s)
    ∧ (s.running = true → s.get Reg.TSU_PPS_OUT_MODE 1 = 1 → s.timeValid = true → Completes (.ppsOutEdge 1) s fun u =>
      u.time.pps1High = true ∧ u.now % 1000000000 = 0 ∧ s.now ≤ u.now ∧ u.now < s.now + 1000000000
        ∧ u.time.pps1Fall = u.now + min (s.get Reg.TSU_PPS_OUT_WIDTH 1 * 1000) 500000000 ∧ u.points = s.points ∧ u.regs = s.regs)
    ∧ (s.time.pps0High = true → Completes (.ppsOutFall 0) s fun u => u.time = { s.time with pps0High := false } ∧ s.time.pps0Fall ≤ u.now
        ∧ { u with time := s.time, now := s.now, up := s.up, slew := s.slew, keep := s.keep } = s)
    ∧ (s.time.pps0High = false → Completes (.ppsOutFall 0) s fun u => u = s)
    ∧ (k < 64 → s.flag Reg.PWR_STAT_VIO_A_LOW = false → Completes (.dinEdge k b stamp) s fun u =>
      let d := s.dinUnit k
      u.dinUnit k = (if d.seen = true ∧ (stampDiff d.stamp (stamp % 2 ^ 40)).natAbs < 20 then { d with level := b }
          else { stamp := stamp % 2 ^ 40, rising := b, level := b, missed := d.missed || d.unread, unread := true, seen := true })
        ∧ (∀ j, j ≠ k → u.dinUnit j = s.dinUnit j) ∧ { u with time := { u.time with din := s.time.din } } = v)
    ∧ (64 ≤ k ∨ s.flag Reg.PWR_STAT_VIO_A_LOW = true → Completes (.dinEdge k b stamp) s fun u => u = s)

/-- Sensor messages, N2K addresses, user sentences. For every state: SENSOR_MESSAGE lets time pass to a stamp that lies ahead and a trough
frame close that is ready or at its limit by then; of a source that no enabled channel has, or of a serial source while bank A is
unpowered, it changes nothing more; a PGN that the one channel of its source takes becomes that channel's newest sample, stamped less the
channel's latency where the channel has no time of its own, and one that it finds damaged is counted as bad. N2K_CLAIM_START claims
PREF_ADDR with the controller's NAME; N2K_ADDRESS_CLAIM_RX marks the address as taken, and where it wins the own address the part claims a
free one or none; N2K_REQUEST_RX is answered with the address held or with Cannot Claim. UART_TX_SEND of a legal sentence by an enabled
transmitter that is free sends the bytes with checksum and line end; UART_TX_DONE frees it. (R181, R190, R191, R192, R195, R196, R197,
R198, R199, R405) -/
def Obligations.SensorsAndSerial : Prop :=
  ∀ (s : State) (src : SensorSource) (body : SensorBody) (stamp c addr u len : Nat) (name : BitVec 64) (p : Path),
    let t := s.touch p
    let r := s.stampReached stamp
    let w := if r.running = true ∧ r.trough.openTh.any (fun th => r.frameReady th || decide (r.trough.limit ≤ r.now)) = true then r.frameClose else r
    let x := fullTime w.now (w.sensorStamp src stamp)
    let bytes := (List.range len).map (fun j => BitVec.ofNat 8 (s.get (Reg.SER_UART_TXBUF_BYTES.at (j / 4)) u / 256 ^ (j % 4)))
    let sum := (xorSum (bytes.drop 1)).toNat
    let claimed (a : Nat) : CanSent := { kind := 1, addr := a, name := s.canName c }
    let serOnly (v : State) : Prop := RegsBut [Reg.SER_CAN_STAT_ADDR.key c, Reg.SER_CAN_STAT_CLAIMED.key c] s v ∧ { v with regs := s.regs, ser := s.ser } = s
    (w.chansOf src = [] → (∀ d, body ≠ .binary d) → Completes (.sensorMessage src body stamp) s fun v => v = w)
    ∧ (w.flag Reg.PWR_STAT_VIO_A_LOW = true → (∀ n q d, src ≠ .queue n q d) → Completes (.sensorMessage src body stamp) s fun v => v = w)
    ∧ (∀ g sa fast d, body = .pgn g sa fast d → w.deafTo src body = false → w.chansOf src = [c] →
      (∀ l, (w.takeCfg c).2 = false → w.offer (w.takeCfg c).1 src body = .fields l → Completes (.sensorMessage src body stamp) s fun v =>
          (∃ y, (v.chan c).newest = some y ∧ y.stamp = (x % 2 ^ 40).toNat ∧ y.tc = x - w.get Reg.TRG_CH_LAT_LATENCY c * 1000 ∧ y.fields.length = l.length)
            ∧ (v.chan c).fresh = true ∧ (v.chan c).badCnt = (w.chan c).badCnt ∧ (∀ j, j ≠ c → v.chan j = w.chan j) ∧ v.points = w.points ∧ v.pump = w.pump)
      ∧ (w.offer (w.takeCfg c).1 src body = .bad → Completes (.sensorMessage src body stamp) s fun v =>
          v.chan c = { w.chan c with badCnt := satInc 32 (w.chan c).badCnt }
            ∧ (∀ j, j ≠ c → v.chan j = w.chan j) ∧ FieldsBut [] w v ∧ { v.quietRest with trough := w.trough } = w.quietRest))
    ∧ (c < 4 → s.canClaims c = true →
      Completes (.n2kClaimStart c) s (fun v => v.get Reg.SER_CAN_STAT_ADDR c = s.get Reg.SER_CAN_CFG_PREF_ADDR c % 2 ^ Reg.SER_CAN_STAT_ADDR.width
        ∧ v.flag Reg.SER_CAN_STAT_CLAIMED c = true ∧ storeFind v.ser.canSent c = some (claimed (s.get Reg.SER_CAN_CFG_PREF_ADDR c)) ∧ serOnly v)
      ∧ (s.flag Reg.SER_CAN_STAT_CLAIMED c = true → Completes (.n2kRequestRx c) s fun v =>
        storeFind v.ser.canSent c = some (claimed (s.get Reg.SER_CAN_STAT_ADDR c)) ∧ v.flag Reg.SER_CAN_STAT_CLAIMED c = true ∧ serOnly v)
      ∧ (s.flag Reg.SER_CAN_STAT_CLAIMED c = false → Completes (.n2kRequestRx c) s fun v =>
        storeFind v.ser.canSent c = some { claimed 254 with kind := 2 } ∧ { v with ser := { v.ser with canSent := s.ser.canSent } } = s)
      ∧ (name.toNat ≠ s.canName c →
        Completes (.n2kAddressClaimRx c addr name) s (fun v => addr ∈ storeGet v.ser.taken c [] ∧ serOnly v
          ∧ (s.get Reg.SER_CAN_STAT_ADDR c ≠ addr ∨ s.canName c < name.toNat → v.regs = s.regs ∧ v.ser.canSent = s.ser.canSent)
          ∧ (s.flag Reg.SER_CAN_STAT_CLAIMED c = true → s.get Reg.SER_CAN_STAT_ADDR c = addr → name.toNat < s.canName c →
              v.get Reg.SER_CAN_STAT_ADDR c ≠ addr ∨ 248 ≤ addr ∨ addr < 128))))
    ∧ (1 ≤ len → len ≤ 77 → u < 24 → s.takes p 9 = true → bytes.head? = some 36 ∨ bytes.head? = some 33 → storeFind s.ser.busy u = none →
        s.flag Reg.SER_UART_CFG_TX_EN u = true → Answers (.uartTxSend p u len) s p .done fun v =>
          storeFind v.ser.busy u = some () ∧ storeFind v.ser.sent u = some (bytes ++ [42, hexChar (sum / 16), hexChar (sum % 16), 13, 10])
            ∧ { v with ser := s.ser } = t)
    ∧ (u < 24 → s.takes p 9 = true → (storeFind s.ser.busy u).isSome = true → 1 ≤ len → len ≤ 77 → bytes.head? = some 36 → Answers (.uartTxSend p u len) s p .busy fun v => v = t)
    ∧ Completes (.uartTxDone u) s fun v => storeFind v.ser.busy u = none ∧ (∀ j, j ≠ u → storeFind v.ser.busy j = storeFind s.ser.busy j)
        ∧ { v with ser := { v.ser with busy := s.ser.busy } } = s

/-- Clocks, the MDIO bus, lanes, memory errors. For every state: REFCLK_FAIL sets REFCLK_BAD, after DONE also REFCLK_LOST with the lock of the
time base dropped; REFCLK_RESTORE clears REFCLK_BAD; SERDES_CLK_LOSS takes every lane down and the ports with them; SERDES_REFCLK_RETURN
lets them come up again; MDIO_FRAME_DONE ends the frame, RDATA taking the data of a read; SPAN_LANE_DOWN and SPAN_LANE_UP clear and set
the lane's bit, up only with the ports and for a lane that the part uses; UNCORRECTABLE_MEMORY_ERROR and HANDSHAKE_TIMEOUT count against
HEALTH. Points, pump, fuses and operating state stay, and no register field outside those named changes, but for what recording an event
or a change of HEALTH may write. (R342, R457, R459, R460, R461) -/
def Obligations.BoardEvents : Prop :=
  ∀ (s : State) (d : BitVec 16) (l die : Nat),
    (s.powered = true → s.flag Reg.SYS_BOARD_STAT_REFCLK_BAD = false → s.booted = true → Completes .refclkFail s fun u =>
      u.flag Reg.SYS_BOARD_STAT_REFCLK_BAD = true ∧ u.flag Reg.SYS_BOARD_STAT_REFCLK_LOST = true ∧ u.flag Reg.TSU_SRC_STAT_LOCKED = false
        ∧ FieldsBut [Reg.SYS_BOARD_STAT_REFCLK_BAD.key 0, Reg.SYS_BOARD_STAT_REFCLK_LOST.key 0, Reg.TSU_SRC_STAT_LOCKED.key 0] s u
        ∧ u.quietRest = s.quietRest)
    ∧ (s.powered = true → s.booted = false → Completes .refclkFail s fun u =>
      u.flag Reg.SYS_BOARD_STAT_REFCLK_BAD = true ∧ RegsBut [Reg.SYS_BOARD_STAT_REFCLK_BAD.key 0] s u ∧ { u with regs := s.regs } = s)
    ∧ Completes .refclkRestore s (fun u => u.flag Reg.SYS_BOARD_STAT_REFCLK_BAD = false
        ∧ FieldsBut [Reg.SYS_BOARD_STAT_REFCLK_BAD.key 0, Reg.TSU_SRC_STAT_ACTIVE_SRC.key 0, Reg.TSU_SRC_STAT_HOLDOVER.key 0, Reg.TSU_SRC_STAT_LOCKED.key 0] s u
        ∧ u.quietRest = s.quietRest)
    ∧ (s.powered = true → Completes .serdesClkLoss s fun u => u.flag Reg.SYS_BOARD_STAT_SERDES_CLK_BAD = true ∧ u.portsUp = false
        ∧ (∀ j, j < 4 → u.laneUp j = false) ∧ FieldsBut [Reg.SYS_BOARD_STAT_SERDES_CLK_BAD.key 0, Reg.SPAN_STAT_LANE_UP.key 0] s u
        ∧ u.quietRest = s.quietRest)
    ∧ Completes .serdesRefclkReturn s (fun u => u.flag Reg.SYS_BOARD_STAT_SERDES_CLK_BAD = false ∧ (s.booted = true → u.portsUp = true)
        ∧ RegsBut [Reg.SYS_BOARD_STAT_SERDES_CLK_BAD.key 0] s u ∧ { u with regs := s.regs } = s)
    ∧ (s.flag Reg.SYS_MDIO_STAT_BUSY = true → Completes (.mdioFrameDone d) s fun u => u.flag Reg.SYS_MDIO_STAT_BUSY = false
        ∧ u.get Reg.SYS_MDIO_STAT_RDATA = (if 2 ≤ s.get Reg.SYS_MDIO_CMD_OP then d.toNat else s.get Reg.SYS_MDIO_STAT_RDATA)
        ∧ RegsBut [Reg.SYS_MDIO_STAT_BUSY.key 0, Reg.SYS_MDIO_STAT_RDATA.key 0] s u ∧ { u with regs := s.regs } = s)
    ∧ (s.flag Reg.SYS_MDIO_STAT_BUSY = false → Completes (.mdioFrameDone d) s fun u => u = s)
    ∧ (l < 4 → Completes (.spanLaneDown l) s fun u => u.laneUp l = false ∧ FieldsBut [Reg.SPAN_STAT_LANE_UP.key 0] s u ∧ u.quietRest = s.quietRest)
    ∧ (s.laneUsed l = true → s.portsUp = true → Completes (.spanLaneUp l) s fun u => u.laneUp l = true ∧ FieldsBut [Reg.SPAN_STAT_LANE_UP.key 0] s u ∧ u.quietRest = s.quietRest)
    ∧ (s.portsUp = false ∨ s.laneUsed l = false → Completes (.spanLaneUp l) s fun u => u = s)
    ∧ Completes (.uncorrectableMemoryError die) s (fun u => u.red.memErr = true ∧ FieldsBut [] s u ∧ u.quietRest = s.quietRest)
    ∧ Completes .handshakeTimeout s fun u => u.red.handshake = true ∧ FieldsBut [] s u ∧ u.quietRest = s.quietRest

/-- RELEASE, JOIN, PROOF_TEST, ISOLATE. For every state and path that takes commands: RED_RELEASE on a part that is not ACTIVE answers ROLE,
on an ACTIVE group part with a successor it decides the release for the boundary, without one it answers STATE; RED_JOIN of an ISOLATED
group part whose plate fits makes it an unsynchronised standby, of any other it answers STATE; RED_PROOF_TEST on an ACTIVE part with a
SYNCED standby and no admission in progress starts the test, on a part that is not ACTIVE it answers ROLE; RED_ISOLATE takes a part that
is not ACTIVE out of the group, on an ACTIVE part it answers ROLE. Points, pump, safety outputs, fuses and operating state stay. (R337,
R339, R340, R343, R344) -/
def Obligations.RedundancyCommands : Prop :=
  ∀ (s : State) (p : Path), s.takes p 15 = true →
    let t := s.touch p
    let quiet (keys : List Nat) (u : State) : Prop := FieldsBut keys t u ∧ u.quietRest = t.quietRest
    (s.role ≠ 2 → Answers (.redRelease p) s p .role fun u => u = t)
    ∧ (s.role = 2 → s.red.release = none → s.grouped = true → s.successor = true → Answers (.redRelease p) s p .done fun u =>
      u.red.release = some s.boundarySkip ∧ u.flag Reg.RED_STAT_RELEASE_BLOCKED = false ∧ u.role = 2 ∧ quiet [] u)
    ∧ (s.role = 2 → s.red.release = none → s.grouped = false ∨ s.successor = false → Answers (.redRelease p) s p .state fun u => u = t)
    ∧ (s.role = 0 → s.grouped = true → s.flag Reg.RED_STAT_PLATE_DIFF = false → Answers (.redJoin p) s p .done fun u =>
      u.role = 1 ∧ u.sync = 4 ∧ u.red.failures = 0 ∧ quiet [Reg.RED_STAT_ROLE.key 0, Reg.RED_STAT_SYNC_STATE.key 0] u)
    ∧ (s.role ≠ 0 ∨ s.grouped = false ∨ s.flag Reg.RED_STAT_PLATE_DIFF = true → Answers (.redJoin p) s p .state fun u => u = t)
    ∧ (s.role ≠ 2 → Answers (.redProofTest p) s p .role fun u => u = t)
    ∧ (∀ k, s.role = 2 → s.grouped = true → s.red.admission = .none → s.syncedPartner = some k → Answers (.redProofTest p) s p .done fun u =>
      u = { t with red := { t.red with admission := .entry, admitUnit := k, admitRun := 0, proofTest := true } })
    ∧ (s.role = 2 → s.red.admission ≠ .none → Answers (.redProofTest p) s p .state fun u => u = t)
    ∧ (s.role ≠ 2 → Answers (.redIsolate p) s p .done fun u =>
      u.role = 0 ∧ u.sync = 0 ∧ u.red.admission = .none ∧ u.red.release = none ∧ quiet [Reg.RED_STAT_ROLE.key 0, Reg.RED_STAT_SYNC_STATE.key 0] u)
    ∧ (s.role = 2 → Answers (.redIsolate p) s p .role fun u => u = t)

/-- Release, takeover, yield, heartbeats, a partner lost. For every running part of a group: TAKEOVER of a standby in RUN whose active
released control at least 5 us before the next boundary makes the part ACTIVE at that boundary with the next EPOCH, counting the takeover
and its cycle; TAKEOVER_BY_ECHO of one whose claim a majority echoes does the same; RELEASE_TAKE_EFFECT of a release decided for the next
boundary makes an ACTIVE part a SYNCED standby there; ACTIVE_YIELD of an ACTIVE part to a winning claim makes it an unsynchronised standby
with the winner's EPOCH there. Points, pump, cycle count, operating state and fuses stay. HEARTBEAT_MISS of a standby in RUN in
compatibility mode, once a cycle, counts the misses of each path, and three on both give the takeover. PARTNER_UNREACHABLE of a partner
silent for longer than CLAIM_WIN marks it unreachable. Where the role or the request that a row names is absent it changes nothing (the
model's choice, log entry 10). (R325, R327, R344, R345, R346, R348, R350) -/
def Obligations.RoleChanges : Prop :=
  ∀ (s : State) (a b : Bool) (k c : Nat) (w : BitVec 16) (q : Partner),
    let still (u : State) : Prop := u.points = s.points ∧ u.pump = s.pump ∧ u.n = s.n ∧ u.mode = s.mode ∧ u.fuses = s.fuses ∧ s.nextBnd ≤ u.now
    let took (u : State) : Prop := u.role = 2 ∧ u.sync = 0 ∧ u.get Reg.RED_STAT_EPOCH = s.nextEpoch ∧ u.red.takeovers = satInc 32 s.red.takeovers
      ∧ u.red.takeCycle = (s.n + 1) % 2 ^ 32 ∧ u.red.released = none ∧ u.red.echoMajority = false ∧ still u
    let miss (on : Bool) (n : Nat) : Nat := if on then min 255 (n + 1) else 0
    let beats := s.get Reg.RED_CFG_MODE = 2 ∧ s.role = 1 ∧ s.mode = .run
    (s.grouped = true → s.running = true → s.role = 1 → s.mode = .run → s.red.released = some k → k + 5000 ≤ s.boundaryUp → Completes .takeover s took)
    ∧ (s.grouped = true → s.running = true → s.role = 1 → s.mode = .run → s.red.echoMajority = true → Completes .takeoverByEcho s took)
    ∧ (s.grouped = true → s.running = true → s.red.release = some 0 → Completes .releaseTakeEffect s fun u =>
      u.role = 1 ∧ u.sync = 3 ∧ u.red.release = none ∧ u.red.proofFrom = s.n + 1 ∧ still u)
    ∧ (s.grouped = true → s.running = true → s.role = 2 → s.red.yieldTo = some w → Completes .activeYield s fun u =>
      u.role = 1 ∧ u.sync = 4 ∧ u.get Reg.RED_STAT_EPOCH = bitsAt w.toNat 8 7 ∧ u.red.yieldTo = none ∧ u.red.release = none ∧ still u)
    ∧ (beats → s.red.beatAt ≠ some s.n → Completes (.heartbeatMiss a b) s fun u =>
      u.red.hbMiss1 = miss a s.red.hbMiss1 ∧ u.red.hbMiss2 = miss b s.red.hbMiss2
        ∧ (u.red.beatTake = true ↔ 3 ≤ miss a s.red.hbMiss1 ∧ 3 ≤ miss b s.red.hbMiss2) ∧ u.red.beatAt = some s.n
        ∧ FieldsBut [] s u ∧ u.quietRest = s.quietRest)
    ∧ (beats → s.red.beatAt = some s.n → Completes (.heartbeatMiss a b) s fun u => u = s)
    ∧ (s.partner c = some q → q.reachable = true → q.last + s.get Reg.RED_CLAIM_CFG_CLAIM_WIN < s.n → Completes (.partnerUnreachable c) s fun u =>
      u.partner c = some { q with reachable := false } ∧ (∀ d, d ≠ c → u.partner d = s.partner d) ∧ FieldsBut [] s u ∧ u.quietRest = s.quietRest)
    ∧ (s.role ≠ 1 ∨ s.red.released = none → Completes .takeover s fun u => u = s)
    ∧ (s.red.echoMajority = false → Completes .takeoverByEcho s fun u => u = s)
    ∧ (s.red.release ≠ some 0 → Completes .releaseTakeEffect s fun u => u = s)
    ∧ (s.red.yieldTo = none → Completes .activeYield s fun u => u = s)
    ∧ (¬ beats → Completes (.heartbeatMiss a b) s fun u => u = s)
    ∧ (s.partner c = none → Completes (.partnerUnreachable c) s fun u => u = s)

/-- Proof-link frames, and the proof of a cycle. For every state: on a part of a group after DONE, PROOF_LINK_FRAME_RX of an undamaged frame
on a proof link that is up, sent by another part and not seen before, is noted as seen, and the part keeps that sender's claim, plate and
cycle as a reachable partner; of the part's own UNIT isolates the part with UNIT_BAD; of a damaged frame, on another lane, seen already,
or outside a group changes nothing. PROOF_APPLY of a close that waits, with a complete proof of cycle k at hand, gives the part the cycle
count k + 1, ends the wait and goes on to the tasks; PROOF_MISS without one counts the miss, sets its flag, ends the wait not before t_p +
INPUT_WIN and leaves a standby unsynchronised. A close that does not wait has neither. (R323, R324, R325, R331, R333) -/
def Obligations.ProofLink : Prop :=
  ∀ (s : State) (f : ProofFrame) (r : RxProof),
    let served := s.grouped = true ∧ (s.running = true ∨ s.mode = .done) ∧ s.linkLane f.lane = true ∧ f.crcOk = true
    let other := f.unit ≠ s.get Reg.RED_CFG_UNIT
    (served → other → s.red.seen.contains (f.unit, f.n, f.serial) = false → Completes (.proofLinkFrameRx f) s fun u =>
      (f.unit, f.n, f.serial) ∈ u.red.seen
        ∧ (∃ q, u.partner f.unit = some q ∧ q.claim = f.claim ∧ q.reachable = true ∧ q.plateId = f.plateId ∧ q.last = s.n) ∧ u.fuses = s.fuses)
    ∧ (served → f.unit = s.get Reg.RED_CFG_UNIT → Completes (.proofLinkFrameRx f) s fun u =>
      u.role = 0 ∧ u.flag Reg.RED_STAT_UNIT_BAD = true ∧ u.points = s.points ∧ u.pump = s.pump)
    ∧ (served → other → s.red.seen.contains (f.unit, f.n, f.serial) = true → Completes (.proofLinkFrameRx f) s fun u => u = s)
    ∧ (¬ served → Completes (.proofLinkFrameRx f) s fun u => u = s)
    ∧ (s.running = true → s.phase = .tasks → s.red.waiting = true → s.red.rx = some r → r.complete = true → Completes .proofApply s fun u =>
      u.n = r.n + 1 ∧ u.red.rx = none ∧ u.red.waiting = false ∧ u.phase = .tasks)
    ∧ (s.running = true → s.phase = .tasks → s.red.waiting = true → s.red.rx = none ∨ s.red.rx = some r ∧ r.complete = false →
      Completes .proofMiss s fun u =>
        u.red.proofMiss = satInc 32 s.red.proofMiss ∧ u.red.waiting = false ∧ u.red.rx = none ∧ u.flag Reg.RED_STAT_PROOF_MISS = true
          ∧ (s.role = 1 → u.sync = 4) ∧ s.now ≤ u.now ∧ s.bnd + s.inputWin ≤ u.now ∧ u.n = s.n)
    ∧ (s.running = false ∨ s.phase ≠ .tasks ∨ s.red.waiting = false →
      Completes .proofApply s (fun u => u = s) ∧ Completes .proofMiss s fun u => u = s)

/-- Span frames at the root and at a node. For every running part of a span and every frame on a span lane that is up: at the root
SPAN_FRAME_RX counts a damaged frame, one of an unknown node, of another cycle or with the wrong number of entries as bad, and while the
input window is open keeps the first good record of a node, later copies only adding their lane, while one that comes after the close
changes nothing. At a node it counts a damaged frame or one of another cycle as bad, passes an input frame, and an output frame for
another address, on to the lanes that lead on, and takes its own output record of the cycle: its local outputs and their image take the
values, its station frames leave with the claim, UP_LOST reads 0, and no other point changes. SPAN_UP_LOST of a node without its output
record in the cycle sets UP_LOST. On a part that is in no span, or on another lane, nothing changes. (R16, R166, R353, R355, R356, R357,
R358, R359) -/
def Obligations.SpanFrames : Prop :=
  ∀ (s : State) (g : SpanFrame),
    let here := s.running = true ∧ s.spanOn = true ∧ s.spanLanes.contains g.lane = true ∧ s.laneUp g.lane = true
    let known := s.nodes.contains g.address = true ∧ g.output = false
    let inTime := g.cycle.toNat = s.n % 4294967296
    let whole := g.entries.length = s.get Reg.SPAN_NODE_IN_IN_COUNT g.address
    let mine := g.output = true ∧ g.address = s.get Reg.SPAN_CFG_ADDRESS
    let bad (u : State) : Prop := u.get Reg.SPAN_STAT_SPAN_BAD_CNT = satInc Reg.SPAN_STAT_SPAN_BAD_CNT.width (s.get Reg.SPAN_STAT_SPAN_BAD_CNT)
      ∧ RegsBut [Reg.SPAN_STAT_SPAN_BAD_CNT.key 0] s u ∧ u.span.nodes = s.span.nodes ∧ { u with regs := s.regs, span := s.span } = s
    (here → s.spanRoot = true → g.crcOk = false ∨ ¬ known ∨ ¬ inTime ∨ ¬ whole → Completes (.spanFrameRx g) s bad)
    ∧ (here → s.spanRoot = true → g.crcOk = true → known → inTime → whole → s.closedBy = false → Completes (.spanFrameRx g) s fun u =>
      (∃ c, storeFind u.span.nodes g.address = some c ∧ (storeFind s.span.nodes g.address = none → c.entries = g.entries ∧ c.echo = g.echo)
        ∧ (∀ c', storeFind s.span.nodes g.address = some c' → c = { c' with from2 := c.from2, from3 := c.from3 })
        ∧ (g.lane = 2 → c.from2 = true) ∧ (g.lane = 3 → c.from3 = true))
        ∧ (∀ j, j ≠ g.address → storeFind u.span.nodes j = storeFind s.span.nodes j) ∧ { u with span := { u.span with nodes := s.span.nodes } } = s)
    ∧ (here → s.spanRoot = true → g.crcOk = true → known → inTime → whole → s.closedBy = true → Completes (.spanFrameRx g) s fun u => u = s)
    ∧ (here → s.spanRoot = false → g.crcOk = false ∨ ¬ inTime → Completes (.spanFrameRx g) s bad)
    ∧ (here → s.spanRoot = false → g.crcOk = true → inTime → ¬ mine → Completes (.spanFrameRx g) s fun u =>
      (∀ k ∈ s.forwardLanes g.lane, { g with lane := k } ∈ u.span.forwarded) ∧ (∀ e ∈ s.span.forwarded, e ∈ u.span.forwarded)
        ∧ u.span.forwarded.length = s.span.forwarded.length + (s.forwardLanes g.lane).length
        ∧ { u with span := { u.span with forwarded := s.span.forwarded } } = s)
    ∧ (here → s.spanRoot = false → g.crcOk = true → inTime → mine → g.values.length = s.localOut → s.span.upSeen = false → s.upLanes.contains g.lane = true →
      Completes (.spanFrameRx g) s fun u => u.span.upSeen = true ∧ u.span.upClaim = g.claim ∧ u.span.upAt = s.now ∧ u.flag Reg.SPAN_STAT_UP_LOST = false
        ∧ u.now = s.now ∧ (∀ q, (∀ j, j < g.values.length → q ≠ s.localOutBase + j) → u.point q = s.point q)
        ∧ ∀ j v, g.values[j]? = some v → s.blockWritable (s.localOutBase + j) = true → (u.point (s.localOutBase + j)).value = v)
    ∧ (¬ here → Completes (.spanFrameRx g) s fun u => u = s)
    ∧ (s.running = true → s.spanNode = true → s.span.upSeen = false → s.flag Reg.SPAN_STAT_UP_LOST = false → Completes .spanUpLost s fun u =>
      u.flag Reg.SPAN_STAT_UP_LOST = true ∧ FieldsBut [Reg.SPAN_STAT_UP_LOST.key 0] s u ∧ u.quietRest = s.quietRest)
    ∧ (s.running = false ∨ s.spanNode = false ∨ s.span.upSeen = true → Completes .spanUpLost s fun u => u = s)

/-- Trip inputs, runaway stops and the resets of the safety block. For every state in which the safety block works: TRIP_INPUT_LOW of an
enabled input whose latch is clear notes the level, latches the groups of the input, counts the trip and turns every output of its groups
off; TRIP_RECEIVER_DISAGREE of an enabled input without a fault notes the fault and does the same; of a disabled input each notes the
level or the fault alone. TRIP_FAULT_CLEAR clears the fault alone. RUNAWAY_STOP of an enabled monitor whose count has reached TIME and
whose latch is clear latches the monitor's groups and turns their outputs off, and below TIME changes nothing. SAFE_TRIP_RESET and
SAFE_DISC_RESET over a path that takes commands are accepted for the next freeze and change nothing yet. Points, pump, fuses and operating
state stay. (R365, R366, R367, R368, R369, R370, R372) -/
def Obligations.TripsAndRunaway : Prop :=
  ∀ (s : State) (m : Nat) (p : Path),
    let t := s.touch p
    let kept (u : State) : Prop := u.points = s.points ∧ u.pump = s.pump ∧ u.fuses = s.fuses ∧ u.mode = s.mode ∧ FieldsBut [] s u
    let off (mask : Nat) (u : State) : Prop := ∀ j, j < 32 → bitAt mask (s.get Reg.SAFE_OUT_CFG_GROUP j) = true → bitAt u.safe.high j = false
    let mask := s.get (Reg.SAFE_TRIP_CFG_GROUP_MASK.at m)
    let stops := s.get Reg.SAFE_RUN_CFG_GROUP_MASK m
    let enabled := s.flag (Reg.SAFE_TRIP_CFG_ENABLE.at m) = true
    let free := storeFind s.safe.tripLatch m = none
    (s.safeOn = true → m < 8 → enabled → free → Completes (.tripInputLow m) s fun u =>
      bitAt u.safe.tripIn m = false ∧ storeFind u.safe.tripLatch m = some mask ∧ u.safe.tripCnt = satInc 32 s.safe.tripCnt ∧ off mask u ∧ kept u)
    ∧ (s.safeOn = true → m < 8 → enabled → free → bitAt s.safe.tripFault m = false → Completes (.tripReceiverDisagree m) s fun u =>
      bitAt u.safe.tripFault m = true ∧ storeFind u.safe.tripLatch m = some mask ∧ u.safe.tripCnt = satInc 32 s.safe.tripCnt ∧ off mask u ∧ kept u)
    ∧ (s.safeOn = true → m < 8 → ¬ enabled →
      Completes (.tripInputLow m) s (fun u => bitAt u.safe.tripIn m = false ∧ { u with safe := { u.safe with tripIn := s.safe.tripIn } } = s)
      ∧ (bitAt s.safe.tripFault m = false → Completes (.tripReceiverDisagree m) s fun u =>
        bitAt u.safe.tripFault m = true ∧ u.safe.tripLatch = s.safe.tripLatch ∧ u.safe.high = s.safe.high ∧ kept u))
    ∧ Completes (.tripFaultClear m) s (fun u => bitAt u.safe.tripFault m = false ∧ { u with safe := { u.safe with tripFault := s.safe.tripFault } } = s)
    ∧ (s.flag Reg.SAFE_RUN_CFG_ENABLE m = true → s.get Reg.SAFE_RUN_CFG_TIME m ≤ s.runCountOf m → storeFind s.safe.runLatch m = none →
      Completes (.runawayStop m) s fun u => storeFind u.safe.runLatch m = some stops ∧ off stops u ∧ kept u)
    ∧ (s.flag Reg.SAFE_RUN_CFG_ENABLE m = false ∨ s.runCountOf m < s.get Reg.SAFE_RUN_CFG_TIME m → Completes (.runawayStop m) s fun u => u = s)
    ∧ (s.takes p 17 = true → Answers (.safeTripReset p) s p .done fun u => u = { t with safe := { t.safe with hostTrip := true } })
    ∧ (s.takes p 17 = true → Answers (.safeDiscReset p) s p .done fun u => u = { t with safe := { t.safe with hostDisc := true } })

/-- The stipple test and the feedback grid. For every state, an energised output with the test enabled, no pulse in progress and no repeat
due: STIPPLE_PULSE, where the output's instant of the present cycle lies ahead or now and has not been used, lets time pass to it and
starts the pulse, in which the ball is low; while another pulse is in progress the output waits instead, and an output that is off, or
without the test, has none. STIPPLE_CHECK of the output whose pulse is in progress ends it no earlier than PULSE after it began and counts
it; a low feedback clears the count of failures; a high one counts, and is repeated, but the fourth in a row latches the output off,
counts the discrepancy and raises the alarm. FEEDBACK_GRID_CHECK goes to the next instant of the 500 us grid of the time base and reads
the feedback; an output that reads as it is driven is not latched. Points, pump, fuses and operating state stay. (R374, R375) -/
def Obligations.StippleAndFeedback : Prop :=
  ∀ (s : State) (i : Nat) (fb : Word), i < 32 →
    let kept (u : State) : Prop := u.points = s.points ∧ u.pump = s.pump ∧ u.fuses = s.fuses ∧ u.mode = s.mode
    let lit := bitAt s.safe.high i = true ∧ s.flag Reg.SAFE_OUT_CFG_STIPPLE_EN i = true
    let fresh := s.pulseInstant i < s.nextBnd ∧ storeFind s.safe.pulsed i ≠ some (s.pulseInstant i)
    let k := storeGet s.safe.failed i 0 + 1
    let ended (u : State) : Prop := u.safe.pulses = (s.safe.pulses + 1) % 2 ^ 32 ∧ kept u
      ∧ storeGet s.safe.changed i s.now + s.get Reg.SAFE_STIPPLE_CFG_PULSE * 1000 ≤ u.now ∧ (s.safe.waiting = [] → u.safe.pulsing = none)
    (lit → fresh → s.safe.pulsing = none → s.safe.repeats = [] → s.safe.waiting = [] → Completes (.stipplePulse i) s fun u =>
      u.safe.pulsing = some i ∧ bitAt u.outLevels i = false ∧ storeFind u.safe.pulsed i = some (s.pulseInstant i) ∧ s.pulseInstant i ≤ u.now
        ∧ u.safe.high = s.safe.high ∧ u.regs = s.regs ∧ kept u)
    ∧ (∀ j, lit → fresh → s.safe.pulsing = some j → j ≠ i → s.safe.repeats = [] → s.safe.waiting = [] → Completes (.stipplePulse i) s fun u =>
      u.safe.pulsing = some j ∧ u.safe.waiting = [i] ∧ u.safe.high = s.safe.high ∧ u.regs = s.regs ∧ kept u)
    ∧ (¬ lit → Completes (.stipplePulse i) s fun u => u = s)
    ∧ (s.safe.pulsing = some i → bitAt s.safe.disc i = false → Completes (.stippleCheck i false) s fun u =>
      ended u ∧ storeFind u.safe.failed i = none ∧ bitAt u.safe.fb i = false ∧ u.safe.disc = s.safe.disc ∧ u.safe.high = s.safe.high ∧ u.regs = s.regs)
    ∧ (s.safe.pulsing = some i → bitAt s.safe.disc i = false → k < 4 → Completes (.stippleCheck i true) s fun u =>
      ended u ∧ storeFind u.safe.failed i = some k ∧ storeFind u.safe.repeats i = some () ∧ u.safe.disc = s.safe.disc ∧ u.safe.high = s.safe.high
        ∧ u.regs = s.regs)
    ∧ (s.safe.pulsing = some i → bitAt s.safe.disc i = false → 4 ≤ k → Completes (.stippleCheck i true) s fun u =>
      ended u ∧ bitAt u.safe.disc i = true ∧ bitAt u.safe.high i = false ∧ u.safe.discCnt = satInc 32 s.safe.discCnt ∧ u.safe.alarm = true ∧ FieldsBut [] s u)
    ∧ (s.safe.pulsing ≠ some i → Completes (.stippleCheck i true) s fun u => u = s)
    ∧ (s.safeOn = true → Completes (.feedbackGridCheck fb) s fun u =>
      u.now % 500000 = 0 ∧ s.now ≤ u.now ∧ u.now < s.now + 500000 ∧ u.safe.fb = (if s.flag Reg.PWR_STAT_VIO_A_LOW then 0 else fb.toNat) ∧ kept u
        ∧ (bitAt u.safe.fb i = bitAt s.safe.high i → bitAt u.safe.disc i = bitAt s.safe.disc i)
        ∧ ((∀ j, j < 32 → bitAt u.safe.fb j = bitAt s.safe.high j) → u.safe.disc = s.safe.disc ∧ u.safe.high = s.safe.high ∧ u.regs = s.regs))
    ∧ (s.safeOn = false → Completes (.feedbackGridCheck fb) s fun u => u = s)

/-- The writes of the recorder, its freeze, and the commands of the capture ring. For every state and path that takes commands: RECORD_WRITE
outside a dip and a freeze puts the open record into the slot that its last write did not take, with the next sequence number; with slots
held it changes nothing. REC_FREEZE_SET outside a transaction commits the word with its rates as they are as a transaction of one write
and holds the slots from now on, or with nothing pending lets them go; in a pending transaction or another path's it answers TXN_BUSY, to
the owner of a timed-out one TXN_TIMEOUT once, and changes nothing else; FREEZE_AUTO_CLEAR does so 600 s after and shows THAW_AUTO.
CAP_START of a ring with a size runs it, CAP_STOP of a running ring lets it run out, CAP_REPLAY in PARK of a stopped ring with a keyframe
is accepted for the boundary, CAP_REPLAY_END in REPLAY asks for its end; else STATE. CAPTURE_STOPPED stops a ring whose cycles have
passed; REPLAY_COMPLETE ends a replay in PARK once its newest cycle was replayed. Pump and fuses stay. (R424, R426, R427, R428, R431,
R432, R433, R434) -/
def Obligations.RecorderAndCapture : Prop :=
  ∀ (s : State) (p : Path) (code : Nat) (free : Bool),
    let t := s.touch p
    let rates := [Reg.REC_CTL_RATE, Reg.REC_CTL_BURST, Reg.REC_CTL_INTERVAL]
    let alone (b : Bool) : Commit :=
      { words := [{ addr := 0x120000, index := 0, value := BitVec.ofNat 32 (s.liveWord true rates 0 + (if b then 1 else 0)) }], oneWrite := true,
        skip := t.boundarySkip }
    let legal := ∀ f ∈ rates, f.vmin ≤ s.get f ∧ s.get f ≤ f.vmax
    let ring (u : State) : Prop := { u with regs := s.regs, cap := s.cap } = t
    let canReplay := s.mode = .park ∧ (s.get Reg.CAP_STAT_STATE = 3 ∨ s.get Reg.CAP_STAT_STATE = 4) ∧ s.keyframe.isSome = true
      ∧ s.restarting = false ∧ (free = true → s.slotState = 3)
    (∀ rc, s.slotsHeld = false → storeFind s.rcd.opened code = some rc → rc.dirty = true → Completes (.recordWrite code) s fun u =>
      (∃ v, storeFind u.rcd.opened code = some v ∧ v.dirty = false ∧ v.seq = s.rcd.seq + 1 ∧ v.nextB = !rc.nextB
          ∧ storeFind u.rcd.slots (if rc.nextB then rc.slotB else rc.slotA) = some v)
        ∧ (∀ k, k ≠ (if rc.nextB then rc.slotB else rc.slotA) → storeFind u.rcd.slots k = storeFind s.rcd.slots k) ∧ { u with rcd := s.rcd } = s)
    ∧ (s.slotsHeld = true → Completes (.recordWrite code) s fun u => u = s)
    ∧ (s.takes p 18 = true → legal →
      (t.host.timeoutOwner ≠ some p → t.host.phase = .idle → s.flag Reg.REC_CTL_FREEZE = false → Answers (.recFreezeSet p true) s p .done fun u =>
        u.flag Reg.REC_CTL_FREEZE = true ∧ u.rcd = { s.rcd with freezeAt := s.up } ∧ RegsBut [Reg.REC_CTL_FREEZE.key 0] s u
          ∧ u.host = { t.host with commits := t.host.commits ++ [alone true] } ∧ { u with regs := s.regs, rcd := s.rcd, host := t.host } = t)
      ∧ (t.host.timeoutOwner ≠ some p → t.host.phase = .idle → s.flag Reg.REC_CTL_FREEZE = true → s.rcd.pend = [] → s.rcd.suppPend = [] →
        Answers (.recFreezeSet p false) s p .done fun u =>
          u.flag Reg.REC_CTL_FREEZE = false ∧ RegsBut [Reg.REC_CTL_FREEZE.key 0] s u
            ∧ u.host = { t.host with commits := t.host.commits ++ [alone false] } ∧ { u with regs := s.regs, host := t.host } = t)
      ∧ (t.host.timeoutOwner ≠ some p → t.host.phase = .pendingTxn ∨ t.host.phase = .openTxn ∧ t.host.owner ≠ p →
        Answers (.recFreezeSet p true) s p .txnBusy fun u => u = t)
      ∧ (t.host.timeoutOwner = some p → Answers (.recFreezeSet p true) s p .txnTimeout fun u => u = { t with host := { t.host with timeoutOwner := none } }))
    ∧ (s.flag Reg.REC_CTL_FREEZE = true → s.rcd.pend = [] → s.rcd.suppPend = [] → Completes .freezeAutoClear s fun u =>
      u.flag Reg.REC_CTL_FREEZE = false ∧ u.flag Reg.REC_STAT_THAW_AUTO = true ∧ s.rcd.freezeAt + 600000000000 ≤ u.up
        ∧ RegsBut [Reg.REC_CTL_FREEZE.key 0, Reg.REC_STAT_THAW_AUTO.key 0] s u ∧ { u with regs := s.regs, now := s.now, up := s.up, slew := s.slew, keep := s.keep } = s)
    ∧ (s.flag Reg.REC_CTL_FREEZE = false → Completes .freezeAutoClear s fun u => u = s)
    ∧ (s.takes p 20 = true →
      (s.get Reg.CAP_CFG_CAP_SIZE ≠ 0 → s.mode ≠ .replay → Answers (.capStart p) s p .done fun u =>
        u.get Reg.CAP_STAT_STATE = 1 ∧ u.flag Reg.CAP_STAT_TRIGGERED = false ∧ u.get Reg.CAP_STAT_LOST = 0 ∧ u.cap.entries = s.cap.entries ∧ ring u)
      ∧ (s.get Reg.CAP_CFG_CAP_SIZE = 0 ∨ s.mode = .replay → Answers (.capStart p) s p .state fun u => u = t)
      ∧ (s.get Reg.CAP_STAT_STATE = 1 → Answers (.capStop p) s p .done fun u =>
        u.get Reg.CAP_STAT_STATE = 2 ∧ u.cap = { s.cap with postLeft := s.postCycles, stopByEvent := false } ∧ ring u)
      ∧ (s.get Reg.CAP_STAT_STATE ≠ 1 → Answers (.capStop p) s p .done fun u => u = t)
      ∧ (canReplay → Answers (.capReplay p free) s p .done fun u => u = { t with cap := { t.cap with replayReq := some (free, s.boundarySkip) } })
      ∧ (¬ canReplay → Answers (.capReplay p free) s p .state fun u => u = t)
      ∧ (s.mode = .replay → Answers (.capReplayEnd p) s p .done fun u => u = { t with cap := { t.cap with replayEndReq := true } })
      ∧ (s.mode ≠ .replay → Answers (.capReplayEnd p) s p .state fun u => u = t))
    ∧ (s.get Reg.CAP_STAT_STATE = 2 → s.cap.postLeft = 0 → Completes .captureStopped s fun u =>
      u.get Reg.CAP_STAT_STATE = 3 ∧ u.flag Reg.CAP_STAT_TRIGGERED = s.cap.stopByEvent
        ∧ RegsBut [Reg.CAP_STAT_STATE.key 0, Reg.CAP_STAT_TRIGGERED.key 0] s u ∧ { u with regs := s.regs } = s)
    ∧ (s.get Reg.CAP_STAT_STATE ≠ 2 ∨ s.cap.postLeft ≠ 0 → Completes .captureStopped s fun u => u = s)
    ∧ (s.replayDone = true → Completes .replayComplete s fun u => u.mode = .park ∧ u.cap.replayFree = false ∧ u.fuses = s.fuses ∧ u.n = s.n)
    ∧ (s.replayDone = false → Completes .replayComplete s fun u => u = s)
end

