-- ==== Sys2Proof/Laws/FrameOps.lean ====
section
/-! SUPPORT. What the operations leave alone, first said once for each: queue, variant, grade, fuse bank, mode, phase and cycle count
(`State.core`). This file: the register, recorder, health, sensor, observer, loop and allocation operations. -/

set_option linter.all false

namespace Sys2Proof.Laws
open Sys2Proof.Machine

theorem core_mk (a0 a1 a2 a3 a4 a5 a6 a7 a8 a9 a10 a11 a12 a13 a14 a15 a16 a17 a18 a19 a20 a21 a22 a23 a24 a25 a26 a27 a28 a29 a30 a31 a32 a33 a34 a35 a36 a37 a38 a39 a40 a41) : State.core (State.mk a0 a1 a2 a3 a4 a5 a6 a7 a8 a9 a10 a11 a12 a13 a14 a15 a16 a17 a18 a19 a20 a21 a22 a23 a24 a25 a26 a27 a28 a29 a30 a31 a32 a33 a34 a35 a36 a37 a38 a39 a40 a41) = (a0, a2, a3, a4, a5, a6, a11) := (rfl)

theorem core_eta (x : State) : (x.pending, x.variant, x.gradeXT, x.fuses, x.mode, x.phase, x.n) = x.core := (rfl)

theorem core_ite (c : Prop) [Decidable c] (x y : State) : (if c then x else y).core = if c then x.core else y.core := apply_ite State.core c x y

theorem snd_ite {α β : Type} (c : Prop) [Decidable c] (x y : α × β) : (if c then x else y).2 = if c then x.2 else y.2 := apply_ite Prod.snd c x y

theorem fst_ite {α β : Type} (c : Prop) [Decidable c] (x y : α × β) : (if c then x else y).1 = if c then x.1 else y.1 := apply_ite Prod.fst c x y

theorem foldl_core {α : Type} (f : State → α → State) (h : ∀ s x, (f s x).core = s.core) (l : List α) (s : State) : (l.foldl f s).core = s.core := by
  induction l generalizing s with
  | nil => rfl
  | cons a t ih => rw [List.foldl_cons, ih, h]

theorem foldl_core2 {α β : Type} (f : β × State → α → β × State) (h : ∀ s x, (f s x).2.core = s.2.core) (l : List α) (s : β × State) : (l.foldl f s).2.core = s.2.core := by
  induction l generalizing s with
  | nil => rfl
  | cons a t ih => rw [List.foldl_cons, ih, h]

theorem foldl_core1 {α β : Type} (f : State × β → α → State × β) (h : ∀ s x, (f s x).1.core = s.1.core) (l : List α) (s : State × β) : (l.foldl f s).1.core = s.1.core := by
  induction l generalizing s with
  | nil => rfl
  | cons a t ih => rw [List.foldl_cons, ih, h]

@[simp] theorem set_core : ∀ x0 x1 x2 x3, (State.set x0 x1 x2 x3).core = x0.core := by
  intro x0 x1 x2 x3
  simp only [State.set, ↓core_mk, core_eta]

@[simp] theorem setFlag_core : ∀ x0 x1 x2 x3, (State.setFlag x0 x1 x2 x3).core = x0.core := by
  intro x0 x1 x2 x3
  simp only [State.setFlag, set_core]

@[simp] theorem count_core : ∀ x0 x1 x2, (State.count x0 x1 x2).core = x0.core := by
  intro x0 x1 x2
  simp only [State.count, set_core]

@[simp] theorem draw_core : ∀ x0 x1, (State.draw x0 x1).2.core = x0.core := by
  intro x0 x1
  simp only [State.draw, ↓core_mk, core_eta]

@[simp] theorem drawF64_core : ∀ x0, (State.drawF64 x0).2.core = x0.core := by
  intro x0
  simp only [State.drawF64, draw_core]

@[simp] theorem advance_core : ∀ x0 x1, (State.advance x0 x1).core = x0.core := by
  intro x0 x1
  simp only [State.advance, ↓core_mk, core_eta]

@[simp] theorem advanceTo_core : ∀ x0 x1, (State.advanceTo x0 x1).core = x0.core := by
  intro x0 x1
  simp only [State.advanceTo, advance_core]

@[simp] theorem waitUntil_core : ∀ x0 x1, (State.waitUntil x0 x1).core = x0.core := by
  intro x0 x1
  simp only [State.waitUntil, ↓core_mk, core_eta]

@[simp] theorem setSlot_core : ∀ x0 x1 x2, (State.setSlot x0 x1 x2).core = x0.core := by
  intro x0 x1 x2
  simp only [State.setSlot, ↓core_mk, core_eta]

@[simp] theorem setPoint_core : ∀ x0 x1 x2, (State.setPoint x0 x1 x2).core = x0.core := by
  intro x0 x1 x2
  simp only [State.setPoint, ↓core_mk, core_eta]

@[simp] theorem putPoint_core : ∀ x0 x1 x2 x3, (State.putPoint x0 x1 x2 x3).core = x0.core := by
  intro x0 x1 x2 x3
  simp only [State.putPoint, setPoint_core]

@[simp] theorem putGood_core : ∀ x0 x1 x2, (State.putGood x0 x1 x2).core = x0.core := by
  intro x0 x1 x2
  simp only [State.putGood, putPoint_core]

@[simp] theorem putAll_core : ∀ x0 x1, (State.putAll x0 x1).core = x0.core := by
  intro x0 x1
  simp only [State.putAll, implies_true, foldl_core, putGood_core]

@[simp] theorem putQuality_core : ∀ x0 x1 x2, (State.putQuality x0 x1 x2).core = x0.core := by
  intro x0 x1 x2
  simp only [State.putQuality, putPoint_core]

@[simp] theorem closeRecord_core : ∀ x0 x1, (State.closeRecord x0 x1).core = x0.core := by
  intro x0 x1
  unfold State.closeRecord; (repeat' split) <;> simp only [↓core_mk, core_eta]

@[simp] theorem closeIfDue_core : ∀ x0 x1 x2 x3 x4, (State.closeIfDue x0 x1 x2 x3 x4).core = x0.core := by
  intro x0 x1 x2 x3 x4
  unfold State.closeIfDue; dsimp only; (repeat' split) <;> first | rfl | exact closeRecord_core _ _

theorem openRecord_core (s : State) (c v t : Nat) (u : State) (h : s.openRecord c v t = some u) : u.core = s.core := by
  simp only [State.openRecord, Option.map_eq_some_iff] at h
  obtain ⟨x, -, rfl⟩ := h
  rfl

theorem opened_core (s u : State) (o : Option Record) (c v t : Nat)
    (h : (match o with | some _ => some s | none => s.openRecord c v t) = some u) : u.core = s.core := by
  cases o with
  | some r => cases h; rfl
  | none => exact openRecord_core s c v t u h

@[simp] theorem mergeEvent_core : ∀ x0 x1 x2 x3 x4 x5, (State.mergeEvent x0 x1 x2 x3 x4 x5).core = x0.core := by
  intro x0 x1 x2 x3 x4 x5
  unfold State.mergeEvent
  rw [← closeIfDue_core x0 x1 x3 x4 x5]
  generalize x0.closeIfDue x1 x3 x4 x5 = s
  dsimp only
  split
  · exact count_core _ _ _
  · rename_i u h
    have hu := opened_core s u _ _ _ _ h
    split
    · exact hu
    · exact hu

@[simp] theorem mergeSuppressed_core : ∀ x0 x1 x2 x3 x4, (State.mergeSuppressed x0 x1 x2 x3 x4).core = x0.core := by
  intro s x1 x2 x3 x4
  unfold State.mergeSuppressed
  dsimp only
  split
  · exact count_core _ _ _
  · rename_i u h
    have hu := opened_core s u _ _ _ _ h
    split
    · exact hu
    · exact hu

@[simp] theorem pendEvent_core : ∀ x0 x1, (State.pendEvent x0 x1).core = x0.core := by
  intro x0 x1
  unfold State.pendEvent; dsimp only; (repeat' split) <;> simp only [↓core_mk, core_eta, count_core]

@[simp] theorem mergePending_core : ∀ x0, (State.mergePending x0).core = x0.core := by
  intro x0
  simp only [State.mergePending, ↓core_mk, core_eta, core_ite, ite_self, implies_true, foldl_core, mergeEvent_core, mergeSuppressed_core]

@[simp] theorem captureTrigger_core : ∀ x0 x1, (State.captureTrigger x0 x1).core = x0.core := by
  intro x0 x1
  simp only [State.captureTrigger, ↓core_mk, core_eta, core_ite, ite_self, set_core]

@[simp] theorem raiseWith_core : ∀ x0 x1 x2, (State.raiseWith x0 x1 x2).core = x0.core := by
  intro x0 x1 x2
  simp only [State.raiseWith, ↓core_mk, core_eta, core_ite, ite_self, captureTrigger_core, pendEvent_core, mergeEvent_core, mergeSuppressed_core]

@[simp] theorem raise_core : ∀ x0 x1, (State.raise x0 x1).core = x0.core := by
  intro x0 x1
  simp only [State.raise, draw_core, raiseWith_core]

@[simp] theorem sample_core : ∀ x0 x1 x2, (State.sample x0 x1 x2).core = x0.core := by
  intro x0 x1 x2
  simp only [State.sample, core_ite, ite_self, pendEvent_core, mergeEvent_core]

@[simp] theorem writeRecord_core : ∀ x0 x1, (State.writeRecord x0 x1).core = x0.core := by
  intro x0 x1
  unfold State.writeRecord; (repeat' split) <;> simp only [↓core_mk, core_eta]

@[simp] theorem writeLifetime_core : ∀ x0, (State.writeLifetime x0).core = x0.core := by
  intro s
  unfold State.writeLifetime
  split
  · rfl
  · dsimp only
    split
    · exact count_core _ _ _
    · rename_i u h
      have hu := opened_core s u _ _ _ _ h
      split
      · exact hu
      · exact hu

@[simp] theorem resetRecorder_core : ∀ x0, (State.resetRecorder x0).core = x0.core := by
  intro x0
  simp only [State.resetRecorder, ↓core_mk, core_eta]

@[simp] theorem wrviol_core : ∀ x0, (State.wrviol x0).core = x0.core := by
  intro x0
  simp only [State.wrviol, ↓core_mk, core_eta, raise_core, setFlag_core]

@[simp] theorem notePoint_core : ∀ x0 x1, (State.notePoint x0 x1).core = x0.core := by
  intro x0 x1
  unfold State.notePoint; (repeat' split) <;> simp only [↓core_mk, core_eta]

@[simp] theorem storeValue_core : ∀ x0 x1 x2, (State.storeValue x0 x1 x2).core = x0.core := by
  intro x0 x1 x2
  simp only [State.storeValue, core_ite, ite_self, setPoint_core, notePoint_core, wrviol_core]

@[simp] theorem storeQuality_core : ∀ x0 x1 x2, (State.storeQuality x0 x1 x2).1.core = x0.core := by
  intro x0 x1 x2
  unfold State.storeQuality; (repeat' split) <;> simp only [setPoint_core, notePoint_core, wrviol_core]

@[simp] theorem storeBit_core : ∀ x0 x1 x2 x3, (State.storeBit x0 x1 x2 x3).core = x0.core := by
  intro x0 x1 x2 x3
  simp only [State.storeBit, core_ite, ite_self, setPoint_core, notePoint_core, wrviol_core]

@[simp] theorem setTimer_core : ∀ x0 x1 x2, (State.setTimer x0 x1 x2).core = x0.core := by
  intro x0 x1 x2
  simp only [State.setTimer, ↓core_mk, core_eta]

@[simp] theorem setCounter_core : ∀ x0 x1 x2, (State.setCounter x0 x1 x2).core = x0.core := by
  intro x0 x1 x2
  simp only [State.setCounter, ↓core_mk, core_eta]

@[simp] theorem setEdge_core : ∀ x0 x1 x2, (State.setEdge x0 x1 x2).core = x0.core := by
  intro x0 x1 x2
  simp only [State.setEdge, ↓core_mk, core_eta]

@[simp] theorem setProc_core : ∀ x0 x1 x2, (State.setProc x0 x1 x2).core = x0.core := by
  intro x0 x1 x2
  unfold State.setProc; (repeat' split) <;> simp only [↓core_mk, core_eta]

@[simp] theorem charge_core : ∀ x0 x1, (State.charge x0 x1).core = x0.core := by
  intro x0 x1
  simp only [State.charge, ↓core_mk, core_eta, advanceTo_core]

@[simp] theorem measured_core : ∀ x0 x1, (State.measured x0 x1).core = x0.core := by
  intro x0 x1
  unfold State.measured; (repeat' split) <;> simp only [↓core_mk, core_eta]

@[simp] theorem taskFault_core : ∀ x0 x1 x2, (State.taskFault x0 x1 x2).core = x0.core := by
  intro x0 x1 x2
  simp only [State.taskFault, ↓core_mk, core_eta, core_ite, ite_self, measured_core, set_core, raise_core, setFlag_core]

@[simp] theorem cancel_core : ∀ x0 x1 x2, (State.cancel x0 x1 x2).core = x0.core := by
  intro x0 x1 x2
  unfold State.cancel; (repeat' split) <;> simp only [↓core_mk, core_eta, advanceTo_core]

/-- The base of the state that an instruction continues with; a fault continues with the state it had. -/
def flowCore (s : State) : Flow → Core
  | .cont _ t => t.core
  | .stack => s.core
  | .illegal => s.core

theorem flowCore_cont (s t : State) (p : Proc) : flowCore s (.cont p t) = t.core := rfl

theorem flowCore_stack (s : State) : flowCore s .stack = s.core := rfl

theorem flowCore_illegal (s : State) : flowCore s .illegal = s.core := rfl

theorem flowCore_ite (s : State) (c : Prop) [Decidable c] (x y : Flow) :
    flowCore s (if c then x else y) = if c then flowCore s x else flowCore s y := apply_ite (flowCore s) c x y

theorem runInstr_core (s : State) (w c : Nat) (f : Proc → State → Flow) (h : ∀ p u, flowCore u (f p u) = u.core) :
    (s.runInstr w c f).core = s.core := by
  unfold State.runInstr
  split
  · rfl
  · rename_i t ht
    dsimp only
    split
    · rename_i p' s' e
      split
      · rw [setProc_core]
        split at e
        · have hf := h { s.proc t with offset := (s.proc t).offset + w } (s.charge c)
          rw [e] at hf
          exact hf.trans (charge_core _ _)
        · cases e
      · exact cancel_core _ _ _
    · split
      · rw [taskFault_core, charge_core]
      · exact cancel_core _ _ _
    · split
      · rw [taskFault_core, charge_core]
      · exact cancel_core _ _ _

@[simp] theorem runProc_core (s : State) (w c : Nat) (f : Proc → State → Proc) : (s.runProc w c f).core = s.core :=
  runInstr_core s w c _ (fun _ _ => rfl)

@[simp] theorem runWord_core (s : State) (x : Acc) (op : Operand) (c : Nat) (f : Proc → Word → Word → Proc) :
    (s.runWord x op c f).core = s.core := runProc_core _ _ _ _

@[simp] theorem opBit_core : ∀ x0 x1 x2 x3, (State.opBit x0 x1 x2 x3).core = x0.core := by
  intro x0 x1 x2 x3
  simp only [State.opBit, runProc_core]

@[simp] theorem opBitWrite_core : ∀ x0 x1 x2 x3 x4, (State.opBitWrite x0 x1 x2 x3 x4).core = x0.core := by
  intro x0 x1 x2 x3 x4
  unfold State.opBitWrite; refine runInstr_core _ _ _ _ (fun p u => ?_); (try dsimp only); (repeat' split) <;> simp only [flowCore_cont, storeBit_core]

@[simp] theorem opGood_core : ∀ x0 x1 x2, (State.opGood x0 x1 x2).core = x0.core := by
  intro x0 x1 x2
  simp only [State.opGood, runProc_core]

@[simp] theorem opBa_core : ∀ x0 x1, (State.opBa x0 x1).core = x0.core := by
  intro x0 x1
  simp only [State.opBa, runProc_core]

@[simp] theorem opCond_core : ∀ x0 x1 x2, (State.opCond x0 x1 x2).core = x0.core := by
  intro x0 x1 x2
  unfold State.opCond; refine runInstr_core _ _ _ _ (fun p u => ?_); (try dsimp only); (repeat' split) <;> simp only [flowCore_cont, flowCore_illegal]

@[simp] theorem opNest_core : ∀ x0, (State.opNest x0).core = x0.core := by
  intro x0
  unfold State.opNest; refine runInstr_core _ _ _ _ (fun p u => ?_); (try dsimp only); (repeat' split) <;> simp only [flowCore_cont, flowCore_stack]

@[simp] theorem opJoin_core : ∀ x0 x1, (State.opJoin x0 x1).core = x0.core := by
  intro x0 x1
  unfold State.opJoin; refine runInstr_core _ _ _ _ (fun p u => ?_); (try dsimp only); (repeat' split) <;> simp only [flowCore_cont, flowCore_stack]

@[simp] theorem opEdge_core : ∀ x0 x1 x2, (State.opEdge x0 x1 x2).core = x0.core := by
  intro x0 x1 x2
  unfold State.opEdge; refine runInstr_core _ _ _ _ (fun p u => ?_); (try dsimp only); (repeat' split) <;> simp only [flowCore_cont, setEdge_core]

@[simp] theorem opLd_core : ∀ x0 x1 x2 x3, (State.opLd x0 x1 x2 x3).core = x0.core := by
  intro x0 x1 x2 x3
  unfold State.opLd; refine runInstr_core _ _ _ _ (fun p u => ?_); (try dsimp only); (repeat' split) <;> simp only [flowCore_cont, flowCore_illegal]

theorem opStAt_flow (p : Proc) (s : State) (x : Acc) (sel : Sel) (a : Nat) : flowCore s (State.opStAt p s x sel a) = s.core := by
  unfold State.opStAt
  cases sel with
  | value => exact storeValue_core _ _ _
  | quality => exact storeQuality_core _ _ _
  | age => rfl

@[simp] theorem opSt_core (s : State) (x : Acc) (sel : Sel) (op : Operand) : (s.opSt x sel op).core = s.core := by
  unfold State.opSt
  refine runInstr_core _ _ _ _ (fun p u => ?_)
  cases op with
  | direct a => exact opStAt_flow _ _ _ _ _
  | indexed b =>
    dsimp only
    split
    · rfl
    · split
      · exact opStAt_flow _ _ _ _ _
      · exact wrviol_core _
  | imm w => rfl
  | partner => rfl

@[simp] theorem opInt_core : ∀ x0 x1 x2 x3 x4, (State.opInt x0 x1 x2 x3 x4).core = x0.core := by
  intro x0 x1 x2 x3 x4
  simp only [State.opInt, runWord_core]

@[simp] theorem opLog_core : ∀ x0 x1 x2 x3, (State.opLog x0 x1 x2 x3).core = x0.core := by
  intro x0 x1 x2 x3
  simp only [State.opLog, runWord_core]

@[simp] theorem opInt1_core : ∀ x0 x1 x2, (State.opInt1 x0 x1 x2).core = x0.core := by
  intro x0 x1 x2
  simp only [State.opInt1, runProc_core]

@[simp] theorem opFlt_core : ∀ x0 x1 x2 x3 x4, (State.opFlt x0 x1 x2 x3 x4).core = x0.core := by
  intro x0 x1 x2 x3 x4
  simp only [State.opFlt, runWord_core]

@[simp] theorem opFdiv_core : ∀ x0 x1 x2, (State.opFdiv x0 x1 x2).core = x0.core := by
  intro x0 x1 x2
  simp only [State.opFdiv, runWord_core]

@[simp] theorem opFlt1_core : ∀ x0 x1 x2 x3, (State.opFlt1 x0 x1 x2 x3).core = x0.core := by
  intro x0 x1 x2 x3
  simp only [State.opFlt1, runProc_core]

@[simp] theorem opItof_core : ∀ x0 x1 x2, (State.opItof x0 x1 x2).core = x0.core := by
  intro x0 x1 x2
  simp only [State.opItof, runProc_core]

@[simp] theorem opFtoi_core : ∀ x0 x1 x2, (State.opFtoi x0 x1 x2).core = x0.core := by
  intro x0 x1 x2
  simp only [State.opFtoi, runProc_core]

@[simp] theorem opTimer_core : ∀ x0 x1 x2, (State.opTimer x0 x1 x2).core = x0.core := by
  intro x0 x1 x2
  unfold State.opTimer; refine runInstr_core _ _ _ _ (fun p u => ?_); (try dsimp only); (repeat' split) <;> simp only [flowCore_cont, setTimer_core]

@[simp] theorem opCtu_core : ∀ x0 x1, (State.opCtu x0 x1).core = x0.core := by
  intro x0 x1
  unfold State.opCtu; refine runInstr_core _ _ _ _ (fun p u => ?_); (try dsimp only); (repeat' split) <;> simp only [flowCore_cont, setCounter_core]

@[simp] theorem opCtd_core : ∀ x0 x1, (State.opCtd x0 x1).core = x0.core := by
  intro x0 x1
  unfold State.opCtd; refine runInstr_core _ _ _ _ (fun p u => ?_); (try dsimp only); (repeat' split) <;> simp only [flowCore_cont, setCounter_core]

@[simp] theorem opCtud_core : ∀ x0 x1 x2 x3, (State.opCtud x0 x1 x2 x3).core = x0.core := by
  intro x0 x1 x2 x3
  unfold State.opCtud; refine runInstr_core _ _ _ _ (fun p u => ?_); (try dsimp only); (repeat' split) <;> simp only [flowCore_cont, setCounter_core]

@[simp] theorem opSetCv_core : ∀ x0 x1 x2, (State.opSetCv x0 x1 x2).core = x0.core := by
  intro x0 x1 x2
  unfold State.opSetCv; refine runInstr_core _ _ _ _ (fun p u => ?_); (try dsimp only); (repeat' split) <;> simp only [flowCore_cont, setCounter_core]

@[simp] theorem opJc_core : ∀ x0 x1 x2, (State.opJc x0 x1 x2).core = x0.core := by
  intro x0 x1 x2
  unfold State.opJc; refine runInstr_core _ _ _ _ (fun p u => ?_); (try dsimp only); (repeat' split) <;> simp only [flowCore_cont, flowCore_illegal]

@[simp] theorem opCall_core : ∀ x0 x1 x2, (State.opCall x0 x1 x2).core = x0.core := by
  intro x0 x1 x2
  unfold State.opCall; refine runInstr_core _ _ _ _ (fun p u => ?_); (try dsimp only); (repeat' split) <;> simp only [flowCore_cont, flowCore_stack, flowCore_illegal]

@[simp] theorem storeFrom_core (s : State) (p : Nat) (l : List Word) : (s.storeFrom p l).core = s.core := by
  induction l generalizing s p with
  | nil => rfl
  | cons v t ih => rw [State.storeFrom, ih, storeValue_core]

theorem moveBlock_core (s : State) (a b n : Nat) (u : State) (h : s.moveBlock a b n = .moved u) : u.core = s.core := by
  unfold State.moveBlock at h
  split at h
  · split at h
    · cases h; exact storeFrom_core _ _ _
    · cases h
  · cases h

@[simp] theorem opBmov_core (s : State) (a b : PointAddr) (c : BitVec 12) : (s.opBmov a b c).core = s.core := by
  unfold State.opBmov
  refine runInstr_core _ _ _ _ (fun p u => ?_)
  split
  · rename_i t h; exact moveBlock_core _ _ _ _ _ h
  · exact wrviol_core _

@[simp] theorem opBmovx_core (s : State) (c : BitVec 12) : (s.opBmovx c).core = s.core := by
  unfold State.opBmovx
  refine runInstr_core _ _ _ _ (fun p u => ?_)
  split
  · rename_i t h; exact moveBlock_core _ _ _ _ _ h
  · rfl
  · exact wrviol_core _

@[simp] theorem sendClaim_core : ∀ x0, (State.sendClaim x0).core = x0.core := by
  intro x0
  simp only [State.sendClaim, ↓core_mk, core_eta, core_ite, ite_self]

@[simp] theorem claimUpdate_core : ∀ x0, (State.claimUpdate x0).core = x0.core := by
  intro x0
  simp only [State.claimUpdate, core_ite, ite_self, sendClaim_core]

@[simp] theorem release_core : ∀ x0, (State.release x0).core = x0.core := by
  intro x0
  simp only [State.release, ↓core_mk, core_eta, sendClaim_core, raise_core, setFlag_core]

@[simp] theorem releaseDecide_core : ∀ x0, (State.releaseDecide x0).core = x0.core := by
  intro x0
  simp only [State.releaseDecide, core_ite, ite_self, release_core, raise_core, setFlag_core]

@[simp] theorem healthCheck_core : ∀ x0, (State.healthCheck x0).core = x0.core := by
  intro x0
  simp only [State.healthCheck, claimUpdate_core, releaseDecide_core]

@[simp] theorem markCause_core : ∀ x0 x1, (State.markCause x0 x1).core = x0.core := by
  intro x0 x1
  unfold State.markCause; (repeat' split) <;> simp only [↓core_mk, core_eta]

@[simp] theorem verifyEvents_core : ∀ x0 x1, (State.verifyEvents x0 x1).core = x0.core := by
  intro x0 x1
  simp only [State.verifyEvents, core_ite, ite_self, raise_core]

@[simp] theorem fuseArm_core : ∀ x0 x1, (State.fuseArm x0 x1).2.core = x0.core := by
  intro x0 x1
  simp only [State.fuseArm, ↓core_mk, core_eta, core_ite, ite_self]

@[simp] theorem fuseCmd_core : ∀ x0 x1 x2, (State.fuseCmd x0 x1 x2).2.core = x0.core := by
  intro x0 x1 x2
  simp only [State.fuseCmd, ↓core_mk, core_eta, core_ite, snd_ite, ite_self, setFlag_core]

@[simp] theorem fuseExpire_core : ∀ x0, (State.fuseExpire x0).core = x0.core := by
  intro x0
  unfold State.fuseExpire; (repeat' split) <;> simp only [↓core_mk, core_eta, waitUntil_core]

@[simp] theorem setOtherCopy_core : ∀ x0 x1, (State.setOtherCopy x0 x1).core = x0.core := by
  intro x0 x1
  simp only [State.setOtherCopy, ↓core_mk, core_eta]

@[simp] theorem imgCmdCore_core : ∀ x0 x1, (State.imgCmdCore x0 x1).2.core = x0.core := by
  intro x0 x1
  unfold State.imgCmdCore; (repeat' split) <;> simp only [↓core_mk, core_eta, core_ite, snd_ite, ite_self, set_core, setOtherCopy_core]

@[simp] theorem imgCmd_core : ∀ x0 x1, (State.imgCmd x0 x1).2.core = x0.core := by
  intro x0 x1
  simp only [State.imgCmd, imgCmdCore_core, set_core]

@[simp] theorem imgWindow_core : ∀ x0 x1 x2, (State.imgWindow x0 x1 x2).2.core = x0.core := by
  intro x0 x1 x2
  simp only [State.imgWindow, ↓core_mk, core_eta, core_ite, snd_ite, ite_self]

@[simp] theorem imgVerifyDone_core : ∀ x0 x1 x2, (State.imgVerifyDone x0 x1 x2).core = x0.core := by
  intro x0 x1 x2
  simp only [State.imgVerifyDone, core_ite, ite_self, set_core, setOtherCopy_core, verifyEvents_core]

@[simp] theorem rngWord_core : ∀ x0, (State.rngWord x0).2.2.core = x0.core := by
  intro x0
  simp only [State.rngWord, ↓core_mk, core_eta, core_ite, snd_ite, ite_self, draw_core]

@[simp] theorem rngFail_core : ∀ x0, (State.rngFail x0).core = x0.core := by
  intro x0
  simp only [State.rngFail, core_ite, ite_self, raise_core, setFlag_core]

@[simp] theorem ringRegs_core : ∀ x0, (State.ringRegs x0).core = x0.core := by
  intro x0
  simp only [State.ringRegs, set_core]

@[simp] theorem ringAppend_core : ∀ x0 x1, (State.ringAppend x0 x1).core = x0.core := by
  intro x0 x1
  simp only [State.ringAppend, ↓core_mk, core_eta, core_ite, ite_self, ringRegs_core]

@[simp] theorem ringSensor_core : ∀ x0 x1 x2, (State.ringSensor x0 x1 x2).core = x0.core := by
  intro x0 x1 x2
  simp only [State.ringSensor, core_ite, ite_self, draw_core, ringAppend_core]

@[simp] theorem capClear_core : ∀ x0, (State.capClear x0).core = x0.core := by
  intro x0
  simp only [State.capClear, ↓core_mk, core_eta, set_core, ringRegs_core]

@[simp] theorem stnBad_core : ∀ x0, (State.stnBad x0).core = x0.core := by
  intro x0
  simp only [State.stnBad, count_core]

@[simp] theorem noteFill_core : ∀ x0 x1 x2, (State.noteFill x0 x1 x2).core = x0.core := by
  intro x0 x1 x2
  simp only [State.noteFill, core_ite, ite_self, set_core]

@[simp] theorem buffer_core : ∀ x0, (State.buffer x0).2.core = x0.core := by
  intro x0
  simp only [State.buffer, draw_core]

@[simp] theorem enqueueRx_core : ∀ x0 x1 x2, (State.enqueueRx x0 x1 x2).core = x0.core := by
  intro x0 x1 x2
  simp only [State.enqueueRx, ↓core_mk, core_eta, core_ite, ite_self, count_core, buffer_core, noteFill_core]

@[simp] theorem stampReached_core : ∀ x0 x1, (State.stampReached x0 x1).core = x0.core := by
  intro x0 x1
  simp only [State.stampReached, advanceTo_core]

@[simp] theorem deliverTo_core : ∀ x0 x1 x2, (State.deliverTo x0 x1 x2).core = x0.core := by
  intro x0 x1 x2
  simp only [State.deliverTo, core_ite, ite_self, stnBad_core, enqueueRx_core]

@[simp] theorem frameTake_core : ∀ x0 x1, (State.frameTake x0 x1).core = x0.core := by
  intro x0 x1
  unfold State.frameTake; (repeat' split) <;> simp only [↓core_mk, core_eta, core_ite, ite_self, stnBad_core, count_core, deliverTo_core]

@[simp] theorem frameReceive_core : ∀ x0 x1, (State.frameReceive x0 x1).core = x0.core := by
  intro x0 x1
  simp only [State.frameReceive, core_ite, ite_self, frameTake_core, stampReached_core]

@[simp] theorem arpRequest_core : ∀ x0 x1 x2 x3 x4, (State.arpRequest x0 x1 x2 x3 x4).core = x0.core := by
  intro x0 x1 x2 x3 x4
  simp only [State.arpRequest, ↓core_mk, core_eta, core_ite, ite_self, stnBad_core]

@[simp] theorem txStart_core : ∀ x0 x1, (State.txStart x0 x1).core = x0.core := by
  intro x0 x1
  unfold State.txStart; (repeat' split) <;> simp only [↓core_mk, core_eta]

@[simp] theorem transmit_core : ∀ x0 x1 x2, (State.transmit x0 x1 x2).core = x0.core := by
  intro x0 x1 x2
  unfold State.transmit; (repeat' split) <;> simp only [↓core_mk, core_eta, core_ite, ite_self, buffer_core, txStart_core, noteFill_core]

@[simp] theorem setStampQueue_core : ∀ x0 x1 x2, (State.setStampQueue x0 x1 x2).core = x0.core := by
  intro x0 x1 x2
  simp only [State.setStampQueue, ↓core_mk, core_eta]

@[simp] theorem queueStamp_core : ∀ x0 x1 x2 x3, (State.queueStamp x0 x1 x2 x3).core = x0.core := by
  intro x0 x1 x2 x3
  simp only [State.queueStamp, core_ite, ite_self, setStampQueue_core, raise_core, count_core, setFlag_core]

@[simp] theorem txLeave_core : ∀ x0 x1 x2 x3 x4 x5, (State.txLeave x0 x1 x2 x3 x4 x5).core = x0.core := by
  intro x0 x1 x2 x3 x4 x5
  simp only [State.txLeave, ↓core_mk, core_eta, core_ite, ite_self, txStart_core, queueStamp_core]

@[simp] theorem frameTxDone_core : ∀ x0 x1 x2 x3, (State.frameTxDone x0 x1 x2 x3).core = x0.core := by
  intro x0 x1 x2 x3
  unfold State.frameTxDone; (repeat' split) <;> simp only [txLeave_core, stampReached_core]

@[simp] theorem drainRx_core : ∀ x0, (State.drainRx x0).core = x0.core := by
  intro x0
  simp only [State.drainRx, ↓core_mk, core_eta]

@[simp] theorem setChan_core : ∀ x0 x1 x2, (State.setChan x0 x1 x2).core = x0.core := by
  intro x0 x1 x2
  simp only [State.setChan, ↓core_mk, core_eta]

@[simp] theorem slipCheck_core : ∀ x0 x1 x2, (State.slipCheck x0 x1 x2).core = x0.core := by
  intro x0 x1 x2
  simp only [State.slipCheck, core_ite, ite_self, raise_core, setChan_core]

@[simp] theorem slipUpdate_core : ∀ x0 x1 x2, (State.slipUpdate x0 x1 x2).core = x0.core := by
  intro x0 x1 x2
  simp only [State.slipUpdate, slipCheck_core]

@[simp] theorem slipExpire_core : ∀ x0 x1, (State.slipExpire x0 x1).core = x0.core := by
  intro x0 x1
  simp only [State.slipExpire, core_ite, ite_self, slipCheck_core]

@[simp] theorem clearSlips_core : ∀ x0, (State.clearSlips x0).core = x0.core := by
  intro x0
  simp only [State.clearSlips, core_ite, ite_self, implies_true, foldl_core, raise_core, setChan_core]

@[simp] theorem acceptSample_core : ∀ x0 x1 x2 x3, (State.acceptSample x0 x1 x2 x3).core = x0.core := by
  intro x0 x1 x2 x3
  simp only [State.acceptSample, ↓core_mk, core_eta, core_ite, ite_self, slipUpdate_core, setChan_core, raise_core, count_core]

@[simp] theorem badMessage_core : ∀ x0 x1, (State.badMessage x0 x1).core = x0.core := by
  intro x0 x1
  simp only [State.badMessage, setChan_core]

@[simp] theorem offerMessage_core : ∀ x0 x1 x2 x3, (State.offerMessage x0 x1 x2 x3).core = x0.core := by
  intro s src body stamp
  unfold State.offerMessage
  dsimp only
  have h : ∀ (c : Prop) [Decidable c] (x y z : State), x.core = z.core → y.core = z.core → (if c then x else y).core = z.core := by
    intro c _ x y z hx hy; split <;> assumption
  refine h _ _ _ _ (h _ _ _ _ rfl ?_) (foldl_core _ (fun u c => ?_) _ _)
  · rw [raise_core]; exact foldl_core _ badMessage_core _ _
  · split
    · rfl
    · rw [raise_core, badMessage_core]
    · rw [ringSensor_core, acceptSample_core]

@[simp] theorem sensorMessage_core : ∀ x0 x1 x2 x3, (State.sensorMessage x0 x1 x2 x3).core = x0.core := by
  intro x0 x1 x2 x3
  unfold State.sensorMessage; (repeat' split) <;> simp only [implies_true, foldl_core, offerMessage_core]

@[simp] theorem putF_core : ∀ x0 x1 x2 x3, (State.putF x0 x1 x2 x3).core = x0.core := by
  intro x0 x1 x2 x3
  simp only [State.putF, core_ite, ite_self, putPoint_core]

@[simp] theorem putInput_core : ∀ x0 x1 x2 x3, (State.putInput x0 x1 x2 x3).core = x0.core := by
  intro x0 x1 x2 x3
  simp only [State.putInput, core_ite, ite_self, putF_core, setPoint_core]

@[simp] theorem channelInputs_core : ∀ x0 x1, (State.channelInputs x0 x1).core = x0.core := by
  intro x0 x1
  unfold State.channelInputs; dsimp only; (repeat' split) <;> simp only [core_ite, ite_self, implies_true, foldl_core, setChan_core, putInput_core, putQuality_core, setPoint_core]

@[simp] theorem sensorInputs_core : ∀ x0, (State.sensorInputs x0).core = x0.core := by
  intro x0
  simp only [State.sensorInputs, implies_true, foldl_core, channelInputs_core, slipExpire_core]

@[simp] theorem channelPoints_core : ∀ x0 x1 x2 x3, (State.channelPoints x0 x1 x2 x3).core = x0.core := by
  intro x0 x1 x2 x3
  unfold State.channelPoints; dsimp only; (repeat' split) <;> simp only [putAll_core, putF_core, putQuality_core]

@[simp] theorem uartSend_core : ∀ x0 x1 x2, (State.uartSend x0 x1 x2).2.core = x0.core := by
  intro x0 x1 x2
  simp only [State.uartSend, ↓core_mk, core_eta, core_ite, snd_ite, ite_self]

@[simp] theorem canClaim_core : ∀ x0 x1 x2, (State.canClaim x0 x1 x2).core = x0.core := by
  intro x0 x1 x2
  simp only [State.canClaim, ↓core_mk, core_eta, setFlag_core, set_core]

@[simp] theorem canReclaim_core : ∀ x0 x1, (State.canReclaim x0 x1).core = x0.core := by
  intro x0 x1
  unfold State.canReclaim; dsimp only; (repeat' split) <;> simp only [↓core_mk, core_eta, canClaim_core, setFlag_core, set_core]

@[simp] theorem n2kStart_core : ∀ x0 x1, (State.n2kStart x0 x1).core = x0.core := by
  intro x0 x1
  simp only [State.n2kStart, core_ite, ite_self, canClaim_core]

@[simp] theorem n2kClaimRx_core : ∀ x0 x1 x2 x3, (State.n2kClaimRx x0 x1 x2 x3).core = x0.core := by
  intro x0 x1 x2 x3
  simp only [State.n2kClaimRx, ↓core_mk, core_eta, core_ite, ite_self, canReclaim_core]

@[simp] theorem n2kRequest_core : ∀ x0 x1, (State.n2kRequest x0 x1).core = x0.core := by
  intro x0 x1
  simp only [State.n2kRequest, ↓core_mk, core_eta, core_ite, ite_self, canClaim_core]

@[simp] theorem putHeading_core : ∀ x0 x1 x2 x3, (State.putHeading x0 x1 x2 x3).core = x0.core := by
  intro x0 x1 x2 x3
  simp only [State.putHeading, putF_core]

@[simp] theorem setOrigin_core : ∀ x0 x1 x2, (State.setOrigin x0 x1 x2).core = x0.core := by
  intro x0 x1 x2
  simp only [State.setOrigin, set_core]

@[simp] theorem applyTest_core : ∀ x0 x1 x2, (State.applyTest x0 x1 x2).core = x0.core := by
  intro x0 x1 x2
  simp only [State.applyTest, core_ite, ite_self, implies_true, foldl_core, setChan_core, raise_core]

@[simp] theorem drawList_core (s : State) (n : Nat) : (s.drawList n).2.core = s.core := by
  induction n generalizing s with
  | zero => rfl
  | succ n ih => unfold State.drawList; dsimp only; rw [ih, drawF64_core]

@[simp] theorem setXc_core : ∀ x0 x1, (State.setXc x0 x1).core = x0.core := by
  intro x0 x1
  simp only [State.setXc, ↓core_mk, core_eta]

@[simp] theorem tauNote_core : ∀ x0, (State.tauNote x0).core = x0.core := by
  intro x0
  simp only [State.tauNote, ↓core_mk, core_eta, core_ite, ite_self]

@[simp] theorem obsPropagate_core : ∀ x0, (State.obsPropagate x0).core = x0.core := by
  intro x0
  simp only [State.obsPropagate, ↓core_mk, core_eta, core_ite, ite_self, setXc_core]

@[simp] theorem groupReset_core : ∀ x0 x1, (State.groupReset x0 x1).core = x0.core := by
  intro x0 x1
  simp only [State.groupReset, ↓core_mk, core_eta]

@[simp] theorem obsPoints_core : ∀ x0 x1, (State.obsPoints x0 x1).core = x0.core := by
  intro x0 x1
  simp only [State.obsPoints, implies_true, foldl_core, putF_core, putHeading_core, putAll_core]

@[simp] theorem obsInit_core : ∀ x0, (State.obsInit x0).core = x0.core := by
  intro x0
  simp only [State.obsInit, ↓core_mk, core_eta, set_core]

@[simp] theorem obsRun_core : ∀ x0, (State.obsRun x0).core = x0.core := by
  intro x0
  simp only [State.obsRun, ↓core_mk, core_eta, set_core]

@[simp] theorem fuseInit_core : ∀ x0 x1, (State.fuseInit x0 x1).core = x0.core := by
  intro x0 x1
  unfold State.fuseInit; (repeat' split) <;> simp only [↓core_mk, core_eta, core_ite, ite_self, setOrigin_core, obsRun_core]

@[simp] theorem drEnd_core : ∀ x0 x1, (State.drEnd x0 x1).core = x0.core := by
  intro x0 x1
  simp only [State.drEnd, ↓core_mk, core_eta, core_ite, ite_self, raise_core]

@[simp] theorem fuseOne_core : ∀ x0 x1, (State.fuseOne x0 x1).core = x0.core := by
  intro x0 x1
  simp only [State.fuseOne, ↓core_mk, core_eta, setXc_core]

@[simp] theorem offerSample_core : ∀ x0 x1, (State.offerSample x0 x1).2.core = x0.core := by
  intro x0 x1
  simp only [State.offerSample, ↓core_mk, core_eta, core_ite, snd_ite, ite_self, setChan_core, fuseOne_core, groupReset_core, drEnd_core, raise_core]

@[simp] theorem fuseSample_core : ∀ x0 x1 x2, (State.fuseSample x0 x1 x2).2.core = x0.core := by
  intro x0 x1 x2
  simp only [State.fuseSample, core_ite, snd_ite, ite_self, fuseInit_core, offerSample_core]

@[simp] theorem fuseAll_core : ∀ x0 x1, (State.fuseAll x0 x1).2.core = x0.core := by
  intro x0 x1
  simp only [State.fuseAll, implies_true, foldl_core2, fuseSample_core]

@[simp] theorem drStart_core : ∀ x0 x1 x2, (State.drStart x0 x1 x2).core = x0.core := by
  intro x0 x1 x2
  simp only [State.drStart, ↓core_mk, core_eta, core_ite, ite_self, raise_core]

@[simp] theorem drCount_core : ∀ x0 x1 x2 x3, (State.drCount x0 x1 x2 x3).core = x0.core := by
  intro x0 x1 x2 x3
  simp only [State.drCount, ↓core_mk, core_eta, core_ite, ite_self, raise_core]

@[simp] theorem gateStep_core : ∀ x0 x1 x2, (State.gateStep x0 x1 x2).core = x0.core := by
  intro x0 x1 x2
  simp only [State.gateStep, ↓core_mk, core_eta, core_ite, ite_self, implies_true, foldl_core]

@[simp] theorem clampChannel_core : ∀ x0 x1, (State.clampChannel x0 x1).core = x0.core := by
  intro x0 x1
  unfold State.clampChannel; (repeat' split) <;> simp only [↓core_mk, core_eta, implies_true, foldl_core, raise_core]

@[simp] theorem putEst_core : ∀ x0 x1 x2 x3, (State.putEst x0 x1 x2 x3).core = x0.core := by
  intro x0 x1 x2 x3
  simp only [State.putEst, ↓core_mk, core_eta]

@[simp] theorem refineChannel_core : ∀ x0 x1 x2, (State.refineChannel x0 x1 x2).core = x0.core := by
  intro x0 x1 x2
  simp only [State.refineChannel, ↓core_mk, core_eta, drawList_core, putEst_core]

@[simp] theorem zeroSum_core : ∀ x0 x1 x2, (State.zeroSum x0 x1 x2).core = x0.core := by
  intro x0 x1 x2
  unfold State.zeroSum; (repeat' split) <;> simp only [putEst_core]

@[simp] theorem refineGroup_core : ∀ x0 x1 x2, (State.refineGroup x0 x1 x2).core = x0.core := by
  intro x0 x1 x2
  simp only [State.refineGroup, core_ite, ite_self, implies_true, foldl_core, refineChannel_core, zeroSum_core]

@[simp] theorem followChannel_core : ∀ x0 x1 x2 x3, (State.followChannel x0 x1 x2 x3).core = x0.core := by
  intro x0 x1 x2 x3
  simp only [State.followChannel, ↓core_mk, core_eta]

@[simp] theorem calSaveStart_core : ∀ x0, (State.calSaveStart x0).core = x0.core := by
  intro x0
  simp only [State.calSaveStart, ↓core_mk, core_eta, core_ite, ite_self, setFlag_core]

@[simp] theorem calSaveDone_core : ∀ x0, (State.calSaveDone x0).core = x0.core := by
  intro x0
  unfold State.calSaveDone; (repeat' split) <;> simp only [↓core_mk, core_eta, core_ite, ite_self, raise_core, setFlag_core, calSaveStart_core]

@[simp] theorem calSaveResume_core : ∀ x0, (State.calSaveResume x0).core = x0.core := by
  intro x0
  simp only [State.calSaveResume, core_ite, ite_self, calSaveStart_core]

@[simp] theorem calResetApply_core : ∀ x0, (State.calResetApply x0).core = x0.core := by
  intro x0
  simp only [State.calResetApply, ↓core_mk, core_eta, core_ite, ite_self, raise_core, calSaveStart_core]

@[simp] theorem refine_core : ∀ x0 x1 x2 x3, (State.refine x0 x1 x2 x3).core = x0.core := by
  intro x0 x1 x2 x3
  simp only [State.refine, core_ite, ite_self, implies_true, foldl_core, calResetApply_core, setFlag_core, refineGroup_core, clampChannel_core, followChannel_core]

@[simp] theorem datumApply_core : ∀ x0 x1, (State.datumApply x0 x1).core = x0.core := by
  intro s l
  unfold State.datumApply
  split
  · rfl
  · refine foldl_core _ (fun t e => ?_) _ _
    split
    · dsimp only; rw [core_mk, core_eta, set_core, set_core]
    · rfl

@[simp] theorem farCheck_core : ∀ x0, (State.farCheck x0).core = x0.core := by
  intro x0
  simp only [State.farCheck, ↓core_mk, core_eta, core_ite, ite_self, raise_core]

@[simp] theorem attCheck_core : ∀ x0 x1, (State.attCheck x0 x1).core = x0.core := by
  intro x0 x1
  simp only [State.attCheck, ↓core_mk, core_eta, core_ite, ite_self, raise_core]

@[simp] theorem obsCount_core : ∀ x0, (State.obsCount x0).core = x0.core := by
  intro x0
  simp only [State.obsCount, ↓core_mk, core_eta]

@[simp] theorem obsMirror_core : ∀ x0, (State.obsMirror x0).core = x0.core := by
  intro x0
  simp only [State.obsMirror, ↓core_mk, core_eta]

@[simp] theorem drCounts_core : ∀ x0 x1 x2 x3, (State.drCounts x0 x1 x2 x3).core = x0.core := by
  intro x0 x1 x2 x3
  simp only [State.drCounts, drCount_core]

@[simp] theorem obsFuse_core : ∀ x0 x1 x2 x3 x4, (State.obsFuse x0 x1 x2 x3 x4).core = x0.core := by
  intro x0 x1 x2 x3 x4
  simp only [State.obsFuse, core_ite, ite_self, drStart_core, fuseAll_core, gateStep_core, obsMirror_core, refine_core, farCheck_core, obsCount_core, drCounts_core]

@[simp] theorem obsCut_core : ∀ x0 x1 x2 x3, (State.obsCut x0 x1 x2 x3).core = x0.core := by
  intro x0 x1 x2 x3
  simp only [State.obsCut, drStart_core, obsMirror_core, refine_core, drCounts_core]

@[simp] theorem obsUpdate_core : ∀ x0 x1 x2 x3 x4, (State.obsUpdate x0 x1 x2 x3 x4).core = x0.core := by
  intro x0 x1 x2 x3 x4
  simp only [State.obsUpdate, ↓core_mk, core_eta, core_ite, ite_self, obsPoints_core, refine_core, obsCut_core, obsFuse_core]

@[simp] theorem originSet_core : ∀ x0, (State.originSet x0).2.core = x0.core := by
  intro x0
  simp only [State.originSet, ↓core_mk, core_eta, core_ite, snd_ite, ite_self]

@[simp] theorem obsReinit_core : ∀ x0, (State.obsReinit x0).2.core = x0.core := by
  intro x0
  simp only [State.obsReinit, ↓core_mk, core_eta, core_ite, snd_ite, ite_self]

@[simp] theorem calSave_core : ∀ x0, (State.calSave x0).2.core = x0.core := by
  intro x0
  simp only [State.calSave, core_ite, snd_ite, ite_self, calSaveStart_core]

@[simp] theorem calResetCmd_core : ∀ x0, (State.calResetCmd x0).2.core = x0.core := by
  intro x0
  simp only [State.calResetCmd, ↓core_mk, core_eta, core_ite, snd_ite, ite_self]

@[simp] theorem chanCalReset_core : ∀ x0 x1, (State.chanCalReset x0 x1).2.core = x0.core := by
  intro x0 x1
  simp only [State.chanCalReset, ↓core_mk, core_eta, core_ite, snd_ite, ite_self]

@[simp] theorem datumSet_core : ∀ x0 x1, (State.datumSet x0 x1).2.core = x0.core := by
  intro x0 x1
  simp only [State.datumSet, ↓core_mk, core_eta, core_ite, snd_ite, ite_self]

@[simp] theorem obsBoundary_core : ∀ x0, (State.obsBoundary x0).core = x0.core := by
  intro x0
  simp only [State.obsBoundary, ↓core_mk, core_eta, core_ite, ite_self, setOrigin_core, raise_core, obsInit_core]

@[simp] theorem engineLost_core : ∀ x0 x1 x2, (State.engineLost x0 x1 x2).core = x0.core := by
  intro x0 x1 x2
  simp only [State.engineLost, ↓core_mk, core_eta, core_ite, ite_self, setFlag_core, raise_core, set_core, obsPoints_core]

@[simp] theorem markEngine_core : ∀ x0 x1, (State.markEngine x0 x1).core = x0.core := by
  intro x0 x1
  simp only [State.markEngine, ↓core_mk, core_eta, core_ite, ite_self]

@[simp] theorem obsEngineFault_core : ∀ x0 x1 x2 x3, (State.obsEngineFault x0 x1 x2 x3).core = x0.core := by
  intro x0 x1 x2 x3
  simp only [State.obsEngineFault, core_ite, ite_self, healthCheck_core, engineLost_core, markEngine_core, markCause_core]

@[simp] theorem drMaxExpired_core : ∀ x0 x1, (State.drMaxExpired x0 x1).core = x0.core := by
  intro x0 x1
  unfold State.drMaxExpired; (repeat' split) <;> simp only [↓core_mk, core_eta, core_ite, ite_self, advanceTo_core, obsPoints_core, raise_core]

@[simp] theorem setLoop_core : ∀ x0 x1 x2, (State.setLoop x0 x1 x2).core = x0.core := by
  intro x0 x1 x2
  simp only [State.setLoop, ↓core_mk, core_eta]

@[simp] theorem raiseOpt_core : ∀ x0 x1, (State.raiseOpt x0 x1).core = x0.core := by
  intro x0 x1
  unfold State.raiseOpt; (repeat' split) <;> simp only [raise_core]

@[simp] theorem evalLoop_core : ∀ x0 x1 x2 x3, (State.evalLoop x0 x1 x2 x3).core = x0.core := by
  intro x0 x1 x2 x3
  simp only [State.evalLoop, raiseOpt_core, setLoop_core]

@[simp] theorem clearLatch_core : ∀ x0 x1, (State.clearLatch x0 x1).core = x0.core := by
  intro x0 x1
  simp only [State.clearLatch, ↓core_mk, core_eta]

@[simp] theorem evalOrdinary_core : ∀ x0 x1, (State.evalOrdinary x0 x1).core = x0.core := by
  intro x0 x1
  simp only [State.evalOrdinary, clearLatch_core, evalLoop_core, setLoop_core]

@[simp] theorem loopPoints_core : ∀ x0 x1 x2, (State.loopPoints x0 x1 x2).core = x0.core := by
  intro x0 x1 x2
  unfold State.loopPoints; dsimp only; (repeat' split) <;> simp only [implies_true, foldl_core, putAll_core, putHeading_core, putF_core]

@[simp] theorem publishLoops_core : ∀ x0, (State.publishLoops x0).core = x0.core := by
  intro x0
  simp only [State.publishLoops, core_ite, ite_self, implies_true, foldl_core, loopPoints_core, setLoop_core]

@[simp] theorem writeLoopOut_core : ∀ x0 x1 x2, (State.writeLoopOut x0 x1 x2).core = x0.core := by
  intro x0 x1 x2
  unfold State.writeLoopOut; dsimp only; (repeat' split) <;> simp only [putF_core]

@[simp] theorem restoreWrite_core : ∀ x0 x1, (State.restoreWrite x0 x1).core = x0.core := by
  intro x0 x1
  simp only [State.restoreWrite, writeLoopOut_core, setLoop_core]

@[simp] theorem loopOutputs_core : ∀ x0, (State.loopOutputs x0).core = x0.core := by
  intro s
  unfold State.loopOutputs
  refine foldl_core _ (fun t e => ?_) _ _
  dsimp only
  have h : ∀ u : State, (if e.2.restoreOut = true then u.restoreWrite e.1 else u).core = u.core := by
    intro u; split
    · exact restoreWrite_core _ _
    · rfl
  rw [h]
  split
  · split
    · rw [setLoop_core, writeLoopOut_core]
    · rfl
  · rfl

@[simp] theorem loopHoldSnapshot_core : ∀ x0, (State.loopHoldSnapshot x0).core = x0.core := by
  intro x0
  simp only [State.loopHoldSnapshot, ↓core_mk, core_eta]

@[simp] theorem windUpdate_core : ∀ x0, (State.windUpdate x0).core = x0.core := by
  intro x0
  unfold State.windUpdate; (repeat' split) <;> simp only [↓core_mk, core_eta, raise_core]

@[simp] theorem evalDp_core : ∀ x0 x1, (State.evalDp x0 x1).core = x0.core := by
  intro x0 x1
  simp only [State.evalDp, ↓core_mk, core_eta, loopPoints_core, evalLoop_core]

@[simp] theorem evalDpLoops_core : ∀ x0, (State.evalDpLoops x0).core = x0.core := by
  intro x0
  simp only [State.evalDpLoops, core_ite, ite_self, implies_true, foldl_core, windUpdate_core, evalDp_core, setLoop_core]

@[simp] theorem windTimeout_core : ∀ x0, (State.windTimeout x0).core = x0.core := by
  intro x0
  simp only [State.windTimeout, ↓core_mk, core_eta, core_ite, ite_self, advanceTo_core, raise_core]

@[simp] theorem restoreLoop_core : ∀ x0 x1 x2, (State.restoreLoop x0 x1 x2).core = x0.core := by
  intro x0 x1 x2
  simp only [State.restoreLoop, putGood_core, putF_core, setLoop_core, setPoint_core]

@[simp] theorem loopsRestart_core : ∀ x0 x1, (State.loopsRestart x0 x1).core = x0.core := by
  intro s l
  unfold State.loopsRestart
  refine (foldl_core _ (fun t e => ?_) _ _).trans rfl
  split
  · split
    · rw [raise_core, restoreLoop_core]
    · rfl
  · rfl

@[simp] theorem armSnapshot_core : ∀ x0, (State.armSnapshot x0).core = x0.core := by
  intro x0
  simp only [State.armSnapshot, ↓core_mk, core_eta]

@[simp] theorem evalTriggers_core : ∀ x0, (State.evalTriggers x0).core = x0.core := by
  intro x0
  unfold State.evalTriggers; dsimp only; (repeat' split) <;> simp only [↓core_mk, core_eta, implies_true, foldl_core, raise_core]

@[simp] theorem restoreStep_core : ∀ x0, (State.restoreStep x0).core = x0.core := by
  intro x0
  unfold State.restoreStep; (repeat' split) <;> simp only [↓core_mk, core_eta, core_ite, ite_self, putGood_core, raise_core]

@[simp] theorem failedUpdate_core : ∀ x0, (State.failedUpdate x0).core = x0.core := by
  intro x0
  simp only [State.failedUpdate, ↓core_mk, core_eta, core_ite, ite_self, implies_true, foldl_core, raise_core, setFlag_core]

@[simp] theorem allocRegs_core : ∀ x0, (State.allocRegs x0).core = x0.core := by
  intro x0
  simp only [State.allocRegs, set_core]

@[simp] theorem loadNote_core : ∀ x0, (State.loadNote x0).core = x0.core := by
  intro x0
  simp only [State.loadNote, ↓core_mk, core_eta]

@[simp] theorem cmdEvents_core : ∀ x0 x1, (State.cmdEvents x0 x1).core = x0.core := by
  intro x0 x1
  simp only [State.cmdEvents, core_ite, ite_self, implies_true, foldl_core, raise_core]

@[simp] theorem allocPost_core : ∀ x0, (State.allocPost x0).core = x0.core := by
  intro x0
  simp only [State.allocPost, ↓core_mk, core_eta, core_ite, ite_self, loadNote_core, allocRegs_core, restoreStep_core, failedUpdate_core, cmdEvents_core, set_core]

@[simp] theorem azContStep_core : ∀ x0 x1, (State.azContStep x0 x1).core = x0.core := by
  intro x0 x1
  simp only [State.azContStep, ↓core_mk, core_eta]

@[simp] theorem takeEffect_core : ∀ x0 x1, (State.takeEffect x0 x1).core = x0.core := by
  intro x0 x1
  unfold State.takeEffect; (repeat' split) <;> simp only [↓core_mk, core_eta, azContStep_core]

@[simp] theorem thrPoints_core : ∀ x0 x1, (State.thrPoints x0 x1).core = x0.core := by
  intro x0 x1
  unfold State.thrPoints; dsimp only; (repeat' split) <;> simp only [implies_true, foldl_core, putGood_core, putHeading_core, putF_core]

@[simp] theorem busPoints_core : ∀ x0 x1, (State.busPoints x0 x1).core = x0.core := by
  intro x0 x1
  unfold State.busPoints; dsimp only; (repeat' split) <;> simp only [implies_true, foldl_core, putGood_core, putF_core]

@[simp] theorem allocSummary_core : ∀ x0, (State.allocSummary x0).core = x0.core := by
  intro x0
  simp only [State.allocSummary, implies_true, foldl_core, putAll_core, putF_core]

@[simp] theorem ctxPoints_core : ∀ x0 x1, (State.ctxPoints x0 x1).core = x0.core := by
  intro x0 x1
  unfold State.ctxPoints; dsimp only; (repeat' split) <;> simp only [implies_true, foldl_core, putAll_core, putGood_core, putF_core]

@[simp] theorem allocPoints_core : ∀ x0, (State.allocPoints x0).core = x0.core := by
  intro x0
  simp only [State.allocPoints, implies_true, foldl_core, allocSummary_core, busPoints_core, thrPoints_core]

@[simp] theorem ctxPointsAll_core : ∀ x0, (State.ctxPointsAll x0).core = x0.core := by
  intro x0
  simp only [State.ctxPointsAll, implies_true, foldl_core, ctxPoints_core]

@[simp] theorem consequence_core : ∀ x0, (State.consequence x0).core = x0.core := by
  intro x0
  simp only [State.consequence, core_ite, ite_self, setFlag_core, raise_core]

@[simp] theorem governReturn_core : ∀ x0 x1, (State.governReturn x0 x1).core = x0.core := by
  intro x0 x1
  simp only [State.governReturn, ↓core_mk, core_eta, core_ite, ite_self]

@[simp] theorem collect_core : ∀ x0 x1, (State.collect x0 x1).core = x0.core := by
  intro x0 x1
  unfold State.collect; (repeat' split) <;> simp only [↓core_mk, core_eta, governReturn_core, ctxPointsAll_core, allocRegs_core, consequence_core, takeEffect_core]

@[simp] theorem closePost_core : ∀ x0, (State.closePost x0).core = x0.core := by
  intro x0
  simp only [State.closePost, ↓core_mk, core_eta]

@[simp] theorem doSwitchIn_core : ∀ x0, (State.doSwitchIn x0).core = x0.core := by
  intro x0
  unfold State.doSwitchIn; (repeat' split) <;> simp only [↓core_mk, core_eta, core_ite, ite_self, setFlag_core, allocRegs_core, raise_core, takeEffect_core]

@[simp] theorem ctxChanged_core : ∀ x0 x1, (State.ctxChanged x0 x1).core = x0.core := by
  intro x0 x1
  simp only [State.ctxChanged, ↓core_mk, core_eta]

@[simp] theorem thrInit_core : ∀ x0, (State.thrInit x0).core = x0.core := by
  intro x0
  simp only [State.thrInit, implies_true, foldl_core, putPoint_core]

@[simp] theorem allocRestart_core : ∀ x0, (State.allocRestart x0).core = x0.core := by
  intro x0
  simp only [State.allocRestart, ↓core_mk, core_eta, thrInit_core, allocRegs_core]

@[simp] theorem setSlotRun_core : ∀ x0 x1 x2, (State.setSlotRun x0 x1 x2).core = x0.core := by
  intro x0 x1 x2
  simp only [State.setSlotRun, ↓core_mk, core_eta]

@[simp] theorem setDie_core : ∀ x0 x1 x2, (State.setDie x0 x1 x2).core = x0.core := by
  intro x0 x1 x2
  simp only [State.setDie, ↓core_mk, core_eta]

@[simp] theorem setEntry_core : ∀ x0 x1 x2, (State.setEntry x0 x1 x2).core = x0.core := by
  intro x0 x1 x2
  simp only [State.setEntry, ↓core_mk, core_eta]

@[simp] theorem notRun_core : ∀ x0 x1, (State.notRun x0 x1).core = x0.core := by
  intro x0 x1
  simp only [State.notRun, raise_core, setSlotRun_core]

@[simp] theorem feed_core : ∀ x0 x1, (State.feed x0 x1).core = x0.core := by
  intro x0 x1
  simp only [State.feed, core_ite, ite_self, setSlotRun_core, raise_core, count_core]

end Sys2Proof.Laws
end

