-- ==== Sys2Proof/Laws/FrameBlocks.lean ====
section
/-! SUPPORT. What the operations leave alone, first said once for each: queue, variant, grade, fuse bank, mode, phase and cycle count
(`State.core`). This file: the solver, trough, queue, station, time, span, safety, pump, plate and redundancy operations. -/

set_option linter.all false

namespace Sys2Proof.Laws
open Sys2Proof.Machine

@[simp] theorem startList_core (s : State) (d dl : Nat) (l : List Nat) : (s.startList d dl l).core = s.core := by
  induction l generalizing s with
  | nil => exact setDie_core _ _ _
  | cons c t ih =>
    unfold State.startList
    split
    · rw [feed_core, setDie_core]
    · rw [ih, notRun_core]

@[simp] theorem refeedWide_core : ∀ x0 x1, (State.refeedWide x0 x1).core = x0.core := by
  intro x0 x1
  simp only [State.refeedWide, setSlotRun_core]

@[simp] theorem startRerun_core (s : State) (d dl : Nat) (l : List Nat) : (s.startRerun d dl l).core = s.core := by
  induction l generalizing s with
  | nil => exact setDie_core _ _ _
  | cons c t ih =>
    unfold State.startRerun
    split
    · rw [refeedWide_core, setDie_core]
    · dsimp only; rw [ih, setSlotRun_core]

@[simp] theorem dieNext_core : ∀ x0 x1, (State.dieNext x0 x1).core = x0.core := by
  intro x0 x1
  unfold State.dieNext; (repeat' split) <;> simp only [core_ite, ite_self, startList_core, startRerun_core]

@[simp] theorem solvPost_core : ∀ x0 x1, (State.solvPost x0 x1).core = x0.core := by
  intro x0 x1
  simp only [State.solvPost, ↓core_mk, core_eta, implies_true, foldl_core, set_core, setSlotRun_core, dieNext_core]

@[simp] theorem noteRun_core : ∀ x0 x1 x2 x3 x4, (State.noteRun x0 x1 x2 x3 x4).core = x0.core := by
  intro x0 x1 x2 x3 x4
  simp only [State.noteRun, core_ite, ite_self, set_core, setSlotRun_core, raise_core]

@[simp] theorem returnIterate_core : ∀ x0 x1 x2 x3, (State.returnIterate x0 x1 x2 x3).core = x0.core := by
  intro x0 x1 x2 x3
  simp only [State.returnIterate, setSlotRun_core]

@[simp] theorem breachRun_core : ∀ x0 x1 x2 x3, (State.breachRun x0 x1 x2 x3).core = x0.core := by
  intro x0 x1 x2 x3
  simp only [State.breachRun, core_ite, ite_self, count_core, setSlotRun_core, raise_core, setDie_core]

@[simp] theorem infeasibleRun_core : ∀ x0 x1, (State.infeasibleRun x0 x1).core = x0.core := by
  intro x0 x1
  simp only [State.infeasibleRun, raise_core, setSlotRun_core]

@[simp] theorem endRun_core : ∀ x0 x1 x2 x3, (State.endRun x0 x1 x2 x3).core = x0.core := by
  intro x0 x1 x2 x3
  unfold State.endRun; (repeat' split) <;> simp only [returnIterate_core, infeasibleRun_core, breachRun_core]

@[simp] theorem contextEnd_core : ∀ x0 x1, (State.contextEnd x0 x1).core = x0.core := by
  intro x0 x1
  unfold State.contextEnd; (repeat' split) <;> simp only [setDie_core, noteRun_core, dieNext_core, endRun_core]

@[simp] theorem cutRun_core : ∀ x0 x1 x2 x3, (State.cutRun x0 x1 x2 x3).core = x0.core := by
  intro x0 x1 x2 x3
  simp only [State.cutRun, core_ite, ite_self, endRun_core, noteRun_core, raise_core, count_core, setSlotRun_core]

@[simp] theorem deadlineDie_core : ∀ x0 x1 x2, (State.deadlineDie x0 x1 x2).core = x0.core := by
  intro s cuts d
  unfold State.deadlineDie
  dsimp only
  rw [setDie_core]
  refine (foldl_core _ (fun t c => ?_) _ _).trans ((foldl_core _ notRun_core _ _).trans ?_)
  · split
    · exact returnIterate_core _ _ _ _
    · rfl
  · split
    · exact cutRun_core _ _ _ _
    · rfl

@[simp] theorem solveDeadline_core : ∀ x0 x1, (State.solveDeadline x0 x1).core = x0.core := by
  intro x0 x1
  unfold State.solveDeadline; (repeat' split) <;> simp only [↓core_mk, core_eta, implies_true, foldl_core, deadlineDie_core, advanceTo_core]

@[simp] theorem wideReturn_core : ∀ x0 x1, (State.wideReturn x0 x1).core = x0.core := by
  intro x0 x1
  simp only [State.wideReturn, core_ite, ite_self, raise_core, setSlotRun_core]

@[simp] theorem dieLost_core : ∀ x0 x1, (State.dieLost x0 x1).core = x0.core := by
  intro x0 x1
  simp only [State.dieLost, implies_true, foldl_core, setSlotRun_core, set_core, setDie_core]

@[simp] theorem dieFault_core : ∀ x0 x1 x2, (State.dieFault x0 x1 x2).core = x0.core := by
  intro x0 x1 x2
  simp only [State.dieFault, core_ite, ite_self, healthCheck_core, raise_core, dieLost_core, markCause_core]

@[simp] theorem solvPoints_core : ∀ x0 x1, (State.solvPoints x0 x1).core = x0.core := by
  intro x0 x1
  simp only [State.solvPoints, core_ite, ite_self, putAll_core, putF_core, putGood_core]

@[simp] theorem solvSettle_core : ∀ x0, (State.solvSettle x0).core = x0.core := by
  intro x0
  simp only [State.solvSettle, ↓core_mk, core_eta, implies_true, foldl_core, wideReturn_core]

@[simp] theorem userResults_core : ∀ x0 x1, (State.userResults x0 x1).core = x0.core := by
  intro x0 x1
  unfold State.userResults; (repeat' split) <;> simp only [core_ite, ite_self, implies_true, foldl_core, putQuality_core, putF_core]

@[simp] theorem solvCollect_core : ∀ x0, (State.solvCollect x0).core = x0.core := by
  intro x0
  simp only [State.solvCollect, implies_true, foldl_core, solveDeadline_core, set_core, userResults_core, solvPoints_core]

@[simp] theorem userSnapshot_core : ∀ x0, (State.userSnapshot x0).core = x0.core := by
  intro x0
  simp only [State.userSnapshot, ↓core_mk, core_eta]

@[simp] theorem forgetWarm_core : ∀ x0 x1, (State.forgetWarm x0 x1).core = x0.core := by
  intro x0 x1
  simp only [State.forgetWarm, setSlotRun_core]

@[simp] theorem rebind_core : ∀ x0 x1, (State.rebind x0 x1).core = x0.core := by
  intro x0 x1
  simp only [State.rebind, setSlotRun_core]

@[simp] theorem solvRestart_core : ∀ x0, (State.solvRestart x0).core = x0.core := by
  intro x0
  simp only [State.solvRestart, ↓core_mk, core_eta]

@[simp] theorem hatchCmdCore_core : ∀ x0 x1 x2, (State.hatchCmdCore x0 x1 x2).2.core = x0.core := by
  intro x0 x1 x2
  unfold State.hatchCmdCore; (repeat' split) <;> simp only [↓core_mk, core_eta, core_ite, snd_ite, ite_self, setEntry_core, setFlag_core]

@[simp] theorem hatchCmd_core : ∀ x0 x1 x2, (State.hatchCmd x0 x1 x2).2.core = x0.core := by
  intro x0 x1 x2
  simp only [State.hatchCmd, hatchCmdCore_core, set_core]

@[simp] theorem hatchWindow_core : ∀ x0 x1 x2, (State.hatchWindow x0 x1 x2).2.core = x0.core := by
  intro x0 x1 x2
  unfold State.hatchWindow; (repeat' split) <;> simp only [setEntry_core]

@[simp] theorem hatchVerifyDone_core : ∀ x0 x1 x2, (State.hatchVerifyDone x0 x1 x2).core = x0.core := by
  intro x0 x1 x2
  unfold State.hatchVerifyDone; (repeat' split) <;> simp only [↓core_mk, core_eta, core_ite, ite_self, setFlag_core, set_core, raise_core, setEntry_core, verifyEvents_core]

@[simp] theorem hatchStoreDone_core : ∀ x0, (State.hatchStoreDone x0).core = x0.core := by
  intro x0
  unfold State.hatchStoreDone; (repeat' split) <;> simp only [↓core_mk, core_eta, setFlag_core, setEntry_core, raise_core]

@[simp] theorem hatchesReload_core : ∀ x0, (State.hatchesReload x0).core = x0.core := by
  intro x0
  simp only [State.hatchesReload, ↓core_mk, core_eta]

@[simp] theorem troughOpen_core : ∀ x0, (State.troughOpen x0).core = x0.core := by
  intro x0
  simp only [State.troughOpen, ↓core_mk, core_eta, core_ite, ite_self]

@[simp] theorem windTake_core : ∀ x0 x1, (State.windTake x0 x1).core = x0.core := by
  intro x0 x1
  unfold State.windTake; (repeat' split) <;> simp only [↓core_mk, core_eta]

@[simp] theorem groupTest_core : ∀ x0 x1 x2, (State.groupTest x0 x1 x2).core = x0.core := by
  intro x0 x1 x2
  simp only [State.groupTest, applyTest_core]

@[simp] theorem closeFrame_core : ∀ x0 x1 x2, (State.closeFrame x0 x1 x2).2.core = x0.core := by
  intro x0 x1 x2
  unfold State.closeFrame; (repeat' split) <;> simp only [↓core_mk, core_eta, setFlag_core, set_core, windTake_core, raise_core]

@[simp] theorem contradictions_core : ∀ x0 x1, (State.contradictions x0 x1).core = x0.core := by
  intro x0 x1
  simp only [State.contradictions, ↓core_mk, core_eta, groupTest_core]

@[simp] theorem consumeFrame_core : ∀ x0 x1, (State.consumeFrame x0 x1).core = x0.core := by
  intro x0 x1
  simp only [State.consumeFrame, ↓core_mk, core_eta, implies_true, foldl_core, attCheck_core, datumApply_core, obsPropagate_core, contradictions_core, obsUpdate_core, channelPoints_core]

@[simp] theorem postStep_core : ∀ x0, (State.postStep x0).core = x0.core := by
  intro x0
  simp only [State.postStep, core_ite, ite_self, allocPost_core, evalDpLoops_core, solvPost_core]

@[simp] theorem troughClose_core : ∀ x0, (State.troughClose x0).core = x0.core := by
  intro x0
  unfold State.troughClose; (repeat' split) <;> simp only [advanceTo_core, closeFrame_core, postStep_core, consumeFrame_core]

@[simp] theorem troughDue_core : ∀ x0 x1, (State.troughDue x0 x1).core = x0.core := by
  intro x0 x1
  unfold State.troughDue; (repeat' split) <;> simp only [troughClose_core]

@[simp] theorem sendRing_core : ∀ x0 x1 x2, (State.sendRing x0 x1 x2).core = x0.core := by
  intro x0 x1 x2
  simp only [State.sendRing, ↓core_mk, core_eta, implies_true, foldl_core, transmit_core]

@[simp] theorem sendFrames_core : ∀ x0 x1, (State.sendFrames x0 x1).core = x0.core := by
  intro x0 x1
  simp only [State.sendFrames, ↓core_mk, core_eta, core_ite, ite_self, implies_true, foldl_core, sendRing_core]

@[simp] theorem stnRelease_core : ∀ x0 x1, (State.stnRelease x0 x1).2.core = x0.core := by
  intro x0 x1
  simp only [State.stnRelease, ↓core_mk, core_eta, core_ite, snd_ite, ite_self]

@[simp] theorem noteCopy_core : ∀ x0 x1, (State.noteCopy x0 x1).core = x0.core := by
  intro x0 x1
  simp only [State.noteCopy, ↓core_mk, core_eta]

@[simp] theorem outputReturn_core : ∀ x0 x1, (State.outputReturn x0 x1).core = x0.core := by
  intro x0 x1
  simp only [State.outputReturn, ↓core_mk, core_eta, core_ite, ite_self]

@[simp] theorem deliver_core : ∀ x0 x1 x2 x3, (State.deliver x0 x1 x2 x3).core = x0.core := by
  intro x0 x1 x2 x3
  simp only [State.deliver, core_ite, ite_self, setPoint_core]

@[simp] theorem lose_core : ∀ x0 x1, (State.lose x0 x1).core = x0.core := by
  intro x0 x1
  simp only [State.lose, core_ite, ite_self, setPoint_core]

@[simp] theorem writeEntries_core : ∀ x0 x1 x2 x3, (State.writeEntries x0 x1 x2 x3).core = x0.core := by
  intro x0 x1 x2 x3
  simp only [State.writeEntries, implies_true, foldl_core, deliver_core]

@[simp] theorem loseRange_core : ∀ x0 x1 x2, (State.loseRange x0 x1 x2).core = x0.core := by
  intro x0 x1 x2
  simp only [State.loseRange, implies_true, foldl_core, lose_core]

@[simp] theorem closeDelivered_core : ∀ x0 x1 x2, (State.closeDelivered x0 x1 x2).core = x0.core := by
  intro x0 x1 x2
  simp only [State.closeDelivered, ↓core_mk, core_eta, core_ite, ite_self, writeEntries_core, putAll_core]

@[simp] theorem closeMissing_core : ∀ x0 x1, (State.closeMissing x0 x1).core = x0.core := by
  intro x0 x1
  simp only [State.closeMissing, putAll_core, loseRange_core]

@[simp] theorem closeStation_core : ∀ x0 x1 x2, (State.closeStation x0 x1 x2).core = x0.core := by
  intro x0 x1 x2
  unfold State.closeStation; (repeat' split) <;> simp only [closeDelivered_core, closeMissing_core, putAll_core]

@[simp] theorem closeStations_core : ∀ x0, (State.closeStations x0).core = x0.core := by
  intro x0
  simp only [State.closeStations, implies_true, foldl_core, closeStation_core]

@[simp] theorem ringStatus_core : ∀ x0 x1, (State.ringStatus x0 x1).core = x0.core := by
  intro x0 x1
  simp only [State.ringStatus, setFlag_core, set_core]

@[simp] theorem stnNewCycle_core : ∀ x0, (State.stnNewCycle x0).core = x0.core := by
  intro x0
  simp only [State.stnNewCycle, ↓core_mk, core_eta, core_ite, ite_self, implies_true, foldl_core, ringStatus_core]

@[simp] theorem stnRestart_core : ∀ x0, (State.stnRestart x0).core = x0.core := by
  intro x0
  simp only [State.stnRestart, ↓core_mk, core_eta]

@[simp] theorem realign_core : ∀ x0, (State.realign x0).core = x0.core := by
  intro x0
  simp only [State.realign, ↓core_mk, core_eta]

@[simp] theorem selectSource_core : ∀ x0, (State.selectSource x0).core = x0.core := by
  intro x0
  simp only [State.selectSource, core_ite, ite_self, setFlag_core, set_core, raise_core]

@[simp] theorem lockCheck_core : ∀ x0 x1, (State.lockCheck x0 x1).core = x0.core := by
  intro x0 x1
  simp only [State.lockCheck, core_ite, ite_self, setFlag_core]

@[simp] theorem slewTo_core : ∀ x0 x1 x2, (State.slewTo x0 x1 x2).core = x0.core := by
  intro x0 x1 x2
  simp only [State.slewTo, ↓core_mk, core_eta, draw_core]

@[simp] theorem discipline_core : ∀ x0 x1 x2, (State.discipline x0 x1 x2).core = x0.core := by
  intro x0 x1 x2
  simp only [State.discipline, ↓core_mk, core_eta, core_ite, ite_self, set_core, lockCheck_core, raise_core, setFlag_core, slewTo_core]

@[simp] theorem measure_core : ∀ x0 x1 x2 x3, (State.measure x0 x1 x2 x3).core = x0.core := by
  intro x0 x1 x2 x3
  simp only [State.measure, core_ite, ite_self, selectSource_core, discipline_core]

@[simp] theorem stepTime_core : ∀ x0, (State.stepTime x0).core = x0.core := by
  intro x0
  simp only [State.stepTime, ↓core_mk, core_eta, core_ite, ite_self, lockCheck_core, set_core]

@[simp] theorem tsuStep_core : ∀ x0, (State.tsuStep x0).2.core = x0.core := by
  intro x0
  simp only [State.tsuStep, ↓core_mk, core_eta, core_ite, snd_ite, ite_self]

@[simp] theorem stepBoundary_core : ∀ x0, (State.stepBoundary x0).2.core = x0.core := by
  intro x0
  simp only [State.stepBoundary, ↓core_mk, core_eta, core_ite, snd_ite, ite_self, stepTime_core]

@[simp] theorem setPtpPort_core : ∀ x0 x1 x2, (State.setPtpPort x0 x1 x2).core = x0.core := by
  intro x0 x1 x2
  simp only [State.setPtpPort, ↓core_mk, core_eta]

@[simp] theorem ptpDecideAll_core : ∀ x0, (State.ptpDecideAll x0).core = x0.core := by
  intro x0
  simp only [State.ptpDecideAll, implies_true, foldl_core, setPtpPort_core]

@[simp] theorem ptpAnnounce_core : ∀ x0 x1 x2 x3, (State.ptpAnnounce x0 x1 x2 x3).core = x0.core := by
  intro x0 x1 x2 x3
  simp only [State.ptpAnnounce, ptpDecideAll_core, setPtpPort_core]

@[simp] theorem ptpOffset_core : ∀ x0 x1 x2 x3, (State.ptpOffset x0 x1 x2 x3).core = x0.core := by
  intro x0 x1 x2 x3
  simp only [State.ptpOffset, ↓core_mk, core_eta, core_ite, ite_self, setPtpPort_core, measure_core]

@[simp] theorem ptpSend_core : ∀ x0 x1 x2, (State.ptpSend x0 x1 x2).core = x0.core := by
  intro x0 x1 x2
  simp only [State.ptpSend, ↓core_mk, core_eta, draw_core, transmit_core]

@[simp] theorem ptpDelay_core : ∀ x0 x1 x2, (State.ptpDelay x0 x1 x2).core = x0.core := by
  intro x0 x1 x2
  simp only [State.ptpDelay, setPtpPort_core]

@[simp] theorem ptpPeer_core : ∀ x0 x1 x2 x3, (State.ptpPeer x0 x1 x2 x3).core = x0.core := by
  intro x0 x1 x2 x3
  simp only [State.ptpPeer, core_ite, ite_self, setPtpPort_core, ptpDelay_core]

@[simp] theorem ptpTake_core : ∀ x0 x1 x2, (State.ptpTake x0 x1 x2).core = x0.core := by
  intro x0 x1 x2
  unfold State.ptpTake; dsimp only; (repeat' split) <;> simp only [setPtpPort_core, ptpOffset_core, ptpSend_core, ptpDelay_core, ptpPeer_core, ptpAnnounce_core]

@[simp] theorem ptpMessage_core : ∀ x0 x1 x2, (State.ptpMessage x0 x1 x2).core = x0.core := by
  intro x0 x1 x2
  simp only [State.ptpMessage, ↓core_mk, core_eta, core_ite, ite_self, stnBad_core, ptpTake_core, stampReached_core]

@[simp] theorem ptpInterval_core : ∀ x0 x1, (State.ptpInterval x0 x1).core = x0.core := by
  intro x0 x1
  simp only [State.ptpInterval, ↓core_mk, core_eta, core_ite, ite_self, implies_true, foldl_core, ptpDecideAll_core, ptpSend_core, setPtpPort_core]

@[simp] theorem ptpLeft_core : ∀ x0 x1 x2 x3, (State.ptpLeft x0 x1 x2 x3).core = x0.core := by
  intro x0 x1 x2 x3
  unfold State.ptpLeft; (repeat' split) <;> simp only [ptpSend_core, setPtpPort_core]

@[simp] theorem serviceStamps_core : ∀ x0 x1, (State.serviceStamps x0 x1).core = x0.core := by
  intro x0 x1
  simp only [State.serviceStamps, core_ite, ite_self, setStampQueue_core]

@[simp] theorem frameLeft_core : ∀ x0 x1 x2 x3, (State.frameLeft x0 x1 x2 x3).core = x0.core := by
  intro x0 x1 x2 x3
  unfold State.frameLeft; dsimp only; (repeat' split) <;> simp only [↓core_mk, core_eta, frameTxDone_core, ptpLeft_core, serviceStamps_core]

@[simp] theorem sourceTimeout_core : ∀ x0 x1, (State.sourceTimeout x0 x1).core = x0.core := by
  intro x0 x1
  unfold State.sourceTimeout; (repeat' split) <;> simp only [↓core_mk, core_eta, waitUntil_core, selectSource_core, ptpDecideAll_core, advanceTo_core]

@[simp] theorem ppsEdge_core : ∀ x0 x1 x2, (State.ppsEdge x0 x1 x2).core = x0.core := by
  intro x0 x1 x2
  simp only [State.ppsEdge, ↓core_mk, core_eta, measure_core]

@[simp] theorem ppsIn_core : ∀ x0 x1 x2, (State.ppsIn x0 x1 x2).core = x0.core := by
  intro x0 x1 x2
  simp only [State.ppsIn, core_ite, ite_self, stampReached_core, ppsEdge_core]

@[simp] theorem ppsHigh_core : ∀ x0 x1 x2 x3, (State.ppsHigh x0 x1 x2 x3).core = x0.core := by
  intro x0 x1 x2 x3
  simp only [State.ppsHigh, ↓core_mk, core_eta]

@[simp] theorem ppsFloat_core : ∀ x0, (State.ppsFloat x0).core = x0.core := by
  intro x0
  simp only [State.ppsFloat, ↓core_mk, core_eta]

@[simp] theorem gpioFloat_core : ∀ x0, (State.gpioFloat x0).core = x0.core := by
  intro x0
  simp only [State.gpioFloat, ↓core_mk, core_eta]

@[simp] theorem ppsOutEdge_core : ∀ x0 x1, (State.ppsOutEdge x0 x1).core = x0.core := by
  intro x0 x1
  unfold State.ppsOutEdge; (repeat' split) <;> simp only [advanceTo_core, ppsHigh_core]

@[simp] theorem ppsOutFall_core : ∀ x0 x1, (State.ppsOutFall x0 x1).core = x0.core := by
  intro x0 x1
  simp only [State.ppsOutFall, ↓core_mk, core_eta, core_ite, ite_self, advanceTo_core]

@[simp] theorem dinEdge_core : ∀ x0 x1 x2 x3, (State.dinEdge x0 x1 x2 x3).core = x0.core := by
  intro x0 x1 x2 x3
  simp only [State.dinEdge, ↓core_mk, core_eta, core_ite, ite_self, stampReached_core]

@[simp] theorem dinRead_core : ∀ x0 x1, (State.dinRead x0 x1).core = x0.core := by
  intro x0 x1
  simp only [State.dinRead, ↓core_mk, core_eta]

@[simp] theorem tsqFree_core : ∀ x0 x1, (State.tsqFree x0 x1).core = x0.core := by
  intro x0 x1
  simp only [State.tsqFree, setStampQueue_core]

@[simp] theorem tsqRead_core : ∀ x0 x1, (State.tsqRead x0 x1).2.2.core = x0.core := by
  intro x0 x1
  simp only [State.tsqRead, core_ite, snd_ite, ite_self, tsqFree_core]

@[simp] theorem timeLoRead_core : ∀ x0 x1, (State.timeLoRead x0 x1).2.core = x0.core := by
  intro x0 x1
  simp only [State.timeLoRead, ↓core_mk, core_eta]

@[simp] theorem tickLoRead_core : ∀ x0 x1, (State.tickLoRead x0 x1).2.core = x0.core := by
  intro x0 x1
  simp only [State.tickLoRead, ↓core_mk, core_eta]

@[simp] theorem spanSend_core : ∀ x0 x1, (State.spanSend x0 x1).core = x0.core := by
  intro x0 x1
  simp only [State.spanSend, ↓core_mk, core_eta, core_ite, ite_self]

@[simp] theorem spanBad_core : ∀ x0, (State.spanBad x0).core = x0.core := by
  intro x0
  simp only [State.spanBad, count_core]

@[simp] theorem noteNode_core : ∀ x0 x1, (State.noteNode x0 x1).core = x0.core := by
  intro x0 x1
  simp only [State.noteNode, ↓core_mk, core_eta]

@[simp] theorem rootRx_core : ∀ x0 x1, (State.rootRx x0 x1).core = x0.core := by
  intro x0 x1
  simp only [State.rootRx, ↓core_mk, core_eta, core_ite, ite_self, spanBad_core, noteNode_core]

@[simp] theorem spanFollow_core : ∀ x0 x1, (State.spanFollow x0 x1).core = x0.core := by
  intro x0 x1
  simp only [State.spanFollow, ↓core_mk, core_eta, core_ite, ite_self, draw_core, slewTo_core]

@[simp] theorem spanForward_core : ∀ x0 x1, (State.spanForward x0 x1).core = x0.core := by
  intro x0 x1
  simp only [State.spanForward, ↓core_mk, core_eta]

@[simp] theorem nodeTake_core : ∀ x0 x1, (State.nodeTake x0 x1).core = x0.core := by
  intro x0 x1
  simp only [State.nodeTake, ↓core_mk, core_eta, implies_true, foldl_core, deliver_core, spanFollow_core, sendFrames_core, setFlag_core]

@[simp] theorem nodeRx_core : ∀ x0 x1, (State.nodeRx x0 x1).core = x0.core := by
  intro x0 x1
  simp only [State.nodeRx, core_ite, ite_self, spanBad_core, spanForward_core, nodeTake_core]

@[simp] theorem spanFrameRx_core : ∀ x0 x1, (State.spanFrameRx x0 x1).core = x0.core := by
  intro x0 x1
  simp only [State.spanFrameRx, core_ite, ite_self, rootRx_core, nodeRx_core]

@[simp] theorem spanUpLost_core : ∀ x0, (State.spanUpLost x0).core = x0.core := by
  intro x0
  simp only [State.spanUpLost, core_ite, ite_self, raise_core, setFlag_core]

@[simp] theorem closeNode_core : ∀ x0 x1 x2, (State.closeNode x0 x1 x2).core = x0.core := by
  intro x0 x1 x2
  unfold State.closeNode; (repeat' split) <;> simp only [core_ite, ite_self, putAll_core, writeEntries_core, raise_core, loseRange_core]

@[simp] theorem spanOwnPoints_core : ∀ x0, (State.spanOwnPoints x0).core = x0.core := by
  intro x0
  simp only [State.spanOwnPoints, putAll_core]

@[simp] theorem nodeSend_core : ∀ x0, (State.nodeSend x0).core = x0.core := by
  intro x0
  simp only [State.nodeSend, ↓core_mk, core_eta, core_ite, ite_self]

@[simp] theorem closeSpan_core : ∀ x0, (State.closeSpan x0).core = x0.core := by
  intro x0
  simp only [State.closeSpan, ↓core_mk, core_eta, core_ite, ite_self, implies_true, foldl_core, closeNode_core, raise_core, spanOwnPoints_core, nodeSend_core]

@[simp] theorem spanNewCycle_core : ∀ x0, (State.spanNewCycle x0).core = x0.core := by
  intro x0
  simp only [State.spanNewCycle, ↓core_mk, core_eta]

@[simp] theorem stationCopy_core : ∀ x0 x1, (State.stationCopy x0 x1).core = x0.core := by
  intro x0 x1
  simp only [State.stationCopy, ↓core_mk, core_eta, core_ite, ite_self, stnBad_core, count_core, noteCopy_core]

@[simp] theorem stationInput_core : ∀ x0 x1, (State.stationInput x0 x1).core = x0.core := by
  intro x0 x1
  simp only [State.stationInput, core_ite, ite_self, stationCopy_core, frameTake_core]

@[simp] theorem safeRefresh_core : ∀ x0, (State.safeRefresh x0).core = x0.core := by
  intro x0
  simp only [State.safeRefresh, ↓core_mk, core_eta]

@[simp] theorem safeBoundary_core : ∀ x0, (State.safeBoundary x0).core = x0.core := by
  intro x0
  simp only [State.safeBoundary, ↓core_mk, core_eta, safeRefresh_core]

@[simp] theorem tripLatchIn_core : ∀ x0 x1, (State.tripLatchIn x0 x1).core = x0.core := by
  intro x0 x1
  simp only [State.tripLatchIn, ↓core_mk, core_eta, core_ite, ite_self, safeRefresh_core, raise_core]

@[simp] theorem tripLow_core : ∀ x0 x1, (State.tripLow x0 x1).core = x0.core := by
  intro x0 x1
  simp only [State.tripLow, ↓core_mk, core_eta, core_ite, ite_self, tripLatchIn_core]

@[simp] theorem tripDisagree_core : ∀ x0 x1, (State.tripDisagree x0 x1).core = x0.core := by
  intro x0 x1
  simp only [State.tripDisagree, ↓core_mk, core_eta, core_ite, ite_self, tripLatchIn_core, raise_core]

@[simp] theorem tripFaultClear_core : ∀ x0 x1, (State.tripFaultClear x0 x1).core = x0.core := by
  intro x0 x1
  simp only [State.tripFaultClear, ↓core_mk, core_eta]

@[simp] theorem tripAll_core : ∀ x0, (State.tripAll x0).core = x0.core := by
  intro x0
  simp only [State.tripAll, core_ite, ite_self, implies_true, foldl_core, tripLatchIn_core]

@[simp] theorem runCheck_core : ∀ x0 x1, (State.runCheck x0 x1).core = x0.core := by
  intro x0 x1
  simp only [State.runCheck, ↓core_mk, core_eta, core_ite, ite_self]

@[simp] theorem runChecks_core : ∀ x0, (State.runChecks x0).core = x0.core := by
  intro x0
  simp only [State.runChecks, implies_true, foldl_core, runCheck_core]

@[simp] theorem runawayStop_core : ∀ x0 x1, (State.runawayStop x0 x1).core = x0.core := by
  intro x0 x1
  simp only [State.runawayStop, ↓core_mk, core_eta, core_ite, ite_self, safeRefresh_core, raise_core]

@[simp] theorem runStops_core : ∀ x0, (State.runStops x0).core = x0.core := by
  intro x0
  simp only [State.runStops, implies_true, foldl_core, runawayStop_core]

@[simp] theorem reinterlock_core : ∀ x0 x1 x2, (State.reinterlock x0 x1 x2).core = x0.core := by
  intro x0 x1 x2
  simp only [State.reinterlock, ↓core_mk, core_eta]

@[simp] theorem tripReset_core : ∀ x0, (State.tripReset x0).core = x0.core := by
  intro x0
  simp only [State.tripReset, ↓core_mk, core_eta, implies_true, foldl_core, reinterlock_core, raise_core]

@[simp] theorem discReset_core : ∀ x0, (State.discReset x0).core = x0.core := by
  intro x0
  simp only [State.discReset, ↓core_mk, core_eta, implies_true, foldl_core, reinterlock_core, raise_core]

@[simp] theorem safeTripReset_core : ∀ x0, (State.safeTripReset x0).2.core = x0.core := by
  intro x0
  simp only [State.safeTripReset, ↓core_mk, core_eta]

@[simp] theorem safeDiscReset_core : ∀ x0, (State.safeDiscReset x0).2.core = x0.core := by
  intro x0
  simp only [State.safeDiscReset, ↓core_mk, core_eta]

@[simp] theorem safeLevels_core : ∀ x0 x1 x2, (State.safeLevels x0 x1 x2).core = x0.core := by
  intro x0 x1 x2
  simp only [State.safeLevels, ↓core_mk, core_eta]

@[simp] theorem safeFreeze_core : ∀ x0, (State.safeFreeze x0).core = x0.core := by
  intro x0
  simp only [State.safeFreeze, ↓core_mk, core_eta, core_ite, ite_self, tripReset_core, discReset_core, healthCheck_core, safeRefresh_core]

@[simp] theorem safePoints_core : ∀ x0, (State.safePoints x0).core = x0.core := by
  intro x0
  simp only [State.safePoints, putAll_core]

@[simp] theorem discLatch_core : ∀ x0 x1, (State.discLatch x0 x1).core = x0.core := by
  intro x0 x1
  simp only [State.discLatch, ↓core_mk, core_eta, healthCheck_core, safeRefresh_core, raise_core]

@[simp] theorem stippleResult_core : ∀ x0 x1 x2 x3, (State.stippleResult x0 x1 x2 x3).core = x0.core := by
  intro x0 x1 x2 x3
  simp only [State.stippleResult, ↓core_mk, core_eta, core_ite, ite_self, discLatch_core]

@[simp] theorem pulseStart_core : ∀ x0 x1, (State.pulseStart x0 x1).core = x0.core := by
  intro x0 x1
  simp only [State.pulseStart, ↓core_mk, core_eta]

@[simp] theorem regularPulse_core : ∀ x0 x1, (State.regularPulse x0 x1).core = x0.core := by
  intro x0 x1
  simp only [State.regularPulse, ↓core_mk, core_eta, core_ite, ite_self, advanceTo_core, pulseStart_core]

@[simp] theorem stipplePulse_core : ∀ x0 x1, (State.stipplePulse x0 x1).core = x0.core := by
  intro x0 x1
  simp only [State.stipplePulse, core_ite, ite_self, pulseStart_core, advanceTo_core, regularPulse_core]

@[simp] theorem pulseNext_core : ∀ x0, (State.pulseNext x0).core = x0.core := by
  intro x0
  unfold State.pulseNext; (repeat' split) <;> simp only [pulseStart_core]

@[simp] theorem stippleCheck_core : ∀ x0 x1 x2, (State.stippleCheck x0 x1 x2).core = x0.core := by
  intro x0 x1 x2
  simp only [State.stippleCheck, ↓core_mk, core_eta, core_ite, ite_self, advanceTo_core, pulseNext_core, stippleResult_core]

@[simp] theorem gridCheck_core : ∀ x0 x1, (State.gridCheck x0 x1).core = x0.core := by
  intro x0 x1
  simp only [State.gridCheck, core_ite, ite_self, stippleResult_core]

@[simp] theorem feedbackGrid_core : ∀ x0 x1, (State.feedbackGrid x0 x1).core = x0.core := by
  intro x0 x1
  simp only [State.feedbackGrid, core_ite, ite_self, implies_true, foldl_core, advanceTo_core, safeLevels_core, gridCheck_core]

@[simp] theorem gpioDrive_core : ∀ x0, (State.gpioDrive x0).core = x0.core := by
  intro x0
  simp only [State.gpioDrive, ↓core_mk, core_eta]

@[simp] theorem safeReset_core : ∀ x0, (State.safeReset x0).core = x0.core := by
  intro x0
  simp only [State.safeReset, ↓core_mk, core_eta]

@[simp] theorem forceWrite_core : ∀ x0 x1, (State.forceWrite x0 x1).core = x0.core := by
  intro x0 x1
  simp only [State.forceWrite, setPoint_core]

@[simp] theorem forceApply_core : ∀ x0 x1, (State.forceApply x0 x1).core = x0.core := by
  intro x0 x1
  simp only [State.forceApply, core_ite, ite_self, implies_true, foldl_core, forceWrite_core]

@[simp] theorem forceLeave_core : ∀ x0 x1, (State.forceLeave x0 x1).core = x0.core := by
  intro x0 x1
  simp only [State.forceLeave, ↓core_mk, core_eta, core_ite, ite_self, setPoint_core]

@[simp] theorem forceRemove_core : ∀ x0 x1, (State.forceRemove x0 x1).core = x0.core := by
  intro x0 x1
  simp only [State.forceRemove, forceLeave_core, setFlag_core]

@[simp] theorem forceClear_core : ∀ x0, (State.forceClear x0).core = x0.core := by
  intro x0
  simp only [State.forceClear, ↓core_mk, core_eta, implies_true, foldl_core, forceRemove_core]

@[simp] theorem forceReset_core : ∀ x0, (State.forceReset x0).core = x0.core := by
  intro x0
  simp only [State.forceReset, implies_true, foldl_core, forceRemove_core]

@[simp] theorem forceOrphan_core : ∀ x0 x1 x2, (State.forceOrphan x0 x1 x2).core = x0.core := by
  intro x0 x1 x2
  simp only [State.forceOrphan, setFlag_core, setPoint_core]

@[simp] theorem forceSwap_core : ∀ x0 x1 x2, (State.forceSwap x0 x1 x2).core = x0.core := by
  intro x0 x1 x2
  unfold State.forceSwap; (repeat' split) <;> simp only [raise_core, forceOrphan_core, setFlag_core, setPoint_core]

@[simp] theorem swapPoints_core : ∀ x0 x1 x2, (State.swapPoints x0 x1 x2).core = x0.core := by
  intro s old new
  unfold State.swapPoints
  dsimp only
  refine (foldl_core _ (fun u d => ?_) _ _).trans (foldl_core _ (fun u d => setPoint_core _ _ _) _ _)
  split
  · rfl
  · split
    · split
      · rfl
      · exact setPoint_core _ _ _
    · split
      · rfl
      · exact setPoint_core _ _ _

@[simp] theorem changePlate_core : ∀ x0 x1 x2 x3, (State.changePlate x0 x1 x2 x3).core = x0.core := by
  intro x0 x1 x2 x3
  unfold State.changePlate; (repeat' split) <;> simp only [↓core_mk, core_eta, implies_true, foldl_core, swapPoints_core, forceSwap_core, set_core]

@[simp] theorem doSwap_core : ∀ x0, (State.doSwap x0).core = x0.core := by
  intro x0
  unfold State.doSwap; (repeat' split) <;> simp only [↓core_mk, core_eta, changePlate_core, advance_core]

@[simp] theorem doRevert_core : ∀ x0, (State.doRevert x0).core = x0.core := by
  intro x0
  unfold State.doRevert; (repeat' split) <;> simp only [↓core_mk, core_eta, changePlate_core, advance_core]

@[simp] theorem swapCancelled_core : ∀ x0, (State.swapCancelled x0).core = x0.core := by
  intro x0
  simp only [State.swapCancelled, ↓core_mk, core_eta, core_ite, ite_self, set_core]

@[simp] theorem swapDue_core : ∀ x0, (State.swapDue x0).core = x0.core := by
  intro x0
  simp only [State.swapDue, core_ite, ite_self, doSwap_core, swapCancelled_core]

@[simp] theorem revertDue_core : ∀ x0, (State.revertDue x0).core = x0.core := by
  intro x0
  simp only [State.revertDue, core_ite, ite_self, doRevert_core]

@[simp] theorem emptySlot_core : ∀ x0 x1, (State.emptySlot x0 x1).core = x0.core := by
  intro x0 x1
  simp only [State.emptySlot, ↓core_mk, core_eta, setSlot_core, set_core, setFlag_core]

@[simp] theorem plateLoad_core : ∀ x0, (State.plateLoad x0).2.core = x0.core := by
  intro x0
  simp only [State.plateLoad, core_ite, snd_ite, ite_self, emptySlot_core]

@[simp] theorem plateVerify_core : ∀ x0, (State.plateVerify x0).2.core = x0.core := by
  intro x0
  simp only [State.plateVerify, ↓core_mk, core_eta, core_ite, snd_ite, ite_self, set_core]

@[simp] theorem plateArm_core : ∀ x0, (State.plateArm x0).2.core = x0.core := by
  intro x0
  unfold State.plateArm; (repeat' split) <;> simp only [↓core_mk, core_eta, set_core]

@[simp] theorem plateRevert_core : ∀ x0, (State.plateRevert x0).2.core = x0.core := by
  intro x0
  simp only [State.plateRevert, ↓core_mk, core_eta, core_ite, snd_ite, ite_self]

@[simp] theorem plateCommit_core : ∀ x0, (State.plateCommit x0).2.core = x0.core := by
  intro x0
  simp only [State.plateCommit, ↓core_mk, core_eta, core_ite, snd_ite, ite_self, set_core]

@[simp] theorem plateAbort_core : ∀ x0, (State.plateAbort x0).2.core = x0.core := by
  intro x0
  simp only [State.plateAbort, ↓core_mk, core_eta, core_ite, snd_ite, ite_self, emptySlot_core]

@[simp] theorem plateInstall_core : ∀ x0, (State.plateInstall x0).2.core = x0.core := by
  intro x0
  unfold State.plateInstall; (repeat' split) <;> simp only [↓core_mk, core_eta, set_core]

@[simp] theorem plateCmd_core : ∀ x0 x1, (State.plateCmd x0 x1).2.core = x0.core := by
  intro x0 x1
  unfold State.plateCmd; (repeat' split) <;> simp only [plateLoad_core, plateVerify_core, plateArm_core, plateRevert_core, plateCommit_core, plateAbort_core, plateInstall_core, set_core]

@[simp] theorem plateWindow_core : ∀ x0 x1 x2, (State.plateWindow x0 x1 x2).2.core = x0.core := by
  intro x0 x1 x2
  simp only [State.plateWindow, ↓core_mk, core_eta, core_ite, snd_ite, ite_self]

@[simp] theorem plateVerifyDone_core : ∀ x0 x1 x2, (State.plateVerifyDone x0 x1 x2).core = x0.core := by
  intro x0 x1 x2
  simp only [State.plateVerifyDone, ↓core_mk, core_eta, core_ite, ite_self, set_core, setFlag_core, setSlot_core, verifyEvents_core, emptySlot_core]

@[simp] theorem setNvPlate_core : ∀ x0 x1 x2, (State.setNvPlate x0 x1 x2).core = x0.core := by
  intro x0 x1 x2
  simp only [State.setNvPlate, ↓core_mk, core_eta]

@[simp] theorem plateCommitDone_core : ∀ x0, (State.plateCommitDone x0).core = x0.core := by
  intro x0
  simp only [State.plateCommitDone, ↓core_mk, core_eta, core_ite, ite_self, setNvPlate_core, emptySlot_core, raise_core, set_core]

@[simp] theorem plateInstallDone_core : ∀ x0, (State.plateInstallDone x0).core = x0.core := by
  intro x0
  simp only [State.plateInstallDone, ↓core_mk, core_eta, core_ite, ite_self, setNvPlate_core, set_core]

@[simp] theorem armApply_core : ∀ x0, (State.armApply x0).core = x0.core := by
  intro x0
  simp only [State.armApply, ↓core_mk, core_eta, set_core]

@[simp] theorem revertApply_core : ∀ x0, (State.revertApply x0).core = x0.core := by
  intro x0
  simp only [State.revertApply, ↓core_mk, core_eta, set_core]

@[simp] theorem plateBoundary_core : ∀ x0, (State.plateBoundary x0).core = x0.core := by
  intro x0
  unfold State.plateBoundary; dsimp only; (repeat' split) <;> simp only [↓core_mk, core_eta, armApply_core, revertApply_core]

@[simp] theorem plateRecords_core : ∀ x0, (State.plateRecords x0).2.core = x0.core := by
  intro x0
  simp only [State.plateRecords, ↓core_mk, core_eta, core_ite, snd_ite, ite_self, raise_core, set_core]

@[simp] theorem sendLink_core : ∀ x0 x1 x2, (State.sendLink x0 x1 x2).core = x0.core := by
  intro x0 x1 x2
  simp only [State.sendLink, ↓core_mk, core_eta, core_ite, ite_self]

@[simp] theorem isolate_core : ∀ x0, (State.isolate x0).core = x0.core := by
  intro x0
  simp only [State.isolate, ↓core_mk, core_eta, set_core]

@[simp] theorem unitClash_core : ∀ x0, (State.unitClash x0).core = x0.core := by
  intro x0
  simp only [State.unitClash, core_ite, ite_self, claimUpdate_core, raise_core, isolate_core, setFlag_core]

@[simp] theorem notePartner_core : ∀ x0 x1, (State.notePartner x0 x1).core = x0.core := by
  intro x0 x1
  simp only [State.notePartner, ↓core_mk, core_eta]

@[simp] theorem partnerLost_core : ∀ x0 x1, (State.partnerLost x0 x1).core = x0.core := by
  intro x0 x1
  unfold State.partnerLost; (repeat' split) <;> simp only [↓core_mk, core_eta, healthCheck_core, raise_core]

@[simp] theorem partnersCheck_core : ∀ x0, (State.partnersCheck x0).core = x0.core := by
  intro x0
  simp only [State.partnersCheck, implies_true, foldl_core, partnerLost_core]

@[simp] theorem activeClaim_core : ∀ x0 x1, (State.activeClaim x0 x1).core = x0.core := by
  intro x0 x1
  simp only [State.activeClaim, ↓core_mk, core_eta, core_ite, ite_self, set_core]

@[simp] theorem noteRelease_core : ∀ x0 x1 x2, (State.noteRelease x0 x1 x2).core = x0.core := by
  intro x0 x1 x2
  simp only [State.noteRelease, ↓core_mk, core_eta, core_ite, ite_self]

@[simp] theorem noteClaim_core : ∀ x0 x1 x2, (State.noteClaim x0 x1 x2).core = x0.core := by
  intro x0 x1 x2
  simp only [State.noteClaim, ↓core_mk, core_eta, core_ite, ite_self, noteRelease_core, activeClaim_core]

@[simp] theorem sendCut_core : ∀ x0 x1 x2, (State.sendCut x0 x1 x2).core = x0.core := by
  intro x0 x1 x2
  simp only [State.sendCut, implies_true, foldl_core, sendLink_core]

@[simp] theorem sendProof_core : ∀ x0 x1 x2 x3, (State.sendProof x0 x1 x2 x3).core = x0.core := by
  intro x0 x1 x2 x3
  simp only [State.sendProof, sendCut_core]

@[simp] theorem proofBytes_core : ∀ x0 x1, (State.proofBytes x0 x1).core = x0.core := by
  intro x0 x1
  simp only [State.proofBytes, ↓core_mk, core_eta, sample_core, set_core]

@[simp] theorem sendSegment_core : ∀ x0, (State.sendSegment x0).core = x0.core := by
  intro x0
  simp only [State.sendSegment, ↓core_mk, core_eta, sendCut_core]

@[simp] theorem admitBegin_core : ∀ x0, (State.admitBegin x0).core = x0.core := by
  intro x0
  unfold State.admitBegin; (repeat' split) <;> simp only [↓core_mk, core_eta]

@[simp] theorem admitWatch_core : ∀ x0, (State.admitWatch x0).core = x0.core := by
  intro x0
  simp only [State.admitWatch, ↓core_mk, core_eta, core_ite, ite_self]

@[simp] theorem proofSend_core : ∀ x0 x1 x2, (State.proofSend x0 x1 x2).core = x0.core := by
  intro x0 x1 x2
  unfold State.proofSend; dsimp only; (repeat' split) <;> simp only [↓core_mk, core_eta, proofBytes_core, admitBegin_core, admitWatch_core, sendProof_core, sendSegment_core, sendLink_core]

@[simp] theorem forwardSend_core : ∀ x0, (State.forwardSend x0).core = x0.core := by
  intro x0
  simp only [State.forwardSend, ↓core_mk, core_eta, core_ite, ite_self, sendCut_core]

@[simp] theorem digestAnswer_core : ∀ x0 x1 x2, (State.digestAnswer x0 x1 x2).core = x0.core := by
  intro x0 x1 x2
  simp only [State.digestAnswer, ↓core_mk, core_eta, core_ite, ite_self, raise_core]

@[simp] theorem unsync_core : ∀ x0, (State.unsync x0).core = x0.core := by
  intro x0
  simp only [State.unsync, ↓core_mk, core_eta, healthCheck_core, set_core]

@[simp] theorem plateDiff_core : ∀ x0, (State.plateDiff x0).core = x0.core := by
  intro x0
  simp only [State.plateDiff, core_ite, ite_self, raise_core, unsync_core, setFlag_core]

@[simp] theorem seekAdmission_core : ∀ x0 x1, (State.seekAdmission x0 x1).core = x0.core := by
  intro x0 x1
  simp only [State.seekAdmission, ↓core_mk, core_eta, core_ite, ite_self, set_core]

@[simp] theorem plateMessage_core : ∀ x0 x1 x2, (State.plateMessage x0 x1 x2).core = x0.core := by
  intro s n r
  cases r with
  | swapAnnounce id c =>
    unfold State.plateMessage
    dsimp only
    split
    · rw [sendLink_core, set_core, set_core, core_mk, core_eta]
    · rw [sendLink_core, raise_core]
  | swapConfirm => unfold State.plateMessage; dsimp only; split <;> rfl
  | swapCancel => exact swapCancelled_core _
  | revert =>
    unfold State.plateMessage; dsimp only; split
    · rw [set_core, core_mk, core_eta]
    · rfl
  | _ => rfl

@[simp] theorem proofFrame_core : ∀ x0 x1 x2 x3 x4, (State.proofFrame x0 x1 x2 x3 x4).core = x0.core := by
  intro x0 x1 x2 x3 x4
  simp only [State.proofFrame, ↓core_mk, core_eta, core_ite, ite_self, implies_true, foldl_core, plateDiff_core, plateMessage_core, setFlag_core]

@[simp] theorem forwardFrame_core : ∀ x0 x1 x2, (State.forwardFrame x0 x1 x2).core = x0.core := by
  intro x0 x1 x2
  unfold State.forwardFrame; (repeat' split) <;> simp only [↓core_mk, core_eta]

@[simp] theorem obsFrame_core : ∀ x0 x1 x2, (State.obsFrame x0 x1 x2).core = x0.core := by
  intro x0 x1 x2
  simp only [State.obsFrame, ↓core_mk, core_eta, core_ite, ite_self]

@[simp] theorem warmFrame_core : ∀ x0 x1 x2, (State.warmFrame x0 x1 x2).core = x0.core := by
  intro x0 x1 x2
  simp only [State.warmFrame, ↓core_mk, core_eta, core_ite, ite_self]

@[simp] theorem frameBody_core : ∀ x0 x1, (State.frameBody x0 x1).core = x0.core := by
  intro x0 x1
  unfold State.frameBody; (repeat' split) <;> simp only [↓core_mk, core_eta, proofFrame_core, forwardFrame_core, digestAnswer_core, obsFrame_core, warmFrame_core]

@[simp] theorem noteSeen_core : ∀ x0 x1, (State.noteSeen x0 x1).core = x0.core := by
  intro x0 x1
  simp only [State.noteSeen, ↓core_mk, core_eta]

@[simp] theorem relay_core : ∀ x0 x1, (State.relay x0 x1).core = x0.core := by
  intro x0 x1
  simp only [State.relay, ↓core_mk, core_eta]

@[simp] theorem plateSame_core : ∀ x0 x1, (State.plateSame x0 x1).core = x0.core := by
  intro x0 x1
  simp only [State.plateSame, core_ite, ite_self, setFlag_core]

@[simp] theorem takeFrame_core : ∀ x0 x1, (State.takeFrame x0 x1).core = x0.core := by
  intro x0 x1
  simp only [State.takeFrame, core_ite, ite_self, relay_core, notePartner_core, noteSeen_core, noteClaim_core, plateSame_core, setFlag_core, healthCheck_core, seekAdmission_core, frameBody_core]

@[simp] theorem proofLinkRx_core : ∀ x0 x1, (State.proofLinkRx x0 x1).core = x0.core := by
  intro x0 x1
  simp only [State.proofLinkRx, core_ite, ite_self, unitClash_core, takeFrame_core]

@[simp] theorem applyLoop_core : ∀ x0 x1 x2 x3 x4, (State.applyLoop x0 x1 x2 x3 x4).core = x0.core := by
  intro x0 x1 x2 x3 x4
  simp only [State.applyLoop, setLoop_core, loopPoints_core]

@[simp] theorem applyForce_core : ∀ x0 x1 x2 x3 x4 x5 x6, (State.applyForce x0 x1 x2 x3 x4 x5 x6).core = x0.core := by
  intro x0 x1 x2 x3 x4 x5 x6
  simp only [State.applyForce, core_ite, ite_self, forceRemove_core, setFlag_core, setPoint_core, set_core]

@[simp] theorem applyRecord_core : ∀ x0 x1, (State.applyRecord x0 x1).core = x0.core := by
  intro x0 x1
  unfold State.applyRecord; (repeat' split) <;> simp only [↓core_mk, core_eta, setPoint_core, applyLoop_core, applyForce_core, forceReset_core]

@[simp] theorem undoOwn_core : ∀ x0 x1, (State.undoOwn x0 x1).core = x0.core := by
  intro x0 x1
  simp only [State.undoOwn, ↓core_mk, core_eta, implies_true, foldl_core, setPoint_core]

@[simp] theorem applyMarks_core : ∀ x0 x1, (State.applyMarks x0 x1).core = x0.core := by
  intro x0 x1
  simp only [State.applyMarks, ↓core_mk, core_eta, core_ite, ite_self, set_core, healthCheck_core, raise_core]

@[simp] theorem missProof_core : ∀ x0, (State.missProof x0).core = x0.core := by
  intro x0
  simp only [State.missProof, ↓core_mk, core_eta, core_ite, ite_self, setFlag_core, raise_core, unsync_core]

@[simp] theorem mismatch_core : ∀ x0, (State.mismatch x0).core = x0.core := by
  intro x0
  simp only [State.mismatch, ↓core_mk, core_eta, core_ite, ite_self, unsync_core, raise_core, claimUpdate_core, isolate_core]

@[simp] theorem lockstepAnswer_core : ∀ x0, (State.lockstepAnswer x0).core = x0.core := by
  intro x0
  unfold State.lockstepAnswer; (repeat' split) <;> simp only [↓core_mk, core_eta, core_ite, ite_self, sendLink_core, mismatch_core]

@[simp] theorem redFreeze_core : ∀ x0 x1, (State.redFreeze x0 x1).core = x0.core := by
  intro x0 x1
  simp only [State.redFreeze, ↓core_mk, core_eta, core_ite, ite_self, plateRecords_core, proofSend_core, lockstepAnswer_core]

@[simp] theorem sendObsPart_core : ∀ x0, (State.sendObsPart x0).core = x0.core := by
  intro x0
  simp only [State.sendObsPart, core_ite, ite_self, sendLink_core]

@[simp] theorem sendWarmPart_core : ∀ x0, (State.sendWarmPart x0).core = x0.core := by
  intro x0
  simp only [State.sendWarmPart, core_ite, ite_self, sendLink_core]

@[simp] theorem takeObsState_core : ∀ x0 x1, (State.takeObsState x0 x1).core = x0.core := by
  intro x0 x1
  simp only [State.takeObsState, ↓core_mk, core_eta, core_ite, ite_self, set_core]

@[simp] theorem takeObsPart_core : ∀ x0, (State.takeObsPart x0).core = x0.core := by
  intro x0
  simp only [State.takeObsPart, ↓core_mk, core_eta, implies_true, foldl_core, takeObsState_core, applyLoop_core]

@[simp] theorem takeWarmPart_core : ∀ x0, (State.takeWarmPart x0).core = x0.core := by
  intro x0
  simp only [State.takeWarmPart, implies_true, foldl_core, setSlotRun_core]

@[simp] theorem holdStream_core : ∀ x0, (State.holdStream x0).core = x0.core := by
  intro x0
  simp only [State.holdStream, ↓core_mk, core_eta, core_ite, ite_self, takeObsPart_core, raise_core, takeWarmPart_core]

@[simp] theorem takeActive_core : ∀ x0 x1 x2 x3, (State.takeActive x0 x1 x2 x3).core = x0.core := by
  intro x0 x1 x2 x3
  simp only [State.takeActive, ↓core_mk, core_eta, core_ite, ite_self, set_core, swapCancelled_core, safeRefresh_core, raise_core]

@[simp] theorem takeoverAt_core : ∀ x0 x1, (State.takeoverAt x0 x1).core = x0.core := by
  intro x0 x1
  simp only [State.takeoverAt, core_ite, ite_self, takeActive_core]

@[simp] theorem takeoverByEchoAt_core : ∀ x0 x1, (State.takeoverByEchoAt x0 x1).core = x0.core := by
  intro x0 x1
  simp only [State.takeoverByEchoAt, core_ite, ite_self, takeActive_core]

@[simp] theorem takeoverByBeatAt_core : ∀ x0 x1, (State.takeoverByBeatAt x0 x1).core = x0.core := by
  intro x0 x1
  simp only [State.takeoverByBeatAt, core_ite, ite_self, takeActive_core]

@[simp] theorem yieldAt_core : ∀ x0, (State.yieldAt x0).core = x0.core := by
  intro x0
  unfold State.yieldAt; (repeat' split) <;> simp only [↓core_mk, core_eta, set_core, safeRefresh_core, raise_core, setFlag_core]

@[simp] theorem releaseAt_core : ∀ x0 x1, (State.releaseAt x0 x1).core = x0.core := by
  intro x0 x1
  unfold State.releaseAt; (repeat' split) <;> simp only [↓core_mk, core_eta, safeRefresh_core, set_core]

@[simp] theorem rolesAt_core : ∀ x0 x1, (State.rolesAt x0 x1).core = x0.core := by
  intro x0 x1
  simp only [State.rolesAt, takeoverByBeatAt_core, takeoverByEchoAt_core, takeoverAt_core, yieldAt_core, releaseAt_core]

theorem roleRow_core (s : State) (d : Bool) (f : State → State) (h : ∀ t, (f t).core = t.core) : (s.roleRow d f).core = s.core := by
  unfold State.roleRow
  split
  · rw [h, advanceTo_core]
  · rfl

@[simp] theorem releaseTakeEffect_core : ∀ x0, (State.releaseTakeEffect x0).core = x0.core := by
  intro x0
  simp only [State.releaseTakeEffect, implies_true, roleRow_core, releaseAt_core]

@[simp] theorem takeover_core : ∀ x0, (State.takeover x0).core = x0.core := by
  intro x0
  simp only [State.takeover, implies_true, roleRow_core, takeActive_core]

@[simp] theorem takeoverByEcho_core : ∀ x0, (State.takeoverByEcho x0).core = x0.core := by
  intro x0
  simp only [State.takeoverByEcho, implies_true, roleRow_core, takeoverByEchoAt_core]

@[simp] theorem activeYield_core : ∀ x0, (State.activeYield x0).core = x0.core := by
  intro x0
  simp only [State.activeYield, implies_true, roleRow_core, yieldAt_core]

@[simp] theorem echoCheck_core : ∀ x0, (State.echoCheck x0).core = x0.core := by
  intro x0
  unfold State.echoCheck; (repeat' split) <;> simp only [↓core_mk, core_eta]

@[simp] theorem beatMiss_core : ∀ x0 x1 x2, (State.beatMiss x0 x1 x2).core = x0.core := by
  intro x0 x1 x2
  simp only [State.beatMiss, ↓core_mk, core_eta, core_ite, ite_self, raise_core]

@[simp] theorem beatClose_core : ∀ x0, (State.beatClose x0).core = x0.core := by
  intro x0
  simp only [State.beatClose, core_ite, ite_self, beatMiss_core]

@[simp] theorem heartbeatMiss_core : ∀ x0 x1 x2, (State.heartbeatMiss x0 x1 x2).core = x0.core := by
  intro x0 x1 x2
  simp only [State.heartbeatMiss, core_ite, ite_self, beatMiss_core]

@[simp] theorem redClose_core : ∀ x0, (State.redClose x0).core = x0.core := by
  intro x0
  simp only [State.redClose, core_ite, ite_self, forwardSend_core, beatClose_core, echoCheck_core]

@[simp] theorem redBoundary_core : ∀ x0, (State.redBoundary x0).core = x0.core := by
  intro x0
  simp only [State.redBoundary, ↓core_mk, core_eta, core_ite, ite_self, unitClash_core, sendClaim_core, releaseDecide_core, partnersCheck_core, safeRefresh_core, set_core]

@[simp] theorem redRelease_core : ∀ x0, (State.redRelease x0).2.core = x0.core := by
  intro x0
  simp only [State.redRelease, core_ite, snd_ite, ite_self, release_core]

@[simp] theorem redJoin_core : ∀ x0, (State.redJoin x0).2.core = x0.core := by
  intro x0
  simp only [State.redJoin, ↓core_mk, core_eta, core_ite, snd_ite, ite_self, claimUpdate_core, set_core]

@[simp] theorem redProofTest_core : ∀ x0, (State.redProofTest x0).2.core = x0.core := by
  intro x0
  unfold State.redProofTest; (repeat' split) <;> simp only [↓core_mk, core_eta]

@[simp] theorem redIsolate_core : ∀ x0, (State.redIsolate x0).2.core = x0.core := by
  intro x0
  simp only [State.redIsolate, core_ite, snd_ite, ite_self, claimUpdate_core, isolate_core]

@[simp] theorem redCmd_core : ∀ x0 x1, (State.redCmd x0 x1).2.core = x0.core := by
  intro x0 x1
  simp only [State.redCmd, core_ite, snd_ite, fst_ite, ite_self, redRelease_core, redJoin_core, redProofTest_core, redIsolate_core]

@[simp] theorem laneDown_core : ∀ x0 x1, (State.laneDown x0 x1).core = x0.core := by
  intro x0 x1
  simp only [State.laneDown, core_ite, ite_self, healthCheck_core, set_core]

@[simp] theorem laneComesUp_core : ∀ x0 x1, (State.laneComesUp x0 x1).core = x0.core := by
  intro x0 x1
  simp only [State.laneComesUp, core_ite, ite_self, healthCheck_core, set_core]

@[simp] theorem memoryError_core : ∀ x0, (State.memoryError x0).core = x0.core := by
  intro x0
  simp only [State.memoryError, ↓core_mk, core_eta, healthCheck_core]

@[simp] theorem handshakeLost_core : ∀ x0, (State.handshakeLost x0).core = x0.core := by
  intro x0
  simp only [State.handshakeLost, ↓core_mk, core_eta, healthCheck_core]

@[simp] theorem redPoints_core : ∀ x0, (State.redPoints x0).core = x0.core := by
  intro x0
  simp only [State.redPoints, putAll_core]

end Sys2Proof.Laws
end

