-- ==== Sys2Proof/Laws/FrameHost.lean ====
section
/-! SUPPORT. What the operations leave alone, first said once for each: queue, variant, grade, fuse bank, mode, phase and cycle count
(`State.core`). This file: the power, reset, boot, capture, host access and cycle operations. -/

set_option linter.all false

namespace Sys2Proof.Laws
open Sys2Proof.Machine

@[simp] theorem redRestart_core : ∀ x0, (State.redRestart x0).core = x0.core := by
  intro x0
  simp only [State.redRestart, ↓core_mk, core_eta, core_ite, ite_self, unsync_core]

@[simp] theorem mirrorStart_core : ∀ x0, (State.mirrorStart x0).core = x0.core := by
  intro x0
  simp only [State.mirrorStart, ↓core_mk, core_eta]

@[simp] theorem mirrorTake_core : ∀ x0, (State.mirrorTake x0).core = x0.core := by
  intro x0
  simp only [State.mirrorTake, ↓core_mk, core_eta, core_ite, ite_self, raise_core, setFlag_core, mirrorStart_core]

@[simp] theorem mirrorForce_core : ∀ x0, (State.mirrorForce x0).core = x0.core := by
  intro x0
  simp only [State.mirrorForce, ↓core_mk, core_eta, mirrorStart_core]

@[simp] theorem mirrorInstant_core : ∀ x0 x1, (State.mirrorInstant x0 x1).core = x0.core := by
  intro x0 x1
  simp only [State.mirrorInstant, ↓core_mk, core_eta, core_ite, ite_self, mirrorForce_core, mirrorTake_core]

@[simp] theorem mirrorDone_core : ∀ x0, (State.mirrorDone x0).core = x0.core := by
  intro x0
  unfold State.mirrorDone; (repeat' split) <;> simp only [↓core_mk, core_eta, core_ite, ite_self, mirrorStart_core]

@[simp] theorem mirrorNow_core : ∀ x0, (State.mirrorNow x0).core = x0.core := by
  intro x0
  simp only [State.mirrorNow, ↓core_mk, core_eta, mirrorDone_core, mirrorStart_core]

@[simp] theorem vinCompare_core : ∀ x0 x1, (State.vinCompare x0 x1).core = x0.core := by
  intro x0 x1
  simp only [State.vinCompare, ↓core_mk, core_eta]

@[simp] theorem vinSample_core : ∀ x0 x1, (State.vinSample x0 x1).core = x0.core := by
  intro x0 x1
  simp only [State.vinSample, ↓core_mk, core_eta, core_ite, ite_self, set_core, sample_core, vinCompare_core]

@[simp] theorem dipState_core : ∀ x0, (State.dipState x0).core = x0.core := by
  intro x0
  simp only [State.dipState, ↓core_mk, core_eta, core_ite, ite_self, raise_core, setFlag_core, mirrorForce_core]

@[simp] theorem heldFor_core : ∀ x0 x1 x2, (State.heldFor x0 x1 x2).core = x0.core := by
  intro x0 x1 x2
  unfold State.heldFor; (repeat' split) <;> simp only [waitUntil_core]

@[simp] theorem dipEnter_core : ∀ x0, (State.dipEnter x0).core = x0.core := by
  intro x0
  simp only [State.dipEnter, ↓core_mk, core_eta, core_ite, ite_self, heldFor_core, dipState_core]

@[simp] theorem dipExit_core : ∀ x0, (State.dipExit x0).core = x0.core := by
  intro x0
  simp only [State.dipExit, ↓core_mk, core_eta, core_ite, ite_self, heldFor_core, setFlag_core, set_core, healthCheck_core, calSaveResume_core, raiseWith_core, mergePending_core]

@[simp] theorem uvSustained_core : ∀ x0, (State.uvSustained x0).core = x0.core := by
  intro x0
  simp only [State.uvSustained, core_ite, ite_self, waitUntil_core, healthCheck_core, raise_core, setFlag_core]

@[simp] theorem vioALow_core : ∀ x0, (State.vioALow x0).core = x0.core := by
  intro x0
  simp only [State.vioALow, ↓core_mk, core_eta, core_ite, ite_self, raise_core, setFlag_core, safeRefresh_core, tripAll_core, gpioFloat_core]

@[simp] theorem vioBLow_core : ∀ x0, (State.vioBLow x0).core = x0.core := by
  intro x0
  simp only [State.vioBLow, core_ite, ite_self, raise_core, setFlag_core]

@[simp] theorem vioRecover_core : ∀ x0 x1, (State.vioRecover x0 x1).core = x0.core := by
  intro x0 x1
  simp only [State.vioRecover, core_ite, ite_self, setFlag_core, safeRefresh_core]

@[simp] theorem vcoreStep_core : ∀ x0, (State.vcoreStep x0).core = x0.core := by
  intro x0
  simp only [State.vcoreStep, ↓core_mk, core_eta, core_ite, ite_self, setFlag_core, set_core]

@[simp] theorem paceLowCheck_core : ∀ x0, (State.paceLowCheck x0).core = x0.core := by
  intro x0
  simp only [State.paceLowCheck, core_ite, ite_self, raise_core, setFlag_core]

@[simp] theorem paceWatch_core : ∀ x0, (State.paceWatch x0).core = x0.core := by
  intro x0
  simp only [State.paceWatch, ↓core_mk, core_eta, healthCheck_core]

@[simp] theorem paceSet_core : ∀ x0 x1, (State.paceSet x0 x1).core = x0.core := by
  intro x0 x1
  simp only [State.paceSet, vcoreStep_core, set_core, sample_core, paceWatch_core, paceLowCheck_core]

@[simp] theorem paceUpdate_core : ∀ x0 x1, (State.paceUpdate x0 x1).core = x0.core := by
  intro x0 x1
  unfold State.paceUpdate; (repeat' split) <;> simp only [↓core_mk, core_eta, waitUntil_core, paceSet_core]

@[simp] theorem paceHealthLoss_core : ∀ x0, (State.paceHealthLoss x0).core = x0.core := by
  intro x0
  unfold State.paceHealthLoss; (repeat' split) <;> simp only [↓core_mk, core_eta, waitUntil_core, healthCheck_core]

@[simp] theorem tempCount_core : ∀ x0 x1, (State.tempCount x0 x1).core = x0.core := by
  intro x0 x1
  simp only [State.tempCount, ↓core_mk, core_eta, core_ite, ite_self]

@[simp] theorem overtempEnd_core : ∀ x0, (State.overtempEnd x0).core = x0.core := by
  intro x0
  simp only [State.overtempEnd, healthCheck_core, raise_core, setFlag_core]

@[simp] theorem overtempCheck_core : ∀ x0, (State.overtempCheck x0).core = x0.core := by
  intro x0
  unfold State.overtempCheck; (repeat' split) <;> simp only [overtempEnd_core, healthCheck_core, raise_core, setFlag_core]

@[simp] theorem tempSample_core : ∀ x0 x1 x2, (State.tempSample x0 x1 x2).core = x0.core := by
  intro x0 x1 x2
  simp only [State.tempSample, core_ite, ite_self, set_core, overtempCheck_core, tempCount_core, sample_core]

@[simp] theorem overtempClear_core : ∀ x0, (State.overtempClear x0).core = x0.core := by
  intro x0
  unfold State.overtempClear; (repeat' split) <;> simp only [overtempEnd_core, waitUntil_core]

@[simp] theorem pwrCmd_core : ∀ x0 x1, (State.pwrCmd x0 x1).2.core = x0.core := by
  intro x0 x1
  simp only [State.pwrCmd, ↓core_mk, core_eta, core_ite, snd_ite, ite_self]

@[simp] theorem tasksOff_core : ∀ x0, (State.tasksOff x0).core = x0.core := by
  intro x0
  simp only [State.tasksOff, ↓core_mk, core_eta]

@[simp] theorem lifetimeWrite_core : ∀ x0, (State.lifetimeWrite x0).core = x0.core := by
  intro x0
  simp only [State.lifetimeWrite, ↓core_mk, core_eta, writeLifetime_core]

@[simp] theorem sleepBegin_core : ∀ x0, (State.sleepBegin x0).core = x0.core := by
  intro x0
  simp only [State.sleepBegin, ↓core_mk, core_eta, core_ite, ite_self, mirrorTake_core, lifetimeWrite_core]

@[simp] theorem caseOpen_core : ∀ x0, (State.caseOpen x0).core = x0.core := by
  intro x0
  simp only [State.caseOpen, ↓core_mk, core_eta, core_ite, ite_self, raise_core]

@[simp] theorem vbatLow_core : ∀ x0, (State.vbatLow x0).core = x0.core := by
  intro x0
  simp only [State.vbatLow, ↓core_mk, core_eta, core_ite, ite_self, raise_core]

@[simp] theorem keeperLost_core : ∀ x0, (State.keeperLost x0).core = x0.core := by
  intro x0
  simp only [State.keeperLost, ↓core_mk, core_eta, core_ite, ite_self]

@[simp] theorem keeperStart_core : ∀ x0, (State.keeperStart x0).core = x0.core := by
  intro x0
  simp only [State.keeperStart, ↓core_mk, core_eta, core_ite, ite_self]

@[simp] theorem lifetimeMirror_core : ∀ x0, (State.lifetimeMirror x0).core = x0.core := by
  intro x0
  simp only [State.lifetimeMirror, core_ite, ite_self, lifetimeWrite_core]

@[simp] theorem poweredSecond_core : ∀ x0, (State.poweredSecond x0).core = x0.core := by
  intro x0
  simp only [State.poweredSecond, ↓core_mk, core_eta, core_ite, ite_self]

@[simp] theorem calBaseUpdate_core : ∀ x0, (State.calBaseUpdate x0).core = x0.core := by
  intro x0
  simp only [State.calBaseUpdate, ↓core_mk, core_eta, core_ite, ite_self]

@[simp] theorem powerPoints_core : ∀ x0, (State.powerPoints x0).core = x0.core := by
  intro x0
  simp only [State.powerPoints, putAll_core]

@[simp] theorem reloadSettings_core : ∀ x0, (State.reloadSettings x0).core = x0.core := by
  intro x0
  simp only [State.reloadSettings, ↓core_mk, core_eta]

@[simp] theorem wakeCfg_core : ∀ x0 x1, (State.wakeCfg x0 x1).core = x0.core := by
  intro x0 x1
  simp only [State.wakeCfg, ↓core_mk, core_eta]

@[simp] theorem wakeFromImage_core : ∀ x0, (State.wakeFromImage x0).core = x0.core := by
  intro x0
  simp only [State.wakeFromImage, core_ite, ite_self, set_core, wakeCfg_core]

@[simp] theorem bootActivated_core : ∀ x0, (State.bootActivated x0).core = x0.core := by
  intro x0
  unfold State.bootActivated; (repeat' split) <;> simp only [↓core_mk, core_eta, set_core, setFlag_core]

@[simp] theorem txnDiscard_core : ∀ x0, (State.txnDiscard x0).core = x0.core := by
  intro x0
  simp only [State.txnDiscard, ↓core_mk, core_eta, core_ite, ite_self]

@[simp] theorem installRestart_core : ∀ x0, (State.installRestart x0).core = x0.core := by
  intro x0
  simp only [State.installRestart, set_core, setFlag_core, emptySlot_core]

@[simp] theorem provisionalDrop_core : ∀ x0, (State.provisionalDrop x0).core = x0.core := by
  intro x0
  simp only [State.provisionalDrop, ↓core_mk, core_eta, set_core, setFlag_core, raise_core]

@[simp] theorem plateRestart_core : ∀ x0 x1, (State.plateRestart x0 x1).core = x0.core := by
  intro x0 x1
  simp only [State.plateRestart, core_ite, ite_self, swapCancelled_core, installRestart_core, provisionalDrop_core]

@[simp] theorem forceKeep_core (b s : State) (e : Nat) : (State.forceKeep b s e).core = s.core := rfl

@[simp] theorem pointsRestart_core (s : State) (c : Bool) : (s.pointsRestart c).core = s.core := by
  unfold State.pointsRestart
  exact (foldl_core _ (fun u e => forceKeep_core _ _ _) _ _).trans rfl

@[simp] theorem pumpRestart_core : ∀ x0 x1, (State.pumpRestart x0 x1).core = x0.core := by
  intro x0 x1
  simp only [State.pumpRestart, ↓core_mk, core_eta, setFlag_core, set_core]

@[simp] theorem obsRestart_core : ∀ x0 x1, (State.obsRestart x0 x1).core = x0.core := by
  intro x0 x1
  unfold State.obsRestart; (repeat' split) <;> simp only [↓core_mk, core_eta, set_core, obsInit_core]

@[simp] theorem coldReload_core : ∀ x0, (State.coldReload x0).core = x0.core := by
  intro x0
  simp only [State.coldReload, ↓core_mk, core_eta, capClear_core, mergePending_core, wakeFromImage_core, reloadSettings_core, bootActivated_core, forceReset_core]

@[simp] theorem blocksRestart_core : ∀ x0, (State.blocksRestart x0).core = x0.core := by
  intro x0
  simp only [State.blocksRestart, ↓core_mk, core_eta, redRestart_core, stnRestart_core, solvRestart_core, allocRestart_core]

@[simp] theorem restartCmd_core : ∀ x0 x1, (State.restartCmd x0 x1).2.core = x0.core := by
  intro x0 x1
  simp only [State.restartCmd, ↓core_mk, core_eta, core_ite, snd_ite, ite_self]

@[simp] theorem keepClear_core : ∀ x0 x1, (State.keepClear x0 x1).core = x0.core := by
  intro x0 x1
  simp only [State.keepClear, ↓core_mk, core_eta]

@[simp] theorem keepComplete_core : ∀ x0, (State.keepComplete x0).core = x0.core := by
  intro x0
  unfold State.keepComplete; dsimp only; (repeat' split) <;> simp only [wakeCfg_core, keepClear_core]

@[simp] theorem keepCut_core : ∀ x0, (State.keepCut x0).core = x0.core := by
  intro x0
  simp only [State.keepCut, ↓core_mk, core_eta, core_ite, ite_self, draw_core, keepComplete_core]

@[simp] theorem slotFields_core : ∀ x0 x1, (State.slotFields x0 x1).core = x0.core := by
  intro x0 x1
  simp only [State.slotFields, core_ite, ite_self, set_core]

@[simp] theorem fatalCount_core : ∀ x0, (State.fatalCount x0).core = x0.core := by
  intro x0
  simp only [State.fatalCount, core_ite, ite_self, set_core]

@[simp] theorem absorb_core : ∀ x0 x1, (State.absorb x0 x1).core = x0.core := by
  intro x0 x1
  simp only [State.absorb, ↓core_mk, core_eta]

@[simp] theorem later_core : ∀ x0 x1, (State.later x0 x1).core = x0.core := by
  intro x0 x1
  simp only [State.later, ↓core_mk, core_eta]

@[simp] theorem bootRails_core : ∀ x0 x1, (State.bootRails x0 x1).core = x0.core := by
  intro x0 x1
  simp only [State.bootRails, core_ite, ite_self, set_core]

@[simp] theorem causeRegs_core : ∀ x0, (State.causeRegs x0).core = x0.core := by
  intro x0
  simp only [State.causeRegs, set_core, setFlag_core]

@[simp] theorem latchStraps_core : ∀ x0 x1, (State.latchStraps x0 x1).core = x0.core := by
  intro x0 x1
  simp only [State.latchStraps, ↓core_mk, core_eta, set_core]

@[simp] theorem timeFromKeeper_core : ∀ x0, (State.timeFromKeeper x0).core = x0.core := by
  intro x0
  simp only [State.timeFromKeeper, ↓core_mk, core_eta, core_ite, ite_self, setFlag_core, later_core]

@[simp] theorem bootRom_core : ∀ x0 x1 x2 x3, (State.bootRom x0 x1 x2 x3).core = x0.core := by
  intro x0 x1 x2 x3
  simp only [State.bootRom, ↓core_mk, core_eta, core_ite, ite_self, setFlag_core, latchStraps_core, causeRegs_core, timeFromKeeper_core, set_core]

@[simp] theorem bootCopy_core : ∀ x0 x1 x2, (State.bootCopy x0 x1 x2).core = x0.core := by
  intro x0 x1 x2
  simp only [State.bootCopy, ↓core_mk, core_eta, wakeFromImage_core, setFlag_core]

@[simp] theorem imageFallback_core : ∀ x0, (State.imageFallback x0).core = x0.core := by
  intro x0
  simp only [State.imageFallback, setFlag_core]

@[simp] theorem bootImageCopy_core : ∀ x0, (State.bootImageCopy x0).core = x0.core := by
  intro x0
  unfold State.bootImageCopy; dsimp only; (repeat' split) <;> simp only [imageFallback_core, bootCopy_core, later_core]

@[simp] theorem boardId_core : ∀ x0 x1, (State.boardId x0 x1).core = x0.core := by
  intro x0 x1
  unfold State.boardId; (repeat' split) <;> simp only [set_core, setFlag_core]

@[simp] theorem bootImage_core : ∀ x0 x1, (State.bootImage x0 x1).core = x0.core := by
  intro x0 x1
  simp only [State.bootImage, core_ite, ite_self, set_core, bootImageCopy_core, boardId_core]

@[simp] theorem diesTested_core : ∀ x0 x1, (State.diesTested x0 x1).core = x0.core := by
  intro x0 x1
  simp only [State.diesTested, ↓core_mk, core_eta, core_ite, ite_self, set_core, setFlag_core]

@[simp] theorem seedTaken_core : ∀ x0 x1, (State.seedTaken x0 x1).core = x0.core := by
  intro x0 x1
  simp only [State.seedTaken, ↓core_mk, core_eta, core_ite, ite_self, draw_core, later_core, setFlag_core]

@[simp] theorem ringTrained_core : ∀ x0, (State.ringTrained x0).core = x0.core := by
  intro x0
  simp only [State.ringTrained, core_ite, ite_self, capClear_core]

@[simp] theorem bootMemory_core : ∀ x0 x1 x2, (State.bootMemory x0 x1 x2).core = x0.core := by
  intro x0 x1 x2
  simp only [State.bootMemory, core_ite, ite_self, set_core, ringTrained_core, seedTaken_core, diesTested_core, dipState_core]

@[simp] theorem loadPlate_core : ∀ x0, (State.loadPlate x0).core = x0.core := by
  intro x0
  unfold State.loadPlate; dsimp only; (repeat' split) <;> simp only [raise_core, set_core, setFlag_core, setSlot_core, verifyEvents_core]

@[simp] theorem loadFree_core : ∀ x0, (State.loadFree x0).core = x0.core := by
  intro x0
  unfold State.loadFree; (repeat' split) <;> simp only [set_core, setFlag_core]

@[simp] theorem loadPoints_core : ∀ x0, (State.loadPoints x0).core = x0.core := by
  intro x0
  simp only [State.loadPoints, ↓core_mk, core_eta, core_ite, ite_self, loopsRestart_core, raise_core, setFlag_core]

@[simp] theorem loadCal_core : ∀ x0, (State.loadCal x0).core = x0.core := by
  intro x0
  unfold State.loadCal; (repeat' split) <;> simp only [↓core_mk, core_eta]

@[simp] theorem loadEvents_core : ∀ x0, (State.loadEvents x0).core = x0.core := by
  intro x0
  simp only [State.loadEvents, ↓core_mk, core_eta, core_ite, ite_self, implies_true, foldl_core, raiseWith_core, raise_core]

@[simp] theorem spanCheck_core : ∀ x0, (State.spanCheck x0).core = x0.core := by
  intro x0
  simp only [State.spanCheck, core_ite, ite_self, raise_core, setFlag_core]

@[simp] theorem groupStart_core : ∀ x0, (State.groupStart x0).core = x0.core := by
  intro x0
  simp only [State.groupStart, core_ite, ite_self, set_core]

@[simp] theorem bootLoad_core : ∀ x0, (State.bootLoad x0).core = x0.core := by
  intro x0
  simp only [State.bootLoad, ↓core_mk, core_eta, core_ite, ite_self, loadPoints_core, hatchesReload_core, loadFree_core, loadPlate_core, loadEvents_core, groupStart_core, spanCheck_core, loadCal_core, set_core]

@[simp] theorem syncWait_core : ∀ x0, (State.syncWait x0).core = x0.core := by
  intro x0
  simp only [State.syncWait, core_ite, ite_self, selectSource_core, waitUntil_core, stepTime_core]

@[simp] theorem clearHold_core : ∀ x0, (State.clearHold x0).2.core = x0.core := by
  intro x0
  simp only [State.clearHold, ↓core_mk, core_eta, set_core, setFlag_core]

@[simp] theorem capStation_core : ∀ x0 x1, (State.capStation x0 x1).core = x0.core := by
  intro x0 x1
  simp only [State.capStation, ringAppend_core]

@[simp] theorem capNode_core : ∀ x0 x1, (State.capNode x0 x1).core = x0.core := by
  intro x0 x1
  simp only [State.capNode, ringAppend_core]

@[simp] theorem capInputs_core : ∀ x0, (State.capInputs x0).core = x0.core := by
  intro x0
  simp only [State.capInputs, core_ite, ite_self, implies_true, foldl_core, capNode_core, capStation_core]

@[simp] theorem capRun_core : ∀ x0 x1 x2, (State.capRun x0 x1 x2).core = x0.core := by
  intro x0 x1 x2
  simp only [State.capRun, implies_true, foldl_core, ringAppend_core]

@[simp] theorem capFreeze_core : ∀ x0, (State.capFreeze x0).core = x0.core := by
  intro x0
  simp only [State.capFreeze, ↓core_mk, core_eta, core_ite, ite_self, capRun_core]

@[simp] theorem capCycle_core : ∀ x0, (State.capCycle x0).core = x0.core := by
  intro x0
  simp only [State.capCycle, ↓core_mk, core_eta]

@[simp] theorem capStopped_core : ∀ x0, (State.capStopped x0).core = x0.core := by
  intro x0
  simp only [State.capStopped, core_ite, ite_self, setFlag_core, set_core]

@[simp] theorem capStart_core : ∀ x0, (State.capStart x0).2.core = x0.core := by
  intro x0
  simp only [State.capStart, ↓core_mk, core_eta, core_ite, snd_ite, ite_self, set_core, setFlag_core]

@[simp] theorem capStop_core : ∀ x0, (State.capStop x0).2.core = x0.core := by
  intro x0
  simp only [State.capStop, ↓core_mk, core_eta, core_ite, snd_ite, ite_self, set_core]

@[simp] theorem capReplay_core : ∀ x0 x1, (State.capReplay x0 x1).2.core = x0.core := by
  intro x0 x1
  simp only [State.capReplay, ↓core_mk, core_eta, core_ite, snd_ite, ite_self]

@[simp] theorem capReplayEnd_core : ∀ x0, (State.capReplayEnd x0).2.core = x0.core := by
  intro x0
  simp only [State.capReplayEnd, ↓core_mk, core_eta, core_ite, snd_ite, ite_self]

@[simp] theorem capCmd_core : ∀ x0 x1, (State.capCmd x0 x1).2.core = x0.core := by
  intro x0 x1
  simp only [State.capCmd, core_ite, snd_ite, fst_ite, ite_self, capStart_core, capStop_core, capReplay_core, capReplayEnd_core]

@[simp] theorem replayImage_core : ∀ x0, (State.replayImage x0).core = x0.core := by
  intro x0
  simp only [State.replayImage, ↓core_mk, core_eta]

@[simp] theorem replayPump_core : ∀ x0 x1, (State.replayPump x0 x1).core = x0.core := by
  intro x0 x1
  simp only [State.replayPump, ↓core_mk, core_eta]

@[simp] theorem replayInputs_core : ∀ x0, (State.replayInputs x0).core = x0.core := by
  intro x0
  simp only [State.replayInputs, ↓core_mk, core_eta]

@[simp] theorem replayFreeze_core : ∀ x0, (State.replayFreeze x0).core = x0.core := by
  intro x0
  simp only [State.replayFreeze, ↓core_mk, core_eta, set_core]

@[simp] theorem holdStatus_core (b s : State) : (State.holdStatus b s).core = s.core := by
  unfold State.holdStatus
  dsimp only
  split <;> rfl

@[simp] theorem ringRead_core : ∀ x0 x1 x2, (State.ringRead x0 x1 x2).2.2.core = x0.core := by
  intro x0 x1 x2
  unfold State.ringRead; dsimp only; (repeat' split) <;> simp only [draw_core]

@[simp] theorem mdioStart_core : ∀ x0 x1, (State.mdioStart x0 x1).2.core = x0.core := by
  intro x0 x1
  simp only [State.mdioStart, core_ite, snd_ite, ite_self, set_core, setFlag_core]

@[simp] theorem mdioDone_core : ∀ x0 x1, (State.mdioDone x0 x1).core = x0.core := by
  intro x0 x1
  simp only [State.mdioDone, core_ite, ite_self, setFlag_core, set_core]

@[simp] theorem raiseOrLater_core : ∀ x0 x1, (State.raiseOrLater x0 x1).core = x0.core := by
  intro x0 x1
  simp only [State.raiseOrLater, core_ite, ite_self, raise_core, later_core]

@[simp] theorem refclkFail_core : ∀ x0, (State.refclkFail x0).core = x0.core := by
  intro x0
  simp only [State.refclkFail, core_ite, ite_self, setFlag_core, raise_core]

@[simp] theorem refclkRestore_core : ∀ x0, (State.refclkRestore x0).core = x0.core := by
  intro x0
  simp only [State.refclkRestore, core_ite, ite_self, setFlag_core, selectSource_core]

@[simp] theorem serdesLoss_core : ∀ x0, (State.serdesLoss x0).core = x0.core := by
  intro x0
  simp only [State.serdesLoss, core_ite, ite_self, implies_true, foldl_core, laneDown_core, setFlag_core]

@[simp] theorem serdesReturn_core : ∀ x0, (State.serdesReturn x0).core = x0.core := by
  intro x0
  simp only [State.serdesReturn, setFlag_core]

@[simp] theorem xtalStop_core : ∀ x0, (State.xtalStop x0).core = x0.core := by
  intro x0
  simp only [State.xtalStop, ↓core_mk, core_eta, core_ite, ite_self, raiseOrLater_core, setFlag_core]

@[simp] theorem xtalRestart_core : ∀ x0, (State.xtalRestart x0).core = x0.core := by
  intro x0
  simp only [State.xtalRestart, ↓core_mk, core_eta, core_ite, ite_self, setFlag_core]

@[simp] theorem imgSave_core : ∀ x0, (State.imgSave x0).2.core = x0.core := by
  intro x0
  simp only [State.imgSave, ↓core_mk, core_eta, core_ite, snd_ite, ite_self]

@[simp] theorem imgSaveBoundary_core : ∀ x0, (State.imgSaveBoundary x0).core = x0.core := by
  intro x0
  simp only [State.imgSaveBoundary, ↓core_mk, core_eta, core_ite, ite_self]

@[simp] theorem imgSaveDone_core : ∀ x0 x1, (State.imgSaveDone x0 x1).core = x0.core := by
  intro x0 x1
  unfold State.imgSaveDone; (repeat' split) <;> simp only [↓core_mk, core_eta, setOtherCopy_core, set_core, setFlag_core, draw_core]

@[simp] theorem upsetField_core : ∀ x0 x1 x2, (State.upsetField x0 x1 x2).core = x0.core := by
  intro x0 x1 x2
  unfold State.upsetField; (repeat' split) <;> simp only [↓core_mk, core_eta]

@[simp] theorem upset_core (s : State) (u : Upset) : (s.upset u).core = s.core := upsetField_core s u _

@[simp] theorem voteOne_core : ∀ x0 x1, (State.voteOne x0 x1).core = x0.core := by
  intro x0 x1
  unfold State.voteOne; (repeat' split) <;> simp only [↓core_mk, core_eta, set_core, count_core]

@[simp] theorem voteAt_core : ∀ x0 x1 x2, (State.voteAt x0 x1 x2).core = x0.core := by
  intro x0 x1 x2
  simp only [State.voteAt, implies_true, foldl_core, voteOne_core]

@[simp] theorem voteStreaks_core : ∀ x0 x1, (State.voteStreaks x0 x1).core = x0.core := by
  intro x0 x1
  simp only [State.voteStreaks, ↓core_mk, core_eta]

@[simp] theorem scrub_core : ∀ x0, (State.scrub x0).core = x0.core := by
  intro x0
  simp only [State.scrub, implies_true, foldl_core, healthCheck_core, voteStreaks_core, voteOne_core]

@[simp] theorem unite_core : ∀ x0 x1, (State.unite x0 x1).core = x0.core := by
  intro x0 x1
  simp only [State.unite, ↓core_mk, core_eta]

@[simp] theorem slotWord_core : ∀ x0 x1 x2, (State.slotWord x0 x1 x2).2.core = x0.core := by
  intro x0 x1 x2
  unfold State.slotWord; (repeat' split) <;> simp only [draw_core]

@[simp] theorem readReg_core : ∀ x0 x1 x2 x3, (State.readReg x0 x1 x2 x3).2.2.core = x0.core := by
  intro x0 x1 x2 x3
  unfold State.readReg; (repeat' split) <;> simp only [core_ite, snd_ite, ite_self, timeLoRead_core, tickLoRead_core, rngWord_core, slotWord_core, voteAt_core]

@[simp] theorem readWindow_core : ∀ x0 x1 x2, (State.readWindow x0 x1 x2).2.2.core = x0.core := by
  intro x0 x1 x2
  simp only [State.readWindow, core_ite, snd_ite, ite_self, ringRead_core]

@[simp] theorem readWord_core : ∀ x0 x1 x2 x3, (State.readWord x0 x1 x2 x3).2.2.core = x0.core := by
  intro x0 x1 x2 x3
  simp only [State.readWord, core_ite, snd_ite, ite_self, readReg_core, readWindow_core]

@[simp] theorem readUnit_core : ∀ x0 x1 x2, (State.readUnit x0 x1 x2).2.2.2.core = x0.core := by
  intro x0 x1 x2
  simp only [State.readUnit, core_ite, snd_ite, ite_self, tsqRead_core, dinRead_core]

@[simp] theorem readWords_core (s : State) (omp : Bool) (a i n : Nat) : (s.readWords omp a i n).2.core = s.core := by
  fun_induction State.readWords s omp a i n with
  | case1 => rfl
  | case2 => rfl
  | case3 s a h => exact readWord_core _ _ _ _
  | case4 => rename_i ih; exact Eq.trans ih (readUnit_core _ _ _)
  | case5 => rename_i ih; exact ih
  | case6 => rename_i ih; exact Eq.trans ih (readWord_core _ _ _ _)

@[simp] theorem txnExpire_core : ∀ x0, (State.txnExpire x0).core = x0.core := by
  intro x0
  simp only [State.txnExpire, ↓core_mk, core_eta, core_ite, ite_self]

@[simp] theorem touch_core : ∀ x0 x1, (State.touch x0 x1).core = x0.core := by
  intro x0 x1
  simp only [State.touch, ↓core_mk, core_eta, core_ite, ite_self, txnExpire_core]

@[simp] theorem txnBegin_core : ∀ x0 x1, (State.txnBegin x0 x1).2.core = x0.core := by
  intro x0 x1
  simp only [State.txnBegin, ↓core_mk, core_eta, core_ite, snd_ite, ite_self]

@[simp] theorem txnCommit_core : ∀ x0 x1, (State.txnCommit x0 x1).2.core = x0.core := by
  intro x0 x1
  simp only [State.txnCommit, ↓core_mk, core_eta, core_ite, snd_ite, ite_self]

@[simp] theorem txnRollback_core : ∀ x0 x1, (State.txnRollback x0 x1).2.core = x0.core := by
  intro x0 x1
  simp only [State.txnRollback, ↓core_mk, core_eta, core_ite, snd_ite, ite_self]

@[simp] theorem txnCmd_core : ∀ x0 x1 x2, (State.txnCmd x0 x1 x2).2.core = x0.core := by
  intro x0 x1 x2
  unfold State.txnCmd; (repeat' split) <;> simp only [txnBegin_core, txnCommit_core, txnRollback_core]

@[simp] theorem stage_core : ∀ x0 x1 x2, (State.stage x0 x1 x2).2.core = x0.core := by
  intro x0 x1 x2
  simp only [State.stage, ↓core_mk, core_eta, core_ite, snd_ite, ite_self]

@[simp] theorem txnTimeout_core : ∀ x0, (State.txnTimeout x0).core = x0.core := by
  intro x0
  simp only [State.txnTimeout, core_ite, ite_self, txnExpire_core, waitUntil_core]

@[simp] theorem putField_core : ∀ x0 x1 x2 x3, (State.putField x0 x1 x2 x3).core = x0.core := by
  intro x0 x1 x2 x3
  simp only [State.putField, core_ite, ite_self, set_core, unite_core]

@[simp] theorem dropForces_core : ∀ x0, (State.dropForces x0).core = x0.core := by
  intro x0
  simp only [State.dropForces, implies_true, foldl_core, setFlag_core]

@[simp] theorem storeStaged_core : ∀ x0 x1 x2, (State.storeStaged x0 x1 x2).core = x1.core := by
  intro x0 x1 x2
  unfold State.storeStaged; (repeat' split) <;> simp only [core_ite, ite_self, implies_true, foldl_core, dropForces_core, putField_core]

@[simp] theorem hookForces_core (s : State) (ws : List Staged) (t : State) : (s.hookForces ws t).core = t.core := by
  unfold State.hookForces
  dsimp only
  split
  · rfl
  · refine Eq.trans (b := (List.foldl _ _ _ : State).core) rfl ?_
    refine (foldl_core _ (fun x e => ?_) _ _).trans (foldl_core _ forceLeave_core _ _)
    split
    · rfl
    · exact setFlag_core _ _ _ _

@[simp] theorem hookContexts_core : ∀ x0 x1, (hookContexts x0 x1).core = x1.core := by
  intro x0 x1
  simp only [hookContexts, implies_true, foldl_core, forgetWarm_core, ctxChanged_core]

@[simp] theorem hookSlots_core (s : State) (ws : List Staged) (t : State) : (s.hookSlots ws t).core = t.core := by
  unfold State.hookSlots
  refine foldl_core _ (fun u c => ?_) _ _
  split
  · rfl
  · rw [raiseWith_core, rebind_core]

@[simp] theorem hookChannels_core (s : State) (ws : List Staged) (t : State) : (s.hookChannels ws t).core = t.core := by
  unfold State.hookChannels
  refine foldl_core _ (fun u c => ?_) _ _
  split
  · exact setChan_core _ _ _
  · rfl

@[simp] theorem hookRole_core (s t : State) : (s.hookRole t).core = t.core := by
  unfold State.hookRole
  split
  · rfl
  · dsimp only
    split
    · rw [set_core, set_core]; rfl
    · rw [set_core]; rfl

@[simp] theorem hookLevel_core (s : State) (ws : List Staged) (t : State) : (s.hookLevel ws t).core = t.core := by
  unfold State.hookLevel
  refine foldl_core _ (fun u b => ?_) _ _
  dsimp only
  split
  · rfl
  · split
    · refine foldl_core _ (fun x e => ?_) _ _
      split
      · rfl
      · split
        · exact set_core _ _ _ _
        · rfl
    · exact foldl_core _ (fun x e => set_core _ _ _ _) _ _

@[simp] theorem commitHooks_core (s : State) (ws : List Staged) (t : State) : (s.commitHooks ws t).core = t.core := by
  unfold State.commitHooks
  simp only [core_ite, selectSource_core, capClear_core, hookRole_core, hookChannels_core, hookSlots_core, hookContexts_core,
    hookLevel_core, hookForces_core, ite_self]

@[simp] theorem txnEnd_core : ∀ x0 x1 x2 x3, (State.txnEnd x0 x1 x2 x3).core = x0.core := by
  intro x0 x1 x2 x3
  simp only [State.txnEnd, ↓core_mk, core_eta]

@[simp] theorem applyCommit_core : ∀ x0 x1, (State.applyCommit x0 x1).core = x0.core := by
  intro x0 x1
  unfold State.applyCommit; dsimp only; (repeat' split) <;> simp only [implies_true, foldl_core, storeStaged_core, txnEnd_core, commitHooks_core]

@[simp] theorem txnApply_core : ∀ x0, (State.txnApply x0).core = x0.core := by
  intro x0
  simp only [State.txnApply, ↓core_mk, core_eta, implies_true, foldl_core, txnExpire_core, applyCommit_core]

theorem bitCommands_core (s : State) (l : List (Bool × (State → Status × State))) (h : ∀ e ∈ l, ∀ t, (e.2 t).2.core = t.core) :
    (bitCommands s l).2.core = s.core := by
  have g : ∀ (l : List (Bool × (State → Status × State))) (r : Status × State), (∀ e ∈ l, ∀ t, (e.2 t).2.core = t.core) →
      (l.foldl (fun (r : Status × State) e => if e.1 && decide (r.1 = .done) then e.2 r.2 else r) r).2.core = r.2.core := by
    intro l
    induction l with
    | nil => intros; rfl
    | cons e t ih =>
      intro r hl
      rw [List.foldl_cons, ih _ (fun x hx => hl x (List.mem_cons_of_mem _ hx))]
      split
      · exact hl e (List.mem_cons_self ..) _
      · rfl
  unfold bitCommands
  dsimp only
  split
  · exact g l _ h
  · rfl

theorem orElse_core (s : State) (r : Status × State) (h : r.2.core = s.core) : (orElse s r).2.core = s.core := by
  unfold orElse
  split
  · exact h
  · rfl

@[simp] theorem command_core : ∀ x0 x1 x2 x3 x4, (State.command x0 x1 x2 x3 x4).2.core = x0.core := by
  intro x0 x1 x2 x3 x4
  first
    | (simp only [State.command]; done; done; trace "@@command_core 0")
    | (unfold State.command; (repeat' split) <;> simp only [txnCmd_core, imgSave_core, mdioStart_core, pwrCmd_core, clearHold_core, restartCmd_core, plateCmd_core, stnRelease_core, tsuStep_core, uartSend_core]; done; trace "@@command_core 1")
    | (unfold State.command; dsimp only; (repeat' split) <;> simp only [↓core_mk, core_eta, core_ite, snd_ite, fst_ite, ite_self, implies_true, txnCmd_core, imgSave_core, mdioStart_core, pwrCmd_core, clearHold_core, restartCmd_core, plateCmd_core, stnRelease_core, tsuStep_core, uartSend_core, bitCommands_core, originSet_core, obsReinit_core, calSave_core, calResetCmd_core, chanCalReset_core, datumSet_core, hatchCmd_core, orElse_core, redCmd_core, safeTripReset_core, safeDiscReset_core, fuseArm_core, fuseCmd_core, imgCmd_core, capCmd_core]; done; trace "@@command_core 2")
    | (unfold State.command; refine runInstr_core _ _ _ _ (fun p u => ?_); (try dsimp only); (repeat' split) <;> simp only [flowCore_cont, flowCore_stack, flowCore_illegal, flowCore_ite, ↓core_mk, core_eta, core_ite, snd_ite, fst_ite, ite_self, implies_true, txnCmd_core, imgSave_core, mdioStart_core, pwrCmd_core, clearHold_core, restartCmd_core, plateCmd_core, stnRelease_core, tsuStep_core, uartSend_core, bitCommands_core, originSet_core, obsReinit_core, calSave_core, calResetCmd_core, chanCalReset_core, datumSet_core, hatchCmd_core, orElse_core, redCmd_core, safeTripReset_core, safeDiscReset_core, fuseArm_core, fuseCmd_core, imgCmd_core, capCmd_core]; done; trace "@@command_core 3")
    | (unfold State.command; (repeat' split) <;> first | (simp only [txnCmd_core, imgSave_core, mdioStart_core, pwrCmd_core, clearHold_core, restartCmd_core, plateCmd_core, stnRelease_core, tsuStep_core, uartSend_core, hatchCmd_core, orElse_core, redCmd_core, fuseArm_core, fuseCmd_core, imgCmd_core, capCmd_core]; done) | exact bitCommands_core _ _ (by simp [implies_true, originSet_core, obsReinit_core, calSave_core, calResetCmd_core, chanCalReset_core, datumSet_core, safeTripReset_core, safeDiscReset_core]) | (apply orElse_core; simp only [↓core_mk, core_eta, core_ite, snd_ite, fst_ite, ite_self, implies_true, txnCmd_core, imgSave_core, mdioStart_core, pwrCmd_core, clearHold_core, restartCmd_core, plateCmd_core, stnRelease_core, tsuStep_core, uartSend_core, bitCommands_core, originSet_core, obsReinit_core, calSave_core, calResetCmd_core, chanCalReset_core, datumSet_core, hatchCmd_core, orElse_core, redCmd_core, safeTripReset_core, safeDiscReset_core, fuseArm_core, fuseCmd_core, imgCmd_core, capCmd_core]); done; trace "@@command_core 4")

@[simp] theorem freezeSet_core : ∀ x0 x1, (State.freezeSet x0 x1).core = x0.core := by
  intro x0 x1
  simp only [State.freezeSet, ↓core_mk, core_eta, core_ite, ite_self, setFlag_core, mergePending_core]

@[simp] theorem freezeExpire_core : ∀ x0, (State.freezeExpire x0).core = x0.core := by
  intro x0
  simp only [State.freezeExpire, core_ite, ite_self, setFlag_core, freezeSet_core, waitUntil_core]

@[simp] theorem keepWrite_core : ∀ x0 x1 x2, (State.keepWrite x0 x1 x2).2.core = x0.core := by
  intro x0 x1 x2
  simp only [State.keepWrite, ↓core_mk, core_eta, core_ite, snd_ite, ite_self]

@[simp] theorem storeNow_core : ∀ x0 x1 x2 x3, (State.storeNow x0 x1 x2 x3).core = x0.core := by
  intro x0 x1 x2 x3
  simp only [State.storeNow, core_ite, ite_self, implies_true, foldl_core, putField_core, set_core]

@[simp] theorem writeTxn_core : ∀ x0 x1 x2 x3, (State.writeTxn x0 x1 x2 x3).2.core = x0.core := by
  intro x0 x1 x2 x3
  simp only [State.writeTxn, core_ite, snd_ite, ite_self, stage_core]

@[simp] theorem recWrite_core : ∀ x0 x1 x2, (State.recWrite x0 x1 x2).2.core = x0.core := by
  intro x0 x1 x2
  simp only [State.recWrite, core_ite, snd_ite, ite_self, stage_core, freezeSet_core]

@[simp] theorem wselWrite_core : ∀ x0 x1 x2 x3, (State.wselWrite x0 x1 x2 x3).core = x0.core := by
  intro x0 x1 x2 x3
  simp only [State.wselWrite, ↓core_mk, core_eta]

@[simp] theorem writePlain_core : ∀ x0 x1 x2 x3 x4 x5, (State.writePlain x0 x1 x2 x3 x4 x5).2.core = x0.core := by
  intro x0 x1 x2 x3 x4 x5
  simp only [State.writePlain, core_ite, snd_ite, ite_self, recWrite_core, writeTxn_core, command_core, keepWrite_core, wselWrite_core, storeNow_core]

@[simp] theorem writeFields_core : ∀ x0 x1 x2 x3 x4 x5, (State.writeFields x0 x1 x2 x3 x4 x5).2.core = x0.core := by
  intro x0 x1 x2 x3 x4 x5
  unfold State.writeFields; (repeat' split) <;> simp only [putField_core, writePlain_core]

@[simp] theorem writeReg_core : ∀ x0 x1 x2 x3 x4, (State.writeReg x0 x1 x2 x3 x4).2.core = x0.core := by
  intro x0 x1 x2 x3 x4
  unfold State.writeReg; (repeat' split) <;> simp only [writeFields_core]

@[simp] theorem writeWindow_core : ∀ x0 x1 x2, (State.writeWindow x0 x1 x2).2.core = x0.core := by
  intro x0 x1 x2
  simp only [State.writeWindow, core_ite, snd_ite, ite_self, plateWindow_core, hatchWindow_core, imgWindow_core]

@[simp] theorem pointWrite_core : ∀ x0 x1 x2 x3 x4, (State.pointWrite x0 x1 x2 x3 x4).2.core = x0.core := by
  intro x0 x1 x2 x3 x4
  unfold State.pointWrite; (repeat' split) <;> simp only [↓core_mk, core_eta, setPoint_core, notePoint_core]

@[simp] theorem writeWord_core : ∀ x0 x1 x2 x3 x4, (State.writeWord x0 x1 x2 x3 x4).2.core = x0.core := by
  intro x0 x1 x2 x3 x4
  simp only [State.writeWord, core_ite, snd_ite, ite_self, writeReg_core, writeWindow_core]

@[simp] theorem writePoint_core : ∀ x0 x1 x2 x3 x4 x5, (State.writePoint x0 x1 x2 x3 x4 x5).2.core = x0.core := by
  intro x0 x1 x2 x3 x4 x5
  simp only [State.writePoint, core_ite, snd_ite, ite_self, pointWrite_core]

@[simp] theorem answer_core : ∀ x0 x1 x2, (State.answer x0 x1 x2).core = x0.core := by
  intro x0 x1 x2
  simp only [State.answer, ↓core_mk, core_eta, core_ite, ite_self, set_core]

@[simp] theorem readEnd_core : ∀ x0 x1 x2, (State.readEnd x0 x1 x2).core = x0.core := by
  intro x0 x1 x2
  simp only [State.readEnd, set_core]

@[simp] theorem answerRead_core : ∀ x0 x1 x2 x3, (State.answerRead x0 x1 x2 x3).core = x0.core := by
  intro x0 x1 x2 x3
  simp only [State.answerRead, ↓core_mk, core_eta, core_ite, ite_self, readEnd_core]

@[simp] theorem hostWord_core : ∀ x0 x1 x2 x3 x4, (State.hostWord x0 x1 x2 x3 x4).core = x0.core := by
  intro x0 x1 x2 x3 x4
  simp only [State.hostWord, core_ite, snd_ite, fst_ite, ite_self, touch_core, writeWord_core, answer_core]

@[simp] theorem hostRange_core : ∀ x0 x1, (State.hostRange x0 x1).core = x0.core := by
  intro x0 x1
  simp only [State.hostRange, core_ite, ite_self, answer_core, touch_core]

@[simp] theorem hostCmd_core : ∀ x0 x1 x2 x3 x4 x5, (State.hostCmd x0 x1 x2 x3 x4 x5).core = x0.core := by
  intro x0 x1 x2 x3 x4 x5
  simp only [State.hostCmd, core_ite, ite_self, hostWord_core, hostRange_core]

@[simp] theorem hostWindow_core : ∀ x0 x1 x2 x3 x4 x5, (State.hostWindow x0 x1 x2 x3 x4 x5).core = x0.core := by
  intro x0 x1 x2 x3 x4 x5
  simp only [State.hostWindow, core_ite, ite_self, hostWord_core, hostRange_core]

@[simp] theorem hostPoint_core : ∀ x0 x1 x2 x3 x4 x5, (State.hostPoint x0 x1 x2 x3 x4 x5).core = x0.core := by
  intro x0 x1 x2 x3 x4 x5
  simp only [State.hostPoint, core_ite, ite_self, writePoint_core, touch_core, answer_core]

@[simp] theorem hostRead_core : ∀ x0 x1 x2, (State.hostRead x0 x1 x2).core = x0.core := by
  intro x0 x1 x2
  simp only [State.hostRead, core_ite, ite_self, readWord_core, touch_core, answerRead_core]

@[simp] theorem hostUnit_core : ∀ x0 x1 x2 x3, (State.hostUnit x0 x1 x2 x3).core = x0.core := by
  intro x0 x1 x2 x3
  simp only [State.hostUnit, core_ite, ite_self, touch_core, readUnit_core, answerRead_core]

@[simp] theorem ompSend_core : ∀ x0 x1, (State.ompSend x0 x1).core = x0.core := by
  intro x0 x1
  simp only [State.ompSend, ↓core_mk, core_eta, draw_core, transmit_core]

@[simp] theorem respond_core : ∀ x0 x1 x2 x3 x4 x5, (State.respond x0 x1 x2 x3 x4 x5).core = x0.core := by
  intro x0 x1 x2 x3 x4 x5
  simp only [State.respond, ↓core_mk, core_eta, ompSend_core]

@[simp] theorem ompReadRun_core : ∀ x0 x1, (State.ompReadRun x0 x1).core = x0.core := by
  intro x0 x1
  simp only [State.ompReadRun, core_ite, ite_self, touch_core, respond_core, readWords_core]

@[simp] theorem ompWords_core (s : State) (p : Path) (a i k : Nat) (l : List Word) : (s.ompWords p a i k l).2.core = s.core := by
  fun_induction State.ompWords s p a i k l with
  | case1 => rfl
  | case2 => exact writeWord_core _ _ _ _ _
  | case3 _ _ _ _ _ _ _ _ _ ih => exact ih.trans (writePoint_core _ _ _ _ _ _)
  | case4 => exact writePoint_core _ _ _ _ _ _
  | case5 _ _ _ _ _ _ _ _ _ ih => exact ih.trans (writeWord_core _ _ _ _ _)
  | case6 => exact writeWord_core _ _ _ _ _

theorem ompRefused_core (s : State) (st : Status) (n : Nat) (t : State) (h : t.core = s.core) : (s.ompRefused st n t).core = s.core := by
  unfold State.ompRefused
  split
  · exact h
  · split <;> rfl

@[simp] theorem ompWriteRun_core : ∀ x0 x1, (State.ompWriteRun x0 x1).core = x0.core := by
  intro x0 x1
  simp only [State.ompWriteRun, core_ite, ite_self, touch_core, respond_core, ompWords_core, ompRefused_core]

@[simp] theorem ompDiscard_core : ∀ x0 x1, (State.ompDiscard x0 x1).core = x0.core := by
  intro x0 x1
  simp only [State.ompDiscard, ↓core_mk, core_eta, core_ite, ite_self, frameReceive_core]

theorem ompServe_core (s : State) (r : OmpRequest) (w : Bool) (f : State → State) (h : (f s).core = s.core) :
    (s.ompServe r w f).core = s.core := by
  unfold State.ompServe
  split
  · exact ompDiscard_core _ _
  · split
    · exact ompSend_core _ _
    · exact h

@[simp] theorem spiEnd_core : ∀ x0, (State.spiEnd x0).core = x0.core := by
  intro x0
  unfold State.spiEnd; dsimp only; (repeat' split) <;> simp only [↓core_mk, core_eta, readEnd_core, set_core]

@[simp] theorem spiStart_core : ∀ x0 x1 x2, (State.spiStart x0 x1 x2).core = x0.core := by
  intro x0 x1 x2
  simp only [State.spiStart, ↓core_mk, core_eta, spiEnd_core, touch_core]

@[simp] theorem driveSdo_core : ∀ x0 x1, (State.driveSdo x0 x1).core = x0.core := by
  intro x0 x1
  simp only [State.driveSdo, ↓core_mk, core_eta]

@[simp] theorem driveRead_core : ∀ x0 x1, (State.driveRead x0 x1).core = x0.core := by
  intro x0 x1
  simp only [State.driveRead, draw_core, driveSdo_core]

@[simp] theorem spiReadRun_core : ∀ x0 x1 x2, (State.spiReadRun x0 x1 x2).core = x0.core := by
  intro x0 x1 x2
  simp only [State.spiReadRun, ↓core_mk, core_eta, core_ite, snd_ite, fst_ite, ite_self, spiStart_core, readWords_core, driveRead_core]

@[simp] theorem spiWords_core (s : State) (a : Nat) (l : List Word) : (s.spiWords a l).core = s.core := by
  fun_induction State.spiWords s a l with
  | case1 => rfl
  | case2 => rfl
  | case3 => rw [answer_core, writeWord_core]
  | case4 _ _ _ _ _ _ _ ih => rw [ih, answer_core, writePoint_core]
  | case5 _ _ _ _ _ _ _ ih => rw [ih, answer_core, writeWord_core]

@[simp] theorem spiWriteRun_core : ∀ x0 x1 x2, (State.spiWriteRun x0 x1 x2).core = x0.core := by
  intro x0 x1 x2
  simp only [State.spiWriteRun, core_ite, ite_self, driveSdo_core, spiStart_core, spiWords_core, answer_core]

@[simp] theorem runTask_core : ∀ x0 x1, (State.runTask x0 x1).core = x0.core := by
  intro x0 x1
  simp only [State.runTask, ↓core_mk, core_eta, putGood_core]

@[simp] theorem startTask_core : ∀ x0 x1, (State.startTask x0 x1).core = x0.core := by
  intro x0 x1
  simp only [State.startTask, runTask_core, setProc_core]

@[simp] theorem slowTurn_core : ∀ x0, (State.slowTurn x0).core = x0.core := by
  intro x0
  simp only [State.slowTurn, ↓core_mk, core_eta, core_ite, ite_self, runTask_core, startTask_core]

@[simp] theorem triggers_core : ∀ x0, (State.triggers x0).core = x0.core := by
  intro x0
  simp only [State.triggers, core_ite, ite_self, evalTriggers_core]

@[simp] theorem tasksDone_core : ∀ x0, (State.tasksDone x0).core = x0.core := by
  intro x0
  simp only [State.tasksDone, ↓core_mk, core_eta, slowTurn_core, triggers_core]

@[simp] theorem scanEnd_core : ∀ x0 x1, (State.scanEnd x0 x1).core = x0.core := by
  intro x0 x1
  unfold State.scanEnd; (repeat' split) <;> simp only [↓core_mk, core_eta, core_ite, ite_self, measured_core, startTask_core, tasksDone_core]

@[simp] theorem retFlow_core (c : BitVec 5) (p : Proc) (s : State) : flowCore s (retFlow c p s) = s.core := by
  unfold retFlow
  split
  · rfl
  · rfl
  · split <;> rfl

@[simp] theorem opRet_core (s : State) (c : BitVec 5) : (s.opRet c).core = s.core := by
  unfold State.opRet
  have h := runInstr_core s 1 3 (retFlow c) (fun p u => retFlow_core c p u)
  dsimp only
  split
  · rw [scanEnd_core, h]
  · exact h

@[simp] theorem levelWord_core : ∀ x0 x1 x2 x3, (State.levelWord x0 x1 x2 x3).core = x0.core := by
  intro x0 x1 x2 x3
  simp only [State.levelWord, core_ite, ite_self, lose_core, deliver_core]

@[simp] theorem levelInputs_core : ∀ x0 x1, (State.levelInputs x0 x1).core = x0.core := by
  intro x0 x1
  simp only [State.levelInputs, ↓core_mk, core_eta, levelWord_core]

@[simp] theorem cyclePoints_core : ∀ x0, (State.cyclePoints x0).core = x0.core := by
  intro x0
  simp only [State.cyclePoints, putAll_core]

@[simp] theorem stepFour_core : ∀ x0, (State.stepFour x0).core = x0.core := by
  intro x0
  simp only [State.stepFour, ↓core_mk, core_eta, implies_true, foldl_core, evalOrdinary_core, startTask_core, advance_core]

@[simp] theorem closeTasks_core : ∀ x0, (State.closeTasks x0).core = x0.core := by
  intro x0
  simp only [State.closeTasks, core_ite, ite_self, advance_core, runChecks_core, forceApply_core, cyclePoints_core, revertDue_core, swapDue_core, stepFour_core, holdStatus_core]

@[simp] theorem proofMissed_core : ∀ x0, (State.proofMissed x0).core = x0.core := by
  intro x0
  simp only [State.proofMissed, core_ite, ite_self, closeTasks_core, missProof_core, advanceTo_core]

@[simp] theorem noteSlack_core : ∀ x0, (State.noteSlack x0).core = x0.core := by
  intro x0
  simp only [State.noteSlack, ↓core_mk, core_eta]

@[simp] theorem tasksStop_core : ∀ x0, (State.tasksStop x0).core = x0.core := by
  intro x0
  simp only [State.tasksStop, ↓core_mk, core_eta]

@[simp] theorem overrunCount_core : ∀ x0 x1, (State.overrunCount x0 x1).core = x0.core := by
  intro x0 x1
  simp only [State.overrunCount, ↓core_mk, core_eta, triggers_core, raiseWith_core, setFlag_core, count_core]

@[simp] theorem overrun_core : ∀ x0, (State.overrun x0).core = x0.core := by
  intro x0
  simp only [State.overrun, core_ite, ite_self, noteSlack_core, overrunCount_core, tasksStop_core]

@[simp] theorem freezeImage_core : ∀ x0, (State.freezeImage x0).core = x0.core := by
  intro x0
  simp only [State.freezeImage, ↓core_mk, core_eta]

@[simp] theorem cycleDone_core : ∀ x0, (State.cycleDone x0).core = x0.core := by
  intro x0
  simp only [State.cycleDone, ↓core_mk, core_eta, sample_core, noteSlack_core]

@[simp] theorem freeze_core : ∀ x0, (State.freeze x0).core = x0.core := by
  intro x0
  simp only [State.freeze, core_ite, ite_self, loopOutputs_core, tasksStop_core, cycleDone_core, forceApply_core, replayFreeze_core, capFreeze_core, redFreeze_core, safeFreeze_core, freezeImage_core]

@[simp] theorem replaySkip_core : ∀ x0, (State.replaySkip x0).core = x0.core := by
  intro x0
  simp only [State.replaySkip, ↓core_mk, core_eta, core_ite, ite_self]

@[simp] theorem putMeasured_core : ∀ x0 x1 x2, (State.putMeasured x0 x1 x2).core = x0.core := by
  intro x0 x1 x2
  unfold State.putMeasured; (repeat' split) <;> simp only [putGood_core]

@[simp] theorem pumpPoints_core : ∀ x0 x1, (State.pumpPoints x0 x1).core = x0.core := by
  intro x0 x1
  simp only [State.pumpPoints, core_ite, ite_self, putAll_core, putMeasured_core]

@[simp] theorem freezePoints_core : ∀ x0 x1, (State.freezePoints x0 x1).core = x0.core := by
  intro x0 x1
  simp only [State.freezePoints, pumpPoints_core, powerPoints_core, safePoints_core, redPoints_core, publishLoops_core]

@[simp] theorem boundaryGrid_core (b s : State) : (State.boundaryGrid b s).core = s.core := by
  unfold State.boundaryGrid
  dsimp only
  split
  · rw [realign_core, stepBoundary_core]
  · exact stepBoundary_core _

@[simp] theorem timersResume_core : ∀ x0, (State.timersResume x0).core = x0.core := by
  intro x0
  simp only [State.timersResume, ↓core_mk, core_eta]

@[simp] theorem holdSnapshot_core : ∀ x0, (State.holdSnapshot x0).core = x0.core := by
  intro x0
  simp only [State.holdSnapshot, userSnapshot_core, armSnapshot_core, loopHoldSnapshot_core]

@[simp] theorem collection_core : ∀ x0, (State.collection x0).core = x0.core := by
  intro x0
  simp only [State.collection, core_ite, ite_self, solvCollect_core, collect_core, closePost_core, solvSettle_core, sendWarmPart_core]

@[simp] theorem holdWork_core : ∀ x0, (State.holdWork x0).core = x0.core := by
  intro x0
  simp only [State.holdWork, core_ite, ite_self, troughOpen_core, obsBoundary_core, holdStream_core, collection_core, holdSnapshot_core]

@[simp] theorem boundaryHold_core : ∀ x0, (State.boundaryHold x0).core = x0.core := by
  intro x0
  simp only [State.boundaryHold, ↓core_mk, core_eta, core_ite, ite_self, holdWork_core, loadNote_core, doSwitchIn_core, holdStatus_core, tauNote_core, allocPoints_core]

@[simp] theorem boundarySend_core : ∀ x0, (State.boundarySend x0).core = x0.core := by
  intro x0
  simp only [State.boundarySend, core_ite, ite_self, redBoundary_core, spanSend_core, sendFrames_core, safeBoundary_core, gpioDrive_core]

@[simp] theorem frameClose_core : ∀ x0, (State.frameClose x0).core = x0.core := by
  intro x0
  simp only [State.frameClose, core_ite, ite_self, holdStatus_core, sendObsPart_core, troughClose_core]

@[simp] theorem sensorArrives_core : ∀ x0 x1 x2 x3, (State.sensorArrives x0 x1 x2 x3).core = x0.core := by
  intro x0 x1 x2 x3
  simp only [State.sensorArrives, core_ite, ite_self, stampReached_core, frameClose_core, sensorMessage_core]

@[simp] theorem tick_core : ∀ x0, (State.tick x0).core = x0.core := by
  intro x0
  simp only [State.tick, core_ite, ite_self, drainRx_core, advance_core]

@[simp] theorem quietRest_core : ∀ x0, (State.quietRest x0).core = x0.core := by
  intro x0
  simp only [State.quietRest, ↓core_mk, core_eta]

end Sys2Proof.Laws
end

