-- ==== Sys2Proof/Laws/FrameBase.lean ====
section
/-! SUPPORT. What the operations leave alone: queue, variant, grade and fuse bank, for the operations that change mode, phase or cycle count. -/

set_option linter.all false

namespace Sys2Proof.Laws
open Sys2Proof.Machine

theorem base_of_core (a b : State) (h : a.core = b.core) : a.base = b.base := congrArg (fun c : Core => (c.1, c.2.1, c.2.2.1, c.2.2.2.1)) h

theorem base_mk (a0 a1 a2 a3 a4 a5 a6 a7 a8 a9 a10 a11 a12 a13 a14 a15 a16 a17 a18 a19 a20 a21 a22 a23 a24 a25 a26 a27 a28 a29 a30 a31 a32 a33 a34 a35 a36 a37 a38 a39 a40 a41) : State.base (State.mk a0 a1 a2 a3 a4 a5 a6 a7 a8 a9 a10 a11 a12 a13 a14 a15 a16 a17 a18 a19 a20 a21 a22 a23 a24 a25 a26 a27 a28 a29 a30 a31 a32 a33 a34 a35 a36 a37 a38 a39 a40 a41) = (a0, a2, a3, a4) := (rfl)

theorem base_eta (x : State) : (x.pending, x.variant, x.gradeXT, x.fuses) = x.base := (rfl)

theorem base_ite (c : Prop) [Decidable c] (x y : State) : (if c then x else y).base = if c then x.base else y.base := apply_ite State.base c x y

theorem foldl_base {α : Type} (f : State → α → State) (h : ∀ s x, (f s x).base = s.base) (l : List α) (s : State) : (l.foldl f s).base = s.base := by
  induction l generalizing s with
  | nil => rfl
  | cons a t ih => rw [List.foldl_cons, ih, h]

@[simp] theorem undoOwn_base : ∀ x0 x1, (State.undoOwn x0 x1).base = x0.base := fun x0 x1 => base_of_core _ _ (undoOwn_core x0 x1)

@[simp] theorem applyRecord_base : ∀ x0 x1, (State.applyRecord x0 x1).base = x0.base := fun x0 x1 => base_of_core _ _ (applyRecord_core x0 x1)

@[simp] theorem applyMarks_base : ∀ x0 x1, (State.applyMarks x0 x1).base = x0.base := fun x0 x1 => base_of_core _ _ (applyMarks_core x0 x1)

@[simp] theorem proofBytes_base : ∀ x0 x1, (State.proofBytes x0 x1).base = x0.base := fun x0 x1 => base_of_core _ _ (proofBytes_core x0 x1)

@[simp] theorem setFlag_base : ∀ x0 x1 x2 x3, (State.setFlag x0 x1 x2 x3).base = x0.base := fun x0 x1 x2 x3 => base_of_core _ _ (setFlag_core x0 x1 x2 x3)

@[simp] theorem tasksOff_base : ∀ x0, (State.tasksOff x0).base = x0.base := fun x0 => base_of_core _ _ (tasksOff_core x0)

@[simp] theorem unsync_base : ∀ x0, (State.unsync x0).base = x0.base := fun x0 => base_of_core _ _ (unsync_core x0)

@[simp] theorem sleepBegin_base : ∀ x0, (State.sleepBegin x0).base = x0.base := fun x0 => base_of_core _ _ (sleepBegin_core x0)

@[simp] theorem gpioFloat_base : ∀ x0, (State.gpioFloat x0).base = x0.base := fun x0 => base_of_core _ _ (gpioFloat_core x0)
@[simp] theorem ppsFloat_base : ∀ x0, (State.ppsFloat x0).base = x0.base := fun x0 => base_of_core _ _ (ppsFloat_core x0)

@[simp] theorem set_base : ∀ x0 x1 x2 x3, (State.set x0 x1 x2 x3).base = x0.base := fun x0 x1 x2 x3 => base_of_core _ _ (set_core x0 x1 x2 x3)

@[simp] theorem txnDiscard_base : ∀ x0, (State.txnDiscard x0).base = x0.base := fun x0 => base_of_core _ _ (txnDiscard_core x0)

@[simp] theorem coldReload_base : ∀ x0, (State.coldReload x0).base = x0.base := fun x0 => base_of_core _ _ (coldReload_core x0)

@[simp] theorem mirrorNow_base : ∀ x0, (State.mirrorNow x0).base = x0.base := fun x0 => base_of_core _ _ (mirrorNow_core x0)

@[simp] theorem obsRestart_base : ∀ x0 x1, (State.obsRestart x0 x1).base = x0.base := fun x0 x1 => base_of_core _ _ (obsRestart_core x0 x1)

@[simp] theorem pumpRestart_base : ∀ x0 x1, (State.pumpRestart x0 x1).base = x0.base := fun x0 x1 => base_of_core _ _ (pumpRestart_core x0 x1)

@[simp] theorem pointsRestart_base : ∀ x0 x1, (State.pointsRestart x0 x1).base = x0.base := fun x0 x1 => base_of_core _ _ (pointsRestart_core x0 x1)

@[simp] theorem plateRestart_base : ∀ x0 x1, (State.plateRestart x0 x1).base = x0.base := fun x0 x1 => base_of_core _ _ (plateRestart_core x0 x1)

@[simp] theorem loopsRestart_base : ∀ x0 x1, (State.loopsRestart x0 x1).base = x0.base := fun x0 x1 => base_of_core _ _ (loopsRestart_core x0 x1)

@[simp] theorem blocksRestart_base : ∀ x0, (State.blocksRestart x0).base = x0.base := fun x0 => base_of_core _ _ (blocksRestart_core x0)

@[simp] theorem raise_base : ∀ x0 x1, (State.raise x0 x1).base = x0.base := fun x0 x1 => base_of_core _ _ (raise_core x0 x1)

@[simp] theorem resetRecorder_base : ∀ x0, (State.resetRecorder x0).base = x0.base := fun x0 => base_of_core _ _ (resetRecorder_core x0)

@[simp] theorem slotFields_base : ∀ x0 x1, (State.slotFields x0 x1).base = x0.base := fun x0 x1 => base_of_core _ _ (slotFields_core x0 x1)

@[simp] theorem syncWait_base : ∀ x0, (State.syncWait x0).base = x0.base := fun x0 => base_of_core _ _ (syncWait_core x0)

@[simp] theorem safeRefresh_base : ∀ x0, (State.safeRefresh x0).base = x0.base := fun x0 => base_of_core _ _ (safeRefresh_core x0)

@[simp] theorem tripAll_base : ∀ x0, (State.tripAll x0).base = x0.base := fun x0 => base_of_core _ _ (tripAll_core x0)

@[simp] theorem replayPump_base : ∀ x0 x1, (State.replayPump x0 x1).base = x0.base := fun x0 x1 => base_of_core _ _ (replayPump_core x0 x1)

@[simp] theorem replayImage_base : ∀ x0, (State.replayImage x0).base = x0.base := fun x0 => base_of_core _ _ (replayImage_core x0)

@[simp] theorem forceKeep_base : ∀ x0 x1 x2, (State.forceKeep x0 x1 x2).base = x1.base := fun x0 x1 x2 => base_of_core _ _ (forceKeep_core x0 x1 x2)

@[simp] theorem replayInputs_base : ∀ x0, (State.replayInputs x0).base = x0.base := fun x0 => base_of_core _ _ (replayInputs_core x0)

@[simp] theorem closeSpan_base : ∀ x0, (State.closeSpan x0).base = x0.base := fun x0 => base_of_core _ _ (closeSpan_core x0)

@[simp] theorem levelInputs_base : ∀ x0 x1, (State.levelInputs x0 x1).base = x0.base := fun x0 x1 => base_of_core _ _ (levelInputs_core x0 x1)

@[simp] theorem sensorInputs_base : ∀ x0, (State.sensorInputs x0).base = x0.base := fun x0 => base_of_core _ _ (sensorInputs_core x0)

@[simp] theorem closeStations_base : ∀ x0, (State.closeStations x0).base = x0.base := fun x0 => base_of_core _ _ (closeStations_core x0)

@[simp] theorem redClose_base : ∀ x0, (State.redClose x0).base = x0.base := fun x0 => base_of_core _ _ (redClose_core x0)

@[simp] theorem capInputs_base : ∀ x0, (State.capInputs x0).base = x0.base := fun x0 => base_of_core _ _ (capInputs_core x0)

@[simp] theorem advanceTo_base : ∀ x0 x1, (State.advanceTo x0 x1).base = x0.base := fun x0 x1 => base_of_core _ _ (advanceTo_core x0 x1)

@[simp] theorem holdStatus_base : ∀ x0 x1, (State.holdStatus x0 x1).base = x1.base := fun x0 x1 => base_of_core _ _ (holdStatus_core x0 x1)

@[simp] theorem closeTasks_base : ∀ x0, (State.closeTasks x0).base = x0.base := fun x0 => base_of_core _ _ (closeTasks_core x0)

@[simp] theorem proofMissed_base : ∀ x0, (State.proofMissed x0).base = x0.base := fun x0 => base_of_core _ _ (proofMissed_core x0)

@[simp] theorem mirrorInstant_base : ∀ x0 x1, (State.mirrorInstant x0 x1).base = x0.base := fun x0 x1 => base_of_core _ _ (mirrorInstant_core x0 x1)

@[simp] theorem freezePoints_base : ∀ x0 x1, (State.freezePoints x0 x1).base = x0.base := fun x0 x1 => base_of_core _ _ (freezePoints_core x0 x1)

@[simp] theorem capCycle_base : ∀ x0, (State.capCycle x0).base = x0.base := fun x0 => base_of_core _ _ (capCycle_core x0)

@[simp] theorem spanNewCycle_base : ∀ x0, (State.spanNewCycle x0).base = x0.base := fun x0 => base_of_core _ _ (spanNewCycle_core x0)

@[simp] theorem stnNewCycle_base : ∀ x0, (State.stnNewCycle x0).base = x0.base := fun x0 => base_of_core _ _ (stnNewCycle_core x0)

@[simp] theorem upset_base : ∀ x0 x1, (State.upset x0 x1).base = x0.base := fun x0 x1 => base_of_core _ _ (upset_core x0 x1)

@[simp] theorem scrub_base : ∀ x0, (State.scrub x0).base = x0.base := fun x0 => base_of_core _ _ (scrub_core x0)

@[simp] theorem imgSaveBoundary_base : ∀ x0, (State.imgSaveBoundary x0).base = x0.base := fun x0 => base_of_core _ _ (imgSaveBoundary_core x0)

@[simp] theorem txnApply_base : ∀ x0, (State.txnApply x0).base = x0.base := fun x0 => base_of_core _ _ (txnApply_core x0)

@[simp] theorem timersResume_base : ∀ x0, (State.timersResume x0).base = x0.base := fun x0 => base_of_core _ _ (timersResume_core x0)

@[simp] theorem plateBoundary_base : ∀ x0, (State.plateBoundary x0).base = x0.base := fun x0 => base_of_core _ _ (plateBoundary_core x0)

@[simp] theorem boundarySend_base : ∀ x0, (State.boundarySend x0).base = x0.base := fun x0 => base_of_core _ _ (boundarySend_core x0)

@[simp] theorem boundaryHold_base : ∀ x0, (State.boundaryHold x0).base = x0.base := fun x0 => base_of_core _ _ (boundaryHold_core x0)

@[simp] theorem boundaryGrid_base : ∀ x0 x1, (State.boundaryGrid x0 x1).base = x1.base := fun x0 x1 => base_of_core _ _ (boundaryGrid_core x0 x1)

@[simp] theorem rolesAt_base : ∀ x0 x1, (State.rolesAt x0 x1).base = x0.base := fun x0 x1 => base_of_core _ _ (rolesAt_core x0 x1)

@[simp] theorem takeN_base : ∀ x0 x1, (State.takeN x0 x1).base = x0.base := by
  intro x0 x1
  simp only [State.takeN, ↓base_mk, base_eta]

@[simp] theorem applyProof_base : ∀ x0 x1, (State.applyProof x0 x1).base = x0.base := by
  intro x0 x1
  simp only [State.applyProof, ↓base_mk, base_eta, implies_true, foldl_base, undoOwn_base, takeN_base, applyRecord_base, applyMarks_base, proofBytes_base]

@[simp] theorem lockstepTake_base : ∀ x0, (State.lockstepTake x0).base = x0.base := by
  intro x0
  unfold State.lockstepTake; dsimp only; (repeat' split) <;> simp only [↓base_mk, base_eta, implies_true, foldl_base, applyRecord_base, takeN_base]

@[simp] theorem enterPark_base : ∀ x0, (State.enterPark x0).base = x0.base := by
  intro x0
  simp only [State.enterPark, ↓base_mk, base_eta, base_ite, ite_self, setFlag_base, tasksOff_base, unsync_base]

@[simp] theorem enterRun_base : ∀ x0, (State.enterRun x0).base = x0.base := by
  intro x0
  simp only [State.enterRun, ↓base_mk, base_eta, setFlag_base]

@[simp] theorem pwrBoundary_base : ∀ x0, (State.pwrBoundary x0).base = x0.base := by
  intro x0
  unfold State.pwrBoundary; (repeat' split) <;> simp only [↓base_mk, base_eta, enterRun_base, enterPark_base, sleepBegin_base]

@[simp] theorem sleepEnter_base : ∀ x0, (State.sleepEnter x0).base = x0.base := by
  intro x0
  simp only [State.sleepEnter, ↓base_mk, base_eta, base_ite, ite_self, setFlag_base, tasksOff_base, ppsFloat_base, gpioFloat_base]

@[simp] theorem replayLeave_base : ∀ x0, (State.replayLeave x0).base = x0.base := by
  intro x0
  simp only [State.replayLeave, ↓base_mk, base_eta, base_ite, ite_self, set_base]

@[simp] theorem budgetPark_base : ∀ x0, (State.budgetPark x0).base = x0.base := by
  intro x0
  simp only [State.budgetPark, base_ite, ite_self, enterPark_base]

@[simp] theorem restartAt_base : ∀ x0 x1, (State.restartAt x0 x1).base = x0.base := by
  intro x0 x1
  simp only [State.restartAt, base_ite, ite_self, replayLeave_base, txnDiscard_base, coldReload_base, mirrorNow_base, obsRestart_base, pumpRestart_base, pointsRestart_base, plateRestart_base, loopsRestart_base, blocksRestart_base, budgetPark_base, raise_base]

@[simp] theorem restartBoundary_base : ∀ x0, (State.restartBoundary x0).base = x0.base := by
  intro x0
  unfold State.restartBoundary; (repeat' split) <;> simp only [↓base_mk, base_eta, restartAt_base]

@[simp] theorem resetState_base : ∀ x0 x1, (State.resetState x0 x1).base = x0.base := by
  intro x0 x1
  simp only [State.resetState, ↓base_mk, base_eta, slotFields_base]

@[simp] theorem bootAt_base : ∀ x0 x1, (State.bootAt x0 x1).base = x0.base := by
  intro x0 x1
  simp only [State.bootAt, ↓base_mk, base_eta, set_base]

@[simp] theorem bootDone_base : ∀ x0, (State.bootDone x0).base = x0.base := by
  intro x0
  simp only [State.bootDone, ↓base_mk, base_eta, base_ite, ite_self, syncWait_base, set_base, safeRefresh_base, tripAll_base]

@[simp] theorem runEntry_base : ∀ x0, (State.runEntry x0).base = x0.base := by
  intro x0
  simp only [State.runEntry, base_ite, ite_self, enterRun_base, enterPark_base, raise_base, setFlag_base]

@[simp] theorem replayBegin_base : ∀ x0 x1, (State.replayBegin x0 x1).base = x0.base := by
  intro x0 x1
  simp only [State.replayBegin, ↓base_mk, base_eta, set_base, replayPump_base, replayImage_base, loopsRestart_base]

@[simp] theorem replayFinish_base (s : State) : s.replayFinish.base = s.base := by
  unfold State.replayFinish
  refine (foldl_base _ (fun u e => forceKeep_base _ _ _) _ _).trans ?_
  rw [loopsRestart_base, replayPump_base, replayImage_base, replayLeave_base]

@[simp] theorem replayComplete_base : ∀ x0, (State.replayComplete x0).base = x0.base := by
  intro x0
  simp only [State.replayComplete, base_ite, ite_self, replayFinish_base]

@[simp] theorem replayBoundary_base : ∀ x0, (State.replayBoundary x0).base = x0.base := by
  intro x0
  unfold State.replayBoundary; (repeat' split) <;> simp only [↓base_mk, base_eta, replayFinish_base, replayBegin_base]

@[simp] theorem closeInputs_base : ∀ x0 x1, (State.closeInputs x0 x1).base = x0.base := by
  intro x0 x1
  simp only [State.closeInputs, ↓base_mk, base_eta, base_ite, ite_self, replayInputs_base, closeSpan_base, levelInputs_base, sensorInputs_base, closeStations_base, lockstepTake_base, redClose_base, capInputs_base]

@[simp] theorem windowClose_base : ∀ x0 x1, (State.windowClose x0 x1).base = x0.base := by
  intro x0 x1
  unfold State.windowClose; dsimp only; (repeat' split) <;> simp only [↓base_mk, base_eta, advanceTo_base, holdStatus_base, closeInputs_base, closeTasks_base, applyProof_base]

@[simp] theorem plateSwap_base : ∀ x0, (State.plateSwap x0).base = x0.base := by
  intro x0
  simp only [State.plateSwap, base_ite, ite_self, windowClose_base]

@[simp] theorem plateRevertApply_base : ∀ x0, (State.plateRevertApply x0).base = x0.base := by
  intro x0
  simp only [State.plateRevertApply, base_ite, ite_self, windowClose_base]

@[simp] theorem proofApply_base : ∀ x0, (State.proofApply x0).base = x0.base := by
  intro x0
  unfold State.proofApply; (repeat' split) <;> simp only [closeTasks_base, applyProof_base]

@[simp] theorem proofSettle_base : ∀ x0, (State.proofSettle x0).base = x0.base := by
  intro x0
  simp only [State.proofSettle, proofMissed_base, proofApply_base]

@[simp] theorem cycleEnd_base : ∀ x0 x1 x2, (State.cycleEnd x0 x1 x2).base = x0.base := by
  intro x0 x1 x2
  simp only [State.cycleEnd, ↓base_mk, base_eta, mirrorInstant_base, freezePoints_base, capCycle_base]

@[simp] theorem idleReserve_base : ∀ x0, (State.idleReserve x0).base = x0.base := by
  intro x0
  simp only [State.idleReserve, ↓base_mk, base_eta, cycleEnd_base]

@[simp] theorem windowDue_base : ∀ x0, (State.windowDue x0).base = x0.base := by
  intro x0
  simp only [State.windowDue, base_ite, ite_self, windowClose_base]

@[simp] theorem newCycle_base : ∀ x0 x1, (State.newCycle x0 x1).base = x0.base := by
  intro x0 x1
  simp only [State.newCycle, ↓base_mk, base_eta, base_ite, ite_self, advanceTo_base, spanNewCycle_base, stnNewCycle_base, setFlag_base]

@[simp] theorem boundaryHost_base : ∀ x0 x1, (State.boundaryHost x0 x1).base = x0.base := by
  intro x0 x1
  simp only [State.boundaryHost, implies_true, foldl_base, upset_base, scrub_base, imgSaveBoundary_base, txnApply_base, restartBoundary_base]

@[simp] theorem boundaryModes_base : ∀ x0, (State.boundaryModes x0).base = x0.base := by
  intro x0
  simp only [State.boundaryModes, ↓base_mk, base_eta, base_ite, ite_self, pwrBoundary_base, timersResume_base, replayBoundary_base, plateBoundary_base]

@[simp] theorem boundaryWork_base : ∀ x0 x1, (State.boundaryWork x0 x1).base = x0.base := by
  intro x0 x1
  simp only [State.boundaryWork, boundaryHost_base, boundarySend_base, boundaryHold_base, boundaryModes_base, boundaryGrid_base]

@[simp] theorem firstCycle_base : ∀ x0, (State.firstCycle x0).base = x0.base := by
  intro x0
  simp only [State.firstCycle, runEntry_base, newCycle_base]

@[simp] theorem laterCycle_base : ∀ x0, (State.laterCycle x0).base = x0.base := by
  intro x0
  simp only [State.laterCycle, advanceTo_base, newCycle_base, rolesAt_base]

end Sys2Proof.Laws
end

