-- ==== Sys2Proof/Laws/FrameClk.lean ====
section
/-! SUPPORT. What the operations leave alone: phase and cycle count, for the operations that change the mode or the fuses. -/

set_option linter.all false

namespace Sys2Proof.Laws
open Sys2Proof.Machine

theorem clk_of_core (a b : State) (h : a.core = b.core) : a.clk = b.clk := congrArg (fun c : Core => (c.2.2.2.2.2.1, c.2.2.2.2.2.2)) h

theorem clk_mk (a0 a1 a2 a3 a4 a5 a6 a7 a8 a9 a10 a11 a12 a13 a14 a15 a16 a17 a18 a19 a20 a21 a22 a23 a24 a25 a26 a27 a28 a29 a30 a31 a32 a33 a34 a35 a36 a37 a38 a39 a40 a41) : State.clk (State.mk a0 a1 a2 a3 a4 a5 a6 a7 a8 a9 a10 a11 a12 a13 a14 a15 a16 a17 a18 a19 a20 a21 a22 a23 a24 a25 a26 a27 a28 a29 a30 a31 a32 a33 a34 a35 a36 a37 a38 a39 a40 a41) = (a6, a11) := (rfl)

theorem clk_eta (x : State) : (x.phase, x.n) = x.clk := (rfl)

theorem clk_ite (c : Prop) [Decidable c] (x y : State) : (if c then x else y).clk = if c then x.clk else y.clk := apply_ite State.clk c x y

theorem foldl_clk {α : Type} (f : State → α → State) (h : ∀ s x, (f s x).clk = s.clk) (l : List α) (s : State) : (l.foldl f s).clk = s.clk := by
  induction l generalizing s with
  | nil => rfl
  | cons a t ih => rw [List.foldl_cons, ih, h]

@[simp] theorem set_clk : ∀ x0 x1 x2 x3, (State.set x0 x1 x2 x3).clk = x0.clk := fun x0 x1 x2 x3 => clk_of_core _ _ (set_core x0 x1 x2 x3)

@[simp] theorem setFlag_clk : ∀ x0 x1 x2 x3, (State.setFlag x0 x1 x2 x3).clk = x0.clk := fun x0 x1 x2 x3 => clk_of_core _ _ (setFlag_core x0 x1 x2 x3)

@[simp] theorem raise_clk : ∀ x0 x1, (State.raise x0 x1).clk = x0.clk := fun x0 x1 => clk_of_core _ _ (raise_core x0 x1)

@[simp] theorem draw_clk : ∀ x0 x1, (State.draw x0 x1).2.clk = x0.clk := fun x0 x1 => clk_of_core _ _ (draw_core x0 x1)

@[simp] theorem tasksOff_clk : ∀ x0, (State.tasksOff x0).clk = x0.clk := fun x0 => clk_of_core _ _ (tasksOff_core x0)

@[simp] theorem unsync_clk : ∀ x0, (State.unsync x0).clk = x0.clk := fun x0 => clk_of_core _ _ (unsync_core x0)

@[simp] theorem sleepBegin_clk : ∀ x0, (State.sleepBegin x0).clk = x0.clk := fun x0 => clk_of_core _ _ (sleepBegin_core x0)

@[simp] theorem txnDiscard_clk : ∀ x0, (State.txnDiscard x0).clk = x0.clk := fun x0 => clk_of_core _ _ (txnDiscard_core x0)

@[simp] theorem coldReload_clk : ∀ x0, (State.coldReload x0).clk = x0.clk := fun x0 => clk_of_core _ _ (coldReload_core x0)

@[simp] theorem mirrorNow_clk : ∀ x0, (State.mirrorNow x0).clk = x0.clk := fun x0 => clk_of_core _ _ (mirrorNow_core x0)

@[simp] theorem obsRestart_clk : ∀ x0 x1, (State.obsRestart x0 x1).clk = x0.clk := fun x0 x1 => clk_of_core _ _ (obsRestart_core x0 x1)

@[simp] theorem pumpRestart_clk : ∀ x0 x1, (State.pumpRestart x0 x1).clk = x0.clk := fun x0 x1 => clk_of_core _ _ (pumpRestart_core x0 x1)

@[simp] theorem pointsRestart_clk : ∀ x0 x1, (State.pointsRestart x0 x1).clk = x0.clk := fun x0 x1 => clk_of_core _ _ (pointsRestart_core x0 x1)

@[simp] theorem plateRestart_clk : ∀ x0 x1, (State.plateRestart x0 x1).clk = x0.clk := fun x0 x1 => clk_of_core _ _ (plateRestart_core x0 x1)

@[simp] theorem loopsRestart_clk : ∀ x0 x1, (State.loopsRestart x0 x1).clk = x0.clk := fun x0 x1 => clk_of_core _ _ (loopsRestart_core x0 x1)

@[simp] theorem blocksRestart_clk : ∀ x0, (State.blocksRestart x0).clk = x0.clk := fun x0 => clk_of_core _ _ (blocksRestart_core x0)

@[simp] theorem syncWait_clk : ∀ x0, (State.syncWait x0).clk = x0.clk := fun x0 => clk_of_core _ _ (syncWait_core x0)

@[simp] theorem safeRefresh_clk : ∀ x0, (State.safeRefresh x0).clk = x0.clk := fun x0 => clk_of_core _ _ (safeRefresh_core x0)

@[simp] theorem tripAll_clk : ∀ x0, (State.tripAll x0).clk = x0.clk := fun x0 => clk_of_core _ _ (tripAll_core x0)

@[simp] theorem replayPump_clk : ∀ x0 x1, (State.replayPump x0 x1).clk = x0.clk := fun x0 x1 => clk_of_core _ _ (replayPump_core x0 x1)

@[simp] theorem replayImage_clk : ∀ x0, (State.replayImage x0).clk = x0.clk := fun x0 => clk_of_core _ _ (replayImage_core x0)

@[simp] theorem forceKeep_clk : ∀ x0 x1 x2, (State.forceKeep x0 x1 x2).clk = x1.clk := fun x0 x1 x2 => clk_of_core _ _ (forceKeep_core x0 x1 x2)

@[simp] theorem upset_clk : ∀ x0 x1, (State.upset x0 x1).clk = x0.clk := fun x0 x1 => clk_of_core _ _ (upset_core x0 x1)

@[simp] theorem scrub_clk : ∀ x0, (State.scrub x0).clk = x0.clk := fun x0 => clk_of_core _ _ (scrub_core x0)

@[simp] theorem imgSaveBoundary_clk : ∀ x0, (State.imgSaveBoundary x0).clk = x0.clk := fun x0 => clk_of_core _ _ (imgSaveBoundary_core x0)

@[simp] theorem txnApply_clk : ∀ x0, (State.txnApply x0).clk = x0.clk := fun x0 => clk_of_core _ _ (txnApply_core x0)

@[simp] theorem timersResume_clk : ∀ x0, (State.timersResume x0).clk = x0.clk := fun x0 => clk_of_core _ _ (timersResume_core x0)

@[simp] theorem plateBoundary_clk : ∀ x0, (State.plateBoundary x0).clk = x0.clk := fun x0 => clk_of_core _ _ (plateBoundary_core x0)

@[simp] theorem boundarySend_clk : ∀ x0, (State.boundarySend x0).clk = x0.clk := fun x0 => clk_of_core _ _ (boundarySend_core x0)

@[simp] theorem boundaryHold_clk : ∀ x0, (State.boundaryHold x0).clk = x0.clk := fun x0 => clk_of_core _ _ (boundaryHold_core x0)

@[simp] theorem boundaryGrid_clk : ∀ x0 x1, (State.boundaryGrid x0 x1).clk = x1.clk := fun x0 x1 => clk_of_core _ _ (boundaryGrid_core x0 x1)

@[simp] theorem fuseDone_clk : ∀ x0, (State.fuseDone x0).clk = x0.clk := by
  intro x0
  unfold State.fuseDone; (repeat' split) <;> simp only [↓clk_mk, clk_eta, set_clk, setFlag_clk, raise_clk]

@[simp] theorem fuseCut_clk : ∀ x0, (State.fuseCut x0).clk = x0.clk := by
  intro x0
  unfold State.fuseCut; (repeat' split) <;> simp only [↓clk_mk, clk_eta, clk_ite, ite_self, draw_clk]

@[simp] theorem enterPark_clk : ∀ x0, (State.enterPark x0).clk = x0.clk := by
  intro x0
  simp only [State.enterPark, ↓clk_mk, clk_eta, clk_ite, ite_self, setFlag_clk, tasksOff_clk, unsync_clk]

@[simp] theorem enterRun_clk : ∀ x0, (State.enterRun x0).clk = x0.clk := by
  intro x0
  simp only [State.enterRun, ↓clk_mk, clk_eta, setFlag_clk]

@[simp] theorem pwrBoundary_clk : ∀ x0, (State.pwrBoundary x0).clk = x0.clk := by
  intro x0
  unfold State.pwrBoundary; (repeat' split) <;> simp only [↓clk_mk, clk_eta, enterRun_clk, enterPark_clk, sleepBegin_clk]

@[simp] theorem replayLeave_clk : ∀ x0, (State.replayLeave x0).clk = x0.clk := by
  intro x0
  simp only [State.replayLeave, ↓clk_mk, clk_eta, clk_ite, ite_self, set_clk]

@[simp] theorem budgetPark_clk : ∀ x0, (State.budgetPark x0).clk = x0.clk := by
  intro x0
  simp only [State.budgetPark, clk_ite, ite_self, enterPark_clk]

@[simp] theorem restartAt_clk : ∀ x0 x1, (State.restartAt x0 x1).clk = x0.clk := by
  intro x0 x1
  simp only [State.restartAt, clk_ite, ite_self, replayLeave_clk, txnDiscard_clk, coldReload_clk, mirrorNow_clk, obsRestart_clk, pumpRestart_clk, pointsRestart_clk, plateRestart_clk, loopsRestart_clk, blocksRestart_clk, budgetPark_clk, raise_clk]

@[simp] theorem restartBoundary_clk : ∀ x0, (State.restartBoundary x0).clk = x0.clk := by
  intro x0
  unfold State.restartBoundary; (repeat' split) <;> simp only [↓clk_mk, clk_eta, restartAt_clk]

@[simp] theorem bootAt_clk : ∀ x0 x1, (State.bootAt x0 x1).clk = x0.clk := by
  intro x0 x1
  simp only [State.bootAt, ↓clk_mk, clk_eta, set_clk]

@[simp] theorem bootDone_clk : ∀ x0, (State.bootDone x0).clk = x0.clk := by
  intro x0
  simp only [State.bootDone, ↓clk_mk, clk_eta, clk_ite, ite_self, syncWait_clk, set_clk, safeRefresh_clk, tripAll_clk]

@[simp] theorem runEntry_clk : ∀ x0, (State.runEntry x0).clk = x0.clk := by
  intro x0
  simp only [State.runEntry, clk_ite, ite_self, enterRun_clk, enterPark_clk, raise_clk, setFlag_clk]

@[simp] theorem replayBegin_clk : ∀ x0 x1, (State.replayBegin x0 x1).clk = x0.clk := by
  intro x0 x1
  simp only [State.replayBegin, ↓clk_mk, clk_eta, set_clk, replayPump_clk, replayImage_clk, loopsRestart_clk]

@[simp] theorem replayFinish_clk (s : State) : s.replayFinish.clk = s.clk := by
  unfold State.replayFinish
  refine (foldl_clk _ (fun u e => forceKeep_clk _ _ _) _ _).trans ?_
  rw [loopsRestart_clk, replayPump_clk, replayImage_clk, replayLeave_clk]

@[simp] theorem replayComplete_clk : ∀ x0, (State.replayComplete x0).clk = x0.clk := by
  intro x0
  simp only [State.replayComplete, clk_ite, ite_self, replayFinish_clk]

@[simp] theorem replayBoundary_clk : ∀ x0, (State.replayBoundary x0).clk = x0.clk := by
  intro x0
  unfold State.replayBoundary; (repeat' split) <;> simp only [↓clk_mk, clk_eta, replayFinish_clk, replayBegin_clk]

@[simp] theorem boundaryHost_clk : ∀ x0 x1, (State.boundaryHost x0 x1).clk = x0.clk := by
  intro x0 x1
  simp only [State.boundaryHost, implies_true, foldl_clk, upset_clk, scrub_clk, imgSaveBoundary_clk, txnApply_clk, restartBoundary_clk]

@[simp] theorem boundaryModes_clk : ∀ x0, (State.boundaryModes x0).clk = x0.clk := by
  intro x0
  simp only [State.boundaryModes, ↓clk_mk, clk_eta, clk_ite, ite_self, pwrBoundary_clk, timersResume_clk, replayBoundary_clk, plateBoundary_clk]

@[simp] theorem boundaryWork_clk : ∀ x0 x1, (State.boundaryWork x0 x1).clk = x0.clk := by
  intro x0 x1
  simp only [State.boundaryWork, boundaryHost_clk, boundarySend_clk, boundaryHold_clk, boundaryModes_clk, boundaryGrid_clk]

end Sys2Proof.Laws
end

