-- ==== Sys2Proof/Laws/FrameKept.lean ====
section
/-! SUPPORT. Fuses are only blown: the operations that a fuse operation or a reset can stand behind (`State.kept`). -/

set_option linter.all false

namespace Sys2Proof.Laws
open Sys2Proof.Machine

theorem KeySlot_blown_refl (k : KeySlot) : k.blown k := ⟨fun h => ⟨h, rfl⟩, id⟩

theorem KeySlot_blown_trans {a b c : KeySlot} (h : a.blown b) (g : b.blown c) : a.blown c :=
  ⟨fun v => ⟨(g.1 (h.1 v).1).1, ((g.1 (h.1 v).1).2).trans (h.1 v).2⟩, fun v => g.2 (h.2 v)⟩

theorem blown_refl (f : Fuses) : f.blown f :=
  ⟨KeySlot_blown_refl _, KeySlot_blown_refl _, KeySlot_blown_refl _, KeySlot_blown_refl _, Nat.le_refl _, id, rfl, rfl⟩

theorem blown_trans {a b c : Fuses} (h : a.blown b) (g : b.blown c) : a.blown c := by
  obtain ⟨h0, h1, h2, h3, h4, h5, h6, h7⟩ := h
  obtain ⟨g0, g1, g2, g3, g4, g5, g6, g7⟩ := g
  exact ⟨KeySlot_blown_trans h0 g0, KeySlot_blown_trans h1 g1, KeySlot_blown_trans h2 g2, KeySlot_blown_trans h3 g3,
    Nat.le_trans h4 g4, fun v => g5 (h5 v), h6.trans g6, h7.trans g7⟩

theorem blown_setSlot (f : Fuses) (k : Nat) (v : KeySlot) (h : (f.slot k).blown v) : f.blown (f.setSlot k v) :=
  match k, h with
  | 0, h => ⟨h, KeySlot_blown_refl _, KeySlot_blown_refl _, KeySlot_blown_refl _, Nat.le_refl _, id, rfl, rfl⟩
  | 1, h => ⟨KeySlot_blown_refl _, h, KeySlot_blown_refl _, KeySlot_blown_refl _, Nat.le_refl _, id, rfl, rfl⟩
  | 2, h => ⟨KeySlot_blown_refl _, KeySlot_blown_refl _, h, KeySlot_blown_refl _, Nat.le_refl _, id, rfl, rfl⟩
  | _ + 3, h => ⟨KeySlot_blown_refl _, KeySlot_blown_refl _, KeySlot_blown_refl _, h, Nat.le_refl _, id, rfl, rfl⟩

theorem program_blown (k : KeySlot) (h : List Word) (v : Bool) : k.blown (k.program h v) := by
  unfold KeySlot.program
  split
  · exact KeySlot_blown_refl _
  · rename_i c
    have hv : k.valid = false := by cases e : k.valid <;> simp_all
    exact ⟨fun hk => by rw [hv] at hk; exact absurd hk (by decide), id⟩

theorem revoke_blown (k : KeySlot) (b : Bool) : k.blown (k.revoke b) :=
  ⟨fun h => ⟨h, rfl⟩, fun h => by show (k.revoked || b) = true; rw [h]; rfl⟩

theorem advance_blown (f : Fuses) (n : Nat) : f.blown (f.advance n) :=
  ⟨KeySlot_blown_refl _, KeySlot_blown_refl _, KeySlot_blown_refl _, KeySlot_blown_refl _, Nat.le_max_left _ _, id, rfl, rfl⟩

theorem closeDebug_blown (f : Fuses) (b : Bool) : f.blown (f.closeDebug b) :=
  ⟨KeySlot_blown_refl _, KeySlot_blown_refl _, KeySlot_blown_refl _, KeySlot_blown_refl _, Nat.le_refl _,
    fun h => by show (f.dbgOff || b) = true; rw [h]; rfl, rfl, rfl⟩

theorem kept_of_base {s t : State} (h : t.base = s.base) : s.kept t := by
  simp only [State.base, Prod.mk.injEq] at h
  obtain ⟨h1, h2, h3, h4⟩ := h
  exact ⟨h1, h2, h3, h4 ▸ blown_refl _⟩

theorem kept_of_core {s t : State} (h : t.core = s.core) : s.kept t := kept_of_base (base_of_core _ _ h)

theorem kept_refl (s : State) : s.kept s := kept_of_base rfl

theorem kept_trans {a b c : State} (h : a.kept b) (g : b.kept c) : a.kept c :=
  ⟨g.1.trans h.1, g.2.1.trans h.2.1, g.2.2.1.trans h.2.2.1, blown_trans h.2.2.2 g.2.2.2⟩

/-- What blows fuses further and leaves the rest of the base alone is kept. -/
theorem kept_fuses (s : State) (f : Fuses) (h : s.fuses.blown f) : s.kept { s with fuses := f } := ⟨rfl, rfl, rfl, h⟩

theorem fuseDone_kept (s : State) : s.kept s.fuseDone := by
  unfold State.fuseDone
  split
  · exact kept_refl _
  · dsimp only
    refine kept_trans (b := (({ s with sec := { s.sec with fuseOp := none } }).setFlag Reg.SEC_STAT_FUSE_BUSY false).set
      Reg.SEC_STAT_FUSE_RESULT Status.done.code) (kept_of_core (by rw [set_core, setFlag_core]; rfl)) ?_
    generalize (({ s with sec := { s.sec with fuseOp := none } }).setFlag Reg.SEC_STAT_FUSE_BUSY false).set
      Reg.SEC_STAT_FUSE_RESULT Status.done.code = t
    split
    · exact kept_trans (kept_fuses t _ (blown_setSlot _ _ _ (program_blown _ _ _))) (kept_of_core (raise_core _ _))
    · exact kept_trans (kept_fuses t _ (blown_setSlot _ _ _ (revoke_blown _ _))) (kept_of_core (raise_core _ _))
    · exact kept_trans (kept_fuses t _ (advance_blown _ _)) (kept_of_core (raise_core _ _))
    · exact kept_trans (kept_fuses t _ (closeDebug_blown _ _)) (kept_of_core (raise_core _ _))

theorem fuseCut_kept (s : State) : s.kept s.fuseCut := by
  unfold State.fuseCut
  split
  · exact kept_refl _
  · dsimp only
    split
    · split
      · exact kept_of_base rfl
      · exact ⟨rfl, rfl, rfl, blown_setSlot _ _ _ (program_blown _ _ _)⟩
    · exact ⟨rfl, rfl, rfl, blown_setSlot _ _ _ (revoke_blown _ _)⟩
    · exact ⟨rfl, rfl, rfl, advance_blown _ _⟩
    · exact ⟨rfl, rfl, rfl, closeDebug_blown _ _⟩

theorem hwReset_kept (s : State) (c : Nat) : s.kept (s.hwReset c) := by
  unfold State.hwReset
  dsimp only
  refine kept_trans (kept_trans (fuseCut_kept s) (kept_trans (kept_of_core (keepCut_core _)) (kept_of_base (resetState_base _ c)))) ?_
  generalize (s.fuseCut.keepCut.resetState c) = t
  split
  · exact kept_trans (kept_of_core (fatalCount_core t)) (kept_of_base rfl)
  · exact kept_of_base rfl

theorem fatalReset_kept (s : State) (r : Nat) : s.kept (s.fatalReset r) := by
  unfold State.fatalReset
  dsimp only
  refine kept_trans (kept_of_base (t := ({ s with rst := { s.rst with fatalReason := r } }).waitUntil (s.up + 100000)) ?_) ?_
  · exact base_of_core _ _ (waitUntil_core _ _)
  · refine kept_trans (hwReset_kept _ 4) (kept_trans ?_ (kept_of_base (bootAt_base _ 1)))
    exact kept_of_base rfl

theorem resetTaken_kept (s : State) : s.kept s.resetTaken := by
  unfold State.resetTaken
  split
  · exact kept_refl _
  · split
    · exact kept_of_core (absorb_core _ _)
    · exact kept_trans (hwReset_kept s 3) (kept_of_base (bootAt_base _ 1))

theorem resetN_kept (s : State) (n : Nat) : s.kept (s.resetN n) := by
  unfold State.resetN
  split
  · exact kept_of_core (waitUntil_core _ _)
  · split
    · dsimp only
      refine kept_trans (kept_of_core (t := ((s.waitUntil (s.up + n)).draw 1).2) ((draw_core _ _).trans (waitUntil_core _ _))) ?_
      split
      · exact resetTaken_kept _
      · exact kept_refl _
    · exact kept_trans (kept_of_core (waitUntil_core _ _)) (resetTaken_kept _)

theorem brownOut_kept (s : State) : s.kept s.brownOut := by
  unfold State.brownOut
  dsimp only
  split
  · exact kept_of_base rfl
  · refine kept_trans (kept_of_base (t := { s with pwr := { s.pwr with vinAbsent := true, dipping := false } }) rfl) ?_
    exact kept_trans (hwReset_kept _ 2) (kept_of_base rfl)

theorem backupEnter_kept (s : State) : s.kept s.backupEnter := kept_trans (brownOut_kept s) (kept_of_base rfl)

theorem keeperStart_kept (s : State) (k : KeepState) : s.kept { s.keeperStart with keep := k } :=
  kept_trans (kept_of_core (keeperStart_core _)) (kept_of_base rfl)

theorem powerUp_kept (s : State) (c : Nat) : s.kept (s.powerUp c) := by
  unfold State.powerUp
  dsimp only
  refine kept_trans ?_ (kept_of_base (bootAt_base _ 0))
  have h : s.kept { s with pwr := { s.pwr with vinAbsent := false }, keep := { s.keep with onVin := true } } := kept_of_base rfl
  split
  · exact kept_trans (kept_trans h (keeperStart_kept _ _)) (hwReset_kept _ _)
  · exact kept_trans (kept_trans h (keeperStart_kept _ _)) (kept_of_base (resetState_base _ _))

theorem brownOutEnd_kept (s : State) : s.kept s.brownOutEnd := by
  unfold State.brownOutEnd
  split
  · exact powerUp_kept _ _
  · exact kept_trans (kept_of_base rfl) (kept_of_base (bootAt_base _ 0))

theorem powerOn_kept (s : State) : s.kept s.powerOn := by
  unfold State.powerOn
  split
  · exact brownOutEnd_kept _
  · exact kept_trans (kept_of_base rfl) (powerUp_kept _ 1)
  · split
    · exact kept_trans (kept_of_base rfl) (powerUp_kept _ 1)
    · exact kept_refl _
  · exact kept_refl _

theorem wake_kept (s : State) : s.kept s.wake := by
  unfold State.wake
  split
  · exact kept_trans (kept_of_base rfl) (powerUp_kept _ 1)
  · exact kept_refl _

theorem wakeN_kept (s : State) : s.kept s.wakeN := by
  unfold State.wakeN
  split
  · dsimp only
    split
    · exact kept_trans (kept_of_base rfl) (wake_kept _)
    · exact kept_of_base rfl
  · exact kept_refl _

theorem caseDetect_kept (s : State) : s.kept s.caseDetect := by
  unfold State.caseDetect
  dsimp only
  split
  · exact kept_trans (kept_of_core (caseOpen_core _)) (wake_kept _)
  · exact kept_of_core (caseOpen_core _)

theorem watchdog_kept (s : State) : s.kept s.watchdog := by
  unfold State.watchdog
  split
  · exact fatalReset_kept _ _
  · exact kept_refl _

theorem taskReserve_kept (s : State) : s.kept s.taskReserve := by
  unfold State.taskReserve
  split
  · dsimp only
    split
    · exact kept_trans (kept_of_core (overrun_core s)) (fatalReset_kept _ _)
    · exact kept_trans (kept_of_core (overrun_core s))
        (kept_trans (kept_of_core (replaySkip_core _)) (kept_of_base (cycleEnd_base _ _ _)))
  · exact kept_trans (kept_of_core (freeze_core s)) (kept_of_base (cycleEnd_base _ _ _))

theorem reserve_kept (s : State) (a b : Nat) : s.kept (s.reserve a b) := by
  unfold State.reserve
  dsimp only
  have h : s.kept ((((s.proofSettle).advanceTo s.reserveAt).safeLevels a b).runStops) :=
    kept_trans (kept_of_base (proofSettle_base s))
      (kept_of_core (by rw [runStops_core, safeLevels_core, advanceTo_core]))
  refine kept_trans h ?_
  refine kept_trans ?_ (kept_of_core (holdStatus_core _ _))
  split
  · exact taskReserve_kept _
  · exact kept_of_base (idleReserve_base _)

theorem reserveInstant_kept (s : State) (a b : Nat) : s.kept (s.reserveInstant a b) := by
  unfold State.reserveInstant
  dsimp only
  split
  · exact kept_trans (kept_of_base (windowDue_base s)) (reserve_kept _ _ _)
  · exact kept_refl _

theorem cycleDue_kept (s : State) : s.kept s.cycleDue := by
  unfold State.cycleDue
  dsimp only
  have h : s.kept (((s.reserveInstant s.safe.tripIn s.safe.fb).capStopped).spanUpLost) :=
    kept_trans (reserveInstant_kept s _ _) (kept_of_core (by rw [spanUpLost_core, capStopped_core]))
  refine kept_trans h ?_
  split
  · exact kept_trans (kept_of_core (troughClose_core _)) (kept_of_core (holdStatus_core _ _))
  · exact kept_refl _

theorem boundary_kept (s : State) (u : List Upset) : s.kept (s.boundary u) := by
  unfold State.boundary
  split
  · exact kept_trans (kept_of_base (firstCycle_base s)) (kept_of_base (boundaryWork_base _ u))
  · split
    · dsimp only
      split
      · exact kept_trans (cycleDue_kept s) (kept_trans (kept_of_base (laterCycle_base _)) (kept_of_base (boundaryWork_base _ u)))
      · exact cycleDue_kept s
    · exact kept_refl _

theorem restartLast_kept (s : State) :
    s.kept (({ s with pump := { s.pump with restartLeft := 0 } }).setFlag Reg.PUMP_STAT_RESTARTING false) :=
  kept_of_core ((setFlag_core _ _ _ _).trans rfl)

theorem restartEnd_kept (s : State) : s.kept s.restartEnd := by
  unfold State.restartEnd
  split
  · exact kept_trans (kept_trans (cycleDue_kept s) (kept_of_core (advanceTo_core _ s.nextBnd))) (restartLast_kept _)
  · exact kept_refl _

end Sys2Proof.Laws
end

