-- ==== Sys2Proof/Laws/FrameMode.lean ====
section
/-! SUPPORT. What the operations leave alone: the mode, for the operations that change the phase, the cycle count or the fuses. -/

set_option linter.all false

namespace Sys2Proof.Laws
open Sys2Proof.Machine

theorem modeTag_of_core (a b : State) (h : a.core = b.core) : a.modeTag = b.modeTag := congrArg (fun c : Core => (c.2.2.2.2.1, true)) h

theorem modeTag_mk (a0 a1 a2 a3 a4 a5 a6 a7 a8 a9 a10 a11 a12 a13 a14 a15 a16 a17 a18 a19 a20 a21 a22 a23 a24 a25 a26 a27 a28 a29 a30 a31 a32 a33 a34 a35 a36 a37 a38 a39 a40 a41) : State.modeTag (State.mk a0 a1 a2 a3 a4 a5 a6 a7 a8 a9 a10 a11 a12 a13 a14 a15 a16 a17 a18 a19 a20 a21 a22 a23 a24 a25 a26 a27 a28 a29 a30 a31 a32 a33 a34 a35 a36 a37 a38 a39 a40 a41) = (a5, true) := (rfl)

theorem modeTag_eta (x : State) : (x.mode, true) = x.modeTag := (rfl)

theorem modeTag_ite (c : Prop) [Decidable c] (x y : State) : (if c then x else y).modeTag = if c then x.modeTag else y.modeTag := apply_ite State.modeTag c x y

theorem foldl_modeTag {α : Type} (f : State → α → State) (h : ∀ s x, (f s x).modeTag = s.modeTag) (l : List α) (s : State) : (l.foldl f s).modeTag = s.modeTag := by
  induction l generalizing s with
  | nil => rfl
  | cons a t ih => rw [List.foldl_cons, ih, h]

@[simp] theorem set_modeTag : ∀ x0 x1 x2 x3, (State.set x0 x1 x2 x3).modeTag = x0.modeTag := fun x0 x1 x2 x3 => modeTag_of_core _ _ (set_core x0 x1 x2 x3)

@[simp] theorem setFlag_modeTag : ∀ x0 x1 x2 x3, (State.setFlag x0 x1 x2 x3).modeTag = x0.modeTag := fun x0 x1 x2 x3 => modeTag_of_core _ _ (setFlag_core x0 x1 x2 x3)

@[simp] theorem raise_modeTag : ∀ x0 x1, (State.raise x0 x1).modeTag = x0.modeTag := fun x0 x1 => modeTag_of_core _ _ (raise_core x0 x1)

@[simp] theorem draw_modeTag : ∀ x0 x1, (State.draw x0 x1).2.modeTag = x0.modeTag := fun x0 x1 => modeTag_of_core _ _ (draw_core x0 x1)

@[simp] theorem undoOwn_modeTag : ∀ x0 x1, (State.undoOwn x0 x1).modeTag = x0.modeTag := fun x0 x1 => modeTag_of_core _ _ (undoOwn_core x0 x1)

@[simp] theorem applyRecord_modeTag : ∀ x0 x1, (State.applyRecord x0 x1).modeTag = x0.modeTag := fun x0 x1 => modeTag_of_core _ _ (applyRecord_core x0 x1)

@[simp] theorem applyMarks_modeTag : ∀ x0 x1, (State.applyMarks x0 x1).modeTag = x0.modeTag := fun x0 x1 => modeTag_of_core _ _ (applyMarks_core x0 x1)

@[simp] theorem proofBytes_modeTag : ∀ x0 x1, (State.proofBytes x0 x1).modeTag = x0.modeTag := fun x0 x1 => modeTag_of_core _ _ (proofBytes_core x0 x1)

@[simp] theorem replayInputs_modeTag : ∀ x0, (State.replayInputs x0).modeTag = x0.modeTag := fun x0 => modeTag_of_core _ _ (replayInputs_core x0)

@[simp] theorem closeSpan_modeTag : ∀ x0, (State.closeSpan x0).modeTag = x0.modeTag := fun x0 => modeTag_of_core _ _ (closeSpan_core x0)

@[simp] theorem levelInputs_modeTag : ∀ x0 x1, (State.levelInputs x0 x1).modeTag = x0.modeTag := fun x0 x1 => modeTag_of_core _ _ (levelInputs_core x0 x1)

@[simp] theorem sensorInputs_modeTag : ∀ x0, (State.sensorInputs x0).modeTag = x0.modeTag := fun x0 => modeTag_of_core _ _ (sensorInputs_core x0)

@[simp] theorem closeStations_modeTag : ∀ x0, (State.closeStations x0).modeTag = x0.modeTag := fun x0 => modeTag_of_core _ _ (closeStations_core x0)

@[simp] theorem redClose_modeTag : ∀ x0, (State.redClose x0).modeTag = x0.modeTag := fun x0 => modeTag_of_core _ _ (redClose_core x0)

@[simp] theorem capInputs_modeTag : ∀ x0, (State.capInputs x0).modeTag = x0.modeTag := fun x0 => modeTag_of_core _ _ (capInputs_core x0)

@[simp] theorem advanceTo_modeTag : ∀ x0 x1, (State.advanceTo x0 x1).modeTag = x0.modeTag := fun x0 x1 => modeTag_of_core _ _ (advanceTo_core x0 x1)

@[simp] theorem holdStatus_modeTag : ∀ x0 x1, (State.holdStatus x0 x1).modeTag = x1.modeTag := fun x0 x1 => modeTag_of_core _ _ (holdStatus_core x0 x1)

@[simp] theorem closeTasks_modeTag : ∀ x0, (State.closeTasks x0).modeTag = x0.modeTag := fun x0 => modeTag_of_core _ _ (closeTasks_core x0)

@[simp] theorem proofMissed_modeTag : ∀ x0, (State.proofMissed x0).modeTag = x0.modeTag := fun x0 => modeTag_of_core _ _ (proofMissed_core x0)

@[simp] theorem mirrorInstant_modeTag : ∀ x0 x1, (State.mirrorInstant x0 x1).modeTag = x0.modeTag := fun x0 x1 => modeTag_of_core _ _ (mirrorInstant_core x0 x1)

@[simp] theorem freezePoints_modeTag : ∀ x0 x1, (State.freezePoints x0 x1).modeTag = x0.modeTag := fun x0 x1 => modeTag_of_core _ _ (freezePoints_core x0 x1)

@[simp] theorem capCycle_modeTag : ∀ x0, (State.capCycle x0).modeTag = x0.modeTag := fun x0 => modeTag_of_core _ _ (capCycle_core x0)

@[simp] theorem spanNewCycle_modeTag : ∀ x0, (State.spanNewCycle x0).modeTag = x0.modeTag := fun x0 => modeTag_of_core _ _ (spanNewCycle_core x0)

@[simp] theorem stnNewCycle_modeTag : ∀ x0, (State.stnNewCycle x0).modeTag = x0.modeTag := fun x0 => modeTag_of_core _ _ (stnNewCycle_core x0)

@[simp] theorem rolesAt_modeTag : ∀ x0 x1, (State.rolesAt x0 x1).modeTag = x0.modeTag := fun x0 x1 => modeTag_of_core _ _ (rolesAt_core x0 x1)

@[simp] theorem fuseDone_modeTag : ∀ x0, (State.fuseDone x0).modeTag = x0.modeTag := by
  intro x0
  unfold State.fuseDone; (repeat' split) <;> simp only [↓modeTag_mk, modeTag_eta, set_modeTag, setFlag_modeTag, raise_modeTag]

@[simp] theorem fuseCut_modeTag : ∀ x0, (State.fuseCut x0).modeTag = x0.modeTag := by
  intro x0
  unfold State.fuseCut; (repeat' split) <;> simp only [↓modeTag_mk, modeTag_eta, modeTag_ite, ite_self, draw_modeTag]

@[simp] theorem takeN_modeTag : ∀ x0 x1, (State.takeN x0 x1).modeTag = x0.modeTag := by
  intro x0 x1
  simp only [State.takeN, ↓modeTag_mk, modeTag_eta]

@[simp] theorem applyProof_modeTag : ∀ x0 x1, (State.applyProof x0 x1).modeTag = x0.modeTag := by
  intro x0 x1
  simp only [State.applyProof, ↓modeTag_mk, modeTag_eta, implies_true, foldl_modeTag, undoOwn_modeTag, takeN_modeTag, applyRecord_modeTag, applyMarks_modeTag, proofBytes_modeTag]

@[simp] theorem lockstepTake_modeTag : ∀ x0, (State.lockstepTake x0).modeTag = x0.modeTag := by
  intro x0
  unfold State.lockstepTake; dsimp only; (repeat' split) <;> simp only [↓modeTag_mk, modeTag_eta, implies_true, foldl_modeTag, applyRecord_modeTag, takeN_modeTag]

@[simp] theorem closeInputs_modeTag : ∀ x0 x1, (State.closeInputs x0 x1).modeTag = x0.modeTag := by
  intro x0 x1
  simp only [State.closeInputs, ↓modeTag_mk, modeTag_eta, modeTag_ite, ite_self, replayInputs_modeTag, closeSpan_modeTag, levelInputs_modeTag, sensorInputs_modeTag, closeStations_modeTag, lockstepTake_modeTag, redClose_modeTag, capInputs_modeTag]

@[simp] theorem windowClose_modeTag : ∀ x0 x1, (State.windowClose x0 x1).modeTag = x0.modeTag := by
  intro x0 x1
  unfold State.windowClose; dsimp only; (repeat' split) <;> simp only [↓modeTag_mk, modeTag_eta, advanceTo_modeTag, holdStatus_modeTag, closeInputs_modeTag, closeTasks_modeTag, applyProof_modeTag]

@[simp] theorem plateSwap_modeTag : ∀ x0, (State.plateSwap x0).modeTag = x0.modeTag := by
  intro x0
  simp only [State.plateSwap, modeTag_ite, ite_self, windowClose_modeTag]

@[simp] theorem plateRevertApply_modeTag : ∀ x0, (State.plateRevertApply x0).modeTag = x0.modeTag := by
  intro x0
  simp only [State.plateRevertApply, modeTag_ite, ite_self, windowClose_modeTag]

@[simp] theorem proofApply_modeTag : ∀ x0, (State.proofApply x0).modeTag = x0.modeTag := by
  intro x0
  unfold State.proofApply; (repeat' split) <;> simp only [closeTasks_modeTag, applyProof_modeTag]

@[simp] theorem proofSettle_modeTag : ∀ x0, (State.proofSettle x0).modeTag = x0.modeTag := by
  intro x0
  simp only [State.proofSettle, proofMissed_modeTag, proofApply_modeTag]

@[simp] theorem cycleEnd_modeTag : ∀ x0 x1 x2, (State.cycleEnd x0 x1 x2).modeTag = x0.modeTag := by
  intro x0 x1 x2
  simp only [State.cycleEnd, ↓modeTag_mk, modeTag_eta, mirrorInstant_modeTag, freezePoints_modeTag, capCycle_modeTag]

@[simp] theorem idleReserve_modeTag : ∀ x0, (State.idleReserve x0).modeTag = x0.modeTag := by
  intro x0
  simp only [State.idleReserve, ↓modeTag_mk, modeTag_eta, cycleEnd_modeTag]

@[simp] theorem windowDue_modeTag : ∀ x0, (State.windowDue x0).modeTag = x0.modeTag := by
  intro x0
  simp only [State.windowDue, modeTag_ite, ite_self, windowClose_modeTag]

@[simp] theorem newCycle_modeTag : ∀ x0 x1, (State.newCycle x0 x1).modeTag = x0.modeTag := by
  intro x0 x1
  simp only [State.newCycle, ↓modeTag_mk, modeTag_eta, modeTag_ite, ite_self, advanceTo_modeTag, spanNewCycle_modeTag, stnNewCycle_modeTag, setFlag_modeTag]

@[simp] theorem laterCycle_modeTag : ∀ x0, (State.laterCycle x0).modeTag = x0.modeTag := by
  intro x0
  simp only [State.laterCycle, advanceTo_modeTag, newCycle_modeTag, rolesAt_modeTag]

@[simp] theorem withFetchWord_modeTag : ∀ x0 x1 x2, (State.withFetchWord x0 x1 x2).modeTag = x0.modeTag := by
  intro x0 x1 x2
  unfold State.withFetchWord; (repeat' split) <;> simp only [↓modeTag_mk, modeTag_eta]

end Sys2Proof.Laws
end

