-- ==== Sys2Proof/Laws/State.lean ====
section
/-! SUPPORT. What each elementary update leaves alone, field by field. -/

namespace Sys2Proof.Laws
open Sys2Proof.Machine

variable (s : State)

/-! ## State.set -/

@[simp] theorem set_pending (f : Fld) (v i : Nat) : (s.set f v i).pending = s.pending := rfl
@[simp] theorem set_freeCtr (f : Fld) (v i : Nat) : (s.set f v i).freeCtr = s.freeCtr := rfl
@[simp] theorem set_variant (f : Fld) (v i : Nat) : (s.set f v i).variant = s.variant := rfl
@[simp] theorem set_gradeXT (f : Fld) (v i : Nat) : (s.set f v i).gradeXT = s.gradeXT := rfl
@[simp] theorem set_fuses (f : Fld) (v i : Nat) : (s.set f v i).fuses = s.fuses := rfl
@[simp] theorem set_mode (f : Fld) (v i : Nat) : (s.set f v i).mode = s.mode := rfl
@[simp] theorem set_phase (f : Fld) (v i : Nat) : (s.set f v i).phase = s.phase := rfl
@[simp] theorem set_now (f : Fld) (v i : Nat) : (s.set f v i).now = s.now := rfl
@[simp] theorem set_up (f : Fld) (v i : Nat) : (s.set f v i).up = s.up := rfl
@[simp] theorem set_bnd (f : Fld) (v i : Nat) : (s.set f v i).bnd = s.bnd := rfl
@[simp] theorem set_nextBnd (f : Fld) (v i : Nat) : (s.set f v i).nextBnd = s.nextBnd := rfl
@[simp] theorem set_n (f : Fld) (v i : Nat) : (s.set f v i).n = s.n := rfl
@[simp] theorem set_deviations (f : Fld) (v i : Nat) : (s.set f v i).deviations = s.deviations := rfl
@[simp] theorem set_voteStreak (f : Fld) (v i : Nat) : (s.set f v i).voteStreak = s.voteStreak := rfl
@[simp] theorem set_points (f : Fld) (v i : Nat) : (s.set f v i).points = s.points := rfl
@[simp] theorem set_host (f : Fld) (v i : Nat) : (s.set f v i).host = s.host := rfl
@[simp] theorem set_images (f : Fld) (v i : Nat) : (s.set f v i).images = s.images := rfl
@[simp] theorem set_pump (f : Fld) (v i : Nat) : (s.set f v i).pump = s.pump := rfl
@[simp] theorem set_mirror (f : Fld) (v i : Nat) : (s.set f v i).mirror = s.mirror := rfl
@[simp] theorem set_wlog (f : Fld) (v i : Nat) : (s.set f v i).wlog = s.wlog := rfl
@[simp] theorem set_wlogPrev (f : Fld) (v i : Nat) : (s.set f v i).wlogPrev = s.wlogPrev := rfl
@[simp] theorem set_span (f : Fld) (v i : Nat) : (s.set f v i).span = s.span := rfl
@[simp] theorem set_red (f : Fld) (v i : Nat) : (s.set f v i).red = s.red := rfl
@[simp] theorem set_safe (f : Fld) (v i : Nat) : (s.set f v i).safe = s.safe := rfl
@[simp] theorem set_sec (f : Fld) (v i : Nat) : (s.set f v i).sec = s.sec := rfl
@[simp] theorem set_ser (f : Fld) (v i : Nat) : (s.set f v i).ser = s.ser := rfl
@[simp] theorem set_trough (f : Fld) (v i : Nat) : (s.set f v i).trough = s.trough := rfl
@[simp] theorem set_obs (f : Fld) (v i : Nat) : (s.set f v i).obs = s.obs := rfl
@[simp] theorem set_loops (f : Fld) (v i : Nat) : (s.set f v i).loops = s.loops := rfl
@[simp] theorem set_alloc (f : Fld) (v i : Nat) : (s.set f v i).alloc = s.alloc := rfl
@[simp] theorem set_solv (f : Fld) (v i : Nat) : (s.set f v i).solv = s.solv := rfl
@[simp] theorem set_qm (f : Fld) (v i : Nat) : (s.set f v i).qm = s.qm := rfl
@[simp] theorem set_stn (f : Fld) (v i : Nat) : (s.set f v i).stn = s.stn := rfl
@[simp] theorem set_slew (f : Fld) (v i : Nat) : (s.set f v i).slew = s.slew := rfl
@[simp] theorem set_time (f : Fld) (v i : Nat) : (s.set f v i).time = s.time := rfl
@[simp] theorem set_plate (f : Fld) (v i : Nat) : (s.set f v i).plate = s.plate := rfl
@[simp] theorem set_rcd (f : Fld) (v i : Nat) : (s.set f v i).rcd = s.rcd := rfl
@[simp] theorem set_cap (f : Fld) (v i : Nat) : (s.set f v i).cap = s.cap := rfl
@[simp] theorem set_rst (f : Fld) (v i : Nat) : (s.set f v i).rst = s.rst := rfl
@[simp] theorem set_pwr (f : Fld) (v i : Nat) : (s.set f v i).pwr = s.pwr := rfl
@[simp] theorem set_keep (f : Fld) (v i : Nat) : (s.set f v i).keep = s.keep := rfl

/-! ## State.setFlag -/

@[simp] theorem setFlag_pending (f : Fld) (b : Bool) (i : Nat) : (s.setFlag f b i).pending = s.pending := rfl
@[simp] theorem setFlag_freeCtr (f : Fld) (b : Bool) (i : Nat) : (s.setFlag f b i).freeCtr = s.freeCtr := rfl
@[simp] theorem setFlag_variant (f : Fld) (b : Bool) (i : Nat) : (s.setFlag f b i).variant = s.variant := rfl
@[simp] theorem setFlag_gradeXT (f : Fld) (b : Bool) (i : Nat) : (s.setFlag f b i).gradeXT = s.gradeXT := rfl
@[simp] theorem setFlag_fuses (f : Fld) (b : Bool) (i : Nat) : (s.setFlag f b i).fuses = s.fuses := rfl
@[simp] theorem setFlag_mode (f : Fld) (b : Bool) (i : Nat) : (s.setFlag f b i).mode = s.mode := rfl
@[simp] theorem setFlag_phase (f : Fld) (b : Bool) (i : Nat) : (s.setFlag f b i).phase = s.phase := rfl
@[simp] theorem setFlag_now (f : Fld) (b : Bool) (i : Nat) : (s.setFlag f b i).now = s.now := rfl
@[simp] theorem setFlag_up (f : Fld) (b : Bool) (i : Nat) : (s.setFlag f b i).up = s.up := rfl
@[simp] theorem setFlag_bnd (f : Fld) (b : Bool) (i : Nat) : (s.setFlag f b i).bnd = s.bnd := rfl
@[simp] theorem setFlag_nextBnd (f : Fld) (b : Bool) (i : Nat) : (s.setFlag f b i).nextBnd = s.nextBnd := rfl
@[simp] theorem setFlag_n (f : Fld) (b : Bool) (i : Nat) : (s.setFlag f b i).n = s.n := rfl
@[simp] theorem setFlag_deviations (f : Fld) (b : Bool) (i : Nat) : (s.setFlag f b i).deviations = s.deviations := rfl
@[simp] theorem setFlag_voteStreak (f : Fld) (b : Bool) (i : Nat) : (s.setFlag f b i).voteStreak = s.voteStreak := rfl
@[simp] theorem setFlag_points (f : Fld) (b : Bool) (i : Nat) : (s.setFlag f b i).points = s.points := rfl
@[simp] theorem setFlag_host (f : Fld) (b : Bool) (i : Nat) : (s.setFlag f b i).host = s.host := rfl
@[simp] theorem setFlag_images (f : Fld) (b : Bool) (i : Nat) : (s.setFlag f b i).images = s.images := rfl
@[simp] theorem setFlag_pump (f : Fld) (b : Bool) (i : Nat) : (s.setFlag f b i).pump = s.pump := rfl
@[simp] theorem setFlag_mirror (f : Fld) (b : Bool) (i : Nat) : (s.setFlag f b i).mirror = s.mirror := rfl
@[simp] theorem setFlag_wlog (f : Fld) (b : Bool) (i : Nat) : (s.setFlag f b i).wlog = s.wlog := rfl
@[simp] theorem setFlag_wlogPrev (f : Fld) (b : Bool) (i : Nat) : (s.setFlag f b i).wlogPrev = s.wlogPrev := rfl
@[simp] theorem setFlag_span (f : Fld) (b : Bool) (i : Nat) : (s.setFlag f b i).span = s.span := rfl
@[simp] theorem setFlag_red (f : Fld) (b : Bool) (i : Nat) : (s.setFlag f b i).red = s.red := rfl
@[simp] theorem setFlag_safe (f : Fld) (b : Bool) (i : Nat) : (s.setFlag f b i).safe = s.safe := rfl
@[simp] theorem setFlag_sec (f : Fld) (b : Bool) (i : Nat) : (s.setFlag f b i).sec = s.sec := rfl
@[simp] theorem setFlag_ser (f : Fld) (b : Bool) (i : Nat) : (s.setFlag f b i).ser = s.ser := rfl
@[simp] theorem setFlag_trough (f : Fld) (b : Bool) (i : Nat) : (s.setFlag f b i).trough = s.trough := rfl
@[simp] theorem setFlag_obs (f : Fld) (b : Bool) (i : Nat) : (s.setFlag f b i).obs = s.obs := rfl
@[simp] theorem setFlag_loops (f : Fld) (b : Bool) (i : Nat) : (s.setFlag f b i).loops = s.loops := rfl
@[simp] theorem setFlag_alloc (f : Fld) (b : Bool) (i : Nat) : (s.setFlag f b i).alloc = s.alloc := rfl
@[simp] theorem setFlag_solv (f : Fld) (b : Bool) (i : Nat) : (s.setFlag f b i).solv = s.solv := rfl
@[simp] theorem setFlag_qm (f : Fld) (b : Bool) (i : Nat) : (s.setFlag f b i).qm = s.qm := rfl
@[simp] theorem setFlag_stn (f : Fld) (b : Bool) (i : Nat) : (s.setFlag f b i).stn = s.stn := rfl
@[simp] theorem setFlag_slew (f : Fld) (b : Bool) (i : Nat) : (s.setFlag f b i).slew = s.slew := rfl
@[simp] theorem setFlag_time (f : Fld) (b : Bool) (i : Nat) : (s.setFlag f b i).time = s.time := rfl
@[simp] theorem setFlag_plate (f : Fld) (b : Bool) (i : Nat) : (s.setFlag f b i).plate = s.plate := rfl
@[simp] theorem setFlag_rcd (f : Fld) (b : Bool) (i : Nat) : (s.setFlag f b i).rcd = s.rcd := rfl
@[simp] theorem setFlag_cap (f : Fld) (b : Bool) (i : Nat) : (s.setFlag f b i).cap = s.cap := rfl
@[simp] theorem setFlag_rst (f : Fld) (b : Bool) (i : Nat) : (s.setFlag f b i).rst = s.rst := rfl
@[simp] theorem setFlag_pwr (f : Fld) (b : Bool) (i : Nat) : (s.setFlag f b i).pwr = s.pwr := rfl
@[simp] theorem setFlag_keep (f : Fld) (b : Bool) (i : Nat) : (s.setFlag f b i).keep = s.keep := rfl

/-! ## State.count -/

@[simp] theorem count_pending (f : Fld) (i : Nat) : (s.count f i).pending = s.pending := rfl
@[simp] theorem count_freeCtr (f : Fld) (i : Nat) : (s.count f i).freeCtr = s.freeCtr := rfl
@[simp] theorem count_variant (f : Fld) (i : Nat) : (s.count f i).variant = s.variant := rfl
@[simp] theorem count_gradeXT (f : Fld) (i : Nat) : (s.count f i).gradeXT = s.gradeXT := rfl
@[simp] theorem count_fuses (f : Fld) (i : Nat) : (s.count f i).fuses = s.fuses := rfl
@[simp] theorem count_mode (f : Fld) (i : Nat) : (s.count f i).mode = s.mode := rfl
@[simp] theorem count_phase (f : Fld) (i : Nat) : (s.count f i).phase = s.phase := rfl
@[simp] theorem count_now (f : Fld) (i : Nat) : (s.count f i).now = s.now := rfl
@[simp] theorem count_up (f : Fld) (i : Nat) : (s.count f i).up = s.up := rfl
@[simp] theorem count_bnd (f : Fld) (i : Nat) : (s.count f i).bnd = s.bnd := rfl
@[simp] theorem count_nextBnd (f : Fld) (i : Nat) : (s.count f i).nextBnd = s.nextBnd := rfl
@[simp] theorem count_n (f : Fld) (i : Nat) : (s.count f i).n = s.n := rfl
@[simp] theorem count_deviations (f : Fld) (i : Nat) : (s.count f i).deviations = s.deviations := rfl
@[simp] theorem count_voteStreak (f : Fld) (i : Nat) : (s.count f i).voteStreak = s.voteStreak := rfl
@[simp] theorem count_points (f : Fld) (i : Nat) : (s.count f i).points = s.points := rfl
@[simp] theorem count_host (f : Fld) (i : Nat) : (s.count f i).host = s.host := rfl
@[simp] theorem count_images (f : Fld) (i : Nat) : (s.count f i).images = s.images := rfl
@[simp] theorem count_pump (f : Fld) (i : Nat) : (s.count f i).pump = s.pump := rfl
@[simp] theorem count_mirror (f : Fld) (i : Nat) : (s.count f i).mirror = s.mirror := rfl
@[simp] theorem count_wlog (f : Fld) (i : Nat) : (s.count f i).wlog = s.wlog := rfl
@[simp] theorem count_wlogPrev (f : Fld) (i : Nat) : (s.count f i).wlogPrev = s.wlogPrev := rfl
@[simp] theorem count_span (f : Fld) (i : Nat) : (s.count f i).span = s.span := rfl
@[simp] theorem count_red (f : Fld) (i : Nat) : (s.count f i).red = s.red := rfl
@[simp] theorem count_safe (f : Fld) (i : Nat) : (s.count f i).safe = s.safe := rfl
@[simp] theorem count_sec (f : Fld) (i : Nat) : (s.count f i).sec = s.sec := rfl
@[simp] theorem count_ser (f : Fld) (i : Nat) : (s.count f i).ser = s.ser := rfl
@[simp] theorem count_trough (f : Fld) (i : Nat) : (s.count f i).trough = s.trough := rfl
@[simp] theorem count_obs (f : Fld) (i : Nat) : (s.count f i).obs = s.obs := rfl
@[simp] theorem count_loops (f : Fld) (i : Nat) : (s.count f i).loops = s.loops := rfl
@[simp] theorem count_alloc (f : Fld) (i : Nat) : (s.count f i).alloc = s.alloc := rfl
@[simp] theorem count_solv (f : Fld) (i : Nat) : (s.count f i).solv = s.solv := rfl
@[simp] theorem count_qm (f : Fld) (i : Nat) : (s.count f i).qm = s.qm := rfl
@[simp] theorem count_stn (f : Fld) (i : Nat) : (s.count f i).stn = s.stn := rfl
@[simp] theorem count_slew (f : Fld) (i : Nat) : (s.count f i).slew = s.slew := rfl
@[simp] theorem count_time (f : Fld) (i : Nat) : (s.count f i).time = s.time := rfl
@[simp] theorem count_plate (f : Fld) (i : Nat) : (s.count f i).plate = s.plate := rfl
@[simp] theorem count_rcd (f : Fld) (i : Nat) : (s.count f i).rcd = s.rcd := rfl
@[simp] theorem count_cap (f : Fld) (i : Nat) : (s.count f i).cap = s.cap := rfl
@[simp] theorem count_rst (f : Fld) (i : Nat) : (s.count f i).rst = s.rst := rfl
@[simp] theorem count_pwr (f : Fld) (i : Nat) : (s.count f i).pwr = s.pwr := rfl
@[simp] theorem count_keep (f : Fld) (i : Nat) : (s.count f i).keep = s.keep := rfl

/-! ## State.advance -/

@[simp] theorem advance_pending (d : Nat) : (s.advance d).pending = s.pending := rfl
@[simp] theorem advance_freeCtr (d : Nat) : (s.advance d).freeCtr = s.freeCtr := rfl
@[simp] theorem advance_variant (d : Nat) : (s.advance d).variant = s.variant := rfl
@[simp] theorem advance_gradeXT (d : Nat) : (s.advance d).gradeXT = s.gradeXT := rfl
@[simp] theorem advance_fuses (d : Nat) : (s.advance d).fuses = s.fuses := rfl
@[simp] theorem advance_mode (d : Nat) : (s.advance d).mode = s.mode := rfl
@[simp] theorem advance_phase (d : Nat) : (s.advance d).phase = s.phase := rfl
@[simp] theorem advance_bnd (d : Nat) : (s.advance d).bnd = s.bnd := rfl
@[simp] theorem advance_nextBnd (d : Nat) : (s.advance d).nextBnd = s.nextBnd := rfl
@[simp] theorem advance_n (d : Nat) : (s.advance d).n = s.n := rfl
@[simp] theorem advance_regs (d : Nat) : (s.advance d).regs = s.regs := rfl
@[simp] theorem advance_deviations (d : Nat) : (s.advance d).deviations = s.deviations := rfl
@[simp] theorem advance_voteStreak (d : Nat) : (s.advance d).voteStreak = s.voteStreak := rfl
@[simp] theorem advance_points (d : Nat) : (s.advance d).points = s.points := rfl
@[simp] theorem advance_host (d : Nat) : (s.advance d).host = s.host := rfl
@[simp] theorem advance_images (d : Nat) : (s.advance d).images = s.images := rfl
@[simp] theorem advance_pump (d : Nat) : (s.advance d).pump = s.pump := rfl
@[simp] theorem advance_mirror (d : Nat) : (s.advance d).mirror = s.mirror := rfl
@[simp] theorem advance_wlog (d : Nat) : (s.advance d).wlog = s.wlog := rfl
@[simp] theorem advance_wlogPrev (d : Nat) : (s.advance d).wlogPrev = s.wlogPrev := rfl
@[simp] theorem advance_span (d : Nat) : (s.advance d).span = s.span := rfl
@[simp] theorem advance_red (d : Nat) : (s.advance d).red = s.red := rfl
@[simp] theorem advance_safe (d : Nat) : (s.advance d).safe = s.safe := rfl
@[simp] theorem advance_sec (d : Nat) : (s.advance d).sec = s.sec := rfl
@[simp] theorem advance_ser (d : Nat) : (s.advance d).ser = s.ser := rfl
@[simp] theorem advance_trough (d : Nat) : (s.advance d).trough = s.trough := rfl
@[simp] theorem advance_obs (d : Nat) : (s.advance d).obs = s.obs := rfl
@[simp] theorem advance_loops (d : Nat) : (s.advance d).loops = s.loops := rfl
@[simp] theorem advance_alloc (d : Nat) : (s.advance d).alloc = s.alloc := rfl
@[simp] theorem advance_solv (d : Nat) : (s.advance d).solv = s.solv := rfl
@[simp] theorem advance_qm (d : Nat) : (s.advance d).qm = s.qm := rfl
@[simp] theorem advance_stn (d : Nat) : (s.advance d).stn = s.stn := rfl
@[simp] theorem advance_time (d : Nat) : (s.advance d).time = s.time := rfl
@[simp] theorem advance_plate (d : Nat) : (s.advance d).plate = s.plate := rfl
@[simp] theorem advance_rcd (d : Nat) : (s.advance d).rcd = s.rcd := rfl
@[simp] theorem advance_cap (d : Nat) : (s.advance d).cap = s.cap := rfl
@[simp] theorem advance_rst (d : Nat) : (s.advance d).rst = s.rst := rfl
@[simp] theorem advance_pwr (d : Nat) : (s.advance d).pwr = s.pwr := rfl

/-! ## State.advanceTo -/

@[simp] theorem advanceTo_pending (d : Nat) : (s.advanceTo d).pending = s.pending := rfl
@[simp] theorem advanceTo_freeCtr (d : Nat) : (s.advanceTo d).freeCtr = s.freeCtr := rfl
@[simp] theorem advanceTo_variant (d : Nat) : (s.advanceTo d).variant = s.variant := rfl
@[simp] theorem advanceTo_gradeXT (d : Nat) : (s.advanceTo d).gradeXT = s.gradeXT := rfl
@[simp] theorem advanceTo_fuses (d : Nat) : (s.advanceTo d).fuses = s.fuses := rfl
@[simp] theorem advanceTo_mode (d : Nat) : (s.advanceTo d).mode = s.mode := rfl
@[simp] theorem advanceTo_phase (d : Nat) : (s.advanceTo d).phase = s.phase := rfl
@[simp] theorem advanceTo_bnd (d : Nat) : (s.advanceTo d).bnd = s.bnd := rfl
@[simp] theorem advanceTo_nextBnd (d : Nat) : (s.advanceTo d).nextBnd = s.nextBnd := rfl
@[simp] theorem advanceTo_n (d : Nat) : (s.advanceTo d).n = s.n := rfl
@[simp] theorem advanceTo_regs (d : Nat) : (s.advanceTo d).regs = s.regs := rfl
@[simp] theorem advanceTo_deviations (d : Nat) : (s.advanceTo d).deviations = s.deviations := rfl
@[simp] theorem advanceTo_voteStreak (d : Nat) : (s.advanceTo d).voteStreak = s.voteStreak := rfl
@[simp] theorem advanceTo_points (d : Nat) : (s.advanceTo d).points = s.points := rfl
@[simp] theorem advanceTo_host (d : Nat) : (s.advanceTo d).host = s.host := rfl
@[simp] theorem advanceTo_images (d : Nat) : (s.advanceTo d).images = s.images := rfl
@[simp] theorem advanceTo_pump (d : Nat) : (s.advanceTo d).pump = s.pump := rfl
@[simp] theorem advanceTo_mirror (d : Nat) : (s.advanceTo d).mirror = s.mirror := rfl
@[simp] theorem advanceTo_wlog (d : Nat) : (s.advanceTo d).wlog = s.wlog := rfl
@[simp] theorem advanceTo_wlogPrev (d : Nat) : (s.advanceTo d).wlogPrev = s.wlogPrev := rfl
@[simp] theorem advanceTo_span (d : Nat) : (s.advanceTo d).span = s.span := rfl
@[simp] theorem advanceTo_red (d : Nat) : (s.advanceTo d).red = s.red := rfl
@[simp] theorem advanceTo_safe (d : Nat) : (s.advanceTo d).safe = s.safe := rfl
@[simp] theorem advanceTo_sec (d : Nat) : (s.advanceTo d).sec = s.sec := rfl
@[simp] theorem advanceTo_ser (d : Nat) : (s.advanceTo d).ser = s.ser := rfl
@[simp] theorem advanceTo_trough (d : Nat) : (s.advanceTo d).trough = s.trough := rfl
@[simp] theorem advanceTo_obs (d : Nat) : (s.advanceTo d).obs = s.obs := rfl
@[simp] theorem advanceTo_loops (d : Nat) : (s.advanceTo d).loops = s.loops := rfl
@[simp] theorem advanceTo_alloc (d : Nat) : (s.advanceTo d).alloc = s.alloc := rfl
@[simp] theorem advanceTo_solv (d : Nat) : (s.advanceTo d).solv = s.solv := rfl
@[simp] theorem advanceTo_qm (d : Nat) : (s.advanceTo d).qm = s.qm := rfl
@[simp] theorem advanceTo_stn (d : Nat) : (s.advanceTo d).stn = s.stn := rfl
@[simp] theorem advanceTo_time (d : Nat) : (s.advanceTo d).time = s.time := rfl
@[simp] theorem advanceTo_plate (d : Nat) : (s.advanceTo d).plate = s.plate := rfl
@[simp] theorem advanceTo_rcd (d : Nat) : (s.advanceTo d).rcd = s.rcd := rfl
@[simp] theorem advanceTo_cap (d : Nat) : (s.advanceTo d).cap = s.cap := rfl
@[simp] theorem advanceTo_rst (d : Nat) : (s.advanceTo d).rst = s.rst := rfl
@[simp] theorem advanceTo_pwr (d : Nat) : (s.advanceTo d).pwr = s.pwr := rfl

/-! ## State.setPoint -/

@[simp] theorem setPoint_pending (p : Nat) (r : Point) : (s.setPoint p r).pending = s.pending := rfl
@[simp] theorem setPoint_freeCtr (p : Nat) (r : Point) : (s.setPoint p r).freeCtr = s.freeCtr := rfl
@[simp] theorem setPoint_variant (p : Nat) (r : Point) : (s.setPoint p r).variant = s.variant := rfl
@[simp] theorem setPoint_gradeXT (p : Nat) (r : Point) : (s.setPoint p r).gradeXT = s.gradeXT := rfl
@[simp] theorem setPoint_fuses (p : Nat) (r : Point) : (s.setPoint p r).fuses = s.fuses := rfl
@[simp] theorem setPoint_mode (p : Nat) (r : Point) : (s.setPoint p r).mode = s.mode := rfl
@[simp] theorem setPoint_phase (p : Nat) (r : Point) : (s.setPoint p r).phase = s.phase := rfl
@[simp] theorem setPoint_now (p : Nat) (r : Point) : (s.setPoint p r).now = s.now := rfl
@[simp] theorem setPoint_up (p : Nat) (r : Point) : (s.setPoint p r).up = s.up := rfl
@[simp] theorem setPoint_bnd (p : Nat) (r : Point) : (s.setPoint p r).bnd = s.bnd := rfl
@[simp] theorem setPoint_nextBnd (p : Nat) (r : Point) : (s.setPoint p r).nextBnd = s.nextBnd := rfl
@[simp] theorem setPoint_n (p : Nat) (r : Point) : (s.setPoint p r).n = s.n := rfl
@[simp] theorem setPoint_regs (p : Nat) (r : Point) : (s.setPoint p r).regs = s.regs := rfl
@[simp] theorem setPoint_deviations (p : Nat) (r : Point) : (s.setPoint p r).deviations = s.deviations := rfl
@[simp] theorem setPoint_voteStreak (p : Nat) (r : Point) : (s.setPoint p r).voteStreak = s.voteStreak := rfl
@[simp] theorem setPoint_host (p : Nat) (r : Point) : (s.setPoint p r).host = s.host := rfl
@[simp] theorem setPoint_images (p : Nat) (r : Point) : (s.setPoint p r).images = s.images := rfl
@[simp] theorem setPoint_pump (p : Nat) (r : Point) : (s.setPoint p r).pump = s.pump := rfl
@[simp] theorem setPoint_wlog (p : Nat) (r : Point) : (s.setPoint p r).wlog = s.wlog := rfl
@[simp] theorem setPoint_wlogPrev (p : Nat) (r : Point) : (s.setPoint p r).wlogPrev = s.wlogPrev := rfl
@[simp] theorem setPoint_span (p : Nat) (r : Point) : (s.setPoint p r).span = s.span := rfl
@[simp] theorem setPoint_red (p : Nat) (r : Point) : (s.setPoint p r).red = s.red := rfl
@[simp] theorem setPoint_safe (p : Nat) (r : Point) : (s.setPoint p r).safe = s.safe := rfl
@[simp] theorem setPoint_sec (p : Nat) (r : Point) : (s.setPoint p r).sec = s.sec := rfl
@[simp] theorem setPoint_ser (p : Nat) (r : Point) : (s.setPoint p r).ser = s.ser := rfl
@[simp] theorem setPoint_trough (p : Nat) (r : Point) : (s.setPoint p r).trough = s.trough := rfl
@[simp] theorem setPoint_obs (p : Nat) (r : Point) : (s.setPoint p r).obs = s.obs := rfl
@[simp] theorem setPoint_solv (p : Nat) (r : Point) : (s.setPoint p r).solv = s.solv := rfl
@[simp] theorem setPoint_qm (p : Nat) (r : Point) : (s.setPoint p r).qm = s.qm := rfl
@[simp] theorem setPoint_stn (p : Nat) (r : Point) : (s.setPoint p r).stn = s.stn := rfl
@[simp] theorem setPoint_slew (p : Nat) (r : Point) : (s.setPoint p r).slew = s.slew := rfl
@[simp] theorem setPoint_time (p : Nat) (r : Point) : (s.setPoint p r).time = s.time := rfl
@[simp] theorem setPoint_plate (p : Nat) (r : Point) : (s.setPoint p r).plate = s.plate := rfl
@[simp] theorem setPoint_rcd (p : Nat) (r : Point) : (s.setPoint p r).rcd = s.rcd := rfl
@[simp] theorem setPoint_cap (p : Nat) (r : Point) : (s.setPoint p r).cap = s.cap := rfl
@[simp] theorem setPoint_rst (p : Nat) (r : Point) : (s.setPoint p r).rst = s.rst := rfl
@[simp] theorem setPoint_pwr (p : Nat) (r : Point) : (s.setPoint p r).pwr = s.pwr := rfl
@[simp] theorem setPoint_keep (p : Nat) (r : Point) : (s.setPoint p r).keep = s.keep := rfl

/-! ## State.putPoint -/

@[simp] theorem putPoint_pending (p : Nat) (v : Word) (q : Byte) : (s.putPoint p v q).pending = s.pending := rfl
@[simp] theorem putPoint_freeCtr (p : Nat) (v : Word) (q : Byte) : (s.putPoint p v q).freeCtr = s.freeCtr := rfl
@[simp] theorem putPoint_variant (p : Nat) (v : Word) (q : Byte) : (s.putPoint p v q).variant = s.variant := rfl
@[simp] theorem putPoint_gradeXT (p : Nat) (v : Word) (q : Byte) : (s.putPoint p v q).gradeXT = s.gradeXT := rfl
@[simp] theorem putPoint_fuses (p : Nat) (v : Word) (q : Byte) : (s.putPoint p v q).fuses = s.fuses := rfl
@[simp] theorem putPoint_mode (p : Nat) (v : Word) (q : Byte) : (s.putPoint p v q).mode = s.mode := rfl
@[simp] theorem putPoint_phase (p : Nat) (v : Word) (q : Byte) : (s.putPoint p v q).phase = s.phase := rfl
@[simp] theorem putPoint_now (p : Nat) (v : Word) (q : Byte) : (s.putPoint p v q).now = s.now := rfl
@[simp] theorem putPoint_up (p : Nat) (v : Word) (q : Byte) : (s.putPoint p v q).up = s.up := rfl
@[simp] theorem putPoint_bnd (p : Nat) (v : Word) (q : Byte) : (s.putPoint p v q).bnd = s.bnd := rfl
@[simp] theorem putPoint_nextBnd (p : Nat) (v : Word) (q : Byte) : (s.putPoint p v q).nextBnd = s.nextBnd := rfl
@[simp] theorem putPoint_n (p : Nat) (v : Word) (q : Byte) : (s.putPoint p v q).n = s.n := rfl
@[simp] theorem putPoint_regs (p : Nat) (v : Word) (q : Byte) : (s.putPoint p v q).regs = s.regs := rfl
@[simp] theorem putPoint_deviations (p : Nat) (v : Word) (q : Byte) : (s.putPoint p v q).deviations = s.deviations := rfl
@[simp] theorem putPoint_voteStreak (p : Nat) (v : Word) (q : Byte) : (s.putPoint p v q).voteStreak = s.voteStreak := rfl
@[simp] theorem putPoint_host (p : Nat) (v : Word) (q : Byte) : (s.putPoint p v q).host = s.host := rfl
@[simp] theorem putPoint_images (p : Nat) (v : Word) (q : Byte) : (s.putPoint p v q).images = s.images := rfl
@[simp] theorem putPoint_pump (p : Nat) (v : Word) (q : Byte) : (s.putPoint p v q).pump = s.pump := rfl
@[simp] theorem putPoint_wlog (p : Nat) (v : Word) (q : Byte) : (s.putPoint p v q).wlog = s.wlog := rfl
@[simp] theorem putPoint_wlogPrev (p : Nat) (v : Word) (q : Byte) : (s.putPoint p v q).wlogPrev = s.wlogPrev := rfl
@[simp] theorem putPoint_span (p : Nat) (v : Word) (q : Byte) : (s.putPoint p v q).span = s.span := rfl
@[simp] theorem putPoint_red (p : Nat) (v : Word) (q : Byte) : (s.putPoint p v q).red = s.red := rfl
@[simp] theorem putPoint_safe (p : Nat) (v : Word) (q : Byte) : (s.putPoint p v q).safe = s.safe := rfl
@[simp] theorem putPoint_sec (p : Nat) (v : Word) (q : Byte) : (s.putPoint p v q).sec = s.sec := rfl
@[simp] theorem putPoint_ser (p : Nat) (v : Word) (q : Byte) : (s.putPoint p v q).ser = s.ser := rfl
@[simp] theorem putPoint_trough (p : Nat) (v : Word) (q : Byte) : (s.putPoint p v q).trough = s.trough := rfl
@[simp] theorem putPoint_obs (p : Nat) (v : Word) (q : Byte) : (s.putPoint p v q).obs = s.obs := rfl
@[simp] theorem putPoint_solv (p : Nat) (v : Word) (q : Byte) : (s.putPoint p v q).solv = s.solv := rfl
@[simp] theorem putPoint_qm (p : Nat) (v : Word) (q : Byte) : (s.putPoint p v q).qm = s.qm := rfl
@[simp] theorem putPoint_stn (p : Nat) (v : Word) (q : Byte) : (s.putPoint p v q).stn = s.stn := rfl
@[simp] theorem putPoint_slew (p : Nat) (v : Word) (q : Byte) : (s.putPoint p v q).slew = s.slew := rfl
@[simp] theorem putPoint_time (p : Nat) (v : Word) (q : Byte) : (s.putPoint p v q).time = s.time := rfl
@[simp] theorem putPoint_plate (p : Nat) (v : Word) (q : Byte) : (s.putPoint p v q).plate = s.plate := rfl
@[simp] theorem putPoint_rcd (p : Nat) (v : Word) (q : Byte) : (s.putPoint p v q).rcd = s.rcd := rfl
@[simp] theorem putPoint_cap (p : Nat) (v : Word) (q : Byte) : (s.putPoint p v q).cap = s.cap := rfl
@[simp] theorem putPoint_rst (p : Nat) (v : Word) (q : Byte) : (s.putPoint p v q).rst = s.rst := rfl
@[simp] theorem putPoint_pwr (p : Nat) (v : Word) (q : Byte) : (s.putPoint p v q).pwr = s.pwr := rfl
@[simp] theorem putPoint_keep (p : Nat) (v : Word) (q : Byte) : (s.putPoint p v q).keep = s.keep := rfl

/-! ## State.setProc -/

@[simp] theorem setProc_pending (k : Task) (p : Proc) : (s.setProc k p).pending = s.pending := by cases k <;> rfl
@[simp] theorem setProc_freeCtr (k : Task) (p : Proc) : (s.setProc k p).freeCtr = s.freeCtr := by cases k <;> rfl
@[simp] theorem setProc_variant (k : Task) (p : Proc) : (s.setProc k p).variant = s.variant := by cases k <;> rfl
@[simp] theorem setProc_gradeXT (k : Task) (p : Proc) : (s.setProc k p).gradeXT = s.gradeXT := by cases k <;> rfl
@[simp] theorem setProc_fuses (k : Task) (p : Proc) : (s.setProc k p).fuses = s.fuses := by cases k <;> rfl
@[simp] theorem setProc_mode (k : Task) (p : Proc) : (s.setProc k p).mode = s.mode := by cases k <;> rfl
@[simp] theorem setProc_phase (k : Task) (p : Proc) : (s.setProc k p).phase = s.phase := by cases k <;> rfl
@[simp] theorem setProc_now (k : Task) (p : Proc) : (s.setProc k p).now = s.now := by cases k <;> rfl
@[simp] theorem setProc_up (k : Task) (p : Proc) : (s.setProc k p).up = s.up := by cases k <;> rfl
@[simp] theorem setProc_bnd (k : Task) (p : Proc) : (s.setProc k p).bnd = s.bnd := by cases k <;> rfl
@[simp] theorem setProc_nextBnd (k : Task) (p : Proc) : (s.setProc k p).nextBnd = s.nextBnd := by cases k <;> rfl
@[simp] theorem setProc_n (k : Task) (p : Proc) : (s.setProc k p).n = s.n := by cases k <;> rfl
@[simp] theorem setProc_regs (k : Task) (p : Proc) : (s.setProc k p).regs = s.regs := by cases k <;> rfl
@[simp] theorem setProc_deviations (k : Task) (p : Proc) : (s.setProc k p).deviations = s.deviations := by cases k <;> rfl
@[simp] theorem setProc_voteStreak (k : Task) (p : Proc) : (s.setProc k p).voteStreak = s.voteStreak := by cases k <;> rfl
@[simp] theorem setProc_points (k : Task) (p : Proc) : (s.setProc k p).points = s.points := by cases k <;> rfl
@[simp] theorem setProc_host (k : Task) (p : Proc) : (s.setProc k p).host = s.host := by cases k <;> rfl
@[simp] theorem setProc_images (k : Task) (p : Proc) : (s.setProc k p).images = s.images := by cases k <;> rfl
@[simp] theorem setProc_mirror (k : Task) (p : Proc) : (s.setProc k p).mirror = s.mirror := by cases k <;> rfl
@[simp] theorem setProc_wlog (k : Task) (p : Proc) : (s.setProc k p).wlog = s.wlog := by cases k <;> rfl
@[simp] theorem setProc_wlogPrev (k : Task) (p : Proc) : (s.setProc k p).wlogPrev = s.wlogPrev := by cases k <;> rfl
@[simp] theorem setProc_span (k : Task) (p : Proc) : (s.setProc k p).span = s.span := by cases k <;> rfl
@[simp] theorem setProc_red (k : Task) (p : Proc) : (s.setProc k p).red = s.red := by cases k <;> rfl
@[simp] theorem setProc_safe (k : Task) (p : Proc) : (s.setProc k p).safe = s.safe := by cases k <;> rfl
@[simp] theorem setProc_sec (k : Task) (p : Proc) : (s.setProc k p).sec = s.sec := by cases k <;> rfl
@[simp] theorem setProc_ser (k : Task) (p : Proc) : (s.setProc k p).ser = s.ser := by cases k <;> rfl
@[simp] theorem setProc_trough (k : Task) (p : Proc) : (s.setProc k p).trough = s.trough := by cases k <;> rfl
@[simp] theorem setProc_obs (k : Task) (p : Proc) : (s.setProc k p).obs = s.obs := by cases k <;> rfl
@[simp] theorem setProc_loops (k : Task) (p : Proc) : (s.setProc k p).loops = s.loops := by cases k <;> rfl
@[simp] theorem setProc_alloc (k : Task) (p : Proc) : (s.setProc k p).alloc = s.alloc := by cases k <;> rfl
@[simp] theorem setProc_solv (k : Task) (p : Proc) : (s.setProc k p).solv = s.solv := by cases k <;> rfl
@[simp] theorem setProc_qm (k : Task) (p : Proc) : (s.setProc k p).qm = s.qm := by cases k <;> rfl
@[simp] theorem setProc_stn (k : Task) (p : Proc) : (s.setProc k p).stn = s.stn := by cases k <;> rfl
@[simp] theorem setProc_slew (k : Task) (p : Proc) : (s.setProc k p).slew = s.slew := by cases k <;> rfl
@[simp] theorem setProc_time (k : Task) (p : Proc) : (s.setProc k p).time = s.time := by cases k <;> rfl
@[simp] theorem setProc_plate (k : Task) (p : Proc) : (s.setProc k p).plate = s.plate := by cases k <;> rfl
@[simp] theorem setProc_rcd (k : Task) (p : Proc) : (s.setProc k p).rcd = s.rcd := by cases k <;> rfl
@[simp] theorem setProc_cap (k : Task) (p : Proc) : (s.setProc k p).cap = s.cap := by cases k <;> rfl
@[simp] theorem setProc_rst (k : Task) (p : Proc) : (s.setProc k p).rst = s.rst := by cases k <;> rfl
@[simp] theorem setProc_pwr (k : Task) (p : Proc) : (s.setProc k p).pwr = s.pwr := by cases k <;> rfl
@[simp] theorem setProc_keep (k : Task) (p : Proc) : (s.setProc k p).keep = s.keep := by cases k <;> rfl

/-! ## State.charge -/

@[simp] theorem charge_pending (c : Nat) : (s.charge c).pending = s.pending := rfl
@[simp] theorem charge_freeCtr (c : Nat) : (s.charge c).freeCtr = s.freeCtr := rfl
@[simp] theorem charge_variant (c : Nat) : (s.charge c).variant = s.variant := rfl
@[simp] theorem charge_gradeXT (c : Nat) : (s.charge c).gradeXT = s.gradeXT := rfl
@[simp] theorem charge_fuses (c : Nat) : (s.charge c).fuses = s.fuses := rfl
@[simp] theorem charge_mode (c : Nat) : (s.charge c).mode = s.mode := rfl
@[simp] theorem charge_phase (c : Nat) : (s.charge c).phase = s.phase := rfl
@[simp] theorem charge_bnd (c : Nat) : (s.charge c).bnd = s.bnd := rfl
@[simp] theorem charge_nextBnd (c : Nat) : (s.charge c).nextBnd = s.nextBnd := rfl
@[simp] theorem charge_n (c : Nat) : (s.charge c).n = s.n := rfl
@[simp] theorem charge_regs (c : Nat) : (s.charge c).regs = s.regs := rfl
@[simp] theorem charge_deviations (c : Nat) : (s.charge c).deviations = s.deviations := rfl
@[simp] theorem charge_voteStreak (c : Nat) : (s.charge c).voteStreak = s.voteStreak := rfl
@[simp] theorem charge_points (c : Nat) : (s.charge c).points = s.points := rfl
@[simp] theorem charge_host (c : Nat) : (s.charge c).host = s.host := rfl
@[simp] theorem charge_images (c : Nat) : (s.charge c).images = s.images := rfl
@[simp] theorem charge_mirror (c : Nat) : (s.charge c).mirror = s.mirror := rfl
@[simp] theorem charge_wlog (c : Nat) : (s.charge c).wlog = s.wlog := rfl
@[simp] theorem charge_wlogPrev (c : Nat) : (s.charge c).wlogPrev = s.wlogPrev := rfl
@[simp] theorem charge_span (c : Nat) : (s.charge c).span = s.span := rfl
@[simp] theorem charge_red (c : Nat) : (s.charge c).red = s.red := rfl
@[simp] theorem charge_safe (c : Nat) : (s.charge c).safe = s.safe := rfl
@[simp] theorem charge_sec (c : Nat) : (s.charge c).sec = s.sec := rfl
@[simp] theorem charge_ser (c : Nat) : (s.charge c).ser = s.ser := rfl
@[simp] theorem charge_trough (c : Nat) : (s.charge c).trough = s.trough := rfl
@[simp] theorem charge_obs (c : Nat) : (s.charge c).obs = s.obs := rfl
@[simp] theorem charge_loops (c : Nat) : (s.charge c).loops = s.loops := rfl
@[simp] theorem charge_alloc (c : Nat) : (s.charge c).alloc = s.alloc := rfl
@[simp] theorem charge_solv (c : Nat) : (s.charge c).solv = s.solv := rfl
@[simp] theorem charge_qm (c : Nat) : (s.charge c).qm = s.qm := rfl
@[simp] theorem charge_stn (c : Nat) : (s.charge c).stn = s.stn := rfl
@[simp] theorem charge_time (c : Nat) : (s.charge c).time = s.time := rfl
@[simp] theorem charge_plate (c : Nat) : (s.charge c).plate = s.plate := rfl
@[simp] theorem charge_rcd (c : Nat) : (s.charge c).rcd = s.rcd := rfl
@[simp] theorem charge_cap (c : Nat) : (s.charge c).cap = s.cap := rfl
@[simp] theorem charge_rst (c : Nat) : (s.charge c).rst = s.rst := rfl
@[simp] theorem charge_pwr (c : Nat) : (s.charge c).pwr = s.pwr := rfl

/-! ## State.setTimer -/

@[simp] theorem setTimer_pending (i : Nat) (x : Timer) : (s.setTimer i x).pending = s.pending := rfl
@[simp] theorem setTimer_freeCtr (i : Nat) (x : Timer) : (s.setTimer i x).freeCtr = s.freeCtr := rfl
@[simp] theorem setTimer_variant (i : Nat) (x : Timer) : (s.setTimer i x).variant = s.variant := rfl
@[simp] theorem setTimer_gradeXT (i : Nat) (x : Timer) : (s.setTimer i x).gradeXT = s.gradeXT := rfl
@[simp] theorem setTimer_fuses (i : Nat) (x : Timer) : (s.setTimer i x).fuses = s.fuses := rfl
@[simp] theorem setTimer_mode (i : Nat) (x : Timer) : (s.setTimer i x).mode = s.mode := rfl
@[simp] theorem setTimer_phase (i : Nat) (x : Timer) : (s.setTimer i x).phase = s.phase := rfl
@[simp] theorem setTimer_now (i : Nat) (x : Timer) : (s.setTimer i x).now = s.now := rfl
@[simp] theorem setTimer_up (i : Nat) (x : Timer) : (s.setTimer i x).up = s.up := rfl
@[simp] theorem setTimer_bnd (i : Nat) (x : Timer) : (s.setTimer i x).bnd = s.bnd := rfl
@[simp] theorem setTimer_nextBnd (i : Nat) (x : Timer) : (s.setTimer i x).nextBnd = s.nextBnd := rfl
@[simp] theorem setTimer_n (i : Nat) (x : Timer) : (s.setTimer i x).n = s.n := rfl
@[simp] theorem setTimer_regs (i : Nat) (x : Timer) : (s.setTimer i x).regs = s.regs := rfl
@[simp] theorem setTimer_deviations (i : Nat) (x : Timer) : (s.setTimer i x).deviations = s.deviations := rfl
@[simp] theorem setTimer_voteStreak (i : Nat) (x : Timer) : (s.setTimer i x).voteStreak = s.voteStreak := rfl
@[simp] theorem setTimer_points (i : Nat) (x : Timer) : (s.setTimer i x).points = s.points := rfl
@[simp] theorem setTimer_host (i : Nat) (x : Timer) : (s.setTimer i x).host = s.host := rfl
@[simp] theorem setTimer_images (i : Nat) (x : Timer) : (s.setTimer i x).images = s.images := rfl
@[simp] theorem setTimer_mirror (i : Nat) (x : Timer) : (s.setTimer i x).mirror = s.mirror := rfl
@[simp] theorem setTimer_wlogPrev (i : Nat) (x : Timer) : (s.setTimer i x).wlogPrev = s.wlogPrev := rfl
@[simp] theorem setTimer_span (i : Nat) (x : Timer) : (s.setTimer i x).span = s.span := rfl
@[simp] theorem setTimer_red (i : Nat) (x : Timer) : (s.setTimer i x).red = s.red := rfl
@[simp] theorem setTimer_safe (i : Nat) (x : Timer) : (s.setTimer i x).safe = s.safe := rfl
@[simp] theorem setTimer_sec (i : Nat) (x : Timer) : (s.setTimer i x).sec = s.sec := rfl
@[simp] theorem setTimer_ser (i : Nat) (x : Timer) : (s.setTimer i x).ser = s.ser := rfl
@[simp] theorem setTimer_trough (i : Nat) (x : Timer) : (s.setTimer i x).trough = s.trough := rfl
@[simp] theorem setTimer_obs (i : Nat) (x : Timer) : (s.setTimer i x).obs = s.obs := rfl
@[simp] theorem setTimer_loops (i : Nat) (x : Timer) : (s.setTimer i x).loops = s.loops := rfl
@[simp] theorem setTimer_alloc (i : Nat) (x : Timer) : (s.setTimer i x).alloc = s.alloc := rfl
@[simp] theorem setTimer_solv (i : Nat) (x : Timer) : (s.setTimer i x).solv = s.solv := rfl
@[simp] theorem setTimer_qm (i : Nat) (x : Timer) : (s.setTimer i x).qm = s.qm := rfl
@[simp] theorem setTimer_stn (i : Nat) (x : Timer) : (s.setTimer i x).stn = s.stn := rfl
@[simp] theorem setTimer_slew (i : Nat) (x : Timer) : (s.setTimer i x).slew = s.slew := rfl
@[simp] theorem setTimer_time (i : Nat) (x : Timer) : (s.setTimer i x).time = s.time := rfl
@[simp] theorem setTimer_plate (i : Nat) (x : Timer) : (s.setTimer i x).plate = s.plate := rfl
@[simp] theorem setTimer_rcd (i : Nat) (x : Timer) : (s.setTimer i x).rcd = s.rcd := rfl
@[simp] theorem setTimer_cap (i : Nat) (x : Timer) : (s.setTimer i x).cap = s.cap := rfl
@[simp] theorem setTimer_rst (i : Nat) (x : Timer) : (s.setTimer i x).rst = s.rst := rfl
@[simp] theorem setTimer_pwr (i : Nat) (x : Timer) : (s.setTimer i x).pwr = s.pwr := rfl
@[simp] theorem setTimer_keep (i : Nat) (x : Timer) : (s.setTimer i x).keep = s.keep := rfl

/-! ## State.setCounter -/

@[simp] theorem setCounter_pending (i : Nat) (x : Counter) : (s.setCounter i x).pending = s.pending := rfl
@[simp] theorem setCounter_freeCtr (i : Nat) (x : Counter) : (s.setCounter i x).freeCtr = s.freeCtr := rfl
@[simp] theorem setCounter_variant (i : Nat) (x : Counter) : (s.setCounter i x).variant = s.variant := rfl
@[simp] theorem setCounter_gradeXT (i : Nat) (x : Counter) : (s.setCounter i x).gradeXT = s.gradeXT := rfl
@[simp] theorem setCounter_fuses (i : Nat) (x : Counter) : (s.setCounter i x).fuses = s.fuses := rfl
@[simp] theorem setCounter_mode (i : Nat) (x : Counter) : (s.setCounter i x).mode = s.mode := rfl
@[simp] theorem setCounter_phase (i : Nat) (x : Counter) : (s.setCounter i x).phase = s.phase := rfl
@[simp] theorem setCounter_now (i : Nat) (x : Counter) : (s.setCounter i x).now = s.now := rfl
@[simp] theorem setCounter_up (i : Nat) (x : Counter) : (s.setCounter i x).up = s.up := rfl
@[simp] theorem setCounter_bnd (i : Nat) (x : Counter) : (s.setCounter i x).bnd = s.bnd := rfl
@[simp] theorem setCounter_nextBnd (i : Nat) (x : Counter) : (s.setCounter i x).nextBnd = s.nextBnd := rfl
@[simp] theorem setCounter_n (i : Nat) (x : Counter) : (s.setCounter i x).n = s.n := rfl
@[simp] theorem setCounter_regs (i : Nat) (x : Counter) : (s.setCounter i x).regs = s.regs := rfl
@[simp] theorem setCounter_deviations (i : Nat) (x : Counter) : (s.setCounter i x).deviations = s.deviations := rfl
@[simp] theorem setCounter_voteStreak (i : Nat) (x : Counter) : (s.setCounter i x).voteStreak = s.voteStreak := rfl
@[simp] theorem setCounter_points (i : Nat) (x : Counter) : (s.setCounter i x).points = s.points := rfl
@[simp] theorem setCounter_host (i : Nat) (x : Counter) : (s.setCounter i x).host = s.host := rfl
@[simp] theorem setCounter_images (i : Nat) (x : Counter) : (s.setCounter i x).images = s.images := rfl
@[simp] theorem setCounter_mirror (i : Nat) (x : Counter) : (s.setCounter i x).mirror = s.mirror := rfl
@[simp] theorem setCounter_wlogPrev (i : Nat) (x : Counter) : (s.setCounter i x).wlogPrev = s.wlogPrev := rfl
@[simp] theorem setCounter_span (i : Nat) (x : Counter) : (s.setCounter i x).span = s.span := rfl
@[simp] theorem setCounter_red (i : Nat) (x : Counter) : (s.setCounter i x).red = s.red := rfl
@[simp] theorem setCounter_safe (i : Nat) (x : Counter) : (s.setCounter i x).safe = s.safe := rfl
@[simp] theorem setCounter_sec (i : Nat) (x : Counter) : (s.setCounter i x).sec = s.sec := rfl
@[simp] theorem setCounter_ser (i : Nat) (x : Counter) : (s.setCounter i x).ser = s.ser := rfl
@[simp] theorem setCounter_trough (i : Nat) (x : Counter) : (s.setCounter i x).trough = s.trough := rfl
@[simp] theorem setCounter_obs (i : Nat) (x : Counter) : (s.setCounter i x).obs = s.obs := rfl
@[simp] theorem setCounter_loops (i : Nat) (x : Counter) : (s.setCounter i x).loops = s.loops := rfl
@[simp] theorem setCounter_alloc (i : Nat) (x : Counter) : (s.setCounter i x).alloc = s.alloc := rfl
@[simp] theorem setCounter_solv (i : Nat) (x : Counter) : (s.setCounter i x).solv = s.solv := rfl
@[simp] theorem setCounter_qm (i : Nat) (x : Counter) : (s.setCounter i x).qm = s.qm := rfl
@[simp] theorem setCounter_stn (i : Nat) (x : Counter) : (s.setCounter i x).stn = s.stn := rfl
@[simp] theorem setCounter_slew (i : Nat) (x : Counter) : (s.setCounter i x).slew = s.slew := rfl
@[simp] theorem setCounter_time (i : Nat) (x : Counter) : (s.setCounter i x).time = s.time := rfl
@[simp] theorem setCounter_plate (i : Nat) (x : Counter) : (s.setCounter i x).plate = s.plate := rfl
@[simp] theorem setCounter_rcd (i : Nat) (x : Counter) : (s.setCounter i x).rcd = s.rcd := rfl
@[simp] theorem setCounter_cap (i : Nat) (x : Counter) : (s.setCounter i x).cap = s.cap := rfl
@[simp] theorem setCounter_rst (i : Nat) (x : Counter) : (s.setCounter i x).rst = s.rst := rfl
@[simp] theorem setCounter_pwr (i : Nat) (x : Counter) : (s.setCounter i x).pwr = s.pwr := rfl
@[simp] theorem setCounter_keep (i : Nat) (x : Counter) : (s.setCounter i x).keep = s.keep := rfl

/-! ## State.setEdge -/

@[simp] theorem setEdge_pending (i : Nat) (x : Bool) : (s.setEdge i x).pending = s.pending := rfl
@[simp] theorem setEdge_freeCtr (i : Nat) (x : Bool) : (s.setEdge i x).freeCtr = s.freeCtr := rfl
@[simp] theorem setEdge_variant (i : Nat) (x : Bool) : (s.setEdge i x).variant = s.variant := rfl
@[simp] theorem setEdge_gradeXT (i : Nat) (x : Bool) : (s.setEdge i x).gradeXT = s.gradeXT := rfl
@[simp] theorem setEdge_fuses (i : Nat) (x : Bool) : (s.setEdge i x).fuses = s.fuses := rfl
@[simp] theorem setEdge_mode (i : Nat) (x : Bool) : (s.setEdge i x).mode = s.mode := rfl
@[simp] theorem setEdge_phase (i : Nat) (x : Bool) : (s.setEdge i x).phase = s.phase := rfl
@[simp] theorem setEdge_now (i : Nat) (x : Bool) : (s.setEdge i x).now = s.now := rfl
@[simp] theorem setEdge_up (i : Nat) (x : Bool) : (s.setEdge i x).up = s.up := rfl
@[simp] theorem setEdge_bnd (i : Nat) (x : Bool) : (s.setEdge i x).bnd = s.bnd := rfl
@[simp] theorem setEdge_nextBnd (i : Nat) (x : Bool) : (s.setEdge i x).nextBnd = s.nextBnd := rfl
@[simp] theorem setEdge_n (i : Nat) (x : Bool) : (s.setEdge i x).n = s.n := rfl
@[simp] theorem setEdge_regs (i : Nat) (x : Bool) : (s.setEdge i x).regs = s.regs := rfl
@[simp] theorem setEdge_deviations (i : Nat) (x : Bool) : (s.setEdge i x).deviations = s.deviations := rfl
@[simp] theorem setEdge_voteStreak (i : Nat) (x : Bool) : (s.setEdge i x).voteStreak = s.voteStreak := rfl
@[simp] theorem setEdge_points (i : Nat) (x : Bool) : (s.setEdge i x).points = s.points := rfl
@[simp] theorem setEdge_host (i : Nat) (x : Bool) : (s.setEdge i x).host = s.host := rfl
@[simp] theorem setEdge_images (i : Nat) (x : Bool) : (s.setEdge i x).images = s.images := rfl
@[simp] theorem setEdge_mirror (i : Nat) (x : Bool) : (s.setEdge i x).mirror = s.mirror := rfl
@[simp] theorem setEdge_wlogPrev (i : Nat) (x : Bool) : (s.setEdge i x).wlogPrev = s.wlogPrev := rfl
@[simp] theorem setEdge_span (i : Nat) (x : Bool) : (s.setEdge i x).span = s.span := rfl
@[simp] theorem setEdge_red (i : Nat) (x : Bool) : (s.setEdge i x).red = s.red := rfl
@[simp] theorem setEdge_safe (i : Nat) (x : Bool) : (s.setEdge i x).safe = s.safe := rfl
@[simp] theorem setEdge_sec (i : Nat) (x : Bool) : (s.setEdge i x).sec = s.sec := rfl
@[simp] theorem setEdge_ser (i : Nat) (x : Bool) : (s.setEdge i x).ser = s.ser := rfl
@[simp] theorem setEdge_trough (i : Nat) (x : Bool) : (s.setEdge i x).trough = s.trough := rfl
@[simp] theorem setEdge_obs (i : Nat) (x : Bool) : (s.setEdge i x).obs = s.obs := rfl
@[simp] theorem setEdge_loops (i : Nat) (x : Bool) : (s.setEdge i x).loops = s.loops := rfl
@[simp] theorem setEdge_alloc (i : Nat) (x : Bool) : (s.setEdge i x).alloc = s.alloc := rfl
@[simp] theorem setEdge_solv (i : Nat) (x : Bool) : (s.setEdge i x).solv = s.solv := rfl
@[simp] theorem setEdge_qm (i : Nat) (x : Bool) : (s.setEdge i x).qm = s.qm := rfl
@[simp] theorem setEdge_stn (i : Nat) (x : Bool) : (s.setEdge i x).stn = s.stn := rfl
@[simp] theorem setEdge_slew (i : Nat) (x : Bool) : (s.setEdge i x).slew = s.slew := rfl
@[simp] theorem setEdge_time (i : Nat) (x : Bool) : (s.setEdge i x).time = s.time := rfl
@[simp] theorem setEdge_plate (i : Nat) (x : Bool) : (s.setEdge i x).plate = s.plate := rfl
@[simp] theorem setEdge_rcd (i : Nat) (x : Bool) : (s.setEdge i x).rcd = s.rcd := rfl
@[simp] theorem setEdge_cap (i : Nat) (x : Bool) : (s.setEdge i x).cap = s.cap := rfl
@[simp] theorem setEdge_rst (i : Nat) (x : Bool) : (s.setEdge i x).rst = s.rst := rfl
@[simp] theorem setEdge_pwr (i : Nat) (x : Bool) : (s.setEdge i x).pwr = s.pwr := rfl
@[simp] theorem setEdge_keep (i : Nat) (x : Bool) : (s.setEdge i x).keep = s.keep := rfl

end Sys2Proof.Laws
end

