-- ==== Sys2Proof/Laws/Store.lean ====
section
/-! SUPPORT. Laws of the sparse store: what a read after a write gives, and that writes keep the canonical form. -/

namespace Sys2Proof.Laws
open Sys2Proof.Machine

variable {α : Type}

theorem storeFind_put_same (l : Store α) (k : Nat) (v : α) : storeFind (storePut l k v) k = some v := by
  induction l with
  | nil => simp [storePut, storeFind]
  | cons e t ih =>
    obtain ⟨a, w⟩ := e
    unfold storePut
    split
    · simp [storeFind]
    · split
      · simp [storeFind]
      · rename_i h1 h2
        simp only [storeFind, if_neg (fun h : a = k => h2 h.symm), ih]

theorem storeFind_put_other (l : Store α) (k j : Nat) (v : α) (h : j ≠ k) : storeFind (storePut l k v) j = storeFind l j := by
  induction l with
  | nil => simp [storePut, storeFind, h.symm]
  | cons e t ih =>
    obtain ⟨a, w⟩ := e
    unfold storePut
    split
    · simp [storeFind, h.symm]
    · split
      · rename_i h2; subst h2; simp [storeFind, h.symm]
      · simp only [storeFind, ih]

theorem storeFind_del_same (l : Store α) (k : Nat) : storeFind (storeDel l k) k = none := by
  induction l with
  | nil => rfl
  | cons e t ih =>
    obtain ⟨a, w⟩ := e
    unfold storeDel
    split
    · exact ih
    · rename_i h; simp only [storeFind, if_neg h, ih]

theorem storeFind_del_other (l : Store α) (k j : Nat) (h : j ≠ k) : storeFind (storeDel l k) j = storeFind l j := by
  induction l with
  | nil => rfl
  | cons e t ih =>
    obtain ⟨a, w⟩ := e
    unfold storeDel
    split
    · rename_i h2; subst h2; simp only [storeFind, if_neg h.symm, ih]
    · simp only [storeFind, ih]

/-- A read of the key just written gives the value. -/
@[simp] theorem storeGet_set_same [DecidableEq α] (l : Store α) (k : Nat) (v d : α) : storeGet (storeSet l k v d) k d = v := by
  unfold storeGet storeSet
  split
  · rename_i h; rw [storeFind_del_same, h]; rfl
  · rw [storeFind_put_same]; rfl

/-- A write leaves every other key alone. -/
theorem storeGet_set_other [DecidableEq α] (l : Store α) (k j : Nat) (v d e : α) (h : j ≠ k) :
    storeGet (storeSet l k v d) j e = storeGet l j e := by
  unfold storeGet storeSet
  split
  · rw [storeFind_del_other l k j h]
  · rw [storeFind_put_other l k j v h]

theorem storeAbove_mono (l : Store α) (b c : Nat) (h : c ≤ b) (hl : storeAbove b l = true) : storeAbove c l = true := by
  cases l with
  | nil => rfl
  | cons e t =>
    obtain ⟨a, w⟩ := e
    simp only [storeAbove, Bool.and_eq_true, decide_eq_true_eq] at hl ⊢
    exact ⟨by omega, hl.2⟩

theorem storeAbove_put (l : Store α) (b k : Nat) (v : α) (h : b < k) (hl : storeAbove b l = true) :
    storeAbove b (storePut l k v) = true := by
  induction l generalizing b with
  | nil => simp [storePut, storeAbove, h]
  | cons e t ih =>
    obtain ⟨a, w⟩ := e
    simp only [storeAbove, Bool.and_eq_true, decide_eq_true_eq] at hl
    unfold storePut
    split
    · rename_i h1; simp only [storeAbove, Bool.and_eq_true, decide_eq_true_eq]; exact ⟨h, h1, hl.2⟩
    · split
      · rename_i h1 h2; subst h2; simp only [storeAbove, Bool.and_eq_true, decide_eq_true_eq]; exact ⟨h, hl.2⟩
      · rename_i h1 h2
        simp only [storeAbove, Bool.and_eq_true, decide_eq_true_eq]
        exact ⟨hl.1, ih a (by omega) hl.2⟩

theorem storeAbove_del (l : Store α) (b k : Nat) (hl : storeAbove b l = true) : storeAbove b (storeDel l k) = true := by
  induction l generalizing b with
  | nil => rfl
  | cons e t ih =>
    obtain ⟨a, w⟩ := e
    simp only [storeAbove, Bool.and_eq_true, decide_eq_true_eq] at hl
    unfold storeDel
    split
    · exact ih b (storeAbove_mono t a b (by omega) hl.2)
    · simp only [storeAbove, Bool.and_eq_true, decide_eq_true_eq]; exact ⟨hl.1, ih a hl.2⟩

theorem storeSorted_above (l : Store α) (b : Nat) (hl : storeAbove b l = true) : storeSorted l = true := by
  cases l with
  | nil => rfl
  | cons e t => simp only [storeAbove, Bool.and_eq_true] at hl; exact hl.2

theorem storeSorted_put (l : Store α) (k : Nat) (v : α) (hl : storeSorted l = true) : storeSorted (storePut l k v) = true := by
  cases l with
  | nil => rfl
  | cons e t =>
    obtain ⟨a, w⟩ := e
    simp only [storeSorted] at hl
    unfold storePut
    split
    · rename_i h; simp only [storeSorted, storeAbove, Bool.and_eq_true, decide_eq_true_eq]; exact ⟨h, hl⟩
    · split
      · rename_i h; subst h; exact hl
      · exact storeAbove_put t a k v (by omega) hl

theorem storeSorted_del (l : Store α) (k : Nat) (hl : storeSorted l = true) : storeSorted (storeDel l k) = true := by
  cases l with
  | nil => rfl
  | cons e t =>
    obtain ⟨a, w⟩ := e
    simp only [storeSorted] at hl
    unfold storeDel
    split
    · exact storeSorted_above _ a (storeAbove_del t a k hl)
    · exact storeAbove_del t a k hl

theorem mem_storePut (l : Store α) (k : Nat) (v : α) (e : Nat × α) (h : e ∈ storePut l k v) : e = (k, v) ∨ e ∈ l := by
  induction l with
  | nil => simpa [storePut] using h
  | cons x t ih =>
    obtain ⟨a, w⟩ := x
    unfold storePut at h
    split at h
    · simpa using h
    · split at h
      · rcases List.mem_cons.1 h with h | h
        · exact .inl h
        · exact .inr (List.mem_cons_of_mem _ h)
      · rcases List.mem_cons.1 h with h | h
        · exact .inr (by simp [h])
        · rcases ih h with h | h
          · exact .inl h
          · exact .inr (List.mem_cons_of_mem _ h)

theorem mem_storeDel (l : Store α) (k : Nat) (e : Nat × α) (h : e ∈ storeDel l k) : e ∈ l := by
  induction l with
  | nil => simp [storeDel] at h
  | cons x t ih =>
    obtain ⟨a, w⟩ := x
    unfold storeDel at h
    split at h
    · exact List.mem_cons_of_mem _ (ih h)
    · rcases List.mem_cons.1 h with h | h
      · simp [h]
      · exact List.mem_cons_of_mem _ (ih h)

/-- A write keeps the canonical form. -/
theorem storeWf_set [DecidableEq α] (l : Store α) (k : Nat) (v : α) (d : Nat → α) (hl : storeWf l d = true) :
    storeWf (storeSet l k v (d k)) d = true := by
  simp only [storeWf, Bool.and_eq_true, List.all_eq_true, decide_eq_true_eq] at hl ⊢
  unfold storeSet
  split
  · exact ⟨storeSorted_del l k hl.1, fun e he => hl.2 e (mem_storeDel l k e he)⟩
  · rename_i hv
    refine ⟨storeSorted_put l k v hl.1, fun e he => ?_⟩
    rcases mem_storePut l k v e he with rfl | he
    · exact hv
    · exact hl.2 e he

end Sys2Proof.Laws
end

