-- ==== Sys2Proof/Laws/Regs.lean ====
section
/-! SUPPORT. Laws of register fields and points: a read after a write, writes that keep the canonical form. -/

namespace Sys2Proof.Laws
open Sys2Proof.Machine

/-- A field just written reads as the value cut to its width. -/
@[simp] theorem get_set_same (s : State) (f : Fld) (v i : Nat) : (s.set f v i).get f i = v % 2 ^ f.width :=
  storeGet_set_same _ _ _ _

/-- A write leaves every other field alone. -/
theorem get_set_other (s : State) (f g : Fld) (v i j : Nat) (h : g.key j ≠ f.key i) : (s.set f v i).get g j = s.get g j :=
  storeGet_set_other _ _ _ _ _ _ h

theorem get_setFlag_other (s : State) (f g : Fld) (b : Bool) (i j : Nat) (h : g.key j ≠ f.key i) :
    (s.setFlag f b i).get g j = s.get g j := get_set_other _ _ _ _ _ _ h

theorem flag_setFlag_same (s : State) (f : Fld) (b : Bool) (i : Nat) (h : f.width ≠ 0) : (s.setFlag f b i).flag f i = b := by
  unfold State.flag State.setFlag
  rw [get_set_same]
  have hw : 2 ≤ 2 ^ f.width := by
    calc 2 = 2 ^ 1 := rfl
      _ ≤ 2 ^ f.width := Nat.pow_le_pow_right (by decide) (by omega)
  cases b
  · simp [b2n]
  · simp only [b2n, if_true]; rw [Nat.mod_eq_of_lt (by omega)]; rfl

theorem flag_set_other (s : State) (f g : Fld) (v i j : Nat) (h : g.key j ≠ f.key i) : (s.set f v i).flag g j = s.flag g j := by
  unfold State.flag; rw [get_set_other s f g v i j h]

theorem flag_setFlag_other (s : State) (f g : Fld) (b : Bool) (i j : Nat) (h : g.key j ≠ f.key i) :
    (s.setFlag f b i).flag g j = s.flag g j := flag_set_other _ _ _ _ _ _ h

/-- A read of fields depends on the register store alone. -/
theorem get_of_regs {s t : State} (h : t.regs = s.regs) (f : Fld) (i : Nat) : t.get f i = s.get f i := by
  unfold State.get; rw [h]

theorem flag_of_regs {s t : State} (h : t.regs = s.regs) (f : Fld) (i : Nat) : t.flag f i = s.flag f i := by
  unfold State.flag; rw [get_of_regs h]

/-! ## Points -/

@[simp] theorem point_setPoint_same (s : State) (p : Nat) (r : Point) : (s.setPoint p r).point p = r := storeGet_set_same _ _ _ _

theorem point_setPoint_other (s : State) (p q : Nat) (r : Point) (h : q ≠ p) : (s.setPoint p r).point q = s.point q :=
  storeGet_set_other _ _ _ _ _ _ h

theorem point_of_points {s t : State} (h : t.points = s.points) (hv : t.variant = s.variant) (p : Nat) : t.point p = s.point p := by
  unfold State.point; rw [h, hv]

/-- The canonical form of the point image. -/
def PointsWf (s : State) : Prop := storeWf s.points (pointDefault s.variant) = true

/-- The canonical form of the register file is judged against what its fields read as when unlisted. -/
theorem setPoint_wf (s : State) (p : Nat) (r : Point) (h : PointsWf s) : PointsWf (s.setPoint p r) := storeWf_set _ _ _ _ h

theorem putPoint_wf (s : State) (p : Nat) (v : Word) (q : Byte) (h : PointsWf s) : PointsWf (s.putPoint p v q) := setPoint_wf _ _ _ h

theorem putGood_wf (s : State) (p v : Nat) (h : PointsWf s) : PointsWf (s.putGood p v) := putPoint_wf _ _ _ _ h

theorem putAll_wf (s : State) (l : List (Nat × Nat)) (h : PointsWf s) : PointsWf (s.putAll l) := by
  unfold State.putAll
  induction l generalizing s with
  | nil => exact h
  | cons e t ih => exact ih _ (putGood_wf _ _ _ h)

theorem initImage_wf (v : Variant) (l : List PointDecl) : storeWf (initImage v l) (pointDefault v) = true := by
  unfold initImage
  have h : ∀ (l : List PointDecl) (m : Store Point), storeWf m (pointDefault v) = true →
      storeWf (l.foldl (fun st d => if areaOf d.addr = .device ∨ populated v d.addr = false then st
        else storeSet st d.addr (initPoint d) (pointDefault v d.addr)) m) (pointDefault v) = true := by
    intro l
    induction l with
    | nil => intro m hm; exact hm
    | cons d t ih =>
      intro m hm
      rw [List.foldl_cons]
      apply ih
      split
      · exact hm
      · exact storeWf_set _ _ _ _ hm
  exact h l [] rfl

/-- The point image of reset is canonical. -/
theorem reset_points_wf : PointsWf State.reset := rfl

end Sys2Proof.Laws
end

