-- ==== Sys2Proof/Laws/Quiet.lean ====
section
/-! SUPPORT. What recording an event, and the release test that follows a change of HEALTH, can do: nothing but the recorder, the capture
ring's stop, the redundancy block's claim and release, and a few register fields. -/

namespace Sys2Proof.Laws
open Sys2Proof.Machine

theorem quiet_refl (s : State) : Quiet s s := ⟨rfl, fun _ _ _ => rfl⟩

theorem quiet_trans {a b c : State} (h : Quiet a b) (g : Quiet b c) : Quiet a c :=
  ⟨g.1.trans h.1, fun f i k => (g.2 f i k).trans (h.2 f i k)⟩

theorem quiet_of_regs {s t : State} (h : t.quietRest = s.quietRest) (g : t.regs = s.regs) : Quiet s t := ⟨h, fun f i _ => get_of_regs g f i⟩

theorem setRcd_quiet (s : State) (r : RecState) : Quiet s { s with rcd := r } := quiet_of_regs rfl rfl

theorem quiet_set (s : State) (f : Fld) (v : Nat) (h : f.key 0 ∈ quietKeys) : Quiet s (s.set f v) :=
  ⟨by unfold State.quietRest State.set; rfl, fun g i k => get_set_other s f g v 0 i (fun e => k (by rw [e]; exact h))⟩

theorem closeRecord_quiet (s : State) (c : Nat) : Quiet s (s.closeRecord c) := by
  unfold State.closeRecord
  split
  · exact quiet_refl _
  · exact quiet_of_regs rfl rfl

theorem closeIfDue_quiet (s : State) (c v t : Nat) (b : Bool) : Quiet s (s.closeIfDue c v t b) := by
  unfold State.closeIfDue
  split
  · exact quiet_refl _
  · dsimp only
    split
    · exact closeRecord_quiet _ _
    · split
      · exact quiet_trans (quiet_of_regs rfl rfl) (closeRecord_quiet _ _)
      · exact quiet_refl _

theorem openRecord_quiet (s : State) (c v t : Nat) (u : State) (h : s.openRecord c v t = some u) : Quiet s u := by
  simp only [State.openRecord, Option.map_eq_some_iff] at h
  obtain ⟨x, -, rfl⟩ := h
  exact quiet_of_regs rfl rfl

theorem count_quiet (s : State) (f : Fld) (h : f.key 0 ∈ quietKeys) : Quiet s (s.count f) := quiet_set _ _ _ h

theorem mergeEvent_quiet (s : State) (c v w t : Nat) (b : Bool) : Quiet s (s.mergeEvent c v w t b) := by
  unfold State.mergeEvent
  refine quiet_trans (closeIfDue_quiet s c w t b) ?_
  generalize s.closeIfDue c w t b = u
  dsimp only
  split
  · exact count_quiet _ _ (by decide)
  · rename_i x h
    have hx : Quiet u x := by
      revert h; split
      · intro h; cases h; exact quiet_refl _
      · exact openRecord_quiet _ _ _ _ _
    split
    · exact hx
    · exact quiet_trans hx (quiet_of_regs rfl rfl)

theorem mergeSuppressed_quiet (s : State) (c v k t : Nat) : Quiet s (s.mergeSuppressed c v k t) := by
  unfold State.mergeSuppressed
  dsimp only
  split
  · exact count_quiet _ _ (by decide)
  · rename_i x h
    have hx : Quiet s x := by
      revert h; split
      · intro h; cases h; exact quiet_refl _
      · exact openRecord_quiet _ _ _ _ _
    split
    · exact hx
    · exact quiet_trans hx (quiet_of_regs rfl rfl)

theorem pendEvent_quiet (s : State) (e : PendEntry) : Quiet s (s.pendEvent e) := by
  unfold State.pendEvent
  split
  · exact quiet_of_regs rfl rfl
  · dsimp only
    refine quiet_trans (count_quiet s Reg.REC_LOSS_PEND_DROP (by decide)) ?_
    split
    · exact quiet_refl _
    · split
      · exact quiet_refl _
      · exact quiet_of_regs rfl rfl

theorem captureTrigger_quiet (s : State) (v : Nat) : Quiet s (s.captureTrigger v) := by
  unfold State.captureTrigger
  split
  · exact quiet_trans (quiet_set s Reg.CAP_STAT_STATE 2 (by decide)) (quiet_of_regs rfl rfl)
  · exact quiet_refl _

/-- Recording an event is quiet. -/
theorem raiseWith_quiet (s : State) (c v : Nat) : Quiet s (s.raiseWith c v) := by
  unfold State.raiseWith
  dsimp only
  split
  · refine quiet_trans (quiet_trans
      (setRcd_quiet s { s.rcd with buckets := storePut s.rcd.buckets c (s.tokens c - 1000000000, s.up) })
      (captureTrigger_quiet _ (severityOf c))) ?_
    split
    · exact pendEvent_quiet _ _
    · exact mergeEvent_quiet _ _ _ _ _ _
  · split
    · exact quiet_of_regs rfl rfl
    · exact quiet_trans (quiet_of_regs rfl rfl) (mergeSuppressed_quiet _ _ _ _ _)

theorem raise_quiet (s : State) (c : Nat) : Quiet s (s.raise c) :=
  quiet_trans (b := (s.draw 32).2) (quiet_of_regs rfl rfl) (raiseWith_quiet _ _ _)

theorem sample_quiet (s : State) (c v : Nat) : Quiet s (s.sample c v) := by
  unfold State.sample
  split
  · exact pendEvent_quiet _ _
  · exact mergeEvent_quiet _ _ _ _ _ _

theorem sendClaim_quiet (s : State) : Quiet s s.sendClaim := by
  unfold State.sendClaim
  split
  · exact quiet_of_regs rfl rfl
  · exact quiet_refl _

theorem release_quiet (s : State) : Quiet s s.release := by
  unfold State.release
  dsimp only
  refine quiet_trans (b := { s with red := { s.red with release := some s.boundarySkip } }) (quiet_of_regs rfl rfl) ?_
  exact quiet_trans (quiet_trans (quiet_set _ Reg.RED_STAT_RELEASE_BLOCKED _ (by decide)) (raise_quiet _ _)) (sendClaim_quiet _)

/-- What follows a change of HEALTH is quiet. -/
theorem healthCheck_quiet (s : State) : Quiet s s.healthCheck := by
  unfold State.healthCheck
  have h : Quiet s s.releaseDecide := by
    unfold State.releaseDecide
    split
    · split
      · split
        · exact release_quiet _
        · split
          · exact quiet_refl _
          · exact quiet_trans (quiet_set _ Reg.RED_STAT_RELEASE_BLOCKED _ (by decide)) (raise_quiet _ _)
      · exact quiet_set _ Reg.RED_STAT_RELEASE_BLOCKED _ (by decide)
    · exact quiet_refl _
  refine quiet_trans h ?_
  unfold State.claimUpdate
  split
  · exact sendClaim_quiet _
  · exact quiet_refl _

theorem Quiet.flag {s t : State} (h : Quiet s t) (f : Fld) (i : Nat) (k : f.key i ∉ quietKeys) : t.flag f i = s.flag f i := by
  unfold State.flag; rw [h.2 f i k]

theorem Quiet.pending {s t : State} (h : Quiet s t) : t.pending = s.pending := show t.quietRest.pending = s.quietRest.pending from congrArg State.pending h.1
theorem Quiet.variant {s t : State} (h : Quiet s t) : t.variant = s.variant := show t.quietRest.variant = s.quietRest.variant from congrArg State.variant h.1
theorem Quiet.gradeXT {s t : State} (h : Quiet s t) : t.gradeXT = s.gradeXT := show t.quietRest.gradeXT = s.quietRest.gradeXT from congrArg State.gradeXT h.1
theorem Quiet.fuses {s t : State} (h : Quiet s t) : t.fuses = s.fuses := show t.quietRest.fuses = s.quietRest.fuses from congrArg State.fuses h.1
theorem Quiet.mode {s t : State} (h : Quiet s t) : t.mode = s.mode := show t.quietRest.mode = s.quietRest.mode from congrArg State.mode h.1
theorem Quiet.phase {s t : State} (h : Quiet s t) : t.phase = s.phase := show t.quietRest.phase = s.quietRest.phase from congrArg State.phase h.1
theorem Quiet.now {s t : State} (h : Quiet s t) : t.now = s.now := show t.quietRest.now = s.quietRest.now from congrArg State.now h.1
theorem Quiet.up {s t : State} (h : Quiet s t) : t.up = s.up := show t.quietRest.up = s.quietRest.up from congrArg State.up h.1
theorem Quiet.bnd {s t : State} (h : Quiet s t) : t.bnd = s.bnd := show t.quietRest.bnd = s.quietRest.bnd from congrArg State.bnd h.1
theorem Quiet.nextBnd {s t : State} (h : Quiet s t) : t.nextBnd = s.nextBnd := show t.quietRest.nextBnd = s.quietRest.nextBnd from congrArg State.nextBnd h.1
theorem Quiet.n {s t : State} (h : Quiet s t) : t.n = s.n := show t.quietRest.n = s.quietRest.n from congrArg State.n h.1
theorem Quiet.deviations {s t : State} (h : Quiet s t) : t.deviations = s.deviations := show t.quietRest.deviations = s.quietRest.deviations from congrArg State.deviations h.1
theorem Quiet.voteStreak {s t : State} (h : Quiet s t) : t.voteStreak = s.voteStreak := show t.quietRest.voteStreak = s.quietRest.voteStreak from congrArg State.voteStreak h.1
theorem Quiet.points {s t : State} (h : Quiet s t) : t.points = s.points := show t.quietRest.points = s.quietRest.points from congrArg State.points h.1
theorem Quiet.host {s t : State} (h : Quiet s t) : t.host = s.host := show t.quietRest.host = s.quietRest.host from congrArg State.host h.1
theorem Quiet.images {s t : State} (h : Quiet s t) : t.images = s.images := show t.quietRest.images = s.quietRest.images from congrArg State.images h.1
theorem Quiet.pump {s t : State} (h : Quiet s t) : t.pump = s.pump := show t.quietRest.pump = s.quietRest.pump from congrArg State.pump h.1
theorem Quiet.mirror {s t : State} (h : Quiet s t) : t.mirror = s.mirror := show t.quietRest.mirror = s.quietRest.mirror from congrArg State.mirror h.1
theorem Quiet.wlog {s t : State} (h : Quiet s t) : t.wlog = s.wlog := show t.quietRest.wlog = s.quietRest.wlog from congrArg State.wlog h.1
theorem Quiet.wlogPrev {s t : State} (h : Quiet s t) : t.wlogPrev = s.wlogPrev := show t.quietRest.wlogPrev = s.quietRest.wlogPrev from congrArg State.wlogPrev h.1
theorem Quiet.span {s t : State} (h : Quiet s t) : t.span = s.span := show t.quietRest.span = s.quietRest.span from congrArg State.span h.1
theorem Quiet.safe {s t : State} (h : Quiet s t) : t.safe = s.safe := show t.quietRest.safe = s.quietRest.safe from congrArg State.safe h.1
theorem Quiet.sec {s t : State} (h : Quiet s t) : t.sec = s.sec := show t.quietRest.sec = s.quietRest.sec from congrArg State.sec h.1
theorem Quiet.ser {s t : State} (h : Quiet s t) : t.ser = s.ser := show t.quietRest.ser = s.quietRest.ser from congrArg State.ser h.1
theorem Quiet.trough {s t : State} (h : Quiet s t) : t.trough = s.trough := show t.quietRest.trough = s.quietRest.trough from congrArg State.trough h.1
theorem Quiet.obs {s t : State} (h : Quiet s t) : t.obs = s.obs := show t.quietRest.obs = s.quietRest.obs from congrArg State.obs h.1
theorem Quiet.loops {s t : State} (h : Quiet s t) : t.loops = s.loops := show t.quietRest.loops = s.quietRest.loops from congrArg State.loops h.1
theorem Quiet.alloc {s t : State} (h : Quiet s t) : t.alloc = s.alloc := show t.quietRest.alloc = s.quietRest.alloc from congrArg State.alloc h.1
theorem Quiet.solv {s t : State} (h : Quiet s t) : t.solv = s.solv := show t.quietRest.solv = s.quietRest.solv from congrArg State.solv h.1
theorem Quiet.qm {s t : State} (h : Quiet s t) : t.qm = s.qm := show t.quietRest.qm = s.quietRest.qm from congrArg State.qm h.1
theorem Quiet.stn {s t : State} (h : Quiet s t) : t.stn = s.stn := show t.quietRest.stn = s.quietRest.stn from congrArg State.stn h.1
theorem Quiet.time {s t : State} (h : Quiet s t) : t.time = s.time := show t.quietRest.time = s.quietRest.time from congrArg State.time h.1
theorem Quiet.plate {s t : State} (h : Quiet s t) : t.plate = s.plate := show t.quietRest.plate = s.quietRest.plate from congrArg State.plate h.1
theorem Quiet.rst {s t : State} (h : Quiet s t) : t.rst = s.rst := show t.quietRest.rst = s.quietRest.rst from congrArg State.rst h.1
theorem Quiet.pwr {s t : State} (h : Quiet s t) : t.pwr = s.pwr := show t.quietRest.pwr = s.quietRest.pwr from congrArg State.pwr h.1
theorem Quiet.keep {s t : State} (h : Quiet s t) : t.keep = s.keep := show t.quietRest.keep = s.quietRest.keep from congrArg State.keep h.1

@[simp] theorem raise_pending (s : State) (c : Nat) : (s.raise c).pending = s.pending := Quiet.pending (raise_quiet s c)
@[simp] theorem raise_variant (s : State) (c : Nat) : (s.raise c).variant = s.variant := Quiet.variant (raise_quiet s c)
@[simp] theorem raise_gradeXT (s : State) (c : Nat) : (s.raise c).gradeXT = s.gradeXT := Quiet.gradeXT (raise_quiet s c)
@[simp] theorem raise_fuses (s : State) (c : Nat) : (s.raise c).fuses = s.fuses := Quiet.fuses (raise_quiet s c)
@[simp] theorem raise_mode (s : State) (c : Nat) : (s.raise c).mode = s.mode := Quiet.mode (raise_quiet s c)
@[simp] theorem raise_phase (s : State) (c : Nat) : (s.raise c).phase = s.phase := Quiet.phase (raise_quiet s c)
@[simp] theorem raise_now (s : State) (c : Nat) : (s.raise c).now = s.now := Quiet.now (raise_quiet s c)
@[simp] theorem raise_up (s : State) (c : Nat) : (s.raise c).up = s.up := Quiet.up (raise_quiet s c)
@[simp] theorem raise_bnd (s : State) (c : Nat) : (s.raise c).bnd = s.bnd := Quiet.bnd (raise_quiet s c)
@[simp] theorem raise_nextBnd (s : State) (c : Nat) : (s.raise c).nextBnd = s.nextBnd := Quiet.nextBnd (raise_quiet s c)
@[simp] theorem raise_n (s : State) (c : Nat) : (s.raise c).n = s.n := Quiet.n (raise_quiet s c)
@[simp] theorem raise_deviations (s : State) (c : Nat) : (s.raise c).deviations = s.deviations := Quiet.deviations (raise_quiet s c)
@[simp] theorem raise_voteStreak (s : State) (c : Nat) : (s.raise c).voteStreak = s.voteStreak := Quiet.voteStreak (raise_quiet s c)
@[simp] theorem raise_points (s : State) (c : Nat) : (s.raise c).points = s.points := Quiet.points (raise_quiet s c)
@[simp] theorem raise_host (s : State) (c : Nat) : (s.raise c).host = s.host := Quiet.host (raise_quiet s c)
@[simp] theorem raise_images (s : State) (c : Nat) : (s.raise c).images = s.images := Quiet.images (raise_quiet s c)
@[simp] theorem raise_pump (s : State) (c : Nat) : (s.raise c).pump = s.pump := Quiet.pump (raise_quiet s c)
@[simp] theorem raise_mirror (s : State) (c : Nat) : (s.raise c).mirror = s.mirror := Quiet.mirror (raise_quiet s c)
@[simp] theorem raise_wlog (s : State) (c : Nat) : (s.raise c).wlog = s.wlog := Quiet.wlog (raise_quiet s c)
@[simp] theorem raise_wlogPrev (s : State) (c : Nat) : (s.raise c).wlogPrev = s.wlogPrev := Quiet.wlogPrev (raise_quiet s c)
@[simp] theorem raise_span (s : State) (c : Nat) : (s.raise c).span = s.span := Quiet.span (raise_quiet s c)
@[simp] theorem raise_safe (s : State) (c : Nat) : (s.raise c).safe = s.safe := Quiet.safe (raise_quiet s c)
@[simp] theorem raise_sec (s : State) (c : Nat) : (s.raise c).sec = s.sec := Quiet.sec (raise_quiet s c)
@[simp] theorem raise_ser (s : State) (c : Nat) : (s.raise c).ser = s.ser := Quiet.ser (raise_quiet s c)
@[simp] theorem raise_trough (s : State) (c : Nat) : (s.raise c).trough = s.trough := Quiet.trough (raise_quiet s c)
@[simp] theorem raise_obs (s : State) (c : Nat) : (s.raise c).obs = s.obs := Quiet.obs (raise_quiet s c)
@[simp] theorem raise_loops (s : State) (c : Nat) : (s.raise c).loops = s.loops := Quiet.loops (raise_quiet s c)
@[simp] theorem raise_alloc (s : State) (c : Nat) : (s.raise c).alloc = s.alloc := Quiet.alloc (raise_quiet s c)
@[simp] theorem raise_solv (s : State) (c : Nat) : (s.raise c).solv = s.solv := Quiet.solv (raise_quiet s c)
@[simp] theorem raise_qm (s : State) (c : Nat) : (s.raise c).qm = s.qm := Quiet.qm (raise_quiet s c)
@[simp] theorem raise_stn (s : State) (c : Nat) : (s.raise c).stn = s.stn := Quiet.stn (raise_quiet s c)
@[simp] theorem raise_time (s : State) (c : Nat) : (s.raise c).time = s.time := Quiet.time (raise_quiet s c)
@[simp] theorem raise_plate (s : State) (c : Nat) : (s.raise c).plate = s.plate := Quiet.plate (raise_quiet s c)
@[simp] theorem raise_rst (s : State) (c : Nat) : (s.raise c).rst = s.rst := Quiet.rst (raise_quiet s c)
@[simp] theorem raise_pwr (s : State) (c : Nat) : (s.raise c).pwr = s.pwr := Quiet.pwr (raise_quiet s c)
@[simp] theorem raise_keep (s : State) (c : Nat) : (s.raise c).keep = s.keep := Quiet.keep (raise_quiet s c)

@[simp] theorem healthCheck_pending (s : State) : (s.healthCheck).pending = s.pending := Quiet.pending (healthCheck_quiet s)
@[simp] theorem healthCheck_variant (s : State) : (s.healthCheck).variant = s.variant := Quiet.variant (healthCheck_quiet s)
@[simp] theorem healthCheck_gradeXT (s : State) : (s.healthCheck).gradeXT = s.gradeXT := Quiet.gradeXT (healthCheck_quiet s)
@[simp] theorem healthCheck_fuses (s : State) : (s.healthCheck).fuses = s.fuses := Quiet.fuses (healthCheck_quiet s)
@[simp] theorem healthCheck_mode (s : State) : (s.healthCheck).mode = s.mode := Quiet.mode (healthCheck_quiet s)
@[simp] theorem healthCheck_phase (s : State) : (s.healthCheck).phase = s.phase := Quiet.phase (healthCheck_quiet s)
@[simp] theorem healthCheck_now (s : State) : (s.healthCheck).now = s.now := Quiet.now (healthCheck_quiet s)
@[simp] theorem healthCheck_up (s : State) : (s.healthCheck).up = s.up := Quiet.up (healthCheck_quiet s)
@[simp] theorem healthCheck_bnd (s : State) : (s.healthCheck).bnd = s.bnd := Quiet.bnd (healthCheck_quiet s)
@[simp] theorem healthCheck_nextBnd (s : State) : (s.healthCheck).nextBnd = s.nextBnd := Quiet.nextBnd (healthCheck_quiet s)
@[simp] theorem healthCheck_n (s : State) : (s.healthCheck).n = s.n := Quiet.n (healthCheck_quiet s)
@[simp] theorem healthCheck_deviations (s : State) : (s.healthCheck).deviations = s.deviations := Quiet.deviations (healthCheck_quiet s)
@[simp] theorem healthCheck_voteStreak (s : State) : (s.healthCheck).voteStreak = s.voteStreak := Quiet.voteStreak (healthCheck_quiet s)
@[simp] theorem healthCheck_points (s : State) : (s.healthCheck).points = s.points := Quiet.points (healthCheck_quiet s)
@[simp] theorem healthCheck_host (s : State) : (s.healthCheck).host = s.host := Quiet.host (healthCheck_quiet s)
@[simp] theorem healthCheck_images (s : State) : (s.healthCheck).images = s.images := Quiet.images (healthCheck_quiet s)
@[simp] theorem healthCheck_pump (s : State) : (s.healthCheck).pump = s.pump := Quiet.pump (healthCheck_quiet s)
@[simp] theorem healthCheck_mirror (s : State) : (s.healthCheck).mirror = s.mirror := Quiet.mirror (healthCheck_quiet s)
@[simp] theorem healthCheck_wlog (s : State) : (s.healthCheck).wlog = s.wlog := Quiet.wlog (healthCheck_quiet s)
@[simp] theorem healthCheck_wlogPrev (s : State) : (s.healthCheck).wlogPrev = s.wlogPrev := Quiet.wlogPrev (healthCheck_quiet s)
@[simp] theorem healthCheck_span (s : State) : (s.healthCheck).span = s.span := Quiet.span (healthCheck_quiet s)
@[simp] theorem healthCheck_safe (s : State) : (s.healthCheck).safe = s.safe := Quiet.safe (healthCheck_quiet s)
@[simp] theorem healthCheck_sec (s : State) : (s.healthCheck).sec = s.sec := Quiet.sec (healthCheck_quiet s)
@[simp] theorem healthCheck_ser (s : State) : (s.healthCheck).ser = s.ser := Quiet.ser (healthCheck_quiet s)
@[simp] theorem healthCheck_trough (s : State) : (s.healthCheck).trough = s.trough := Quiet.trough (healthCheck_quiet s)
@[simp] theorem healthCheck_obs (s : State) : (s.healthCheck).obs = s.obs := Quiet.obs (healthCheck_quiet s)
@[simp] theorem healthCheck_loops (s : State) : (s.healthCheck).loops = s.loops := Quiet.loops (healthCheck_quiet s)
@[simp] theorem healthCheck_alloc (s : State) : (s.healthCheck).alloc = s.alloc := Quiet.alloc (healthCheck_quiet s)
@[simp] theorem healthCheck_solv (s : State) : (s.healthCheck).solv = s.solv := Quiet.solv (healthCheck_quiet s)
@[simp] theorem healthCheck_qm (s : State) : (s.healthCheck).qm = s.qm := Quiet.qm (healthCheck_quiet s)
@[simp] theorem healthCheck_stn (s : State) : (s.healthCheck).stn = s.stn := Quiet.stn (healthCheck_quiet s)
@[simp] theorem healthCheck_time (s : State) : (s.healthCheck).time = s.time := Quiet.time (healthCheck_quiet s)
@[simp] theorem healthCheck_plate (s : State) : (s.healthCheck).plate = s.plate := Quiet.plate (healthCheck_quiet s)
@[simp] theorem healthCheck_rst (s : State) : (s.healthCheck).rst = s.rst := Quiet.rst (healthCheck_quiet s)
@[simp] theorem healthCheck_pwr (s : State) : (s.healthCheck).pwr = s.pwr := Quiet.pwr (healthCheck_quiet s)
@[simp] theorem healthCheck_keep (s : State) : (s.healthCheck).keep = s.keep := Quiet.keep (healthCheck_quiet s)

/-! ## Frames of register fields -/

theorem fieldsBut_refl (ks : List Nat) (s : State) : FieldsBut ks s s := fun _ _ _ _ => rfl

theorem fieldsBut_trans {ks : List Nat} {a b c : State} (h : FieldsBut ks a b) (g : FieldsBut ks b c) : FieldsBut ks a c :=
  fun f i k q => (g f i k q).trans (h f i k q)

theorem fieldsBut_quiet {ks : List Nat} {s u : State} (h : Quiet s u) : FieldsBut ks s u := fun f i _ q => h.2 f i q

theorem fieldsBut_regs {ks : List Nat} {s u : State} (h : u.regs = s.regs) : FieldsBut ks s u := fun f i _ _ => get_of_regs h f i

theorem fieldsBut_set {ks : List Nat} (s : State) (f : Fld) (v i : Nat) (h : f.key i ∈ ks) : FieldsBut ks s (s.set f v i) :=
  fun g j k _ => get_set_other s f g v i j (fun e => k (by rw [e]; exact h))

theorem fieldsBut_setFlag {ks : List Nat} (s : State) (f : Fld) (b : Bool) (i : Nat) (h : f.key i ∈ ks) : FieldsBut ks s (s.setFlag f b i) :=
  fieldsBut_set s f _ i h

theorem Quiet.get {s t : State} (h : Quiet s t) (f : Fld) (i : Nat) (k : f.key i ∉ quietKeys) : t.get f i = s.get f i := h.2 f i k

end Sys2Proof.Laws
end

