-- ==== Sys2Proof/Laws/Host.lean ====
section
/-! SUPPORT. Host commands: an access touches the host block only, and a command word that passes the general checks is answered with what its
block's own operation answers (`hostCmd_route`), which reduces every host command to that operation. -/

open Sys2Proof Sys2Proof.Machine
namespace Sys2Proof.Laws

/-- An access to the map changes nothing but the host block. -/
theorem touch_host (s : State) (p : Path) : ∃ h, s.touch p = { s with host := h } := by
  unfold State.touch State.txnExpire
  dsimp only
  (repeat' split) <;> exact ⟨_, rfl⟩

@[simp] theorem touch_regs (s : State) (p : Path) : (s.touch p).regs = s.regs := by obtain ⟨h, e⟩ := touch_host s p; rw [e]
@[simp] theorem touch_mode (s : State) (p : Path) : (s.touch p).mode = s.mode := by obtain ⟨h, e⟩ := touch_host s p; rw [e]
@[simp] theorem touch_variant (s : State) (p : Path) : (s.touch p).variant = s.variant := by obtain ⟨h, e⟩ := touch_host s p; rw [e]

@[simp] theorem touch_get (s : State) (p : Path) (f : Fld) (i : Nat) : (s.touch p).get f i = s.get f i := by
  unfold State.get; rw [touch_regs]

/-- What the general checks of a command word leave to its block: the word belongs to a writable register that is not transactional, its fields
hold legal values, its instance exists, and the block itself refuses nothing at the write. -/
def commandWord (s : State) (d : RegDef) (a i v : Nat) : Bool :=
  !(d.fieldsAt a).all (fun f => decide (f.acc = .ro)) && !(d.fieldsAt a).any Fld.txn && isCommand a && decide (a % 4 = 0) && decide (v < 2 ^ 32)
    && fieldsOk (d.fieldsAt a) v && wordOk s.variant a v && decide (windowStatus s.variant a d.window i = .done)
    && decide (s.writeCheck a i v = .done)

theorem isCommand_bound {a : Nat} (h : isCommand a = true) : a < 0x01000000 ∧ a ≠ 0x10 ∧ a ≠ 0x120000 := by
  simp only [isCommand, List.contains_cons, List.contains_nil, Bool.or_false, Bool.or_eq_true, beq_iff_eq] at h
  omega

/-- A host command over a path that takes it is answered with what its block's operation answers. -/
theorem hostCmd_route {s : State} {p : Path} {a i v : Nat} {d : RegDef} (h : s.takes p (a / 65536) = true) (hd : regAt a = some d)
    (hc : commandWord (s.touch p) d a i v = true) :
    s.hostCmd p a i v = ((s.touch p).command p a i v).2.answer p ((s.touch p).command p a i v).1 := by
  obtain ⟨g, e⟩ := touch_host s p
  simp only [State.takes, Bool.and_eq_true, Bool.not_eq_true'] at h
  obtain ⟨⟨⟨⟨h1, h2⟩, h3⟩, h4⟩, h5⟩ := h
  simp only [commandWord, Bool.and_eq_true, Bool.not_eq_true', decide_eq_true_eq] at hc
  obtain ⟨⟨⟨⟨⟨⟨⟨⟨c1, c2⟩, c3⟩, c4⟩, c5⟩, c6⟩, c7⟩, c8⟩, c9⟩ := hc
  obtain ⟨b1, b2, b3⟩ := isCommand_bound c3
  unfold State.hostCmd State.hostWord
  rw [e] at c7 c8 c9 ⊢
  simp only [h1, if_true]
  have g1 : ({ s with host := g } : State).booted = true := h2
  have g2 : ({ s with host := g } : State).pathWrites p = true := h3
  have g3 : ({ s with host := g } : State).get Reg.SYS_LOCK_LOCK = s.get Reg.SYS_LOCK_LOCK := rfl
  have g4 : ({ s with host := g } : State).variant.has (a / 65536) = true := h4
  have hv : (BitVec.ofNat 32 v).toNat = v := by rw [BitVec.toNat_ofNat, Nat.mod_eq_of_lt c5]
  have hw : ({ s with host := g } : State).writeWord p a i (BitVec.ofNat 32 v) = ({ s with host := g } : State).command p a i v := by
    unfold State.writeWord State.writeReg State.writeFields State.lockHits State.writePlain
    simp only [g1, g2, g4, hv, b1, hd, c1, c2, c3, c6, c7, c8, c9, g3, h5, b2, b3, if_true, Bool.not_true, Bool.and_true,
      Bool.false_and, Bool.false_eq_true, if_false]
  simp only [c4, if_true, hw]

end Sys2Proof.Laws
end

