-- ==== Sys2Proof/Laws/Pump.lean ====
section
/-! SUPPORT. What one instruction of the running task does: the lemmas that reduce an instruction to its own effect. -/

namespace Sys2Proof.Laws
open Sys2Proof.Machine

/-- A running task that fits executes the instruction's own effect. -/
theorem runInstr_ready {s : State} {t : Task} {cost words : Nat} (h : Ready s t cost words) (f : Proc → State → Flow) :
    s.runInstr words cost f = match f (s.ahead t words) (s.charge cost) with
      | .cont p' s' => s'.setProc t p'
      | .stack => (s.charge cost).taskFault t false
      | .illegal => if s.fits t 1 then (s.charge 1).taskFault t true else s.cancel t 1 := by
  unfold State.runInstr
  rw [h.1]
  simp only [h.2.1, h.2.2, if_true]
  rfl

theorem runProc_ready {s : State} {t : Task} {cost words : Nat} (h : Ready s t cost words) (f : Proc → State → Proc) :
    s.runProc words cost f = (s.charge cost).setProc t (f (s.ahead t words) (s.charge cost)) := by
  unfold State.runProc
  rw [runInstr_ready h]

/-- A task that can complete a longer instruction can complete a shorter one. -/
theorem Ready_mono {s : State} {t : Task} {c d w : Nat} (h : Ready s t c w) (hd : d ≤ c) : Ready s t d w := by
  refine ⟨h.1, ?_, h.2.2⟩
  have g := h.2.1
  have hi : s.taskInstant d ≤ s.taskInstant c := by
    unfold State.taskInstant State.paced
    exact Nat.add_le_add_left (Nat.div_le_div_right (Nat.mul_le_mul_right _ (by omega))) _
  unfold State.fits at *
  cases t <;> simp only [decide_eq_true_eq] at * <;> omega

theorem charge_now (s : State) (c : Nat) : (s.charge c).now = max s.now (s.taskInstant c) := by
  show s.now + (s.taskInstant c - s.now) = _
  omega

theorem charge_rest (s : State) (c : Nat) :
    { s.charge c with pump := s.pump, now := s.now, up := s.up, slew := s.slew, keep := s.keep } = s := rfl

theorem setProc_charge_pump (s : State) (t : Task) (c : Nat) (p : Proc) : ((s.charge c).setProc t p).pump = s.pumpAfter t c p := by
  cases t <;> rfl

/-- The effect of an instruction that changes the processor state alone. -/
theorem onlyProc_charge (s : State) (t : Task) (c : Nat) (p : Proc) : OnlyProc s ((s.charge c).setProc t p) t c p := by
  refine ⟨setProc_charge_pump s t c p, ?_, ?_⟩
  · rw [← charge_now]; cases t <;> rfl
  · cases t <;> rfl

@[simp] theorem point_charge (s : State) (c a : Nat) : (s.charge c).point a = s.point a := rfl
@[simp] theorem get_charge (s : State) (c : Nat) (f : Fld) (i : Nat) : (s.charge c).get f i = s.get f i := rfl
@[simp] theorem storable_charge (s : State) (c a : Nat) : (s.charge c).storable a = s.storable a := rfl
@[simp] theorem stamp_charge (s : State) (c : Nat) : (s.charge c).stamp = s.stamp := rfl
@[simp] theorem edge_charge (s : State) (c i : Nat) : (s.charge c).edge i = s.edge i := rfl
@[simp] theorem timer_charge (s : State) (c i : Nat) : (s.charge c).timer i = s.timer i := rfl
@[simp] theorem counter_charge (s : State) (c i : Nat) : (s.charge c).counter i = s.counter i := rfl
@[simp] theorem pointBit_charge (s : State) (c : Nat) (p : PointAddr) (b : BitVec 5) : (s.charge c).pointBit p b = s.pointBit p b := rfl
@[simp] theorem blockLen_charge (s : State) (c b : Nat) : (s.charge c).blockLen b = s.blockLen b := rfl
@[simp] theorem operand_charge (s : State) (c : Nat) (p : Proc) (x : Acc) (sel : Sel) (o : Operand) :
    (s.charge c).operand p x sel o = s.operand p x sel o := by
  cases o <;> rfl
@[simp] theorem partner_ahead (s : State) (t : Task) (w : Nat) (x : Acc) : (s.ahead t w).partner x = (s.proc t).partner x := by cases x <;> rfl
@[simp] theorem acc_ahead (s : State) (t : Task) (w : Nat) (x : Acc) : (s.ahead t w).acc x = (s.proc t).acc x := by cases x <;> rfl
theorem operand_ahead (s : State) (t : Task) (w : Nat) (x : Acc) (sel : Sel) (o : Operand) :
    s.operand (s.ahead t w) x sel o = s.operand (s.proc t) x sel o := by
  cases o <;> simp [State.operand]

@[simp] theorem notePoint_point (s : State) (p q : Nat) : (s.notePoint p).point q = s.point q := by
  unfold State.notePoint; split <;> rfl
@[simp] theorem notePoint_pump (s : State) (p : Nat) : (s.notePoint p).pump = s.pump := by
  unfold State.notePoint; split <;> rfl

theorem marks_setPoint (s : State) (a : Nat) (r : Point) : PointMarks s (s.setPoint a r) := by
  unfold State.setPoint
  refine ⟨?_, ?_, ?_⟩
  · by_cases h : isRetentive a ∧ r ≠ s.point a
    · simp only [if_pos h]
    · simp only [if_neg h]
  · by_cases h : isLoopCmd a
    · simp only [if_pos h]
    · simp only [if_neg h]
  · by_cases h : a = 0xE3298
    · simp only [if_pos h]
    · simp only [if_neg h]

/-- A pump store to a point that it may write: the point alone changes. -/
theorem onlyPoint_store (s : State) (t : Task) (c : Nat) (p : Proc) (a : Nat) (r : Point) :
    OnlyPoint s ((((s.charge c).notePoint a).setPoint a r).setProc t p) t c p a r := by
  have key : ∀ v : State, v.pump = (s.charge c).pump → (v.setProc t p).pump = s.pumpAfter t c p := by
    intro v h; cases t <;> simp only [State.setProc, h] <;> rfl
  have km : ∀ v : State, (v.setProc t p).mirror = v.mirror ∧ (v.setProc t p).loops = v.loops ∧ (v.setProc t p).alloc = v.alloc := by
    intro v; cases t <;> exact ⟨rfl, rfl, rfl⟩
  refine ⟨key _ (by simp), ?_, ?_, ?_, ?_, ?_, ?_, ?_⟩
  · rw [← charge_now]; unfold State.notePoint; cases t <;> split <;> rfl
  · cases t <;> exact point_setPoint_same _ _ _
  · intro b hb
    have h := point_setPoint_other ((s.charge c).notePoint a) a b r hb
    cases t <;> exact h.trans (by simp)
  · intro h1 h2
    rw [(km _).1]
    simp only [State.setPoint, h1, notePoint_point, point_charge]
    rw [if_pos ⟨trivial, h2⟩]
    exact storeFind_put_same _ _ _
  · intro h1
    rw [(km _).2.1]
    simp only [State.setPoint, h1, if_true]
    exact storeFind_put_same _ _ _
  · unfold PointMarks
    rw [(km _).1, (km _).2.1, (km _).2.2]
    have h := marks_setPoint ((s.charge c).notePoint a) a r
    have hn : ((s.charge c).notePoint a).mirror = s.mirror ∧ ((s.charge c).notePoint a).loops = s.loops
        ∧ ((s.charge c).notePoint a).alloc = s.alloc := by
      unfold State.notePoint; split <;> exact ⟨rfl, rfl, rfl⟩
    unfold PointMarks at h
    rw [hn.1, hn.2.1, hn.2.2] at h
    exact h
  · unfold State.notePoint; cases t <;> split <;> rfl

/-- A discarded store. -/
theorem discarded_wrviol (s : State) (t : Task) (c : Nat) (p : Proc) : Discarded s ((s.charge c).wrviol.setProc t p) t c p := by
  have hp : s.pumpAfter t c (s.proc t) = (s.charge c).pump := by cases t <;> rfl
  have hr : ∀ (f : Fld) (i : Nat), f.key i ≠ Reg.PUMP_STAT_WRVIOL.key 0 →
      (({ s.charge c with pump := { (s.charge c).pump with wrviol := satInc 32 s.pump.wrviol } } : State).setFlag Reg.PUMP_STAT_WRVIOL true).get f i
        = s.get f i := fun f i h => get_setFlag_other _ _ _ _ _ _ h
  refine ⟨({ s.charge c with pump := { (s.charge c).pump with wrviol := satInc 32 s.pump.wrviol } } : State).setFlag Reg.PUMP_STAT_WRVIOL true,
    rfl, ?_, ?_, ?_, hr, rfl⟩
  · rw [hp]; rfl
  · rw [← charge_now]; rfl
  · exact flag_setFlag_same _ _ _ _ (by decide)

/-- v with everything that a task fault may change set back to what it is in s. -/
def noPump (s v : State) : State := { v with pump := s.pump, now := s.now, up := s.up, slew := s.slew, keep := s.keep, regs := s.regs }
theorem noPump_set (s v : State) (f : Fld) (x i : Nat) : noPump s (v.set f x i) = noPump s v := rfl
theorem noPump_setFlag (s v : State) (f : Fld) (x : Bool) (i : Nat) : noPump s (v.setFlag f x i) = noPump s v := rfl
/-- A stack fault or an instruction fault. -/
theorem taskFault_spec (s : State) (t : Task) (c : Nat) (b : Bool) : TaskFaulted s ((s.charge c).taskFault t b) t c b := by
  unfold TaskFaulted State.taskFault State.measured
  have hk1 : Reg.PUMP_FAULT_TASK.key 0 ≠ Reg.PUMP_FAULT_WORD.key 0 := by decide
  cases b
  · refine ⟨_, rfl, ?_⟩
    simp only [Bool.false_eq_true, if_false]
    refine ⟨by cases t <;> rfl, by cases t <;> rfl, by intro t'; cases t <;> cases t' <;> rfl, by cases t <;> rfl, by cases t <;> rfl, ?_, ?_, ?_, ?_, ?_, ?_⟩
    · rw [← charge_now]; cases t <;> rfl
    · rw [get_setFlag_other _ _ _ _ _ _ (by decide), get_set_other _ _ _ _ _ _ (by decide), get_set_same]; cases t <;> rfl
    · rw [get_setFlag_other _ _ _ _ _ _ (by decide), get_set_same]; rfl
    · exact flag_setFlag_same _ _ _ _ (by decide)
    · intro f i h
      simp only [List.mem_cons, List.not_mem_nil, or_false, not_or] at h
      rw [get_setFlag_other _ _ _ _ _ _ h.2.2.2, get_set_other _ _ _ _ _ _ h.2.1, get_set_other _ _ _ _ _ _ h.1]
      cases t <;> rfl
    · show noPump s _ = s
      rw [noPump_setFlag, noPump_set, noPump_set]; cases t <;> rfl
  · refine ⟨_, rfl, ?_⟩
    simp only [if_true]
    refine ⟨by cases t <;> rfl, by cases t <;> rfl, by intro t'; cases t <;> cases t' <;> rfl, by cases t <;> rfl, by cases t <;> rfl, ?_, ?_, ?_, ?_, ?_, ?_⟩
    · rw [← charge_now]; cases t <;> rfl
    · rw [get_setFlag_other _ _ _ _ _ _ (by decide), get_set_other _ _ _ _ _ _ (by decide), get_set_same]; cases t <;> rfl
    · rw [get_setFlag_other _ _ _ _ _ _ (by decide), get_set_same]; rfl
    · exact flag_setFlag_same _ _ _ _ (by decide)
    · intro f i h
      simp only [List.mem_cons, List.not_mem_nil, or_false, not_or] at h
      rw [get_setFlag_other _ _ _ _ _ _ h.2.2.1, get_set_other _ _ _ _ _ _ h.2.1, get_set_other _ _ _ _ _ _ h.1]
      cases t <;> rfl
    · show noPump s _ = s
      rw [noPump_setFlag, noPump_set, noPump_set]; cases t <;> rfl

/-- The condition codes as a table (R105). -/
theorem cond_eq (p : Proc) (c : BitVec 5) :
   p.cond c = [true, p.ba, !p.ba, p.z && !p.u, !p.z || p.u, p.n, p.n || p.z, !p.n && !p.z && !p.u, !p.n && !p.u, p.v, !p.v, p.u, !p.u][c.toNat]? := by
  unfold Proc.cond
  have := c.isLt
  generalize c.toNat = k at *
  rcases k with _|_|_|_|_|_|_|_|_|_|_|_|_|k <;> simp

theorem onlyInst_edge (s : State) (t : Task) (c : Nat) (p : Proc) (i : Nat) (m : Bool) :
   (∃ inst, OnlyInst s (((s.charge c).setEdge i m).setProc t p) t c p inst ∧ { inst with edges := s.pump.inst.edges } = s.pump.inst)
    ∧ (((s.charge c).setEdge i m).setProc t p).edge i = m ∧ ∀ j, j ≠ i → (((s.charge c).setEdge i m).setProc t p).edge j = s.edge j := by
  refine ⟨⟨{ s.pump.inst with edges := storeSet s.pump.inst.edges i m false }, ⟨?_, ?_, ?_⟩, ?_⟩, ?_, ?_⟩
  · cases t <;> rfl
  · rw [← charge_now]; cases t <;> rfl
  · cases t <;> rfl
  · rfl
  · cases t <;> exact storeGet_set_same _ _ _ _
  · intro j hj; cases t <;> exact storeGet_set_other _ _ _ _ _ _ hj

theorem onlyInst_timer (s : State) (t : Task) (c : Nat) (p : Proc) (i : Nat) (m : Timer) :
   (∃ inst, OnlyInst s (((s.charge c).setTimer i m).setProc t p) t c p inst ∧ { inst with timers := s.pump.inst.timers } = s.pump.inst)
    ∧ (((s.charge c).setTimer i m).setProc t p).timer i = m ∧ ∀ j, j ≠ i → (((s.charge c).setTimer i m).setProc t p).timer j = s.timer j := by
  refine ⟨⟨{ s.pump.inst with timers := storeSet s.pump.inst.timers i m {} }, ⟨?_, ?_, ?_⟩, ?_⟩, ?_, ?_⟩
  · cases t <;> rfl
  · rw [← charge_now]; cases t <;> rfl
  · cases t <;> rfl
  · rfl
  · cases t <;> exact storeGet_set_same _ _ _ _
  · intro j hj; cases t <;> exact storeGet_set_other _ _ _ _ _ _ hj

theorem onlyInst_counter (s : State) (t : Task) (c : Nat) (p : Proc) (i : Nat) (m : Counter) :
   (∃ inst, OnlyInst s (((s.charge c).setCounter i m).setProc t p) t c p inst ∧ { inst with counters := s.pump.inst.counters } = s.pump.inst)
    ∧ (((s.charge c).setCounter i m).setProc t p).counter i = m
    ∧ ∀ j, j ≠ i → (((s.charge c).setCounter i m).setProc t p).counter j = s.counter j := by
  refine ⟨⟨{ s.pump.inst with counters := storeSet s.pump.inst.counters i m {} }, ⟨?_, ?_, ?_⟩, ?_⟩, ?_, ?_⟩
  · cases t <;> rfl
  · rw [← charge_now]; cases t <;> rfl
  · cases t <;> rfl
  · rfl
  · cases t <;> exact storeGet_set_same _ _ _ _
  · intro j hj; cases t <;> exact storeGet_set_other _ _ _ _ _ _ hj

end Sys2Proof.Laws
end

