-- ==== Sys2Proof/Laws/Words.lean ====
section
/-! SUPPORT. The fields of a pump instruction's first word are the fields that it was put together from (R93). -/

open Sys2Proof
namespace Sys2Proof.Laws

@[simp] theorem pumpWord_op (op : BitVec 7) (mid : BitVec 5) (low : BitVec 20) (v : Option Word) :
    (pumpWord op mid low v).first.extractLsb' 25 7 = op := by
  apply BitVec.eq_of_getLsbD_eq; intro i hi
  simp only [pumpWord, BitVec.getLsbD_extractLsb', BitVec.getLsbD_append]
  have h1 : ¬ 25 + i < 20 := by omega
  have h2 : ¬ 25 + i - 20 < 5 := by omega
  have h3 : 25 + i - 20 - 5 = i := by omega
  simp [hi, h1, h2, h3]

@[simp] theorem pumpWord_mid (op : BitVec 7) (mid : BitVec 5) (low : BitVec 20) (v : Option Word) :
    (pumpWord op mid low v).first.extractLsb' 20 5 = mid := by
  apply BitVec.eq_of_getLsbD_eq; intro i hi
  simp only [pumpWord, BitVec.getLsbD_extractLsb', BitVec.getLsbD_append]
  have h1 : ¬ 20 + i < 20 := by omega
  have h2 : 20 + i - 20 < 5 := by omega
  have h3 : 20 + i - 20 = i := by omega
  simp [hi, h3]

@[simp] theorem pumpWord_low (op : BitVec 7) (mid : BitVec 5) (low : BitVec 20) (v : Option Word) :
    (pumpWord op mid low v).first.extractLsb' 0 20 = low := by
  apply BitVec.eq_of_getLsbD_eq; intro i hi
  simp only [pumpWord, BitVec.getLsbD_extractLsb', BitVec.getLsbD_append]
  simp [hi]

@[simp] theorem pumpWord_second (op : BitVec 7) (mid : BitVec 5) (low : BitVec 20) (v : Option Word) :
    (pumpWord op mid low v).second = v := rfl

end Sys2Proof.Laws
end

