-- ==== Sys2Proof/WellFormed.lean ====
section
/-! DEFINITION. Well-formed commands: the operands name ports, stations, inputs, lanes, contexts and words that some variant of the part has.
A command that is not well-formed names nothing of the part; `exec` then leaves the part as it is or answers as the manual says for such a
number. -/

namespace Sys2Proof

/-- A frame of Ethernet at one of the 16 ports, with its FCS at least 64 bytes (R152). -/
def frameOk (f : EthFrame) : Bool := decide (f.port < 16) && decide (64 ≤ f.len)

/-- A source of sensor messages that the largest variant has: 24 UARTs, 4 CAN controllers, 64 queues (R189). -/
def sourceOk : SensorSource → Bool
  | .uart n => decide (n < 24)
  | .can n => decide (n < 4)
  | .queue n port _ => decide (n < 64 ∧ port < 16)

/-- The operands of a command lie in the part's ranges. -/
def Instr.wellFormed : Instr → Bool
  | .pumpBoundary upsets => upsets.all (fun u => decide (u.copy < 3))
  | .solveContextEnd r => decide (r.ctx < 256)
  | .solveDeadline cuts => cuts.all (fun c => decide (c.ctx < 256))
  | .wideReturn ctx => decide (ctx < 256)
  | .computeDieFault die _ => decide (die < 4)
  | .observerEngineFault engine _ _ => decide (engine < 2)
  | .frameReceive f => frameOk f
  | .arpRequest port _ _ => decide (port < 16)
  | .frameTxDone queue port _ => decide (queue < 64 ∧ port < 16)
  | .stationInputFrame f => decide (f.port < 16 ∧ f.station < 1024)
  | .outputFrameReturn port => decide (port < 16)
  | .stnRelease _ station => decide (station < 1024)
  | .registerWrite _ addr _ _ => decide (addr < 16777216 ∧ addr % 4 = 0)
  | .pointWrite _ _ _ _ type => decide (type < 16)
  | .tsqRead _ port => decide (port < 16)
  | .dinEdgeRead _ din => decide (din < 64)
  | .plateLoadWindowWrite _ addr _ => decide (addr < 4294967296 ∧ addr % 4 = 0)
  | .ptpMessage port _ => decide (port < 16)
  | .ppsInEdge input _ => decide (input < 2)
  | .sourceTimeout source => decide (1 ≤ source ∧ source ≤ 3)
  | .ppsOutEdge out => decide (out < 2)
  | .ppsOutFall out => decide (out < 2)
  | .dinEdge din _ _ => decide (din < 64)
  | .sensorMessage source _ _ => sourceOk source
  | .n2kClaimStart can => decide (can < 4)
  | .n2kAddressClaimRx can addr _ => decide (can < 4 ∧ addr < 256)
  | .n2kRequestRx can => decide (can < 4)
  | .uartTxSend _ uart len => decide (uart < 24 ∧ len < 128)
  | .uartTxDone uart => decide (uart < 24)
  | .chanCalReset _ chan => decide (chan < 64)
  | .datumSet _ chan => decide (chan < 64)
  | .hatchLoad _ entry => decide (entry < 32)
  | .hatchLoadWindowWrite _ addr _ => decide (addr < 4294967296 ∧ addr % 4 = 0)
  | .hatchVerify _ entry => decide (entry < 32)
  | .hatchStore _ entry => decide (entry < 32)
  | .hatchErase _ entry => decide (entry < 32)
  | .hatchAbort _ entry => decide (entry < 32)
  | .proofLinkFrameRx f => decide (f.lane < 4 ∧ f.unit < 16)
  | .partnerUnreachable unit => decide (unit < 16)
  | .spanFrameRx f => decide (f.lane < 4 ∧ f.address < 64)
  | .tripInputLow input => decide (input < 8)
  | .tripReceiverDisagree input => decide (input < 8)
  | .tripFaultClear input => decide (input < 8)
  | .runawayStop monitor => decide (monitor < 32)
  | .stipplePulse out => decide (out < 32)
  | .stippleCheck out _ => decide (out < 32)
  | .bootRomDone straps _ _ => decide (straps.unitId < 16 ∧ straps.spanMode < 4 ∧ straps.bootSel < 4)
  | .recordWrite code => decide (code < 65536)
  | .programSlot _ slot => decide (slot < 4)
  | .revokeSlot _ slot => decide (slot < 4)
  | .imgLoadWindowWrite _ addr _ => decide (addr < 4294967296 ∧ addr % 4 = 0)
  | .spanLaneDown lane => decide (lane < 4)
  | .spanLaneUp lane => decide (lane < 4)
  | .ptpMessageInterval port => decide (port < 16)
  | .inputWindowClose _ | .outputReserveInstant _ _ | .mirrorWriteDone | .plateSwap | .plateRevertApply | .restartCyclesEnd
  | .troughFrameClose | .drMaxExpired _ | .windFfTimeout | .calSavePeriodic | .calSaveDone | .ompRead _ | .ompWrite _ | .spiRead _ _
  | .spiWrite _ _ | .spiUnknownCommand _ | .spiCsHigh | .sysLockWrite _ _ | .txnBegin _ | .txnCommit _ | .txnRollback _ | .txnTimeout
  | .imgSave _ | .imgSaveDone _ | .keepWriteComplete | .tsuTimeLoRead _ | .keepTickLoRead _ | .warmRestart _ | .coldRestart _
  | .plateLoad _ | .plateVerify _ | .plateVerifyDone _ _ | .plateArm _ | .plateRevert _ | .plateCommit _ | .plateCommitDone | .plateAbort _
  | .plateInstall _ | .plateInstallDone | .forceClrAll _ | .ldb _ _ | .ldbn _ _ | .andb _ _ | .andbn _ _ | .orb _ _ | .orbn _ _ | .xorb _ _
  | .xorbn _ _ | .setb _ _ | .clrb _ _ | .outb _ _ | .outbn _ _ | .andq _ | .andnq _ | .ldq _ | .notba | .setba | .clrba | .ldc _ | .andc _
  | .orc _ | .nest | .joina | .joinan | .joino | .joinon | .joinx | .joinxn | .rise _ | .fall _ | .ld _ _ _ | .st _ _ _ | .add _ _
  | .sub _ _ | .mul _ _ | .div _ _ | .divu _ _ | .mod _ _ | .andw _ _ | .orw _ _ | .xorw _ _ | .shl _ _ | .shr _ _ | .sar _ _ | .cmp _ _
  | .cmpu _ _ | .fadd _ _ | .fsub _ _ | .fmul _ _ | .fdiv _ _ | .fmin _ _ | .fmax _ _ | .fcmp _ _ | .neg _ | .abs _ | .fneg _ | .fabs _
  | .fsqrt _ | .itf _ | .utf _ | .fti _ | .ftu _ | .swap | .jc _ _ | .call _ _ | .ret _ | .bmov _ _ _ | .bmovx _ | .ton _ | .tof _ | .tp _
  | .ctu _ | .ctd _ | .ctud _ _ _ | .crst _ | .cld _ | .ldcyc | .ldtask | .loopreq _ | .nop | .instructionFault | .tsuStep _ | .refclkFail
  | .refclkRestore | .serdesClkLoss | .xtalStop | .originSet _ | .obsReinit _ | .calSave _ | .calReset _ | .hatchVerifyDone _ _
  | .hatchStoreDone | .proofApply | .proofMiss | .releaseTakeEffect | .takeover | .takeoverByEcho | .activeYield | .heartbeatMiss _ _
  | .redRelease _ | .redJoin _ | .redProofTest _ | .redIsolate _ | .spanUpLost | .feedbackGridCheck _ | .safeTripReset _ | .safeDiscReset _
  | .powerOn | .brownOut | .resetNLow _ | .serviceWatchdogExpiry | .bootRailsDone _ | .bootImageDone _ | .bootMemoryDone _ _
  | .bootLoadDone | .bootDone | .clrHold _ | .pwrRun _ | .pwrPark _ | .pwrSleep _ | .sleepEnter | .wakeNEdge | .caseOpenDetect
  | .vbatLowDetect | .dipEnter | .dipExit | .uvSustained | .vioALow | .vioBLow | .vioRecover _ | .backupEnter | .keeperLost
  | .lifetimeMirrorWrite | .calBaseUpdate | .paceUpdate _ | .paceHealthLoss | .tempSample _ _ | .overtempClear | .recFreezeSet _ _
  | .freezeAutoClear | .capStart _ | .capStop _ | .captureStopped | .capReplay _ _ | .capReplayEnd _ | .replayComplete | .secFuseArm _ _
  | .fuseArmExpire | .advanceRollback _ | .dbgOff _ | .fuseOpDone | .imgLoad _ | .imgVerify _ | .imgVerifyDone _ _ | .imgActivate _
  | .imgAbort _ | .rngRead _ | .trngHealthFail | .mdioFrame _ _ | .mdioFrameDone _ | .uncorrectableMemoryError _ | .handshakeTimeout
  | .serdesRefclkReturn | .xtal32Restart | .trngHealthRecover | .keeperStart | .vinSample _ | .poweredSecond => true

end Sys2Proof
end

