-- ==== Sys2Proof/Tests/Slice0.lean ====
section
/-! SUPPORT. Tests of the model by its author: ill-formed commands that WellFormed refuses, single steps with results taken from the spec, and for every
statement with hypotheses a witness that meets them. -/

set_option Elab.async false

namespace Sys2Proof.Tests
open Sys2Proof.Machine

/-! ## Small states -/

/-- A D8 part in PARK in the input window of cycle 7, with both paths served. -/
def park : State :=
  { State.reset with mode := .park, phase := .window, now := 1000000000, up := 1000000000, bnd := 1000000000, nextBnd := 1001000000, n := 7,
                     rst := { spiServes := true } }

/-- A state with register fields set: field, instance, value. -/
def sets (s : State) (l : List (Fld × Nat × Nat)) : State := l.foldl (fun t e => t.set e.1 e.2.2 e.2.1) s

/-- The same part in RUN. -/
def run : State := { park with mode := .run }

/-- An instance map entry that carries counter 1 to counter 2. -/
def entryA : MapEntry := { oldIndex := 1, newIndex := 2, area := 1, oldKind := 4, newKind := 5, action := 0 }

/-- A plate with an F32 input point, an output, a marker and a retentive word, FAST and HOLD blocks, and one carried counter. -/
def plateA : PlateDesc :=
  { id := 0xA1, keyHash := 5, svn := 1,
    decls := [{ addr := 0x10, type := 3, value := 0, quality := 0x42 }, { addr := 0x40010, type := 2, value := 3, quality := 0 },
      { addr := 0x80010, type := 2, value := 1, quality := 0 }, { addr := 0xF0010, type := 2, value := 0, quality := 0 }],
    blocks := [(0, 100), (1, 50), (2, 50), (7, 10)], hasHold := true, hasSlow := true, wcetFast := 1000, wcetHold := 1000, loopsDue := 0,
    proofBound := 0, fwdBound := 0, counterInit := [(1, 9)], edgeInit := [], localIn := 0, localOut := 0,
    map := some { oldPlateId := 0xA0, newPlateId := 0xA1, entryCount := 1, migrateNs := 500, revertNs := 600,
                  crc := BitVec.ofNat 32 (crc32c ([entryA].flatMap mapEntryBytes)), entries := [entryA] } }

/-- The plate that it replaces. -/
def plateO : PlateDesc := { plateA with id := 0xA0, map := none }

/-- A LINEAR hatch of one variable: 2 x = 4, at most 2 inner iterates, exponents of -16. -/
def hatchD : HatchDesc := { keyHash := 5, fill := [], blockOf := [0], feed := [.matrix 0 0, .rhs 0], bindIn := [], bindOut := [], defaults := [0] }
def hatchL : Hatch :=
  { hdr := { kind := 1, id := 9, n := 1, m := 0, blocks := 1, maxNewton := 0, maxInner := 2, costNs := 10, wideNs := 20, tolOuter := 0x3A83126F,
             tolInner := 0x3A83126F, length := 284 },
    svn := 1, qfmt := [(-16, -16, -16, -16)], desc := hatchD }

/-- The same hatch as bytes (R299, R300): header, table of nine sections, QFMT and KEY; the other sections are empty. -/
def hatchHead : List Nat :=
  leBytes 4 0x48435448 ++ leBytes 2 1 ++ [1, 0] ++ leBytes 4 9 ++ leBytes 2 1 ++ leBytes 2 0 ++ leBytes 4 1 ++ leBytes 4 0 ++ leBytes 2 1 ++ [0, 0]
    ++ leBytes 2 2 ++ leBytes 2 9 ++ leBytes 4 10 ++ leBytes 4 20 ++ leBytes 4 64 ++ leBytes 4 0x3A83126F ++ leBytes 4 0x3A83126F ++ leBytes 4 64
    ++ leBytes 4 284
def hatchQ : List Nat := List.replicate 4 240
def hatchKey : List Nat := List.replicate 64 7 ++ leBytes 4 1 ++ leBytes 4 0
def hatchSection (type ofs : Nat) (b : List Nat) : List Nat := leBytes 2 type ++ [0, 0] ++ leBytes 4 ofs ++ leBytes 4 b.length ++ leBytes 4 (crc32c b)
def hatchImage : List Nat :=
  hatchHead ++ leBytes 4 (crc32c hatchHead) ++ [1, 2, 3, 5, 6, 7, 8].flatMap (fun n => hatchSection n 208 []) ++ hatchSection 4 208 hatchQ
    ++ hatchSection 9 212 hatchKey ++ hatchQ ++ hatchKey
def hatchWords : Store Word :=
  (List.range 71).map (fun k => (k, BitVec.ofNat 32 ((List.range 4).foldr (fun j n => hatchImage.getD (4 * k + j) 0 + 256 * n) 0)))

/-- Context 5, posted with that hatch, runs on die 1. -/
def lane (x : CtxSlot) : State :=
  { park with solv := { entries := [(3, { state := 3, desc := some hatchL })], bound := [(5, 3)], deadline := some 1000400000,
                        dies := [(1, { running := some 5 })],
                        slots := [(5, { x with posted := true, resident := [0x4000000000000000, 0x4010000000000000] })] } }

/-- A station copy, and the same with the CRC-32C of its bytes. -/
def station : StationFrame :=
  { port := 15, dmac := 0, smac := 0, version := 1, kind := 2, ring := 0, dir := false, claim := 0, cycle := 0, group := 0, records := 1, length := 8,
    tp := 1000, station := 1023, status := 0, links := 0, entries := [], crc := 0 }
def copyOf (f : StationFrame) : StationFrame := { f with crc := BitVec.ofNat 32 (crc32c (copyData f)) }

/-- An Announce of a master, and a Sync from it. -/
def master : PtpMaster := { priority1 := 1, clockClass := 6, clockAccuracy := 0x21, variance := 5, priority2 := 1, identity := 7, steps := 0 }
def ptpMsg (type : BitVec 4) : PtpMessage := { type := type, domain := 0, clock := 7, clockPort := 1, seq := 9, time := 1000000000, stamp := 1000000200 }
/-- The RUN part with plateA, in which a task runs with this processor state. -/
def task (t : Task) (p : Proc) : State :=
  let q : PumpState := { running := some t, taskStart := 1000000000, slowOpen := true }
  { run with phase := .tasks, plate := { slot0 := some plateA },
             pump := match t with | .fast => { q with fast := p } | .hold => { q with hold := p } | .slow => { q with slow := p } }


/-! ## Ill-formed commands: each check of WellFormed refuses the first value beyond its range -/

theorem test_illFormed_numbers : ([.wideReturn 256, .computeDieFault 4 .handshake, .observerEngineFault 2 .handshake false, .arpRequest 16 0 { ip := 0, mac := 0 }, .frameTxDone 64 0 0,
    .frameTxDone 0 16 0, .outputFrameReturn 16, .stnRelease .spi 1024, .registerWrite .spi 0x01000000 0 0, .registerWrite .spi 2 0 0, .pointWrite .spi 0 0 0 16,
    .tsqRead .spi 16, .dinEdgeRead .spi 64, .plateLoadWindowWrite .spi 0x41000002 0, .ptpMessage 16 { type := 0, domain := 0, clock := 0, clockPort := 0, seq := 0 }, .ppsInEdge 2 0, .sourceTimeout 0,
    .sourceTimeout 4, .ppsOutEdge 2, .ppsOutFall 2, .dinEdge 64 true 0] : List Instr).all (fun i => !i.wellFormed) = true := by decide

theorem test_illFormed_numbers2 : ([.n2kClaimStart 4, .n2kAddressClaimRx 4 0 0, .n2kAddressClaimRx 0 256 0, .n2kRequestRx 4, .uartTxSend .spi 24 1, .uartTxSend .spi 0 128,
    .uartTxDone 24, .chanCalReset .spi 64, .datumSet .spi 64, .hatchLoad .spi 32, .hatchLoadWindowWrite .spi 1 0, .hatchVerify .spi 32, .hatchStore .spi 32,
    .hatchErase .spi 32, .hatchAbort .spi 32, .partnerUnreachable 16, .tripInputLow 8, .tripReceiverDisagree 8, .tripFaultClear 8, .runawayStop 32,
    .stipplePulse 32, .stippleCheck 32 true, .recordWrite 65536, .programSlot .spi 4, .revokeSlot .spi 4, .imgLoadWindowWrite .spi 3 0, .spanLaneDown 4,
    .spanLaneUp 4, .ptpMessageInterval 16] : List Instr).all (fun i => !i.wellFormed) = true := by decide

/-- A good frame, and what makes one bad. -/
def frame : EthFrame := { port := 15, len := 64, dmac := 0, smac := 0, tags := 0, etype := 0x88F7, ip := none, fcsOk := true, stamp := 0 }
def proof : ProofFrame :=
  { lane := 3, crcOk := true, direct := true, unit := 15, claim := 0, n := 0, plateId := 0, sync := 0, serial := 0, isolated := false, unitBad := false,
    kind := .claim, records := [] }
def spanF : SpanFrame :=
  { lane := 3, crcOk := true, output := true, sender := 0, address := 63, claim := 0, cycle := 0, time := 0, echo := 0, values := [], entries := [] }
def report : SolveReport := { ctx := 255, trace := { steps := [], inner := [] }, timeNs := 1 }

theorem test_illFormed_records : ([.pumpBoundary [{ addr := 0, index := 0, lo := 0, copy := 3, value := 0 }], .solveContextEnd { report with ctx := 256 },
    .solveDeadline [{ ctx := 256, inFactor := false, trace := { steps := [], inner := [] }, timeNs := 0 }], .frameReceive { frame with port := 16 },
    .frameReceive { frame with len := 63 }, .stationInputFrame { station with port := 16 }, .stationInputFrame { station with station := 1024 },
    .sensorMessage (.uart 24) (.binary []) 0, .sensorMessage (.can 4) (.binary []) 0, .sensorMessage (.queue 64 0 none) (.binary []) 0, .sensorMessage (.queue 0 16 none) (.binary []) 0,
    .proofLinkFrameRx { proof with lane := 4 }, .proofLinkFrameRx { proof with unit := 16 }, .spanFrameRx { spanF with lane := 4 },
    .spanFrameRx { spanF with address := 64 }, .bootRomDone { unitId := 16, spanMode := 0, bootSel := 0 } true 0,
    .bootRomDone { unitId := 0, spanMode := 4, bootSel := 0 } true 0, .bootRomDone { unitId := 0, spanMode := 0, bootSel := 4 } true 0]
    : List Instr).all (fun i => !i.wellFormed) = true := by decide

theorem test_wellFormed : ([.solveContextEnd report, .frameReceive frame, .stationInputFrame station, .proofLinkFrameRx proof, .spanFrameRx spanF, .wideReturn 255,
    .stnRelease .spi 1023, .registerWrite .spi 0x00FFFFFC 0 0, .sourceTimeout 1, .sourceTimeout 3, .stipplePulse 31, .partnerUnreachable 15, .nest]
    : List Instr).all Instr.wellFormed = true := by decide

/-! ## Single steps; the expected values are worked out from the rule named -/

/-- What a step leaves of a command put at the front of the queue. -/
def after {α : Type} (c : Instr) (s : State) (f : State → α) : Option α :=
  match step { s with pending := c :: s.pending } with
  | .next t => some (f t)
  | _ => none

def accA (s : State) : Word := s.pump.fast.a

/-- R110: 0x7FFF_FFFF + 1 wraps to the most negative value and sets V and N. -/
theorem test_add_wraps : after (.add .A (.imm 1)) (task .fast { a := 0x7FFFFFFF }) (fun t => (accA t, t.pump.fast.v, t.pump.fast.n)) = some (0x80000000, true, true) := by
  decide +kernel

/-- R110: the divisor is the operand, the quotient truncates toward zero. -/
theorem test_div_truncates : after (.div .A (.imm 0xFFFFFFFE)) (task .fast { a := 7 }) accA = some 0xFFFFFFFD := by decide +kernel

/-- R110: the remainder has the sign of the dividend. -/
theorem test_mod_sign : after (.mod .A (.imm 4)) (task .fast { a := 0xFFFFFFF9 }) accA = some 0xFFFFFFFD := by decide +kernel

/-- R110: DIVU divides as unsigned. -/
theorem test_divu : after (.divu .A (.imm 2)) (task .fast { a := 0xFFFFFFFE }) accA = some 0x7FFFFFFF := by decide +kernel

/-- R110: SUB takes the operand from the accumulator. -/
theorem test_sub_order : after (.sub .A (.imm 3)) (task .fast { a := 5 }) accA = some 2 := by decide +kernel

/-- R110: SAR keeps the sign, SHR does not; the count is taken modulo 32. -/
theorem test_sar : after (.sar .A (.imm 33)) (task .fast { a := 0x80000004 }) accA = some 0xC0000002 := by decide +kernel
theorem test_shr : after (.shr .A (.imm 1)) (task .fast { a := 0x80000004 }) accA = some 0x40000002 := by decide +kernel

/-- R111: 1.0 / 3.0 rounds to 0x3EAA_AAAB; 1.5 + 2.25 is 3.75; the square root of 2.0. -/
theorem test_fdiv_rounds : after (.fdiv .A (.imm 0x40400000)) (task .fast { a := 0x3F800000 }) accA = some 0x3EAAAAAB := by decide +kernel
theorem test_fadd : after (.fadd .A (.imm 0x40100000)) (task .fast { a := 0x3FC00000 }) accA = some 0x40700000 := by decide +kernel
theorem test_fsqrt : after (.fsqrt .A) (task .fast { a := 0x40000000 }) accA = some 0x3FB504F3 := by decide +kernel

/-- R112: 2.5 rounds to 2 (ties to even); 3e9 saturates FTI and sets V; 16,777,217 rounds to 16,777,216. -/
theorem test_fti_even : after (.fti .A) (task .fast { a := 0x40200000 }) accA = some 2 := by decide +kernel
theorem test_fti_saturates : after (.fti .A) (task .fast { a := 0x4F32D05E }) (fun t => (accA t, t.pump.fast.v)) = some (0x7FFFFFFF, true) := by decide +kernel
theorem test_itf : after (.itf .A) (task .fast { a := 16777217 }) accA = some 0x4B800000 := by decide +kernel

/-- R107: NEST, then JOINAN of BA 1 with the saved 1 gives 0. -/
theorem test_joinan : after .joinan (task .fast { ba := true, nesting := [true] }) (fun t => (t.pump.fast.ba, t.pump.fast.nesting)) = some (false, []) := by decide +kernel

/-- R109: a first scan with BA 1 is a rising edge. -/
theorem test_rise : after (.rise 9) (task .fast { ba := true }) (fun t => (t.pump.fast.ba, t.edge 9)) = some (true, true) := by decide +kernel

/-- R122: TON with IN 1 and PT 0 is done at once; with PT 5 ms it times. -/
theorem test_ton_zero : after (.ton 3) (task .fast { ba := true }) (fun t => (t.pump.fast.ba, (t.timer 3).state)) = some (true, 2) := by decide +kernel
theorem test_ton_times : after (.ton 3) (task .fast { ba := true, a := 5 }) (fun t => (t.pump.fast.ba, (t.timer 3).state)) = some (false, 1) := by decide +kernel

/-- R125: CTU counts a rising edge and reaches PV 1. -/
theorem test_ctu : after (.ctu 4) (task .fast { ba := true, a := 1 }) (fun t => (t.pump.fast.ba, t.pump.fast.b, (t.counter 4).cu)) = some (true, 1, true) := by
  decide +kernel

/-- R104 and R66: OUTB writes one bit, quality good, the cycle's stamp. -/
theorem test_outb : after (.outb 0x40010 4) (task .fast { ba := true }) (fun t => ((t.point 0x40010).value, (t.point 0x40010).quality, (t.point 0x40010).stamp))
    = some (0x10, 0, 7) := by decide +kernel

/-- R72: a store to an input point is discarded and counted. -/
theorem test_store_input : after (.st .A .value (.direct 0x10)) (task .fast { a := 5 }) (fun t => ((t.point 0x10).value, t.pump.wrviol)) = some (0, 1) := by decide +kernel

/-- R105: JC to word 99 of a block of 100 words. -/
theorem test_jc : after (.jc 0 99) (task .fast {}) (fun t => (t.pump.fast.offset, t.pump.taskCost)) = some (99, 2) := by decide +kernel

/-- R114: an overlapping move copies as if through a buffer. -/
theorem test_bmov_declared : after (.bmov 0x80010 0x40010 0) { task .fast {} with points := [(0x80010, { value := 77, quality := 0x42, type := 2 })] }
    (fun t => ((t.point 0x40010).value, (t.point 0x40010).quality)) = some (77, 0) := by decide +kernel

/-- R15: the boundary starts the next cycle and opens its window. -/
theorem test_boundary : after (.pumpBoundary []) { park with phase := .frozen } (fun t => (t.n, t.phase, t.now)) = some (8, .window, 1001000000) := by decide +kernel

/-- R50: BEGIN while another path owns the transaction answers TXN_BUSY. -/
theorem test_txn_busy : after (.txnBegin .spi) { park with host := { phase := .openTxn, owner := .omp 5 6 } } (fun t => (t.host.lastStatus, t.host.owner))
    = some (.txnBusy, .omp 5 6) := by decide +kernel

/-- R47: a set lock bit stays. -/
theorem test_lock : after (.sysLockWrite .spi 4) (sets park [(Reg.SYS_LOCK_LOCK, 0, 1)]) (fun t => t.get Reg.SYS_LOCK_LOCK) = some 5 := by decide +kernel

/-- R47: a write of an L field of a locked block answers LOCKED. -/
theorem test_locked : after (.registerWrite .spi 0x0C9000 3 1) (sets park [(Reg.SYS_LOCK_LOCK, 0, 4096)]) (fun t => (t.host.lastStatus, t.host.commits)) = some (.locked, []) := by
  decide +kernel

/-- R39: an unknown SPI command changes no register. -/
theorem test_spi_unknown : after (.spiUnknownCommand 0x9F) park (fun t => (t.host.spi, t.regs)) = some (.unknown, []) := by decide +kernel

/-- R55: the idle limit rolls an open transaction back. -/
theorem test_txn_timeout : after .txnTimeout { park with host := { phase := .openTxn, staged := [{ addr := 0x0C9000, index := 3, value := 1 }] } }
    (fun t => (t.host.phase, t.host.staged)) = some (.idle, []) := by decide +kernel

/-- R135: LOAD of an EMPTY slot. -/
theorem test_plate_load : after (.plateLoad .spi) park State.slotState = some 1 := by decide +kernel

/-- R441: an arming needs the code. -/
theorem test_fuse_arm : after (.secFuseArm .spi 0x5EF0) park (fun t => t.sec.armedAt) = some none := by decide +kernel

/-- R174: a read of TIME_LO latches the high word for its own path. -/
theorem test_time_lo : after (.tsuTimeLoRead .spi) { park with now := 0x700000005 } (fun t => (t.host.lastRead, t.host.timeHiSpi, t.host.timeHiOmp)) = some ([5], 7, 0) := by
  decide +kernel

/-- R196: "$ABC" goes out with its checksum, the XOR of A, B and C: "*40" and the line end. -/
theorem test_sentence : after (.uartTxSend .spi 0 4) (sets park [(Reg.SER_UART_CFG_TX_EN, 0, 1), (Reg.SER_UART_TXBUF_BYTES, 0, 0x43424124)])
    (fun t => storeGet t.ser.sent 0 []) = some [36, 65, 66, 67, 42, 52, 48, 13, 10] := by decide +kernel

/-- R180: a second unread edge sets MISSED. -/
theorem test_din_missed : after (.dinEdge 63 true 99) { park with time := { din := [(63, { unread := true })] } } (fun t => ((t.dinUnit 63).missed, (t.dinUnit 63).stamp))
    = some (true, 99) := by decide +kernel

/-- R369: a trip input that goes low latches, and its groups' outputs go off. -/
theorem test_trip : after (.tripInputLow 7) (sets { run with safe := { State.reset.safe with high := 3, cmd := 3, interlock := 3, tripIn := 255 } }
    [(Reg.SAFE_TRIP_CFG_ENABLE.at 7, 0, 1), (Reg.SAFE_TRIP_CFG_GROUP_MASK.at 7, 0, 2), (Reg.SAFE_OUT_CFG_GROUP, 1, 1), (Reg.SAFE_OUT_CFG_USE, 0, 1),
     (Reg.SAFE_OUT_CFG_USE, 1, 1), (Reg.SAFE_OUT_CFG_GATE, 0, 0), (Reg.SAFE_OUT_CFG_GATE, 1, 0)]) (fun t => (t.safe.high, t.safe.tripLatch)) = some (1, [(7, 2)]) := by
  decide +kernel

/-- R374: the fourth failed check in a row latches the output off. -/
theorem test_stipple : after (.stippleCheck 3 true) { park with safe := { State.reset.safe with high := 8, pulsing := some 3, failed := [(3, 3)] } }
    (fun t => (t.safe.disc, t.safe.high)) = some (8, 0) := by decide +kernel

/-- R403: a brown-out resets the part, which stays held while VIN is absent. -/
theorem test_brownout : after .brownOut run (fun t => t.mode) = some .held := by decide +kernel

/-- R385: factory test is refused by name. -/
theorem test_factory : (match exec (.bootRomDone { unitId := 0, spanMode := 0, bootSel := 3 } true 0)
    (sets { State.reset with fuses := { mfgOff := false } } [(Reg.RST_BOOT_STAGE, 0, 1)]) with | .refused .factoryTest => true | _ => false) = true := by decide +kernel

/-- R344: RELEASE on a part that is not ACTIVE. -/
theorem test_release : after (.redRelease .spi) (sets park [(Reg.RED_STAT_ROLE, 0, 1)]) (fun t => t.host.lastStatus) = some .role := by decide +kernel

/-- R429 to R431: START of a ring of a size. -/
theorem test_cap_start : after (.capStart .spi) (sets park [(Reg.CAP_CFG_CAP_SIZE, 0, 3)]) (fun t => t.get Reg.CAP_STAT_STATE) = some 1 := by decide +kernel

/-- The block's empty queue: 1 us passes (log entry 10). -/
theorem test_idle : (match step park with | .next t => some (t.now, t.n) | _ => none) = some (1000001000, 7) := by decide +kernel

/-- No word spells a command: no row of the table gives bits. -/
theorem test_decode : decodeTableWord 32 0x12345678 = none := rfl

/-! ## The pump's words, written out from R93, R94 and the opcode tables of chapter 04: opcode [31:25], field [24:20], field [19:0] -/

theorem test_decode_words : ([(0x02300005, 0, .ldb 5 3), (0x13F80000, 0, .setb 0x80000 31), (0x20000000, 0, .nest), (0x34000007, 0, .rise 7),
    (0x40500010, 0, .ld .A .quality (.indexed 0x10)), (0x45800000, 7, .add .B (.imm 7)), (0x61C00000, 0, .fadd .B .partner), (0x71000000, 0, .neg .B),
    (0x90C00063, 0, .jc 12 99), (0xA0000010, 0xFFF40010, .bmov 0x10 0x40010 4095), (0xB0000009, 0, .ton 9), (0xBC000005, 0x00300020, .ctud 5 0x20 3),
    (0xD40001FF, 0, .loopreq 511)] : List (Word × Word × Instr)).all (fun e => decide (pumpDecode e.1 e.2.1 = some e.2.2)) = true := by decide +kernel

/-- R96: opcode 0, a reserved field, SEL 0b11, a reserved condition code, ST with an age. -/
theorem test_decode_faults : ([0x00000000, 0xD6000001, 0x40300000, 0x90D00000, 0x42200000] : List Word).all (fun w => decide (pumpDecode w 0 = none)) = true := by
  decide +kernel

/-! ## For every statement with hypotheses, states and operands that meet them

`witness_<statement>_<k>`: one witness for each group of clauses whose hypotheses one state meets. -/

/-- The definition of no register. -/
def noReg : RegDef := { addr := 0, fields := [] }

theorem witness_StepIdles : ∃ s : State, s.pending = [] ∧ s.running = true ∧ s.now ≤ s.nextBnd := ⟨park, by decide +kernel⟩

theorem witness_QueueKept : ∃ (c : Instr) (s t : State), exec c s = .next t := ⟨.nest, task .fast {}, _, rfl⟩

theorem witness_FusesOnlyBlown : ∃ (v : Variant) (f : Fuses) (s t : State), FuseInv v f s ∧ step s = .next t :=
  ⟨.d8, park.fuses, { park with pending := [.nest] }, _, ⟨rfl, by unfold Fuses.blown KeySlot.blown; decide +kernel⟩, rfl⟩

theorem witness_ModeMoves : ∃ (c : Instr) (s t : State), exec c s = .next t ∧ t.mode ≠ s.mode :=
  ⟨.sleepEnter, { park with pwr := { sleeping := true } }, _, rfl, by decide +kernel⟩

theorem witness_BitReads : (∃ (s : State) (t : Task), Ready s t 1) ∧ ∃ (s : State) (t : Task), Ready s t 2 :=
  ⟨⟨task .fast {}, .fast, by unfold Ready; decide +kernel⟩, ⟨task .hold {}, .hold, by unfold Ready; decide +kernel⟩⟩

/-- A condition that holds and one that does not, a reserved code, the last word of the block, the 32nd call level, an open call. -/
theorem witness_Conditions :
    (∃ (s : State) (t : Task) (c : BitVec 5) (target : BitVec 20), Ready s t 4 ∧ Ready s t 3 ∧ Ready s t 2 ∧ Ready s t 1 ∧ c.toNat = 12
      ∧ (s.proc t).cond c = some false ∧ target.toNat + 1 = (s.blockLen (s.proc t).block).getD 0)
    ∧ (∃ (s : State) (t : Task) (c : BitVec 5) (block : BitVec 16), Ready s t 4 ∧ Ready s t 3 ∧ Ready s t 2 ∧ Ready s t 1 ∧ c.toNat = 0
      ∧ (s.proc t).cond c = some true ∧ s.blockLen block.toNat ≠ none ∧ (s.proc t).calls.length = 31)
    ∧ (∃ (s : State) (t : Task) (c : BitVec 5) (q o : Nat) (r : List (Nat × Nat)), Ready s t 4 ∧ Ready s t 3 ∧ Ready s t 2 ∧ Ready s t 1
      ∧ (s.proc t).cond c = some true ∧ (s.proc t).calls = (q, o) :: r)
    ∧ ∃ (s : State) (t : Task) (c : BitVec 5), Ready s t 4 ∧ Ready s t 3 ∧ Ready s t 2 ∧ Ready s t 1 ∧ c.toNat = 13 ∧ (s.proc t).cond c = none :=
  ⟨⟨task .fast { u := true }, .fast, 12, 99, by unfold Ready; decide +kernel⟩,
    ⟨task .hold { block := 1, calls := List.replicate 31 (0, 5) }, .hold, 0, 7, by unfold Ready; decide +kernel⟩,
    ⟨task .hold { block := 1, calls := [(0, 5)] }, .hold, 0, 0, 5, [], by unfold Ready; decide +kernel⟩,
    ⟨task .slow { block := 2 }, .slow, 13, by unfold Ready; decide +kernel⟩⟩

/-- The first word beyond the block, a block the plate lacks, each operand form with a SEL it does not allow, 32 open calls. -/
theorem witness_TaskFaults :
    (∃ (s : State) (t : Task) (target : BitVec 20) (block : BitVec 16), Ready s t 1
      ∧ target.toNat = (s.blockLen (s.proc t).block).getD 0 ∧ s.blockLen block.toNat = none)
    ∧ (∃ (sel : Sel) (op : Operand), sel ≠ .value ∧ op = .imm 3) ∧ (∃ (sel : Sel) (op : Operand), sel ≠ .value ∧ op = .partner)
    ∧ (∃ (op : Operand) (a : PointAddr), op = .direct a) ∧ (∃ (op : Operand) (a : PointAddr), op = .indexed a)
    ∧ ∃ (s : State) (t : Task) (block : BitVec 16), Ready s t 4 ∧ s.blockLen block.toNat ≠ none ∧ 32 ≤ (s.proc t).calls.length :=
  ⟨⟨task .fast {}, .fast, 100, 3, by unfold Ready; decide +kernel⟩, ⟨.quality, .imm 3, by decide⟩, ⟨.age, .partner, by decide⟩, ⟨.direct 5, 5, rfl⟩,
    ⟨.indexed 5, 5, rfl⟩, ⟨task .fast { calls := List.replicate 32 (0, 5) }, .fast, 7, by unfold Ready; decide +kernel⟩⟩

theorem witness_Nesting :
    (∃ (s : State) (t : Task), Ready s t 1 ∧ (s.proc t).nesting.length = 15) ∧ (∃ (s : State) (t : Task), Ready s t 1 ∧ (s.proc t).nesting.length = 16)
    ∧ (∃ (s : State) (t : Task) (b : Bool) (r : List Bool), Ready s t 1 ∧ (s.proc t).nesting = b :: r)
    ∧ ∃ (s : State) (t : Task), Ready s t 1 ∧ (s.proc t).nesting = [] :=
  ⟨⟨task .fast { nesting := List.replicate 15 true }, .fast, by unfold Ready; decide +kernel⟩,
    ⟨task .fast { nesting := List.replicate 16 true }, .fast, by unfold Ready; decide +kernel⟩,
    ⟨task .slow { nesting := [true] }, .slow, true, [], by unfold Ready; decide +kernel⟩, ⟨task .fast {}, .fast, by unfold Ready; decide +kernel⟩⟩

/-- BA 0 and BA 1, an output that the plate declares and an input point. -/
theorem witness_BitWrites :
    (∃ (s : State) (t : Task), Ready s t 1 ∧ (s.proc t).ba = false)
    ∧ (∃ (s : State) (t : Task) (p : PointAddr), Ready s t 1 ∧ (s.proc t).ba = true ∧ s.storable p.toNat = true)
    ∧ ∃ (s : State) (t : Task) (p : PointAddr), Ready s t 1 ∧ (s.proc t).ba = true ∧ s.storable p.toNat = false :=
  ⟨⟨task .fast {}, .fast, by unfold Ready; decide +kernel⟩, ⟨task .fast { ba := true }, .fast, 0x40010, by unfold Ready; decide +kernel⟩,
    ⟨task .fast { ba := true }, .fast, 0x10, by unfold Ready; decide +kernel⟩⟩

/-- An indexed address at the last point and at the first one beyond the point space. -/
theorem witness_Loads :
    (∃ (s : State) (t : Task) (x : Acc) (a : PointAddr), Ready s t 1 ∧ Ready s t 2 ∧ (a.toNat + ((s.proc t).partner x).toNat) % 2 ^ 32 = 0xFFFFF)
    ∧ (∃ (s : State) (t : Task), Ready s t 1 2)
    ∧ ∃ (s : State) (t : Task) (x : Acc) (a : PointAddr), Ready s t 2 ∧ (a.toNat + ((s.proc t).partner x).toNat) % 2 ^ 32 = 0x100000 :=
  ⟨⟨task .fast { b := 0xF }, .fast, .A, 0xFFFF0, by unfold Ready; decide +kernel⟩,
    ⟨task .fast {}, .fast, by unfold Ready; decide +kernel⟩, ⟨task .fast { a := 0x10 }, .fast, .B, 0xFFFF0, by unfold Ready; decide +kernel⟩⟩

/-- Direct and indexed, storable and not, the quality bytes at both sides of the reserved reasons, LOOPREQ with BA 0, and with BA 1 to a point that
the pump may write and to one that it may not (a plate of a span node whose range would cover it). -/
theorem witness_Stores :
    (∀ q ∈ [0x0D, 0x0E, 0x1F, 0x20, 0x3F], let s := task .fast { a := BitVec.ofNat 32 q }
      (Ready s .fast 1 ∧ Ready s .fast 2) ∧ s.storable 0x40010 = true ∧ s.storable 0x10 = false ∧ ((s.proc .fast).acc .A).toNat % 64 = q)
    ∧ (∃ (s : State) (t : Task) (a : PointAddr), Ready s t 2 ∧ s.storable ((a.toNat + ((s.proc t).partner .A).toNat) % 2 ^ 32) = true)
    ∧ (∃ (s : State) (t : Task) (a : PointAddr), Ready s t 2 ∧ (a.toNat + ((s.proc t).partner .A).toNat) % 2 ^ 32 = 0x100000)
    ∧ (∃ (s : State) (t : Task), Ready s t 2 ∧ (s.proc t).ba = false)
    ∧ (∃ (s : State) (t : Task), Ready s t 2 ∧ (s.proc t).ba = true ∧ s.storable (0xE0000 + 16 * 508) = true)
    ∧ ∃ (s : State) (t : Task), Ready s t 2 ∧ (s.proc t).ba = true ∧ s.storable (0xE0000 + 16 * 511) = false :=
  ⟨by simp only [Ready]; decide +kernel,
    ⟨task .fast { b := 0x10 }, .fast, 0x40000, by unfold Ready; decide +kernel⟩, ⟨task .fast { b := 0x10 }, .fast, 0xFFFF0, by unfold Ready; decide +kernel⟩,
    ⟨task .fast {}, .fast, by unfold Ready; decide +kernel⟩, ⟨task .fast { ba := true }, .fast, by unfold Ready; decide +kernel⟩,
    ⟨sets { task .fast { ba := true } with plate := { slot0 := some { plateA with localOut := 0xB0000 } } } [(Reg.SPAN_CFG_TOPO, 0, 1), (Reg.SPAN_CFG_ADDRESS, 0, 5)],
      .fast, by unfold Ready; decide +kernel⟩⟩

/-- Every operand form fits, with a divisor that is 0 and one that is not. -/
theorem witness_IntegerArithmetic : ∀ op ∈ [Operand.direct 0x40010, .indexed 0xFFFFF, .imm 0, .imm 7, .partner],
    ∃ (s : State) (t : Task), Ready s t (1 + operandExtra op) (operandWords op) ∧ Ready s t (2 + operandExtra op) (operandWords op)
      ∧ Ready s t (12 + operandExtra op) (operandWords op) := by
  intro op h
  refine ⟨task .fast { b := 3 }, .fast, ?_⟩
  unfold Ready
  revert op
  decide +kernel

theorem witness_IntegerArithmetic_divisor :
    (task .fast { b := 3 }).operand { b := 3 } .A .value .partner = (3, false) ∧ (task .fast {}).operand {} .A .value .partner = (0, false) := by decide +kernel

theorem witness_WordLogic : ∃ (s : State) (t : Task), Ready s t (1 + operandExtra (.indexed 5)) (operandWords (.indexed 5)) ∧ Ready s t 1 := ⟨task .slow {}, .slow, by unfold Ready; decide +kernel⟩

theorem witness_FloatArithmetic : (∃ (s : State) (t : Task), Ready s t (10 + operandExtra (.imm 5)) (operandWords (.imm 5)) ∧ Ready s t 2)
    ∧ ∃ a b : Word, Fp.f32.isNan a.toNat = true ∧ Fp.f32.isNan b.toNat = false :=
  ⟨⟨task .fast {}, .fast, by unfold Ready; decide +kernel⟩, ⟨0x7F800001, 0x7F800000, by decide +kernel⟩⟩

theorem witness_FloatSingle : ∃ (s : State) (t : Task), Ready s t 12 ∧ Ready s t 2 ∧ Ready s t 1 := ⟨task .fast {}, .fast, by unfold Ready; decide +kernel⟩

theorem witness_FloatToInteger : ∃ (s : State) (t : Task), Ready s t 2 := ⟨task .hold {}, .hold, by unfold Ready; decide +kernel⟩

theorem witness_Timers : ∃ (s : State) (t : Task), Ready s t 6 := ⟨task .fast {}, .fast, by unfold Ready; decide +kernel⟩

theorem witness_Counters : ∃ (s : State) (t : Task), Ready s t 6 2 := ⟨task .fast {}, .fast, by unfold Ready; decide +kernel⟩

/-- A move of 4,096 points that ends at the end of the point space, over inputs, and one that goes a point beyond it; a destination that the
pump may write, with the source inside and outside; from the instruction's words and from A and B. -/
theorem witness_BlockMoves :
    (∃ (s : State) (t : Task) (src dst : PointAddr) (c : BitVec 12), Ready s t (5 + c.toNat) 2 ∧ src.toNat + c.toNat + 1 = 0x100000
      ∧ s.storable dst.toNat = false)
    ∧ (∃ (s : State) (t : Task) (src dst : PointAddr) (c : BitVec 12), Ready s t (5 + c.toNat) 2 ∧ src.toNat + c.toNat + 1 ≤ 0x100000
      ∧ ∀ j < c.toNat + 1, s.storable (dst.toNat + j) = true)
    ∧ (∃ (s : State) (t : Task) (c : BitVec 12), Ready s t (6 + c.toNat) 1 ∧ (s.proc t).a.toNat + c.toNat + 1 = 0x100001
      ∧ ∀ j < c.toNat + 1, s.storable ((s.proc t).b.toNat + j) = true)
    ∧ (∃ (s : State) (t : Task) (c : BitVec 12), Ready s t (6 + c.toNat) 1 ∧ (s.proc t).a.toNat + c.toNat + 1 ≤ 0x100000
      ∧ ∀ j < c.toNat + 1, s.storable ((s.proc t).b.toNat + j) = true)
    ∧ ∃ (s : State) (t : Task) (c : BitVec 12), Ready s t (6 + c.toNat) 1 ∧ (s.proc t).b.toNat = 0xFFFFFFFF ∧ s.storable (s.proc t).b.toNat = false :=
  ⟨⟨task .fast {}, .fast, 0xFF000, 0, 4095, by unfold Ready; decide +kernel⟩, ⟨task .fast {}, .fast, 0x10, 0x40010, 0, by unfold Ready; decide +kernel⟩,
    ⟨task .fast { a := 0x100000, b := 0x40010 }, .fast, 0, by unfold Ready; decide +kernel⟩,
    ⟨task .fast { a := 0xFFFFF, b := 0x40010 }, .fast, 0, by unfold Ready; decide +kernel⟩,
    ⟨task .fast { b := 0xFFFFFFFF }, .fast, 0, by unfold Ready; decide +kernel⟩⟩

/-- The first position beyond a block, and a task that has spent all its time. -/
theorem witness_InstructionLimits :
    (∃ (s : State) (t : Task), s.pump.running = some t ∧ s.fits t 1 = true ∧ s.inBlock (s.proc t) 1 = false)
    ∧ (∃ (s : State), s.pump.running = some .fast ∧ s.fits .fast 1 = false) ∧ ∃ (s : State), s.pump.running = some .slow ∧ s.fits .slow 1 = false :=
  ⟨⟨task .fast { offset := 100 }, .fast, by decide +kernel⟩, ⟨{ task .fast {} with pump := { (task .fast {}).pump with taskCost := 2000000 } }, by decide +kernel⟩,
    ⟨{ task .slow {} with pump := { (task .slow {}).pump with taskCost := 2000000 } }, by decide +kernel⟩⟩

/-- Two-word and one-word forms, each with its words written out from R93 and R94: LDB bit 3 of point 5, ADD B with the immediate 7. -/
theorem witness_PumpEncoding :
    (∃ (i : Instr) (p : PumpWords), pumpEncode i = some p ∧ pumpLegal i = true ∧ p.second = none)
    ∧ (∃ (i : Instr) (p : PumpWords), pumpEncode i = some p ∧ pumpLegal i = true ∧ p.second ≠ none)
    ∧ (∃ (w v : Word) (i : Instr), pumpDecode w v = some i) :=
  ⟨⟨.ldb 5 3, _, rfl, by decide +kernel, by decide +kernel⟩, ⟨.add .B (.imm 7), _, rfl, by decide +kernel, by decide +kernel⟩,
    ⟨0x45800000, 7, .add .B (.imm 7), by decide +kernel⟩⟩

theorem witness_PumpIsolation :
    (∃ p, areaOf p = .input) ∧ (∃ p, areaOf p = .device ∧ isCommandPoint p = false) ∧ (∃ (s : State) (p : Nat), populated s.variant p = false)
    ∧ (∃ (s : State) (p : Nat), areaOf p ≠ .device ∧ s.declared p = false)
    ∧ ∃ (s u : State) (i : Instr) (a : Nat), i.isPump = true ∧ exec i s = .next u ∧ s.storable a = false :=
  ⟨⟨0x3FFFF, by decide +kernel⟩, ⟨0xE0001, by decide +kernel⟩, ⟨{ park with variant := .d2 }, 0x2000, by decide +kernel⟩, ⟨park, 0x40010, by decide +kernel⟩,
    ⟨task .fast {}, _, .nest, 0x10, rfl, rfl, by decide +kernel⟩⟩

theorem witness_CycleStarts_1 : ∃ (s : State), s.mode = .done ∧ (s.running = false ∨ s.phase ≠ .window) :=
  ⟨{ park with mode := .done }, by decide +kernel⟩

theorem witness_CycleStarts_2 : ∃ (s : State), s.running = true ∧ s.phase = .frozen :=
  ⟨{ park with phase := .frozen }, by decide +kernel⟩

theorem witness_CycleStarts_3 : ∃ (s : State), s.mode ≠ .done ∧ s.running = false :=
  ⟨{ park with mode := .held }, by decide +kernel⟩

theorem witness_CycleStarts_4 : ∃ (s : State), s.running = true ∧ s.phase = .window ∧ (s.running = false ∨ s.pump.restartLeft ≠ 1)
    ∧ (s.running = false ∨ s.trough.openTh = none) :=
  ⟨park, by decide +kernel⟩

theorem witness_CycleStarts_5 : ∃ (s : State), s.running = true ∧ s.pump.restartLeft = 1 :=
  ⟨{ run with pump := { restartLeft := 1 } }, by decide +kernel⟩

theorem witness_CycleStarts_6 : ∃ (s : State), s.running = true ∧ s.trough.openTh ≠ none :=
  ⟨{ run with trough := { openTh := some 5 } }, by decide +kernel⟩

theorem witness_ReserveFreezes_1 : ∃ (s : State), s.running = true ∧ s.phase = .tasks ∧ s.red.waiting = false ∧ s.taskCycle = false :=
  ⟨{ park with phase := .tasks }, by decide +kernel⟩

theorem witness_ReserveFreezes_2 : ∃ (s : State), s.running = true ∧ s.phase = .tasks ∧ s.red.waiting = false ∧ s.taskCycle = true ∧ s.mode ≠ .replay
    ∧ s.overran = false :=
  ⟨{ run with phase := .tasks, pump := { tasksEnd := some 1000000100 }, plate := { slot0 := some plateA } }, by decide +kernel⟩

theorem witness_ReserveFreezes_3 : ∃ (s : State), s.running = true ∧ s.phase = .tasks ∧ s.red.waiting = false ∧ s.taskCycle = true ∧ s.overran = true
    ∧ s.pump.ovrRun < 2 :=
  ⟨{ run with phase := .tasks }, by decide +kernel⟩

theorem witness_ReserveFreezes_4 : ∃ (s : State), s.running = true ∧ s.phase = .tasks ∧ s.red.waiting = false ∧ s.taskCycle = true ∧ s.overran = true
    ∧ 2 ≤ s.pump.ovrRun :=
  ⟨{ run with phase := .tasks, pump := { ovrRun := 2, running := some .fast, taskStart := 1000000000 }, plate := { slot0 := some plateA } }, by decide +kernel⟩

theorem witness_ReserveFreezes_5 : ∃ (s : State), (s.running = false ∨ s.phase = .frozen) :=
  ⟨{ run with phase := .frozen }, by decide +kernel⟩

theorem witness_ScanEnds_1 : ∃ (s : State) (t : Task) (c : BitVec 5), Ready s t 3 ∧ (s.proc t).cond c = some true ∧ (s.proc t).calls = [] ∧ t = .fast
    ∧ s.isHold = true ∧ s.hasTask .hold = true :=
  ⟨{ run with phase := .tasks, n := 0, plate := { slot0 := some plateA }, pump := { running := some .fast, taskStart := 1000000000, tasksEnd := none, slowOpen := false, slowSpan := 4 } },
      .fast, 0, by unfold Ready; decide +kernel⟩

theorem witness_ScanEnds_2 : ∃ (s : State) (t : Task) (c : BitVec 5), Ready s t 3 ∧ (s.proc t).cond c = some true ∧ (s.proc t).calls = [] ∧ t = .slow :=
  ⟨{ run with phase := .tasks, n := 0, plate := { slot0 := some plateA }, pump := { running := some .slow, taskStart := 1000000000, tasksEnd := none, slowOpen := true, slowSpan := 4 } },
      .slow, 0, by unfold Ready; decide +kernel⟩

theorem witness_SupplyEvents_1 : ∃ (s : State), s.mode ≠ .backup ∧ s.mode ≠ .held ∧ s.pwr.dipping = false ∧ s.dipApplies = true ∧ s.powered = true
    ∧ s.flag Reg.PWR_STAT_VIO_A_LOW = false ∧ s.flag Reg.PWR_STAT_VIO_B_LOW = false :=
  ⟨park, by decide +kernel⟩

theorem witness_SupplyEvents_2 : ∃ (s : State), s.flag Reg.PWR_STAT_DIP = true ∧ s.flag Reg.PWR_STAT_UV_SUSTAINED = false :=
  ⟨sets park [(Reg.PWR_STAT_DIP, 0, 1)], by decide +kernel⟩

theorem witness_PaceAndHeat_1 : ∃ (s : State), s.powered = true :=
  ⟨park, by decide +kernel⟩

theorem witness_PaceAndHeat_2 : ∃ (s : State) (t : Nat), s.pwr.paceLowSince = some t :=
  ⟨{ park with pwr := { paceLowSince := some 990000000 } }, 990000000, by decide +kernel⟩

theorem witness_PaceAndHeat_3 : ∃ (s : State) (t : Nat), s.pwr.coolSince = some t ∧ s.flag Reg.PWR_TEMP_STAT_OVERTEMP = true :=
  ⟨sets ({ park with pwr := { coolSince := some 5 } }) [(Reg.PWR_TEMP_STAT_OVERTEMP, 0, 1)], 5, by decide +kernel⟩

theorem witness_KeeperEvents_1 : ∃ (s : State) (b : Bool) (bank : MirrorBank), s.mirror.writing = some (b, bank) :=
  ⟨{ park with mirror := { writing := some (true, { seq := 3, points := [], loops := [], ok := true }), waiting := true } }, true,
      { seq := 3, points := [], loops := [], ok := true }, by decide +kernel⟩

theorem witness_KeeperEvents_2 : ∃ (s : State), s.keep.onVin = false :=
  ⟨{ park with keep := { running := true, onVin := false } }, by decide +kernel⟩

theorem witness_KeeperEvents_3 : ∃ (s : State), s.keep.lost = true ∧ s.keep.running = false :=
  ⟨{ park with keep := { running := false, lost := true, mirror := [1, 2, 3, 4] } }, by decide +kernel⟩

theorem witness_KeeperEvents_4 : ∃ (s : State), s.keep.running = true ∧ s.pwr.vinAbsent = false ∧ s.mode ≠ .backup ∧ s.keep.vbatLow = false
    ∧ s.keep.caseOpen = false ∧ (s.keep.caseWakeEn = false ∨ s.mode ≠ .sleep) :=
  ⟨park, by decide +kernel⟩

theorem witness_KeeperEvents_5 : ∃ (s : State), s.keep.mirrorDue = true ∧ s.flag Reg.PWR_STAT_DIP = false :=
  ⟨{ park with keep := { running := true, onVin := true, mirrorDue := true, powered := 9 } }, by decide +kernel⟩

theorem witness_KeeperEvents_6 : ∃ (s : State), s.flag Reg.TSU_SRC_STAT_LOCKED = true ∧ s.keep.running = true :=
  ⟨sets ({ park with keep := { running := true, onVin := true } }) [(Reg.TSU_SRC_STAT_LOCKED, 0, 1)], by decide +kernel⟩

theorem witness_KeeperEvents_7 : ∃ (s : State), s.pwr.sleeping = true ∧ s.nvBusy = false :=
  ⟨{ park with pwr := { sleeping := true } }, by decide +kernel⟩

theorem witness_KeeperEvents_8 : ∃ (s : State), s.keep.running = false ∧ s.keep.lost = false :=
  ⟨{ park with keep := { running := false, lost := false } }, by decide +kernel⟩

theorem witness_Resets_1 : ∃ (s : State) (ns : Nat), s.running = true ∧ s.sec.fuseOp = none ∧ 1000 ≤ ns :=
  ⟨park, 1000, by decide +kernel⟩

theorem witness_Resets_2 : ∃ (s : State) (ns : Nat), s.running = true ∧ s.sec.fuseOp = none ∧ ns < 100 :=
  ⟨park, 99, by decide +kernel⟩

theorem witness_Wakes_1 : ∃ (s : State), s.running = true ∧ s.keep.running = true ∧ (s.keep.wakeNEn = false ∨ s.mode ≠ .sleep) :=
  ⟨park, by decide +kernel⟩

theorem witness_Wakes_2 : ∃ (s : State), s.mode = .held ∧ s.keep.lost = false :=
  ⟨{ park with mode := .held, keep := { running := true, onVin := true } }, by decide +kernel⟩

theorem witness_Wakes_3 : ∃ (s : State), (s.mode = .backup ∨ s.mode = .sleep ∧ s.pwr.vinAbsent = true) :=
  ⟨{ park with mode := .backup }, by decide +kernel⟩

theorem witness_Wakes_4 : ∃ (s : State), s.mode = .sleep ∧ s.pwr.vinAbsent = false ∧ s.keep.running = true ∧ s.keep.wakeNEn = true ∧ s.keep.caseWakeEn = true :=
  ⟨{ park with mode := .sleep, keep := { running := true, onVin := true, wakeNEn := true, caseWakeEn := true } }, by decide +kernel⟩

theorem witness_BootStages_1 : ∃ (s : State), s.atStage 0 = true :=
  ⟨sets ({ State.reset with variant := .d8, images := { copyA := some ({ keyHash := Config.romKey, svn := 0, settings := [] }, { sigOk := true, structOk := true }) } }) [(Reg.RST_BOOT_STAGE,
      0, 0)], by decide +kernel⟩

theorem witness_BootStages_2 : ∃ (s : State) (straps : Straps), s.atStage 1 = true ∧ (¬ (straps.bootSel = 3 ∧ s.fuses.mfgOff = false)) :=
  ⟨sets ({ State.reset with variant := .d8, images := { copyA := some ({ keyHash := Config.romKey, svn := 0, settings := [] }, { sigOk := true, structOk := true }) } }) [(Reg.RST_BOOT_STAGE,
      0, 1)], { unitId := 2, spanMode := 1, bootSel := 0 }, by decide +kernel⟩

theorem witness_BootStages_3 : ∃ (s : State), s.atStage 2 = true :=
  ⟨sets ({ State.reset with variant := .d8, images := { copyA := some ({ keyHash := Config.romKey, svn := 0, settings := [] }, { sigOk := true, structOk := true }) } }) [(Reg.RST_BOOT_STAGE,
      0, 2)], by decide +kernel⟩

theorem witness_BootStages_4 : ∃ (s : State), s.atStage 3 = true :=
  ⟨sets ({ State.reset with variant := .d8, images := { copyA := some ({ keyHash := Config.romKey, svn := 0, settings := [] }, { sigOk := true, structOk := true }) } }) [(Reg.RST_BOOT_STAGE,
      0, 3)], by decide +kernel⟩

theorem witness_BootStages_5 : ∃ (s : State), s.atStage 4 = true :=
  ⟨sets ({ State.reset with variant := .d8, images := { copyA := some ({ keyHash := Config.romKey, svn := 0, settings := [] }, { sigOk := true, structOk := true }) } }) [(Reg.RST_BOOT_STAGE,
      0, 4)], by decide +kernel⟩

theorem witness_BootStages_6 : ∃ (s : State), s.atStage 5 = true :=
  ⟨sets ({ State.reset with variant := .d8, images := { copyA := some ({ keyHash := Config.romKey, svn := 0, settings := [] }, { sigOk := true, structOk := true }) } }) [(Reg.RST_BOOT_STAGE,
      0, 5)], by decide +kernel⟩

theorem witness_BootStages_7 : ∃ (s : State) (straps : Straps) (trip : Byte) (eeprom : Option Word) (dies : BitVec 4) (trng : Bool), (∃ e ∈ ([(0,
    Instr.bootRailsDone true), (1, .bootRomDone straps true trip), (2, .bootImageDone eeprom), (3, .bootMemoryDone dies trng), (4, .bootLoadDone), (5,
    .bootDone)] : List (Nat × Instr)), s.atStage e.1 = false) :=
  ⟨park, { unitId := 2, spanMode := 1, bootSel := 0 }, 0, none, 5, false, by decide +kernel⟩

theorem witness_Transactions_1 : ∃ (s : State) (p : Path),
    let t := s.touch p
    let owned := t.host.phase = .openTxn ∧ t.host.owner = p
    s.takes p 0 = true ∧ t.host.phase = .idle ∧ ¬ owned ∧ s.host.phase ≠ .openTxn :=
  ⟨park, .spi, by dsimp only; decide +kernel⟩

theorem witness_Transactions_2 : ∃ (s : State) (p : Path),
    let t := s.touch p
    let owned := t.host.phase = .openTxn ∧ t.host.owner = p
    s.takes p 0 = true ∧ t.host.phase ≠ .idle ∧ owned ∧ s.host.phase = .openTxn :=
  ⟨{ park with host := { phase := .openTxn, owner := .spi, staged := [{ addr := 0x058004, index := 0, value := 0 }], lastAccess := 999999999 } }, .spi,
      by dsimp only; decide +kernel⟩

theorem witness_StagedWrites_1 : ∃ (s : State) (p : Path) (a : Nat) (i : Nat) (v : Word) (d : RegDef),
    let t := s.touch p
    a % 4 = 0 ∧ a < 0x01000000 ∧ a ≠ 0x120000 ∧ regAt a = some d ∧ ((∃ f ∈ d.fieldsAt a, f.txn = true ∧ f.acc ≠ .ro)) ∧ s.takes p (a / 65536) = true
        ∧ fieldsOk (d.fieldsAt a) v.toNat = true ∧ wordOk s.variant a v.toNat = true ∧ windowStatus s.variant a d.window i = .done
        ∧ t.writeCheck a i v.toNat = .done ∧ t.host.timeoutOwner = some p :=
  ⟨{ park with host := { timeoutOwner := some .spi } }, .spi, 20, 0, 0, (regAt (20)).getD noReg, by dsimp only; decide +kernel⟩

theorem witness_StagedWrites_2 : ∃ (s : State) (p : Path) (a : Nat) (i : Nat) (v : Word) (d : RegDef),
    let t := s.touch p
    let hits := levelHits (t.get Reg.SYS_LEVEL_EXPERT) t (d.fieldsAt a) a i v.toNat
    a % 4 = 0 ∧ a < 0x01000000 ∧ a ≠ 0x120000 ∧ regAt a = some d ∧ ((∃ f ∈ d.fieldsAt a, f.txn = true ∧ f.acc ≠ .ro)) ∧ s.takes p (a / 65536) = true
        ∧ fieldsOk (d.fieldsAt a) v.toNat = true ∧ wordOk s.variant a v.toNat = true ∧ windowStatus s.variant a d.window i = .done
        ∧ t.writeCheck a i v.toNat = .done ∧ t.host.timeoutOwner ≠ some p ∧ t.host.phase = .idle ∧ hits = false :=
  ⟨park, .spi, 20, 0, 0, (regAt (20)).getD noReg, by dsimp only; decide +kernel⟩

theorem witness_StagedWrites_3 : ∃ (s : State) (p : Path) (a : Nat) (i : Nat) (v : Word) (d : RegDef),
    let t := s.touch p
    let hits := levelHits (t.get Reg.SYS_LEVEL_EXPERT) t (d.fieldsAt a) a i v.toNat
    a % 4 = 0 ∧ a < 0x01000000 ∧ a ≠ 0x120000 ∧ regAt a = some d ∧ ((∃ f ∈ d.fieldsAt a, f.txn = true ∧ f.acc ≠ .ro)) ∧ s.takes p (a / 65536) = true
        ∧ fieldsOk (d.fieldsAt a) v.toNat = true ∧ wordOk s.variant a v.toNat = true ∧ windowStatus s.variant a d.window i = .done
        ∧ t.writeCheck a i v.toNat = .done ∧ t.host.timeoutOwner ≠ some p ∧ t.host.phase = .idle ∧ hits = true :=
  ⟨park, .spi, 0x0C902C, 0, 0x41300000, (regAt (0x0C902C)).getD noReg, by dsimp only; decide +kernel⟩

theorem witness_StagedWrites_4 : ∃ (s : State) (p : Path) (a : Nat) (i : Nat) (v : Word) (d : RegDef),
    let t := s.touch p
    a % 4 = 0 ∧ a < 0x01000000 ∧ a ≠ 0x120000 ∧ regAt a = some d ∧ ((∃ f ∈ d.fieldsAt a, f.txn = true ∧ f.acc ≠ .ro)) ∧ s.takes p (a / 65536) = true
        ∧ fieldsOk (d.fieldsAt a) v.toNat = true ∧ wordOk s.variant a v.toNat = true ∧ windowStatus s.variant a d.window i = .done
        ∧ t.writeCheck a i v.toNat = .done ∧ t.host.timeoutOwner ≠ some p ∧ (t.host.phase = .pendingTxn ∨ t.host.phase = .openTxn ∧ t.host.owner ≠ p) :=
  ⟨{ park with host := { phase := .openTxn, owner := .spi, staged := [{ addr := 0x058004, index := 0, value := 0 }], lastAccess := 999999999 } }, .omp 5 6,
      20, 0, 0, (regAt (20)).getD noReg, by dsimp only; decide +kernel⟩

theorem witness_StagedWrites_5 : ∃ (s : State) (p : Path) (a : Nat) (i : Nat) (v : Word) (d : RegDef),
    let t := s.touch p
    let has := t.host.staged.any (fun x => decide (x.addr = a ∧ x.index = i))
    a % 4 = 0 ∧ a < 0x01000000 ∧ a ≠ 0x120000 ∧ regAt a = some d ∧ ((∃ f ∈ d.fieldsAt a, f.txn = true ∧ f.acc ≠ .ro)) ∧ s.takes p (a / 65536) = true
        ∧ fieldsOk (d.fieldsAt a) v.toNat = true ∧ wordOk s.variant a v.toNat = true ∧ windowStatus s.variant a d.window i = .done
        ∧ t.writeCheck a i v.toNat = .done ∧ t.host.timeoutOwner ≠ some p ∧ t.host.phase = .openTxn ∧ t.host.owner = p ∧ has = true :=
  ⟨{ park with host := { phase := .openTxn, owner := .spi, staged := [{ addr := 0x0C9000, index := 0, value := 0 }], lastAccess := 999999999 } }, .spi,
      823296, 0, 2, (regAt (823296)).getD noReg, by dsimp only; decide +kernel⟩

theorem witness_StagedWrites_6 : ∃ (s : State) (p : Path) (a : Nat) (i : Nat) (v : Word) (d : RegDef),
    let t := s.touch p
    let has := t.host.staged.any (fun x => decide (x.addr = a ∧ x.index = i))
    a % 4 = 0 ∧ a < 0x01000000 ∧ a ≠ 0x120000 ∧ regAt a = some d ∧ ((∃ f ∈ d.fieldsAt a, f.txn = true ∧ f.acc ≠ .ro)) ∧ s.takes p (a / 65536) = true
        ∧ fieldsOk (d.fieldsAt a) v.toNat = true ∧ wordOk s.variant a v.toNat = true ∧ windowStatus s.variant a d.window i = .done
        ∧ t.writeCheck a i v.toNat = .done ∧ t.host.timeoutOwner ≠ some p ∧ t.host.phase = .openTxn ∧ t.host.owner = p ∧ has = false
        ∧ t.host.staged.length < 1024 :=
  ⟨{ park with host := { phase := .openTxn, owner := .spi, staged := [{ addr := 0x058004, index := 0, value := 0 }], lastAccess := 999999999 } }, .spi, 20, 0,
      0, (regAt (20)).getD noReg, by dsimp only; decide +kernel⟩

theorem witness_StagedWrites_7 : ∃ (s : State) (p : Path) (a : Nat) (i : Nat) (v : Word) (d : RegDef),
    let t := s.touch p
    let has := t.host.staged.any (fun x => decide (x.addr = a ∧ x.index = i))
    a % 4 = 0 ∧ a < 0x01000000 ∧ a ≠ 0x120000 ∧ regAt a = some d ∧ ((∃ f ∈ d.fieldsAt a, f.txn = true ∧ f.acc ≠ .ro)) ∧ s.takes p (a / 65536) = true
        ∧ fieldsOk (d.fieldsAt a) v.toNat = true ∧ wordOk s.variant a v.toNat = true ∧ windowStatus s.variant a d.window i = .done
        ∧ t.writeCheck a i v.toNat = .done ∧ t.host.timeoutOwner ≠ some p ∧ t.host.phase = .openTxn ∧ t.host.owner = p ∧ has = false
        ∧ 1024 ≤ t.host.staged.length :=
  ⟨{ park with host := { phase := .openTxn, owner := .spi, staged := List.replicate 1024 { addr := 0x058004, index := 0, value := 0 }, lastAccess := 999999999 } },
      .spi, 20, 0, 0, (regAt (20)).getD noReg, by dsimp only; decide +kernel⟩

theorem witness_StagedWrites_8 : ∃ (s : State) (c : Commit) (w : Staged) (ws : List Staged) (e : RegDef), c.words = w :: ws ∧ regAt w.addr = some e
    ∧ s.lockHits ((e.fieldsAt w.addr).filter Fld.txn) w.addr w.index w.value.toNat = true :=
  ⟨sets park [(Reg.SYS_LOCK_LOCK, 0, 2097151)], { words := [{ addr := 0x0C9000, index := 3, value := 1 }], oneWrite := true, skip := 0 },
      { addr := 0x0C9000, index := 3, value := 1 }, [], (regAt 0x0C9000).getD noReg, by decide +kernel⟩

theorem witness_PlainWrites_1 : ∃ (s : State) (p : Path) (a : Nat) (i : Nat) (v : Word) (d : RegDef) (f : Fld),
    let t := s.touch p
    a % 4 = 0 ∧ a < 0x01000000 ∧ a ≠ 0x120000 ∧ a ≠ 0x10 ∧ regAt a = some d ∧ d.fieldsAt a = [f] ∧ f.acc = .rw ∧ f.txn = false ∧ f.voted = false
        ∧ isCommand a = false ∧ isWsel a = false ∧ a / 65536 ≠ 2 ∧ s.takes p (a / 65536) = true ∧ fieldsOk [f] v.toNat = true
        ∧ wordOk s.variant a v.toNat = true ∧ windowStatus s.variant a d.window i = .done ∧ t.writeCheck a i v.toNat = .done :=
  ⟨park, .spi, 52, 0, 0, (regAt (52)).getD noReg, ((regAt (52)).getD noReg).fields.headD Reg.CAP_STAT_STATE, by dsimp only; decide +kernel⟩

theorem witness_PlainWrites_2 : ∃ (s : State) (p : Path), s.takes p 0 = true :=
  ⟨park, .spi, by decide +kernel⟩

theorem witness_PlainWrites_3 : ∃ (s : State) (p : Path) (pt : PointAddr) (type : Nat),
    let t := s.touch p
    s.pathUp p = true ∧ s.booted = true ∧ s.pathWrites p = true ∧ t.pointRefusal pt.toNat type = .done :=
  ⟨park, .spi, 0xE0000, 2, by dsimp only; decide +kernel⟩

theorem witness_PlainWrites_4 : ∃ (s : State) (p : Path) (v : Word), s.takes p 0 = true ∧ s.flag Reg.SYS_MDIO_STAT_BUSY = false
    ∧ ((bitAt v.toNat 10 = true ∨ bitsAt v.toNat 11 2 = 1 ∨ bitsAt v.toNat 11 2 = 2)) :=
  ⟨park, .spi, 0x1400, by decide +kernel⟩

theorem witness_PlainWrites_5 : ∃ (s : State) (p : Path), s.pathUp p = true ∧ s.booted = true ∧ s.pathWrites p = false :=
  ⟨sets ({ park with host := { phase := .openTxn, owner := .spi, staged := [{ addr := 0x058004, index := 0, value := 0 }], lastAccess := 999999999 } }) [(Reg.SYS_PATH_CTL_MGMT_WR_EN,
      0, 0), (Reg.SYS_PATH_CTL_SPI_WR_EN, 0, 0)], .spi, by decide +kernel⟩

theorem witness_LatchedReads_1 : ∃ (s : State) (p : Path) (i : Nat), s.pathUp p = true ∧ s.booted = true ∧ i < 64 ∧ s.flag Reg.SEC_STAT_RNG_FAIL = false :=
  ⟨park, .spi, 63, by decide +kernel⟩

theorem witness_LatchedReads_2 : ∃ (s : State) (p : Path) (i : Nat), s.pathUp p = true ∧ s.booted = true ∧ i < 16 ∧ s.flag Reg.TSU_PORT_PTP_PTP_EN i = true :=
  ⟨sets park [(Reg.TSU_PORT_PTP_PTP_EN, 0, 1), (Reg.SEC_STAT_RNG_FAIL, 0, 1)], .spi, 0, by decide +kernel⟩

theorem witness_LatchedReads_3 : ∃ (s : State) (p : Path) (i : Nat), s.pathUp p = true ∧ s.booted = true ∧ i < 16 ∧ s.flag Reg.TSU_PORT_PTP_PTP_EN i = false :=
  ⟨park, .spi, 15, by decide +kernel⟩

theorem witness_LatchedReads_4 : ∃ (s : State) (p : Path) (i : Nat), s.pathUp p = true ∧ s.booted = true ∧ 64 ≤ i :=
  ⟨park, .spi, 64, by decide +kernel⟩

theorem witness_LatchedReads_5 : ∃ (s : State) (p : Path), s.pathUp p = true ∧ s.booted = true ∧ s.flag Reg.SEC_STAT_RNG_FAIL = true :=
  ⟨sets park [(Reg.TSU_PORT_PTP_PTP_EN, 0, 1), (Reg.SEC_STAT_RNG_FAIL, 0, 1)], .spi, by decide +kernel⟩

theorem witness_OmpRequests_1 : ∃ (s : State) (r : OmpRequest), (∃ e ∈ [(Instr.ompRead r, false), (.ompWrite r, true)], s.ompTaken r e.2 = false
    ∧ s.ringPort r.port = false ∧ s.ompQueue r = true) :=
  ⟨sets park [(Reg.SYS_PORT_IP_IP_ADDR, 0, 167772161), (Reg.QMGR_Q_CFG_ENABLE, 3, 1), (Reg.QMGR_Q_CFG_CONSUMER, 3, 4), (Reg.QMGR_RULE_CTL_KIND, 0, 4),
      (Reg.QMGR_RULE_CTL_QUEUE, 0, 3), (Reg.QMGR_RULE_CTL_PORT_MASK, 0, 1), (Reg.QMGR_RULE_KEY0_ETYPE_PORT, 0, 40119)],
      { port := 0, dstIp := 0x0A000001, dstPort := 40119, srcMac := 3, srcIp := 5, srcPort := 6, magic := 0x4D4F, version := 1, seq := 1, count := 1, addr := 0x40000080, index := 0, data := [], bytes := 16 },
      by decide +kernel⟩

theorem witness_OmpRequests_2 : ∃ (s : State) (r : OmpRequest), (∃ e ∈ [(Instr.ompRead r, false), (.ompWrite r, true)],
    (s.ringPort r.port = true ∨ s.ompQueue r = false)) :=
  ⟨park, { port := 0, dstIp := 0x0A000001, dstPort := 40119, srcMac := 3, srcIp := 5, srcPort := 6, magic := 0x4D4F, version := 1, seq := 1, count := 1, addr := 0x40000080, index := 0, data := [], bytes := 16 },
      by decide +kernel⟩

theorem witness_OmpRequests_3 : ∃ (s : State) (r : OmpRequest) (y : OmpResponse), (∃ e ∈ [(Instr.ompRead r, false), (.ompWrite r, true)],
    s.ompTaken r e.2 = true ∧ s.ompKept r = some y) :=
  ⟨sets ({ park with plate := { slot0 := some plateA }, host := { responses := [{ srcIp := 5, srcPort := 6, seq := 9, port := 0, dstMac := 3, fromIp := 0x0A000001, fromPort := 40119, count := 1, addr := 0x20, index := 0, write := false, status := .done, fail := 0, data := [1] }] } }) [(Reg.SYS_PORT_IP_IP_ADDR,
      0, 167772161), (Reg.QMGR_Q_CFG_ENABLE, 3, 1), (Reg.QMGR_Q_CFG_CONSUMER, 3, 4), (Reg.QMGR_RULE_CTL_KIND, 0, 4), (Reg.QMGR_RULE_CTL_QUEUE, 0, 3),
      (Reg.QMGR_RULE_CTL_PORT_MASK, 0, 1), (Reg.QMGR_RULE_KEY0_ETYPE_PORT, 0, 40119), (Reg.QMGR_Q_CFG_ENABLE, 4, 1), (Reg.QMGR_Q_CFG_DIR, 4, 1),
      (Reg.QMGR_Q_CFG_CONSUMER, 4, 4)],
      { port := 0, dstIp := 0x0A000001, dstPort := 40119, srcMac := 3, srcIp := 5, srcPort := 6, magic := 0x4D4F, version := 1, seq := 9, count := 2, addr := 0x40200080, index := 0, data := [7, 0x200], bytes := 24 },
      { srcIp := 5, srcPort := 6, seq := 9, port := 0, dstMac := 3, fromIp := 0x0A000001, fromPort := 40119, count := 1, addr := 0x20, index := 0, write := false, status := .done, fail := 0, data := [1] },
      by decide +kernel⟩

theorem witness_OmpRequests_4 : ∃ (s : State) (r : OmpRequest) (w : Nat), s.ompTaken r false = true ∧ s.ompKept r = none ∧ r.addr.toNat = 0x40000000 + 4 * w
    ∧ w + r.count ≤ 2 ^ 21 :=
  ⟨sets park [(Reg.SYS_PORT_IP_IP_ADDR, 0, 167772161), (Reg.QMGR_Q_CFG_ENABLE, 3, 1), (Reg.QMGR_Q_CFG_CONSUMER, 3, 4), (Reg.QMGR_RULE_CTL_KIND, 0, 4),
      (Reg.QMGR_RULE_CTL_QUEUE, 0, 3), (Reg.QMGR_RULE_CTL_PORT_MASK, 0, 1), (Reg.QMGR_RULE_KEY0_ETYPE_PORT, 0, 40119)],
      { port := 0, dstIp := 0x0A000001, dstPort := 40119, srcMac := 3, srcIp := 5, srcPort := 6, magic := 0x4D4F, version := 1, seq := 1, count := 1, addr := 0x40000080, index := 0, data := [], bytes := 16 },
      0x20, by decide +kernel⟩

theorem witness_OmpRequests_5 : ∃ (s : State) (r : OmpRequest), s.ompTaken r false = true ∧ s.ompKept r = none ∧ r.addr.toNat % 4 ≠ 0 :=
  ⟨sets park [(Reg.SYS_PORT_IP_IP_ADDR, 0, 167772161), (Reg.QMGR_Q_CFG_ENABLE, 3, 1), (Reg.QMGR_Q_CFG_CONSUMER, 3, 4), (Reg.QMGR_RULE_CTL_KIND, 0, 4),
      (Reg.QMGR_RULE_CTL_QUEUE, 0, 3), (Reg.QMGR_RULE_CTL_PORT_MASK, 0, 1), (Reg.QMGR_RULE_KEY0_ETYPE_PORT, 0, 40119)],
      { port := 0, dstIp := 0x0A000001, dstPort := 40119, srcMac := 3, srcIp := 5, srcPort := 6, magic := 0x4D4F, version := 1, seq := 3, count := 2, addr := 0x3, index := 0, data := [], bytes := 16 },
      by decide +kernel⟩

theorem witness_OmpRequests_6 : ∃ (s : State) (r : OmpRequest) (w : Nat) (v : Word) (x : Word),
    let p := Path.omp r.srcIp r.srcPort
    let pt := w / 2
    s.ompTaken r true = true ∧ s.ompKept r = none ∧ r.addr.toNat = 0x40000000 + 4 * w ∧ w < 2 ^ 21 ∧ w % 2 = 0 ∧ r.data = [v, x] ∧ s.pathWrites p = true
        ∧ s.pointRefusal pt (x.toNat / 256 % 16) = .done :=
  ⟨sets ({ park with plate := { slot0 := some plateA }, host := { responses := [{ srcIp := 5, srcPort := 6, seq := 9, port := 0, dstMac := 3, fromIp := 0x0A000001, fromPort := 40119, count := 1, addr := 0x20, index := 0, write := false, status := .done, fail := 0, data := [1] }] } }) [(Reg.SYS_PORT_IP_IP_ADDR,
      0, 167772161), (Reg.QMGR_Q_CFG_ENABLE, 3, 1), (Reg.QMGR_Q_CFG_CONSUMER, 3, 4), (Reg.QMGR_RULE_CTL_KIND, 0, 4), (Reg.QMGR_RULE_CTL_QUEUE, 0, 3),
      (Reg.QMGR_RULE_CTL_PORT_MASK, 0, 1), (Reg.QMGR_RULE_KEY0_ETYPE_PORT, 0, 40119), (Reg.QMGR_Q_CFG_ENABLE, 4, 1), (Reg.QMGR_Q_CFG_DIR, 4, 1),
      (Reg.QMGR_Q_CFG_CONSUMER, 4, 4)],
      { port := 0, dstIp := 0x0A000001, dstPort := 40119, srcMac := 3, srcIp := 5, srcPort := 6, magic := 0x4D4F, version := 1, seq := 4, count := 2, addr := 0x40200080, index := 0, data := [7, 0x200], bytes := 24 },
      0x80020, 7, 0x200, by dsimp only; decide +kernel⟩

theorem witness_OmpRequests_7 : ∃ (s : State) (r : OmpRequest),
    let p := Path.omp r.srcIp r.srcPort
    let t := s.touch p
    let words := t.ompWords p r.addr.toNat r.index 0 r.data
    s.ompTaken r true = true ∧ s.ompKept r = none ∧ r.addr.toNat % 4 = 0 ∧ 1 < r.count ∧ words.1.1 ≠ .done :=
  ⟨sets park [(Reg.SYS_PORT_IP_IP_ADDR, 0, 167772161), (Reg.QMGR_Q_CFG_ENABLE, 3, 1), (Reg.QMGR_Q_CFG_CONSUMER, 3, 4), (Reg.QMGR_RULE_CTL_KIND, 0, 4),
      (Reg.QMGR_RULE_CTL_QUEUE, 0, 3), (Reg.QMGR_RULE_CTL_PORT_MASK, 0, 1), (Reg.QMGR_RULE_KEY0_ETYPE_PORT, 0, 40119)],
      { port := 0, dstIp := 0x0A000001, dstPort := 40119, srcMac := 3, srcIp := 5, srcPort := 6, magic := 0x4D4F, version := 1, seq := 4, count := 2, addr := 0x40200080, index := 0, data := [7, 0x200], bytes := 24 },
      by dsimp only; decide +kernel⟩

theorem witness_OmpRequests_8 : ∃ (s : State) (r : OmpRequest), s.ompTaken r true = true ∧ s.ompKept r = none ∧ r.addr.toNat % 4 ≠ 0 :=
  ⟨sets park [(Reg.SYS_PORT_IP_IP_ADDR, 0, 167772161), (Reg.QMGR_Q_CFG_ENABLE, 3, 1), (Reg.QMGR_Q_CFG_CONSUMER, 3, 4), (Reg.QMGR_RULE_CTL_KIND, 0, 4),
      (Reg.QMGR_RULE_CTL_QUEUE, 0, 3), (Reg.QMGR_RULE_CTL_PORT_MASK, 0, 1), (Reg.QMGR_RULE_KEY0_ETYPE_PORT, 0, 40119)],
      { port := 0, dstIp := 0x0A000001, dstPort := 40119, srcMac := 3, srcIp := 5, srcPort := 6, magic := 0x4D4F, version := 1, seq := 5, count := 1, addr := 0x22, index := 0, data := [5], bytes := 20 },
      by decide +kernel⟩

theorem witness_SpiTransfers_1 : ∃ (s : State), s.pathUp .spi = false :=
  ⟨{ park with rst := { spiServes := false } }, by decide +kernel⟩

theorem witness_SpiTransfers_2 : ∃ (s : State) (a : Word) (w : Nat) (n : Nat), s.pathUp .spi = true ∧ s.booted = true ∧ a.toNat = 0x40000000 + 4 * w
    ∧ w + n ≤ 2 ^ 21 ∧ w < 2 ^ 21 ∧ w % 2 = 0 :=
  ⟨park, 0x40200080, 0x80020, 0, by decide +kernel⟩

theorem witness_SpiTransfers_3 : ∃ (s : State) (a : Word) (n : Nat), s.pathUp .spi = true ∧ a.toNat % 4 ≠ 0 ∧ 0 < n :=
  ⟨park, 0x3, 3, by decide +kernel⟩

theorem witness_SpiTransfers_4 : ∃ (s : State) (a : Word), s.pathUp .spi = true ∧ a.toNat % 4 ≠ 0 :=
  ⟨park, 0x3, by decide +kernel⟩

theorem witness_SpiTransfers_5 : ∃ (s : State) (a : Word) (x : Word) (w : Nat), s.pathUp .spi = true ∧ a.toNat = 0x40000000 + 4 * w ∧ w < 2 ^ 21 ∧ w % 2 = 0
    ∧ s.booted = true ∧ s.pathWrites .spi = true ∧ s.pointRefusal (w / 2) (x.toNat / 256 % 16) = .done :=
  ⟨{ park with plate := { slot0 := some plateA } }, 0x40200080, 0x200, 0x80020, by decide +kernel⟩

theorem witness_SpiTransfers_6 : ∃ (s : State) (a : Word) (w : Nat), s.pathUp .spi = true ∧ a.toNat = 0x40000000 + 4 * w ∧ w < 2 ^ 21 ∧ w % 2 = 0
    ∧ s.booted = true ∧ s.pathWrites .spi = false :=
  ⟨sets park [(Reg.SYS_PATH_CTL_SPI_WR_EN, 0, 0)], 0x40200080, 0x80020, by decide +kernel⟩

theorem witness_PowerCommands_1 : ∃ (s : State) (p : Path),
    let busy := s.restarting = true ∨ s.pump.restartReq.isSome = true
    s.takes p 4 = true ∧ (∃ e ∈ [(Instr.warmRestart p, false), (.coldRestart p, true)], busy) :=
  ⟨{ run with pump := { restartLeft := 2 } }, .spi, by dsimp only; decide +kernel⟩

theorem witness_PowerCommands_2 : ∃ (s : State) (p : Path),
    let busy := s.restarting = true ∨ s.pump.restartReq.isSome = true
    s.takes p 4 = true ∧ (∃ e ∈ [(Instr.warmRestart p, false), (.coldRestart p, true)], ¬ busy ∧ s.hasStandby = true) :=
  ⟨sets ({ run with red := { partners := [{ unit := 3, claim := 0x00F0, last := 7, sync := 3, plateId := 0, isolated := false, unitBad := false, reachable := true }] } }) [(Reg.RED_CFG_MODE,
      0, 1), (Reg.RED_STAT_ROLE, 0, 2)], .spi, by dsimp only; decide +kernel⟩

theorem witness_PowerCommands_3 : ∃ (s : State) (p : Path),
    let busy := s.restarting = true ∨ s.pump.restartReq.isSome = true
    s.takes p 4 = true ∧ (∃ e ∈ [(Instr.warmRestart p, false), (.coldRestart p, true)], ¬ busy ∧ s.hasStandby = false) :=
  ⟨park, .spi, by dsimp only; decide +kernel⟩

theorem witness_PowerCommands_4 : ∃ (s : State) (p : Path),
    let busy := s.restarting = true ∨ s.pump.restartReq.isSome = true
    s.takes p 1 = true ∧ s.mode = .park ∧ ¬ busy ∧ s.runBlocked = false :=
  ⟨{ park with plate := { slot0 := some plateA } }, .spi, by dsimp only; decide +kernel⟩

theorem witness_PowerCommands_5 : ∃ (s : State) (p : Path),
    let busy := s.restarting = true ∨ s.pump.restartReq.isSome = true
    s.takes p 1 = true ∧ s.mode = .park ∧ ¬ busy ∧ s.runBlocked = true ∧ s.mode ≠ .run ∧ s.flag Reg.PWR_STAT_DIP = false ∧ s.takes p 3 = true :=
  ⟨park, .spi, by dsimp only; decide +kernel⟩

theorem witness_PowerCommands_6 : ∃ (s : State) (p : Path),
    let busy := s.restarting = true ∨ s.pump.restartReq.isSome = true
    s.takes p 1 = true ∧ s.mode = .park ∧ busy :=
  ⟨{ park with pump := { restartReq := some (true, 1) } }, .spi, by dsimp only; decide +kernel⟩

theorem witness_PowerCommands_7 : ∃ (s : State) (p : Path), s.takes p 1 = true ∧ s.mode ≠ .park ∧ s.mode = .run ∧ s.hasStandby = false :=
  ⟨run, .spi, by decide +kernel⟩

theorem witness_PowerCommands_8 : ∃ (s : State) (p : Path), s.takes p 1 = true ∧ s.mode = .run ∧ s.hasStandby = true :=
  ⟨sets ({ run with red := { partners := [{ unit := 3, claim := 0x00F0, last := 7, sync := 3, plateId := 0, isolated := false, unitBad := false, reachable := true }] } }) [(Reg.RED_CFG_MODE,
      0, 1), (Reg.RED_STAT_ROLE, 0, 2)], .spi, by decide +kernel⟩

theorem witness_PowerCommands_9 : ∃ (s : State) (p : Path), s.takes p 1 = true ∧ s.mode = .park ∧ s.flag Reg.PWR_STAT_DIP = true :=
  ⟨sets park [(Reg.PWR_STAT_DIP, 0, 1)], .spi, by decide +kernel⟩

theorem witness_PlateCommands_1 : ∃ (s : State) (p : Path), s.takes p 4 = true ∧ (s.slotState = 0 ∨ s.slotState = 3) ∧ s.slotState ≠ 5 :=
  ⟨sets ({ park with plate := { slot0 := some plateO, slot1 := some plateA } }) [(Reg.PLATE_STAT_SLOT_STATE, 0, 0), (Reg.PLATE_STAT_MAP_OK, 0, 1)], .spi,
      by decide +kernel⟩

theorem witness_PlateCommands_2 : ∃ (s : State) (p : Path) (w : Nat),
    let standby := s.grouped = true ∧ s.role = 1
    let inWin := s.plate.swappedAt ≤ s.applyCycle ∧ s.applyCycle < s.plate.swappedAt + s.get Reg.PLATE_CFG_REVERT_WIN
    let settled := s.slotState = 5 ∧ s.plate.revertReq = none ∧ s.plate.revertAt = none
    let aborts := s.slotState = 1 ∨ s.slotState = 3 ∨ s.slotState = 4 ∧ s.plate.confirmed = false
    s.takes p 4 = true ∧ (¬ (s.slotState = 0 ∨ s.slotState = 3)) ∧ s.slotState ≠ 1 ∧ ¬ standby ∧ s.slotState ≠ 3 ∧ (¬ (settled ∧ inWin)) ∧ settled
        ∧ s.plate.swappedAt + s.get Reg.PLATE_CFG_REVERT_WIN ≤ s.applyCycle ∧ ¬ aborts ∧ w < 2 ^ 22 :=
  ⟨sets ({ park with plate := { slot0 := some plateO, slot1 := some plateA, swappedAt := 6 } }) [(Reg.PLATE_STAT_SLOT_STATE, 0, 5), (Reg.PLATE_STAT_MAP_OK, 0,
      1), (Reg.PLATE_CFG_REVERT_WIN, 0, 2)], .spi, 4194303, by dsimp only; decide +kernel⟩

theorem witness_PlateCommands_3 : ∃ (s : State) (p : Path) (w : Nat),
    let aborts := s.slotState = 1 ∨ s.slotState = 3 ∨ s.slotState = 4 ∧ s.plate.confirmed = false
    s.takes p 4 = true ∧ s.slotState = 1 ∧ aborts ∧ w < 2 ^ 22 :=
  ⟨sets ({ park with plate := { slot0 := some plateO, slot1 := some plateA } }) [(Reg.PLATE_STAT_SLOT_STATE, 0, 1), (Reg.PLATE_STAT_MAP_OK, 0, 1)], .spi,
      4194303, by dsimp only; decide +kernel⟩

theorem witness_PlateCommands_4 : ∃ (s : State) (p : Path),
    let standby := s.grouped = true ∧ s.role = 1
    s.takes p 4 = true ∧ standby :=
  ⟨sets ({ park with plate := { slot0 := some plateO, slot1 := some plateA } }) [(Reg.PLATE_STAT_SLOT_STATE, 0, 3), (Reg.PLATE_STAT_MAP_OK, 0, 1),
      (Reg.RED_CFG_MODE, 0, 1), (Reg.RED_STAT_ROLE, 0, 1)], .spi, by dsimp only; decide +kernel⟩

theorem witness_PlateCommands_5 : ∃ (s : State) (p : Path) (d : PlateDesc),
    let standby := s.grouped = true ∧ s.role = 1
    s.takes p 4 = true ∧ ¬ standby ∧ s.slotPlate s.freeSlot = some d ∧ s.slotState = 3 ∧ s.flag Reg.PLATE_STAT_MAP_OK = true ∧ s.meetsBudget d = true
        ∧ s.meetsSwap d = true ∧ s.mode = .park :=
  ⟨sets ({ park with plate := { slot0 := some plateO, slot1 := some plateA } }) [(Reg.PLATE_STAT_SLOT_STATE, 0, 3), (Reg.PLATE_STAT_MAP_OK, 0, 1)], .spi,
      plateA, by dsimp only; decide +kernel⟩

theorem witness_PlateCommands_6 : ∃ (s : State) (p : Path),
    let standby := s.grouped = true ∧ s.role = 1
    let inWin := s.plate.swappedAt ≤ s.applyCycle ∧ s.applyCycle < s.plate.swappedAt + s.get Reg.PLATE_CFG_REVERT_WIN
    let settled := s.slotState = 5 ∧ s.plate.revertReq = none ∧ s.plate.revertAt = none
    s.takes p 4 = true ∧ ¬ standby ∧ (settled ∧ inWin) :=
  ⟨sets ({ park with plate := { slot0 := some plateO, slot1 := some plateA, swappedAt := 6 } }) [(Reg.PLATE_STAT_SLOT_STATE, 0, 5), (Reg.PLATE_STAT_MAP_OK, 0,
      1), (Reg.PLATE_CFG_REVERT_WIN, 0, 3)], .spi, by dsimp only; decide +kernel⟩

theorem witness_PlateCommands_7 : ∃ (s : State) (p : Path), s.takes p 4 = true ∧ s.mode ≠ .park :=
  ⟨sets ({ run with plate := { slot0 := some plateO, slot1 := some plateA } }) [(Reg.PLATE_STAT_SLOT_STATE, 0, 3), (Reg.PLATE_STAT_MAP_OK, 0, 1)], .spi,
      by decide +kernel⟩

theorem witness_PlateEvents_1 : ∃ (s : State) (v : Verdict) (d : PlateDesc),
    let r := s.plateCheck v d
    s.plate.op = .verify ∧ r.1 = .done :=
  ⟨{ park with plate := { slot0 := some plateO, slot1 := some plateA, op := .verify }, fuses := { State.reset.fuses with slot0 := { hash := [5, 0, 0, 0, 0, 0, 0, 0], valid := true } } },
      { sigOk := true, structOk := true }, plateA, by dsimp only; decide +kernel⟩

theorem witness_PlateEvents_2 : ∃ (s : State) (v : Verdict) (d : PlateDesc),
    let r := s.plateCheck v d
    s.plate.op = .verify ∧ r.1 ≠ .done ∧ (s.windowOpen = false ∨ s.plate.swapAt ≠ some s.n) ∧ (s.windowOpen = false ∨ s.plate.revertAt ≠ some s.n) :=
  ⟨{ park with plate := { slot0 := some plateO, slot1 := some plateA, op := .verify } }, { sigOk := true, structOk := true }, plateA,
      by dsimp only; decide +kernel⟩

theorem witness_PlateEvents_3 : ∃ (s : State) (d : PlateDesc) (o : PlateDesc),
    let plates := s.runSlot ≤ 1 ∧ s.slotPlate s.runSlot = some o ∧ s.slotPlate s.freeSlot = some d
    let alone := s.role ≠ 1 ∧ s.red.lastProof = false
    s.windowOpen = true ∧ s.plate.swapAt = some s.n ∧ s.plate.revertAt ≠ some s.n ∧ alone ∧ plates :=
  ⟨sets ({ park with plate := { slot0 := some plateO, slot1 := some plateA, swapAt := some 7 } }) [(Reg.PLATE_STAT_SLOT_STATE, 0, 4), (Reg.RED_STAT_ROLE, 0,
      2)], plateA, plateO, by dsimp only; decide +kernel⟩

theorem witness_PlateEvents_4 : ∃ (s : State) (d : PlateDesc) (o : PlateDesc),
    let plates := s.runSlot ≤ 1 ∧ s.slotPlate s.runSlot = some o ∧ s.slotPlate s.freeSlot = some d
    s.closeWaits = true ∧ s.proofReady = none ∧ s.plate.swapAt = some s.n ∧ s.plate.revertAt ≠ some s.n ∧ s.maySwap = true ∧ plates :=
  ⟨sets ({ run with plate := { slot0 := some plateO, slot1 := some plateA, swapAt := some 7, confirmed := true }, phase := .tasks, red := { waiting := true } }) [(Reg.RED_CFG_MODE,
      0, 1), (Reg.RED_STAT_ROLE, 0, 1)], plateA, plateO, by dsimp only; decide +kernel⟩

theorem witness_PlateEvents_5 : ∃ (s : State) (d : PlateDesc) (o : PlateDesc),
    let plates := s.runSlot ≤ 1 ∧ s.slotPlate s.runSlot = some o ∧ s.slotPlate s.freeSlot = some d
    let alone := s.role ≠ 1 ∧ s.red.lastProof = false
    s.windowOpen = true ∧ s.plate.revertAt = some s.n ∧ s.plate.swapAt ≠ some s.n ∧ alone ∧ plates :=
  ⟨sets ({ run with plate := { slot0 := some plateO, slot1 := some plateA, revertAt := some 7, oldInst := { counters := [(1, { cv := 5 })] } } }) [(Reg.PLATE_STAT_SLOT_STATE,
      0, 4), (Reg.RED_STAT_ROLE, 0, 2)], plateA, plateO, by dsimp only; decide +kernel⟩

theorem witness_PlateEvents_6 : ∃ (s : State) (o : PlateDesc), s.plate.op = .commit ∧ s.flag Reg.PWR_STAT_DIP = false ∧ s.runSlot ≤ 1 ∧ s.runPlate = some o :=
  ⟨{ park with plate := { slot0 := some plateO, slot1 := some plateA, op := .commit } }, plateO, by decide +kernel⟩

theorem witness_PlateEvents_7 : ∃ (s : State) (d : PlateDesc), s.plate.op = .install ∧ s.flag Reg.PWR_STAT_DIP = false ∧ s.runSlot ≤ 1
    ∧ s.slotPlate s.freeSlot = some d :=
  ⟨{ park with plate := { slot0 := some plateO, slot1 := some plateA, op := .install } }, plateA, by decide +kernel⟩

theorem witness_PlateEvents_8 : ∃ (s : State), s.flag Reg.PWR_STAT_DIP = true :=
  ⟨sets ({ park with plate := { slot0 := some plateO, slot1 := some plateA, op := .commit } }) [(Reg.PWR_STAT_DIP, 0, 1)], by decide +kernel⟩

theorem witness_ImageCommands_1 : ∃ (s : State) (p : Path) (w : Nat),
    let t := s.touch p
    let st := s.imgLoadState
    s.takes p 19 = true ∧ s.imgSaving = false ∧ st ≠ 2 ∧ st ≠ 4 ∧ st ≠ 1 ∧ st ≠ 3 ∧ (st = 0 ∨ 4 ≤ st) ∧ w < 0x300000 ∧ s.takes p 0 = true
        ∧ t.host.phase = .idle ∧ s.flag Reg.IMG_STAT_IMG_FALLBACK = false ∧ st = 0 :=
  ⟨park, .spi, 0x2FFFFF, by dsimp only; decide +kernel⟩

theorem witness_ImageCommands_2 : ∃ (s : State) (p : Path) (g : Verdict) (d : ImageDesc),
    let st := s.imgLoadState
    let r := s.verifyImage g d
    s.takes p 19 = true ∧ s.imgSaving = false ∧ (st = 2 ∨ st = 4) ∧ st = 2 ∧ r.1 ≠ .done :=
  ⟨sets ({ park with images := { copyA := some ({ keyHash := Config.romKey, svn := 0, settings := [] }, { sigOk := true, structOk := true }), copyB := some ({ keyHash := Config.romKey, svn := 0, settings := [] }, { sigOk := true, structOk := true }) } }) [(Reg.SEC_IMG_STAT_STATE,
      0, 2)], .spi, { sigOk := true, structOk := true }, { keyHash := Config.romKey, svn := 0, settings := [] }, by dsimp only; decide +kernel⟩

theorem witness_ImageCommands_3 : ∃ (s : State) (p : Path) (w : Nat),
    let st := s.imgLoadState
    s.takes p 19 = true ∧ st = 1 ∧ (st = 1 ∨ st = 2 ∨ st = 3) ∧ w < 0x300000 :=
  ⟨sets ({ park with images := { copyA := some ({ keyHash := Config.romKey, svn := 0, settings := [] }, { sigOk := true, structOk := true }), copyB := some ({ keyHash := Config.romKey, svn := 0, settings := [] }, { sigOk := true, structOk := true }) } }) [(Reg.SEC_IMG_STAT_STATE,
      0, 1)], .spi, 0x2FFFFF, by dsimp only; decide +kernel⟩

theorem witness_ImageCommands_4 : ∃ (s : State) (p : Path),
    let st := s.imgLoadState
    s.takes p 19 = true ∧ st = 3 :=
  ⟨sets ({ park with images := { copyA := some ({ keyHash := Config.romKey, svn := 0, settings := [] }, { sigOk := true, structOk := true }), copyB := some ({ keyHash := Config.romKey, svn := 0, settings := [] }, { sigOk := true, structOk := true }) } }) [(Reg.SEC_IMG_STAT_STATE,
      0, 3)], .spi, by dsimp only; decide +kernel⟩

theorem witness_ImageCommands_5 : ∃ (s : State) (p : Path),
    let t := s.touch p
    s.takes p 0 = true ∧ t.host.phase ≠ .idle :=
  ⟨{ park with host := { phase := .openTxn, owner := .spi, staged := [{ addr := 0x058004, index := 0, value := 0 }], lastAccess := 999999999 }, images := { copyA := some ({ keyHash := Config.romKey, svn := 0, settings := [] }, { sigOk := true, structOk := true }), copyB := some ({ keyHash := Config.romKey, svn := 0, settings := [] }, { sigOk := true, structOk := true }) } },
      .spi, by dsimp only; decide +kernel⟩

theorem witness_ImageCommands_6 : ∃ (s : State) (g : Verdict) (d : ImageDesc),
    let st := s.imgLoadState
    let r := s.verifyImage g d
    st = 2 ∧ r.1 = .done :=
  ⟨sets ({ park with images := { copyA := some ({ keyHash := Config.romKey, svn := 0, settings := [] }, { sigOk := true, structOk := true }), copyB := some ({ keyHash := Config.romKey, svn := 0, settings := [] }, { sigOk := true, structOk := true }) }, fuses := { State.reset.fuses with slot0 := { hash := [5, 0, 0, 0, 0, 0, 0, 0], valid := true }, rollback := 0 } }) [(Reg.IMG_STAT_BOOT_B,
      0, 1), (Reg.SEC_IMG_STAT_STATE, 0, 2)], { sigOk := true, structOk := true }, { keyHash := 5, svn := 1, settings := [(0x100, 3)] },
      by dsimp only; decide +kernel⟩

theorem witness_ImageCommands_7 : ∃ (s : State) (l : List (Nat × Nat)), s.images.saving = some l ∧ s.flag Reg.PWR_STAT_DIP = false :=
  ⟨{ park with images := { copyA := some ({ keyHash := Config.romKey, svn := 0, settings := [] }, { sigOk := true, structOk := true }), copyB := some ({ keyHash := Config.romKey, svn := 0, settings := [] }, { sigOk := true, structOk := true }), saving := some [(5, 6)] } },
      [(5, 6)], by decide +kernel⟩

theorem witness_FuseCommands_1 : ∃ (s : State) (p : Path) (code : BitVec 16), s.takes p 19 = true ∧ code = 0xF05E ∧ s.flag Reg.SEC_STAT_RNG_FAIL = false :=
  ⟨park, .spi, 0xF05E, by decide +kernel⟩

theorem witness_FuseCommands_2 : ∃ (s : State) (p : Path) (code : BitVec 16), s.takes p 19 = true ∧ code ≠ 0xF05E :=
  ⟨park, .spi, 0, by decide +kernel⟩

theorem witness_FuseCommands_3 : ∃ (s : State) (p : Path) (slot : Nat),
    let cmds := [(Instr.programSlot p slot, 1), (.revokeSlot p slot, 2), (.advanceRollback p, 3), (.dbgOff p, 4)]
    s.takes p 19 = true ∧ slot < 4 ∧ (∃ e ∈ cmds, s.mode ≠ .park) :=
  ⟨run, .spi, 3, by dsimp only; decide +kernel⟩

theorem witness_FuseCommands_4 : ∃ (s : State) (p : Path) (slot : Nat),
    let cmds := [(Instr.programSlot p slot, 1), (.revokeSlot p slot, 2), (.advanceRollback p, 3), (.dbgOff p, 4)]
    s.takes p 19 = true ∧ slot < 4 ∧ (∃ e ∈ cmds, s.mode = .park ∧ (s.flag Reg.PWR_STAT_DIP = true ∨ s.sec.fuseOp.isSome = true)) :=
  ⟨sets ({ park with sec := { armedAt := some 999999999 } }) [(Reg.PWR_STAT_DIP, 0, 1)], .spi, 3, by dsimp only; decide +kernel⟩

theorem witness_FuseCommands_5 : ∃ (s : State) (p : Path) (slot : Nat),
    let cmds := [(Instr.programSlot p slot, 1), (.revokeSlot p slot, 2), (.advanceRollback p, 3), (.dbgOff p, 4)]
    s.takes p 19 = true ∧ slot < 4 ∧ (∃ e ∈ cmds, s.mode = .park ∧ s.flag Reg.PWR_STAT_DIP = false ∧ s.sec.fuseOp = none ∧ s.fuseArmed = false) :=
  ⟨park, .spi, 3, by dsimp only; decide +kernel⟩

theorem witness_FuseCommands_6 : ∃ (s : State) (p : Path) (slot : Nat),
    let cmds := [(Instr.programSlot p slot, 1), (.revokeSlot p slot, 2), (.advanceRollback p, 3), (.dbgOff p, 4)]
    let n (op : Nat) : Nat := if op ≤ 2 then slot else 0
    s.takes p 19 = true ∧ slot < 4 ∧ (∃ e ∈ cmds, s.mode = .park ∧ s.flag Reg.PWR_STAT_DIP = false ∧ s.sec.fuseOp = none ∧ s.fuseArmed = true
        ∧ s.fuseRefused e.2 (n e.2) = true) :=
  ⟨{ park with sec := { armedAt := some 999999999 } }, .spi, 3, by dsimp only; decide +kernel⟩

theorem witness_FuseCommands_7 : ∃ (s : State) (p : Path) (slot : Nat),
    let cmds := [(Instr.programSlot p slot, 1), (.revokeSlot p slot, 2), (.advanceRollback p, 3), (.dbgOff p, 4)]
    let n (op : Nat) : Nat := if op ≤ 2 then slot else 0
    s.takes p 19 = true ∧ slot < 4 ∧ (∃ e ∈ cmds, s.mode = .park ∧ s.flag Reg.PWR_STAT_DIP = false ∧ s.sec.fuseOp = none ∧ s.fuseArmed = true
        ∧ s.fuseRefused e.2 (n e.2) = false) :=
  ⟨{ park with sec := { armedAt := some 999999999 } }, .spi, 3, by dsimp only; decide +kernel⟩

theorem witness_FuseCommands_8 : ∃ (s : State) (p : Path) (slot : Nat), s.takes p 19 = true ∧ 4 ≤ slot :=
  ⟨park, .spi, 4, by decide +kernel⟩

theorem witness_FuseCommands_9 : ∃ (s : State) (a : Nat), s.sec.armedAt = some a :=
  ⟨{ park with sec := { armedAt := some 999999999 } }, 999999999, by decide +kernel⟩

theorem witness_FuseCommands_10 : ∃ (s : State) (slot : Nat) (op : Nat), s.sec.fuseOp = some (op, slot) :=
  ⟨{ park with sec := { fuseOp := some (2, 1) }, fuses := { State.reset.fuses with slot0 := { hash := [5], valid := true }, slot2 := { hash := [6], valid := true } } },
      1, 2, by decide +kernel⟩

theorem witness_ObserverCommands_1 : ∃ (s : State) (p : Path) (c : Nat),
    let standby := s.grouped = true ∧ s.role = 1
    s.takes p 11 = true ∧ s.dpClosed = false ∧ ¬ standby ∧ c < 64 ∧ s.obsState ≠ 1 ∧ s.obs.saving = none ∧ s.flag Reg.PWR_STAT_DIP = false ∧ s.mode ≠ .run :=
  ⟨park, .spi, 63, by dsimp only; decide +kernel⟩

theorem witness_ObserverCommands_2 : ∃ (s : State) (p : Path), s.takes p 11 = true ∧ s.dpClosed = true :=
  ⟨sets ({ park with loops := { slots := [(510, { state := 3 })] } }) [(Reg.LOOP_CTL_DP_EN, 0, 1)], .spi, by decide +kernel⟩

theorem witness_ObserverCommands_3 : ∃ (s : State) (p : Path) (c : Nat),
    let standby := s.grouped = true ∧ s.role = 1
    s.takes p 11 = true ∧ standby ∧ c < 64 :=
  ⟨sets park [(Reg.RED_CFG_MODE, 0, 1), (Reg.RED_STAT_ROLE, 0, 1)], .spi, 63, by dsimp only; decide +kernel⟩

theorem witness_ObserverCommands_4 : ∃ (s : State) (p : Path) (c : Nat), s.takes p 11 = true ∧ s.obsState = 1 ∧ c < 64 :=
  ⟨sets park [(Reg.OBS_STAT_STATE, 0, 1)], .spi, 63, by decide +kernel⟩

theorem witness_ObserverCommands_5 : ∃ (s : State) (p : Path), s.takes p 11 = true ∧ s.obs.saving = none ∧ s.flag Reg.PWR_STAT_DIP = true :=
  ⟨sets park [(Reg.PWR_STAT_DIP, 0, 1)], .spi, by decide +kernel⟩

theorem witness_ObserverCommands_6 : ∃ (s : State) (p : Path), s.takes p 11 = true ∧ s.obs.saving ≠ none :=
  ⟨{ park with obs := { saving := some { seq := 4, est := [], cov := [] } } }, .spi, by decide +kernel⟩

theorem witness_ObserverCommands_7 : ∃ (s : State), s.mode = .run ∧ s.variant ≠ .d2 ∧ s.obs.saving = none ∧ s.flag Reg.PWR_STAT_DIP = false :=
  ⟨run, by decide +kernel⟩

theorem witness_ObserverCommands_8 : ∃ (s : State) (k : CalCopy), s.flag Reg.PWR_STAT_DIP = false ∧ s.obs.saving = some k ∧ s.obs.saveWanted = false :=
  ⟨{ park with obs := { saving := some { seq := 4, est := [], cov := [] } } }, { seq := 4, est := [], cov := [] }, by decide +kernel⟩

theorem witness_ObserverCommands_9 : ∃ (s : State), s.obs.drPos = true ∧ s.obs.expPos = false ∧ s.obs.drHdg = true ∧ s.obs.expHdg = false :=
  ⟨{ run with obs := { copyA := some { seq := 3, est := [], cov := [] }, drPos := true, drHdg := true, closeAt := 5 } }, by decide +kernel⟩

theorem witness_ObserverCommands_10 : ∃ (s : State), s.variant = .d8 ∧ s.get Reg.OBS_STAT_ENGINE = 0 ∧ s.obs.bad1 = false :=
  ⟨park, by decide +kernel⟩

theorem witness_ObserverCommands_11 : ∃ (s : State), s.variant = .d8 ∧ s.get Reg.OBS_STAT_ENGINE = 1 :=
  ⟨sets park [(Reg.OBS_STAT_ENGINE, 0, 1)], by decide +kernel⟩

theorem witness_HatchCommands_1 : ∃ (s : State) (p : Path) (e : Nat) (w : Nat),
    let x := s.hatchEntry e
    let loading := s.solv.entries.any (fun n => decide (n.2.state = 1))
    let busyHere := s.solv.op.any (fun o => decide (o.1 = e))
    0 < e ∧ e < 32 ∧ s.takes p 14 = true ∧ x.state = 0 ∧ loading = false ∧ x.state ≠ 1 ∧ x.state ≠ 3 ∧ x.state < 3 ∧ busyHere = false
        ∧ (x.state = 0 ∨ x.state = 4) ∧ w < 2 ^ 20 ∧ s.loadingEntry = none :=
  ⟨park, .spi, 31, 1048575, by dsimp only; decide +kernel⟩

theorem witness_HatchCommands_2 : ∃ (s : State) (p : Path) (e : Nat),
    let x := s.hatchEntry e
    let loading := s.solv.entries.any (fun n => decide (n.2.state = 1))
    0 < e ∧ e < 32 ∧ s.takes p 14 = true ∧ (x.state ≠ 0 ∨ loading = true) :=
  ⟨{ park with fuses := { State.reset.fuses with slot0 := { hash := [5, 0, 0, 0, 0, 0, 0, 0], valid := true } }, solv := { entries := [(3, { state := 1, desc := some hatchL, words := hatchWords })] } },
      .spi, 31, by dsimp only; decide +kernel⟩

theorem witness_HatchCommands_3 : ∃ (s : State) (p : Path) (e : Nat) (w : Nat),
    let x := s.hatchEntry e
    0 < e ∧ e < 32 ∧ s.takes p 14 = true ∧ x.state = 1 ∧ s.solv.op = none ∧ w < 2 ^ 20 ∧ s.loadingEntry = some e :=
  ⟨{ park with fuses := { State.reset.fuses with slot0 := { hash := [5, 0, 0, 0, 0, 0, 0, 0], valid := true } }, solv := { entries := [(3, { state := 1, desc := some hatchL, words := hatchWords })] } },
      .spi, 3, 1048575, by dsimp only; decide +kernel⟩

theorem witness_HatchCommands_4 : ∃ (s : State) (p : Path) (e : Nat),
    let x := s.hatchEntry e
    let busyHere := s.solv.op.any (fun o => decide (o.1 = e))
    0 < e ∧ e < 32 ∧ s.takes p 14 = true ∧ x.state = 3 ∧ s.solv.op = none ∧ s.storedBytes + (x.desc.map (fun y => y.hdr.length)).getD 0 ≤ 16777216
        ∧ 3 ≤ x.state ∧ s.entryUsed e = false ∧ busyHere = false :=
  ⟨{ park with fuses := { State.reset.fuses with slot0 := { hash := [5, 0, 0, 0, 0, 0, 0, 0], valid := true } }, solv := { entries := [(3, { state := 3, desc := some hatchL, words := hatchWords })] } },
      .spi, 3, by dsimp only; decide +kernel⟩

theorem witness_HatchCommands_5 : ∃ (s : State) (p : Path) (e : Nat), 0 < e ∧ e < 32 ∧ s.takes p 14 = true :=
  ⟨park, .spi, 31, by decide +kernel⟩

theorem witness_HatchCommands_6 : ∃ (s : State) (e : Nat) (g : Verdict) (d : HatchDesc),
    let x := s.hatchEntry e
    let h := hatchIn x.words d
    let r := s.verifyObject { g with structOk := g.structOk && headerOk x.words && sectionsOk x.words } d.keyHash h.svn false
    0 < e ∧ e < 32 ∧ s.solv.op = some (e, false) ∧ r.1 = .done :=
  ⟨{ park with fuses := { State.reset.fuses with slot0 := { hash := [5, 0, 0, 0, 0, 0, 0, 0], valid := true } }, solv := { entries := [(3, { state := 2, desc := some hatchL, words := hatchWords })], op := some (3, false) } },
      3, { sigOk := true, structOk := true }, hatchD, by dsimp only; decide +kernel⟩

theorem witness_HatchCommands_7 : ∃ (s : State) (e : Nat) (g : Verdict) (d : HatchDesc),
    let x := s.hatchEntry e
    let h := hatchIn x.words d
    let r := s.verifyObject { g with structOk := g.structOk && headerOk x.words && sectionsOk x.words } d.keyHash h.svn false
    0 < e ∧ e < 32 ∧ s.solv.op = some (e, false) ∧ r.1 ≠ .done :=
  ⟨{ park with fuses := { State.reset.fuses with slot0 := { hash := [5, 0, 0, 0, 0, 0, 0, 0], valid := true } }, solv := { entries := [(3, { state := 2, desc := some hatchL, words := hatchWords })], op := some (3, false) } },
      3, { sigOk := true, structOk := false }, hatchD, by dsimp only; decide +kernel⟩

theorem witness_HatchCommands_8 : ∃ (s : State) (e : Nat), 0 < e ∧ e < 32 ∧ s.solv.op = some (e, true) ∧ s.flag Reg.PWR_STAT_DIP = false :=
  ⟨{ park with fuses := { State.reset.fuses with slot0 := { hash := [5, 0, 0, 0, 0, 0, 0, 0], valid := true } }, solv := { entries := [(3, { state := 3, desc := some hatchL, words := hatchWords })], op := some (3, true) } },
      3, by decide +kernel⟩

theorem witness_HatchCommands_9 : ∃ (s : State) (e : Nat), 0 < e ∧ e < 32 ∧ s.flag Reg.PWR_STAT_DIP = true ∧ s.solv.op = some (e, true) :=
  ⟨sets ({ park with fuses := { State.reset.fuses with slot0 := { hash := [5, 0, 0, 0, 0, 0, 0, 0], valid := true } }, solv := { entries := [(3, { state := 3, desc := some hatchL, words := hatchWords })], op := some (3, true) } }) [(Reg.PWR_STAT_DIP,
      0, 1)], 3, by decide +kernel⟩

theorem witness_SolverRuns_1 : ∃ (s : State) (r : SolveReport) (d : Nat),
    let x := s.slotRun r.ctx
    let run := s.runOf r.ctx r.trace true false
    let runs := s.dieRunning r.ctx = some d ∧ r.ctx ∉ (s.die d).list ∧ r.ctx ∉ (s.die d).reruns
    runs ∧ run.diagonal = false ∧ bitAt x.flags 2 = false ∧ run.ended = .converged :=
  ⟨lane { }, { ctx := 5, trace := { steps := [], inner := [[0x4000000000000000]] }, timeNs := 1000 }, 1, by dsimp only; decide +kernel⟩

theorem witness_SolverRuns_2 : ∃ (s : State) (r : SolveReport) (d : Nat),
    let x := s.slotRun r.ctx
    let run := s.runOf r.ctx r.trace true false
    let runs := s.dieRunning r.ctx = some d ∧ r.ctx ∉ (s.die d).list ∧ r.ctx ∉ (s.die d).reruns
    runs ∧ run.diagonal = false ∧ bitAt x.flags 2 = false ∧ run.ended = .stopped :=
  ⟨lane { }, { ctx := 5, trace := { steps := [], inner := [] }, timeNs := 1000 }, 1, by dsimp only; decide +kernel⟩

theorem witness_SolverRuns_3 : ∃ (s : State) (r : SolveReport) (d : Nat),
    let run := s.runOf r.ctx r.trace true false
    let runs := s.dieRunning r.ctx = some d ∧ r.ctx ∉ (s.die d).list ∧ r.ctx ∉ (s.die d).reruns
    runs ∧ (run.ended = .infeasible ∨ run.ended = .nonFinite) :=
  ⟨lane { wide := true }, { ctx := 5, trace := { steps := [], inner := [[0x7FF0000000000000]] }, timeNs := 1000 }, 1, by dsimp only; decide +kernel⟩

theorem witness_SolverRuns_4 : ∃ (s : State) (r : SolveReport) (d : Nat),
    let run := s.runOf r.ctx r.trace true false
    let runs := s.dieRunning r.ctx = some d ∧ r.ctx ∉ (s.die d).list ∧ r.ctx ∉ (s.die d).reruns
    runs ∧ (s.die d).list = [] ∧ run.ended = .breach ∧ s.wideTaken d < 2 :=
  ⟨lane { }, { ctx := 5, trace := { steps := [], inner := [[0x41CDCD6500000000]] }, timeNs := 1000 }, 1, by dsimp only; decide +kernel⟩

theorem witness_SolverRuns_5 : ∃ (s : State) (r : SolveReport) (c : Nat), s.dieRunning r.ctx = none ∧ s.solv.deadline = none
    ∧ ((s.slotRun c).wide = false ∨ (s.slotRun c).wideClean < s.get Reg.SOLV_CFG_WIDE_HOLD ∨ (s.slotRun c).warm.all (s.fitsNarrow c) = false) :=
  ⟨park, { ctx := 5, trace := { steps := [], inner := [[0x4000000000000000]] }, timeNs := 1000 }, 5, by decide +kernel⟩

theorem witness_SolverRuns_6 : ∃ (s : State) (dl : Nat), s.solv.deadline = some dl :=
  ⟨lane { }, 1000400000, by decide +kernel⟩

theorem witness_SolverRuns_7 : ∃ (s : State) (d : Nat), d < s.variant.dies :=
  ⟨park, 1, by decide +kernel⟩

theorem witness_SolverRuns_8 : ∃ (s : State) (d : Nat), s.variant.dies ≤ d :=
  ⟨park, 4, by decide +kernel⟩

theorem witness_SolverRuns_9 : ∃ (s : State) (c : Nat), (s.slotRun c).wide = true ∧ s.get Reg.SOLV_CFG_WIDE_HOLD ≤ (s.slotRun c).wideClean
    ∧ (s.slotRun c).warm.all (s.fitsNarrow c) = true :=
  ⟨{ park with solv := { slots := [(5, { wide := true, wideClean := 200, posted := true })] } }, 5, by decide +kernel⟩

theorem witness_SolverRuns_10 : ∃ (s : State), s.flag Reg.LOOP_CTL_DP_EN = true ∧ s.trough.wind.isSome = true ∧ s.loops.windLost = false
    ∧ s.trough.windInFrame = false :=
  ⟨sets ({ park with trough := { wind := some (0, 0), windAt := 5 } }) [(Reg.LOOP_CTL_DP_EN, 0, 1)], by decide +kernel⟩

theorem witness_Network_1 : ∃ (s : State), s.portsUp = false :=
  ⟨{ park with mode := .boot }, by decide +kernel⟩

theorem witness_Network_2 : ∃ (s : State) (f : EthFrame) (target : BitVec 32) (port : Nat),
    let up := s.portsUp = true ∧ f.port < 16 ∧ s.ringPort f.port = false
    let plain := f.len ≤ 1522 ∧ (f.etype ≠ 0x0806#16 ∨ s.portIp f.port = 0)
    up ∧ plain ∧ s.classify f = none ∧ s.portsUp = true ∧ port < 16 ∧ s.ringPort port = false ∧ target.toNat ≠ s.portIp port :=
  ⟨park, { port := 15, len := 1522, dmac := 5, smac := 6, tags := 0, etype := 0x88F7, ip := none, fcsOk := true, stamp := 1000000123 }, 7, 15,
      by dsimp only; decide +kernel⟩

theorem witness_Network_3 : ∃ (s : State) (f : EthFrame) (q : Nat) (i : Nat),
    let up := s.portsUp = true ∧ f.port < 16 ∧ s.ringPort f.port = false
    let plain := f.len ≤ 1522 ∧ (f.etype ≠ 0x0806#16 ∨ s.portIp f.port = 0)
    let l := storeGet s.qm.rx q []
    up ∧ plain ∧ s.classify f = some i ∧ s.get Reg.QMGR_RULE_CTL_QUEUE i = q ∧ s.flag Reg.QMGR_Q_CFG_ENABLE q = true ∧ s.get Reg.QMGR_Q_CFG_CONSUMER q ≠ 1
        ∧ l.length < s.ringLen q :=
  ⟨sets ({ park with qm := { rx := [(3, List.replicate 8 { buf := 0, len := 64, port := 0, rule := 2, ts := 0, err := false })], tx := [(4, [])], busy := [] } }) [(Reg.QMGR_RULE_CTL_KIND,
      2, 1), (Reg.QMGR_RULE_CTL_QUEUE, 2, 3), (Reg.QMGR_RULE_CTL_PORT_MASK, 2, 65535), (Reg.QMGR_RULE_KEY0_ETYPE_PORT, 2, 35063), (Reg.QMGR_Q_CFG_ENABLE, 3,
      1), (Reg.QMGR_Q_CFG_RING_LEN, 3, 8), (Reg.QMGR_Q_CFG_CONSUMER, 3, 3)],
      { port := 15, len := 1522, dmac := 5, smac := 6, tags := 0, etype := 0x88F7, ip := none, fcsOk := true, stamp := 1000000123 }, 3, 2,
      by dsimp only; decide +kernel⟩

theorem witness_Network_4 : ∃ (s : State) (f : EthFrame) (q : Nat) (i : Nat),
    let up := s.portsUp = true ∧ f.port < 16 ∧ s.ringPort f.port = false
    let plain := f.len ≤ 1522 ∧ (f.etype ≠ 0x0806#16 ∨ s.portIp f.port = 0)
    let l := storeGet s.qm.rx q []
    up ∧ plain ∧ s.classify f = some i ∧ s.get Reg.QMGR_RULE_CTL_QUEUE i = q ∧ s.flag Reg.QMGR_Q_CFG_ENABLE q = true ∧ s.get Reg.QMGR_Q_CFG_CONSUMER q ≠ 1
        ∧ s.ringLen q ≤ l.length :=
  ⟨sets ({ park with qm := { rx := [(3, List.replicate 9 { buf := 0, len := 64, port := 0, rule := 2, ts := 0, err := false })], tx := [(4, [])], busy := [] } }) [(Reg.QMGR_RULE_CTL_KIND,
      2, 1), (Reg.QMGR_RULE_CTL_QUEUE, 2, 3), (Reg.QMGR_RULE_CTL_PORT_MASK, 2, 65535), (Reg.QMGR_RULE_KEY0_ETYPE_PORT, 2, 35063), (Reg.QMGR_Q_CFG_ENABLE, 3,
      1), (Reg.QMGR_Q_CFG_RING_LEN, 3, 8), (Reg.QMGR_Q_CFG_CONSUMER, 3, 3)],
      { port := 15, len := 1522, dmac := 5, smac := 6, tags := 0, etype := 0x88F7, ip := none, fcsOk := true, stamp := 1000000123 }, 3, 2,
      by dsimp only; decide +kernel⟩

theorem witness_Network_5 : ∃ (s : State) (f : EthFrame) (q : Nat) (i : Nat),
    let up := s.portsUp = true ∧ f.port < 16 ∧ s.ringPort f.port = false
    let plain := f.len ≤ 1522 ∧ (f.etype ≠ 0x0806#16 ∨ s.portIp f.port = 0)
    up ∧ plain ∧ s.classify f = some i ∧ s.get Reg.QMGR_RULE_CTL_QUEUE i = q ∧ s.flag Reg.QMGR_Q_CFG_ENABLE q = true ∧ s.get Reg.QMGR_Q_CFG_CONSUMER q = 1 :=
  ⟨sets park [(Reg.QMGR_RULE_CTL_KIND, 2, 1), (Reg.QMGR_RULE_CTL_QUEUE, 2, 3), (Reg.QMGR_RULE_CTL_PORT_MASK, 2, 65535), (Reg.QMGR_RULE_KEY0_ETYPE_PORT, 2,
      35063), (Reg.QMGR_Q_CFG_ENABLE, 3, 1), (Reg.QMGR_Q_CFG_RING_LEN, 3, 8)],
      { port := 15, len := 1522, dmac := 5, smac := 6, tags := 0, etype := 0x88F7, ip := none, fcsOk := true, stamp := 1000000123 }, 3, 2,
      by dsimp only; decide +kernel⟩

theorem witness_Network_6 : ∃ (s : State) (f : EthFrame),
    let up := s.portsUp = true ∧ f.port < 16 ∧ s.ringPort f.port = false
    up ∧ 1522 < f.len :=
  ⟨park, { port := 15, len := 1523, dmac := 5, smac := 6, tags := 0, etype := 0x88F7, ip := none, fcsOk := true, stamp := 1000000123 },
      by dsimp only; decide +kernel⟩

theorem witness_Network_7 : ∃ (s : State) (f : EthFrame), s.portsUp = true ∧ f.port < 16 ∧ s.ringPort f.port = true
    ∧ (f.tags ≠ 0 ∨ f.etype.toNat ≠ s.get Reg.STN_CYCLE_CFG_STN_ETYPE) :=
  ⟨sets park [(Reg.STN_RING_CFG_ENABLE, 7, 1)],
      { port := 15, len := 1522, dmac := 5, smac := 6, tags := 0, etype := 0x88F7, ip := none, fcsOk := true, stamp := 1000000123 }, by decide +kernel⟩

theorem witness_Network_8 : ∃ (s : State) (target : BitVec 32) (port : Nat), s.portsUp = true ∧ port < 16 ∧ s.ringPort port = false ∧ s.portIp port ≠ 0
    ∧ target.toNat = s.portIp port :=
  ⟨sets park [(Reg.SYS_PORT_IP_IP_ADDR, 15, 7)], 7, 15, by decide +kernel⟩

theorem witness_Network_9 : ∃ (s : State) (q : Nat) (port : Nat) (d : TxDesc) (rest : List TxDesc),
    let leaves := s.portsUp = true ∧ storeFind s.qm.busy port = some q
    leaves ∧ storeGet s.qm.tx q [] = d :: rest ∧ d.ptp = none :=
  ⟨sets ({ park with qm := { rx := [(3, [])], tx := [(4, [{ port := 0, len := 64, frameId := 9, tsReq := true, head := { smac := 5, dmac := 6, etype := 0x88F7 } }])], busy := [(0, 4)] } }) [(Reg.QMGR_Q_CFG_ENABLE,
      4, 1), (Reg.QMGR_Q_CFG_DIR, 4, 1)], 4, 0, { port := 0, len := 64, frameId := 9, tsReq := true, head := { smac := 5, dmac := 6, etype := 0x88F7 } }, [],
      by dsimp only; decide +kernel⟩

theorem witness_Network_10 : ∃ (s : State) (q : Nat) (port : Nat) (d : TxDesc) (rest : List TxDesc) (m : PtpMessage),
    let leaves := s.portsUp = true ∧ storeFind s.qm.busy port = some q
    leaves ∧ storeGet s.qm.tx q [] = d :: rest ∧ d.ptp = some m ∧ m.type = 0 ∧ m.twoStep = false :=
  ⟨sets ({ park with qm := { rx := [(3, [])], tx := [(4, [{ port := 0, len := 64, frameId := 9, tsReq := false, head := { smac := 5, dmac := 6, etype := 0x88F7 }, ptp := some (ptpMsg 0) }])], busy := [(0, 4)] } }) [(Reg.QMGR_Q_CFG_ENABLE,
      4, 1), (Reg.QMGR_Q_CFG_DIR, 4, 1)], 4, 0,
      { port := 0, len := 64, frameId := 9, tsReq := false, head := { smac := 5, dmac := 6, etype := 0x88F7 }, ptp := some (ptpMsg 0) }, [], ptpMsg 0,
      by dsimp only; decide +kernel⟩

theorem witness_Network_11 : ∃ (s : State) (q : Nat) (port : Nat), storeFind s.qm.busy port ≠ some q :=
  ⟨{ park with mode := .boot }, 3, 15, by decide +kernel⟩

theorem witness_Stations_1 : ∃ (s : State) (f : StationFrame),
    let crcOk := f.crc.toNat = crc32c (copyData f)
    s.portsUp = true ∧ f.port < 16 ∧ s.stationRouted f = true ∧ ¬ crcOk :=
  ⟨park, { station with port := 1, cycle := 7, station := 5, entries := [(9, 0)] }, by dsimp only; decide +kernel⟩

theorem witness_Stations_2 : ∃ (s : State) (f : StationFrame) (i : Nat) (p : Path),
    let t := s.touch p
    let known := s.stationKnown f = true
    let crcOk := f.crc.toNat = crc32c (copyData f)
    let fits := f.version = 1 ∧ f.kind = 2 ∧ known ∧ f.entries.length = s.get Reg.STN_ST_IN_IN_COUNT f.station
    let standby := s.grouped = true ∧ s.role = 1
    s.portsUp = true ∧ f.port < 16 ∧ s.stationRouted f = true ∧ crcOk ∧ ¬ fits ∧ s.takes p 7 = true ∧ i < s.variant.stations ∧ ¬ standby ∧ s.takes p 5 = true
        ∧ t.host.phase = .idle ∧ t.host.timeoutOwner ≠ some p :=
  ⟨park, copyOf { station with port := 1, kind := 2, cycle := 7, station := 5, entries := [(9, 0)] }, 1023, .spi, by dsimp only; decide +kernel⟩

theorem witness_Stations_3 : ∃ (s : State) (f : StationFrame),
    let known := s.stationKnown f = true
    let crcOk := f.crc.toNat = crc32c (copyData f)
    let fits := f.version = 1 ∧ f.kind = 2 ∧ known ∧ f.entries.length = s.get Reg.STN_ST_IN_IN_COUNT f.station
    let inTime := f.cycle.toNat = s.n % 4294967296 ∧ s.windowOpen = true ∧ s.now ≤ s.windowLimit ∧ s.allIn = false
    s.portsUp = true ∧ f.port < 16 ∧ s.stationRouted f = true ∧ crcOk ∧ fits ∧ ¬ inTime :=
  ⟨sets park [(Reg.STN_RING_CFG_ENABLE, 0, 1), (Reg.STN_ST_CFG_ENABLE, 5, 1), (Reg.STN_ST_CFG_POSITION, 5, 1), (Reg.STN_ST_IN_IN_COUNT, 5, 1),
      (Reg.QMGR_RULE_CTL_KIND, 2, 1), (Reg.QMGR_RULE_CTL_QUEUE, 2, 3), (Reg.QMGR_RULE_CTL_PORT_MASK, 2, 3), (Reg.QMGR_RULE_KEY0_ETYPE_PORT, 2, 35063),
      (Reg.STN_CYCLE_CFG_STN_ETYPE, 0, 35063), (Reg.QMGR_Q_CFG_ENABLE, 3, 1), (Reg.QMGR_Q_CFG_CONSUMER, 3, 1), (Reg.QMGR_Q_CFG_RING_LEN, 3, 8)],
      copyOf { station with port := 1, kind := 2, cycle := 8, station := 5, entries := [(9, 0)] }, by dsimp only; decide +kernel⟩

theorem witness_Stations_4 : ∃ (s : State) (f : StationFrame),
    let known := s.stationKnown f = true
    let crcOk := f.crc.toNat = crc32c (copyData f)
    let fits := f.version = 1 ∧ f.kind = 2 ∧ known ∧ f.entries.length = s.get Reg.STN_ST_IN_IN_COUNT f.station
    let inTime := f.cycle.toNat = s.n % 4294967296 ∧ s.windowOpen = true ∧ s.now ≤ s.windowLimit ∧ s.allIn = false
    s.portsUp = true ∧ f.port < 16 ∧ s.stationRouted f = true ∧ crcOk ∧ fits ∧ inTime :=
  ⟨sets park [(Reg.STN_RING_CFG_ENABLE, 0, 1), (Reg.STN_ST_CFG_ENABLE, 5, 1), (Reg.STN_ST_CFG_POSITION, 5, 1), (Reg.STN_ST_IN_IN_COUNT, 5, 1),
      (Reg.QMGR_RULE_CTL_KIND, 2, 1), (Reg.QMGR_RULE_CTL_QUEUE, 2, 3), (Reg.QMGR_RULE_CTL_PORT_MASK, 2, 3), (Reg.QMGR_RULE_KEY0_ETYPE_PORT, 2, 35063),
      (Reg.STN_CYCLE_CFG_STN_ETYPE, 0, 35063), (Reg.QMGR_Q_CFG_ENABLE, 3, 1), (Reg.QMGR_Q_CFG_CONSUMER, 3, 1), (Reg.QMGR_Q_CFG_RING_LEN, 3, 8)],
      copyOf { station with port := 1, kind := 2, cycle := 7, station := 5, entries := [(9, 0)] }, by dsimp only; decide +kernel⟩

theorem witness_Stations_5 : ∃ (s : State) (f : StationFrame), s.portsUp = true ∧ f.port < 16 ∧ s.stationRouted f = false :=
  ⟨sets park [(Reg.STN_CYCLE_CFG_STN_ETYPE, 0, 35063)], copyOf { station with port := 1, kind := 2, cycle := 7, station := 5, entries := [(9, 0)] },
      by decide +kernel⟩

theorem witness_Stations_6 : ∃ (s : State), s.portsUp = false :=
  ⟨{ park with mode := .boot }, by decide +kernel⟩

theorem witness_Stations_7 : ∃ (s : State) (port : Nat), s.portsUp = true ∧ s.running = true ∧ port < 16 ∧ s.ringPort port = true
    ∧ s.stn.sent.any (fun x => decide (x.ring = port / 2)) = true :=
  ⟨sets ({ run with stn := { sent := [{ ring := 0, group := 0, claim := 0, cycle := 7, tp := 1000, records := [] }], returns := [(0, 1)] } }) [(Reg.STN_RING_CFG_ENABLE,
      0, 1), (Reg.STN_ST_CFG_ENABLE, 5, 1), (Reg.STN_ST_CFG_POSITION, 5, 1), (Reg.STN_ST_IN_IN_COUNT, 5, 1), (Reg.QMGR_RULE_CTL_KIND, 2, 1),
      (Reg.QMGR_RULE_CTL_QUEUE, 2, 3), (Reg.QMGR_RULE_CTL_PORT_MASK, 2, 3), (Reg.QMGR_RULE_KEY0_ETYPE_PORT, 2, 35063), (Reg.STN_CYCLE_CFG_STN_ETYPE, 0,
      35063), (Reg.QMGR_Q_CFG_ENABLE, 3, 1), (Reg.QMGR_Q_CFG_CONSUMER, 3, 1), (Reg.QMGR_Q_CFG_RING_LEN, 3, 8)], 1, by decide +kernel⟩

theorem witness_Stations_8 : ∃ (s : State) (i : Nat) (p : Path),
    let standby := s.grouped = true ∧ s.role = 1
    s.takes p 7 = true ∧ i < s.variant.stations ∧ standby ∧ s.takes p 5 = true :=
  ⟨sets ({ park with stn := { sent := [{ ring := 0, group := 0, claim := 0, cycle := 7, tp := 1000, records := [] }] } }) [(Reg.STN_RING_CFG_ENABLE, 0, 1),
      (Reg.STN_ST_CFG_ENABLE, 5, 1), (Reg.STN_ST_CFG_POSITION, 5, 1), (Reg.STN_ST_IN_IN_COUNT, 5, 1), (Reg.QMGR_RULE_CTL_KIND, 2, 1),
      (Reg.QMGR_RULE_CTL_QUEUE, 2, 3), (Reg.QMGR_RULE_CTL_PORT_MASK, 2, 3), (Reg.QMGR_RULE_KEY0_ETYPE_PORT, 2, 35063), (Reg.STN_CYCLE_CFG_STN_ETYPE, 0,
      35063), (Reg.QMGR_Q_CFG_ENABLE, 3, 1), (Reg.QMGR_Q_CFG_CONSUMER, 3, 1), (Reg.QMGR_Q_CFG_RING_LEN, 3, 8), (Reg.RED_CFG_MODE, 0, 1), (Reg.RED_STAT_ROLE,
      0, 1)], 1023, .spi, by dsimp only; decide +kernel⟩

theorem witness_TimeSources_1 : ∃ (s : State) (p : Path) (port : Nat) (k : Nat) (m : PtpMessage),
    let takes := s.ptpOn port = true ∧ s.strayDatagram port m.udp = false ∧ m.udp.isSome = s.flag Reg.TSU_PORT_PTP_UDP port
          ∧ m.domain.toNat = s.get Reg.TSU_PTP_CFG_DOMAIN ∧ m.clock ≠ s.clockId
    s.takes p 8 = true ∧ s.mode = .park ∧ ¬ takes ∧ s.ringPort port = false ∧ s.ptpOn port = false ∧ 2 ≤ k ∧ s.time.pps0High = false ∧ k < 64
        ∧ s.flag Reg.PWR_STAT_VIO_A_LOW = false :=
  ⟨park, .spi, 0, 2, { ptpMsg 11 with master := some master }, by dsimp only; decide +kernel⟩

theorem witness_TimeSources_2 : ∃ (s : State) (p : Path), s.takes p 8 = true ∧ s.mode ≠ .park :=
  ⟨run, .spi, by decide +kernel⟩

theorem witness_TimeSources_3 : ∃ (s : State) (port : Nat), s.portsUp = true ∧ port < 16 ∧ s.ringPort port = true :=
  ⟨sets park [(Reg.STN_RING_CFG_ENABLE, 0, 1)], 0, by decide +kernel⟩

theorem witness_TimeSources_4 : ∃ (s : State) (port : Nat) (m : PtpMessage) (d : PtpMaster),
    let y := s.ptpPort port
    let takes := s.ptpOn port = true ∧ s.strayDatagram port m.udp = false ∧ m.udp.isSome = s.flag Reg.TSU_PORT_PTP_UDP port
          ∧ m.domain.toNat = s.get Reg.TSU_PTP_CFG_DOMAIN ∧ m.clock ≠ s.clockId
    takes ∧ m.type = 11 ∧ m.master = some d ∧ y.master = none :=
  ⟨sets park [(Reg.TSU_PORT_PTP_PTP_EN, 0, 1)], 0, { ptpMsg 11 with master := some master }, master, by dsimp only; decide +kernel⟩

theorem witness_TimeSources_5 : ∃ (s : State) (port : Nat) (m : PtpMessage) (d : PtpMaster) (o : PtpMaster),
    let w := ({ s with time := { s.time with ptpSent := [] } }).stampReached m.stamp
    let y := s.ptpPort port
    let takes := s.ptpOn port = true ∧ s.strayDatagram port m.udp = false ∧ m.udp.isSome = s.flag Reg.TSU_PORT_PTP_UDP port
          ∧ m.domain.toNat = s.get Reg.TSU_PTP_CFG_DOMAIN ∧ m.clock ≠ s.clockId
    takes ∧ m.type = 11 ∧ m.master = some d ∧ y.master = some (o, m.clock, m.clockPort) ∧ 1 ≤ y.announces ∧ w.up ≤ y.announceAt + 4 * s.announceNs ∧ ((∀ j,
        j ≠ port → s.foreign j = none)) ∧ lexLt (ptpRank s.ownMaster) (ptpRank d) = false :=
  ⟨sets ({ park with time := { ports := [(0, { state := 2, announces := 2, announceAt := 999999000, master := some (master, 7, 1) })] } }) [(Reg.TSU_PORT_PTP_PTP_EN,
      0, 1), (Reg.TSU_PORT_PTP_ASYM, 0, 65520)], 0, { ptpMsg 11 with master := some master }, master, master, by
    dsimp only
    refine ⟨by decide +kernel, by decide +kernel, by decide +kernel, by decide +kernel, by decide +kernel, by decide +kernel, fun j hj => ?_, by decide +kernel⟩
    simp [State.foreign, State.ptpPort, storeGet, storeFind, sets, State.set, Ne.symm hj]⟩

theorem witness_TimeSources_6 : ∃ (s : State) (port : Nat) (m : PtpMessage),
    let w := ({ s with time := { s.time with ptpSent := [] } }).stampReached m.stamp
    let y := s.ptpPort port
    let takes := s.ptpOn port = true ∧ s.strayDatagram port m.udp = false ∧ m.udp.isSome = s.flag Reg.TSU_PORT_PTP_UDP port
          ∧ m.domain.toNat = s.get Reg.TSU_PTP_CFG_DOMAIN ∧ m.clock ≠ s.clockId
    takes ∧ m.type = 0 ∧ m.twoStep = false ∧ s.fromParent port m = true ∧ w.up ≤ y.announceAt + s.announceLimit :=
  ⟨sets ({ park with time := { ports := [(0, { state := 2, announces := 2, announceAt := 999999000, master := some (master, 7, 1) })] } }) [(Reg.TSU_PORT_PTP_PTP_EN,
      0, 1), (Reg.TSU_PORT_PTP_ASYM, 0, 65520)], 0, ptpMsg 0, by dsimp only; decide +kernel⟩

theorem witness_TimeSources_7 : ∃ (s : State) (port : Nat) (m : PtpMessage),
    let takes := s.ptpOn port = true ∧ s.strayDatagram port m.udp = false ∧ m.udp.isSome = s.flag Reg.TSU_PORT_PTP_UDP port
          ∧ m.domain.toNat = s.get Reg.TSU_PTP_CFG_DOMAIN ∧ m.clock ≠ s.clockId
    takes ∧ m.type = 0 ∧ s.fromParent port m = false :=
  ⟨sets park [(Reg.TSU_PORT_PTP_PTP_EN, 0, 1)], 0, ptpMsg 0, by dsimp only; decide +kernel⟩

theorem witness_TimeSources_8 : ∃ (s : State) (port : Nat) (m : PtpMessage),
    let takes := s.ptpOn port = true ∧ s.strayDatagram port m.udp = false ∧ m.udp.isSome = s.flag Reg.TSU_PORT_PTP_UDP port
          ∧ m.domain.toNat = s.get Reg.TSU_PTP_CFG_DOMAIN ∧ m.clock ≠ s.clockId
    takes ∧ m.type = 1 ∧ s.ptpState port = 1 ∧ s.flag Reg.TSU_PORT_PTP_P2P port = false :=
  ⟨sets ({ park with time := { ports := [(0, { state := 1 })] } }) [(Reg.TSU_PORT_PTP_PTP_EN, 0, 1)], 0, ptpMsg 1, by dsimp only; decide +kernel⟩

theorem witness_TimeSources_9 : ∃ (s : State) (port : Nat), s.ptpOn port = true :=
  ⟨sets park [(Reg.TSU_PORT_PTP_PTP_EN, 0, 1)], 0, by decide +kernel⟩

theorem witness_TimeSources_10 : ∃ (s : State), s.time.ptpAvail = true :=
  ⟨{ park with time := { pps0Last := some 1, pps1Last := some 900000000, pps0Avail := true, pps1Avail := true, din := [(0, { stamp := 1000000110, unread := true, seen := true }), (2, { unread := true })], ptpAvail := true } },
      by decide +kernel⟩

theorem witness_TimeSources_11 : ∃ (s : State) (l : Nat), s.time.pps0Avail = true ∧ s.time.pps0Last = some l :=
  ⟨{ park with time := { pps0Last := some 1, pps1Last := some 900000000, pps0Avail := true, pps1Avail := true, din := [(0, { stamp := 1000000110, unread := true, seen := true }), (2, { unread := true })], ptpAvail := true } },
      1, by decide +kernel⟩

theorem witness_TimeSources_12 : ∃ (s : State) (l : Nat), s.time.pps1Avail = true ∧ s.time.pps1Last = some l :=
  ⟨{ park with time := { pps0Last := some 1, pps1Last := some 900000000, pps0Avail := true, pps1Avail := true, din := [(0, { stamp := 1000000110, unread := true, seen := true }), (2, { unread := true })], ptpAvail := true } },
      900000000, by decide +kernel⟩

theorem witness_TimeSources_13 : ∃ (s : State), s.running = true ∧ s.get Reg.TSU_PPS_OUT_MODE 0 = 2 :=
  ⟨sets park [(Reg.TSU_PPS_OUT_MODE, 0, 2), (Reg.TSU_PPS_OUT_WIDTH, 0, 100)], by decide +kernel⟩

theorem witness_TimeSources_14 : ∃ (s : State), s.running = true ∧ s.get Reg.TSU_PPS_OUT_MODE 1 = 1 ∧ s.timeValid = true :=
  ⟨sets park [(Reg.TSU_PPS_OUT_MODE, 1, 1), (Reg.TSU_PPS_OUT_WIDTH, 1, 100), (Reg.TSU_SRC_STAT_TIME_VALID, 0, 1)], by decide +kernel⟩

theorem witness_TimeSources_15 : ∃ (s : State), s.time.pps0High = true :=
  ⟨{ park with time := { pps0High := true, pps0Fall := 1000000500, pps0Last := some 5 } }, by decide +kernel⟩

theorem witness_TimeSources_16 : ∃ (s : State) (k : Nat), (64 ≤ k ∨ s.flag Reg.PWR_STAT_VIO_A_LOW = true) :=
  ⟨park, 64, by decide +kernel⟩

theorem witness_SensorsAndSerial_1 : ∃ (s : State) (src : SensorSource) (body : SensorBody) (stamp : Nat),
    let r := s.stampReached stamp
    let w := if r.running = true ∧ r.trough.openTh.any (fun th => r.frameReady th || decide (r.trough.limit ≤ r.now)) = true then r.frameClose else r
    w.chansOf src = [] ∧ ((∀ d, body ≠ .binary d)) :=
  ⟨park, .can 0, .pgn 127250 3 false [1, 2, 3, 4, 5, 6, 7, 8], 1000000123, by decide +kernel, fun d h => by cases h⟩

theorem witness_SensorsAndSerial_2 : ∃ (s : State) (src : SensorSource) (stamp : Nat),
    let r := s.stampReached stamp
    let w := if r.running = true ∧ r.trough.openTh.any (fun th => r.frameReady th || decide (r.trough.limit ≤ r.now)) = true then r.frameClose else r
    w.flag Reg.PWR_STAT_VIO_A_LOW = true ∧ ((∀ n q d, src ≠ .queue n q d)) :=
  ⟨sets park [(Reg.PWR_STAT_VIO_A_LOW, 0, 1)], .can 0, 1000000123, by decide +kernel, fun n q d h => by cases h⟩

theorem witness_SensorsAndSerial_3 : ∃ (s : State) (src : SensorSource) (body : SensorBody) (stamp : Nat) (c : Nat) (g : Nat) (sa : Byte) (fast : Bool) (d : List Byte) (l : List FieldVal),
    let r := s.stampReached stamp
    let w := if r.running = true ∧ r.trough.openTh.any (fun th => r.frameReady th || decide (r.trough.limit ≤ r.now)) = true then r.frameClose else r
    body = .pgn g sa fast d ∧ w.deafTo src body = false ∧ w.chansOf src = [c] ∧ (w.takeCfg c).2 = false ∧ w.offer (w.takeCfg c).1 src body = .fields l :=
  ⟨sets park [(Reg.TRG_TPL_BYTES.at 0, 0, 258), (Reg.TRG_TPL_BYTES.at 1, 0, 4278317330), (Reg.TRG_TPL_BYTES.at 4, 0, 458753), (Reg.TRG_CH_CFG_ENABLE, 0, 1),
      (Reg.TRG_CH_CFG_SRC_KIND, 0, 1), (Reg.TRG_CH_LAT_LATENCY, 0, 3), (Reg.SER_CAN_CFG_MODE, 0, 1)], .can 0, .pgn 127250 3 false [1, 2, 3, 4, 5, 6, 7, 8],
      1000000123, 0, 127250, 3, false, [1, 2, 3, 4, 5, 6, 7, 8], [{ val := 0 }], by dsimp only; decide +kernel⟩

theorem witness_SensorsAndSerial_4 : ∃ (s : State) (src : SensorSource) (body : SensorBody) (stamp : Nat) (c : Nat) (g : Nat) (sa : Byte) (fast : Bool) (d : List Byte),
    let r := s.stampReached stamp
    let w := if r.running = true ∧ r.trough.openTh.any (fun th => r.frameReady th || decide (r.trough.limit ≤ r.now)) = true then r.frameClose else r
    body = .pgn g sa fast d ∧ w.deafTo src body = false ∧ w.chansOf src = [c] ∧ w.offer (w.takeCfg c).1 src body = .bad :=
  ⟨sets park [(Reg.TRG_TPL_BYTES.at 0, 0, 258), (Reg.TRG_TPL_BYTES.at 1, 0, 4278317330), (Reg.TRG_TPL_BYTES.at 4, 0, 131073), (Reg.TRG_CH_CFG_ENABLE, 0, 1),
      (Reg.TRG_CH_CFG_SRC_KIND, 0, 1), (Reg.TRG_CH_LAT_LATENCY, 0, 3), (Reg.SER_CAN_CFG_MODE, 0, 1)], .can 0, .pgn 127250 3 false [1, 2, 3, 4, 5, 6, 7, 8],
      1000000123, 0, 127250, 3, false, [1, 2, 3, 4, 5, 6, 7, 8], by dsimp only; decide +kernel⟩

theorem witness_SensorsAndSerial_5 : ∃ (s : State) (c : Nat) (name : BitVec 64), c < 4 ∧ s.canClaims c = true ∧ s.flag Reg.SER_CAN_STAT_CLAIMED c = false
    ∧ name.toNat ≠ s.canName c :=
  ⟨sets park [(Reg.SER_CAN_CFG_MODE, 3, 1), (Reg.SER_CAN_CFG_CLAIM_EN, 3, 1), (Reg.SER_CAN_NAME_LO_NAME_LO, 3, 50)], 3, 49, by decide +kernel⟩

theorem witness_SensorsAndSerial_6 : ∃ (s : State) (c : Nat), c < 4 ∧ s.canClaims c = true ∧ s.flag Reg.SER_CAN_STAT_CLAIMED c = true :=
  ⟨sets park [(Reg.SER_CAN_CFG_MODE, 3, 1), (Reg.SER_CAN_CFG_CLAIM_EN, 3, 1), (Reg.SER_CAN_NAME_LO_NAME_LO, 3, 50), (Reg.SER_CAN_STAT_CLAIMED, 3, 1),
      (Reg.SER_CAN_STAT_ADDR, 3, 128)], 3, by decide +kernel⟩

theorem witness_SensorsAndSerial_7 : ∃ (s : State) (u : Nat) (len : Nat) (p : Path),
    let bytes := (List.range len).map (fun j => BitVec.ofNat 8 (s.get (Reg.SER_UART_TXBUF_BYTES.at (j / 4)) u / 256 ^ (j % 4)))
    1 ≤ len ∧ len ≤ 77 ∧ u < 24 ∧ s.takes p 9 = true ∧ (bytes.head? = some 36 ∨ bytes.head? = some 33) ∧ storeFind s.ser.busy u = none
        ∧ s.flag Reg.SER_UART_CFG_TX_EN u = true :=
  ⟨sets park [(Reg.SER_UART_CFG_TX_EN, 23, 1), (Reg.SER_UART_TXBUF_BYTES.at 0, 23, 0x41424324)], 23, 77, .spi, by dsimp only; decide +kernel⟩

theorem witness_SensorsAndSerial_8 : ∃ (s : State) (u : Nat) (len : Nat) (p : Path),
    let bytes := (List.range len).map (fun j => BitVec.ofNat 8 (s.get (Reg.SER_UART_TXBUF_BYTES.at (j / 4)) u / 256 ^ (j % 4)))
    u < 24 ∧ s.takes p 9 = true ∧ (storeFind s.ser.busy u).isSome = true ∧ 1 ≤ len ∧ len ≤ 77 ∧ bytes.head? = some 36 :=
  ⟨sets { park with ser := { busy := [(23, ())] } } [(Reg.SER_UART_CFG_TX_EN, 23, 1), (Reg.SER_UART_TXBUF_BYTES.at 0, 23, 0x41424324)], 23, 77, .spi,
      by dsimp only; decide +kernel⟩

theorem witness_BoardEvents_1 : ∃ (s : State) (l : Nat), s.powered = true ∧ s.flag Reg.SYS_BOARD_STAT_REFCLK_BAD = false ∧ s.booted = true
    ∧ s.flag Reg.SYS_MDIO_STAT_BUSY = false ∧ l < 4 ∧ (s.portsUp = false ∨ s.laneUsed l = false) :=
  ⟨park, 3, by decide +kernel⟩

theorem witness_BoardEvents_2 : ∃ (s : State), s.powered = true ∧ s.booted = false :=
  ⟨{ park with mode := .boot }, by decide +kernel⟩

theorem witness_BoardEvents_3 : ∃ (s : State), s.flag Reg.SYS_MDIO_STAT_BUSY = true :=
  ⟨sets park [(Reg.SYS_MDIO_STAT_BUSY, 0, 1), (Reg.SYS_MDIO_CMD_OP, 0, 2)], by decide +kernel⟩

theorem witness_BoardEvents_4 : ∃ (s : State) (l : Nat), s.laneUsed l = true ∧ s.portsUp = true :=
  ⟨park, 0, by decide +kernel⟩

theorem witness_RedundancyCommands_1 : ∃ (s : State) (p : Path), s.takes p 15 = true ∧ s.role ≠ 2
    ∧ (s.role ≠ 0 ∨ s.grouped = false ∨ s.flag Reg.RED_STAT_PLATE_DIFF = true) :=
  ⟨park, .spi, by decide +kernel⟩

theorem witness_RedundancyCommands_2 : ∃ (s : State) (p : Path), s.takes p 15 = true ∧ s.role = 2 ∧ s.red.release = none ∧ s.grouped = true
    ∧ s.successor = true :=
  ⟨sets ({ park with red := { partners := [{ unit := 3, claim := 0x00F0, last := 7, sync := 3, plateId := 0, isolated := false, unitBad := false, reachable := true }] } }) [(Reg.RED_CFG_MODE,
      0, 1), (Reg.RED_STAT_ROLE, 0, 2)], .spi, by decide +kernel⟩

theorem witness_RedundancyCommands_3 : ∃ (s : State) (p : Path), s.takes p 15 = true ∧ s.role = 2 ∧ s.red.release = none
    ∧ (s.grouped = false ∨ s.successor = false) :=
  ⟨sets park [(Reg.RED_CFG_MODE, 0, 1), (Reg.RED_STAT_ROLE, 0, 2)], .spi, by decide +kernel⟩

theorem witness_RedundancyCommands_4 : ∃ (s : State) (p : Path), s.takes p 15 = true ∧ s.role = 0 ∧ s.grouped = true ∧ s.flag Reg.RED_STAT_PLATE_DIFF = false :=
  ⟨sets park [(Reg.RED_CFG_MODE, 0, 1), (Reg.RED_STAT_ROLE, 0, 0)], .spi, by decide +kernel⟩

theorem witness_RedundancyCommands_5 : ∃ (s : State) (p : Path) (k : Nat), s.takes p 15 = true ∧ s.role = 2 ∧ s.grouped = true ∧ s.red.admission = .none
    ∧ s.syncedPartner = some k :=
  ⟨sets ({ park with red := { partners := [{ unit := 3, claim := 0x00F0, last := 7, sync := 3, plateId := 0, isolated := false, unitBad := false, reachable := true }] } }) [(Reg.RED_CFG_MODE,
      0, 1), (Reg.RED_STAT_ROLE, 0, 2)], .spi, 3, by decide +kernel⟩

theorem witness_RedundancyCommands_6 : ∃ (s : State) (p : Path), s.takes p 15 = true ∧ s.role = 2 ∧ s.red.admission ≠ .none :=
  ⟨sets ({ park with red := { admission := .lockstep, partners := [{ unit := 3, claim := 0x00F0, last := 7, sync := 3, plateId := 0, isolated := false, unitBad := false, reachable := true }] } }) [(Reg.RED_CFG_MODE,
      0, 1), (Reg.RED_STAT_ROLE, 0, 2)], .spi, by decide +kernel⟩

theorem witness_RoleChanges_1 : ∃ (s : State) (k : Nat) (c : Nat),
    let beats := s.get Reg.RED_CFG_MODE = 2 ∧ s.role = 1 ∧ s.mode = .run
    s.grouped = true ∧ s.running = true ∧ s.role = 1 ∧ s.mode = .run ∧ s.red.released = some k ∧ k + 5000 ≤ s.boundaryUp ∧ s.red.echoMajority = false
        ∧ s.red.release ≠ some 0 ∧ s.red.yieldTo = none ∧ ¬ beats ∧ s.partner c = none :=
  ⟨sets ({ run with red := { released := some 5 } }) [(Reg.RED_CFG_MODE, 0, 1), (Reg.RED_STAT_ROLE, 0, 1)], 5, 3, by dsimp only; decide +kernel⟩

theorem witness_RoleChanges_2 : ∃ (s : State), s.grouped = true ∧ s.running = true ∧ s.role = 1 ∧ s.mode = .run ∧ s.red.echoMajority = true
    ∧ (s.role ≠ 1 ∨ s.red.released = none) :=
  ⟨sets ({ run with red := { echoMajority := true } }) [(Reg.RED_CFG_MODE, 0, 1), (Reg.RED_STAT_ROLE, 0, 1)], by decide +kernel⟩

theorem witness_RoleChanges_3 : ∃ (s : State), s.grouped = true ∧ s.running = true ∧ s.red.release = some 0 :=
  ⟨sets ({ run with red := { release := some 0 } }) [(Reg.RED_CFG_MODE, 0, 1), (Reg.RED_STAT_ROLE, 0, 2)], by decide +kernel⟩

theorem witness_RoleChanges_4 : ∃ (s : State) (w : BitVec 16), s.grouped = true ∧ s.running = true ∧ s.role = 2 ∧ s.red.yieldTo = some w :=
  ⟨sets ({ run with red := { yieldTo := some 0x8512 } }) [(Reg.RED_CFG_MODE, 0, 1), (Reg.RED_STAT_ROLE, 0, 2)], 0x8512, by decide +kernel⟩

theorem witness_RoleChanges_5 : ∃ (s : State),
    let beats := s.get Reg.RED_CFG_MODE = 2 ∧ s.role = 1 ∧ s.mode = .run
    beats ∧ s.red.beatAt ≠ some s.n :=
  ⟨sets ({ run with red := { hbMiss1 := 2, hbMiss2 := 255 } }) [(Reg.RED_CFG_MODE, 0, 2), (Reg.RED_STAT_ROLE, 0, 1)], by dsimp only; decide +kernel⟩

theorem witness_RoleChanges_6 : ∃ (s : State),
    let beats := s.get Reg.RED_CFG_MODE = 2 ∧ s.role = 1 ∧ s.mode = .run
    beats ∧ s.red.beatAt = some s.n :=
  ⟨sets ({ run with red := { hbMiss1 := 2, hbMiss2 := 2, beatAt := some 7 } }) [(Reg.RED_CFG_MODE, 0, 2), (Reg.RED_STAT_ROLE, 0, 1)],
      by dsimp only; decide +kernel⟩

theorem witness_RoleChanges_7 : ∃ (s : State) (c : Nat) (q : Partner), s.partner c = some q ∧ q.reachable = true
    ∧ q.last + s.get Reg.RED_CLAIM_CFG_CLAIM_WIN < s.n :=
  ⟨sets ({ run with n := 700, red := { partners := [{ unit := 3, claim := 0x00F0, last := 7, sync := 3, plateId := 0, isolated := false, unitBad := false, reachable := true }] } }) [(Reg.RED_CFG_MODE,
      0, 1), (Reg.RED_STAT_ROLE, 0, 1)], 3,
      { unit := 3, claim := 0x00F0, last := 7, sync := 3, plateId := 0, isolated := false, unitBad := false, reachable := true }, by decide +kernel⟩

theorem witness_ProofLink_1 : ∃ (s : State) (f : ProofFrame),
    let served := s.grouped = true ∧ (s.running = true ∨ s.mode = .done) ∧ s.linkLane f.lane = true ∧ f.crcOk = true
    let other := f.unit ≠ s.get Reg.RED_CFG_UNIT
    served ∧ other ∧ s.red.seen.contains (f.unit, f.n, f.serial) = false :=
  ⟨sets park [(Reg.SPAN_STAT_LANE_UP, 0, 15), (Reg.RED_CFG_MODE, 0, 1), (Reg.RED_STAT_ROLE, 0, 1)],
      { lane := 0, crcOk := true, direct := true, unit := 2, claim := 0x0085, n := 7, plateId := 0xA1, sync := 3, serial := 4, isolated := false, unitBad := false, kind := .claim, records := [] },
      by dsimp only; decide +kernel⟩

theorem witness_ProofLink_2 : ∃ (s : State) (f : ProofFrame),
    let served := s.grouped = true ∧ (s.running = true ∨ s.mode = .done) ∧ s.linkLane f.lane = true ∧ f.crcOk = true
    served ∧ f.unit = s.get Reg.RED_CFG_UNIT :=
  ⟨sets park [(Reg.SPAN_STAT_LANE_UP, 0, 15), (Reg.RED_CFG_MODE, 0, 1), (Reg.RED_STAT_ROLE, 0, 1)],
      { lane := 0, crcOk := true, direct := true, unit := 0, claim := 0x0085, n := 7, plateId := 0xA1, sync := 3, serial := 4, isolated := false, unitBad := false, kind := .claim, records := [] },
      by dsimp only; decide +kernel⟩

theorem witness_ProofLink_3 : ∃ (s : State) (f : ProofFrame),
    let served := s.grouped = true ∧ (s.running = true ∨ s.mode = .done) ∧ s.linkLane f.lane = true ∧ f.crcOk = true
    let other := f.unit ≠ s.get Reg.RED_CFG_UNIT
    served ∧ other ∧ s.red.seen.contains (f.unit, f.n, f.serial) = true :=
  ⟨sets ({ run with red := { seen := [(2, 7, 4)] } }) [(Reg.SPAN_STAT_LANE_UP, 0, 15), (Reg.RED_CFG_MODE, 0, 1), (Reg.RED_STAT_ROLE, 0, 1)],
      { lane := 0, crcOk := true, direct := true, unit := 2, claim := 0x0085, n := 7, plateId := 0xA1, sync := 3, serial := 4, isolated := false, unitBad := false, kind := .claim, records := [] },
      by dsimp only; decide +kernel⟩

theorem witness_ProofLink_4 : ∃ (s : State) (f : ProofFrame),
    let served := s.grouped = true ∧ (s.running = true ∨ s.mode = .done) ∧ s.linkLane f.lane = true ∧ f.crcOk = true
    ¬ served ∧ (s.running = false ∨ s.phase ≠ .tasks ∨ s.red.waiting = false) :=
  ⟨park, { lane := 0, crcOk := true, direct := true, unit := 0, claim := 0x0085, n := 7, plateId := 0xA1, sync := 3, serial := 4, isolated := false, unitBad := false, kind := .claim, records := [] },
      by dsimp only; decide +kernel⟩

theorem witness_ProofLink_5 : ∃ (s : State) (r : RxProof), s.running = true ∧ s.phase = .tasks ∧ s.red.waiting = true ∧ s.red.rx = some r ∧ r.complete = true :=
  ⟨sets ({ run with phase := .tasks, red := { waiting := true, rx := some { unit := 3, n := 6, frames := 1, records := [], complete := true, lockstepStart := false, admission := false } } }) [(Reg.RED_CFG_MODE,
      0, 1), (Reg.RED_STAT_ROLE, 0, 1)], { unit := 3, n := 6, frames := 1, records := [], complete := true, lockstepStart := false, admission := false },
      by decide +kernel⟩

theorem witness_ProofLink_6 : ∃ (s : State) (r : RxProof), s.running = true ∧ s.phase = .tasks ∧ s.red.waiting = true ∧ (s.red.rx = none ∨ s.red.rx = some r
    ∧ r.complete = false) :=
  ⟨sets ({ run with phase := .tasks, red := { waiting := true } }) [(Reg.RED_CFG_MODE, 0, 1), (Reg.RED_STAT_ROLE, 0, 1)],
      { unit := 3, n := 6, frames := 1, records := [], complete := true, lockstepStart := false, admission := false }, by decide +kernel⟩

theorem witness_SpanFrames_1 : ∃ (s : State) (g : SpanFrame),
    let here := s.running = true ∧ s.spanOn = true ∧ s.spanLanes.contains g.lane = true ∧ s.laneUp g.lane = true
    let known := s.nodes.contains g.address = true ∧ g.output = false
    let inTime := g.cycle.toNat = s.n % 4294967296
    let whole := g.entries.length = s.get Reg.SPAN_NODE_IN_IN_COUNT g.address
    here ∧ s.spanRoot = true ∧ (g.crcOk = false ∨ ¬ known ∨ ¬ inTime ∨ ¬ whole) :=
  ⟨sets park [(Reg.SPAN_STAT_LANE_UP, 0, 15), (Reg.SPAN_CFG_STRAPS, 0, 1), (Reg.SPAN_CFG_TOPO, 0, 1), (Reg.SPAN_NODE_IN_ENABLE, 5, 1),
      (Reg.SPAN_NODE_IN_IN_COUNT, 5, 1)],
      { lane := 2, crcOk := true, output := true, sender := 0, address := 0, claim := 0x0085, cycle := 7, time := 1000000000, echo := 0x85, values := [], entries := [] },
      by dsimp only; decide +kernel⟩

theorem witness_SpanFrames_2 : ∃ (s : State) (g : SpanFrame),
    let here := s.running = true ∧ s.spanOn = true ∧ s.spanLanes.contains g.lane = true ∧ s.laneUp g.lane = true
    let known := s.nodes.contains g.address = true ∧ g.output = false
    let inTime := g.cycle.toNat = s.n % 4294967296
    let whole := g.entries.length = s.get Reg.SPAN_NODE_IN_IN_COUNT g.address
    here ∧ s.spanRoot = true ∧ g.crcOk = true ∧ known ∧ inTime ∧ whole ∧ s.closedBy = false :=
  ⟨sets park [(Reg.SPAN_STAT_LANE_UP, 0, 15), (Reg.SPAN_CFG_STRAPS, 0, 1), (Reg.SPAN_CFG_TOPO, 0, 1), (Reg.SPAN_NODE_IN_ENABLE, 5, 1),
      (Reg.SPAN_NODE_IN_IN_COUNT, 5, 1)],
      { lane := 2, crcOk := true, output := false, sender := 0, address := 5, claim := 0x0085, cycle := 7, time := 1000000000, echo := 0x85, values := [], entries := [(4, 0)] },
      by dsimp only; decide +kernel⟩

theorem witness_SpanFrames_3 : ∃ (s : State) (g : SpanFrame),
    let here := s.running = true ∧ s.spanOn = true ∧ s.spanLanes.contains g.lane = true ∧ s.laneUp g.lane = true
    let known := s.nodes.contains g.address = true ∧ g.output = false
    let inTime := g.cycle.toNat = s.n % 4294967296
    let whole := g.entries.length = s.get Reg.SPAN_NODE_IN_IN_COUNT g.address
    here ∧ s.spanRoot = true ∧ g.crcOk = true ∧ known ∧ inTime ∧ whole ∧ s.closedBy = true :=
  ⟨sets ({ park with span := { nodes := [(5, { from2 := false, from3 := true, echo := 3, entries := [(9, 9)], lane := 3, stamp := 5 })] } }) [(Reg.SPAN_STAT_LANE_UP,
      0, 15), (Reg.SPAN_CFG_STRAPS, 0, 1), (Reg.SPAN_CFG_TOPO, 0, 1), (Reg.SPAN_NODE_IN_ENABLE, 5, 1), (Reg.SPAN_NODE_IN_IN_COUNT, 5, 1)],
      { lane := 2, crcOk := true, output := false, sender := 0, address := 5, claim := 0x0085, cycle := 7, time := 1000000000, echo := 0x85, values := [], entries := [(4, 0)] },
      by dsimp only; decide +kernel⟩

theorem witness_SpanFrames_4 : ∃ (s : State) (g : SpanFrame),
    let here := s.running = true ∧ s.spanOn = true ∧ s.spanLanes.contains g.lane = true ∧ s.laneUp g.lane = true
    let inTime := g.cycle.toNat = s.n % 4294967296
    here ∧ s.spanRoot = false ∧ (g.crcOk = false ∨ ¬ inTime) :=
  ⟨sets ({ park with plate := { slot0 := some { plateA with localOut := 2, localIn := 1 } } }) [(Reg.SPAN_STAT_LANE_UP, 0, 15), (Reg.SPAN_CFG_STRAPS, 0, 1),
      (Reg.SPAN_CFG_TOPO, 0, 1), (Reg.SPAN_CFG_ADDRESS, 0, 5), (Reg.SPAN_STAT_UP_LOST, 0, 1)],
      { lane := 2, crcOk := false, output := false, sender := 0, address := 5, claim := 0x0085, cycle := 7, time := 1000000000, echo := 0x85, values := [], entries := [(4, 0)] },
      by dsimp only; decide +kernel⟩

theorem witness_SpanFrames_5 : ∃ (s : State) (g : SpanFrame),
    let here := s.running = true ∧ s.spanOn = true ∧ s.spanLanes.contains g.lane = true ∧ s.laneUp g.lane = true
    let inTime := g.cycle.toNat = s.n % 4294967296
    let mine := g.output = true ∧ g.address = s.get Reg.SPAN_CFG_ADDRESS
    here ∧ s.spanRoot = false ∧ g.crcOk = true ∧ inTime ∧ ¬ mine :=
  ⟨sets ({ park with plate := { slot0 := some { plateA with localOut := 2, localIn := 1 } } }) [(Reg.SPAN_STAT_LANE_UP, 0, 15), (Reg.SPAN_CFG_STRAPS, 0, 1),
      (Reg.SPAN_CFG_TOPO, 0, 1), (Reg.SPAN_CFG_ADDRESS, 0, 5), (Reg.SPAN_STAT_UP_LOST, 0, 1)],
      { lane := 2, crcOk := true, output := true, sender := 0, address := 0, claim := 0x0085, cycle := 7, time := 1000000000, echo := 0x85, values := [], entries := [] },
      by dsimp only; decide +kernel⟩

theorem witness_SpanFrames_6 : ∃ (s : State) (g : SpanFrame),
    let here := s.running = true ∧ s.spanOn = true ∧ s.spanLanes.contains g.lane = true ∧ s.laneUp g.lane = true
    let inTime := g.cycle.toNat = s.n % 4294967296
    let mine := g.output = true ∧ g.address = s.get Reg.SPAN_CFG_ADDRESS
    here ∧ s.spanRoot = false ∧ g.crcOk = true ∧ inTime ∧ mine ∧ g.values.length = s.localOut ∧ s.span.upSeen = false ∧ s.upLanes.contains g.lane = true :=
  ⟨sets ({ park with plate := { slot0 := some { plateA with localOut := 2, localIn := 1 } } }) [(Reg.SPAN_STAT_LANE_UP, 0, 15), (Reg.SPAN_CFG_STRAPS, 0, 1),
      (Reg.SPAN_CFG_TOPO, 0, 1), (Reg.SPAN_CFG_ADDRESS, 0, 5), (Reg.SPAN_STAT_UP_LOST, 0, 1)],
      { lane := 2, crcOk := true, output := true, sender := 0, address := 5, claim := 0x0085, cycle := 7, time := 1000000000, echo := 0x85, values := [1, 2], entries := [] },
      by dsimp only; decide +kernel⟩

theorem witness_SpanFrames_7 : ∃ (s : State) (g : SpanFrame),
    let here := s.running = true ∧ s.spanOn = true ∧ s.spanLanes.contains g.lane = true ∧ s.laneUp g.lane = true
    ¬ here ∧ (s.running = false ∨ s.spanNode = false ∨ s.span.upSeen = true) :=
  ⟨park, { lane := 2, crcOk := true, output := true, sender := 0, address := 0, claim := 0x0085, cycle := 7, time := 1000000000, echo := 0x85, values := [], entries := [] },
      by dsimp only; decide +kernel⟩

theorem witness_SpanFrames_8 : ∃ (s : State), s.running = true ∧ s.spanNode = true ∧ s.span.upSeen = false ∧ s.flag Reg.SPAN_STAT_UP_LOST = false :=
  ⟨sets ({ park with plate := { slot0 := some { plateA with localOut := 2, localIn := 1 } } }) [(Reg.SPAN_STAT_LANE_UP, 0, 15), (Reg.SPAN_CFG_STRAPS, 0, 1),
      (Reg.SPAN_CFG_TOPO, 0, 1), (Reg.SPAN_CFG_ADDRESS, 0, 5)], by decide +kernel⟩

theorem witness_TripsAndRunaway_1 : ∃ (s : State) (m : Nat),
    let enabled := s.flag (Reg.SAFE_TRIP_CFG_ENABLE.at m) = true
    let free := storeFind s.safe.tripLatch m = none
    s.safeOn = true ∧ m < 8 ∧ enabled ∧ free ∧ bitAt s.safe.tripFault m = false :=
  ⟨sets park [(Reg.SAFE_TRIP_CFG_ENABLE.at 7, 0, 1), (Reg.SAFE_TRIP_CFG_GROUP_MASK.at 7, 0, 3)], 7, by dsimp only; decide +kernel⟩

theorem witness_TripsAndRunaway_2 : ∃ (s : State) (m : Nat) (p : Path),
    let enabled := s.flag (Reg.SAFE_TRIP_CFG_ENABLE.at m) = true
    s.safeOn = true ∧ m < 8 ∧ ¬ enabled ∧ bitAt s.safe.tripFault m = false
        ∧ (s.flag Reg.SAFE_RUN_CFG_ENABLE m = false ∨ s.runCountOf m < s.get Reg.SAFE_RUN_CFG_TIME m) ∧ s.takes p 17 = true :=
  ⟨park, 7, .spi, by dsimp only; decide +kernel⟩

theorem witness_TripsAndRunaway_3 : ∃ (s : State) (m : Nat), s.flag Reg.SAFE_RUN_CFG_ENABLE m = true ∧ s.get Reg.SAFE_RUN_CFG_TIME m ≤ s.runCountOf m
    ∧ storeFind s.safe.runLatch m = none :=
  ⟨sets ({ park with safe := { State.reset.safe with runCount := [(7, 6)], high := 3 } }) [(Reg.SAFE_RUN_CFG_ENABLE, 7, 1), (Reg.SAFE_RUN_CFG_TIME, 7, 6),
      (Reg.SAFE_RUN_CFG_GROUP_MASK, 7, 3)], 7, by decide +kernel⟩

theorem witness_StippleAndFeedback_1 : ∃ (s : State) (i : Nat),
    let lit := bitAt s.safe.high i = true ∧ s.flag Reg.SAFE_OUT_CFG_STIPPLE_EN i = true
    let fresh := s.pulseInstant i < s.nextBnd ∧ storeFind s.safe.pulsed i ≠ some (s.pulseInstant i)
    i < 32 ∧ lit ∧ fresh ∧ s.safe.pulsing = none ∧ s.safe.repeats = [] ∧ s.safe.waiting = [] ∧ s.safe.pulsing ≠ some i ∧ s.safeOn = true :=
  ⟨sets ({ park with now := 1937500000, up := 1937500000, bnd := 1937500000, nextBnd := 1938500000, safe := { State.reset.safe with high := 2147483649 } }) [(Reg.SAFE_OUT_CFG_STIPPLE_EN,
      31, 1)], 31, by dsimp only; decide +kernel⟩

theorem witness_StippleAndFeedback_2 : ∃ (s : State) (i : Nat) (j : Nat),
    let lit := bitAt s.safe.high i = true ∧ s.flag Reg.SAFE_OUT_CFG_STIPPLE_EN i = true
    let fresh := s.pulseInstant i < s.nextBnd ∧ storeFind s.safe.pulsed i ≠ some (s.pulseInstant i)
    i < 32 ∧ lit ∧ fresh ∧ s.safe.pulsing = some j ∧ j ≠ i ∧ s.safe.repeats = [] ∧ s.safe.waiting = [] :=
  ⟨sets ({ park with now := 1937500000, up := 1937500000, bnd := 1937500000, nextBnd := 1938500000, safe := { State.reset.safe with high := 2147483649, pulsing := some 0 } }) [(Reg.SAFE_OUT_CFG_STIPPLE_EN,
      31, 1)], 31, 0, by dsimp only; decide +kernel⟩

theorem witness_StippleAndFeedback_3 : ∃ (s : State) (i : Nat),
    let lit := bitAt s.safe.high i = true ∧ s.flag Reg.SAFE_OUT_CFG_STIPPLE_EN i = true
    i < 32 ∧ ¬ lit :=
  ⟨sets ({ park with now := 1937500000, up := 1937500000, bnd := 1937500000, nextBnd := 1938500000, safe := { State.reset.safe with high := 2147483649 } }) [(Reg.SAFE_OUT_CFG_STIPPLE_EN,
      31, 1)], 2, by dsimp only; decide +kernel⟩

theorem witness_StippleAndFeedback_4 : ∃ (s : State) (i : Nat),
    let k := storeGet s.safe.failed i 0 + 1
    i < 32 ∧ s.safe.pulsing = some i ∧ bitAt s.safe.disc i = false ∧ k < 4 :=
  ⟨sets ({ park with now := 1937500000, up := 1937500000, bnd := 1937500000, nextBnd := 1938500000, safe := { State.reset.safe with high := 2147483649, pulsing := some 0 } }) [(Reg.SAFE_OUT_CFG_STIPPLE_EN,
      31, 1)], 0, by dsimp only; decide +kernel⟩

theorem witness_StippleAndFeedback_5 : ∃ (s : State) (i : Nat),
    let k := storeGet s.safe.failed i 0 + 1
    i < 32 ∧ s.safe.pulsing = some i ∧ bitAt s.safe.disc i = false ∧ 4 ≤ k :=
  ⟨{ park with safe := { State.reset.safe with high := 2147483649, pulsing := some 31, changed := [(31, 1000000200)], failed := [(31, 3)] } }, 31,
      by dsimp only; decide +kernel⟩

theorem witness_StippleAndFeedback_6 : ∃ (s : State) (i : Nat), i < 32 ∧ s.safeOn = false :=
  ⟨{ park with mode := .boot }, 31, by decide +kernel⟩

theorem witness_RecorderAndCapture_1 : ∃ (s : State) (code : Nat) (rc : Record), s.slotsHeld = false ∧ storeFind s.rcd.opened code = some rc
    ∧ rc.dirty = true :=
  ⟨{ park with rcd := { opened := [(5, { code := 5, kind := .hist, sev := 2, slotA := 3, slotB := 9, nextB := true, dirty := true })], slots := [(2, { code := 5, kind := .hist, sev := 2, slotA := 3, slotB := 9, nextB := true, dirty := true })] } },
      5, { code := 5, kind := .hist, sev := 2, slotA := 3, slotB := 9, nextB := true, dirty := true }, by decide +kernel⟩

theorem witness_RecorderAndCapture_2 : ∃ (s : State) (p : Path),
    let t := s.touch p
    let rates := [Reg.REC_CTL_RATE, Reg.REC_CTL_BURST, Reg.REC_CTL_INTERVAL]
    let legal := ∀ f ∈ rates, f.vmin ≤ s.get f ∧ s.get f ≤ f.vmax
    s.slotsHeld = true ∧ s.takes p 18 = true ∧ legal ∧ t.host.timeoutOwner ≠ some p ∧ t.host.phase = .idle ∧ s.flag Reg.REC_CTL_FREEZE = true
        ∧ s.rcd.pend = [] ∧ s.rcd.suppPend = [] :=
  ⟨sets ({ park with rcd := { freezeAt := 5 } }) [(Reg.REC_CTL_FREEZE, 0, 1)], .spi, by dsimp only; decide +kernel⟩

theorem witness_RecorderAndCapture_3 : ∃ (s : State) (p : Path) (free : Bool),
    let t := s.touch p
    let rates := [Reg.REC_CTL_RATE, Reg.REC_CTL_BURST, Reg.REC_CTL_INTERVAL]
    let legal := ∀ f ∈ rates, f.vmin ≤ s.get f ∧ s.get f ≤ f.vmax
    let canReplay := s.mode = .park ∧ (s.get Reg.CAP_STAT_STATE = 3 ∨ s.get Reg.CAP_STAT_STATE = 4) ∧ s.keyframe.isSome = true
          ∧ s.restarting = false ∧ (free = true → s.slotState = 3)
    s.takes p 18 = true ∧ legal ∧ t.host.timeoutOwner ≠ some p ∧ t.host.phase = .idle ∧ s.flag Reg.REC_CTL_FREEZE = false ∧ s.takes p 20 = true
        ∧ (s.get Reg.CAP_CFG_CAP_SIZE = 0 ∨ s.mode = .replay) ∧ s.get Reg.CAP_STAT_STATE ≠ 1 ∧ ¬ canReplay ∧ s.mode ≠ .replay
        ∧ (s.get Reg.CAP_STAT_STATE ≠ 2 ∨ s.cap.postLeft ≠ 0) ∧ s.replayDone = false :=
  ⟨park, .spi, false, by dsimp only; decide +kernel⟩

theorem witness_RecorderAndCapture_4 : ∃ (s : State) (p : Path),
    let t := s.touch p
    let rates := [Reg.REC_CTL_RATE, Reg.REC_CTL_BURST, Reg.REC_CTL_INTERVAL]
    let legal := ∀ f ∈ rates, f.vmin ≤ s.get f ∧ s.get f ≤ f.vmax
    s.takes p 18 = true ∧ legal ∧ t.host.timeoutOwner ≠ some p ∧ (t.host.phase = .pendingTxn ∨ t.host.phase = .openTxn ∧ t.host.owner ≠ p) :=
  ⟨{ park with host := { phase := .openTxn, owner := .spi, staged := [{ addr := 0x058004, index := 0, value := 0 }], lastAccess := 999999999 } }, .omp 5 6,
      by dsimp only; decide +kernel⟩

theorem witness_RecorderAndCapture_5 : ∃ (s : State) (p : Path),
    let t := s.touch p
    let rates := [Reg.REC_CTL_RATE, Reg.REC_CTL_BURST, Reg.REC_CTL_INTERVAL]
    let legal := ∀ f ∈ rates, f.vmin ≤ s.get f ∧ s.get f ≤ f.vmax
    s.takes p 18 = true ∧ legal ∧ t.host.timeoutOwner = some p :=
  ⟨{ park with host := { timeoutOwner := some .spi } }, .spi, by dsimp only; decide +kernel⟩

theorem witness_RecorderAndCapture_6 : ∃ (s : State) (p : Path), s.takes p 20 = true ∧ s.get Reg.CAP_CFG_CAP_SIZE ≠ 0 ∧ s.mode ≠ .replay :=
  ⟨sets park [(Reg.CAP_CFG_CAP_SIZE, 0, 3)], .spi, by decide +kernel⟩

theorem witness_RecorderAndCapture_7 : ∃ (s : State) (p : Path), s.takes p 20 = true ∧ s.get Reg.CAP_STAT_STATE = 1 :=
  ⟨sets ({ park with cap := { entries := [{ type := 5, source := 0, cycle := 5, stamp := 5, len := 3 }] } }) [(Reg.CAP_CFG_CAP_SIZE, 0, 3),
      (Reg.CAP_STAT_STATE, 0, 1)], .spi, by decide +kernel⟩

theorem witness_RecorderAndCapture_8 : ∃ (s : State) (p : Path) (free : Bool),
    let canReplay := s.mode = .park ∧ (s.get Reg.CAP_STAT_STATE = 3 ∨ s.get Reg.CAP_STAT_STATE = 4) ∧ s.keyframe.isSome = true
          ∧ s.restarting = false ∧ (free = true → s.slotState = 3)
    s.takes p 20 = true ∧ canReplay :=
  ⟨sets ({ park with cap := { entries := [{ type := 5, source := 0, cycle := 5, stamp := 5, len := 3 }] } }) [(Reg.CAP_CFG_CAP_SIZE, 0, 3),
      (Reg.CAP_STAT_STATE, 0, 3)], .spi, false, by dsimp only; decide +kernel⟩

theorem witness_RecorderAndCapture_9 : ∃ (s : State) (p : Path), s.takes p 20 = true ∧ s.mode = .replay ∧ s.replayDone = true :=
  ⟨{ park with mode := .replay, cap := { entries := [{ type := 5, source := 0, cycle := 5, stamp := 5, len := 3 }], replayCycle := 6 } }, .spi,
      by decide +kernel⟩

theorem witness_RecorderAndCapture_10 : ∃ (s : State), s.get Reg.CAP_STAT_STATE = 2 ∧ s.cap.postLeft = 0 :=
  ⟨sets ({ park with cap := { entries := [{ type := 5, source := 0, cycle := 5, stamp := 5, len := 3 }] } }) [(Reg.CAP_CFG_CAP_SIZE, 0, 3),
      (Reg.CAP_STAT_STATE, 0, 2)], by decide +kernel⟩

end Sys2Proof.Tests
end

section
/-! What a command can change of the queue, the variant, the grade, the fuse bank, the mode, the phase and the cycle count (`State.core`,
`State.kept`), said once for the dispatcher `exec` from the laws of the operations; and the statement on the queue (O3). -/

namespace Sys2Proof.Proofs
open Sys2Proof Sys2Proof.Machine Sys2Proof.Laws

/-- What holds of the state that a command completes with holds of the next state that `exec` answers. -/
theorem of_completes {c : Instr} {s t : State} {P : State → Prop} (hc : Completes c s P) (h : exec c s = .next t) : P t := by
  obtain ⟨u, hu, hP⟩ := hc
  rw [h] at hu
  cases hu
  exact hP

/-- Each pump instruction is one of the shared operations of chapter 04, grouped here as they share them. -/
theorem pump_completes_core {c : Instr} {s : State} (hp : c.isPump = true) : Completes c s fun u => u.core = s.core := by
  cases c with
  | ldb | ldbn | andb | andbn | orb | orbn | xorb | xorbn => exact ⟨_, rfl, opBit_core ..⟩
  | setb | clrb | outb | outbn => exact ⟨_, rfl, opBitWrite_core ..⟩
  | andq | andnq | ldq => exact ⟨_, rfl, opGood_core ..⟩
  | notba | setba | clrba => exact ⟨_, rfl, opBa_core ..⟩
  | ldc | andc | orc => exact ⟨_, rfl, opCond_core ..⟩
  | nest => exact ⟨_, rfl, opNest_core ..⟩
  | joina | joinan | joino | joinon | joinx | joinxn => exact ⟨_, rfl, opJoin_core ..⟩
  | rise | fall => exact ⟨_, rfl, opEdge_core ..⟩
  | ld => exact ⟨_, rfl, opLd_core ..⟩
  | st => exact ⟨_, rfl, opSt_core ..⟩
  | add | sub | mul | div | divu | mod => exact ⟨_, rfl, opInt_core ..⟩
  | andw | orw | xorw | shl | shr | sar => exact ⟨_, rfl, opLog_core ..⟩
  | cmp | cmpu | fcmp => exact ⟨_, rfl, runWord_core ..⟩
  | neg | abs => exact ⟨_, rfl, opInt1_core ..⟩
  | fadd | fsub | fmul | fmin | fmax => exact ⟨_, rfl, opFlt_core ..⟩
  | fdiv => exact ⟨_, rfl, opFdiv_core ..⟩
  | fneg | fabs | fsqrt => exact ⟨_, rfl, opFlt1_core ..⟩
  | itf | utf => exact ⟨_, rfl, opItof_core ..⟩
  | fti | ftu => exact ⟨_, rfl, opFtoi_core ..⟩
  | ton | tof | tp => exact ⟨_, rfl, opTimer_core ..⟩
  | ctu => exact ⟨_, rfl, opCtu_core ..⟩
  | ctd => exact ⟨_, rfl, opCtd_core ..⟩
  | ctud => exact ⟨_, rfl, opCtud_core ..⟩
  | crst | cld => exact ⟨_, rfl, opSetCv_core ..⟩
  | jc => exact ⟨_, rfl, opJc_core ..⟩
  | call => exact ⟨_, rfl, opCall_core ..⟩
  | bmov => exact ⟨_, rfl, opBmov_core ..⟩
  | bmovx => exact ⟨_, rfl, opBmovx_core ..⟩
  | swap | ldcyc | ldtask | nop => exact ⟨_, rfl, runProc_core ..⟩
  | loopreq =>
    refine ⟨_, rfl, runInstr_core _ _ _ _ fun p u => ?_⟩
    rw [flowCore_cont]
    split
    · exact storeValue_core ..
    · rfl
  | instructionFault => exact ⟨_, rfl, runInstr_core _ _ _ _ fun _ u => flowCore_illegal u⟩
  | _ => cases hp

/-- The rows that can change the mode, the phase of the cycle, the pump cycle count or the fuses: those of the cycle's instants, of resets,
power and wakes, the end of a replay, and the end of a fuse operation. -/
def movesCore : Instr → Bool
  | .pumpBoundary .. | .inputWindowClose .. | .outputReserveInstant .. | .plateSwap | .plateRevertApply | .restartCyclesEnd | .proofApply
  | .powerOn | .brownOut | .resetNLow .. | .serviceWatchdogExpiry | .bootDone | .sleepEnter | .wakeNEdge | .caseOpenDetect | .backupEnter
  | .replayComplete | .fuseOpDone => true
  | _ => false

/-- The rows over a host path share the operations of a command, a word, a read and a window; every other row is one operation, with a law
tagged `simp` in Laws/. BOOT_ROM_DONE, which can be refused (R385), is left out. -/
theorem completes_core {c : Instr} {s : State} (hm : movesCore c = false)
    (hb : ∀ straps ok trip, c ≠ .bootRomDone straps ok trip) :
    Completes c s fun u => u.core = s.core := by
  cases hp : c.isPump with
  | true => exact pump_completes_core hp
  | false =>
    cases c with
    | txnBegin | txnCommit | txnRollback | imgSave | warmRestart | coldRestart | plateLoad | plateVerify | plateArm | plateRevert
    | plateCommit | plateAbort | plateInstall | forceClrAll | stnRelease | tsuStep | uartTxSend | originSet | obsReinit | calSave
    | calReset | chanCalReset | datumSet | hatchLoad | hatchVerify | hatchStore | hatchErase | hatchAbort | redRelease | redJoin
    | redProofTest | redIsolate | safeTripReset | safeDiscReset | clrHold | pwrRun | pwrPark | pwrSleep | recFreezeSet | capStart
    | capStop | capReplay | capReplayEnd | secFuseArm | programSlot | revokeSlot | advanceRollback | dbgOff | imgLoad | imgVerify
    | imgActivate | imgAbort => exact ⟨_, rfl, hostCmd_core ..⟩
    | registerWrite | sysLockWrite | mdioFrame => exact ⟨_, rfl, hostWord_core ..⟩
    | pointWrite => exact ⟨_, rfl, hostPoint_core ..⟩
    | tsuTimeLoRead | keepTickLoRead | rngRead => exact ⟨_, rfl, hostRead_core ..⟩
    | tsqRead | dinEdgeRead => exact ⟨_, rfl, hostUnit_core ..⟩
    | plateLoadWindowWrite | hatchLoadWindowWrite | imgLoadWindowWrite => exact ⟨_, rfl, hostWindow_core ..⟩
    | ompRead r => exact ⟨_, rfl, ompServe_core _ _ _ _ (ompReadRun_core s r)⟩
    | ompWrite r => exact ⟨_, rfl, ompServe_core _ _ _ _ (ompWriteRun_core s r)⟩
    | spiRead | spiWrite | spiUnknownCommand | calSavePeriodic => exact ⟨_, rfl, by simp [core_ite]⟩
    | uartTxDone => exact ⟨_, rfl, rfl⟩
    | bootRomDone straps ok trip => exact absurd rfl (hb straps ok trip)
    | _ => -- a row of `movesCore` contradicts `hm`, a pump row `hp`
      cases hm <;> cases hp <;> exact ⟨_, rfl, by simp⟩

/-- The rows of `movesCore` one by one, through the laws of their operations; BOOT_ROM_DONE where it is not refused (R385); every other
row keeps the whole core. -/
theorem exec_kept {c : Instr} {s t : State} (h : exec c s = .next t) : s.kept t := by
  cases c with
  | pumpBoundary upsets => cases h; exact boundary_kept s upsets
  | inputWindowClose => cases h; exact kept_of_base (windowClose_base ..)
  | outputReserveInstant => cases h; exact reserveInstant_kept ..
  | plateSwap => cases h; exact kept_of_base (plateSwap_base s)
  | plateRevertApply => cases h; exact kept_of_base (plateRevertApply_base s)
  | restartCyclesEnd => cases h; exact restartEnd_kept s
  | proofApply => cases h; exact kept_of_base (proofApply_base s)
  | powerOn => cases h; exact powerOn_kept s
  | brownOut => cases h; exact brownOut_kept s
  | resetNLow ns => cases h; exact resetN_kept s ns
  | serviceWatchdogExpiry => cases h; exact watchdog_kept s
  | bootDone => cases h; exact kept_of_base (bootDone_base s)
  | sleepEnter => cases h; exact kept_of_base (sleepEnter_base s)
  | wakeNEdge => cases h; exact wakeN_kept s
  | caseOpenDetect => cases h; exact caseDetect_kept s
  | backupEnter => cases h; exact backupEnter_kept s
  | replayComplete => cases h; exact kept_of_base (replayComplete_base s)
  | fuseOpDone => cases h; exact fuseDone_kept s
  | bootRomDone straps ok trip =>
    change execBootRomDone straps ok trip s = .next t at h
    unfold execBootRomDone at h
    split at h
    · cases h
    · cases h; exact kept_of_core (bootRom_core ..)
  | _ => exact kept_of_core (of_completes (completes_core rfl (by simp)) h)

/-- Settles O3: every command keeps what `State.kept` names, of which queue, variant and grade are the first three parts. -/
theorem queueKept : Obligations.QueueKept := by
  intro c s t h
  obtain ⟨hpending, hvariant, hgrade, -⟩ := exec_kept h
  exact ⟨hpending, hvariant, hgrade⟩

end Sys2Proof.Proofs
end

section
/-! Time on an empty queue, and the statement on it (O2). -/

namespace Sys2Proof.Proofs
open Sys2Proof Sys2Proof.Machine Sys2Proof.Laws

/-- The time that passes on an empty queue: 1 µs, in a state with pump boundaries at most what is left to the next one. -/
theorem tick_now (s : State) :
    s.tick.now = s.now + if s.running = true ∨ s.mode = .done then min 1000 (s.nextBnd - s.now) else 1000 := by
  simp only [State.tick, Bool.or_eq_true, decide_eq_true_eq]
  split <;> rfl

/-- Settles O2: a step on an empty queue is `State.tick`. -/
theorem stepIdles : Obligations.StepIdles := by
  intro s hq
  refine ⟨s.tick, by rw [step, hq], tick_core s, ?_, ?_, ?_⟩
  · rw [tick_now]; omega
  · rw [tick_now]; split <;> omega
  · intro hrun hle
    rw [tick_now, if_pos (.inl hrun)]
    omega

end Sys2Proof.Proofs
end

section
/-! Recording an event leaves the redundancy block alone, and what follows a change of HEALTH leaves its causes there alone (R342, R343). -/

namespace Sys2Proof.Proofs
open Sys2Proof Sys2Proof.Machine Sys2Proof.Laws

@[simp] theorem closeRecord_red (s : State) (c : Nat) : (s.closeRecord c).red = s.red := by
  unfold State.closeRecord
  split <;> rfl

@[simp] theorem closeIfDue_red (s : State) (c v t : Nat) (b : Bool) : (s.closeIfDue c v t b).red = s.red := by
  unfold State.closeIfDue
  (repeat' split) <;> simp

theorem openRecord_red {s u : State} {c v t : Nat} (h : s.openRecord c v t = some u) : u.red = s.red := by
  obtain ⟨_, -, rfl⟩ := Option.map_eq_some_iff.1 h
  rfl

/-- The record that an event is merged into: the open one of its code, or one opened for it. -/
theorem openedRecord_red {s u : State} {o : Option Record} {c v t : Nat}
    (h : (match o with | some _ => some s | none => s.openRecord c v t) = some u) : u.red = s.red := by
  cases o with
  | some _ => cases h; rfl
  | none => exact openRecord_red h

@[simp] theorem mergeEvent_red (s : State) (c v w t : Nat) (b : Bool) : (s.mergeEvent c v w t b).red = s.red := by
  rw [← closeIfDue_red s c w t b]
  unfold State.mergeEvent
  generalize s.closeIfDue c w t b = u
  dsimp only
  split
  · rfl
  · next h =>
    have hred := openedRecord_red h
    split
    · exact hred
    · exact hred

@[simp] theorem mergeSuppressed_red (s : State) (c v k t : Nat) : (s.mergeSuppressed c v k t).red = s.red := by
  unfold State.mergeSuppressed
  dsimp only
  split
  · rfl
  · next h =>
    have hred := openedRecord_red h
    split
    · exact hred
    · exact hred

@[simp] theorem pendEvent_red (s : State) (e : PendEntry) : (s.pendEvent e).red = s.red := by
  unfold State.pendEvent
  dsimp only
  (repeat' split) <;> rfl

@[simp] theorem captureTrigger_red (s : State) (v : Nat) : (s.captureTrigger v).red = s.red := by
  unfold State.captureTrigger
  split <;> rfl

@[simp] theorem raiseWith_red (s : State) (c v : Nat) : (s.raiseWith c v).red = s.red := by
  unfold State.raiseWith
  dsimp only
  (repeat' split) <;> simp

@[simp] theorem raise_red (s : State) (c : Nat) : (s.raise c).red = s.red := raiseWith_red ..

@[simp] theorem sendClaim_paceLow (s : State) : s.sendClaim.red.paceLow = s.red.paceLow := by
  unfold State.sendClaim
  split <;> rfl

@[simp] theorem releaseDecide_paceLow (s : State) : s.releaseDecide.red.paceLow = s.red.paceLow := by
  unfold State.releaseDecide State.release
  (repeat' split) <;> simp

@[simp] theorem healthCheck_paceLow (s : State) : s.healthCheck.red.paceLow = s.red.paceLow := by
  unfold State.healthCheck State.claimUpdate
  split <;> simp

end Sys2Proof.Proofs
end

section
/-! Time passed up to an instant, and what the power manager's steps on pace and temperature can change (R31 to R33, R342, R469); the statement
on pace and heat (O30). -/

namespace Sys2Proof.Proofs
open Sys2Proof Sys2Proof.Machine Sys2Proof.Laws

theorem waitUntil_reaches (s : State) (t : Nat) : t ≤ (s.waitUntil t).up := by
  simp only [State.waitUntil]
  omega

theorem fieldsBut_mono {ks ls : List Nat} {s u : State} (h : FieldsBut ks s u) (hsub : ks ⊆ ls) : FieldsBut ls s u :=
  fun f i hk hq => h f i (fun hmem => hk (hsub hmem)) hq

theorem fieldsBut_of_regs {ks : List Nat} {s v u : State} (hregs : v.regs = s.regs) (h : FieldsBut ks v u) : FieldsBut ks s u :=
  fieldsBut_trans (fieldsBut_regs hregs) h

/-- From s to u nothing changed but the power manager, the fields of these keys, and what recording an event or a change of HEALTH may
change. -/
def PwrOnly (keys : List Nat) (s u : State) : Prop := FieldsBut keys s u ∧ { u.quietRest with pwr := s.pwr } = s.quietRest

theorem pwrOnly_trans {ks : List Nat} {a b c : State} (h : PwrOnly ks a b) (g : PwrOnly ks b c) : PwrOnly ks a c := by
  refine ⟨fieldsBut_trans h.1 g.1, ?_⟩
  rw [← h.2, ← g.2]

theorem pwrOnly_mono {ks ls : List Nat} {s u : State} (h : PwrOnly ks s u) (hsub : ks ⊆ ls) : PwrOnly ls s u :=
  ⟨fieldsBut_mono h.1 hsub, h.2⟩

theorem pwrOnly_quiet {ks : List Nat} {s u : State} (h : Quiet s u) : PwrOnly ks s u :=
  ⟨fieldsBut_quiet h, by rw [h.1]; rfl⟩

theorem pwrOnly_refl (ks : List Nat) (s : State) : PwrOnly ks s s := pwrOnly_quiet (quiet_refl s)

theorem pwrOnly_set {ks : List Nat} (s : State) (f : Fld) (v : Nat) (h : f.key 0 ∈ ks) : PwrOnly ks s (s.set f v) :=
  ⟨fieldsBut_set s f v 0 h, rfl⟩

theorem pwrOnly_setFlag {ks : List Nat} (s : State) (f : Fld) (b : Bool) (h : f.key 0 ∈ ks) : PwrOnly ks s (s.setFlag f b) :=
  pwrOnly_set s f _ h

theorem pwrOnly_pwr (ks : List Nat) (s : State) (p : PowerState) (r : RedState) : PwrOnly ks s { s with pwr := p, red := r } :=
  ⟨fieldsBut_regs rfl, rfl⟩

/-- The voltage that R32 steps to from v at pace p, with PACE_FLOOR and PACE_MARGIN as they stand. -/
def vcoreTarget (s : State) (p v : Nat) : Nat :=
  let floor := s.get Reg.PWR_PACE_CTL_PACE_FLOOR
  let margin := s.get Reg.PWR_PACE_CTL_PACE_MARGIN
  if p < floor + margin ∧ v < 900 then v + 5 else if floor + 2 * margin < p ∧ 700 < v then v - 5 else v

/-- VCORE_STEP (R32): towards `vcoreTarget`, where the last step lies a millisecond back. -/
theorem vcoreStep_eq (s : State) {v w : Nat} (hv : s.get Reg.PWR_PACE_STAT_VCORE_MV = v)
    (hw : vcoreTarget s (s.get Reg.PWR_PACE_STAT_PACE) v = w) :
    s.vcoreStep = if w ≠ v ∧ s.pwr.lastVcoreStep ≤ s.up then
      (({ s with pwr := { s.pwr with lastVcoreStep := s.up + 1000000 } }).set Reg.PWR_PACE_STAT_VCORE_MV w).setFlag
        Reg.PWR_PACE_STAT_AT_VMAX (decide (w = 900)) else s := by
  subst hv hw
  rfl

theorem vcoreStep_pwrOnly (s : State) :
    PwrOnly [Reg.PWR_PACE_STAT_VCORE_MV.key 0, Reg.PWR_PACE_STAT_AT_VMAX.key 0] s s.vcoreStep := by
  rw [vcoreStep_eq s rfl rfl]
  split
  · refine pwrOnly_trans (pwrOnly_trans (pwrOnly_pwr _ s _ s.red) (pwrOnly_set _ Reg.PWR_PACE_STAT_VCORE_MV _ ?_))
      (pwrOnly_setFlag _ Reg.PWR_PACE_STAT_AT_VMAX _ ?_)
    · simp
    · simp
  · exact pwrOnly_refl _ s

theorem vcoreStep_vcore (s : State) {v w : Nat} (hv : s.get Reg.PWR_PACE_STAT_VCORE_MV = v)
    (hw : vcoreTarget s (s.get Reg.PWR_PACE_STAT_PACE) v = w) :
    s.vcoreStep.get Reg.PWR_PACE_STAT_VCORE_MV =
      if w ≠ v ∧ s.pwr.lastVcoreStep ≤ s.up then w % 2 ^ Reg.PWR_PACE_STAT_VCORE_MV.width else v := by
  rw [vcoreStep_eq s hv hw]
  split
  · rw [get_setFlag_other _ _ _ _ _ _ (by decide), get_set_same]
  · exact hv

theorem paceLowCheck_pwrOnly (s : State) : PwrOnly [Reg.PWR_PACE_STAT_PACE_LOW.key 0] s s.paceLowCheck := by
  unfold State.paceLowCheck
  split
  · split
    · exact pwrOnly_refl _ s
    · exact pwrOnly_trans (pwrOnly_setFlag s _ _ (List.mem_singleton_self _)) (pwrOnly_quiet (raise_quiet _ _))
  · exact pwrOnly_refl _ s

theorem paceWatch_pwrOnly (s : State) : PwrOnly [] s s.paceWatch :=
  pwrOnly_trans (pwrOnly_pwr _ s _ _) (pwrOnly_quiet (healthCheck_quiet _))

/-- What the pace manager does once the pace index stands: VCORE, PACE_LOW, HEALTH and the sample of its code (R32, R33, R342). -/
def paceFollow (s : State) (sample : Nat) : State := ((s.vcoreStep.paceLowCheck).paceWatch).sample 0x03F0 sample

/-- After VCORE_STEP only PACE_LOW is written of the fields of this block. -/
theorem paceFollow_pwrOnly_vcoreStep (s : State) (x : Nat) :
    PwrOnly [Reg.PWR_PACE_STAT_PACE_LOW.key 0] s.vcoreStep (paceFollow s x) :=
  pwrOnly_trans (paceLowCheck_pwrOnly _)
    (pwrOnly_trans (pwrOnly_mono (paceWatch_pwrOnly _) (List.nil_subset _)) (pwrOnly_quiet (sample_quiet _ _ _)))

theorem paceFollow_pwrOnly (s : State) (x : Nat) :
    PwrOnly [Reg.PWR_PACE_STAT_VCORE_MV.key 0, Reg.PWR_PACE_STAT_AT_VMAX.key 0, Reg.PWR_PACE_STAT_PACE_LOW.key 0] s
      (paceFollow s x) :=
  pwrOnly_trans (pwrOnly_mono (vcoreStep_pwrOnly s) (by simp)) (pwrOnly_mono (paceFollow_pwrOnly_vcoreStep s x) (by simp))

theorem pwrOnly_up {ks : List Nat} {s u : State} (h : PwrOnly ks s u) : u.up = s.up := by
  have hup := congrArg State.up h.2
  exact hup

/-- The frame of a row that lets time pass before the power manager acts. -/
theorem quietRest_of_waited {ks : List Nat} {s u : State} {t : Nat} {p : PowerState} (h : PwrOnly ks { s.waitUntil t with pwr := p } u) :
    { u.quietRest with pwr := s.pwr, now := s.now, up := s.up, slew := s.slew, keep := s.keep } = s.quietRest := by
  have hrest := congrArg (fun r : State => { r with pwr := s.pwr, now := s.now, up := s.up, slew := s.slew, keep := s.keep }) h.2
  exact hrest

/-- The frame of a row that lets time pass before an event is recorded. -/
theorem quietRest_of_waited_quiet {s v u : State} (t : Nat) (hv : v.quietRest = (s.waitUntil t).quietRest) (h : Quiet v u) :
    { u.quietRest with now := s.now, up := s.up, slew := s.slew, keep := s.keep } = s.quietRest := by
  rw [h.1, hv]
  rfl

/-- The state in which PACE_UPDATE sets the pace index: 100 µs after the update before (R31). -/
def paceDue (s : State) : State :=
  { s.waitUntil (s.pwr.paceAt + 100000) with pwr := { s.pwr with paceAt := (s.waitUntil (s.pwr.paceAt + 100000)).up } }

theorem paceUpdate_eq {s : State} (hp : s.powered = true) (x : Nat) (rs : List Nat) :
    s.paceUpdate (x :: rs) = paceFollow ((paceDue s).set Reg.PWR_PACE_STAT_PACE (min (rs.foldl min x) 511))
      (pace32 (min (rs.foldl min x) 511)).toNat := by
  unfold State.paceUpdate
  rw [hp]
  rfl

/-- The index fits its field of 9 bits. -/
theorem pace_fits (p : Nat) : min p 511 % 2 ^ Reg.PWR_PACE_STAT_PACE.width = min p 511 :=
  Nat.mod_eq_of_lt (show min p 511 < 512 by omega)

theorem paceUpdate_pwrOnly {s : State} (hp : s.powered = true) (x : Nat) (rs : List Nat) :
    PwrOnly [Reg.PWR_PACE_STAT_PACE.key 0, Reg.PWR_PACE_STAT_VCORE_MV.key 0, Reg.PWR_PACE_STAT_AT_VMAX.key 0,
      Reg.PWR_PACE_STAT_PACE_LOW.key 0] (paceDue s) (s.paceUpdate (x :: rs)) := by
  rw [paceUpdate_eq hp]
  exact pwrOnly_trans (pwrOnly_set _ Reg.PWR_PACE_STAT_PACE _ (by simp)) (pwrOnly_mono (paceFollow_pwrOnly _ _) (by simp))

theorem paceUpdate_pace {s : State} (hp : s.powered = true) (x : Nat) (rs : List Nat) :
    (s.paceUpdate (x :: rs)).get Reg.PWR_PACE_STAT_PACE = min (rs.foldl min x) 511 := by
  rw [paceUpdate_eq hp, (paceFollow_pwrOnly _ _).1 _ _ (by decide) (by decide), get_set_same, pace_fits]

/-- VCORE after PACE_UPDATE: towards the target at the new pace, where the last step lies a millisecond back (R32). -/
theorem paceUpdate_vcore {s : State} (hp : s.powered = true) (x : Nat) (rs : List Nat) {v w : Nat}
    (hv : s.get Reg.PWR_PACE_STAT_VCORE_MV = v) (hw : vcoreTarget s (min (rs.foldl min x) 511) v = w) :
    (s.paceUpdate (x :: rs)).get Reg.PWR_PACE_STAT_VCORE_MV =
      if w ≠ v ∧ s.pwr.lastVcoreStep ≤ (s.paceUpdate (x :: rs)).up then w % 2 ^ Reg.PWR_PACE_STAT_VCORE_MV.width else v := by
  have hup := pwrOnly_up (paceUpdate_pwrOnly hp x rs)
  rw [hup, paceUpdate_eq hp, (paceFollow_pwrOnly_vcoreStep _ _).1 _ _ (by decide) (by decide)]
  refine vcoreStep_vcore _ ?_ ?_
  · rw [get_set_other _ _ _ _ _ _ (by decide)]
    exact hv
  · rw [get_set_same, pace_fits, ← hw]
    unfold vcoreTarget
    rw [get_set_other _ _ _ _ _ _ (by decide), get_set_other _ _ _ _ _ _ (by decide)]
    rfl

theorem tempCount_pwrOnly (s : State) (tj : Int) : PwrOnly [] s (s.tempCount tj) := by
  unfold State.tempCount
  split
  · exact pwrOnly_pwr _ s _ s.red
  · exact pwrOnly_pwr _ s _ s.red

theorem overtempEnd_pwrOnly (s : State) : PwrOnly [Reg.PWR_TEMP_STAT_OVERTEMP.key 0] s s.overtempEnd :=
  pwrOnly_trans (pwrOnly_setFlag s _ false (List.mem_singleton_self _))
    (pwrOnly_quiet (quiet_trans (raise_quiet _ _) (healthCheck_quiet _)))

theorem overtempEnd_flag (s : State) : s.overtempEnd.flag Reg.PWR_TEMP_STAT_OVERTEMP = false := by
  rw [State.overtempEnd, Quiet.flag (healthCheck_quiet _) _ _ (by decide), Quiet.flag (raise_quiet _ _) _ _ (by decide),
    flag_setFlag_same _ _ _ _ (by decide)]

theorem overtempCheck_pwrOnly (s : State) : PwrOnly [Reg.PWR_TEMP_STAT_OVERTEMP.key 0] s s.overtempCheck := by
  unfold State.overtempCheck
  split
  · split
    · split
      · exact overtempEnd_pwrOnly s
      · exact pwrOnly_refl _ s
    · exact pwrOnly_refl _ s
  · split
    · exact pwrOnly_trans (pwrOnly_setFlag s _ true (List.mem_singleton_self _))
        (pwrOnly_quiet (quiet_trans (raise_quiet _ _) (healthCheck_quiet _)))
    · exact pwrOnly_refl _ s

/-- The readings that TEMP_SAMPLE shows: the temperature, its die, and the highest one so far. -/
def tempShown (s : State) (tj : Int) (die : Nat) : State :=
  ((s.set Reg.PWR_TEMP_STAT_TJ (tempField tj)).set Reg.PWR_TEMP_STAT_HOTTEST die).set Reg.PWR_TEMP_STAT_TJ_MAX
    (tempField (max (sext 10 (s.get Reg.PWR_TEMP_STAT_TJ_MAX)) tj))

theorem tempShown_pwrOnly (s : State) (tj : Int) (die : Nat) :
    PwrOnly [Reg.PWR_TEMP_STAT_TJ.key 0, Reg.PWR_TEMP_STAT_HOTTEST.key 0, Reg.PWR_TEMP_STAT_TJ_MAX.key 0] s (tempShown s tj die) :=
  pwrOnly_trans (pwrOnly_trans (pwrOnly_set _ Reg.PWR_TEMP_STAT_TJ _ (by simp)) (pwrOnly_set _ Reg.PWR_TEMP_STAT_HOTTEST _ (by simp)))
    (pwrOnly_set _ Reg.PWR_TEMP_STAT_TJ_MAX _ (by simp))

/-- Once its readings stand, TEMP_SAMPLE writes OVERTEMP alone of the fields of this block. -/
theorem tempSample_pwrOnly_shown {s : State} (hp : s.powered = true) (tj : Int) (die : Nat) :
    PwrOnly [Reg.PWR_TEMP_STAT_OVERTEMP.key 0] (tempShown s tj die) (s.tempSample tj die) := by
  unfold State.tempSample
  rw [if_pos hp]
  exact pwrOnly_trans (pwrOnly_quiet (sample_quiet _ _ _))
    (pwrOnly_trans (pwrOnly_mono (tempCount_pwrOnly _ tj) (List.nil_subset _)) (overtempCheck_pwrOnly _))

theorem tempField_fits (tj : Int) : tempField tj % 2 ^ 10 = (tj % 1024).toNat := by
  unfold tempField
  omega

theorem tempSample_tj {s : State} (hp : s.powered = true) (tj : Int) (die : Nat) :
    (s.tempSample tj die).get Reg.PWR_TEMP_STAT_TJ = (tj % 1024).toNat := by
  rw [(tempSample_pwrOnly_shown hp tj die).1 _ _ (by decide) (by decide), tempShown, get_set_other _ _ _ _ _ _ (by decide),
    get_set_other _ _ _ _ _ _ (by decide), get_set_same]
  exact tempField_fits tj

theorem tempSample_hottest {s : State} (hp : s.powered = true) (tj : Int) (die : Nat) :
    (s.tempSample tj die).get Reg.PWR_TEMP_STAT_HOTTEST = die % 2 ^ Reg.PWR_TEMP_STAT_HOTTEST.width := by
  rw [(tempSample_pwrOnly_shown hp tj die).1 _ _ (by decide) (by decide), tempShown, get_set_other _ _ _ _ _ _ (by decide), get_set_same]

theorem tempSample_tjMax {s : State} (hp : s.powered = true) (tj : Int) (die : Nat) :
    (s.tempSample tj die).get Reg.PWR_TEMP_STAT_TJ_MAX = (max (sext 10 (s.get Reg.PWR_TEMP_STAT_TJ_MAX)) tj % 1024).toNat := by
  rw [(tempSample_pwrOnly_shown hp tj die).1 _ _ (by decide) (by decide), tempShown, get_set_same]
  exact tempField_fits _

/-- PACE_HEALTH_LOSS as its steps: the wait, the cause, what follows a change of HEALTH (R33, R342). -/
theorem paceHealthLoss_eq {s : State} {t : Nat} (ht : s.pwr.paceLowSince = some t) :
    s.paceHealthLoss =
      ({ s.waitUntil (t + 100000000) with red := { (s.waitUntil (t + 100000000)).red with paceLow := true } }).healthCheck := by
  unfold State.paceHealthLoss
  rw [ht]

theorem overtempClear_eq {s : State} {t : Nat} (ht : s.pwr.coolSince = some t) (hot : s.flag Reg.PWR_TEMP_STAT_OVERTEMP = true) :
    s.overtempClear = (s.waitUntil (t + 60000000000)).overtempEnd := by
  unfold State.overtempClear
  rw [ht]
  exact if_pos hot

/-- Settles O30, row by row: each one's fields and frame follow from `PwrOnly` of its steps. -/
theorem paceAndHeat : Obligations.PaceAndHeat := by
  intro s x die rs tj
  refine ⟨fun hp => ⟨_, rfl, ?_⟩, fun t ht => ⟨_, rfl, ?_⟩, fun hp => ⟨_, rfl, ?_⟩, fun t ht hot => ⟨_, rfl, ?_⟩⟩
  · have honly := paceUpdate_pwrOnly hp x rs
    refine ⟨?_, paceUpdate_pace hp x rs, paceUpdate_vcore hp x rs rfl rfl, fieldsBut_of_regs rfl honly.1, quietRest_of_waited honly⟩
    rw [pwrOnly_up honly]
    exact waitUntil_reaches s _
  · rw [paceHealthLoss_eq ht]
    refine ⟨healthCheck_paceLow _, ?_, fieldsBut_of_regs ?_ (fieldsBut_quiet (healthCheck_quiet _)),
      quietRest_of_waited_quiet (t + 100000000) ?_ (healthCheck_quiet _)⟩
    · rw [healthCheck_up]
      exact waitUntil_reaches s _
    · rfl
    · rfl
  · have honly : PwrOnly _ s (s.tempSample tj die) :=
      pwrOnly_trans (pwrOnly_mono (tempShown_pwrOnly s tj die) (List.subset_append_left _ _))
        (pwrOnly_mono (tempSample_pwrOnly_shown hp tj die) (List.subset_append_right _ _))
    exact ⟨tempSample_tj hp tj die, tempSample_hottest hp tj die, tempSample_tjMax hp tj die, honly.1, honly.2⟩
  · rw [overtempClear_eq ht hot]
    have honly := overtempEnd_pwrOnly (s.waitUntil (t + 60000000000))
    refine ⟨overtempEnd_flag _, ?_, fieldsBut_of_regs rfl honly.1,
      quietRest_of_waited_quiet (t + 60000000000) ?_ (quiet_trans (raise_quiet _ _) (healthCheck_quiet _))⟩
    · rw [pwrOnly_up honly]
      exact waitUntil_reaches s _
    · rfl

end Sys2Proof.Proofs
end

section
/-! What writes of points, the frames of the station link and the following of a lane leave alone (R148, R158, R161, R358). -/

namespace Sys2Proof.Proofs
open Sys2Proof Sys2Proof.Machine Sys2Proof.Laws

/-! ## Points -/

/-- From s to u only points were written, and what such a write marks beside them (R76, R246, R274). -/
def PointsOnly (s u : State) : Prop :=
  { u with points := s.points, mirror := s.mirror, loops := s.loops, alloc := s.alloc } = s

theorem pointsOnly_refl (s : State) : PointsOnly s s := rfl

theorem pointsOnly_trans {a b c : State} (h : PointsOnly a b) (g : PointsOnly b c) : PointsOnly a c := by
  unfold PointsOnly at *
  rw [← h, ← g]

theorem pointsOnly_setPoint (s : State) (p : Nat) (r : Point) : PointsOnly s (s.setPoint p r) := rfl

theorem pointsOnly_deliver (s : State) (p : Nat) (v : Word) (q : Byte) : PointsOnly s (s.deliver p v q) := by
  unfold State.deliver
  split
  · exact pointsOnly_setPoint ..
  · exact pointsOnly_refl s

section
variable {s u : State} (h : PointsOnly s u)
include h

theorem pointsOnly_localOutBase : u.localOutBase = s.localOutBase := by
  have heq := congrArg State.localOutBase h
  exact heq

theorem pointsOnly_blockWritable (p : Nat) : u.blockWritable p = s.blockWritable p := by
  have heq := congrArg (fun t : State => t.blockWritable p) h
  exact heq

theorem pointsOnly_now : u.now = s.now := by
  have heq := congrArg State.now h
  exact heq

end

theorem point_deliver_other (s : State) {p q : Nat} (v : Word) (b : Byte) (h : q ≠ p) : (s.deliver p v b).point q = s.point q := by
  unfold State.deliver
  split
  · exact point_setPoint_other s p q _ h
  · rfl

theorem value_deliver_same (s : State) {p : Nat} (v : Word) (b : Byte) (h : s.blockWritable p = true) :
    ((s.deliver p v b).point p).value = v := by
  unfold State.deliver
  rw [if_pos h, point_setPoint_same]

/-- Values delivered to the local output points of a node, from the k-th on (R358). -/
def takeOutputs (s : State) (l : List Word) (k : Nat) : State :=
  (l.zipIdx k).foldl (fun u e => u.deliver (u.localOutBase + e.2) e.1 (qual 0)) s

theorem takeOutputs_cons (s : State) (v : Word) (l : List Word) (k : Nat) :
    takeOutputs s (v :: l) k = takeOutputs (s.deliver (s.localOutBase + k) v (qual 0)) l (k + 1) := rfl

theorem takeOutputs_pointsOnly (s : State) (l : List Word) (k : Nat) : PointsOnly s (takeOutputs s l k) := by
  induction l generalizing s k with
  | nil => exact pointsOnly_refl s
  | cons v l ih => exact pointsOnly_trans (pointsOnly_deliver ..) (ih _ _)

theorem point_takeOutputs_other (s : State) (l : List Word) (k q : Nat) (h : ∀ j, j < l.length → q ≠ s.localOutBase + (k + j)) :
    (takeOutputs s l k).point q = s.point q := by
  induction l generalizing s k with
  | nil => rfl
  | cons v l ih =>
    rw [takeOutputs_cons, ih, point_deliver_other]
    · exact h 0 (Nat.zero_lt_succ _)
    · intro j hj
      rw [pointsOnly_localOutBase (pointsOnly_deliver ..), Nat.add_right_comm, Nat.add_assoc]
      exact h (j + 1) (Nat.succ_lt_succ hj)

theorem value_takeOutputs (s : State) (l : List Word) (k j : Nat) {p : Nat} {v : Word} (hp : p = s.localOutBase + (k + j))
    (hv : l[j]? = some v) (hw : s.blockWritable p = true) : ((takeOutputs s l k).point p).value = v := by
  induction l generalizing s k j with
  | nil => cases hv
  | cons x l ih =>
    have hd : PointsOnly s (s.deliver (s.localOutBase + k) x (qual 0)) := pointsOnly_deliver ..
    have hbase := pointsOnly_localOutBase hd
    rw [takeOutputs_cons]
    cases j with
    | zero =>
      cases hv
      subst hp
      rw [point_takeOutputs_other]
      · exact value_deliver_same _ _ _ hw
      · intro j _
        omega
    | succ j =>
      refine ih _ (k + 1) j (by omega) hv ?_
      rw [pointsOnly_blockWritable hd]
      exact hw

/-! ## Frames of the station link -/

/-- From s to u the part gave frames of the station link to transmit queues: but for the queues and their fill marks, the link's own record
and free numbers nothing changed. -/
def LinkSent (s u : State) : Prop :=
  { u with qm := s.qm, freeCtr := s.freeCtr, stn := s.stn, regs := s.regs } = s
    ∧ ∀ f i, (∀ q, f.key i ≠ Reg.QMGR_Q_STAT_MAX_FILL.key q) → u.get f i = s.get f i

theorem linkSent_of_regs {s u : State} (h : { u with qm := s.qm, freeCtr := s.freeCtr, stn := s.stn } = s) : LinkSent s u := by
  have hregs := congrArg State.regs h
  dsimp only at hregs
  refine ⟨?_, fun f i _ => get_of_regs hregs f i⟩
  rw [← hregs]
  exact h

theorem linkSent_refl (s : State) : LinkSent s s := linkSent_of_regs rfl

theorem linkSent_trans {a b c : State} (h : LinkSent a b) (g : LinkSent b c) : LinkSent a c := by
  refine ⟨?_, fun f i k => (g.2 f i k).trans (h.2 f i k)⟩
  rw [← h.1, ← g.1]

theorem foldl_linkSent {α : Type} (f : State → α → State) (h : ∀ s x, LinkSent s (f s x)) (l : List α) (s : State) :
    LinkSent s (l.foldl f s) := by
  induction l generalizing s with
  | nil => exact linkSent_refl s
  | cons x l ih => exact linkSent_trans (h s x) (ih _)

theorem noteFill_linkSent (s : State) (q fill : Nat) : LinkSent s (s.noteFill q fill) := by
  unfold State.noteFill
  split
  · exact ⟨rfl, fun f i h => get_set_other _ _ _ _ _ _ (h q)⟩
  · exact linkSent_refl s

theorem txStart_linkSent (s : State) (port : Nat) : LinkSent s (s.txStart port) := by
  unfold State.txStart
  split
  · exact linkSent_of_regs rfl
  · exact linkSent_refl s

theorem transmit_linkSent (s : State) (consumer : Nat) (d : TxDesc) : LinkSent s (s.transmit consumer d) := by
  unfold State.transmit
  dsimp only
  split
  · exact linkSent_refl s
  · split
    · exact linkSent_refl s
    · refine linkSent_trans (linkSent_trans (linkSent_of_regs ?_) (noteFill_linkSent ..)) (txStart_linkSent ..)
      rfl

theorem sendRing_linkSent (s : State) (claim r : Nat) : LinkSent s (s.sendRing claim r) := by
  unfold State.sendRing
  refine linkSent_trans (linkSent_of_regs ?_)
    (foldl_linkSent _ (fun _ _ => linkSent_trans (transmit_linkSent ..) (transmit_linkSent ..)) _ _)
  rfl

theorem sendFrames_linkSent (s : State) (claim : Nat) : LinkSent s (s.sendFrames claim) := by
  unfold State.sendFrames
  split
  · exact linkSent_trans (foldl_linkSent _ (fun _ _ => sendRing_linkSent ..) _ _) (linkSent_of_regs rfl)
  · exact linkSent_refl s

/-! ## Following a lane -/

/-- The slew and its measure are all that a node takes from a header (R358). -/
theorem spanFollow_frame (s : State) (f : SpanFrame) :
    { s.spanFollow f with freeCtr := s.freeCtr, slew := s.slew,
                          span := { (s.spanFollow f).span with hop := s.span.hop, upLast := s.span.upLast } } = s := by
  unfold State.spanFollow
  split
  · rfl
  · rfl

end Sys2Proof.Proofs
end

section
/-! Span frames at the root and at a node (R353 to R359); the statement on them (O57). -/

namespace Sys2Proof.Proofs
open Sys2Proof Sys2Proof.Machine Sys2Proof.Laws

theorem satInc_lt (w v : Nat) : satInc w v < 2 ^ w := by
  have hpos := Nat.two_pow_pos w
  unfold satInc
  split <;> omega

theorem get_count_same (s : State) (f : Fld) (i : Nat) : (s.count f i).get f i = satInc f.width (s.get f i) := by
  rw [State.count, get_set_same, Nat.mod_eq_of_lt (satInc_lt ..)]

theorem regsBut_count (s : State) (f : Fld) : RegsBut [f.key 0] s (s.count f) :=
  fun g i hk => get_set_other s f g _ 0 i (fun e => hk (List.mem_singleton.2 e))

/-! ## A discarded frame (R356) -/

/-- A frame is discarded: SPAN_BAD_CNT counts it, and what the span has noted of nodes stays. -/
def SpanDiscarded (s u : State) : Prop :=
  u.get Reg.SPAN_STAT_SPAN_BAD_CNT = satInc Reg.SPAN_STAT_SPAN_BAD_CNT.width (s.get Reg.SPAN_STAT_SPAN_BAD_CNT)
    ∧ RegsBut [Reg.SPAN_STAT_SPAN_BAD_CNT.key 0] s u ∧ u.span.nodes = s.span.nodes ∧ { u with regs := s.regs, span := s.span } = s

theorem spanBad_discarded (s : State) : SpanDiscarded s s.spanBad :=
  ⟨get_count_same .., regsBut_count _ _, rfl, rfl⟩

/-- The marks of a damaged or a wrong record do not count as a delivery. -/
theorem spanBad_discarded_marked (s : State) (crc cnt : Store Unit) :
    SpanDiscarded s ({ s with span := { s.span with crcBad := crc, countBad := cnt } }).spanBad :=
  ⟨get_count_same .., regsBut_count { s with span := { s.span with crcBad := crc, countBad := cnt } } _, rfl, rfl⟩

/-! ## The root -/

section
variable {s : State} {g : SpanFrame}

/-- A record of an enabled node for the root. -/
def FromNode (s : State) (g : SpanFrame) : Prop := s.nodes.contains g.address = true ∧ g.output = false

theorem rootRx_discards
    (h : g.crcOk = false ∨ ¬ FromNode s g ∨ ¬ g.cycle.toNat = s.n % 4294967296
      ∨ ¬ g.entries.length = s.get Reg.SPAN_NODE_IN_IN_COUNT g.address) : SpanDiscarded s (s.rootRx g) := by
  unfold State.rootRx
  dsimp only
  split
  · split
    · exact spanBad_discarded_marked s _ s.span.countBad
    · exact spanBad_discarded s
  · next hcrc =>
    split
    · exact spanBad_discarded s
    · next hknown =>
      split
      · exact spanBad_discarded_marked s s.span.crcBad _
      · next hcount =>
        simp only [Bool.not_eq_true', Bool.not_eq_false, Bool.and_eq_true, not_or, not_not] at hcrc hknown hcount
        obtain ⟨hfrom, hcycle⟩ := hknown
        rw [hcrc] at h
        rcases h with h | h | h | h
        · cases h
        · exact absurd hfrom h
        · exact absurd hcycle h
        · exact absurd hcount h

theorem rootRx_accepts (hcrc : g.crcOk = true) (hfrom : FromNode s g) (hcycle : g.cycle.toNat = s.n % 4294967296)
    (hcount : g.entries.length = s.get Reg.SPAN_NODE_IN_IN_COUNT g.address) :
    s.rootRx g = if s.closedBy then s else s.noteNode g := by
  unfold State.rootRx
  obtain ⟨hnode, hout⟩ := hfrom
  have hmem : g.address ∈ s.nodes := List.contains_iff_mem.1 hnode
  simp [hcrc, hmem, hout, hcycle, hcount]

/-- The record of its node that the root holds once a copy on this lane has come: the first one's, with its lane marked (R359). -/
theorem noteNode_record (s : State) (g : SpanFrame) : ∃ c, storeFind (s.noteNode g).span.nodes g.address = some c
    ∧ (storeFind s.span.nodes g.address = none → c.entries = g.entries ∧ c.echo = g.echo)
    ∧ (∀ c', storeFind s.span.nodes g.address = some c' → c = { c' with from2 := c.from2, from3 := c.from3 })
    ∧ (g.lane = 2 → c.from2 = true) ∧ (g.lane = 3 → c.from3 = true) := by
  refine ⟨_, storeFind_put_same .., ?_⟩
  cases hold : storeFind s.span.nodes g.address with
  | none =>
    refine ⟨fun _ => ⟨rfl, rfl⟩, ?_, fun h => decide_eq_true h, fun h => decide_eq_true h⟩
    intro _ h
    cases h
  | some c =>
    refine ⟨?_, ?_, fun h => ?_, fun h => ?_⟩
    · intro h
      cases h
    · intro _ h
      cases h
      rfl
    · simp [h]
    · simp [h]

theorem noteNode_frame (s : State) (g : SpanFrame) :
    (∀ j, j ≠ g.address → storeFind (s.noteNode g).span.nodes j = storeFind s.span.nodes j)
      ∧ { s.noteNode g with span := { (s.noteNode g).span with nodes := s.span.nodes } } = s :=
  ⟨fun _ hj => storeFind_put_other _ _ _ _ hj, rfl⟩

end

/-! ## A node -/

section
variable {s : State} {g : SpanFrame}

/-- An output record for this node. -/
def ForMe (s : State) (g : SpanFrame) : Prop := g.output = true ∧ g.address = s.get Reg.SPAN_CFG_ADDRESS

theorem nodeRx_discards (h : g.crcOk = false ∨ ¬ g.cycle.toNat = s.n % 4294967296) : SpanDiscarded s (s.nodeRx g) := by
  have hbad : !g.crcOk ∨ g.cycle.toNat ≠ s.n % 4294967296 := h.imp_left (fun hcrc => by rw [hcrc]; rfl)
  unfold State.nodeRx
  rw [if_pos hbad]
  exact spanBad_discarded s

theorem nodeRx_good (hcrc : g.crcOk = true) (hcycle : g.cycle.toNat = s.n % 4294967296) :
    s.nodeRx g = if !g.output ∨ g.address ≠ s.get Reg.SPAN_CFG_ADDRESS then s.spanForward g
      else if g.values.length ≠ s.localOut then s.spanBad
      else if s.span.upSeen || !s.upLanes.contains g.lane then s else s.nodeTake g := by
  unfold State.nodeRx
  refine if_neg ?_
  simp [hcrc, hcycle]

theorem nodeRx_forwards (hcrc : g.crcOk = true) (hcycle : g.cycle.toNat = s.n % 4294967296) (hme : ¬ ForMe s g) :
    s.nodeRx g = s.spanForward g := by
  rw [nodeRx_good hcrc hcycle, if_pos]
  rw [ForMe, Classical.not_and_iff_not_or_not, Bool.not_eq_true] at hme
  exact hme.imp_left (fun hout => by rw [hout]; rfl)

theorem nodeRx_takes (hcrc : g.crcOk = true) (hcycle : g.cycle.toNat = s.n % 4294967296) (hme : ForMe s g)
    (hlen : g.values.length = s.localOut) (hseen : s.span.upSeen = false) (hlane : s.upLanes.contains g.lane = true) :
    s.nodeRx g = s.nodeTake g := by
  obtain ⟨hout, haddr⟩ := hme
  rw [nodeRx_good hcrc hcycle, if_neg, if_neg, if_neg]
  · rw [hseen, hlane]
    decide
  · exact not_not.2 hlen
  · rw [hout, not_or]
    exact ⟨by decide, not_not.2 haddr⟩

end

theorem mem_insertForward (f e : SpanFrame) (l : List SpanFrame) : e ∈ insertForward f l ↔ e = f ∨ e ∈ l := by
  induction l with
  | nil => simp [insertForward]
  | cons x l ih =>
    unfold insertForward
    split
    · exact List.mem_cons
    · rw [List.mem_cons, List.mem_cons, ih, or_left_comm]

theorem length_insertForward (f : SpanFrame) (l : List SpanFrame) : (insertForward f l).length = l.length + 1 := by
  induction l with
  | nil => rfl
  | cons x l ih =>
    unfold insertForward
    split
    · rfl
    · rw [List.length_cons, ih, List.length_cons]

/-- A frame put in on each of these lanes. -/
def forwardOn (g : SpanFrame) (lanes : List Nat) (l : List SpanFrame) : List SpanFrame :=
  lanes.foldl (fun l k => insertForward { g with lane := k } l) l

theorem mem_forwardOn (g e : SpanFrame) (lanes : List Nat) (l : List SpanFrame) :
    e ∈ forwardOn g lanes l ↔ e ∈ l ∨ ∃ k ∈ lanes, e = { g with lane := k } := by
  induction lanes generalizing l with
  | nil => simp [forwardOn]
  | cons k lanes ih =>
    rw [forwardOn, List.foldl_cons]
    change e ∈ forwardOn g lanes _ ↔ _
    rw [ih, mem_insertForward, List.exists_mem_cons_iff, or_comm (a := e = _), or_assoc]

theorem length_forwardOn (g : SpanFrame) (lanes : List Nat) (l : List SpanFrame) :
    (forwardOn g lanes l).length = l.length + lanes.length := by
  induction lanes generalizing l with
  | nil => rfl
  | cons k lanes ih =>
    rw [forwardOn, List.foldl_cons]
    change (forwardOn g lanes _).length = _
    rw [ih, length_insertForward, List.length_cons]
    omega

theorem spanForward_forwarded (s : State) (g : SpanFrame) :
    (s.spanForward g).span.forwarded = forwardOn g (s.forwardLanes g.lane) s.span.forwarded := rfl

/-- A node's state once the points and the image have taken the values of its output record, and UP_LOST reads 0 (R358). -/
def recordTaken (s : State) (g : SpanFrame) : State :=
  let t := takeOutputs s g.values 0
  let img := (List.range g.values.length).foldl (fun st k =>
    storeSet st (t.localOutBase + k) (t.point (t.localOutBase + k)) (pointDefault t.variant (t.localOutBase + k))) t.pump.image
  ({ t with pump := { t.pump with image := img }, span := { t.span with upSeen := true, upAt := t.now, upClaim := g.claim } }).setFlag
    Reg.SPAN_STAT_UP_LOST false

theorem nodeTake_eq (s : State) (g : SpanFrame) : s.nodeTake g = ((recordTaken s g).sendFrames g.claim.toNat).spanFollow g := rfl

/-- What is stated of a node that took its record: the points, the time base, and what it keeps of the header. -/
def recordView (t : State) : Store Point × Variant × Nat × Bool × BitVec 16 × Nat :=
  (t.points, t.variant, t.now, t.span.upSeen, t.span.upClaim, t.span.upAt)

/-- The frames sent and the lane followed leave that alone. -/
theorem nodeTake_recordView (s : State) (g : SpanFrame) : recordView (s.nodeTake g) = recordView (recordTaken s g) := by
  have hfollow := congrArg recordView (spanFollow_frame ((recordTaken s g).sendFrames g.claim.toNat) g)
  have hsent := congrArg recordView (sendFrames_linkSent (recordTaken s g) g.claim.toNat).1
  exact hfollow.trans hsent

/-- MAX_FILL of no queue is kept where UP_LOST is. -/
theorem upLost_key_ne_maxFill (q : Nat) : Reg.SPAN_STAT_UP_LOST.key 0 ≠ Reg.QMGR_Q_STAT_MAX_FILL.key q := by
  simp only [Fld.key, Reg.SPAN_STAT_UP_LOST, Reg.QMGR_Q_STAT_MAX_FILL]
  omega

theorem nodeTake_upLost (s : State) (g : SpanFrame) : (s.nodeTake g).flag Reg.SPAN_STAT_UP_LOST = false := by
  have hfollow := congrArg State.regs (spanFollow_frame ((recordTaken s g).sendFrames g.claim.toNat) g)
  dsimp only at hfollow
  rw [nodeTake_eq, flag_of_regs hfollow, State.flag, (sendFrames_linkSent _ _).2 _ _ upLost_key_ne_maxFill]
  exact flag_setFlag_same _ _ _ _ (by decide)

theorem point_nodeTake (s : State) (g : SpanFrame) (q : Nat) : (s.nodeTake g).point q = (takeOutputs s g.values 0).point q := by
  have hview := nodeTake_recordView s g
  simp only [recordView, Prod.mk.injEq] at hview
  obtain ⟨hpoints, hvariant, -⟩ := hview
  exact point_of_points hpoints hvariant q

/-- A node that is missing its output record says so, and records it (R358). -/
theorem spanUpLost_missing {s : State} (hrun : s.running = true) (hnode : s.spanNode = true) (hseen : s.span.upSeen = false)
    (hlost : s.flag Reg.SPAN_STAT_UP_LOST = false) : s.spanUpLost = (s.setFlag Reg.SPAN_STAT_UP_LOST true).raise 0x0D05 := by
  unfold State.spanUpLost
  rw [hrun, hnode, hseen, hlost]
  rfl

/-! ## The statement -/

/-- A frame on a span lane that is up, at a running part of a span, is one of the root or of the node. -/
theorem spanFrameRx_here {s : State} {g : SpanFrame}
    (h : s.running = true ∧ s.spanOn = true ∧ s.spanLanes.contains g.lane = true ∧ s.laneUp g.lane = true) :
    s.spanFrameRx g = if s.spanRoot then s.rootRx g else s.nodeRx g := by
  obtain ⟨hrun, hon, hlane, hup⟩ := h
  unfold State.spanFrameRx
  rw [hrun, hon, hlane, hup]
  rfl

theorem spanFrameRx_elsewhere {s : State} {g : SpanFrame}
    (h : ¬ (s.running = true ∧ s.spanOn = true ∧ s.spanLanes.contains g.lane = true ∧ s.laneUp g.lane = true)) :
    s.spanFrameRx g = s := by
  unfold State.spanFrameRx
  refine if_pos ?_
  rw [Bool.not_eq_true', Bool.eq_false_iff]
  simpa only [ne_eq, Bool.and_eq_true, and_assoc] using h

/-- Settles O57: the frames at the root by `rootRx_discards`, `rootRx_accepts` and `noteNode_record`, those at a node by `nodeRx_discards`,
`nodeRx_forwards` and `nodeRx_takes`. -/
theorem spanFrames : Obligations.SpanFrames := by
  intro s g
  have root {P : State → Prop} (hh) (hr : s.spanRoot = true) (h : P (s.rootRx g)) : Completes (.spanFrameRx g) s P :=
    ⟨_, rfl, by rw [spanFrameRx_here hh, if_pos hr]; exact h⟩
  have node {P : State → Prop} (hh) (hr : s.spanRoot = false) (h : P (s.nodeRx g)) : Completes (.spanFrameRx g) s P :=
    ⟨_, rfl, by rw [spanFrameRx_here hh, hr]; exact h⟩
  refine ⟨?_, ?_, ?_, ?_, ?_, ?_, ?_, ?_, ?_⟩
  · exact fun hh hr hbad => root hh hr (rootRx_discards hbad)
  · intro hh hr hcrc hknown htime hwhole hopen
    refine root hh hr ?_
    rw [rootRx_accepts hcrc hknown htime hwhole, hopen]
    exact ⟨noteNode_record s g, noteNode_frame s g⟩
  · intro hh hr hcrc hknown htime hwhole hclosed
    refine root hh hr ?_
    rw [rootRx_accepts hcrc hknown htime hwhole, if_pos hclosed]
  · exact fun hh hr hbad => node hh hr (nodeRx_discards hbad)
  · intro hh hr hcrc htime hmine
    refine node hh hr ?_
    rw [nodeRx_forwards hcrc htime hmine, spanForward_forwarded]
    refine ⟨fun k hk => ?_, fun e he => ?_, length_forwardOn .., rfl⟩
    · exact (mem_forwardOn ..).2 (.inr ⟨k, hk, rfl⟩)
    · exact (mem_forwardOn ..).2 (.inl he)
  · intro hh hr hcrc htime hmine hlen hseen hlane
    refine node hh hr ?_
    rw [nodeRx_takes hcrc htime hmine hlen hseen hlane]
    have hview := nodeTake_recordView s g
    simp only [recordView, Prod.mk.injEq] at hview
    obtain ⟨-, -, hnow, hup, hclaim, hat⟩ := hview
    have hkept : (takeOutputs s g.values 0).now = s.now := pointsOnly_now (takeOutputs_pointsOnly ..)
    refine ⟨hup, hclaim, hat.trans hkept, nodeTake_upLost s g, hnow.trans hkept, fun q hq => ?_, fun j v hv hw => ?_⟩
    · rw [point_nodeTake]
      exact point_takeOutputs_other _ _ _ _ fun j hj => by rw [Nat.zero_add]; exact hq j hj
    · rw [point_nodeTake]
      exact value_takeOutputs _ _ 0 j (by omega) hv hw
  · exact fun hh => ⟨_, rfl, spanFrameRx_elsewhere hh⟩
  · intro hrun hnode hseen hlost
    refine ⟨_, rfl, ?_⟩
    rw [spanUpLost_missing hrun hnode hseen hlost]
    have hq := raise_quiet (s.setFlag Reg.SPAN_STAT_UP_LOST true) 0x0D05
    refine ⟨?_, ?_, hq.1⟩
    · rw [Quiet.flag hq _ _ (by decide), flag_setFlag_same _ _ _ _ (by decide)]
    · exact fieldsBut_trans (fieldsBut_setFlag _ _ _ _ (List.mem_singleton_self _)) (fieldsBut_quiet hq)
  · intro h
    refine ⟨_, rfl, if_neg ?_⟩
    simp only [Bool.and_eq_true, Bool.not_eq_true', not_and]
    rcases h with h | h | h
    · simp [h]
    · simp [h]
    · simp [h]

end Sys2Proof.Proofs
end

section
/-! What works on a frame of the trough that has closed opens none: the observer, the DP loops, the allocation block, the solver and the
observer part of the hold stream leave `openTh` alone (R199, R207, R223, R256, R263, R295, R332). -/

namespace Sys2Proof.Proofs
open Sys2Proof Sys2Proof.Machine Sys2Proof.Laws

theorem openTh_ite (c : Prop) [Decidable c] (x y : State) :
    (if c then x else y).trough.openTh = if c then x.trough.openTh else y.trough.openTh :=
  apply_ite (fun t : State => t.trough.openTh) c x y

theorem foldl_openTh {α : Type} (f : State → α → State) (h : ∀ s x, (f s x).trough.openTh = s.trough.openTh) (l : List α) (s : State) :
    (l.foldl f s).trough.openTh = s.trough.openTh := by
  induction l generalizing s with
  | nil => rfl
  | cons x l ih => rw [List.foldl_cons, ih, h]

/-- The same for a fold that gathers a result beside the state. -/
theorem foldl_snd_openTh {α β : Type} (f : β × State → α → β × State) (h : ∀ s x, (f s x).2.trough.openTh = s.2.trough.openTh)
    (l : List α) (s : β × State) : (l.foldl f s).2.trough.openTh = s.2.trough.openTh := by
  induction l generalizing s with
  | nil => rfl
  | cons x l ih => rw [List.foldl_cons, ih, h]

variable (s : State)

/-! ## Points -/

@[simp] theorem putAll_openTh (l : List (Nat × Nat)) : (s.putAll l).trough.openTh = s.trough.openTh := by
  refine foldl_openTh _ (fun t e => ?_) l s
  rfl

@[simp] theorem putQuality_openTh (p : Nat) (q : Byte) : (s.putQuality p q).trough.openTh = s.trough.openTh := by
  rw [State.putQuality, putPoint_trough]

@[simp] theorem putF_openTh (p : Nat) (x : F64) (q : Byte) : (s.putF p x q).trough.openTh = s.trough.openTh := by
  unfold State.putF
  dsimp only
  split <;> rfl

@[simp] theorem putHeading_openTh (p : Nat) (x : F64) (q : Byte) : (s.putHeading p x q).trough.openTh = s.trough.openTh :=
  putF_openTh s ..

/-! ## The DP loops (R256) -/

@[simp] theorem raiseOpt_openTh (c : Option Nat) : (s.raiseOpt c).trough.openTh = s.trough.openTh := by
  cases c with
  | none => rfl
  | some c => rw [State.raiseOpt, raise_trough]

@[simp] theorem loopPoints_openTh (i : Nat) (withU : Bool) : (s.loopPoints i withU).trough.openTh = s.trough.openTh := by
  unfold State.loopPoints
  dsimp only
  split <;> simp [openTh_ite]

@[simp] theorem evalDp_openTh (i : Nat) : (s.evalDp i).trough.openTh = s.trough.openTh := by
  simp [State.evalDp, State.evalLoop, State.setLoop]

@[simp] theorem windUpdate_openTh : s.windUpdate.trough.openTh = s.trough.openTh := by
  unfold State.windUpdate
  (repeat' split) <;> simp

@[simp] theorem evalDpLoops_openTh : s.evalDpLoops.trough.openTh = s.trough.openTh := by
  simp [State.evalDpLoops, State.setLoop, openTh_ite]

/-! ## The allocation block (R263) -/

@[simp] theorem restoreStep_openTh : s.restoreStep.trough.openTh = s.trough.openTh := by
  unfold State.restoreStep
  dsimp only
  split <;> simp [openTh_ite, State.putGood]

@[simp] theorem failedUpdate_openTh : s.failedUpdate.trough.openTh = s.trough.openTh := by
  simp [State.failedUpdate, openTh_ite, foldl_openTh]

@[simp] theorem cmdEvents_openTh (p : PostData) : (s.cmdEvents p).trough.openTh = s.trough.openTh := by
  simp [State.cmdEvents, openTh_ite, foldl_openTh]

@[simp] theorem allocPost_openTh : s.allocPost.trough.openTh = s.trough.openTh := by
  simp [State.allocPost, State.loadNote, State.allocRegs, openTh_ite]

/-! ## The solver (R295) -/

@[simp] theorem feed_openTh (c : Nat) : (s.feed c).trough.openTh = s.trough.openTh := by
  simp [State.feed, State.setSlotRun, openTh_ite]

@[simp] theorem startList_openTh (d dl : Nat) (l : List Nat) : (s.startList d dl l).trough.openTh = s.trough.openTh := by
  induction l generalizing s with
  | nil => rfl
  | cons c l ih => simp [State.startList, State.setDie, State.notRun, State.setSlotRun, ih, openTh_ite]

@[simp] theorem startRerun_openTh (d dl : Nat) (l : List Nat) : (s.startRerun d dl l).trough.openTh = s.trough.openTh := by
  induction l generalizing s with
  | nil => rfl
  | cons c l ih => simp [State.startRerun, State.setDie, State.refeedWide, State.setSlotRun, ih, openTh_ite]

@[simp] theorem dieNext_openTh (d : Nat) : (s.dieNext d).trough.openTh = s.trough.openTh := by
  unfold State.dieNext
  split <;> simp [openTh_ite]

@[simp] theorem solvPost_openTh (l : List Nat) : (s.solvPost l).trough.openTh = s.trough.openTh := by
  unfold State.solvPost
  rw [foldl_openTh _ dieNext_openTh]
  refine foldl_openTh _ (fun t c => ?_) _ _
  rfl

/-! ## The tests of a closed frame (R207 to R212) -/

@[simp] theorem applyTest_openTh (g : Nat) (l : List Carried) : (s.applyTest g l).trough.openTh = s.trough.openTh := by
  simp [State.applyTest, State.setChan, openTh_ite, foldl_openTh]

@[simp] theorem contradictions_openTh (l : List Carried) : (s.contradictions l).trough.openTh = s.trough.openTh := by
  simp [State.contradictions, State.groupTest]

/-! ## The observer (R216 to R237) -/

@[simp] theorem attCheck_openTh (b : Bool) : (s.attCheck b).trough.openTh = s.trough.openTh := by
  simp [State.attCheck, openTh_ite]

@[simp] theorem obsPropagate_openTh : s.obsPropagate.trough.openTh = s.trough.openTh := by
  unfold State.obsPropagate
  dsimp only
  split <;> rfl

@[simp] theorem datumApply_openTh (l : List (Nat × ChanCfg × Sample)) : (s.datumApply l).trough.openTh = s.trough.openTh := by
  unfold State.datumApply
  split
  · rfl
  · refine foldl_openTh _ (fun t e => ?_) _ _
    split <;> rfl

@[simp] theorem calResetApply_openTh : s.calResetApply.trough.openTh = s.trough.openTh := by
  simp [State.calResetApply, State.calSaveStart, openTh_ite]

@[simp] theorem drawList_openTh (n : Nat) : (s.drawList n).2.trough.openTh = s.trough.openTh := by
  induction n generalizing s with
  | zero => rfl
  | succ n ih => exact ih _

@[simp] theorem refineChannel_openTh (g c : Nat) : (s.refineChannel g c).trough.openTh = s.trough.openTh := by
  simp [State.refineChannel, State.putEst]

@[simp] theorem zeroSum_openTh (g : Nat) (l : List Nat) : (s.zeroSum g l).trough.openTh = s.trough.openTh := by
  unfold State.zeroSum
  split <;> rfl

@[simp] theorem refineGroup_openTh (g : Nat) (l : List Nat) : (s.refineGroup g l).trough.openTh = s.trough.openTh := by
  simp [State.refineGroup, openTh_ite, foldl_openTh]

@[simp] theorem clampChannel_openTh (c : Nat) : (s.clampChannel c).trough.openTh = s.trough.openTh := by
  unfold State.clampChannel
  split <;> simp [foldl_openTh]

/-- The refinement of one group, where it may gain, and the corrections that follow it (R231). -/
def refinePart (valid : List Carried) (dt : Nat) (gains : Bool) (u : State) (g : Nat) : State :=
  if gains then
    let a := u.refineGroup g ((valid.filter (fun c => decide (c.group = g))).map Carried.chan)
    let b := a.obs.est.foldl (fun v e => v.clampChannel e.1) a
    b.corrected.foldl (State.followChannel · g dt ·) b
  else u

theorem refinePart_openTh (valid : List Carried) (dt : Nat) (gains : Bool) (g : Nat) :
    (refinePart valid dt gains s g).trough.openTh = s.trough.openTh := by
  cases gains with
  | false => rfl
  | true =>
    refine (foldl_openTh _ (fun _ _ => ?_) _ _).trans
      ((foldl_openTh _ (fun _ _ => clampChannel_openTh ..) _ _).trans (refineGroup_openTh ..))
    rfl

@[simp] theorem refine_openTh (f v : List Carried) (dt : Nat) : (s.refine f v dt).trough.openTh = s.trough.openTh := by
  refine (foldl_openTh _ (fun _ _ => clampChannel_openTh ..) _ _).trans ?_
  refine (refinePart_openTh _ v dt _ 1).trans ((refinePart_openTh _ v dt _ 0).trans ?_)
  rw [setFlag_trough, calResetApply_openTh]

@[simp] theorem drStart_openTh (g : Nat) (b : Bool) : (s.drStart g b).trough.openTh = s.trough.openTh := by
  simp [State.drStart, openTh_ite]

@[simp] theorem drCounts_openTh (p h : Bool) (dt : Nat) : (s.drCounts p h dt).trough.openTh = s.trough.openTh := by
  simp [State.drCounts, State.drCount, openTh_ite]

@[simp] theorem fuseInit_openTh (c : Carried) : (s.fuseInit c).trough.openTh = s.trough.openTh := by
  unfold State.fuseInit
  dsimp only
  (repeat' split) <;> rfl

@[simp] theorem setChan_openTh (c : Nat) (ch : Channel) : (s.setChan c ch).trough.openTh = s.trough.openTh := rfl

@[simp] theorem groupReset_openTh (g : Nat) : (s.groupReset g).trough.openTh = s.trough.openTh := rfl

@[simp] theorem fuseOne_openTh (c : Carried) : (s.fuseOne c).trough.openTh = s.trough.openTh := rfl

@[simp] theorem drEnd_openTh (g : Nat) : (s.drEnd g).trough.openTh = s.trough.openTh := by
  simp [State.drEnd, openTh_ite]

@[simp] theorem offerSample_openTh (c : Carried) : (s.offerSample c).2.trough.openTh = s.trough.openTh := by
  simp [State.offerSample, snd_ite, openTh_ite]

@[simp] theorem fuseAll_openTh (l : List Carried) : (s.fuseAll l).2.trough.openTh = s.trough.openTh := by
  refine foldl_snd_openTh _ (fun t c => ?_) l _
  simp [State.fuseSample, snd_ite, openTh_ite]

@[simp] theorem gateStep_openTh (o f : List Nat) : (s.gateStep o f).trough.openTh = s.trough.openTh := by
  simp [State.gateStep, openTh_ite]

@[simp] theorem farCheck_openTh : s.farCheck.trough.openTh = s.trough.openTh := by
  simp [State.farCheck, openTh_ite]

@[simp] theorem obsCut_openTh (p h : Bool) (dt : Nat) : (s.obsCut p h dt).trough.openTh = s.trough.openTh := by
  simp [State.obsCut, State.obsMirror]

@[simp] theorem obsFuse_openTh (l : List Carried) (p h : Bool) (dt : Nat) : (s.obsFuse l p h dt).trough.openTh = s.trough.openTh := by
  simp [State.obsFuse, State.obsMirror, State.obsCount, openTh_ite]

@[simp] theorem obsPoints_openTh (b : Bool) : (s.obsPoints b).trough.openTh = s.trough.openTh := by
  simp [State.obsPoints]

@[simp] theorem obsUpdate_openTh (l : List Carried) (p h : Bool) (dt : Nat) : (s.obsUpdate l p h dt).trough.openTh = s.trough.openTh := by
  simp [State.obsUpdate, openTh_ite]

@[simp] theorem channelPoints_openTh (c : Nat) (p h : Bool) : (s.channelPoints c p h).trough.openTh = s.trough.openTh := by
  unfold State.channelPoints
  dsimp only
  (repeat' split) <;> simp

/-! ## The close of a frame (R199) -/

@[simp] theorem consumeFrame_openTh (l : List (Nat × ChanCfg × Sample)) : (s.consumeFrame l).trough.openTh = s.trough.openTh := by
  simp [State.consumeFrame, foldl_openTh]

@[simp] theorem postStep_openTh : s.postStep.trough.openTh = s.trough.openTh := by
  simp [State.postStep, openTh_ite]

theorem closeFrame_openTh (th : Nat) (byLimit : Bool) : (s.closeFrame th byLimit).2.trough.openTh = none := by
  unfold State.closeFrame State.windTake
  dsimp only
  (repeat' split) <;> simp

theorem troughClose_openTh : s.troughClose.trough.openTh = none := by
  unfold State.troughClose
  split
  · assumption
  · rw [postStep_openTh, consumeFrame_openTh, closeFrame_openTh]

@[simp] theorem sendObsPart_openTh : s.sendObsPart.trough.openTh = s.trough.openTh := by
  simp [State.sendObsPart, State.sendLink, openTh_ite]

@[simp] theorem holdStatus_openTh (before : State) : (before.holdStatus s).trough.openTh = s.trough.openTh := by
  simp [State.holdStatus, openTh_ite]

end Sys2Proof.Proofs
end
section
/-! Boundaries and closes of the pump cycle (R15 to R17, R91, R166, R199, R388); the statement on them (O26). -/

namespace Sys2Proof.Proofs
open Sys2Proof Sys2Proof.Machine Sys2Proof.Laws

theorem mode_of_core {a b : State} (h : a.core = b.core) : a.mode = b.mode := congrArg (fun c : Core => c.2.2.2.2.1) h

theorem phase_of_core {a b : State} (h : a.core = b.core) : a.phase = b.phase := congrArg (fun c : Core => c.2.2.2.2.2.1) h

theorem n_of_core {a b : State} (h : a.core = b.core) : a.n = b.n := congrArg (fun c : Core => c.2.2.2.2.2.2) h

theorem running_of_core {a b : State} (h : a.core = b.core) : a.running = b.running := by
  rw [State.running, State.running, mode_of_core h]

/-! ## The boundary (R15, R16, R388) -/

theorem newCycle_clk (s : State) (k : Nat) : (s.newCycle k).clk = (.window, k) := by
  unfold State.newCycle
  dsimp only
  rw [clk_ite, setFlag_clk, ite_self, clk_of_core _ _ (spanNewCycle_core _), clk_of_core _ _ (stnNewCycle_core _)]
  rfl

theorem firstCycle_clk (s : State) : s.firstCycle.clk = (.window, 0) := by
  rw [State.firstCycle, runEntry_clk, newCycle_clk]

theorem laterCycle_clk (s : State) : s.laterCycle.clk = (.window, s.n + 1) := by
  rw [State.laterCycle, newCycle_clk, advanceTo_n]

theorem boundary_first {s : State} (h : s.mode = .done) (upsets : List Upset) : (s.boundary upsets).clk = (.window, 0) := by
  unfold State.boundary
  rw [if_pos h, boundaryWork_clk, firstCycle_clk]

theorem not_done_of_running {s : State} (h : s.running = true) : s.mode ≠ .done := by
  intro hdone
  simp [State.running, hdone] at h

/-- Once the image of the present cycle is frozen, its reserve instant has passed. -/
theorem reserveInstant_frozen {s : State} (h : s.phase = .frozen) (trip fb : Nat) : s.reserveInstant trip fb = s := by
  have hopen : s.windowOpen = false := by simp [State.windowOpen, h]
  unfold State.reserveInstant State.windowDue
  rw [hopen]
  simp [h]

/-- Then what is still due in it leaves operating state, phase and cycle count alone. -/
theorem cycleDue_core_of_frozen {s : State} (h : s.phase = .frozen) : s.cycleDue.core = s.core := by
  unfold State.cycleDue
  dsimp only
  rw [reserveInstant_frozen h, core_ite, holdStatus_core, troughClose_core, ite_self, spanUpLost_core, capStopped_core]

theorem boundary_later {s : State} (hrun : s.running = true) (hfrozen : s.phase = .frozen) (upsets : List Upset) :
    (s.boundary upsets).clk = (.window, s.n + 1) := by
  have hdue := cycleDue_core_of_frozen hfrozen
  have hruns : s.cycleDue.running = true := (running_of_core hdue).trans hrun
  unfold State.boundary
  rw [if_neg (not_done_of_running hrun), if_pos hrun]
  dsimp only
  rw [if_pos hruns, boundaryWork_clk, laterCycle_clk, n_of_core hdue]

theorem boundary_none {s : State} (hdone : s.mode ≠ .done) (hrun : s.running = false) (upsets : List Upset) : s.boundary upsets = s := by
  unfold State.boundary
  rw [if_neg hdone, hrun]
  rfl

/-! ## The close of the input window (R17, R166, R331) -/

theorem applyProof_phase (s : State) (r : RxProof) : (s.applyProof r).phase = s.phase := by
  unfold State.applyProof
  dsimp only
  rw [phase_of_core (applyMarks_core _ _), phase_of_core (proofBytes_core _ _)]
  change State.phase (List.foldl _ _ _) = _
  rw [phase_of_core (foldl_core _ applyRecord_core _ _), phase_of_core (undoOwn_core _ _)]
  rfl

theorem lockstepTake_phase (s : State) : s.lockstepTake.phase = s.phase := by
  unfold State.lockstepTake
  dsimp only
  split
  · split
    · rw [phase_of_core (foldl_core _ applyRecord_core _ _)]
      rfl
    · rfl
  · rfl

theorem closeInputs_phase (s : State) (gpio : Word) : (s.closeInputs gpio).phase = .tasks := by
  unfold State.closeInputs
  dsimp only
  rw [lockstepTake_phase, phase_of_core (redClose_core _), phase_of_core (capInputs_core _), phase_of_core (closeSpan_core _),
    phase_of_core (levelInputs_core _ _), phase_of_core (sensorInputs_core _), phase_of_core (closeStations_core _)]

/-- At its close the window's inputs are written; steps 3 and 4, or the wait for a proof, leave the phase alone. -/
theorem windowClose_phase {s : State} (h : s.windowOpen = true) (gpio : Word) : (s.windowClose gpio).phase = .tasks := by
  have hclosed (t : State) : (t.holdStatus (t.closeInputs gpio)).phase = .tasks := by
    rw [phase_of_core (holdStatus_core _ _), closeInputs_phase]
  unfold State.windowClose
  rw [h, if_neg (by decide)]
  dsimp only
  generalize (if s.allIn = true then s else s.advanceTo s.windowLimit) = t
  replace hclosed := hclosed t
  generalize t.holdStatus (t.closeInputs gpio) = u at hclosed ⊢
  split
  · rw [phase_of_core (closeTasks_core _), hclosed]
  · split
    · rw [phase_of_core (closeTasks_core _), applyProof_phase, hclosed]
    · exact hclosed

theorem windowClose_mode (s : State) (gpio : Word) : (s.windowClose gpio).mode = s.mode :=
  congrArg Prod.fst (windowClose_modeTag s gpio)

theorem windowClose_none {s : State} (h : s.windowOpen = false) (gpio : Word) : s.windowClose gpio = s := by
  unfold State.windowClose
  rw [h]
  rfl

/-! ## The end of restart cycles (R91), the close of a trough frame (R199) -/

theorem restartEnd_last {s : State} (hrun : s.running = true) (hlast : s.pump.restartLeft = 1) :
    s.restartEnd.pump.restartLeft = 0 ∧ s.restartEnd.restarting = false ∧ s.restartEnd.flag Reg.PUMP_STAT_RESTARTING = false := by
  unfold State.restartEnd
  rw [if_pos (by rw [hrun, hlast]; rfl)]
  exact ⟨rfl, rfl, flag_setFlag_same _ _ _ _ (by decide)⟩

theorem frameClose_open {s : State} (hrun : s.running = true) (hopen : s.trough.openTh ≠ none) :
    s.frameClose = s.holdStatus s.troughClose.sendObsPart := by
  have hsome : s.trough.openTh.isSome = true := Option.isSome_iff_ne_none.2 hopen
  unfold State.frameClose
  rw [hrun, hsome]
  rfl

/-- Settles O26: each instant by the law of its operation, the boundaries through what they make of phase and cycle count. -/
theorem cycleStarts : Obligations.CycleStarts := by
  intro s upsets gpio
  refine ⟨fun hdone => ⟨_, rfl, ?_⟩, fun hrun hfrozen => ⟨_, rfl, ?_⟩, fun hdone hrun => ⟨_, rfl, boundary_none hdone hrun upsets⟩,
    fun hrun hwindow => ⟨_, rfl, ?_⟩, fun h => ⟨_, rfl, windowClose_none ?_ gpio⟩, fun hrun hlast => ⟨_, rfl, restartEnd_last hrun hlast⟩,
    fun h => ⟨_, rfl, if_neg ?_⟩, fun hrun hopen => ⟨_, rfl, ?_⟩, fun h => ⟨_, rfl, if_neg ?_⟩⟩
  · obtain ⟨hphase, hn⟩ := Prod.mk.inj (boundary_first hdone upsets)
    exact ⟨hn, hphase⟩
  · obtain ⟨hphase, hn⟩ := Prod.mk.inj (boundary_later hrun hfrozen upsets)
    exact ⟨hn, hphase⟩
  · exact ⟨windowClose_phase (by simp [State.windowOpen, hrun, hwindow]) gpio, windowClose_mode s gpio⟩
  · rcases h with h | h
    · simp [State.windowOpen, h]
    · simp [State.windowOpen, h]
  · rcases h with h | h
    · simp [h]
    · simp [h]
  · rw [frameClose_open hrun hopen]
    exact ⟨by rw [holdStatus_openTh, sendObsPart_openTh, troughClose_openTh],
      by rw [holdStatus_core, sendObsPart_core, troughClose_core]⟩
  · rcases h with h | h
    · simp [h]
    · simp [h]

end Sys2Proof.Proofs
end

section
/-! One step of a waiting command, and the state after reset; the statements on them (O1, O7). -/

namespace Sys2Proof.Proofs
open Sys2Proof Sys2Proof.Machine Sys2Proof.Laws

/-- Settles O1: `step` takes the command in front and hands `exec` the queue's rest. -/
theorem stepRunsCommand : Obligations.StepRunsCommand := by
  intro c s
  rfl

/-- Every state is a part of its own variant and fuse bank. -/
theorem fuseInv_self (s : State) : FuseInv s.variant s.fuses s := ⟨rfl, blown_refl _⟩

/-- Settles O7: `State.reset` lists no register and holds the default of every other field. -/
theorem resetState : Obligations.ResetState := by
  refine ⟨⟨rfl, rfl, rfl, rfl, rfl, fun _ _ => rfl, rfl, rfl, rfl, rfl, rfl, fun t => ?_⟩, fuseInv_self _, fuseInv_self⟩
  cases t <;> exact ⟨rfl, rfl, rfl, rfl⟩

end Sys2Proof.Proofs
end

section
/-! Commands over a host path reduce to their block's operation on the touched state (R35, R44); the transaction's commands and its idle
limit (R50, R53, R55), and the statement on them (O35). -/

namespace Sys2Proof.Proofs
open Sys2Proof Sys2Proof.Machine Sys2Proof.Laws

/-- The word v at address a, which has no instances, is a command that passes the general checks in every state (R44): its block's own
operation decides on it. -/
def CommandWord (a v : Nat) : Prop := ∃ d, regAt a = some d ∧ ∀ t : State, commandWord t d a 0 v = true

/-- A command of such a word over a path that takes it answers what its block's operation answers, and leaves what that leaves. -/
theorem answers_of_command {c : Instr} {s : State} {p : Path} {a v : Nat} {st : Status} {u : State} {P : State → Prop}
    (hx : exec c s = .next (s.hostCmd p a 0 v)) (hw : CommandWord a v) (ht : s.takes p (a / 65536) = true)
    (hc : (s.touch p).command p a 0 v = (st, u)) (hP : P u) : Answers c s p st P := by
  obtain ⟨d, hd, hword⟩ := hw
  refine ⟨u, ?_, hP⟩
  rw [hx, hostCmd_route ht hd (hword _), hc]

/-- An access changes nothing but the host block: put back, it gives the state before. -/
theorem touch_host_restored (s : State) (p : Path) : { s.touch p with host := s.host } = s := by
  obtain ⟨h, e⟩ := touch_host s p
  rw [e]

section
variable (t : State) (p : Path)

/-- The transaction is open and this path owns it (R50). -/
def Owned : Prop := t.host.phase = .openTxn ∧ t.host.owner = p

theorem txnBegin_idle (h : t.host.phase = .idle) :
    t.txnBegin p = (.done, { t with host := { t.host with phase := .openTxn, owner := p, staged := [], lastAccess := t.up, timeoutOwner := none } }) :=
  if_neg (not_not_intro h)

theorem txnBegin_busy (h : t.host.phase ≠ .idle) : t.txnBegin p = (.txnBusy, t) := if_pos h

theorem not_foreign_of_owned (h : Owned t p) : ¬ (t.host.phase ≠ .openTxn ∨ t.host.owner ≠ p) := by
  rintro (g | g)
  · exact g h.1
  · exact g h.2

theorem foreign_of_not_owned (h : ¬ Owned t p) : t.host.phase ≠ .openTxn ∨ t.host.owner ≠ p :=
  Classical.not_and_iff_not_or_not.1 h

theorem txnCommit_owned (h : Owned t p) :
    t.txnCommit p = (.done, { t with host := { t.host with
      phase := .pendingTxn, commits := t.host.commits ++ [{ words := t.host.staged, oneWrite := false, skip := t.boundarySkip }] } }) :=
  if_neg (not_foreign_of_owned t p h)

theorem txnRollback_owned (h : Owned t p) :
    t.txnRollback p = (.done, { t with host := { t.host with phase := .idle, staged := [], result := Status.state.code, failPos := 0 } }) :=
  if_neg (not_foreign_of_owned t p h)

theorem txnCommit_foreign (h : ¬ Owned t p) : t.txnCommit p = (.state, t) := if_pos (foreign_of_not_owned t p h)

theorem txnRollback_foreign (h : ¬ Owned t p) : t.txnRollback p = (.state, t) := if_pos (foreign_of_not_owned t p h)

end

/-- The words BEGIN, COMMIT and ROLLBACK of TXN_CTL. -/
theorem commandWord_begin : CommandWord 0x000040 1 := ⟨_, rfl, fun _ => rfl⟩
theorem commandWord_commit : CommandWord 0x000040 2 := ⟨_, rfl, fun _ => rfl⟩
theorem commandWord_rollback : CommandWord 0x000040 3 := ⟨_, rfl, fun _ => rfl⟩

/-- An open transaction whose idle limit has passed is rolled back (R55). -/
theorem txnExpire_due {s : State} (hopen : s.host.phase = .openTxn) (hdue : s.host.lastAccess + s.txnLimit ≤ s.up) :
    s.txnExpire = { s with host := { s.host with
      phase := .idle, staged := [], timeoutOwner := some s.host.owner, result := Status.txnTimeout.code, failPos := 0 } } :=
  if_pos ⟨hopen, hdue⟩

theorem txnTimeout_open {s : State} (hopen : s.host.phase = .openTxn) :
    s.txnTimeout = { s.waitUntil (s.host.lastAccess + s.txnLimit) with host := { s.host with
      phase := .idle, staged := [], timeoutOwner := some s.host.owner, result := Status.txnTimeout.code, failPos := 0 } } := by
  have hwait : (s.waitUntil (s.host.lastAccess + s.txnLimit)).host = s.host := rfl
  exact (if_pos hopen).trans (txnExpire_due hopen (waitUntil_reaches s _))

/-- Settles O35: each command is its block's operation on the touched state, and TXN_TIMEOUT expires the transaction at its limit. -/
theorem transactions : Obligations.Transactions := by
  intro s p t owned
  refine ⟨touch_host_restored s p, fun htakes => ?_, fun hopen => ?_, fun hclosed => ⟨s, ?_, rfl⟩⟩
  · refine ⟨fun hidle => ?_, fun hbusy => ?_, fun hown => ?_, fun hown => ?_, fun hnot => ⟨?_, ?_⟩⟩
    · exact answers_of_command rfl commandWord_begin htakes (txnBegin_idle t p hidle) rfl
    · exact answers_of_command rfl commandWord_begin htakes (txnBegin_busy t p hbusy) rfl
    · exact answers_of_command rfl commandWord_commit htakes (txnCommit_owned t p hown) ⟨rfl, rfl, rfl, rfl⟩
    · exact answers_of_command rfl commandWord_rollback htakes (txnRollback_owned t p hown) ⟨rfl, rfl, rfl, rfl, rfl, rfl⟩
    · exact answers_of_command rfl commandWord_commit htakes (txnCommit_foreign t p hnot) rfl
    · exact answers_of_command rfl commandWord_rollback htakes (txnRollback_foreign t p hnot) rfl
  · refine ⟨_, congrArg Host.Outcome.next (txnTimeout_open hopen), rfl, rfl, rfl, rfl, rfl, waitUntil_reaches s _, rfl⟩
  · exact congrArg Host.Outcome.next (if_neg hclosed)

end Sys2Proof.Proofs
end

section
/-! Restart and power commands and CLR_HOLD (R53, R89, R90, R382, R393, R406), and the statement on them (O41). -/

namespace Sys2Proof.Proofs
open Sys2Proof Sys2Proof.Machine Sys2Proof.Laws

section
variable (s : State) (p : Path)

@[simp] theorem touch_flag (f : Fld) (i : Nat) : (s.touch p).flag f i = s.flag f i := flag_of_regs (touch_regs s p) f i
@[simp] theorem touch_pump : (s.touch p).pump = s.pump := by obtain ⟨h, e⟩ := touch_host s p; rw [e]
@[simp] theorem touch_images : (s.touch p).images = s.images := by obtain ⟨h, e⟩ := touch_host s p; rw [e]
@[simp] theorem touch_rst : (s.touch p).rst = s.rst := by obtain ⟨h, e⟩ := touch_host s p; rw [e]
@[simp] theorem touch_restarting : (s.touch p).restarting = s.restarting := by obtain ⟨h, e⟩ := touch_host s p; rw [e]; rfl
@[simp] theorem touch_hasStandby : (s.touch p).hasStandby = s.hasStandby := by obtain ⟨h, e⟩ := touch_host s p; rw [e]; rfl
@[simp] theorem touch_runBlocked : (s.touch p).runBlocked = s.runBlocked := by obtain ⟨h, e⟩ := touch_host s p; rw [e]; rfl
@[simp] theorem touch_boundarySkip : (s.touch p).boundarySkip = s.boundarySkip := by obtain ⟨h, e⟩ := touch_host s p; rw [e]; rfl
end

/-! ## Frames of register fields -/

theorem regsBut_of_regs {ks : List Nat} {s u : State} (h : u.regs = s.regs) : RegsBut ks s u := fun f i _ => get_of_regs h f i

theorem regsBut_trans {ks : List Nat} {a b c : State} (h : RegsBut ks a b) (g : RegsBut ks b c) : RegsBut ks a c :=
  fun f i k => (g f i k).trans (h f i k)

theorem regsBut_set {ks : List Nat} (s : State) (f : Fld) (v i : Nat) (h : f.key i ∈ ks) : RegsBut ks s (s.set f v i) :=
  fun g j k => get_set_other s f g v i j (fun e => k (by rw [e]; exact h))

/-- A field written after another change, the rest of the frame being that change's. -/
theorem regsBut_set_after {ks : List Nat} {s u : State} (h : RegsBut ks s u) (f : Fld) (v i : Nat) (hf : f.key i ∈ ks) :
    RegsBut ks s (u.set f v i) := regsBut_trans h (regsBut_set u f v i hf)

/-! ## Restarts (R89, R90, R393) -/

theorem commandWord_warm : CommandWord 0x040010 1 := ⟨_, rfl, fun _ => rfl⟩
theorem commandWord_cold : CommandWord 0x040010 2 := ⟨_, rfl, fun _ => rfl⟩

/-- A restart waits or runs (R89). -/
def RestartBusy (t : State) : Prop := t.restarting = true ∨ t.pump.restartReq.isSome = true

section
variable {t : State} {op : Nat} (h1 : op ≠ 0) (h2 : ¬ 2 < op)
include h1 h2

theorem restartCmd_busy (h : RestartBusy t) : t.restartCmd op = (.busy, t) :=
  (if_neg h1).trans ((if_neg h2).trans (if_pos h))

theorem restartCmd_role (h : ¬ RestartBusy t) (hs : t.hasStandby = true) : t.restartCmd op = (.role, t) :=
  (if_neg h1).trans ((if_neg h2).trans ((if_neg h).trans (if_pos hs)))

theorem restartCmd_done (h : ¬ RestartBusy t) (hs : t.hasStandby = false) :
    t.restartCmd op = (.done, { t with pump := { t.pump with restartReq := some (decide (op = 2), t.boundarySkip) } }) :=
  (if_neg h1).trans ((if_neg h2).trans ((if_neg h).trans (if_neg (Bool.eq_false_iff.1 hs))))

end

/-! ## Power commands (R388, R406) -/

theorem commandWord_run : CommandWord 0x010000 1 := ⟨_, rfl, fun _ => rfl⟩
theorem commandWord_park : CommandWord 0x010000 2 := ⟨_, rfl, fun _ => rfl⟩
theorem commandWord_sleep : CommandWord 0x010000 3 := ⟨_, rfl, fun _ => rfl⟩

/-- A power command accepted for the next boundary that is 10 µs away (R406). -/
def powerAsked (t : State) (op : Nat) : State := { t with pwr := { t.pwr with cmd := some (op, t.boundarySkip) } }

theorem pwrCmd_run (t : State) : t.pwrCmd 1 =
    if t.mode = .park then
      if t.restarting ∨ t.pump.restartReq.isSome then (.busy, t) else if t.runBlocked then (.state, t) else (.done, powerAsked t 1)
    else (.state, t) := by
  by_cases h : t.mode = .park <;> simp [State.pwrCmd, powerAsked, h]

theorem pwrCmd_park (t : State) : t.pwrCmd 2 =
    if t.mode = .run then if t.hasStandby then (.role, t) else (.done, powerAsked t 2) else (.state, t) := by
  by_cases h : t.mode = .run <;> simp [State.pwrCmd, powerAsked, h]

theorem pwrCmd_sleep (t : State) : t.pwrCmd 3 =
    if t.mode = .park then if t.flag Reg.PWR_STAT_DIP then (.busy, t) else (.done, powerAsked t 3) else (.state, t) := by
  by_cases h : t.mode = .park <;> simp [State.pwrCmd, powerAsked, h]

/-! ## CLR_HOLD (R382) -/

theorem commandWord_clrHold : CommandWord 0x030010 1 := ⟨_, rfl, fun _ => rfl⟩

/-- Settles O41: each command is its block's operation on the touched state, case by case. -/
theorem powerCommands : Obligations.PowerCommands := by
  intro s p t busy asked
  have hbusy : RestartBusy t ↔ busy := by simp [RestartBusy, busy, t]
  have hasked (op : Nat) : asked op (powerAsked t op) := by simp [asked, powerAsked, t]
  refine ⟨fun htakes => ?_, fun htakes => ⟨?_, ?_, ?_, ?_, ?_, ?_, ?_, ?_, ?_, ?_⟩, fun htakes => ?_⟩
  · simp only [List.forall_mem_cons]
    have restarts {c : Instr} {op : Nat} (hx : exec c s = .next (s.hostCmd p 0x040010 0 op)) (hw : CommandWord 0x040010 op)
        (hv : op % 4 = op) (h1 : op ≠ 0) (h2 : ¬ 2 < op) :
        (busy → Answers c s p .busy fun u => u = t)
        ∧ (¬ busy → s.hasStandby = true → Answers c s p .role fun u => u = t)
        ∧ (¬ busy → s.hasStandby = false → Answers c s p .done fun u =>
          u.pump.restartReq = some (decide (op = 2), s.boundarySkip) ∧ { u with pump := { u.pump with restartReq := s.pump.restartReq } } = t) := by
      have hcmd : t.command p 0x040010 0 op = t.restartCmd op := congrArg t.restartCmd hv
      refine ⟨fun h => ?_, fun h hs => ?_, fun h hs => ?_⟩
      · exact answers_of_command hx hw htakes (hcmd.trans (restartCmd_busy h1 h2 (hbusy.2 h))) rfl
      · exact answers_of_command hx hw htakes (hcmd.trans (restartCmd_role h1 h2 (mt hbusy.1 h) (by simpa [t] using hs))) rfl
      · refine answers_of_command hx hw htakes (hcmd.trans (restartCmd_done h1 h2 (mt hbusy.1 h) (by simpa [t] using hs))) ⟨?_, ?_⟩
        · simp [t]
        · obtain ⟨h, e⟩ := touch_host s p
          simp only [t, e]
    exact ⟨restarts rfl commandWord_warm rfl (by decide) (by decide), restarts rfl commandWord_cold rfl (by decide) (by decide), by simp⟩
  · intro hm hb hr
    exact answers_of_command rfl commandWord_run htakes ((pwrCmd_run t).trans (by simp_all [t, busy])) (hasked 1)
  · intro hm hb hr
    exact answers_of_command rfl commandWord_run htakes ((pwrCmd_run t).trans (by simp_all [t, busy])) rfl
  · intro hm hb
    exact answers_of_command rfl commandWord_run htakes ((pwrCmd_run t).trans (by simp_all [t, busy])) rfl
  · intro hm
    exact answers_of_command rfl commandWord_run htakes ((pwrCmd_run t).trans (by simp_all [t])) rfl
  · intro hm hs
    exact answers_of_command rfl commandWord_park htakes ((pwrCmd_park t).trans (by simp_all [t])) (hasked 2)
  · intro hm hs
    exact answers_of_command rfl commandWord_park htakes ((pwrCmd_park t).trans (by simp_all [t])) rfl
  · intro hm
    exact answers_of_command rfl commandWord_park htakes ((pwrCmd_park t).trans (by simp_all [t])) rfl
  · intro hm hd
    exact answers_of_command rfl commandWord_sleep htakes ((pwrCmd_sleep t).trans (by simp_all [t])) (hasked 3)
  · intro hm hd
    exact answers_of_command rfl commandWord_sleep htakes ((pwrCmd_sleep t).trans (by simp_all [t])) rfl
  · intro hm
    exact answers_of_command rfl commandWord_sleep htakes ((pwrCmd_sleep t).trans (by simp_all [t])) rfl
  · refine answers_of_command rfl commandWord_clrHold htakes rfl ⟨rfl, rfl, ?_, ?_, ?_, ?_⟩
    · exact (flag_set_other _ _ _ _ _ _ (by decide)).trans (flag_setFlag_same _ _ _ _ (by decide))
    · exact get_set_same _ _ _ _
    · exact regsBut_set_after (regsBut_set_after (regsBut_of_regs (by simp)) _ _ 0 (by simp)) _ _ 0 (by simp)
    · obtain ⟨h, e⟩ := touch_host s p
      simp only [t, e]
      rfl

end Sys2Proof.Proofs
end

section
/-! The commands on images, the check of an image and the save of the settings (R62, R399, R435, R439, R440), and the statement on them (O44). -/

namespace Sys2Proof.Proofs
open Sys2Proof Sys2Proof.Machine Sys2Proof.Laws

theorem commandWord_imgLoad : CommandWord 0x130050 1 := ⟨_, rfl, fun _ => rfl⟩
theorem commandWord_imgVerify : CommandWord 0x130050 2 := ⟨_, rfl, fun _ => rfl⟩
theorem commandWord_imgActivate : CommandWord 0x130050 3 := ⟨_, rfl, fun _ => rfl⟩
theorem commandWord_imgAbort : CommandWord 0x130050 4 := ⟨_, rfl, fun _ => rfl⟩
theorem commandWord_imgSave : CommandWord 0x000050 1 := ⟨_, rfl, fun _ => rfl⟩

@[simp] theorem touch_imgLoadState (s : State) (p : Path) : (s.touch p).imgLoadState = s.imgLoadState := touch_get s p _ _
@[simp] theorem touch_imgSaving (s : State) (p : Path) : (s.touch p).imgSaving = s.imgSaving := by simp [State.imgSaving]

/-- The copy that booted and the one that did not, of the copies that the NV die holds; b says that copy B booted (R440). -/
def bootedCopy (b : Bool) (i : ImageState) : Option (ImageDesc × Verdict) := if b then i.copyB else i.copyA
def otherCopy (b : Bool) (i : ImageState) : Option (ImageDesc × Verdict) := if b then i.copyA else i.copyB

/-- Writing the copy that did not boot leaves the booted one, the pointer, the load window and a save in progress. -/
theorem setOtherCopy_images {s : State} {b : Bool} (hb : s.flag Reg.IMG_STAT_BOOT_B = b) (c : Option (ImageDesc × Verdict)) :
    otherCopy b (s.setOtherCopy c).images = c ∧ bootedCopy b (s.setOtherCopy c).images = bootedCopy b s.images
      ∧ (s.setOtherCopy c).images.pointerB = s.images.pointerB ∧ (s.setOtherCopy c).images.loadWords = s.images.loadWords
      ∧ (s.setOtherCopy c).images.saving = s.images.saving := by
  unfold State.setOtherCopy State.otherCopyB
  rw [hb]
  cases b <;> exact ⟨rfl, rfl, rfl, rfl, rfl⟩

/-! ## The check of an object (R435) -/

theorem verifyObject_why_done {s : State} {v : Verdict} {k n : Nat} {j : Bool} (h : (s.verifyObject v k n j).1 = .done) :
    (s.verifyObject v k n j).2 = 0 := by
  unfold State.verifyObject at h ⊢
  split_ifs at h ⊢
  rfl

theorem verifyObject_why_lt (s : State) (v : Verdict) (k n : Nat) (j : Bool) : (s.verifyObject v k n j).2 < 4 := by
  unfold State.verifyObject
  split_ifs <;> decide

theorem code_lt (st : Status) : st.code < 2 ^ 8 := by cases st <;> decide

theorem verifyEvents_quiet (s : State) (why : Nat) : Quiet s (s.verifyEvents why) := by
  unfold State.verifyEvents
  split_ifs
  · exact raise_quiet _ _
  · exact raise_quiet _ _
  · exact quiet_refl _

/-- What the check of an image writes of SEC_IMG_STAT before it decides on the copy (R439). -/
def verifyShown (s : State) (g : Verdict) (d : ImageDesc) : State :=
  ((s.set Reg.SEC_IMG_STAT_RESULT (s.verifyImage g d).1.code).set Reg.SEC_IMG_STAT_WHY (s.verifyImage g d).2).set Reg.SEC_IMG_STAT_SVN
    (if d.svn ≤ 64 then d.svn else 127)

theorem verifyShown_flag_bootB (s : State) (g : Verdict) (d : ImageDesc) :
    (verifyShown s g d).flag Reg.IMG_STAT_BOOT_B = s.flag Reg.IMG_STAT_BOOT_B := by
  unfold verifyShown
  rw [flag_set_other _ _ _ _ _ _ (by decide), flag_set_other _ _ _ _ _ _ (by decide), flag_set_other _ _ _ _ _ _ (by decide)]

theorem verifyShown_why (s : State) (g : Verdict) (d : ImageDesc) :
    (verifyShown s g d).get Reg.SEC_IMG_STAT_WHY = (s.verifyImage g d).2 := by
  unfold verifyShown
  rw [get_set_other _ _ _ _ _ _ (by decide), get_set_same]
  exact Nat.mod_eq_of_lt (verifyObject_why_lt ..)

theorem verifyShown_result (s : State) (g : Verdict) (d : ImageDesc) :
    (verifyShown s g d).get Reg.SEC_IMG_STAT_RESULT = (s.verifyImage g d).1.code := by
  unfold verifyShown
  rw [get_set_other _ _ _ _ _ _ (by decide), get_set_other _ _ _ _ _ _ (by decide), get_set_same]
  exact Nat.mod_eq_of_lt (code_lt _)

theorem quietRest_set (s : State) (f : Fld) (v i : Nat) : (s.set f v i).quietRest = s.quietRest := rfl

theorem verifyShown_quietRest (s : State) (g : Verdict) (d : ImageDesc) : (verifyShown s g d).quietRest = s.quietRest := by
  unfold verifyShown
  rw [quietRest_set, quietRest_set, quietRest_set]

/-- v with registers and images put back to what they are in s. -/
def noImages (s v : State) : State := { v with regs := s.regs, images := s.images }
theorem noImages_set (s v : State) (f : Fld) (x i : Nat) : noImages s (v.set f x i) = noImages s v := rfl
theorem noImages_setOtherCopy (s v : State) (c : Option (ImageDesc × Verdict)) : noImages s (v.setOtherCopy c) = noImages s v := rfl

/-- An image that passes the check stands in the copy that did not boot. -/
theorem imgVerifyDone_passed {s : State} {g : Verdict} {d : ImageDesc} (hst : s.imgLoadState = 2) (h : (s.verifyImage g d).1 = .done) :
    s.imgVerifyDone g d = ((verifyShown s g d).setOtherCopy (some (d, g))).set Reg.SEC_IMG_STAT_STATE 3 :=
  (if_pos hst).trans (if_pos h)

theorem imgVerifyDone_failed {s : State} {g : Verdict} {d : ImageDesc} (hst : s.imgLoadState = 2) (h : (s.verifyImage g d).1 ≠ .done) :
    s.imgVerifyDone g d = ((verifyShown s g d).verifyEvents (s.verifyImage g d).2).set Reg.SEC_IMG_STAT_STATE 0 :=
  (if_pos hst).trans (if_neg h)

/-- What a passed check leaves (R440). -/
theorem imgVerifyDone_stored {s u : State} {g : Verdict} {d : ImageDesc} (hpass : (s.verifyImage g d).1 = .done)
    (hu : u = ((verifyShown s g d).setOtherCopy (some (d, g))).set Reg.SEC_IMG_STAT_STATE 3) :
    u.imgLoadState = 3 ∧ otherCopy (s.flag Reg.IMG_STAT_BOOT_B) u.images = some (d, g)
      ∧ bootedCopy (s.flag Reg.IMG_STAT_BOOT_B) u.images = bootedCopy (s.flag Reg.IMG_STAT_BOOT_B) s.images
      ∧ u.get Reg.SEC_IMG_STAT_WHY = 0 ∧ noImages s u = s := by
  obtain ⟨hother, hbooted, -⟩ := setOtherCopy_images (verifyShown_flag_bootB s g d) (some (d, g))
  have himages : (verifyShown s g d).images = s.images := by simp [verifyShown]
  have hwhy := (verifyShown_why s g d).trans (verifyObject_why_done hpass)
  have hrest : noImages s (verifyShown s g d) = s := by
    unfold verifyShown
    rw [noImages_set, noImages_set, noImages_set]
    rfl
  subst hu
  refine ⟨get_set_same _ _ _ _, ?_, ?_, ?_, ?_⟩
  · rw [set_images, hother]
  · rw [set_images, hbooted, himages]
  · rw [get_set_other _ _ _ _ _ _ (by decide)]
    exact hwhy
  · rw [noImages_set, noImages_setOtherCopy, hrest]

/-- What a failed check leaves (R439, R440). -/
theorem verifyEvents_shown {s u : State} {g : Verdict} {d : ImageDesc}
    (hu : u = ((verifyShown s g d).verifyEvents (s.verifyImage g d).2).set Reg.SEC_IMG_STAT_STATE 0) :
    u.imgLoadState = 0 ∧ u.images = s.images ∧ u.get Reg.SEC_IMG_STAT_RESULT = (s.verifyImage g d).1.code
      ∧ u.get Reg.SEC_IMG_STAT_WHY = (s.verifyImage g d).2 ∧ u.quietRest = s.quietRest := by
  have hq := verifyEvents_quiet (verifyShown s g d) (s.verifyImage g d).2
  have hwhy := verifyShown_why s g d
  have hresult := verifyShown_result s g d
  have hrest := verifyShown_quietRest s g d
  have himages : (verifyShown s g d).images = s.images := by simp [verifyShown]
  subst hu
  generalize verifyShown s g d = x at *
  refine ⟨get_set_same _ _ _ _, (Quiet.images hq).trans himages, ?_, ?_, ?_⟩
  · rw [get_set_other _ _ _ _ _ _ (by decide), Quiet.get hq _ _ (by decide), hresult]
  · rw [get_set_other _ _ _ _ _ _ (by decide), Quiet.get hq _ _ (by decide), hwhy]
  · rw [quietRest_set, hq.1, hrest]

/-! ## The end of a save (R62, R399) -/

/-- The state after a good save: the saved settings stand in the copy that had not booted, which boots from now on. -/
def settingsSaved (s : State) (l : List (Nat × Nat)) : State :=
  let u := ({ s with images := { s.images with saving := none } }).setOtherCopy (s.savedCopy l)
  (({ u with images := { u.images with pointerB := s.otherCopyB, bootSettings := l } }).setFlag Reg.IMG_STAT_BOOT_B s.otherCopyB).set
    Reg.IMG_STAT_SAVE_RESULT 0

theorem settingsSaved_images (s : State) (l : List (Nat × Nat)) : (settingsSaved s l).images =
    { (({ s with images := { s.images with saving := none } }).setOtherCopy (s.savedCopy l)).images with
      pointerB := s.otherCopyB, bootSettings := l } := rfl

theorem noImages_settingsSaved (s : State) (l : List (Nat × Nat)) : noImages s (settingsSaved s l) = s := by
  unfold settingsSaved State.setFlag
  rw [noImages_set, noImages_set]
  rfl

theorem imgSaveDone_good {s : State} {l : List (Nat × Nat)} (hl : s.images.saving = some l) (hdip : s.flag Reg.PWR_STAT_DIP = false) :
    s.imgSaveDone true = settingsSaved s l := by
  unfold State.imgSaveDone
  simp only [hl, hdip, Bool.false_eq_true, if_false]
  rfl

/-- A save that fails its verification: SAVE_RESULT takes a free value. -/
theorem imgSaveDone_bad {s : State} {l : List (Nat × Nat)} (hl : s.images.saving = some l) (hdip : s.flag Reg.PWR_STAT_DIP = false) :
    s.imgSaveDone false = ({ s with images := { s.images with saving := none }, freeCtr := s.freeCtr + 1 }).set
      Reg.IMG_STAT_SAVE_RESULT (s.draw 8).1 := by
  unfold State.imgSaveDone
  simp only [hl, hdip, Bool.false_eq_true, if_false]
  rfl

theorem imgSaveDone_stored {s : State} {l : List (Nat × Nat)} :
    otherCopy (s.flag Reg.IMG_STAT_BOOT_B) (settingsSaved s l).images = s.savedCopy l
      ∧ bootedCopy (s.flag Reg.IMG_STAT_BOOT_B) (settingsSaved s l).images = bootedCopy (s.flag Reg.IMG_STAT_BOOT_B) s.images
      ∧ (settingsSaved s l).images.saving = none := by
  obtain ⟨hother, hbooted, -, -, hsaving⟩ :=
    setOtherCopy_images (s := { s with images := { s.images with saving := none } }) (b := s.flag Reg.IMG_STAT_BOOT_B) rfl (s.savedCopy l)
  rw [settingsSaved_images]
  exact ⟨hother, hbooted, hsaving⟩

/-! ## The commands (R440) -/

section
variable (t : State)

/-- The load state n after an accepted command, with RESULT DONE. -/
def imgMoved (u : State) (n : Nat) : State := (u.set Reg.SEC_IMG_STAT_STATE n).set Reg.SEC_IMG_STAT_RESULT 0

theorem imgMoved_state (u : State) {n : Nat} (h : n < 8) : (imgMoved u n).imgLoadState = n := by
  unfold imgMoved State.imgLoadState
  rw [get_set_other _ _ _ _ _ _ (by decide), get_set_same]
  exact Nat.mod_eq_of_lt h

theorem imgMoved_result (u : State) (n : Nat) : (imgMoved u n).get Reg.SEC_IMG_STAT_RESULT = 0 := get_set_same _ _ _ _

theorem imgMoved_regsBut {s u : State} (h : u.regs = s.regs) (n : Nat) :
    RegsBut [Reg.SEC_IMG_STAT_STATE.key 0, Reg.SEC_IMG_STAT_RESULT.key 0] s (imgMoved u n) :=
  regsBut_set_after (regsBut_set_after (regsBut_of_regs h) _ _ 0 (by simp)) _ _ 0 (by simp)

/-- The copy that did not boot emptied, with the load window (R440). -/
def loadCleared : State := ({ t with images := { t.images with loadWords := [] } }).setOtherCopy none

theorem imgCmd_load : t.imgCmd 1 =
    if t.imgSaving then (.busy, t.set Reg.SEC_IMG_STAT_RESULT Status.busy.code)
    else if t.imgLoadState = 2 ∨ t.imgLoadState = 4 then (.state, t.set Reg.SEC_IMG_STAT_RESULT Status.state.code)
    else (.done, imgMoved (loadCleared t) 1) := by
  simp only [State.imgCmd, State.imgCmdCore]
  split_ifs <;> rfl

theorem imgCmd_verify : t.imgCmd 2 =
    if t.imgLoadState = 1 then (.done, imgMoved t 2) else (.state, t.set Reg.SEC_IMG_STAT_RESULT Status.state.code) := by
  simp only [State.imgCmd, State.imgCmdCore]
  split_ifs <;> rfl

theorem imgCmd_activate : t.imgCmd 3 =
    if t.imgLoadState = 3 then (.done, imgMoved { t with images := { t.images with pointerB := t.otherCopyB } } 4)
    else (.state, t.set Reg.SEC_IMG_STAT_RESULT Status.state.code) := by
  simp only [State.imgCmd, State.imgCmdCore]
  split_ifs <;> rfl

theorem imgCmd_abort : t.imgCmd 4 =
    if t.imgLoadState = 1 ∨ t.imgLoadState = 2 ∨ t.imgLoadState = 3 then (.done, imgMoved (loadCleared t) 0)
    else (.state, t.set Reg.SEC_IMG_STAT_RESULT Status.state.code) := by
  simp only [State.imgCmd, State.imgCmdCore]
  split_ifs <;> rfl

end

/-- A load window's write over a path that takes it answers what the window answers (R136, R440). -/
theorem hostWindow_route {s : State} {p : Path} {w : Nat} (v : Word) (hw : w < 0x300000) (hup : s.pathUp p = true) (hboot : s.booted = true)
    (hwr : s.pathWrites p = true) :
    s.hostWindow p 0x44000000 0x44C00000 (0x44000000 + 4 * w) v = ((s.touch p).imgWindow w v).2.answer p ((s.touch p).imgWindow w v).1 := by
  obtain ⟨h, e⟩ := touch_host s p
  have hb : (s.touch p).booted = true := by rw [e]; exact hboot
  have hpw : (s.touch p).pathWrites p = true := by rw [e]; exact hwr
  have hword : (0x44000000 + 4 * w) % 16777216 / 4 = w := by omega
  have halign : (0x44000000 + 4 * w) % 4 = 0 := by omega
  have hwin : (s.touch p).writeWindow (0x44000000 + 4 * w) v = (s.touch p).imgWindow w v := by
    unfold State.writeWindow
    rw [hword, if_neg (by omega), if_neg (by omega), if_pos (by omega)]
  have hwrite : (s.touch p).writeWord p (0x44000000 + 4 * w) 0 v = (s.touch p).imgWindow w v := by
    unfold State.writeWord
    rw [hb, hpw, ← hwin]
    simp only [Bool.not_true, Bool.false_and, Bool.false_eq_true, if_false]
    rw [if_neg (by omega), if_pos (by omega)]
  unfold State.hostWindow State.hostWord
  simp only [halign, hwrite, hup, if_true]
  rw [if_pos (by omega)]

/-- What a path that takes commands of a block has. -/
theorem takes_iff {s : State} {p : Path} {blk : Nat} : s.takes p blk = true ↔
    s.pathUp p = true ∧ s.booted = true ∧ s.pathWrites p = true ∧ s.variant.has blk = true ∧ bitAt (s.get Reg.SYS_LOCK_LOCK) blk = false := by
  simp only [State.takes, Bool.and_eq_true, Bool.not_eq_true', and_assoc]

/-- From s, which an access has made t, to u the image load reached state n with RESULT DONE; the booted copy and all but images and these
fields stay. -/
def ImageMoved (s t : State) (n : Nat) (u : State) : Prop :=
  u.imgLoadState = n ∧ u.get Reg.SEC_IMG_STAT_RESULT = 0 ∧ RegsBut [Reg.SEC_IMG_STAT_STATE.key 0, Reg.SEC_IMG_STAT_RESULT.key 0] s u
    ∧ bootedCopy (s.flag Reg.IMG_STAT_BOOT_B) u.images = bootedCopy (s.flag Reg.IMG_STAT_BOOT_B) s.images
    ∧ { u with regs := s.regs, images := s.images } = t

section
variable {s t : State} (hregs : t.regs = s.regs) (himages : t.images = s.images)
include hregs himages

theorem imageMoved_of {u : State} {n : Nat} (hn : n < 8) (hu : { u with images := t.images } = t)
    (hb : bootedCopy (s.flag Reg.IMG_STAT_BOOT_B) u.images = bootedCopy (s.flag Reg.IMG_STAT_BOOT_B) s.images) :
    ImageMoved s t n (imgMoved u n) := by
  refine ⟨imgMoved_state _ hn, imgMoved_result _ _, imgMoved_regsBut ?_ n, hb, ?_⟩
  · exact (congrArg State.regs hu).trans hregs
  · rw [← hregs, ← himages]
    calc noImages t (imgMoved u n) = noImages t u := by unfold imgMoved; rw [noImages_set, noImages_set]
      _ = noImages t { u with images := t.images } := rfl
      _ = t := by rw [hu]; rfl

theorem imageMoved_cleared {n : Nat} (hn : n < 8) :
    ImageMoved s t n (imgMoved (loadCleared t) n) ∧ otherCopy (s.flag Reg.IMG_STAT_BOOT_B) (loadCleared t).images = none
      ∧ (loadCleared t).images.loadWords = [] ∧ (loadCleared t).images.pointerB = s.images.pointerB := by
  obtain ⟨hother, hbooted, hpointer, hwords, -⟩ := setOtherCopy_images
    (s := { t with images := { t.images with loadWords := [] } }) (flag_of_regs hregs Reg.IMG_STAT_BOOT_B 0) none
  refine ⟨imageMoved_of hregs himages hn rfl (hbooted.trans ?_), hother, hwords, hpointer.trans ?_⟩
  · rw [← himages]; rfl
  · rw [← himages]

omit himages in
theorem imgRefused : (t.set Reg.SEC_IMG_STAT_RESULT Status.state.code).get Reg.SEC_IMG_STAT_RESULT = Status.state.code
    ∧ RegsBut [Reg.SEC_IMG_STAT_RESULT.key 0] s (t.set Reg.SEC_IMG_STAT_RESULT Status.state.code)
    ∧ { t.set Reg.SEC_IMG_STAT_RESULT Status.state.code with regs := s.regs } = t := by
  refine ⟨get_set_same _ _ _ _, regsBut_set_after (regsBut_of_regs hregs) _ _ 0 (by simp), ?_⟩
  rw [← hregs]
  rfl

end

/-- Settles O44: each command is its block's operation on the touched state; the check of an image and the end of a save are one equation
for either outcome. -/
theorem imageCommands : Obligations.ImageCommands := by
  intro s p w v g d t st booted other ok no r
  have hst : t.imgLoadState = st := touch_imgLoadState s p
  have hti : t.images = s.images := touch_images s p
  have hregs : t.regs = s.regs := touch_regs s p
  have hno : no (t.set Reg.SEC_IMG_STAT_RESULT Status.state.code) := imgRefused hregs
  refine ⟨fun htakes => ⟨?_, ?_, ?_, ?_, ?_, ?_, ?_, ?_, ?_, ?_⟩, ?_, ?_, ?_, ?_, ?_⟩
  · intro hsave h2 h4
    have hc : t.imgCmd 1 = (.done, imgMoved (loadCleared t) 1) := by
      rw [imgCmd_load, hst, if_neg (by simp [t, hsave]), if_neg (by omega)]
    exact answers_of_command rfl commandWord_imgLoad htakes hc (imageMoved_cleared hregs hti (by decide))
  · intro hsave h
    have hc : t.imgCmd 1 = (.state, t.set Reg.SEC_IMG_STAT_RESULT Status.state.code) := by
      rw [imgCmd_load, hst, if_neg (by simp [t, hsave]), if_pos h]
    exact answers_of_command rfl commandWord_imgLoad htakes hc hno
  · intro h
    have hc : t.imgCmd 2 = (.done, imgMoved t 2) := by rw [imgCmd_verify, hst, if_pos h]
    exact answers_of_command rfl commandWord_imgVerify htakes hc ⟨imageMoved_of hregs hti (by decide) rfl (by rw [hti]), hti⟩
  · intro h
    have hc : t.imgCmd 2 = (.state, t.set Reg.SEC_IMG_STAT_RESULT Status.state.code) := by rw [imgCmd_verify, hst, if_neg h]
    exact answers_of_command rfl commandWord_imgVerify htakes hc hno
  · intro h
    have hc := imgCmd_activate t
    rw [hst, if_pos h] at hc
    refine answers_of_command rfl commandWord_imgActivate htakes hc ⟨imageMoved_of hregs hti (by decide) rfl ?_, ?_⟩
    · rw [hti]; rfl
    · rw [← hti, ← show t.otherCopyB = s.otherCopyB by simp [State.otherCopyB, t]]
      rfl
  · intro h
    have hc : t.imgCmd 3 = (.state, t.set Reg.SEC_IMG_STAT_RESULT Status.state.code) := by rw [imgCmd_activate, hst, if_neg h]
    exact answers_of_command rfl commandWord_imgActivate htakes hc hno
  · intro h
    have hc : t.imgCmd 4 = (.done, imgMoved (loadCleared t) 0) := by rw [imgCmd_abort, hst, if_pos h]
    obtain ⟨hok, hother, -, hpointer⟩ := imageMoved_cleared hregs hti (n := 0) (by decide)
    exact answers_of_command rfl commandWord_imgAbort htakes hc ⟨hok, hother, hpointer⟩
  · intro h
    have hc : t.imgCmd 4 = (.state, t.set Reg.SEC_IMG_STAT_RESULT Status.state.code) := by rw [imgCmd_abort, hst, if_neg (by omega)]
    exact answers_of_command rfl commandWord_imgAbort htakes hc hno
  · intro hw hl
    obtain ⟨hup, hboot, hwr, -, -⟩ := takes_iff.1 htakes
    have hc : t.imgWindow w v = _ := if_pos (hst.trans hl)
    refine ⟨_, congrArg Host.Outcome.next ((hostWindow_route v hw hup hboot hwr).trans (by rw [hc])), storeFind_put_same _ _ _, ?_⟩
    rw [← hti]
  · intro hw hl
    obtain ⟨hup, hboot, hwr, -, -⟩ := takes_iff.1 htakes
    have hc : t.imgWindow w v = (.state, t) := if_neg (fun e => hl (hst.symm.trans e))
    exact ⟨_, congrArg Host.Outcome.next ((hostWindow_route v hw hup hboot hwr).trans (by rw [hc])), rfl⟩
  · intro htakes hidle hsave hfall hempty
    have hc : t.imgSave = (.done, { t with images := { t.images with saveWanted := true } }) := by
      unfold State.imgSave
      rw [if_neg (not_not_intro hidle), if_neg (by simp [t, hsave]), if_neg (by simp [t, hfall]), hst, if_neg (by omega), if_neg (by omega)]
    exact answers_of_command rfl commandWord_imgSave htakes hc rfl
  · intro htakes hopen
    exact answers_of_command rfl commandWord_imgSave htakes (if_pos hopen) rfl
  · intro h2 hpass
    exact ⟨_, congrArg Host.Outcome.next (imgVerifyDone_passed h2 hpass), imgVerifyDone_stored hpass rfl⟩
  · intro h2 hfail
    exact ⟨_, congrArg Host.Outcome.next (imgVerifyDone_failed h2 hfail), verifyEvents_shown rfl⟩
  · intro l hl hdip
    obtain ⟨hother, hbooted, hsaving⟩ := imgSaveDone_stored (s := s) (l := l)
    refine ⟨⟨_, congrArg Host.Outcome.next (imgSaveDone_good hl hdip), ?_⟩, ⟨_, congrArg Host.Outcome.next (imgSaveDone_bad hl hdip), rfl, rfl⟩⟩
    exact ⟨hsaving, rfl, hother, hbooted, rfl, get_set_same _ _ _ _, noImages_settingsSaved s l⟩

end Sys2Proof.Proofs
end

section
/-! The keeper, the bank writes of the retentive mirror and the entry of SLEEP (R49, R77, R408, R410 to R414, R462), and the statement on
them (O31). -/

namespace Sys2Proof.Proofs
open Sys2Proof Sys2Proof.Machine Sys2Proof.Laws

/-! ## Events recorded now or at the next boot -/

/-- From s to u nothing changed but what recording an event may change, and the events noted for stage LOAD. -/
def Noted (s u : State) : Prop := u.keep = s.keep ∧ FieldsBut [] s u ∧ { u.quietRest with rst := s.rst } = s.quietRest

theorem noted_quiet {s u : State} (h : Quiet s u) : Noted s u := ⟨Quiet.keep h, fieldsBut_quiet h, by rw [h.1]; rfl⟩

/-- An event noted for stage LOAD. -/
theorem noted_later (s : State) (l : List (Nat × Nat)) : Noted s { s with rst := { s.rst with toRecord := l } } :=
  ⟨rfl, fieldsBut_regs rfl, rfl⟩

/-- An event recorded now in RUN, PARK and REPLAY, else noted for stage LOAD. -/
theorem noted_ite (s : State) (code : Nat) :
    Noted s (if s.running then s.raise code else { s with rst := { s.rst with toRecord := s.rst.toRecord ++ [(code, 0)] } }) := by
  split
  · exact noted_quiet (raise_quiet s code)
  · exact noted_later s _

theorem noted_raiseOrLater (s : State) (code : Nat) : Noted s (s.raiseOrLater code) := by
  unfold State.raiseOrLater
  split
  · exact noted_quiet (raise_quiet s code)
  · exact noted_later s _

/-- The keeper changed first, then an event noted. -/
theorem noted_keep {s u : State} {k : KeepState} (h : Noted { s with keep := k } u) :
    u.keep = k ∧ FieldsBut [] s u ∧ { u.quietRest with keep := s.keep, rst := s.rst } = s.quietRest := by
  obtain ⟨hkeep, hfields, hrest⟩ := h
  exact ⟨hkeep, fieldsBut_of_regs rfl hfields, congrArg (fun x : State => { x with keep := s.keep }) hrest⟩

/-! ## The retentive mirror (R77) -/

/-- The mirror with the written bank in its place and no write in progress. -/
def bankWritten (m : MirrorState) (b : Bool) (bank : MirrorBank) : MirrorState :=
  if b then { m with writing := none, bank1 := some bank } else { m with writing := none, bank0 := some bank }

theorem bankWritten_banks (m : MirrorState) (b : Bool) (bank : MirrorBank) :
    if b then (bankWritten m b bank).bank1 = some bank ∧ (bankWritten m b bank).bank0 = m.bank0
    else (bankWritten m b bank).bank0 = some bank ∧ (bankWritten m b bank).bank1 = m.bank1 := by
  cases b <;> exact ⟨rfl, rfl⟩

theorem bankWritten_writing (m : MirrorState) (b : Bool) (bank : MirrorBank) : (bankWritten m b bank).writing = none := by
  cases b <;> rfl

theorem mirrorDone_eq {s : State} {b : Bool} {bank : MirrorBank} (h : s.mirror.writing = some (b, bank)) :
    s.mirrorDone = if s.mirror.waiting = true then ({ s with mirror := bankWritten s.mirror b bank }).mirrorStart
      else { s with mirror := bankWritten s.mirror b bank } := by
  unfold State.mirrorDone
  rw [h]
  cases b <;> rfl

/-! ## Counters of the keeper (R413) -/

theorem satInc_eq_min (v : Nat) : satInc 32 v = min (v + 1) 4294967295 := by
  unfold satInc
  split <;> omega

theorem bitAt_eq_testBit (v i : Nat) : bitAt v i = v.testBit i := by
  rw [Nat.testBit_eq_decide_div_mod_eq]
  rfl

/-- Writing the lifetime record is quiet (R424). -/
theorem writeLifetime_quiet (s : State) : Quiet s s.writeLifetime := by
  unfold State.writeLifetime
  split
  · exact quiet_refl s
  dsimp only
  split
  · exact count_quiet s _ (by decide)
  · next u hopened =>
    have hu : Quiet s u := by
      split at hopened
      · cases hopened
        exact quiet_refl s
      · exact openRecord_quiet _ _ _ _ _ hopened
    split
    · exact hu
    · exact quiet_trans hu (quiet_of_regs rfl rfl)

/-- A posted write of KEEP_WAKE_CFG, and one of KEEP_STAT, reach the keeper (R49). -/
theorem keepComplete_keep (s : State) :
    (∀ w, s.keep.postedCfg = some w → s.keepComplete.keep.wakeNEn = w.testBit 0 ∧ s.keepComplete.keep.caseWakeEn = w.testBit 1)
      ∧ (∀ w, s.keep.postedStat = some w → s.keepComplete.keep.vbatLow = (s.keep.vbatLow && !w.testBit 1)
        ∧ s.keepComplete.keep.caseOpen = (s.keep.caseOpen && !w.testBit 2))
      ∧ s.keepComplete.keep.postedCfg = none ∧ s.keepComplete.keep.postedStat = none ∧ { s.keepComplete with keep := s.keep } = s := by
  unfold State.keepComplete
  cases hc : s.keep.postedCfg <;> cases hs : s.keep.postedStat <;>
    simp [hc, hs, State.wakeCfg, State.keepClear, bitAt_eq_testBit]

theorem mirrorWriteDone_bank {s : State} {b : Bool} {bank : MirrorBank} (h : s.mirror.writing = some (b, bank)) :
    Completes .mirrorWriteDone s fun u =>
      (if b then u.mirror.bank1 = some bank ∧ u.mirror.bank0 = s.mirror.bank0 else u.mirror.bank0 = some bank ∧ u.mirror.bank1 = s.mirror.bank1)
        ∧ (u.mirror.writing ≠ none ↔ s.mirror.waiting = true) ∧ { u with mirror := s.mirror } = s := by
  refine ⟨_, congrArg Host.Outcome.next (mirrorDone_eq h), ?_⟩
  have hbanks := bankWritten_banks s.mirror b bank
  split
  · next hw => exact ⟨hbanks, ⟨fun _ => hw, fun _ => Option.some_ne_none _⟩, rfl⟩
  · next hw => exact ⟨hbanks, ⟨fun hn => absurd (bankWritten_writing s.mirror b bank) hn, fun hn => absurd hn hw⟩, rfl⟩

theorem keeperLost_lost {s : State} (h : s.keep.onVin = false) : Completes .keeperLost s fun u =>
    u.keep = { running := false, lost := true, mirror := s.keep.mirror, caseLevel := s.keep.caseLevel, wakeN := s.keep.wakeN, onVin := false }
      ∧ { u with keep := s.keep } = s := by
  refine ⟨_, congrArg Host.Outcome.next (if_neg (Bool.eq_false_iff.1 h)), ?_, rfl⟩
  rw [h]

theorem keeperStart_started {s : State} (hl : s.keep.lost = true) (hr : s.keep.running = false) : Completes .keeperStart s fun u =>
    u.keepTick = 0 ∧ u.keep.running = true ∧ u.keep.calValid = false
      ∧ [u.keep.powered, u.keep.dips, u.keep.resets, u.keep.overtemp] = [0, 1, 2, 3].map (fun i => s.keep.mirror.getD i 0)
      ∧ { u with keep := s.keep } = s :=
  ⟨_, congrArg Host.Outcome.next (if_pos (by rw [hl, hr]; rfl)), by simp [State.keepTick], rfl, rfl, rfl, rfl⟩

theorem poweredSecond_counted {s : State} (hr : s.keep.running = true) (hv : s.pwr.vinAbsent = false) (hm : s.mode ≠ .backup) :
    Completes .poweredSecond s fun u =>
      u.keep.powered = min (s.keep.powered + 1) 4294967295
        ∧ u.keep.overtemp = (if s.flag Reg.PWR_TEMP_STAT_OVERTEMP then min (s.keep.overtemp + 1) 4294967295 else s.keep.overtemp)
        ∧ { u with keep := s.keep } = s := by
  refine ⟨_, congrArg Host.Outcome.next (if_pos (by simp [hr, hv, hm])), satInc_eq_min _, ?_, rfl⟩
  rw [← satInc_eq_min]

theorem lifetimeMirrorWrite_written {s : State} (hdue : s.keep.mirrorDue = true) (hdip : s.flag Reg.PWR_STAT_DIP = false) :
    Completes .lifetimeMirrorWrite s fun u =>
      u.keep.mirror = [s.keep.powered, s.keep.dips, s.keep.resets, s.keep.overtemp] ∧ u.keep.mirrorDue = false
        ∧ u.core = s.core ∧ u.points = s.points ∧ u.pump = s.pump := by
  have hq := writeLifetime_quiet { s with keep := { s.keep with mirror := s.keep.counters, mirrorDue := false } }
  refine ⟨s.lifetimeWrite, congrArg Host.Outcome.next (if_pos (by rw [hdue, hdip]; rfl)), ?_, ?_, lifetimeWrite_core s,
    (Quiet.points hq).trans rfl, (Quiet.pump hq).trans rfl⟩
  · exact congrArg KeepState.mirror (Quiet.keep hq)
  · exact congrArg KeepState.mirrorDue (Quiet.keep hq)

theorem vbatLowDetect_set {s : State} (hr : s.keep.running = true) (hlow : s.keep.vbatLow = false) : Completes .vbatLowDetect s fun u =>
    u.keep = { s.keep with vbatLow := true } ∧ FieldsBut [] s u ∧ { u.quietRest with keep := s.keep, rst := s.rst } = s.quietRest := by
  exact ⟨_, congrArg Host.Outcome.next (if_neg (by simp [State.keeperOn, hr, hlow])), noted_keep (noted_ite _ _)⟩

/-- The first detection of an opened case (R414). -/
theorem caseOpen_noted {s : State} (hr : s.keep.running = true) (hopen : s.keep.caseOpen = false) :
    Noted { s with keep := { s.keep with caseOpen := true, caseLevel := true, caseTick := s.keepTick % 4294967296 } } s.caseOpen := by
  unfold State.caseOpen State.keeperOn
  rw [hr, hopen]
  exact noted_ite _ _

theorem noted_mode {s u : State} (h : Noted s u) : u.mode = s.mode :=
  show ({ u.quietRest with rst := s.rst } : State).mode = s.quietRest.mode from congrArg State.mode h.2.2

theorem caseOpenDetect_set {s : State} (hr : s.keep.running = true) (hopen : s.keep.caseOpen = false)
    (hwake : s.keep.caseWakeEn = false ∨ s.mode ≠ .sleep) : Completes .caseOpenDetect s fun u =>
      u.keep = { s.keep with caseOpen := true, caseLevel := true, caseTick := s.keepTick % 4294967296 }
        ∧ FieldsBut [] s u ∧ { u.quietRest with keep := s.keep, rst := s.rst } = s.quietRest := by
  have hnoted := caseOpen_noted hr hopen
  have hstays : s.caseDetect = s.caseOpen := by
    rcases hwake with hen | hmode
    · have hkept : s.caseOpen.keep.caseWakeEn = false := (congrArg KeepState.caseWakeEn hnoted.1).trans hen
      exact if_neg (by simp [hkept])
    · have hwaits : s.caseOpen.wake = s.caseOpen := if_neg (fun e => hmode ((noted_mode hnoted).symm.trans e.1))
      unfold State.caseDetect
      simp only [hwaits, ite_self]
  exact ⟨_, congrArg Host.Outcome.next hstays, noted_keep hnoted⟩

theorem sleepEnter_slept {s : State} (hs : s.pwr.sleeping = true) (hnv : s.nvBusy = false) : Completes .sleepEnter s fun u =>
    u.mode = .sleep ∧ u.pump.running = none ∧ u.safe.high = 0 ∧ u.time.gpioDriven = false ∧ u.pwr.sleeping = false
      ∧ u.points = s.points ∧ u.keep = s.keep ∧ u.fuses = s.fuses ∧ FieldsBut [Reg.PUMP_STAT_RUNNING.key 0] s u := by
  refine ⟨_, congrArg Host.Outcome.next (if_pos (by rw [hs, hnv]; rfl)), rfl, rfl, rfl, rfl, rfl, rfl, rfl, rfl, ?_⟩
  exact fieldsBut_trans (b := s.setFlag Reg.PUMP_STAT_RUNNING false) (fieldsBut_setFlag s _ false 0 (by simp)) (fieldsBut_regs rfl)

theorem xtalStop_stopped {s : State} (hr : s.keep.running = true) : Completes .xtalStop s fun u =>
    u.keep = { s.keep with running := false } ∧ (s.powered = true → u.flag Reg.SYS_BOARD_STAT_XTAL_STOP = true)
      ∧ FieldsBut [Reg.SYS_BOARD_STAT_XTAL_STOP.key 0] s u ∧ { u.quietRest with keep := s.keep, rst := s.rst } = s.quietRest := by
  refine ⟨_, congrArg Host.Outcome.next (if_neg (by simp [hr])), ?_⟩
  split
  · obtain ⟨hkeep, hfields, hrest⟩ := noted_raiseOrLater
      (({ s with keep := { s.keep with running := false } }).setFlag Reg.SYS_BOARD_STAT_XTAL_STOP true) 0x0109
    refine ⟨hkeep, fun _ => ?_, fieldsBut_trans (fieldsBut_of_regs rfl (fieldsBut_setFlag _ _ true 0 (by simp)))
      (fieldsBut_mono hfields (List.nil_subset _)), congrArg (fun x : State => { x with keep := s.keep }) hrest⟩
    unfold State.flag
    rw [hfields _ _ (by simp) (by decide)]
    exact flag_setFlag_same _ _ _ _ (by decide)
  · next hp => exact ⟨rfl, fun h => absurd h hp, fieldsBut_regs rfl, rfl⟩

theorem xtal32Restart_running {s : State} (hr : s.keep.running = false) (hl : s.keep.lost = false) : Completes .xtal32Restart s fun u =>
    u.keep = { s.keep with running := true } ∧ u.flag Reg.SYS_BOARD_STAT_XTAL_STOP = false
      ∧ FieldsBut [Reg.SYS_BOARD_STAT_XTAL_STOP.key 0] s u ∧ { u.quietRest with keep := s.keep } = s.quietRest := by
  refine ⟨_, congrArg Host.Outcome.next (if_neg (by simp [hr, hl])), rfl, flag_setFlag_same _ _ _ _ (by decide), ?_, rfl⟩
  exact fieldsBut_of_regs rfl (fieldsBut_setFlag _ _ false 0 (by simp))

/-- Settles O31: one lemma for each of the keeper's rows. -/
theorem keeperEvents : Obligations.KeeperEvents := fun s =>
  ⟨fun _ _ => mirrorWriteDone_bank, keeperLost_lost, keeperStart_started, poweredSecond_counted, lifetimeMirrorWrite_written,
    fun hlock hr => ⟨_, congrArg Host.Outcome.next (if_pos (by rw [hlock, hr]; rfl)), rfl, rfl, rfl⟩,
    vbatLowDetect_set, caseOpenDetect_set, ⟨_, rfl, keepComplete_keep s⟩, sleepEnter_slept, xtalStop_stopped, xtal32Restart_running⟩

end Sys2Proof.Proofs
end

section
/-! Writes of transactional fields (R50 to R52, R55, R58), the application of a transaction (R54), and the statement on them (O36). -/

namespace Sys2Proof.Proofs
open Sys2Proof Sys2Proof.Machine Sys2Proof.Laws

/-! ## A write of a word with T fields reaches the transaction -/

theorem lockHits_unlocked {s : State} {a : Nat} (h : bitAt (s.get Reg.SYS_LOCK_LOCK) (a / 65536) = false) (fs : List Fld) (i v : Nat) :
    s.lockHits fs a i v = false := by
  unfold State.lockHits
  rw [h]
  rfl

/-- SYS_LOCK has no T field. -/
theorem sysLock_not_txn {a : Nat} {d : RegDef} (hd : regAt a = some d) (hT : ∃ f ∈ d.fieldsAt a, f.txn = true ∧ f.acc ≠ .ro) : a ≠ 0x000010 := by
  rintro rfl
  have hnone : (regAt 0x000010).all (fun d => (d.fieldsAt 0x000010).all (fun f => !f.txn)) = true := by decide
  obtain ⟨f, hf, htxn, -⟩ := hT
  rw [hd, Option.all_some, List.all_eq_true] at hnone
  have := hnone f hf
  rw [htxn] at this
  cases this

/-- A legal write of a word with a writable T field over a path that takes it is the transaction's. -/
theorem registerWrite_route {s : State} {p : Path} {a i : Nat} {v : Word} {d : RegDef} (halign : a % 4 = 0) (hmap : a < 0x01000000)
    (hrec : a ≠ 0x120000) (hd : regAt a = some d) (hT : ∃ f ∈ d.fieldsAt a, f.txn = true ∧ f.acc ≠ .ro)
    (htakes : s.takes p (a / 65536) = true) (hfields : fieldsOk (d.fieldsAt a) v.toNat = true) (hword : wordOk s.variant a v.toNat = true)
    (hwindow : windowStatus s.variant a d.window i = .done) (hcheck : (s.touch p).writeCheck a i v.toNat = .done) :
    s.hostWord p a i v = (((s.touch p).writeTxn p (d.fieldsAt a) { addr := a, index := i, value := v }).2.answer p
      ((s.touch p).writeTxn p (d.fieldsAt a) { addr := a, index := i, value := v }).1) := by
  obtain ⟨hup, hboot, hwrites, hhas, hlock⟩ := takes_iff.1 htakes
  obtain ⟨h, e⟩ := touch_host s p
  have htboot : (s.touch p).booted = true := by rw [e]; exact hboot
  have htwrites : (s.touch p).pathWrites p = true := by rw [e]; exact hwrites
  have htlock := lockHits_unlocked (s := s.touch p) (by rw [touch_get]; exact hlock) (d.fieldsAt a) i v.toNat
  have hnotRo : (d.fieldsAt a).all (fun f => decide (f.acc = .ro)) = false := by
    obtain ⟨f, hf, -, hacc⟩ := hT
    exact List.all_eq_false.2 ⟨f, hf, by simp [hacc]⟩
  have htxn : (d.fieldsAt a).any Fld.txn = true := by
    obtain ⟨f, hf, htxn, -⟩ := hT
    exact List.any_eq_true.2 ⟨f, hf, htxn⟩
  have hplain : (s.touch p).writePlain p (d.fieldsAt a) a i v.toNat
      = (s.touch p).writeTxn p (d.fieldsAt a) { addr := a, index := i, value := v } := by
    unfold State.writePlain
    rw [BitVec.ofNat_toNat, BitVec.setWidth_eq, if_neg hrec, if_pos htxn]
  have hwrite : (s.touch p).writeWord p a i v = (s.touch p).writeTxn p (d.fieldsAt a) { addr := a, index := i, value := v } := by
    rw [← hplain]
    unfold State.writeWord State.writeReg State.writeFields
    simp only [htboot, htwrites, hmap, hd, touch_variant, hhas, hwindow, hnotRo, htlock, sysLock_not_txn hd hT, hcheck, hfields, hword,
      Bool.not_true, Bool.false_and, Bool.and_true, Bool.false_eq_true, if_true, if_false]
  unfold State.hostWord
  simp only [hup, halign, hwrite, if_true]

/-! ## The transaction takes the word (R50 to R52, R55, R58) -/

section
variable {t : State} {p : Path} {w : Staged} {fs : List Fld}

/-- The word would change an expert field of a block at basic level from its derived value (R58). -/
def expertHit (t : State) (fs : List Fld) (w : Staged) : Bool := levelHits (t.get Reg.SYS_LEVEL_EXPERT) t fs w.addr w.index w.value.toNat

theorem writeTxn_timeout (h : t.host.timeoutOwner = some p) :
    t.writeTxn p fs w = (.txnTimeout, { t with host := { t.host with timeoutOwner := none } }) := by
  unfold State.writeTxn
  rw [if_neg (by simp [h])]
  exact if_pos h

variable (h : t.host.timeoutOwner ≠ some p)
include h

theorem writeTxn_level (hidle : t.host.phase = .idle) (hhit : expertHit t fs w = true) : t.writeTxn p fs w = (.level, t) :=
  if_pos (by simp only [hidle, h, ne_eq, not_false_eq_true, and_self, decide_true, Bool.true_and]; exact hhit)

omit h in
theorem writeTxn_stage (hskip : t.host.phase ≠ .idle ∨ expertHit t fs w = false) : t.writeTxn p fs w = t.stage p w := by
  refine if_neg ?_
  rcases hskip with hopen | hmiss
  · simp [hopen]
  · rw [show levelHits (t.get Reg.SYS_LEVEL_EXPERT) t fs w.addr w.index w.value.toNat = false from hmiss, Bool.and_false]
    exact Bool.false_ne_true

theorem stage_idle (hidle : t.host.phase = .idle) : t.stage p w =
    (.done, { t with host := { t.host with commits := t.host.commits ++ [{ words := [w], oneWrite := true, skip := t.boundarySkip }] } }) :=
  (if_neg h).trans (if_pos hidle)

theorem stage_busy (hopen : t.host.phase ≠ .idle) (hbusy : t.host.phase = .pendingTxn ∨ t.host.owner ≠ p) : t.stage p w = (.txnBusy, t) :=
  (if_neg h).trans ((if_neg hopen).trans (if_pos hbusy))

/-- The word's address and index stand in the transaction already (R51). -/
def isStaged (t : State) (w : Staged) : Bool := t.host.staged.any (fun x => decide (x.addr = w.addr ∧ x.index = w.index))

variable (hopen : t.host.phase = .openTxn) (hown : t.host.owner = p)
include hopen hown

theorem stage_owned : t.stage p w =
    if isStaged t w then (.done, { t with host := { t.host with staged := restage t.host.staged w } })
    else if 1024 ≤ t.host.staged.length then (.range, t)
    else (.done, { t with host := { t.host with staged := t.host.staged ++ [w] } }) := by
  refine (if_neg h).trans ((if_neg ?_).trans (if_neg ?_))
  · rw [hopen]; decide
  · rw [hopen]; simp [hown]

end

theorem length_restage (l : List Staged) (w : Staged) : (restage l w).length = l.length := List.length_map _

/-- A staged word is replaced at its place (R51). -/
theorem mem_restage {l : List Staged} {w : Staged} (h : l.any (fun x => decide (x.addr = w.addr ∧ x.index = w.index)) = true) :
    w ∈ restage l w := by
  obtain ⟨x, hx, hsame⟩ := List.any_eq_true.1 h
  exact List.mem_map.2 ⟨x, hx, if_pos (of_decide_eq_true hsame)⟩

/-! ## The application of a transaction (R54) -/

theorem txnEnd_host (s : State) (c : Commit) (st : Status) (pos : Nat) :
    (s.txnEnd c st pos).host.result = st.code ∧ (s.txnEnd c st pos).host.failPos = (if c.oneWrite then 0 else pos)
      ∧ { s.txnEnd c st pos with host := s.host } = s := by
  unfold State.txnEnd
  cases c.oneWrite <;> exact ⟨rfl, rfl, rfl⟩

/-- All of the words are stored, with RESULT DONE, or nothing but the host block changes. -/
theorem applyCommit_all_or_none (s : State) (c : Commit) :
    (s.applyCommit c).host.result = Status.done.code ∨ { s.applyCommit c with host := s.host } = s := by
  unfold State.applyCommit
  dsimp only
  split
  · exact .inr (txnEnd_host s c _ _).2.2
  · exact .inl (txnEnd_host _ c .done 0).1

theorem wordCheck_locked {level : Nat} {s t : State} {w : Staged} {d : RegDef} (hd : regAt w.addr = some d)
    (hlock : s.lockHits ((d.fieldsAt w.addr).filter Fld.txn) w.addr w.index w.value.toNat = true) : wordCheck level s t w = .locked := by
  unfold wordCheck
  rw [hd]
  exact if_pos hlock

/-- A transaction whose first word meets a lock fails there. -/
theorem applyCommit_locked {s : State} {c : Commit} {w : Staged} {ws : List Staged} {d : RegDef} (hc : c.words = w :: ws)
    (hd : regAt w.addr = some d) (hlock : s.lockHits ((d.fieldsAt w.addr).filter Fld.txn) w.addr w.index w.value.toNat = true) :
    s.applyCommit c = s.txnEnd c .locked 0 := by
  unfold State.applyCommit
  dsimp only
  have hbad (level : Nat) (t : State) : firstBad (wordCheck level s t) 0 c.words = some (.locked, 0) := by
    rw [hc]
    unfold firstBad
    rw [wordCheck_locked hd hlock]
    rfl
  rw [hbad]

/-- Settles O36: a legal write is `State.writeTxn` on the touched state, whose cases are those of the statement; a commit ends by
`State.txnEnd`. -/
theorem stagedWrites : Obligations.StagedWrites := by
  refine ⟨?_, fun s c => ⟨applyCommit_all_or_none s c, fun w ws e hc he hlock => ?_⟩⟩
  · intro s p a i v d t w has hits halign hmap hrec hd hT htakes hfields hword hwindow hcheck
    have answers {st : Status} {u : State} {P : State → Prop} (hu : t.writeTxn p (d.fieldsAt a) w = (st, u)) (hP : P u) :
        Answers (.registerWrite p a i v) s p st P := by
      refine ⟨u, congrArg Host.Outcome.next ?_, hP⟩
      rw [registerWrite_route halign hmap hrec hd hT htakes hfields hword hwindow hcheck, hu]
    have staged {st : Status} {u : State} {P : State → Prop} (hskip : t.host.phase ≠ .idle ∨ hits = false) (hu : t.stage p w = (st, u)) (hP : P u) : Answers (.registerWrite p a i v) s p st P :=
      answers ((writeTxn_stage hskip).trans hu) hP
    refine ⟨fun htime => answers (writeTxn_timeout htime) rfl, fun htime => ⟨fun hidle hmiss => ?_, fun hidle hhit => ?_, fun hbusy => ?_,
      fun hopen hown => ?_⟩⟩
    · exact staged (.inr hmiss) (stage_idle htime hidle) rfl
    · exact answers (writeTxn_level htime hidle hhit) rfl
    · have hnot : t.host.phase ≠ .idle := by
        rcases hbusy with h | ⟨h, -⟩ <;> rw [h] <;> decide
      exact staged (.inl hnot) (stage_busy htime hnot (hbusy.imp_right And.right)) rfl
    · have hnot : t.host.phase ≠ .idle := by rw [hopen]; decide
      have hstage := stage_owned (w := w) htime hopen hown
      refine ⟨fun hin => ?_, fun hout hroom => ?_, fun hout hfull => ?_⟩
      · exact staged (.inl hnot) (hstage.trans (if_pos hin)) ⟨length_restage _ _, mem_restage hin, rfl⟩
      · exact staged (.inl hnot) (hstage.trans ((if_neg (Bool.eq_false_iff.1 hout)).trans (if_neg (by omega)))) rfl
      · exact staged (.inl hnot) (hstage.trans ((if_neg (Bool.eq_false_iff.1 hout)).trans (if_pos hfull))) rfl
  · rw [applyCommit_locked hc he hlock]
    obtain ⟨hresult, hpos, hrest⟩ := txnEnd_host s c .locked 0
    exact ⟨hresult, by rw [hpos, ite_self], hrest⟩

end Sys2Proof.Proofs
end

section
/-! Frames that arrive at a port and frames that leave it (R148 to R154, R157, R181 to R187), and the statement on them (O49). -/

namespace Sys2Proof.Proofs
open Sys2Proof Sys2Proof.Machine Sys2Proof.Laws

/-! ## Arrival (R149 to R153, R157) -/

/-- The fill mark of a queue is a register field of its own. -/
theorem noteFill_regs (s : State) (q fill : Nat) :
    (∃ r, s.noteFill q fill = { s with regs := r }) ∧ RegsBut [Reg.QMGR_Q_STAT_MAX_FILL.key q] s (s.noteFill q fill) := by
  unfold State.noteFill
  split
  · exact ⟨⟨_, rfl⟩, regsBut_set s _ _ _ (by simp)⟩
  · exact ⟨⟨s.regs, rfl⟩, fun _ _ _ => rfl⟩

section
variable (t : State) (f : EthFrame)

/-- The frame has a bad FCS or is too short (R149). -/
def frameErr : Bool := !f.fcsOk || decide (f.len < 64)

/-- A frame with an error counted in ERR. -/
def errNoted : State := { t with qm := { t.qm with errCount := t.qm.errCount + (if frameErr f then 1 else 0) } }

/-- The descriptor of a received frame that rule i took, its buffer not yet given (R150). -/
def rxDesc (i : Nat) : RxDesc := { buf := 0, len := f.len, port := f.port, rule := i, ts := t.rxStamp f.port f.stamp, err := frameErr f }

variable {t f} (hring : t.ringPort f.port = false)
include hring

/-- A frame longer than 1,522 bytes (R149). -/
theorem frameTake_long (hlen : 1522 < f.len) : t.frameTake f = { t with qm := { t.qm with errCount := t.qm.errCount + 1 } } := by
  unfold State.frameTake
  rw [hring, if_neg (by simp), if_pos hlen]

section
variable (hlen : f.len ≤ 1522) (harp : f.etype ≠ 0x0806#16 ∨ t.portIp f.port = 0)
include hlen harp

/-- A frame that no rule matches (R152). -/
theorem frameTake_unmatched (hrule : t.classify f = none) : t.frameTake f = t.count Reg.QMGR_NOMATCH_CNT_COUNT := by
  have hnotArp : ¬ (f.etype = 0x0806#16 ∧ t.portIp f.port ≠ 0) := fun ⟨he, hp⟩ => harp.elim (fun h => h he) (fun h => hp h)
  unfold State.frameTake
  rw [hring, hrule, if_neg (by simp), if_neg (by omega), if_neg hnotArp]

theorem frameTake_matched {i : Nat} (hrule : t.classify f = some i) :
    t.frameTake f = (errNoted t f).deliverTo (t.get Reg.QMGR_RULE_CTL_QUEUE i) (rxDesc t f i) := by
  have hnotArp : ¬ (f.etype = 0x0806#16 ∧ t.portIp f.port ≠ 0) := fun ⟨he, hp⟩ => harp.elim (fun h => h he) (fun h => hp h)
  unfold State.frameTake
  rw [hring, hrule, if_neg (by simp), if_neg (by omega), if_neg hnotArp]
  unfold errNoted rxDesc frameErr
  cases !f.fcsOk || decide (f.len < 64) <;> rfl

end

end

/-- On a ring port a frame that is no station frame is a bad copy (R157). -/
theorem frameTake_foreign {t : State} {f : EthFrame} (hring : t.ringPort f.port = true)
    (hforeign : f.tags ≠ 0 ∨ f.etype.toNat ≠ t.get Reg.STN_CYCLE_CFG_STN_ETYPE) : t.frameTake f = t.stnBad := by
  unfold State.frameTake
  rw [hring, if_pos]
  rcases hforeign with h | h <;> simp [h]

section
variable {t : State} {q : Nat} {d : RxDesc} (hon : t.flag Reg.QMGR_Q_CFG_ENABLE q = true)
include hon

theorem deliverTo_station (hcons : t.get Reg.QMGR_Q_CFG_CONSUMER q = 1) (hring : t.ringPort d.port = false) : t.deliverTo q d = t.stnBad := by
  unfold State.deliverTo
  rw [hon, hcons, hring]
  rfl

variable (hcons : t.get Reg.QMGR_Q_CFG_CONSUMER q ≠ 1)
include hcons

theorem deliverTo_enqueue : t.deliverTo q d = t.enqueueRx q d := by
  unfold State.deliverTo
  rw [hon, decide_eq_false hcons]
  rfl

theorem deliverTo_full (hfull : t.ringLen q ≤ (storeGet t.qm.rx q []).length) : t.deliverTo q d = t.count Reg.QMGR_Q_STAT_DROPS q := by
  rw [deliverTo_enqueue hon hcons]
  exact (if_neg (by rw [hon]; decide)).trans (if_pos hfull)

/-- A ring with room takes the descriptor, with a free buffer (R149, R150). -/
theorem deliverTo_room (hroom : (storeGet t.qm.rx q []).length < t.ringLen q) : t.deliverTo q d =
    ({ t with freeCtr := t.freeCtr + 1,
              qm := { t.qm with rx := storePut t.qm.rx q (storeGet t.qm.rx q [] ++ [{ d with buf := t.buffer.1 }]) } }).noteFill q
      ((storeGet t.qm.rx q []).length + 1) := by
  rw [deliverTo_enqueue hon hcons]
  exact (if_neg (by rw [hon]; decide)).trans (if_neg (by omega))

end

/-- The copy counted in STN_BAD_CNT. -/
theorem stnBad_counted (t : State) : t.stnBad.get Reg.STN_BAD_CNT_COUNT = satInc Reg.STN_BAD_CNT_COUNT.width (t.get Reg.STN_BAD_CNT_COUNT)
    ∧ RegsBut [Reg.STN_BAD_CNT_COUNT.key 0] t t.stnBad ∧ t.stnBad.qm = t.qm :=
  ⟨get_count_same _ _ _, regsBut_count _ _, rfl⟩

theorem frameReceive_up {s : State} {f : EthFrame} (hup : s.portsUp = true) (hport : f.port < 16) :
    s.frameReceive f = (s.stampReached f.stamp).frameTake f := by
  unfold State.frameReceive
  rw [hup, if_neg]
  rintro (h | h)
  · cases h
  · omega

theorem storeGet_put_same {α : Type} (l : Store α) (k : Nat) (v d : α) : storeGet (storePut l k v) k d = v := by
  unfold storeGet
  rw [storeFind_put_same]
  rfl

theorem storeGet_put_other {α : Type} (l : Store α) {k j : Nat} (v d : α) (h : j ≠ k) : storeGet (storePut l k v) j d = storeGet l j d := by
  unfold storeGet
  rw [storeFind_put_other l k j v h]

/-- A frame appended to a ring with room, in a buffer of its own. -/
theorem deliverTo_appended {t : State} {q : Nat} {d : RxDesc} (hon : t.flag Reg.QMGR_Q_CFG_ENABLE q = true)
    (hcons : t.get Reg.QMGR_Q_CFG_CONSUMER q ≠ 1) (hroom : (storeGet t.qm.rx q []).length < t.ringLen q) :
    (∃ b, b % 64 = 0 ∧ storeGet (t.deliverTo q d).qm.rx q [] = storeGet t.qm.rx q [] ++ [{ d with buf := b }])
      ∧ (∀ j, j ≠ q → storeGet (t.deliverTo q d).qm.rx j [] = storeGet t.qm.rx j []) ∧ (t.deliverTo q d).qm.errCount = t.qm.errCount
      ∧ RegsBut [Reg.QMGR_Q_STAT_MAX_FILL.key q] t (t.deliverTo q d)
      ∧ { t.deliverTo q d with regs := t.regs, qm := t.qm, freeCtr := t.freeCtr } = t := by
  have heq := deliverTo_room (d := d) hon hcons hroom
  obtain ⟨⟨r, hr⟩, hregs⟩ := noteFill_regs
    { t with freeCtr := t.freeCtr + 1,
             qm := { t.qm with rx := storePut t.qm.rx q (storeGet t.qm.rx q [] ++ [{ d with buf := t.buffer.1 }]) } } q
    ((storeGet t.qm.rx q []).length + 1)
  rw [← heq] at hr hregs
  refine ⟨⟨t.buffer.1, ?_, ?_⟩, fun j hj => ?_, ?_, regsBut_trans (regsBut_of_regs rfl) hregs, ?_⟩
  · exact Nat.mul_mod_right 64 _
  · rw [hr]; exact storeGet_put_same _ _ _ _
  · rw [hr]; exact storeGet_put_other _ _ _ hj
  · rw [hr]
  · rw [hr]

/-! ## Departure (R148, R184 to R187) -/

theorem txStart_busy (s : State) (port : Nat) : ∃ b, s.txStart port = { s with qm := { s.qm with busy := b } } := by
  unfold State.txStart
  split
  · exact ⟨_, rfl⟩
  · exact ⟨s.qm.busy, rfl⟩

theorem queueStamp_kept (s : State) (port frameId ts : Nat) : (s.queueStamp port frameId ts).qm = s.qm ∧ (s.queueStamp port frameId ts).now = s.now := by
  unfold State.queueStamp
  dsimp only
  split
  · exact ⟨rfl, rfl⟩
  · exact ⟨by simp, by simp⟩

/-- A stamp queue with room takes the stamp (R184, R185). -/
theorem queueStamp_room {s : State} {port : Nat} (frameId ts : Nat) (hroom : (s.stampQueue port).length < 16) :
    (s.queueStamp port frameId ts).stampQueue port = s.stampQueue port ++ [(frameId, ts)] := by
  unfold State.queueStamp
  rw [if_pos hroom]
  exact storeGet_set_same _ _ _ _

section
variable (t : State) (q port ts : Nat) (d : TxDesc) (rest : List TxDesc)

/-- The frame in progress taken from its ring, before its stamp is queued and the port goes on (R148). -/
def txTaken : State :=
  { t with qm := { t.qm with tx := storeSet t.qm.tx q rest [], turn := storePut t.qm.turn port q, busy := storeDel t.qm.busy port,
                             txDone := some { d with ts := ts } } }

/-- The same with its stamp in the port's stamp queue where it asks for one (R184). -/
def txStamped : State := if d.tsReq then (txTaken t q port ts d rest).queueStamp port d.frameId ts else txTaken t q port ts d rest

theorem txLeave_eq : t.txLeave q port ts d rest = (txStamped t q port ts d rest).txStart port := rfl

theorem txStamped_kept : (txStamped t q port ts d rest).qm = (txTaken t q port ts d rest).qm ∧ (txStamped t q port ts d rest).now = t.now := by
  unfold txStamped
  split
  · exact queueStamp_kept _ _ _ _
  · exact ⟨rfl, rfl⟩

theorem txLeave_kept : (∃ b, (t.txLeave q port ts d rest).qm = { (txTaken t q port ts d rest).qm with busy := b })
    ∧ (t.txLeave q port ts d rest).now = t.now := by
  obtain ⟨b, hb⟩ := txStart_busy (txStamped t q port ts d rest) port
  obtain ⟨hqm, hnow⟩ := txStamped_kept t q port ts d rest
  rw [txLeave_eq, hb]
  exact ⟨⟨b, by rw [hqm]⟩, hnow⟩

variable {d}

theorem txLeave_unstamped (h : d.tsReq = false) : { t.txLeave q port ts d rest with qm := t.qm } = t := by
  obtain ⟨b, hb⟩ := txStart_busy (txStamped t q port ts d rest) port
  rw [txLeave_eq, hb]
  unfold txStamped
  rw [h]
  rfl

theorem txLeave_stamped (h : d.tsReq = true) (hroom : (t.stampQueue port).length < 16) :
    (t.txLeave q port ts d rest).stampQueue port = t.stampQueue port ++ [(d.frameId, ts)] := by
  obtain ⟨b, hb⟩ := txStart_busy (txStamped t q port ts d rest) port
  rw [txLeave_eq, hb]
  unfold txStamped
  rw [h]
  exact queueStamp_room (s := txTaken t q port ts d rest) _ _ hroom

end

section
variable {s : State} {q port stamp : Nat}

/-- A row that names another queue, or comes while the ports are down, finds nothing to complete. -/
theorem frameLeft_none (h : s.portsUp = false ∨ storeFind s.qm.busy port ≠ some q) : s.frameLeft q port stamp = s := by
  have hnone : (!s.portsUp) = true ∨ storeFind s.qm.busy port ≠ some q := h.imp_left (fun e => by rw [e]; rfl)
  unfold State.frameLeft State.frameTxDone
  simp only [if_pos hnone]

variable {d : TxDesc} {rest : List TxDesc} (hup : s.portsUp = true) (hbusy : storeFind s.qm.busy port = some q)
  (hring : storeGet s.qm.tx q [] = d :: rest)
include hup hbusy hring

/-- The state with the frame gone, before a PTP message's stamp is used. -/
theorem frameTxDone_left : s.frameTxDone q port stamp = (s.stampReached stamp).txLeave q port (s.txStamp port stamp) d rest := by
  unfold State.frameTxDone
  rw [hup, hbusy, hring]
  exact if_neg (by simp)

theorem frameLeft_plain (hptp : d.ptp = none) :
    s.frameLeft q port stamp = (s.stampReached stamp).txLeave q port (s.txStamp port stamp) d rest := by
  rw [← frameTxDone_left hup hbusy hring]
  unfold State.frameLeft
  simp [hup, hbusy, hring, hptp]

/-- A one-step Sync carries its own stamp (R187). -/
theorem frameLeft_sync {m : PtpMessage} (hptp : d.ptp = some m) (htype : m.type = 0) (hone : m.twoStep = false) :
    let u := (s.stampReached stamp).txLeave q port (s.txStamp port stamp) d rest
    (s.frameLeft q port stamp).qm = { u.qm with txDone := u.qm.txDone.map (fun e =>
      { e with ptp := some { m with time := (fullTime (s.stampReached stamp).now (s.txStamp port stamp)).toNat } }) } := by
  have hmsg (x : Int) : ptpOneStep m x = { m with time := x.toNat } := by
    unfold ptpOneStep
    rw [hone, htype]
    rfl
  have hstays (x : State) (y : Int) : x.ptpLeft port m y = x := by
    unfold State.ptpLeft
    rw [hone, htype]
    rfl
  have hserved (x : State) : (x.serviceStamps port).qm = x.qm := by
    unfold State.serviceStamps
    split <;> rfl
  unfold State.frameLeft
  simp [hup, hbusy, hring, hptp, frameTxDone_left hup hbusy hring, (txLeave_kept ..).2, hmsg, hstays, hserved]

end

/-! ## The statement -/

/-- Settles O49: a frame that arrives is `State.frameTake` at its stamp, one that leaves is `State.txLeave`; each case is one lemma of them. -/
theorem network : Obligations.Network := by
  intro s f target sender mac q port stamp t v up plain err l errs bad leaves ts
  have hbad (x : State) (hx : x.regs = s.regs) (hq : x.qm.rx = s.qm.rx) : bad x.stnBad := by
    obtain ⟨hcount, hregs, hqm⟩ := stnBad_counted x
    refine ⟨?_, regsBut_trans (regsBut_of_regs hx) hregs, (congrArg QmgrState.rx hqm).trans hq⟩
    rw [hcount, get_of_regs hx]
  have arrives {P : State → Prop} (hup : s.portsUp = true) (hport : f.port < 16) {u : State} (hu : t.frameTake f = u) (hP : P u) :
      Completes (.frameReceive f) s P := ⟨u, congrArg Host.Outcome.next ((frameReceive_up hup hport).trans hu), hP⟩
  refine ⟨fun hdown => ?_, ?_, ?_, ?_, ?_, ?_, ?_, ?_⟩
  · simp only [List.forall_mem_cons]
    have hdown' : (!s.portsUp) = true := by rw [hdown]; rfl
    exact ⟨⟨s, congrArg Host.Outcome.next (if_pos (.inl hdown')), rfl⟩, ⟨s, congrArg Host.Outcome.next (if_pos (.inl hdown')), rfl⟩,
      ⟨s, congrArg Host.Outcome.next (frameLeft_none (.inl hdown)), rfl⟩, by simp⟩
  · rintro ⟨hup, hport, hring⟩ ⟨hlen, harp⟩ hrule
    exact arrives hup hport (frameTake_unmatched (t := t) hring hlen harp hrule) ⟨get_count_same t _ _, regsBut_count t _, rfl⟩
  · rintro i ⟨hup, hport, hring⟩ ⟨hlen, harp⟩ hrule hq hon
    have hmatched : t.frameTake f = (errNoted t f).deliverTo q (rxDesc t f i) := by
      rw [← show t.get Reg.QMGR_RULE_CTL_QUEUE i = q from hq]
      exact frameTake_matched (t := t) hring hlen harp hrule
    refine ⟨fun hcons hroom => ?_, fun hcons hfull => ?_, fun hcons => ?_⟩
    · obtain ⟨hnew, hothers, herr, hregs, hrest⟩ := deliverTo_appended (t := errNoted t f) (d := rxDesc t f i) hon hcons hroom
      exact arrives hup hport hmatched ⟨hnew, hothers, herr, hregs, congrArg (fun x : State => { x with qm := s.qm }) hrest⟩
    · have hcount := deliverTo_full (t := errNoted t f) (d := rxDesc t f i) hon hcons hfull
      exact arrives hup hport (hmatched.trans hcount) ⟨get_count_same (errNoted t f) _ _, regsBut_set (errNoted t f) _ _ _ (by simp), rfl, rfl⟩
    · have hstation := deliverTo_station (t := errNoted t f) (d := rxDesc t f i) hon hcons hring
      exact arrives hup hport (hmatched.trans hstation) (hbad (errNoted t f) rfl rfl)
  · rintro ⟨hup, hport, hring⟩ hlen
    exact arrives hup hport (frameTake_long (t := t) hring hlen) rfl
  · intro hup hport hring hforeign
    exact arrives hup hport (frameTake_foreign (t := t) hring hforeign) (hbad t rfl rfl)
  · intro hup hport hring
    have hserved : ¬ ((!s.portsUp) = true ∨ 16 ≤ port) := by rw [hup]; simpa using hport
    have hnotRing : ¬ s.ringPort port = true := Bool.eq_false_iff.1 hring
    refine ⟨fun hip htarget => ⟨_, congrArg Host.Outcome.next ?_, rfl⟩, fun htarget => ⟨s, congrArg Host.Outcome.next ?_, rfl⟩⟩
    · exact (if_neg hserved).trans ((if_neg hnotRing).trans (if_pos ⟨hip, htarget⟩))
    · exact (if_neg hserved).trans ((if_neg hnotRing).trans (if_neg (fun h => htarget h.2)))
  · rintro d rest ⟨hup, hbusy⟩ hring
    obtain ⟨⟨b, hqm⟩, -⟩ := txLeave_kept v q port ts d rest
    refine ⟨fun hptp => ?_, fun m hptp htype hone => ?_⟩
    · refine ⟨_, congrArg Host.Outcome.next (frameLeft_plain hup hbusy hring hptp), ?_, ?_, ?_, fun j hj => ?_, fun hreq => ?_, fun hreq hroom => ?_⟩
      · rw [hqm]; exact storeGet_set_same _ _ _ _
      · rw [hqm]; rfl
      · rw [hqm]; exact storeFind_put_same _ _ _
      · rw [hqm]; exact storeGet_set_other _ _ _ _ _ _ hj
      · exact txLeave_unstamped v q port ts rest hreq
      · exact txLeave_stamped v q port ts rest hreq hroom
    · have hsync := frameLeft_sync (stamp := stamp) hup hbusy hring hptp htype hone
      dsimp only at hsync
      rw [show ((s.stampReached stamp).txLeave q port (s.txStamp port stamp) d rest).qm = _ from hqm] at hsync
      exact ⟨_, rfl, (congrArg (fun x : QmgrState => storeGet x.tx q []) hsync).trans (storeGet_set_same _ _ _ _),
        congrArg QmgrState.txDone hsync⟩
  · intro hnot
    exact ⟨s, congrArg Host.Outcome.next (frameLeft_none (.inr hnot)), rfl⟩

end Sys2Proof.Proofs
end

section
/-! What the two access paths share (R35, R37, R39, R42, R43): words of the point window, and a whole point record. -/

namespace Sys2Proof.Proofs
open Sys2Proof Sys2Proof.Machine Sys2Proof.Laws

/-! ## Reading the point window (R42, R63) -/

/-- The address of word w of the point window. -/
def windowAddr (w : Nat) : Nat := 0x40000000 + 4 * w

theorem windowAddr_succ (w : Nat) : windowAddr w + 4 = windowAddr (w + 1) := by unfold windowAddr; omega

theorem unitAt_window (w : Nat) : unitAt (windowAddr w) = false ∧ unitAt (windowAddr w - 4) = false := by
  unfold unitAt windowAddr
  exact ⟨decide_eq_false (by omega), decide_eq_false (by omega)⟩

section
variable (s : State)

/-- One word of the point window as a read returns it. -/
def pointWordAt (w : Nat) : Word := if w % 2 = 0 then (s.point (w / 2)).value else BitVec.ofNat 32 (s.point (w / 2)).word1

theorem pointWord_window (w : Nat) : BitVec.ofNat 32 (s.pointWord (windowAddr w)) = pointWordAt s w := by
  have hpoint : (windowAddr w - 0x40000000) / 8 = w / 2 := by unfold windowAddr; omega
  have heven : windowAddr w % 8 = 0 ↔ w % 2 = 0 := by unfold windowAddr; omega
  unfold State.pointWord pointWordAt
  simp only [hpoint, heven]
  by_cases h : w % 2 = 0
  · rw [if_pos h, if_pos h, BitVec.ofNat_toNat, BitVec.setWidth_eq]
  · rw [if_neg h, if_neg h]

variable {s} (hbooted : s.booted = true)
include hbooted

theorem readWord_window (omp : Bool) (i : Nat) {w : Nat} (hw : w < 2 ^ 21) :
    s.readWord omp (windowAddr w) i = (.done, s.pointWord (windowAddr w), s) := by
  unfold State.readWord
  rw [hbooted]
  exact (if_neg (by simp)).trans ((if_neg (by unfold windowAddr; omega)).trans (if_pos (by unfold windowAddr; omega)))

/-- Any number of words of the point window reads as these words, and nothing changes. -/
theorem readWords_window (omp : Bool) (i w n : Nat) (hw : w + n ≤ 2 ^ 21) :
    s.readWords omp (windowAddr w) i n = ((List.range n).map fun j => (.done, s.pointWord (windowAddr (w + j))), s) := by
  obtain ⟨hunit, hunit'⟩ := unitAt_window w
  induction n generalizing w with
  | zero => rfl
  | succ n ih =>
    have hword := readWord_window hbooted omp (if omp then i else s.spiSel (windowAddr w / 65536)) (w := w) (by omega)
    cases n with
    | zero =>
      unfold State.readWords
      rw [hunit, hunit']
      simp only [hword]
      rfl
    | succ n =>
      have hrest := ih (w + 1) (by omega) (unitAt_window (w + 1)).1 (unitAt_window (w + 1)).2
      unfold State.readWords
      rw [hunit, hunit', windowAddr_succ]
      simp only [hword, hrest]
      rw [List.range_succ_eq_map (n := n + 1), List.map_cons, List.map_map]
      refine congrArg (·, s) (congrArg₂ _ rfl (List.map_congr_left fun j _ => ?_))
      rw [Function.comp_apply, Nat.succ_eq_add_one, show w + (j + 1) = w + 1 + j by omega]

end

theorem firstFail_done (l : List (Status × Nat)) (h : ∀ e ∈ l, e.1 = .done) (k : Nat) : firstFail l k = none := by
  induction l generalizing k with
  | nil => rfl
  | cons e l ih =>
    refine (if_neg ?_).trans (ih (fun e he => h e (List.mem_cons_of_mem _ he)) (k + 1))
    exact not_not.2 (h e List.mem_cons_self)

/-- The words that a read answers with: 0 for a word that failed (R37, R39). -/
def readValues (l : List (Status × Nat)) : List Word := l.map fun e => BitVec.ofNat 32 (if e.1 = .done then e.2 else 0)

theorem readValues_window (s : State) (w n : Nat) :
    readValues ((List.range n).map fun j => (Status.done, s.pointWord (windowAddr (w + j)))) = s.pointWords w n := by
  unfold readValues State.pointWords
  rw [List.map_map]
  exact List.map_congr_left fun j _ => pointWord_window s (w + j)

theorem firstFail_window (s : State) (w n : Nat) :
    firstFail ((List.range n).map fun j => (Status.done, s.pointWord (windowAddr (w + j)))) 0 = none := by
  refine firstFail_done _ (fun e he => ?_) 0
  obtain ⟨j, -, rfl⟩ := List.mem_map.1 he
  rfl

/-! ## Writing a point record (R43, R70) -/

/-- A host write that is not refused: the point has the record, and is noted among the cycle's host writes. -/
theorem pointWrite_taken {s : State} {pt type : Nat} (v : Word) (q : Byte) (h : s.pointRefusal pt type = .done) :
    (s.pointWrite pt v q type).1 = .done
      ∧ PointTaken s (s.pointWrite pt v q type).2 pt { s.point pt with value := v, quality := q, stamp := s.stamp } := by
  obtain ⟨l, hl⟩ : ∃ l, s.notePoint pt = { s with wlog := l } := by
    unfold State.notePoint
    split
    · exact ⟨s.wlog, rfl⟩
    · exact ⟨_, rfl⟩
  unfold State.pointWrite
  rw [h]
  dsimp only
  refine ⟨rfl, ?_, fun b hb => ?_, storeFind_put_same _ _ _, ?_, ?_⟩
  · exact point_setPoint_same (s.notePoint pt) pt _
  · exact (point_setPoint_other (s.notePoint pt) pt b _ hb).trans (notePoint_point s pt b)
  · rw [hl]
    exact marks_setPoint { s with wlog := l } pt _
  · rw [hl]
    rfl

theorem writePoint_taken {s : State} {p : Path} {pt type : Nat} (v : Word) (q : Byte) (hbooted : s.booted = true)
    (hwrites : s.pathWrites p = true) (h : s.pointRefusal pt type = .done) :
    (s.writePoint p pt v q type).1 = .done
      ∧ PointTaken s (s.writePoint p pt v q type).2 pt { s.point pt with value := v, quality := q, stamp := s.stamp } := by
  have hwrite : s.writePoint p pt v q type = s.pointWrite pt v q type := by
    unfold State.writePoint
    rw [hbooted, hwrites]
    rfl
  rw [hwrite]
  exact pointWrite_taken v q h

theorem writePoint_locked {s : State} {p : Path} (pt type : Nat) (v : Word) (q : Byte) (hbooted : s.booted = true)
    (hwrites : s.pathWrites p = false) : s.writePoint p pt v q type = (.locked, s) := by
  unfold State.writePoint
  rw [hbooted, hwrites]
  rfl

/-- What the paths ask of the state outside the host block and the registers stays under a change of those. -/
theorem pointRefusal_of_frame {s t : State} (h : { t with host := s.host, regs := s.regs, freeCtr := s.freeCtr } = s)
    (hslot : t.runSlot = s.runSlot) (pt type : Nat) : t.pointRefusal pt type = s.pointRefusal pt type := by
  have hplate : t.runPlate = s.runPlate := by
    unfold State.runPlate State.freeSlot
    rw [hslot, ← h]
    rfl
  unfold State.pointRefusal State.declared State.decl
  rw [hplate, ← h]
  rfl

/-! ## What an access leaves for both -/

theorem touch_point (s : State) (p : Path) (a : Nat) : (s.touch p).point a = s.point a := by
  obtain ⟨h, e⟩ := touch_host s p
  rw [e]
  rfl

theorem touch_pointWords (s : State) (p : Path) (w n : Nat) : (s.touch p).pointWords w n = s.pointWords w n := by
  unfold State.pointWords
  simp only [touch_point]

theorem touch_booted (s : State) (p : Path) : (s.touch p).booted = s.booted := by
  obtain ⟨h, e⟩ := touch_host s p
  rw [e]
  rfl

theorem touch_pathWrites (s : State) (p q : Path) : (s.touch p).pathWrites q = s.pathWrites q := by
  unfold State.pathWrites
  rw [touch_flag, touch_flag]

theorem touch_stamp (s : State) (p : Path) : (s.touch p).stamp = s.stamp := by
  obtain ⟨h, e⟩ := touch_host s p
  rw [e]
  rfl

theorem touch_pointRefusal (s : State) (p : Path) (pt type : Nat) : (s.touch p).pointRefusal pt type = s.pointRefusal pt type := by
  refine pointRefusal_of_frame ?_ (touch_get _ _ _ _) pt type
  obtain ⟨h, e⟩ := touch_host s p
  rw [e]

end Sys2Proof.Proofs
end

section
/-! OMP requests (R36 to R38, R42, R43), and the statement on them (O39). -/

namespace Sys2Proof.Proofs
open Sys2Proof Sys2Proof.Machine Sys2Proof.Laws

/-! ## Responses (R36, R38) -/

/-- From s to u the part gave frames of the management consumer to transmit queues, and the host block stayed. -/
def Queued (s u : State) : Prop := u.host = s.host ∧ Sent s u

theorem sent_trans {a b c : State} (h : Sent a b) (g : Sent b c) : Sent a c := by
  refine ⟨?_, fun f i k => (g.2 f i k).trans (h.2 f i k)⟩
  rw [← h.1, ← g.1]

theorem queued_trans {a b c : State} (h : Queued a b) (g : Queued b c) : Queued a c := ⟨g.1.trans h.1, sent_trans h.2 g.2⟩

theorem sent_of_regs {s u : State}
    (h : { u with host := s.host, qm := { u.qm with tx := s.qm.tx, busy := s.qm.busy }, freeCtr := s.freeCtr } = s) : Sent s u := by
  have hregs := congrArg State.regs h
  dsimp only at hregs
  refine ⟨?_, fun f i _ => get_of_regs hregs f i⟩
  rw [← hregs]
  exact h

theorem noteFill_queued (s : State) (q fill : Nat) : Queued s (s.noteFill q fill) := by
  obtain ⟨⟨r, hr⟩, hregs⟩ := noteFill_regs s q fill
  refine ⟨by rw [hr], by rw [hr], fun f i h => hregs f i ?_⟩
  rw [List.mem_singleton]
  exact h q

theorem txStart_queued (s : State) (port : Nat) : Queued s (s.txStart port) := by
  obtain ⟨b, hb⟩ := txStart_busy s port
  rw [hb]
  exact ⟨rfl, sent_of_regs rfl⟩

theorem transmit_queued (s : State) (consumer : Nat) (d : TxDesc) : Queued s (s.transmit consumer d) := by
  unfold State.transmit
  dsimp only
  split
  · exact ⟨rfl, sent_of_regs rfl⟩
  · split
    · exact ⟨rfl, sent_of_regs rfl⟩
    · refine queued_trans (queued_trans ?_ (noteFill_queued ..)) (txStart_queued ..)
      exact ⟨rfl, sent_of_regs rfl⟩

/-- The state that gives response x to its transmit queue. -/
def sending (s : State) (x : OmpResponse) : State := { s with freeCtr := s.freeCtr + 1, host := { s.host with lastResponse := some x } }

theorem ompSend_sent (s : State) (x : OmpResponse) :
    (s.ompSend x).host = { s.host with lastResponse := some x } ∧ Sent s (s.ompSend x) := by
  obtain ⟨d, hd⟩ : ∃ d, s.ompSend x = (sending s x).transmit 4 d := ⟨_, rfl⟩
  obtain ⟨hhost, hsent⟩ := transmit_queued (sending s x) 4 d
  rw [hd]
  refine ⟨hhost, sent_trans ?_ hsent⟩
  exact sent_of_regs rfl

theorem respond_responded (s : State) (r : OmpRequest) (write : Bool) (st : Status) (fail : Nat) (data : List Word) :
    Responded s (s.respond r write st fail data) r write st fail data := by
  obtain ⟨hhost, hsent⟩ := ompSend_sent _ _
  refine ⟨hhost, sent_trans ?_ hsent⟩
  exact sent_of_regs rfl

/-! ## Which requests are served (R36, R38, R155) -/

theorem ompTaken_parts {s : State} {r : OmpRequest} {write : Bool} (h : s.ompTaken r write = true) :
    s.booted = true ∧ s.ringPort r.port = false ∧ s.ompQueue r = true ∧ (write = true → r.data.length = r.count) := by
  unfold State.ompTaken at h
  simp only [Bool.and_eq_true, Bool.not_eq_true'] at h
  obtain ⟨⟨⟨⟨⟨hup, hring⟩, hqueue⟩, -⟩, -⟩, hform⟩ := h
  refine ⟨(Bool.and_eq_true_iff.1 hup).2, hring, hqueue, fun hwrite => ?_⟩
  rw [hwrite] at hform
  exact (of_decide_eq_true hform).2

section
variable {s : State} {r : OmpRequest} {write : Bool} {run : State → State}

theorem ompServe_discarded (h : s.ompTaken r write = false) : s.ompServe r write run = s.ompDiscard r := by
  unfold State.ompServe
  rw [h]
  rfl

theorem ompServe_repeated {y : OmpResponse} (h : s.ompTaken r write = true) (hkept : s.ompKept r = some y) :
    s.ompServe r write run = s.ompSend y := by
  unfold State.ompServe
  rw [h, hkept]
  rfl

theorem ompServe_served (h : s.ompTaken r write = true) (hkept : s.ompKept r = none) : s.ompServe r write run = run s := by
  unfold State.ompServe
  rw [h, hkept]
  rfl

end

/-- A request that is not well formed, one that is no request to the part, and one that repeats a kept one: a read or a write alike. -/
theorem ompServe_unserved (s : State) (r : OmpRequest) (write : Bool) (run : State → State) :
    let dropped := { s with host := { s.host with lastResponse := none } }
    (s.ompTaken r write = false → s.ringPort r.port = false → s.ompQueue r = true → s.ompServe r write run = dropped)
    ∧ (s.ringPort r.port = true ∨ s.ompQueue r = false → s.ompServe r write run = dropped.frameReceive (s.ompFrame r))
    ∧ (∀ y, s.ompTaken r write = true → s.ompKept r = some y →
        (s.ompServe r write run).host = { s.host with lastResponse := some y } ∧ Sent s (s.ompServe r write run)) := by
  refine ⟨fun htaken hring hqueue => ?_, fun hother => ?_, fun y htaken hkept => ?_⟩
  · rw [ompServe_discarded htaken]
    unfold State.ompDiscard
    rw [hring, hqueue]
    rfl
  · have htaken : s.ompTaken r write = false := by
      refine Bool.eq_false_iff.2 fun h => ?_
      obtain ⟨-, hring, hqueue, -⟩ := ompTaken_parts h
      simp [hring, hqueue] at hother
    rw [ompServe_discarded htaken]
    refine if_neg ?_
    rcases hother with h | h <;> simp [h]
  · rw [ompServe_repeated htaken hkept]
    exact ompSend_sent s y

/-! ## Served requests (R37, R43) -/

section
variable {s t : State} {r : OmpRequest} (ht : t = s.touch (.omp r.srcIp r.srcPort))
include ht

theorem ompReadRun_unaligned (h : r.addr.toNat % 4 ≠ 0) : s.ompReadRun r = t.respond r false .range 0 (List.replicate r.count 0) := by
  rw [ht]
  exact if_pos h

theorem ompReadRun_window {w : Nat} (haddr : r.addr.toNat = windowAddr w) (hw : w + r.count ≤ 2 ^ 21) (hbooted : t.booted = true) :
    s.ompReadRun r = t.respond r false .done 0 (t.pointWords w r.count) := by
  have haligned : ¬ r.addr.toNat % 4 ≠ 0 := by unfold windowAddr at haddr; omega
  have hwords := readWords_window hbooted true r.index w r.count hw
  refine Eq.trans ?_ (congrArg (t.respond r false .done 0) (readValues_window t w r.count))
  unfold State.ompReadRun
  rw [← ht]
  refine (if_neg haligned).trans ?_
  dsimp only
  rw [haddr, hwords]
  dsimp only
  rw [firstFail_window]
  rfl

theorem ompWriteRun_unaligned (h : r.addr.toNat % 4 ≠ 0) : s.ompWriteRun r = t.respond r true .range 0 [] := by
  rw [ht]
  exact if_pos h

variable (haligned : r.addr.toNat % 4 = 0)
include haligned

theorem ompWriteRun_done {m : State} (hwords : t.ompWords (.omp r.srcIp r.srcPort) r.addr.toNat r.index 0 r.data = ((.done, 0), m)) :
    s.ompWriteRun r = m.respond r true .done 0 [] := by
  unfold State.ompWriteRun
  dsimp only
  rw [← ht]
  refine (if_neg (not_not.2 haligned)).trans ?_
  rw [hwords]
  rfl

theorem ompWriteRun_refused {x : (Status × Nat) × State}
    (hwords : t.ompWords (.omp r.srcIp r.srcPort) r.addr.toNat r.index 0 r.data = x) (hrefused : x.1.1 ≠ .done) (hlen : r.data.length ≠ 1) :
    s.ompWriteRun r =
      (if x.1.1 = .txnTimeout then { t with host := { t.host with timeoutOwner := none } } else t).respond r true x.1.1 x.1.2 [] := by
  unfold State.ompWriteRun
  dsimp only
  rw [← ht]
  refine (if_neg (not_not.2 haligned)).trans ?_
  rw [hwords, if_neg hrefused]
  unfold State.ompRefused
  rw [if_neg hlen]

end

/-- A record of two words that the part takes. -/
theorem ompWords_record {s : State} {p : Path} {w : Nat} (i : Nat) (v x : Word) (hw : w < 2 ^ 21) (heven : w % 2 = 0) (hbooted : s.booted = true)
    (hwrites : s.pathWrites p = true) (h : s.pointRefusal (w / 2) (x.toNat / 256 % 16) = .done) :
    ∃ m, s.ompWords p (windowAddr w) i 0 [v, x] = ((.done, 0), m)
      ∧ PointTaken s m (w / 2) { s.point (w / 2) with value := v, quality := BitVec.ofNat 8 x.toNat, stamp := s.stamp } := by
  obtain ⟨hdone, htaken⟩ := writePoint_taken v (BitVec.ofNat 8 x.toNat) hbooted hwrites h
  have hpoint : (windowAddr w - 0x40000000) / 8 = w / 2 := by unfold windowAddr; omega
  refine ⟨_, ?_, htaken⟩
  unfold State.ompWords
  refine (if_pos (by unfold windowAddr; omega)).trans ?_
  rw [hpoint]
  refine (if_pos hdone).trans ?_
  rfl

/-! ## The statement -/

/-- A served request goes on with what its command does. -/
theorem completes_read {s u : State} {r : OmpRequest} {P : State → Prop} (htaken : s.ompTaken r false = true) (hkept : s.ompKept r = none)
    (hrun : s.ompReadRun r = u) (hP : P u) : Completes (.ompRead r) s P :=
  ⟨u, congrArg Host.Outcome.next ((ompServe_served htaken hkept).trans hrun), hP⟩

theorem completes_write {s u : State} {r : OmpRequest} {P : State → Prop} (htaken : s.ompTaken r true = true) (hkept : s.ompKept r = none)
    (hrun : s.ompWriteRun r = u) (hP : P u) : Completes (.ompWrite r) s P :=
  ⟨u, congrArg Host.Outcome.next ((ompServe_served htaken hkept).trans hrun), hP⟩

/-- Settles O39: a request that is not served, a read and a write are taken each on its own; a served one ends in one response. -/
theorem ompRequests : Obligations.OmpRequests := by
  unfold Obligations.OmpRequests
  intro s r w v x p t dropped pt words
  have ht : t = s.touch (.omp r.srcIp r.srcPort) := rfl
  refine ⟨?_, fun htaken hkept => ?_, fun htaken hkept => ?_⟩
  · intro e he
    have hunserved (write : Bool) (run : State → State) (i : Instr) (hexec : exec i s = .next (s.ompServe r write run)) :
        (s.ompTaken r write = false → s.ringPort r.port = false → s.ompQueue r = true → Completes i s fun u => u = dropped)
        ∧ (s.ringPort r.port = true ∨ s.ompQueue r = false → Completes i s fun u => u = dropped.frameReceive (s.ompFrame r))
        ∧ (∀ y, s.ompTaken r write = true → s.ompKept r = some y → Completes i s fun u =>
            u.host = { s.host with lastResponse := some y } ∧ Sent s u) := by
      obtain ⟨hdropped, hframe, hrepeated⟩ := ompServe_unserved s r write run
      exact ⟨fun h1 h2 h3 => ⟨_, hexec, hdropped h1 h2 h3⟩, fun h => ⟨_, hexec, hframe h⟩, fun y h1 h2 => ⟨_, hexec, hrepeated y h1 h2⟩⟩
    obtain rfl | rfl := List.mem_pair.1 he
    · exact hunserved false _ _ rfl
    · exact hunserved true _ _ rfl
  · obtain ⟨hbooted, -⟩ := ompTaken_parts htaken
    refine ⟨fun haddr hw => ?_, fun h => ?_⟩
    · refine completes_read htaken hkept (ompReadRun_window ht haddr hw ((touch_booted s p).trans hbooted)) ?_
      rw [touch_pointWords]
      exact respond_responded ..
    · exact completes_read htaken hkept (ompReadRun_unaligned ht h) (respond_responded ..)
  · obtain ⟨hbooted, -, -, hlen⟩ := ompTaken_parts htaken
    refine ⟨fun haddr hw heven hdata hwrites hpoint => ?_, fun haligned hcount hrefused => ?_, fun h => ?_⟩
    · obtain ⟨m, hwords, hm⟩ := ompWords_record (s := t) (p := p) r.index v x hw heven ((touch_booted s p).trans hbooted)
        ((touch_pathWrites s p p).trans hwrites) ((touch_pointRefusal s p ..).trans hpoint)
      rw [touch_point, touch_stamp] at hm
      have haligned : r.addr.toNat % 4 = 0 := by omega
      have hwindow : r.addr.toNat = windowAddr w := haddr
      rw [← hdata, ← hwindow] at hwords
      exact completes_write htaken hkept (ompWriteRun_done ht haligned hwords) ⟨m, hm, respond_responded ..⟩
    · exact completes_write htaken hkept (ompWriteRun_refused ht haligned rfl hrefused (by rw [hlen rfl]; omega)) (respond_responded ..)
    · exact completes_write htaken hkept (ompWriteRun_unaligned ht h) (respond_responded ..)

end Sys2Proof.Proofs
end

section
/-! SPI transfers (R39, R42, R43, R384), and the statement on them (O40). -/

namespace Sys2Proof.Proofs
open Sys2Proof Sys2Proof.Machine Sys2Proof.Laws

/-! ## What a transfer may change -/

/-- The fields of SYS_SPI_STAT. -/
def spiKeys : List Nat := [Reg.SYS_SPI_STAT_READ_STATUS.key 0, Reg.SYS_SPI_STAT_READ_POS.key 0, Reg.SYS_SPI_STAT_LAST_STATUS.key 0]

/-- From s to u nothing changed but the host block, SYS_SPI_STAT and free numbers. -/
def OnlySpi (s u : State) : Prop := { u with host := s.host, regs := s.regs, freeCtr := s.freeCtr } = s ∧ RegsBut spiKeys s u

theorem onlySpi_of_regs {s u : State} (h : { u with host := s.host, freeCtr := s.freeCtr } = s) : OnlySpi s u := by
  have hregs := congrArg State.regs h
  dsimp only at hregs
  refine ⟨?_, regsBut_of_regs hregs⟩
  rw [← hregs]
  exact h

theorem onlySpi_trans {a b c : State} (h : OnlySpi a b) (g : OnlySpi b c) : OnlySpi a c := by
  refine ⟨?_, regsBut_trans h.2 g.2⟩
  rw [← h.1, ← g.1]

theorem onlySpi_set (s : State) (f : Fld) (v : Nat) (h : f.key 0 ∈ spiKeys) : OnlySpi s (s.set f v) := ⟨rfl, regsBut_set s f v 0 h⟩

theorem onlySpi_readEnd (s : State) (st : Status) (pos : Nat) : OnlySpi s (s.readEnd st pos) :=
  onlySpi_trans (onlySpi_set _ _ _ (by decide)) (onlySpi_set _ _ _ (by decide))

theorem readEnd_fields (s : State) (st : Status) (pos : Nat) :
    (s.readEnd st pos).get Reg.SYS_SPI_STAT_READ_STATUS = st.code % 2 ^ Reg.SYS_SPI_STAT_READ_STATUS.width
      ∧ (s.readEnd st pos).get Reg.SYS_SPI_STAT_READ_POS = pos % 2 ^ Reg.SYS_SPI_STAT_READ_POS.width := by
  unfold State.readEnd
  refine ⟨?_, get_set_same _ _ _ _⟩
  rw [get_set_other _ _ _ _ _ _ (by decide), get_set_same]

theorem onlySpi_host (s : State) (h : HostState) : OnlySpi s { s with host := h } := onlySpi_of_regs rfl

theorem onlySpi_driveSdo (s : State) (l : List Byte) : OnlySpi s (s.driveSdo l) := onlySpi_of_regs rfl

/-- The status of a write stands in LAST_STATUS, and nothing else that a transfer reads changed (R39). -/
theorem answer_spi (s : State) (st : Status) :
    OnlySpi s (s.answer .spi st) ∧ (s.answer .spi st).get Reg.SYS_SPI_STAT_LAST_STATUS = st.code
      ∧ (s.answer .spi st).host = { s.host with lastStatus := st } := by
  refine ⟨onlySpi_trans (onlySpi_host s { s.host with lastStatus := st }) (onlySpi_set _ _ _ (by decide)), ?_, rfl⟩
  exact (get_set_same _ _ _ _).trans (Nat.mod_eq_of_lt (code_lt st))

section
variable {s t : State} (h : OnlySpi s t)
include h

theorem onlySpi_point (a : Nat) : t.point a = s.point a := by
  unfold State.point
  rw [← h.1]

theorem onlySpi_pointWords (w n : Nat) : t.pointWords w n = s.pointWords w n := by
  unfold State.pointWords
  simp only [onlySpi_point h]

theorem onlySpi_booted : t.booted = s.booted := by
  rw [← h.1]
  rfl

theorem onlySpi_stamp : t.stamp = s.stamp := by
  rw [← h.1]
  rfl

theorem onlySpi_pathWrites : t.pathWrites .spi = s.pathWrites .spi := by
  have henabled := h.2 Reg.SYS_PATH_CTL_SPI_WR_EN 0 (by decide)
  unfold State.pathWrites State.flag
  rw [henabled]
  rfl

theorem onlySpi_pointRefusal (pt type : Nat) : t.pointRefusal pt type = s.pointRefusal pt type :=
  pointRefusal_of_frame h.1 (h.2 Reg.PLATE_STAT_RUN_SLOT 0 (by decide)) pt type

end

/-! ## The end of a transfer (R39, R43) -/

/-- The state with no transfer in progress, its status not yet reported. -/
def spiAtRest (s : State) : State :=
  { s with host := { s.host with spi := .none, spiAddr := 0, spiOut := [], spiFail := none, spiPos := 0, spiStatOnly := true, spiHeld := none } }

section
variable (s : State)

theorem spiEnd_read (hread : s.host.spi = .read) : s.spiEnd = if s.host.spiStatOnly then spiAtRest s else
    (spiAtRest s).readEnd (s.host.spiFail.getD (.done, 0)).1 (s.host.spiFail.getD (.done, 0)).2 := by
  unfold State.spiEnd
  dsimp only
  rw [hread]
  rfl

theorem spiEnd_write (hwrite : s.host.spi = .write) : s.spiEnd =
    if s.host.spiHeld.isSome then (spiAtRest s).set Reg.SYS_SPI_STAT_LAST_STATUS Status.range.code else spiAtRest s := by
  unfold State.spiEnd
  dsimp only
  rw [hwrite]
  rfl

theorem spiEnd_onlySpi : OnlySpi s s.spiEnd := by
  have hrest : OnlySpi s (spiAtRest s) := onlySpi_host _ _
  cases hspi : s.host.spi with
  | read =>
    rw [spiEnd_read s hspi]
    split
    · exact hrest
    · exact onlySpi_trans hrest (onlySpi_readEnd ..)
  | write =>
    rw [spiEnd_write s hspi]
    split
    · exact onlySpi_trans hrest (onlySpi_set _ _ _ (by decide))
    · exact hrest
  | none | unknown =>
    unfold State.spiEnd
    dsimp only
    rw [hspi]
    exact hrest

theorem spiEnd_host : s.spiEnd.host = (spiAtRest s).host := by
  unfold State.spiEnd
  dsimp only
  split
  · split <;> rfl
  · split <;> rfl
  · rfl

/-! ## The start of a transfer -/

theorem spiStart_onlySpi (c : SpiCmd) (a : Word) :
    OnlySpi s (s.spiStart c a) ∧ (s.spiStart c a).host.spi = c ∧ (s.spiStart c a).host.spiHeld = none := by
  have htouch : OnlySpi s (s.touch .spi) := by
    obtain ⟨h, e⟩ := touch_host s .spi
    rw [e]
    exact onlySpi_host s h
  refine ⟨onlySpi_trans (onlySpi_trans htouch (spiEnd_onlySpi _)) (onlySpi_host _ _), rfl, ?_⟩
  exact congrArg HostState.spiHeld (spiEnd_host (s.touch .spi))

/-! ## Reads (R39, R42) -/

/-- A read transfer whose words, first failure and count are these. -/
def readOut (a : Word) (n : Nat) (out : List Word) (fail : Option (Status × Nat)) : State :=
  { s with host := { s.host with spiOut := out, spiFail := fail, spiPos := n, spiStatOnly := decide (a.toNat = 0x000024 ∧ n = 1) } }

/-- The part drives the words of a read, and nothing else than the host block and a free number changes. -/
theorem driveRead_drives (ws : List Word) :
    OnlySpi s (s.driveRead ws) ∧ ∃ k, k ≤ 31
      ∧ (s.driveRead ws).host = { s.host with spiSdo := List.replicate k 0xFF#8 ++ 0xA5#8 :: ws.flatMap wordBytes } := by
  refine ⟨?_, Config.freeValue s.freeCtr % 2 ^ 5, by omega, rfl⟩
  exact onlySpi_of_regs rfl

end

section
variable {s t : State} {a : Word} (ht : t = s.spiStart .read a)
include ht

theorem spiReadRun_window {w n : Nat} (haddr : a.toNat = windowAddr w) (hw : w + n ≤ 2 ^ 21) (hbooted : t.booted = true) :
    s.spiReadRun a n = (readOut t a n (t.pointWords w n) none).driveRead (t.pointWords w n) := by
  have haligned : a.toNat % 4 = 0 := by unfold windowAddr at haddr; omega
  have hwords := readWords_window hbooted false 0 w n hw
  rw [← readValues_window t w n, ← firstFail_window t w n]
  unfold State.spiReadRun
  dsimp only
  rw [← ht, if_pos haligned, haddr, hwords]
  unfold readOut
  rw [haddr]
  rfl

theorem spiReadRun_unaligned {n : Nat} (h : a.toNat % 4 ≠ 0) (hn : 0 < n) :
    s.spiReadRun a n = (readOut t a n (List.replicate n 0) (some (.range, 0))).driveRead (List.replicate n 0) := by
  have hvalues : readValues (List.replicate n (Status.range, 0)) = List.replicate n 0 := List.map_replicate
  have hfail : firstFail (List.replicate n (Status.range, 0)) 0 = some (.range, 0) := by
    obtain ⟨m, rfl⟩ := Nat.exists_eq_succ_of_ne_zero hn.ne'
    rfl
  rw [← hvalues, ← hfail]
  unfold State.spiReadRun
  dsimp only
  rw [← ht, if_neg h]
  rfl

end

/-- What a read transfer from a started one shows. -/
theorem readOut_drives {s t : State} {a : Word} (ht : t = s.spiStart .read a) (n : Nat) (out : List Word) (fail : Option (Status × Nat)) :
    let u := (readOut t a n out fail).driveRead out
    (u.host.spi = .read ∧ u.host.spiOut = out ∧ u.host.spiPos = n
      ∧ ∃ k, k ≤ 31 ∧ u.host.spiSdo = List.replicate k 0xFF#8 ++ 0xA5#8 :: out.flatMap wordBytes)
    ∧ u.host.spiFail = fail ∧ OnlySpi s u := by
  intro u
  obtain ⟨hstart, hspi, -⟩ := spiStart_onlySpi s .read a
  rw [← ht] at hstart hspi
  obtain ⟨honly, k, hk, hhost⟩ := driveRead_drives (readOut t a n out fail) out
  have hread : OnlySpi t (readOut t a n out fail) := onlySpi_host _ _
  refine ⟨⟨?_, ?_, ?_, k, hk, ?_⟩, ?_, onlySpi_trans (onlySpi_trans hstart hread) honly⟩
  · exact (congrArg HostState.spi hhost).trans hspi
  · exact congrArg HostState.spiOut hhost
  · exact congrArg HostState.spiPos hhost
  · exact congrArg HostState.spiSdo hhost
  · exact congrArg HostState.spiFail hhost

/-! ## Writes (R39, R43) -/

/-- The state in which a write transfer of k words drives 0xFF throughout. -/
def writeStart (s : State) (a : Word) (k : Nat) : State := (s.spiStart .write a).driveSdo (List.replicate (5 + 4 * k) 0xFF#8)

section
variable (s : State) (a : Word) (k : Nat)

theorem writeStart_onlySpi : OnlySpi s (writeStart s a k) :=
  onlySpi_trans (spiStart_onlySpi s .write a).1 (onlySpi_driveSdo _ _)

theorem writeStart_host : ((writeStart s a k).host.spi = .write ∧ (writeStart s a k).host.spiSdo = List.replicate (5 + 4 * k) 0xFF#8)
    ∧ (writeStart s a k).host.spiHeld = none :=
  ⟨⟨(spiStart_onlySpi s .write a).2.1, rfl⟩, (spiStart_onlySpi s .write a).2.2⟩

/-- A status reported in a write transfer. -/
theorem writeStart_answer (st : Status) :
    let u := (writeStart s a k).answer .spi st
    (u.host.spi = .write ∧ u.host.spiSdo = List.replicate (5 + 4 * k) 0xFF#8) ∧ u.get Reg.SYS_SPI_STAT_LAST_STATUS = st.code ∧ OnlySpi s u := by
  intro u
  obtain ⟨honly, hstatus, hhost⟩ := answer_spi (writeStart s a k) st
  obtain ⟨⟨hspi, hsdo⟩, -⟩ := writeStart_host s a k
  refine ⟨⟨?_, ?_⟩, hstatus, onlySpi_trans (writeStart_onlySpi s a k) honly⟩
  · exact (congrArg HostState.spi hhost).trans hspi
  · exact (congrArg HostState.spiSdo hhost).trans hsdo

variable {a}

theorem spiWriteRun_unaligned (v : Word) (h : a.toNat % 4 ≠ 0) : s.spiWriteRun a [v] = (writeStart s a 1).answer .spi .range := if_neg h

theorem spiWriteRun_aligned (ws : List Word) (h : a.toNat % 4 = 0) : s.spiWriteRun a ws = (writeStart s a ws.length).spiWords a.toNat ws := if_pos h

end

section
variable (s : State) {w : Nat} (hw : w < 2 ^ 21) (heven : w % 2 = 0)
include hw heven

theorem spiWords_held (v : Word) : s.spiWords (windowAddr w) [v] = { s with host := { s.host with spiHeld := some (BitVec.ofNat 20 (w / 2), v) } } := by
  have hpoint : (windowAddr w - 0x40000000) / 8 = w / 2 := by unfold windowAddr; omega
  rw [← hpoint]
  exact if_pos (by unfold windowAddr; omega)

theorem spiWords_record (v x : Word) : s.spiWords (windowAddr w) [v, x] =
    (s.writePoint .spi (w / 2) v (BitVec.ofNat 8 x.toNat) (x.toNat / 256 % 16)).2.answer .spi
      (s.writePoint .spi (w / 2) v (BitVec.ofNat 8 x.toNat) (x.toNat / 256 % 16)).1 := by
  have hpoint : (windowAddr w - 0x40000000) / 8 = w / 2 := by unfold windowAddr; omega
  rw [← hpoint]
  exact if_pos (by unfold windowAddr; omega)

end

/-! ## The statement -/

section
variable {s : State} (hup : s.pathUp .spi = true)
include hup

theorem completes_spiRead {a : Word} {n : Nat} {u : State} {P : State → Prop} (hrun : s.spiReadRun a n = u) (hP : P u) :
    Completes (.spiRead a n) s P := ⟨u, congrArg Host.Outcome.next ((if_pos hup).trans hrun), hP⟩

theorem completes_spiWrite {a : Word} {ws : List Word} {u : State} {P : State → Prop} (hrun : s.spiWriteRun a ws = u) (hP : P u) :
    Completes (.spiWrite a ws) s P := ⟨u, congrArg Host.Outcome.next ((if_pos hup).trans hrun), hP⟩

/-- A whole record over SPI is taken as the part takes a record (R43, R70). -/
theorem spiWrite_record {a v x : Word} {w : Nat} (haddr : a.toNat = windowAddr w) (hw : w < 2 ^ 21) (heven : w % 2 = 0)
    (hbooted : s.booted = true) (hwrites : s.pathWrites .spi = true) (hpoint : s.pointRefusal (w / 2) (x.toNat / 256 % 16) = .done) :
    Completes (.spiWrite a [v, x]) s fun u => u.host.spiHeld = none ∧ u.get Reg.SYS_SPI_STAT_LAST_STATUS = 0 ∧ ∃ y, u = y.answer .spi .done
      ∧ PointTaken (writeStart s a 2) y (w / 2) { s.point (w / 2) with value := v, quality := BitVec.ofNat 8 x.toNat, stamp := s.stamp } := by
  have honly := writeStart_onlySpi s a 2
  obtain ⟨hdone, htaken⟩ := writePoint_taken (s := writeStart s a 2) v (BitVec.ofNat 8 x.toNat) ((onlySpi_booted honly).trans hbooted)
    ((onlySpi_pathWrites honly).trans hwrites) ((onlySpi_pointRefusal honly _ _).trans hpoint)
  have hrun := spiWords_record (writeStart s a 2) hw heven v x
  rw [hdone] at hrun
  rw [onlySpi_point honly, onlySpi_stamp honly] at htaken
  obtain ⟨-, hstatus, hhost⟩ := answer_spi ((writeStart s a 2).writePoint .spi (w / 2) v (BitVec.ofNat 8 x.toNat) (x.toNat / 256 % 16)).2 .done
  have ⟨_, _, _, _, hrest⟩ := htaken
  refine completes_spiWrite hup ((spiWriteRun_aligned s [v, x] ?_).trans ?_) ⟨?_, hstatus, _, rfl, htaken⟩
  · rw [haddr]; unfold windowAddr; omega
  · rw [haddr]; exact hrun
  · have hheld := congrArg (fun u => u.host.spiHeld) hrest
    exact (congrArg HostState.spiHeld hhost).trans (hheld.trans (writeStart_host s a 2).2)

end

/-- Settles O40: a transfer starts by ending the one before it, and ends with its status; between the two it reads or writes. -/
theorem spiTransfers : Obligations.SpiTransfers := by
  unfold Obligations.SpiTransfers
  intro s a v x w n c stat drives idleSdo
  refine ⟨fun hdown => ?_, fun hup => ⟨fun hbooted haddr hw => ?_, fun h hn => ?_, ?_, fun h => ?_, fun haddr hw heven => ⟨?_, ?_, ?_⟩⟩, ?_⟩
  · have hserved : ¬ s.pathUp .spi = true := by rw [hdown]; decide
    intro e he
    simp only [List.mem_cons, List.not_mem_nil, or_false] at he
    obtain rfl | rfl | rfl := he
    all_goals exact ⟨s, congrArg Host.Outcome.next (if_neg hserved), rfl⟩
  · have honly := (spiStart_onlySpi s .read a).1
    refine completes_spiRead hup (spiReadRun_window rfl haddr hw ((onlySpi_booted honly).trans hbooted)) ?_
    rw [onlySpi_pointWords honly]
    exact readOut_drives rfl n (s.pointWords w n) none
  · exact completes_spiRead hup (spiReadRun_unaligned rfl h hn) (readOut_drives rfl n _ _)
  · refine ⟨_, congrArg Host.Outcome.next (if_pos hup), rfl, rfl, ?_⟩
    exact onlySpi_trans (spiStart_onlySpi s .unknown 0).1 (onlySpi_driveSdo _ _)
  · exact completes_spiWrite hup (spiWriteRun_unaligned s v h) (writeStart_answer s a 1 .range)
  · have hrun := spiWords_held (writeStart s a 1) hw heven v
    have haligned : a.toNat % 4 = 0 := by omega
    rw [← (show a.toNat = windowAddr w from haddr)] at hrun
    refine completes_spiWrite hup ((spiWriteRun_aligned s [v] haligned).trans hrun) ⟨(writeStart_host s a 1).1, rfl, onlySpi_trans (writeStart_onlySpi s a 1) (onlySpi_host _ _)⟩
  · intro hbooted hwrites hpoint
    obtain ⟨u, hexec, hheld, hstatus, htaken⟩ := spiWrite_record hup (v := v) haddr hw heven hbooted hwrites hpoint
    exact ⟨u, hexec, writeStart s a 2, writeStart_onlySpi s a 2, (writeStart_host s a 2).1, hheld, hstatus, htaken⟩
  · intro hbooted hwrites
    have honly := writeStart_onlySpi s a 2
    have hrun := spiWords_record (writeStart s a 2) hw heven v x
    have haligned : a.toNat % 4 = 0 := by omega
    rw [writePoint_locked _ _ _ _ ((onlySpi_booted honly).trans hbooted) ((onlySpi_pathWrites honly).trans hwrites),
      ← (show a.toNat = windowAddr w from haddr)] at hrun
    exact completes_spiWrite hup ((spiWriteRun_aligned s [v, x] haligned).trans hrun) (writeStart_answer s a 2 .locked)
  · have hhost := spiEnd_host s
    refine ⟨s.spiEnd, rfl, congrArg HostState.spi hhost, congrArg HostState.spiHeld hhost, (congrArg HostState.spiSdo hhost).trans rfl,
      spiEnd_onlySpi s, fun hread hall f k hfail => ?_, fun hread hstat => ?_, fun hwrite hheld => ?_⟩
    · rw [spiEnd_read s hread, hall, hfail]
      exact readEnd_fields ..
    · rw [spiEnd_read s hread, hstat]
      rfl
    · rw [spiEnd_write s hwrite, hheld]
      exact get_set_same _ _ _ _

end Sys2Proof.Proofs
end

section
/-! Each instruction of the pump but RET is one run of the shared `State.runInstr` with an effect of its own that writes no point but
those that R72 and R361 let the pump write; what follows of that for all of them: the statements on the points that the pump may not
store to (O23) and on the limits of an instruction (O24). -/

namespace Sys2Proof.Proofs
open Sys2Proof Sys2Proof.Machine Sys2Proof.Laws

/-! ## Points that the pump may not store to (R72, R361) -/

/-- What the store check of R72 asks of a point: a populated area, and a command point there or a declaration by the running plate. -/
theorem storable_cases {s : State} {a : Nat} (h : s.storable a = true) :
    populated s.variant a = true ∧ (areaOf a = .device ∧ isCommandPoint a = true
      ∨ areaOf a ≠ .device ∧ areaOf a ≠ .input ∧ s.declared a = true) := by
  obtain ⟨hwritable, -⟩ := Bool.and_eq_true_iff.1 h
  obtain ⟨hpop, harea⟩ := Bool.and_eq_true_iff.1 hwritable
  refine ⟨hpop, ?_⟩
  cases heq : areaOf a <;> rw [heq] at harea
  case input => cases harea
  case device => exact .inl ⟨rfl, (Bool.and_eq_true_iff.1 harea).1⟩
  all_goals exact .inr ⟨nofun, nofun, harea⟩

/-- From s to u every point that the pump may not store to in s kept its record. -/
def PointsGuarded (s u : State) : Prop := ∀ a, s.storable a = false → u.point a = s.point a

theorem pointsGuarded_of_points {s u : State} (hpoints : u.points = s.points) (hvariant : u.variant = s.variant) : PointsGuarded s u :=
  fun a _ => point_of_points hpoints hvariant a

@[simp] theorem point_wrviol (s : State) (a : Nat) : s.wrviol.point a = s.point a :=
  point_of_points (by simp [State.wrviol]) (by simp [State.wrviol]) a

theorem wrviol_guarded (s : State) : PointsGuarded s s.wrviol := fun a _ => point_wrviol s a

theorem noted_setPoint_guarded (s : State) {p : Nat} (r : Point) (h : s.storable p = true) :
    PointsGuarded s ((s.notePoint p).setPoint p r) := by
  intro a ha
  have hne : a ≠ p := by
    rintro rfl
    rw [h] at ha
    cases ha
  rw [point_setPoint_other _ _ _ _ hne, notePoint_point]

theorem storeValue_guarded (s : State) (p : Nat) (v : Word) : PointsGuarded s (s.storeValue p v) := by
  unfold State.storeValue
  split
  · next h => exact noted_setPoint_guarded s _ h
  · exact wrviol_guarded s

theorem storeQuality_guarded (s : State) (p : Nat) (w : Word) : PointsGuarded s (s.storeQuality p w).1 := by
  unfold State.storeQuality
  split
  · exact fun _ _ => rfl
  · split
    · next h => exact noted_setPoint_guarded s _ h
    · exact wrviol_guarded s

theorem storeBit_guarded (s : State) (p : PointAddr) (bit : BitVec 5) (b : Bool) : PointsGuarded s (s.storeBit p bit b) := by
  unfold State.storeBit
  split
  · next h => exact noted_setPoint_guarded s _ h
  · exact wrviol_guarded s

/-! ## A block move (R114) -/

theorem point_storeValue_other (s : State) {p a : Nat} (v : Word) (h : a ≠ p) : (s.storeValue p v).point a = s.point a := by
  unfold State.storeValue
  split
  · rw [point_setPoint_other _ _ _ _ h, notePoint_point]
  · exact point_wrviol s a

theorem point_storeFrom_other (s : State) (p a : Nat) (l : List Word) (h : ∀ j < l.length, a ≠ p + j) :
    (s.storeFrom p l).point a = s.point a := by
  induction l generalizing s p with
  | nil => rfl
  | cons v l ih =>
    have htail : ∀ j < l.length, a ≠ p + 1 + j := fun j hj => by
      rw [Nat.add_right_comm]
      exact h (j + 1) (Nat.succ_lt_succ hj)
    exact (ih _ _ htail).trans (point_storeValue_other s v (h 0 (Nat.zero_lt_succ _)))

@[simp] theorem length_valuesFrom (s : State) (p n : Nat) : (s.valuesFrom p n).length = n := by
  induction n generalizing p with
  | zero => rfl
  | succ n ih => exact congrArg (· + 1) (ih (p + 1))

theorem storableRange_iff (s : State) (p n : Nat) : s.storableRange p n = true ↔ ∀ j < n, s.storable (p + j) = true := by
  induction n generalizing p with
  | zero => simp [State.storableRange]
  | succ n ih =>
    rw [State.storableRange, Bool.and_eq_true, ih, Nat.forall_lt_succ_left]
    simp only [Nat.add_zero, Nat.add_right_comm p 1]
    rfl

theorem moveBlock_guarded {s u : State} {src dst n : Nat} (h : s.moveBlock src dst n = .moved u) : PointsGuarded s u := by
  unfold State.moveBlock at h
  split at h
  · next hrange =>
    split at h
    · cases h
      intro a ha
      refine point_storeFrom_other s dst a _ fun j hj => ?_
      rintro rfl
      rw [length_valuesFrom] at hj
      rw [(storableRange_iff s dst n).1 hrange j hj] at ha
      cases ha
    · cases h
  · cases h

/-! ## What an instruction comes to -/

/-- Where an instruction's effect on s completes, it wrote no point that the pump may not store to. -/
def FlowGuarded (s : State) : Flow → Prop
  | .cont _ u => PointsGuarded s u
  | .stack | .illegal => True

theorem flowGuarded_refl (s : State) (p : Proc) : FlowGuarded s (.cont p s) := fun _ _ => rfl

theorem taskFault_guarded (s : State) (t : Task) (b : Bool) : PointsGuarded s (s.taskFault t b) := by
  have hmeasured : (s.measured t).points = s.points ∧ (s.measured t).variant = s.variant := by cases t <;> exact ⟨rfl, rfl⟩
  unfold State.taskFault
  dsimp only
  split <;> exact pointsGuarded_of_points (by simp [hmeasured]) (by simp [hmeasured])

theorem cancel_guarded (s : State) (t : Task) (c : Nat) : PointsGuarded s (s.cancel t c) := by
  cases t <;> exact fun _ _ => rfl

theorem runInstr_guarded {words cost : Nat} {f : Proc → State → Flow} (h : ∀ p u, FlowGuarded u (f p u)) (s : State) :
    PointsGuarded s (s.runInstr words cost f) := by
  unfold State.runInstr
  split
  · exact fun _ _ => rfl
  · next t _ =>
    dsimp only
    split
    · next p' s' hflow =>
      split
      · have hcont : FlowGuarded (s.charge cost) (.cont p' s') := by
          split at hflow
          · exact hflow ▸ h _ _
          · cases hflow
        intro a ha
        exact (point_of_points (setProc_points ..) (setProc_variant ..) a).trans (hcont a ha)
      · exact cancel_guarded s t _
    · split
      · exact taskFault_guarded (s.charge cost) t false
      · exact cancel_guarded s t _
    · split
      · exact taskFault_guarded (s.charge 1) t true
      · exact cancel_guarded s t _

/-! ## Every instruction of the pump but RET -/

/-- The operation is one run of `State.runInstr`, of a word and 1 ns at least, whose effect writes no point that the pump may not store to. -/
def IsRun (op : State → State) : Prop :=
  ∃ words cost f, 0 < words ∧ 0 < cost ∧ (∀ p u, FlowGuarded u (f p u)) ∧ ∀ s, op s = s.runInstr words cost f

theorem isRun_runInstr {words cost : Nat} {f : Proc → State → Flow} (h : ∀ p u, FlowGuarded u (f p u)) (hw : 0 < words) (hc : 0 < cost) :
    IsRun fun s => s.runInstr words cost f := ⟨words, cost, f, hw, hc, h, fun _ => rfl⟩

theorem isRun_runProc {words cost : Nat} (f : Proc → State → Proc) (hw : 0 < words) (hc : 0 < cost) :
    IsRun fun s => s.runProc words cost f := isRun_runInstr (fun _ u => flowGuarded_refl u _) hw hc

theorem operandWords_pos (op : Operand) : 0 < operandWords op := by cases op <;> exact Nat.succ_pos _

theorem isRun_runWord (x : Acc) (op : Operand) {cost : Nat} (f : Proc → Word → Word → Proc) (hc : 0 < cost) :
    IsRun fun s => s.runWord x op cost f := isRun_runProc _ (operandWords_pos op) (Nat.add_pos_left hc _)

theorem opBitWrite_isRun (p : PointAddr) (bit : BitVec 5) (w v : Bool → Bool) : IsRun fun s => s.opBitWrite p bit w v := by
  refine isRun_runInstr (fun pr u => ?_) Nat.one_pos Nat.one_pos
  show PointsGuarded u (if w pr.ba then u.storeBit p bit (v pr.ba) else u)
  split
  · exact storeBit_guarded u p bit _
  · exact fun _ _ => rfl

theorem opCond_isRun (c : BitVec 5) (g : Bool → Bool → Bool) : IsRun fun s => s.opCond c g := by
  refine isRun_runInstr (fun pr u => ?_) Nat.one_pos Nat.one_pos
  split
  · exact flowGuarded_refl u _
  · trivial

theorem opNest_isRun : IsRun State.opNest := by
  refine isRun_runInstr (fun pr u => ?_) Nat.one_pos Nat.one_pos
  split
  · exact flowGuarded_refl u _
  · trivial

theorem opJoin_isRun (g : Bool → Bool → Bool) : IsRun fun s => s.opJoin g := by
  refine isRun_runInstr (fun pr u => ?_) Nat.one_pos Nat.one_pos
  split
  · trivial
  · exact flowGuarded_refl u _

theorem opLd_isRun (x : Acc) (sel : Sel) (op : Operand) : IsRun fun s => s.opLd x sel op := by
  refine isRun_runInstr (fun pr u => ?_) (operandWords_pos op) (Nat.add_pos_left Nat.one_pos _)
  split
  · exact flowGuarded_refl u _
  · trivial

theorem opStAt_guarded (p : Proc) (s : State) (x : Acc) (sel : Sel) (a : Nat) : FlowGuarded s (State.opStAt p s x sel a) := by
  cases sel with
  | value => exact storeValue_guarded s a _
  | quality => exact storeQuality_guarded s a _
  | age => trivial

theorem opSt_isRun (x : Acc) (sel : Sel) (op : Operand) : IsRun fun s => s.opSt x sel op := by
  refine isRun_runInstr (fun pr u => ?_) (operandWords_pos op) (Nat.add_pos_left Nat.one_pos _)
  cases op with
  | direct a => exact opStAt_guarded ..
  | indexed base =>
    dsimp only
    split
    · trivial
    · split
      · exact opStAt_guarded ..
      · exact wrviol_guarded u
  | imm w => trivial
  | partner => trivial

theorem opSetCv_isRun (i : BitVec 16) (v : Word → Word) : IsRun fun s => s.opSetCv i v := by
  refine isRun_runInstr (fun pr u => ?_) Nat.one_pos (by decide)
  show PointsGuarded u (if pr.ba then _ else u)
  split <;> exact fun _ _ => rfl

theorem opJc_isRun (c : BitVec 5) (target : BitVec 20) : IsRun fun s => s.opJc c target := by
  refine isRun_runInstr (fun pr u => ?_) Nat.one_pos (by decide)
  split
  · trivial
  · split
    · trivial
    · exact flowGuarded_refl u _

theorem opCall_isRun (c : BitVec 5) (block : BitVec 16) : IsRun fun s => s.opCall c block := by
  refine isRun_runInstr (fun pr u => ?_) Nat.one_pos (by decide)
  split
  · trivial
  · split
    · trivial
    · split
      · exact flowGuarded_refl u _
      · split
        · exact flowGuarded_refl u _
        · trivial

theorem opBmov_isRun (src dst : PointAddr) (c : BitVec 12) : IsRun fun s => s.opBmov src dst c := by
  refine isRun_runInstr (fun pr u => ?_) (by decide) (Nat.add_pos_left (by decide) _)
  split
  · next hmove => exact moveBlock_guarded hmove
  · exact wrviol_guarded u

theorem opBmovx_isRun (c : BitVec 12) : IsRun fun s => s.opBmovx c := by
  refine isRun_runInstr (fun pr u => ?_) (by decide) (Nat.add_pos_left (by decide) _)
  split
  · next hmove => exact moveBlock_guarded hmove
  · exact flowGuarded_refl u _
  · exact wrviol_guarded u

/-- The instructions grouped as they share an operation. -/
theorem pump_isRun {i : Instr} (hp : i.isPump = true) : ∃ op, (∀ s, exec i s = .next (op s)) ∧ IsRun op := by
  cases i with
  | ldb | ldbn | andb | andbn | orb | orbn | xorb | xorbn | andq | andnq | ldq | notba | setba | clrba | neg | abs | fneg | fabs | fsqrt
  | itf | utf | fti | ftu | swap | ldcyc | ldtask | nop =>
    exact ⟨_, fun _ => rfl, isRun_runProc _ (by decide) (by decide)⟩
  | add | sub | mul | div | divu | mod | andw | orw | xorw | shl | shr | sar | cmp | cmpu | fcmp | fadd | fsub | fmul | fmin | fmax | fdiv =>
    exact ⟨_, fun _ => rfl, isRun_runWord _ _ _ (by decide)⟩
  | rise | fall | ton | tof | tp | ctu | ctd | ctud =>
    exact ⟨_, fun _ => rfl, isRun_runInstr (fun _ _ _ _ => rfl) (by decide) (by decide)⟩
  | setb | clrb | outb | outbn => exact ⟨_, fun _ => rfl, opBitWrite_isRun ..⟩
  | ldc | andc | orc => exact ⟨_, fun _ => rfl, opCond_isRun ..⟩
  | nest => exact ⟨_, fun _ => rfl, opNest_isRun⟩
  | joina | joinan | joino | joinon | joinx | joinxn => exact ⟨_, fun _ => rfl, opJoin_isRun _⟩
  | ld => exact ⟨_, fun _ => rfl, opLd_isRun ..⟩
  | st => exact ⟨_, fun _ => rfl, opSt_isRun ..⟩
  | crst | cld => exact ⟨_, fun _ => rfl, opSetCv_isRun ..⟩
  | jc => exact ⟨_, fun _ => rfl, opJc_isRun ..⟩
  | call => exact ⟨_, fun _ => rfl, opCall_isRun ..⟩
  | bmov => exact ⟨_, fun _ => rfl, opBmov_isRun ..⟩
  | bmovx => exact ⟨_, fun _ => rfl, opBmovx_isRun _⟩
  | loopreq =>
    refine ⟨_, fun _ => rfl, isRun_runInstr (fun pr u => ?_) Nat.one_pos (by decide)⟩
    show PointsGuarded u (if pr.ba then _ else u)
    split
    · exact storeValue_guarded u _ _
    · exact fun _ _ => rfl
  | instructionFault => exact ⟨_, fun _ => rfl, isRun_runInstr (fun _ _ => trivial) (by decide) (by decide)⟩
  | _ => cases hp

/-- Settles O23: what the store check asks, and the guard of every effect of a pump instruction. -/
theorem pumpIsolation : Obligations.PumpIsolation := by
  refine ⟨fun s p => ?_, fun s u i hp hexec => ?_⟩
  · cases hstore : s.storable p with
    | false => exact ⟨fun _ => rfl, fun _ _ => rfl, fun _ => rfl, fun _ _ => rfl⟩
    | true =>
      obtain ⟨hpop, hdevice | hdeclared⟩ := storable_cases hstore
      · simp [hpop, hdevice]
      · simp [hpop, hdeclared]
  · obtain ⟨op, hop, words, cost, f, -, -, hguard, hrun⟩ := pump_isRun hp
    rw [hop, hrun] at hexec
    cases hexec
    exact runInstr_guarded hguard s

/-! ## The limits of an instruction (R81, R84, R96, R97) -/

/-- A longer instruction does not fit where a shorter one does not. -/
theorem fits_longer {s : State} {t : Task} {c d : Nat} (h : s.fits t c = false) (hle : c ≤ d) : s.fits t d = false := by
  have hinstant : s.taskInstant c ≤ s.taskInstant d := by
    unfold State.taskInstant State.paced
    gcongr
  unfold State.fits at *
  cases t <;> simp only [decide_eq_false_iff_not] at * <;> omega

/-- An instruction of more words does not lie within a block where one of fewer does not. -/
theorem inBlock_longer {s : State} {p : Proc} {v w : Nat} (h : s.inBlock p v = false) (hle : v ≤ w) : s.inBlock p w = false := by
  unfold State.inBlock at *
  cases hlen : s.blockLen p.block with
  | none => rw [hlen] at h; cases h
  | some n =>
    rw [hlen] at h
    simp only [Option.all_some, decide_eq_false_iff_not] at *
    omega

section
variable {s : State} {t : Task} {words cost : Nat} {f : Proc → State → Flow} (hrun : s.pump.running = some t)
include hrun

theorem runInstr_beyond (hfits : s.fits t 1 = true) (hblock : s.inBlock (s.proc t) words = false) :
    s.runInstr words cost f = (s.charge 1).taskFault t true := by
  unfold State.runInstr
  rw [hrun]
  simp [hblock, hfits]

theorem runInstr_cut (hcost : 0 < cost) (hfits : s.fits t 1 = false) : ∃ c, s.runInstr words cost f = s.cancel t c := by
  have hlonger : s.fits t cost = false := fits_longer hfits hcost
  unfold State.runInstr
  rw [hrun]
  dsimp only
  split
  · exact ⟨cost, by simp [hlonger]⟩
  · exact ⟨cost, by simp [hlonger]⟩
  · exact ⟨1, by simp [hfits]⟩

theorem cancel_cut (c : Nat) :
    (s.cancel t c).points = s.points ∧ (s.cancel t c).regs = s.regs ∧ (s.cancel t c).pump.inst = s.pump.inst
      ∧ (∀ t', (s.cancel t c).proc t' = s.proc t') ∧ (t = .slow → s.cancel t c = { s with pump := { s.pump with running := none } })
      ∧ (t ≠ .slow → (s.cancel t c).pump.running = some t ∧ (s.cancel t c).now = max s.now s.reserveAt) := by
  have hwait : s.now + (s.reserveAt - s.now) = max s.now s.reserveAt := by omega
  cases t with
  | slow => exact ⟨rfl, rfl, rfl, fun t' => by cases t' <;> rfl, fun _ => rfl, fun h => absurd rfl h⟩
  | fast | hold => exact ⟨rfl, rfl, rfl, fun t' => by cases t' <;> rfl, nofun, fun _ => ⟨hrun, hwait⟩⟩

end

/-- Settles O24: past its block's end a run of `State.runInstr` is an instruction fault, without room for 1 ns it is `State.cancel`. -/
theorem instructionLimits : Obligations.InstructionLimits := by
  intro s t i hp hrun
  obtain ⟨op, hop, words, cost, f, hwords, hcost, -, heq⟩ := pump_isRun hp
  refine ⟨fun hfits hblock => ⟨op s, hop s, ?_⟩, fun hfits => ⟨op s, hop s, ?_⟩⟩
  · rw [heq, runInstr_beyond hrun hfits (inBlock_longer hblock hwords)]
    exact taskFault_spec s t 1 true
  · obtain ⟨c, hcut⟩ := runInstr_cut (words := words) (f := f) hrun hcost hfits
    rw [heq, hcut]
    exact cancel_cut hrun c

end Sys2Proof.Proofs
end

section
/-! The instructions that change the processor state, or an edge memory with it: the statement on the bit reads (O8). -/

namespace Sys2Proof.Proofs
open Sys2Proof Sys2Proof.Machine Sys2Proof.Laws

section
variable {s : State} {t : Task}

theorem runInstr_cont {cost words : Nat} {f : Proc → State → Flow} {p : Proc} {u : State} (h : Ready s t cost words)
    (hflow : f (s.ahead t words) (s.charge cost) = .cont p u) : s.runInstr words cost f = u.setProc t p := by
  rw [runInstr_ready h, hflow]

theorem runProc_onlyProc {cost words : Nat} (h : Ready s t cost words) (f : Proc → State → Proc) :
    OnlyProc s (s.runProc words cost f) t cost (f (s.ahead t words) (s.charge cost)) := by
  rw [runProc_ready h]
  exact onlyProc_charge ..

theorem opBit_onlyProc (h : Ready s t 1) (p : PointAddr) (bit : BitVec 5) (f : Bool → Bool → Bool) :
    OnlyProc s (s.opBit p bit f) t 1 { s.ahead t 1 with ba := f (s.proc t).ba ((s.point p.toNat).value.getLsbD bit.toNat) } :=
  runProc_onlyProc h _

/-- The quality byte has class good where its two upper bits are 0 (R66). -/
theorem good_iff_class (r : Point) : r.good = decide (r.quality.toNat / 64 = 0) := by
  unfold Point.good
  rw [decide_eq_decide]
  omega

theorem opGood_onlyProc (h : Ready s t 1) (p : PointAddr) (f : Bool → Bool → Bool) :
    OnlyProc s (s.opGood p f) t 1
      { s.ahead t 1 with ba := f (s.proc t).ba (decide ((s.point p.toNat).quality.toNat / 64 = 0)) } := by
  rw [← good_iff_class]
  exact runProc_onlyProc h _

theorem opBa_onlyProc (h : Ready s t 1) (f : Bool → Bool) :
    OnlyProc s (s.opBa f) t 1 { s.ahead t 1 with ba := f (s.proc t).ba } :=
  runProc_onlyProc h _

theorem opEdge_ready (h : Ready s t 2) (i : BitVec 16) (f : Bool → Bool → Bool) :
    s.opEdge i f = ((s.charge 2).setEdge i.toNat (s.proc t).ba).setProc t { s.ahead t 1 with ba := f (s.edge i.toNat) (s.proc t).ba } :=
  runInstr_cont h rfl

theorem opEdge_onlyInst (h : Ready s t 2) (i : BitVec 16) (f : Bool → Bool → Bool) :
    (∃ inst, OnlyInst s (s.opEdge i f) t 2 { s.ahead t 1 with ba := f (s.edge i.toNat) (s.proc t).ba } inst
        ∧ { inst with edges := s.pump.inst.edges } = s.pump.inst)
      ∧ (s.opEdge i f).edge i.toNat = (s.proc t).ba ∧ ∀ j, j ≠ i.toNat → (s.opEdge i f).edge j = s.edge j := by
  rw [opEdge_ready h]
  exact onlyInst_edge ..

end

/-- Settles O8: each list's instructions share one operation, with the function of BA that the list names. -/
theorem bitReads : Obligations.BitReads := by
  refine ⟨?_, ?_, ?_⟩
  · intro e he s t p bit hready
    simp only [List.mem_cons, List.not_mem_nil, or_false] at he
    obtain rfl | rfl | rfl | rfl | rfl | rfl | rfl | rfl := he
    all_goals exact ⟨_, rfl, opBit_onlyProc hready p bit _⟩
  · intro e he s t p hready
    simp only [List.mem_cons, List.not_mem_nil, or_false] at he
    obtain rfl | rfl | rfl | rfl | rfl | rfl := he
    · exact ⟨_, rfl, opGood_onlyProc hready p _⟩
    · exact ⟨_, rfl, opGood_onlyProc hready p _⟩
    · exact ⟨_, rfl, opGood_onlyProc hready p _⟩
    · exact ⟨_, rfl, opBa_onlyProc hready _⟩
    · exact ⟨_, rfl, opBa_onlyProc hready _⟩
    · exact ⟨_, rfl, opBa_onlyProc hready _⟩
  · intro s t i hready e he
    simp only [List.mem_cons, List.not_mem_nil, or_false] at he
    obtain rfl | rfl := he
    all_goals exact ⟨_, rfl, opEdge_onlyInst hready i _⟩

end Sys2Proof.Proofs
end

section
/-! The stores of the pump: a value, a quality, a loop's command (R67, R72, R101, R103, R119); the statement on them (O14). -/

namespace Sys2Proof.Proofs
open Sys2Proof Sys2Proof.Machine Sys2Proof.Laws

section
variable {s : State} {t : Task} {x : Acc} {a : PointAddr} {op : Operand} {n cost : Nat}

/-- The operand names the point address n, before the bound of the point space, and ST with it costs this (R101). -/
def StoresTo (s : State) (t : Task) (x : Acc) : Operand → Nat → Nat → Prop
  | .direct a, n, cost => n = a.toNat ∧ cost = 1
  | .indexed a, n, cost => n = (a.toNat + ((s.proc t).partner x).toNat) % 2 ^ 32 ∧ cost = 2
  | _, _, _ => False

theorem indexedAddr_inside {w : Word} (h : (a.toNat + w.toNat) % 2 ^ 32 ≤ 0xFFFFF) :
    indexedAddr a w = some ((a.toNat + w.toNat) % 2 ^ 32) := if_pos h

theorem indexedAddr_beyond {w : Word} (h : 0xFFFFF < (a.toNat + w.toNat) % 2 ^ 32) : indexedAddr a w = none := if_neg (by omega)

/-- ST at an address within the point space is the store of `State.opStAt` there, after the time that it takes. -/
theorem opSt_inside (hop : StoresTo s t x op n cost) (hready : Ready s t cost) (hn : n ≤ 0xFFFFF) {sel : Sel} (hsel : sel ≠ .age)
    {p : Proc} {u : State} (hflow : State.opStAt (s.ahead t 1) (s.charge cost) x sel n = .cont p u) : s.opSt x sel op = u.setProc t p := by
  cases op with
  | direct a =>
    obtain ⟨rfl, rfl⟩ := hop
    exact runInstr_cont hready hflow
  | indexed a =>
    obtain ⟨rfl, rfl⟩ := hop
    refine runInstr_cont hready ?_
    simp only [partner_ahead, if_neg hsel, indexedAddr_inside hn, ← hflow]
    rfl
  | imm | partner => exact hop.elim

theorem opSt_beyond (hop : StoresTo s t x op n cost) (hready : Ready s t cost) (hn : 0xFFFFF < n) {sel : Sel} (hsel : sel ≠ .age) :
    s.opSt x sel op = (s.charge cost).wrviol.setProc t { s.ahead t 1 with v := true } := by
  cases op with
  | direct a =>
    obtain ⟨rfl, -⟩ := hop
    have := a.isLt
    omega
  | indexed a =>
    obtain ⟨rfl, rfl⟩ := hop
    refine runInstr_cont hready ?_
    simp only [partner_ahead, if_neg hsel, indexedAddr_beyond hn]
    rfl
  | imm | partner => exact hop.elim

theorem opSt_value (hop : StoresTo s t x op n cost) (hready : Ready s t cost) (hn : n ≤ 0xFFFFF) :
    s.opSt x .value op = ((s.charge cost).storeValue n ((s.proc t).acc x)).setProc t (s.ahead t 1) := by
  refine opSt_inside hop hready hn (by decide) ?_
  rw [State.opStAt, acc_ahead]

theorem opSt_quality (hop : StoresTo s t x op n cost) (hready : Ready s t cost) (hn : n ≤ 0xFFFFF) {q : Byte}
    (hq : storedQuality ((s.proc t).acc x) = some q) (hstore : s.storable n = true) :
    OnlyPoint s (s.opSt x .quality op) t cost (s.ahead t 1) n { s.point n with quality := q, stamp := s.stamp } := by
  have hflow : State.opStAt (s.ahead t 1) (s.charge cost) x .quality n = .cont (s.ahead t 1)
      (((s.charge cost).notePoint n).setPoint n { s.point n with quality := q, stamp := s.stamp }) := by
    simp [State.opStAt, State.storeQuality, hq, hstore, Proc.orV]
  rw [opSt_inside hop hready hn (by decide) hflow]
  exact onlyPoint_store ..

theorem opSt_quality_forbidden (hop : StoresTo s t x op n cost) (hready : Ready s t cost) (hn : n ≤ 0xFFFFF) {q : Byte}
    (hq : storedQuality ((s.proc t).acc x) = some q) (hstore : s.storable n = false) :
    Discarded s (s.opSt x .quality op) t cost (s.ahead t 1) := by
  have hflow : State.opStAt (s.ahead t 1) (s.charge cost) x .quality n = .cont (s.ahead t 1) (s.charge cost).wrviol := by
    simp [State.opStAt, State.storeQuality, hq, hstore, Proc.orV]
  rw [opSt_inside hop hready hn (by decide) hflow]
  exact discarded_wrviol ..

theorem opSt_reserved (hop : StoresTo s t x op n cost) (hready : Ready s t cost) (hn : n ≤ 0xFFFFF)
    (hq : storedQuality ((s.proc t).acc x) = none) : s.opSt x .quality op = (s.charge cost).setProc t { s.ahead t 1 with v := true } := by
  refine opSt_inside hop hready hn (by decide) ?_
  rw [State.opStAt, acc_ahead, State.storeQuality, hq]
  rfl

theorem storedQuality_paired {w : Word} (h : w.toNat % 64 ≤ 0x0D) : storedQuality w = some (qual (w.toNat % 64)) := if_pos h

theorem storedQuality_reserved {w : Word} (hlow : 0x0D < w.toNat % 64) (hhigh : w.toNat % 64 < 0x20) : storedQuality w = none :=
  (if_neg (by omega)).trans (if_pos hhigh)

/-- From 0x20 on a reason is the plate's own, and its class is the plate's too (R66). -/
theorem storedQuality_plate {w : Word} (h : 0x20 ≤ w.toNat % 64) : storedQuality w = some (w.setWidth 8) := by
  unfold storedQuality
  dsimp only
  rw [if_neg (by omega), if_neg (by omega)]
  congr 1
  apply BitVec.eq_of_toNat_eq
  simp

theorem storeValue_onlyPoint (p : Proc) (v : Word) (h : s.storable n = true) :
    OnlyPoint s (((s.charge cost).storeValue n v).setProc t p) t cost p n (storedPoint (s.point n) v s.stamp) := by
  rw [State.storeValue, storable_charge, if_pos h]
  exact onlyPoint_store ..

theorem storeValue_discarded (p : Proc) (v : Word) (h : s.storable n = false) :
    Discarded s (((s.charge cost).storeValue n v).setProc t p) t cost p := by
  rw [State.storeValue, storable_charge, if_neg (by simp [h])]
  exact discarded_wrviol ..

theorem opLoopreq_ready (h : Ready s t 2) (i : BitVec 9) : execLoopreq i s =
    .next ((if (s.proc t).ba then (s.charge 2).storeValue (loopCmdPoint i.toNat) (s.proc t).a else s.charge 2).setProc t (s.ahead t 1)) :=
  congrArg Host.Outcome.next (runInstr_cont h rfl)

end

/-- Settles O14: an address in the point space by what R72 and the reason say of the store, one beyond it, and LOOPREQ. -/
theorem stores : Obligations.Stores := by
  refine ⟨fun s t x a => ?_, fun s t i hready => ?_⟩
  · intro w n e he hready
    have hop : StoresTo s t x e.1 e.2.1 e.2.2 := by
      simp only [List.mem_cons, List.not_mem_nil, or_false] at he
      obtain rfl | rfl := he
      · exact ⟨rfl, rfl⟩
      · exact ⟨rfl, rfl⟩
    refine ⟨fun hn hstore => ⟨⟨_, rfl, ?_⟩, fun hq => ⟨_, rfl, ?_⟩, fun hq => ⟨_, rfl, ?_⟩⟩, fun hn hlow hhigh => ⟨_, rfl, ?_⟩,
      fun hn hstore => ⟨_, rfl, ?_⟩, fun hn hstore hq => ⟨_, rfl, ?_⟩, fun hn sel hsel => ⟨_, rfl, ?_⟩⟩
    · rw [opSt_value hop hready hn]
      exact storeValue_onlyPoint _ w hstore
    · exact opSt_quality hop hready hn (storedQuality_paired hq) hstore
    · exact opSt_quality hop hready hn (storedQuality_plate hq) hstore
    · rw [opSt_reserved hop hready hn (storedQuality_reserved hlow hhigh)]
      exact onlyProc_charge ..
    · rw [opSt_value hop hready hn]
      exact storeValue_discarded _ w hstore
    · obtain hq | hq := hq
      · exact opSt_quality_forbidden hop hready hn (storedQuality_paired hq) hstore
      · exact opSt_quality_forbidden hop hready hn (storedQuality_plate hq) hstore
    · rw [opSt_beyond hop hready hn hsel]
      exact discarded_wrviol ..
  · refine ⟨fun hba => ⟨_, opLoopreq_ready hready i, ?_⟩, fun hba hstore => ⟨_, opLoopreq_ready hready i, ?_⟩,
      fun hba hstore => ⟨_, opLoopreq_ready hready i, ?_⟩⟩
    · rw [hba]
      exact onlyProc_charge ..
    · rw [hba]
      exact storeValue_onlyPoint _ _ hstore
    · rw [hba]
      exact storeValue_discarded _ _ hstore

end Sys2Proof.Proofs
end

section
/-! The end of a scan (R79, R80, R113); the statement on it (O28). -/

namespace Sys2Proof.Proofs
open Sys2Proof Sys2Proof.Machine Sys2Proof.Laws

section
variable {s : State}

/-- A RET that is taken at call level 0 ends the scan after the time that it takes. -/
theorem opRet_level0 {t : Task} {c : BitVec 5} (hready : Ready s t 3) (hcond : (s.proc t).cond c = some true)
    (hcalls : (s.proc t).calls = []) : s.opRet c = ((s.charge 3).setProc t (s.ahead t 1)).scanEnd t := by
  have hflow : retFlow c (s.ahead t 1) (s.charge 3) = .cont (s.ahead t 1) (s.charge 3) := by
    unfold retFlow
    rw [show (s.ahead t 1).cond c = some true from hcond, show (s.ahead t 1).calls = [] from hcalls]
  have hends : s.retEnds c = some t := by
    obtain ⟨hrun, hfits, hblock⟩ := hready
    simp [State.retEnds, hrun, hfits, hblock, hcond, hcalls]
  unfold State.opRet
  rw [runInstr_cont hready hflow, hends]

/-- HOLD starts at its entry block with accumulators, flags and stacks clear; of the points FIRST_SCAN alone is written (R74, R79). -/
theorem startTask_hold (u : State) :
    (u.startTask .hold).pump.running = some .hold ∧ (u.startTask .hold).pump.hold = { block := 1 } ∧ (u.startTask .hold).pump.taskCost = 0
      ∧ (u.startTask .hold).pump.firstHold = false ∧ (u.startTask .hold).now = u.now ∧ (u.startTask .hold).regs = u.regs
      ∧ ∀ a, a ≠ 0xE6303 → (u.startTask .hold).point a = u.point a :=
  ⟨rfl, rfl, rfl, rfl, rfl, rfl, fun _ ha => point_setPoint_other _ _ _ _ ha⟩

/-- The end of FAST in a hold cycle of a plate with HOLD starts HOLD in a state that differs in the pump's own record alone. -/
theorem scanEnd_fast_hold (hhold : s.isHold = true) (htask : s.hasTask .hold = true) :
    ∃ q, s.scanEnd .fast = ({ s with pump := q } : State).startTask .hold :=
  ⟨_, if_pos (Bool.and_eq_true_iff.2 ⟨hhold, htask⟩)⟩

theorem raises_pump {α : Type} (l : List α) (c : Nat) (s : State) : (l.foldl (fun t _ => t.raise c) s).pump = s.pump := by
  induction l generalizing s with
  | nil => rfl
  | cons _ l ih => exact (ih _).trans (raise_pump s c)

@[simp] theorem triggers_pump (s : State) : s.triggers.pump = s.pump := by
  unfold State.triggers State.evalTriggers
  dsimp only
  split
  · split
    · split
      · rfl
      · exact raises_pump ..
    · rfl
  · rfl

theorem slowTurn_running (s : State) : s.slowTurn.pump.running = s.pump.running ∨ s.slowTurn.pump.running = some .slow := by
  unfold State.slowTurn
  split
  · exact .inr rfl
  · split
    · exact .inr rfl
    · exact .inl rfl

/-- When FAST and HOLD have ended neither runs. -/
theorem tasksDone_running {t : Task} (hnone : s.pump.running = none) (ht : t ≠ .slow) : s.tasksDone.pump.running ≠ some t := by
  unfold State.tasksDone
  obtain h | h := slowTurn_running ({ s with pump := { s.pump with tasksEnd := some s.now } }).triggers
  · rw [h, triggers_pump, hnone]
    nofun
  · rw [h]
    exact fun heq => ht (Option.some.inj heq).symm

theorem scanEnd_running (s : State) (t : Task) : (s.scanEnd t).pump.running ≠ some t := by
  cases t with
  | fast =>
    unfold State.scanEnd
    dsimp only
    split
    · exact nofun
    · exact tasksDone_running rfl nofun
  | hold => exact tasksDone_running rfl nofun
  | slow => exact nofun

end

/-- Settles O28: such a RET ends the scan, and what `State.scanEnd` does for FAST in a hold cycle, for SLOW, and for any task. -/
theorem scanEnds : Obligations.ScanEnds := by
  intro s t c hready hcond hcalls
  have hret := opRet_level0 hready hcond hcalls
  refine ⟨?_, ?_, s.opRet c, rfl, ?_, opRet_core s c⟩
  · rintro rfl hhold htask
    obtain ⟨q, hq⟩ := scanEnd_fast_hold (s := (s.charge 3).setProc .fast (s.ahead .fast 1)) hhold htask
    obtain ⟨hrunning, hproc, hcost, hfirst, hnow, hregs, hpoints⟩ :=
      startTask_hold { (s.charge 3).setProc .fast (s.ahead .fast 1) with pump := q }
    exact ⟨_, congrArg Host.Outcome.next (hret.trans hq), hrunning, hproc, hcost, hfirst, hnow.trans (charge_now s 3), hregs, hpoints⟩
  · rintro rfl
    exact ⟨_, congrArg Host.Outcome.next hret, rfl, rfl, rfl, rfl, rfl, rfl⟩
  · rw [hret]
    exact scanEnd_running _ t

end Sys2Proof.Proofs
end

section
/-! Block moves of the pump (R67, R72, R114, R115); the statement on them (O22). -/

namespace Sys2Proof.Proofs
open Sys2Proof Sys2Proof.Machine Sys2Proof.Laws

/-! ## What a store of the pump may change -/

theorem pointMarks_trans {a b c : State} (h : PointMarks a b) (g : PointMarks b c) : PointMarks a c := by
  obtain ⟨hmirror, hloops, halloc⟩ := h
  obtain ⟨gmirror, gloops, galloc⟩ := g
  unfold PointMarks
  rw [← hmirror, ← hloops, ← halloc, ← gmirror, ← gloops, ← galloc]
  exact ⟨rfl, rfl, rfl⟩

/-- From s to u the pump stored to points: they, their notes of the cycle (R331) and the marks that a write of points leaves changed. -/
def StoredOnly (s u : State) : Prop :=
  PointMarks s u ∧ { u with points := s.points, wlog := s.wlog, mirror := s.mirror, loops := s.loops, alloc := s.alloc } = s

theorem storedOnly_refl (s : State) : StoredOnly s s := ⟨⟨rfl, rfl, rfl⟩, rfl⟩

theorem storedOnly_trans {a b c : State} (h : StoredOnly a b) (g : StoredOnly b c) : StoredOnly a c := by
  refine ⟨pointMarks_trans h.1 g.1, ?_⟩
  have hrest := h.2
  rw [← g.2] at hrest
  exact hrest

section
variable {s u : State} (h : StoredOnly s u)
include h

theorem storedOnly_stamp : u.stamp = s.stamp := by
  have heq := congrArg State.stamp h.2
  exact heq

theorem storedOnly_storable (p : Nat) : u.storable p = s.storable p := by
  have heq := congrArg (fun t : State => t.storable p) h.2
  exact heq

theorem storedOnly_pump : u.pump = s.pump := by
  have heq := congrArg State.pump h.2
  exact heq

end

/-! ## One value, and a list of values -/

section
variable {s : State} {p : Nat}

theorem storeValue_storable (h : s.storable p = true) (v : Word) :
    s.storeValue p v = (s.notePoint p).setPoint p (storedPoint (s.point p) v s.stamp) := if_pos h

theorem storedOnly_storeValue (h : s.storable p = true) (v : Word) : StoredOnly s (s.storeValue p v) := by
  have hnote : StoredOnly s (s.notePoint p) := by
    unfold State.notePoint
    split <;> exact ⟨⟨rfl, rfl, rfl⟩, rfl⟩
  rw [storeValue_storable h]
  exact storedOnly_trans hnote ⟨marks_setPoint .., rfl⟩

theorem point_storeValue_same (h : s.storable p = true) (v : Word) :
    (s.storeValue p v).point p = storedPoint (s.point p) v s.stamp := by
  rw [storeValue_storable h, point_setPoint_same]

/-- The points after the first of a range are a range of their own. -/
theorem storable_tail {v : Word} {l : List Word} (h : ∀ j < (v :: l).length, s.storable (p + j) = true) :
    ∀ j < l.length, (s.storeValue p v).storable (p + 1 + j) = true := fun j hj => by
  have hstored : StoredOnly s (s.storeValue p v) := storedOnly_storeValue (h 0 (Nat.zero_lt_succ _)) v
  rw [storedOnly_storable hstored, Nat.add_right_comm]
  exact h (j + 1) (Nat.succ_lt_succ hj)

end

theorem storedOnly_storeFrom (s : State) (p : Nat) (l : List Word) (h : ∀ j < l.length, s.storable (p + j) = true) :
    StoredOnly s (s.storeFrom p l) := by
  induction l generalizing s p with
  | nil => exact storedOnly_refl s
  | cons v l ih => exact storedOnly_trans (storedOnly_storeValue (h 0 (Nat.zero_lt_succ _)) v) (ih _ _ (storable_tail h))

/-- A point of the range takes its own value: the stores before it and after it go to other points. -/
theorem point_storeFrom (s : State) (p : Nat) (l : List Word) (h : ∀ j < l.length, s.storable (p + j) = true) (j : Nat) (hj : j < l.length) :
    (s.storeFrom p l).point (p + j) = storedPoint (s.point (p + j)) l[j] s.stamp := by
  induction l generalizing s p j with
  | nil => cases hj
  | cons v l ih =>
    have hfirst : s.storable p = true := h 0 (Nat.zero_lt_succ _)
    rw [State.storeFrom]
    cases j with
    | zero =>
      rw [point_storeFrom_other _ _ _ _ fun i _ => by omega]
      exact point_storeValue_same hfirst v
    | succ j =>
      rw [show p + (j + 1) = p + 1 + j by omega, ih _ _ (storable_tail h) j (Nat.lt_of_succ_lt_succ hj),
        point_storeValue_other s v (by omega), storedOnly_stamp (storedOnly_storeValue hfirst v)]
      rfl

theorem getElem_valuesFrom (s : State) (p n j : Nat) (hj : j < (s.valuesFrom p n).length) : (s.valuesFrom p n)[j] = (s.point (p + j)).value := by
  induction n generalizing p j with
  | zero => cases hj
  | succ n ih =>
    cases j with
    | zero => rfl
    | succ j =>
      rw [show p + (j + 1) = p + 1 + j by omega]
      exact ih (p + 1) j _

/-! ## The move -/

section
variable {s : State} {src dst n : Nat}

theorem moveBlock_moved (hmay : ∀ j < n, s.storable (dst + j) = true) (hinside : src + n ≤ 0x100000) :
    s.moveBlock src dst n = .moved (s.storeFrom dst (s.valuesFrom src n)) := by
  rw [State.moveBlock, if_pos ((storableRange_iff ..).2 hmay), if_pos hinside]

theorem moveBlock_beyond (hmay : ∀ j < n, s.storable (dst + j) = true) (hbeyond : ¬ src + n ≤ 0x100000) :
    s.moveBlock src dst n = .beyond := by
  rw [State.moveBlock, if_pos ((storableRange_iff ..).2 hmay), if_neg hbeyond]

theorem moveBlock_forbidden (hforbidden : ¬ ∀ j < n, s.storable (dst + j) = true) : s.moveBlock src dst n = .forbidden :=
  if_neg fun h => hforbidden ((storableRange_iff ..).1 h)

/-- From s to u task t completed a move of n points, as if through a buffer (R114), that left its processor state at p: each destination
point took what its source point held in s, and no other point changed. -/
def BlockMoved (s u : State) (t : Task) (cost : Nat) (p : Proc) (src dst n : Nat) : Prop :=
  u.pump = s.pumpAfter t cost p
    ∧ (∀ j < n, u.point (dst + j) = storedPoint (s.point (dst + j)) (s.point (src + j)).value s.stamp)
    ∧ (∀ b, b < dst ∨ dst + n ≤ b → u.point b = s.point b)
    ∧ PointMarks s u
    ∧ { u with pump := s.pump, now := s.now, up := s.up, slew := s.slew, keep := s.keep, points := s.points, wlog := s.wlog,
               mirror := s.mirror, loops := s.loops, alloc := s.alloc } = s

theorem storeFrom_blockMoved (t : Task) (cost : Nat) (p : Proc) (hmay : ∀ j < n, s.storable (dst + j) = true) :
    BlockMoved s (((s.charge cost).storeFrom dst ((s.charge cost).valuesFrom src n)).setProc t p) t cost p src dst n := by
  have hrange : ∀ j < ((s.charge cost).valuesFrom src n).length, (s.charge cost).storable (dst + j) = true := by
    rw [length_valuesFrom]
    exact hmay
  have hpoint : ∀ (v : State) (a : Nat), (v.setProc t p).point a = v.point a :=
    fun v a => point_of_points (setProc_points ..) (setProc_variant ..) a
  obtain ⟨hmarks, hrest⟩ := storedOnly_storeFrom _ _ _ hrange
  refine ⟨?_, fun j hj => ?_, fun b hb => ?_, ?_, ?_⟩
  · rw [← setProc_charge_pump]
    cases t <;> simp only [State.setProc, storedOnly_pump ⟨hmarks, hrest⟩]
  · rw [hpoint, point_storeFrom _ _ _ hrange j (by rwa [length_valuesFrom]), getElem_valuesFrom]
    rfl
  · rw [hpoint, point_storeFrom_other]
    · rfl
    · intro j hj
      rw [length_valuesFrom] at hj
      omega
  · unfold PointMarks at *
    rw [setProc_mirror, setProc_loops, setProc_alloc]
    exact hmarks
  · have heq := congrArg (fun w : State => { w with pump := s.pump, now := s.now, up := s.up, slew := s.slew, keep := s.keep }) hrest
    cases t <;> exact heq

end

section
variable {s u : State} {t : Task} {c : BitVec 12}

theorem opBmov_moved {src dst : PointAddr} (hready : Ready s t (5 + c.toNat) 2)
    (hmove : (s.charge (5 + c.toNat)).moveBlock src.toNat dst.toNat (c.toNat + 1) = .moved u) :
    s.opBmov src dst c = u.setProc t (s.ahead t 2) := runInstr_cont hready (by rw [hmove])

theorem opBmov_discarded {src dst : PointAddr} (hready : Ready s t (5 + c.toNat) 2)
    (hmove : (s.charge (5 + c.toNat)).moveBlock src.toNat dst.toNat (c.toNat + 1) = .forbidden
      ∨ (s.charge (5 + c.toNat)).moveBlock src.toNat dst.toNat (c.toNat + 1) = .beyond) :
    s.opBmov src dst c = (s.charge (5 + c.toNat)).wrviol.setProc t (s.ahead t 2) := by
  obtain hmove | hmove := hmove
  · exact runInstr_cont hready (by rw [hmove])
  · exact runInstr_cont hready (by rw [hmove])

variable (hready : Ready s t (6 + c.toNat))
include hready

theorem opBmovx_moved (hmove : (s.charge (6 + c.toNat)).moveBlock (s.proc t).a.toNat (s.proc t).b.toNat (c.toNat + 1) = .moved u) :
    s.opBmovx c = u.setProc t (s.ahead t 1) := runInstr_cont hready (by simp only [State.ahead, hmove])

theorem opBmovx_beyond (hmove : (s.charge (6 + c.toNat)).moveBlock (s.proc t).a.toNat (s.proc t).b.toNat (c.toNat + 1) = .beyond) :
    s.opBmovx c = (s.charge (6 + c.toNat)).setProc t { s.ahead t 1 with v := true } :=
  runInstr_cont hready (by simp only [State.ahead, hmove])

theorem opBmovx_forbidden (hmove : (s.charge (6 + c.toNat)).moveBlock (s.proc t).a.toNat (s.proc t).b.toNat (c.toNat + 1) = .forbidden) :
    s.opBmovx c = (s.charge (6 + c.toNat)).wrviol.setProc t { s.ahead t 1 with v := true } :=
  runInstr_cont hready (by simp only [State.ahead, hmove])

end

/-- Settles O22: for each of the two instructions what `State.moveBlock` answers where the range may be stored to and the source lies within
the point space, where it may not, and where only the source lies beyond. -/
theorem blockMoves : Obligations.BlockMoves := by
  intro s t src dst c p e he
  simp only [List.mem_cons, List.not_mem_nil, or_false] at he
  obtain rfl | rfl := he
  · refine fun hready => ⟨fun hinside hmay => ⟨_, congrArg Host.Outcome.next (opBmov_moved hready (moveBlock_moved hmay hinside)), ?_⟩,
      fun hmay => ⟨_, congrArg Host.Outcome.next (opBmov_discarded hready (.inl (moveBlock_forbidden hmay))), ?_⟩,
      fun hinside hmay => ⟨_, congrArg Host.Outcome.next (opBmov_discarded hready (.inr (moveBlock_beyond hmay hinside))), ?_⟩⟩
    · exact storeFrom_blockMoved t _ _ hmay
    · exact discarded_wrviol ..
    · exact discarded_wrviol ..
  · refine fun hready => ⟨fun hinside hmay => ⟨_, congrArg Host.Outcome.next (opBmovx_moved hready (moveBlock_moved hmay hinside)), ?_⟩,
      fun hmay => ⟨_, congrArg Host.Outcome.next (opBmovx_forbidden hready (moveBlock_forbidden hmay)), ?_⟩,
      fun hinside hmay => ⟨_, congrArg Host.Outcome.next (opBmovx_beyond hready (moveBlock_beyond hmay hinside)), ?_⟩⟩
    · exact storeFrom_blockMoved t _ _ hmay
    · exact discarded_wrviol ..
    · exact onlyProc_charge ..

end Sys2Proof.Proofs
end

section
/-! The words of the pump's instructions: each form of R93 to R95 as a condition on the fields of the words, which serves decoding and
encoding alike; the statement on them (O25). -/

namespace Sys2Proof.Proofs
open Sys2Proof Sys2Proof.Machine Sys2Proof.Laws

/-! ## Fields of a word (R93) -/

/-- A word is put together from its own opcode [31:25], field [24:20] and field [19:0]. -/
theorem append_fields (w : Word) : w.extractLsb' 25 7 ++ w.extractLsb' 20 5 ++ w.extractLsb' 0 20 = w := by
  apply BitVec.eq_of_getLsbD_eq
  intro i hi
  simp only [BitVec.getLsbD_append, BitVec.getLsbD_extractLsb']
  split
  · simp_all
  · split
    · rw [show 20 + (i - 20) = i by omega]
      simp_all
    · rw [show 25 + (i - 20 - 5) = i by omega]
      simp only [Bool.and_eq_right_iff_imp, decide_eq_true_eq]
      omega

/-- The second word of a block move: the count [31:20] and the destination [19:0] (R114). -/
theorem append_countFields (v : Word) : v.extractLsb' 20 12 ++ v.extractLsb' 0 20 = v := by
  apply BitVec.eq_of_getLsbD_eq
  intro i hi
  simp only [BitVec.getLsbD_append, BitVec.getLsbD_extractLsb']
  split
  · simp_all
  · rw [show 20 + (i - 20) = i by omega]
    simp only [Bool.and_eq_right_iff_imp, decide_eq_true_eq]
    omega

theorem countWord_count (c : BitVec 12) (dst : PointAddr) : (c ++ dst : Word).extractLsb' 20 12 = c := by
  apply BitVec.eq_of_getLsbD_eq
  intro i hi
  simp only [BitVec.getLsbD_append, BitVec.getLsbD_extractLsb']
  simp [hi]

theorem countWord_dst (c : BitVec 12) (dst : PointAddr) : (c ++ dst : Word).extractLsb' 0 20 = dst := by
  apply BitVec.eq_of_getLsbD_eq
  intro i hi
  simp only [BitVec.getLsbD_append, BitVec.getLsbD_extractLsb']
  simp [hi]

/-! The second word of CTUD has the fields of a first word with opcode 0 (R125). -/

theorem inputWord_reserved (bit : BitVec 5) (p : PointAddr) : ((0 : BitVec 7) ++ bit ++ p : Word).extractLsb' 25 7 = 0 := pumpWord_op 0 bit p none

theorem inputWord_bit (bit : BitVec 5) (p : PointAddr) : ((0 : BitVec 7) ++ bit ++ p : Word).extractLsb' 20 5 = bit := pumpWord_mid 0 bit p none

theorem inputWord_point (bit : BitVec 5) (p : PointAddr) : ((0 : BitVec 7) ++ bit ++ p : Word).extractLsb' 0 20 = p := pumpWord_low 0 bit p none

/-- An operand narrower than its 20-bit field: the reserved bits above it are 0. -/
theorem narrow_iff {n m : Nat} (hwidth : n + m = 20) {low : BitVec 20} {x : BitVec n} :
    low.extractLsb' n m = 0 ∧ low.extractLsb' 0 n = x ↔ low = x.zeroExtend 20 := by
  constructor
  · rintro ⟨hupper, rfl⟩
    apply BitVec.eq_of_getLsbD_eq
    intro i hi
    have hbit := congrArg (fun b : BitVec m => b.getLsbD (i - n)) hupper
    by_cases hin : i < n
    · simp [hi, hin]
    · rw [← Nat.add_sub_cancel' (Nat.le_of_not_lt hin)]
      simpa [hin, show i - n < m by omega] using hbit
  · rintro rfl
    constructor <;> apply BitVec.eq_of_getLsbD_eq <;> intro i hi
    · simp
    · simp [hi, show i < 20 by omega]

/-! ## ACC, MODE and SEL of the word form (R93, R94) -/

theorem wordField_iff : ∀ (mid : BitVec 5) (acc : Acc) (mode sel : BitVec 2),
    mid = wordField acc mode sel ↔ accForm mid = acc ∧ mid.extractLsb' 2 2 = mode ∧ mid.extractLsb' 0 2 = sel := by
  intro mid acc
  cases acc <;> revert mid <;> decide

theorem singleField_iff : ∀ (mid : BitVec 5) (acc : Acc), mid = wordField acc 0 0 ↔ accForm mid = acc ∧ mid.extractLsb' 0 4 = 0 := by
  intro mid acc
  cases acc <;> revert mid <;> decide

/-- MODE of an operand. -/
def operandMode : Operand → BitVec 2 | .direct _ => 0 | .indexed _ => 1 | .imm _ => 2 | .partner => 3

/-- The field [19:0] of an operand. -/
def operandLow : Operand → BitVec 20 | .direct p => p | .indexed base => base | .imm _ | .partner => 0

/-- The second word that an operand brings. -/
def operandSecond : Operand → Option Word | .imm w => some w | _ => none

theorem wordForm_eq (op : BitVec 7) (acc : Acc) (sel : Sel) (o : Operand) :
    wordForm op acc sel o = pumpWord op (wordField acc (operandMode o) sel.code) (operandLow o) (operandSecond o) := by
  cases o <;> rfl

/-- The second word of an instruction is v, or it has none. -/
def SecondIs (x : Option Word) (v : Word) : Prop := x = none ∨ x = some v

theorem secondIs_getD (x : Option Word) (v : Word) : SecondIs x (x.getD v) := by
  cases x with
  | none => exact .inl rfl
  | some w => exact .inr rfl

theorem pointForm_iff {mid : BitVec 5} {low : BitVec 20} {v : Word} {sel : Sel} {o : Operand} :
    pointForm mid low v = some (sel, o) ↔ selOk sel o = true ∧ mid.extractLsb' 0 2 = sel.code ∧ mid.extractLsb' 2 2 = operandMode o
      ∧ low = operandLow o ∧ SecondIs (operandSecond o) v := by
  constructor
  · intro h
    unfold pointForm at h
    dsimp only at h
    split_ifs at h <;> cases h <;> simp_all [selOk, Sel.code, operandMode, operandLow, operandSecond, SecondIs]
  · rintro ⟨hallowed, hsel, hmode, rfl, hsecond⟩
    unfold pointForm
    rw [hsel, hmode]
    cases o with
    | direct p | indexed base => cases sel <;> rfl
    | imm w =>
      obtain rfl : sel = .value := of_decide_eq_true hallowed
      obtain hsecond | hsecond := hsecond <;> cases hsecond
      rfl
    | partner =>
      obtain rfl : sel = .value := of_decide_eq_true hallowed
      rfl

theorem pointForm_of_wordField (acc : Acc) {v : Word} {sel : Sel} {o : Operand} (hallowed : selOk sel o = true)
    (hsecond : SecondIs (operandSecond o) v) :
    pointForm (wordField acc (operandMode o) sel.code) (operandLow o) v = some (sel, o) := by
  obtain ⟨-, hmode, hsel⟩ := (wordField_iff _ acc (operandMode o) sel.code).1 rfl
  exact pointForm_iff.2 ⟨hallowed, hsel, hmode, rfl, hsecond⟩

theorem accForm_wordField (acc : Acc) (mode sel : BitVec 2) : accForm (wordField acc mode sel) = acc := ((wordField_iff ..).1 rfl).1

/-- ST allows no form that LD does not. -/
theorem selOk_of_storeOk {sel : Sel} {o : Operand} (h : storeOk sel o = true) : selOk sel o = true := by
  cases o with
  | direct p | indexed base => rfl
  | imm w | partner => cases h

/-! ## The other forms (R93, R105) -/

section
variable {mid : BitVec 5} {low : BitVec 20} {v : Word} {i : Instr}

theorem operandForm_iff {f : Acc → Operand → Instr} : operandForm mid low v f = some i ↔ ∃ acc o,
    mid = wordField acc (operandMode o) 0 ∧ low = operandLow o ∧ SecondIs (operandSecond o) v ∧ i = f acc o := by
  unfold operandForm
  constructor
  · intro h
    split at h
    · next hsel =>
      obtain ⟨⟨sel, o⟩, hform, rfl⟩ := Option.map_eq_some_iff.1 h
      obtain ⟨-, -, hmode, hlow, hsecond⟩ := pointForm_iff.1 hform
      exact ⟨_, o, (wordField_iff ..).2 ⟨rfl, hmode, hsel⟩, hlow, hsecond, rfl⟩
    · cases h
  · rintro ⟨acc, o, hmid, hlow, hsecond, rfl⟩
    obtain ⟨hacc, hmode, hsel⟩ := (wordField_iff ..).1 hmid
    have hform : pointForm mid low v = some (.value, o) := pointForm_iff.2 ⟨by cases o <;> rfl, hsel, hmode, hlow, hsecond⟩
    rw [if_pos hsel, hform, Option.map_some, hacc]

theorem singleForm_iff {f : Acc → Instr} : singleForm mid low f = some i ↔ ∃ acc, mid = wordField acc 0 0 ∧ low = 0 ∧ i = f acc := by
  simp only [singleForm, singleField_iff, Option.ite_none_right_eq_some, Option.some.injEq]
  constructor
  · rintro ⟨⟨hmid, hlow⟩, rfl⟩
    exact ⟨_, ⟨rfl, hmid⟩, hlow, rfl⟩
  · rintro ⟨acc, ⟨rfl, hmid⟩, hlow, rfl⟩
    exact ⟨⟨hmid, hlow⟩, rfl⟩

theorem plainForm_iff {j : Instr} : plainForm mid low j = some i ↔ mid = 0 ∧ low = 0 ∧ i = j := by
  simp only [plainForm, Option.ite_none_right_eq_some, Option.some.injEq, and_assoc, eq_comm (a := i)]

theorem conditionForm_iff {f : BitVec 5 → Instr} : conditionForm mid low f = some i ↔ mid.toNat < 13 ∧ low = 0 ∧ i = f mid := by
  simp only [conditionForm, Option.ite_none_right_eq_some, Option.some.injEq, and_assoc, eq_comm (a := i)]

theorem instanceForm_iff {f : BitVec 16 → Instr} :
    instanceForm mid low f = some i ↔ mid = 0 ∧ ∃ inst : BitVec 16, low = inst.zeroExtend 20 ∧ i = f inst := by
  simp only [instanceForm, ← narrow_iff (n := 16) (m := 4) rfl, Option.ite_none_right_eq_some, Option.some.injEq]
  constructor
  · rintro ⟨⟨hmid, hupper⟩, rfl⟩
    exact ⟨hmid, _, ⟨hupper, rfl⟩, rfl⟩
  · rintro ⟨hmid, _, ⟨hupper, rfl⟩, rfl⟩
    exact ⟨⟨hmid, hupper⟩, rfl⟩

end

/-! ## Decoding and encoding -/

/-- The words w and v spell the instruction: its form allows its operands, its encoding is w, with v where the form has two words. -/
def Spells (w v : Word) (i : Instr) : Prop :=
  pumpLegal i = true ∧ ∃ p, pumpEncode i = some p ∧ p.first = w ∧ SecondIs p.second v

theorem spells_of_fields {w v : Word} {i : Instr} {op : BitVec 7} {mid : BitVec 5} {low : BitVec 20} {x : Option Word}
    (henc : pumpEncode i = some (pumpWord op mid low x)) (hlegal : pumpLegal i = true) (hop : (w.extractLsb' 25 7).toNat = op.toNat)
    (hmid : w.extractLsb' 20 5 = mid) (hlow : w.extractLsb' 0 20 = low) (hx : SecondIs x v) : Spells w v i := by
  refine ⟨hlegal, _, henc, ?_, hx⟩
  rw [← append_fields w, BitVec.eq_of_toNat_eq hop, hmid, hlow]
  rfl

section
variable {w v : Word} {i : Instr} {op : BitVec 7}

theorem spells_of_plainForm {j : Instr} (h : plainForm (w.extractLsb' 20 5) (w.extractLsb' 0 20) j = some i)
    (henc : pumpEncode j = some (pumpWord op 0 0)) (hlegal : pumpLegal j = true)
    (hop : (w.extractLsb' 25 7).toNat = op.toNat) : Spells w v i := by
  obtain ⟨hmid, hlow, rfl⟩ := plainForm_iff.1 h
  exact spells_of_fields henc hlegal hop hmid hlow (.inl rfl)

theorem spells_of_instanceForm {f : BitVec 16 → Instr} {x : Option Word}
    (h : instanceForm (w.extractLsb' 20 5) (w.extractLsb' 0 20) f = some i) (hx : SecondIs x v)
    (henc : ∀ inst, pumpEncode (f inst) = some (pumpWord op 0 (inst.zeroExtend 20) x)) (hlegal : ∀ inst, pumpLegal (f inst) = true)
    (hop : (w.extractLsb' 25 7).toNat = op.toNat) : Spells w v i := by
  obtain ⟨hmid, inst, hlow, rfl⟩ := instanceForm_iff.1 h
  exact spells_of_fields (henc inst) (hlegal inst) hop hmid hlow hx

theorem spells_of_conditionForm {f : BitVec 5 → Instr} (h : conditionForm (w.extractLsb' 20 5) (w.extractLsb' 0 20) f = some i)
    (henc : ∀ c, pumpEncode (f c) = some (pumpWord op c 0)) (hlegal : ∀ c, pumpLegal (f c) = decide (c.toNat < 13))
    (hop : (w.extractLsb' 25 7).toNat = op.toNat) : Spells w v i := by
  obtain ⟨hcode, hlow, rfl⟩ := conditionForm_iff.1 h
  exact spells_of_fields (henc _) ((hlegal _).trans (decide_eq_true hcode)) hop rfl hlow (.inl rfl)

theorem spells_of_pointForm {sel : Sel} {o : Operand} (h : pointForm (w.extractLsb' 20 5) (w.extractLsb' 0 20) v = some (sel, o))
    (henc : pumpEncode i = some (wordForm op (accForm (w.extractLsb' 20 5)) sel o)) (hlegal : selOk sel o = true → pumpLegal i = true)
    (hop : (w.extractLsb' 25 7).toNat = op.toNat) : Spells w v i := by
  obtain ⟨hallowed, hsel, hmode, hlow, hsecond⟩ := pointForm_iff.1 h
  rw [wordForm_eq] at henc
  exact spells_of_fields henc (hlegal hallowed) hop ((wordField_iff ..).2 ⟨rfl, hmode, hsel⟩) hlow hsecond

end

/-- The arms of the decoder in its order, those of one form together. -/
theorem spells_of_pumpDecode {w v : Word} {i : Instr} (h : pumpDecode w v = some i) : Spells w v i := by
  unfold pumpDecode at h
  dsimp only at h
  split at h
  -- LDB to OUTBN
  iterate 12
    next hop =>
      cases h
      exact spells_of_fields rfl rfl hop rfl rfl (.inl rfl)
  -- ANDQ, ANDNQ, LDQ
  iterate 3
    next hop =>
      obtain ⟨hmid, heq⟩ := Option.ite_none_right_eq_some.1 h
      cases heq
      exact spells_of_fields rfl rfl hop hmid rfl (.inl rfl)
  -- NEST to CLRBA
  iterate 10
    next hop => exact spells_of_plainForm h rfl rfl hop
  -- RISE, FALL
  iterate 2
    next hop => exact spells_of_instanceForm h (.inl rfl) (fun _ => rfl) (fun _ => rfl) hop
  -- LDC, ANDC, ORC
  iterate 3
    next hop => exact spells_of_conditionForm h (fun _ => rfl) (fun _ => rfl) hop
  -- LD
  · next hop =>
      obtain ⟨⟨sel, o⟩, hform, rfl⟩ := Option.map_eq_some_iff.1 h
      exact spells_of_pointForm hform rfl (by cases o <;> exact id) hop
  -- ST
  · next hop =>
      obtain ⟨⟨sel, o⟩, hform, hst⟩ := Option.bind_eq_some_iff.1 h
      obtain ⟨hstore, heq⟩ := Option.ite_none_right_eq_some.1 hst
      cases heq
      exact spells_of_pointForm hform rfl (fun _ => hstore) hop
  -- ADD to FCMP
  iterate 21
    next hop =>
      obtain ⟨acc, o, hmid, hlow, hsecond, rfl⟩ := operandForm_iff.1 h
      exact spells_of_fields (congrArg some (wordForm_eq ..)) rfl hop hmid hlow hsecond
  -- NEG to FTU
  iterate 9
    next hop =>
      obtain ⟨acc, hmid, hlow, rfl⟩ := singleForm_iff.1 h
      exact spells_of_fields rfl rfl hop hmid hlow (.inl rfl)
  -- SWAP
  · next hop => exact spells_of_plainForm h rfl rfl hop
  -- JC
  · next hop =>
      obtain ⟨hcode, heq⟩ := Option.ite_none_right_eq_some.1 h
      cases heq
      exact spells_of_fields rfl (decide_eq_true hcode) hop rfl rfl (.inl rfl)
  -- CALL
  · next hop =>
      obtain ⟨⟨hcode, hupper⟩, heq⟩ := Option.ite_none_right_eq_some.1 h
      cases heq
      exact spells_of_fields rfl (decide_eq_true hcode) hop rfl ((narrow_iff rfl).1 ⟨hupper, rfl⟩) (.inl rfl)
  -- RET
  · next hop => exact spells_of_conditionForm h (fun _ => rfl) (fun _ => rfl) hop
  -- BMOV
  · next hop =>
      obtain ⟨hmid, heq⟩ := Option.ite_none_right_eq_some.1 h
      cases heq
      exact spells_of_fields rfl rfl hop hmid rfl (.inr (congrArg some (append_countFields v)))
  -- BMOVX
  · next hop =>
      obtain ⟨⟨hmid, hupper⟩, heq⟩ := Option.ite_none_right_eq_some.1 h
      cases heq
      exact spells_of_fields rfl rfl hop hmid ((narrow_iff rfl).1 ⟨hupper, rfl⟩) (.inl rfl)
  -- TON to CTD
  iterate 5
    next hop => exact spells_of_instanceForm h (.inl rfl) (fun _ => rfl) (fun _ => rfl) hop
  -- CTUD
  · next hop =>
      obtain ⟨hreserved, hform⟩ := Option.ite_none_right_eq_some.1 h
      have hsecond := append_fields v
      rw [hreserved] at hsecond
      exact spells_of_instanceForm hform (.inr (congrArg some hsecond)) (fun _ => rfl) (fun _ => rfl) hop
  -- CRST, CLD
  iterate 2
    next hop => exact spells_of_instanceForm h (.inl rfl) (fun _ => rfl) (fun _ => rfl) hop
  -- LDCYC, LDTASK
  iterate 2
    next hop => exact spells_of_plainForm h rfl rfl hop
  -- LOOPREQ
  · next hop =>
      obtain ⟨⟨hmid, hupper⟩, heq⟩ := Option.ite_none_right_eq_some.1 h
      cases heq
      exact spells_of_fields rfl rfl hop hmid ((narrow_iff rfl).1 ⟨hupper, rfl⟩) (.inl rfl)
  -- NOP
  · next hop => exact spells_of_plainForm h rfl rfl hop
  · cases h

/-- The instructions by the form of their words. -/
theorem pumpDecode_of_spells {w v : Word} {i : Instr} (h : Spells w v i) : pumpDecode w v = some i := by
  obtain ⟨hlegal, p, henc, rfl, hsecond⟩ := h
  cases i with
  | ldb p bit | ldbn p bit | andb p bit | andbn p bit | orb p bit | orbn p bit | xorb p bit | xorbn p bit | setb p bit | clrb p bit
  | outb p bit | outbn p bit | andq p | andnq p | ldq p =>
    cases henc
    rw [pumpDecode, pumpWord_op, pumpWord_mid, pumpWord_low]
    rfl
  | nest | joina | joinan | joino | joinon | joinx | joinxn | notba | setba | clrba | swap | ldcyc | ldtask | nop =>
    cases henc
    rw [pumpDecode, pumpWord_op, pumpWord_mid, pumpWord_low]
    exact plainForm_iff.2 ⟨rfl, rfl, rfl⟩
  | rise inst | fall inst | ton inst | tof inst | tp inst | ctu inst | ctd inst | crst inst | cld inst =>
    cases henc
    rw [pumpDecode, pumpWord_op, pumpWord_mid, pumpWord_low]
    exact instanceForm_iff.2 ⟨rfl, inst, rfl, rfl⟩
  | ldc c | andc c | orc c | ret c =>
    cases henc
    rw [pumpDecode, pumpWord_op, pumpWord_mid, pumpWord_low]
    exact conditionForm_iff.2 ⟨of_decide_eq_true hlegal, rfl, rfl⟩
  | neg acc | abs acc | fneg acc | fabs acc | fsqrt acc | itf acc | utf acc | fti acc | ftu acc =>
    cases henc
    rw [pumpDecode, pumpWord_op, pumpWord_mid, pumpWord_low]
    exact singleForm_iff.2 ⟨acc, rfl, rfl, rfl⟩
  | add acc o | sub acc o | mul acc o | div acc o | divu acc o | mod acc o | andw acc o | orw acc o | xorw acc o | shl acc o | shr acc o
  | sar acc o | cmp acc o | cmpu acc o | fadd acc o | fsub acc o | fmul acc o | fdiv acc o | fmin acc o | fmax acc o | fcmp acc o =>
    cases henc
    rw [wordForm_eq] at hsecond ⊢
    rw [pumpDecode, pumpWord_op, pumpWord_mid, pumpWord_low]
    exact operandForm_iff.2 ⟨acc, o, rfl, rfl, hsecond, rfl⟩
  | ld acc sel o =>
    cases henc
    rw [wordForm_eq] at hsecond ⊢
    rw [pumpDecode, pumpWord_op, pumpWord_mid, pumpWord_low]
    exact Option.map_eq_some_iff.2 ⟨(sel, o), pointForm_of_wordField acc (by cases o <;> exact hlegal) hsecond,
      congrArg (Instr.ld · sel o) (accForm_wordField ..)⟩
  | st acc sel o =>
    cases henc
    rw [wordForm_eq] at hsecond ⊢
    rw [pumpDecode, pumpWord_op, pumpWord_mid, pumpWord_low]
    exact Option.bind_eq_some_iff.2 ⟨(sel, o), pointForm_of_wordField acc (selOk_of_storeOk hlegal) hsecond,
      (if_pos hlegal).trans (congrArg (fun acc' => some (Instr.st acc' sel o)) (accForm_wordField ..))⟩
  | jc c target =>
    cases henc
    rw [pumpDecode, pumpWord_op, pumpWord_mid, pumpWord_low]
    exact if_pos (of_decide_eq_true hlegal)
  | call c block =>
    cases henc
    obtain ⟨hupper, hblock⟩ := (narrow_iff (n := 16) (m := 4) rfl).2 (rfl : block.zeroExtend 20 = _)
    rw [pumpDecode, pumpWord_op, pumpWord_mid, pumpWord_low]
    exact (if_pos ⟨of_decide_eq_true hlegal, hupper⟩).trans (congrArg (fun b => some (Instr.call c b)) hblock)
  | bmov src dst c =>
    cases henc
    obtain hsecond | hsecond := hsecond <;> cases hsecond
    rw [pumpDecode, pumpWord_op, pumpWord_mid, pumpWord_low, countWord_count, countWord_dst]
    rfl
  | bmovx c =>
    cases henc
    obtain ⟨hupper, hcount⟩ := (narrow_iff (n := 12) (m := 8) rfl).2 (rfl : c.zeroExtend 20 = _)
    rw [pumpDecode, pumpWord_op, pumpWord_mid, pumpWord_low]
    exact (if_pos ⟨rfl, hupper⟩).trans (congrArg (fun n => some (Instr.bmovx n)) hcount)
  | ctud inst p bit =>
    cases henc
    obtain hsecond | hsecond := hsecond <;> cases hsecond
    rw [pumpDecode, pumpWord_op, pumpWord_mid, pumpWord_low, inputWord_reserved, inputWord_bit, inputWord_point]
    exact (if_pos rfl).trans (instanceForm_iff.2 ⟨rfl, inst, rfl, rfl⟩)
  | loopreq loop =>
    cases henc
    obtain ⟨hupper, hloop⟩ := (narrow_iff (n := 9) (m := 11) rfl).2 (rfl : loop.zeroExtend 20 = _)
    rw [pumpDecode, pumpWord_op, pumpWord_mid, pumpWord_low]
    exact (if_pos ⟨rfl, hupper⟩).trans (congrArg (fun k => some (Instr.loopreq k)) hloop)
  | _ => cases henc

/-- Settles O25: the decoder answers an instruction exactly where the words spell it. -/
theorem pumpEncoding : Obligations.PumpEncoding :=
  ⟨fun _ p v henc hlegal => pumpDecode_of_spells ⟨hlegal, p, henc, rfl, secondIs_getD p.second v⟩, fun _ _ _ h => spells_of_pumpDecode h⟩

end Sys2Proof.Proofs
end

section
/-! Condition codes, the nesting stack and bit writes (R72, R96, R104, R105, R107, R113); the statements on them (O9, O11, O12). -/

namespace Sys2Proof.Proofs
open Sys2Proof Sys2Proof.Machine Sys2Proof.Laws

section
variable {s : State} {t : Task}

/-! ## Faults -/

theorem runInstr_stack {cost words : Nat} {f : Proc → State → Flow} (h : Ready s t cost words)
    (hflow : f (s.ahead t words) (s.charge cost) = .stack) : TaskFaulted s (s.runInstr words cost f) t cost false := by
  rw [runInstr_ready h, hflow]
  exact taskFault_spec s t cost false

/-- An instruction fault takes 1 ns, whatever the instruction's own cost (R96). -/
theorem runInstr_illegal {cost words : Nat} {f : Proc → State → Flow} (h : Ready s t cost words) (hfits : s.fits t 1 = true)
    (hflow : f (s.ahead t words) (s.charge cost) = .illegal) : TaskFaulted s (s.runInstr words cost f) t 1 true := by
  rw [runInstr_ready h, hflow]
  dsimp only
  rw [if_pos hfits]
  exact taskFault_spec s t 1 true

theorem runInstr_onlyProc {cost words : Nat} {f : Proc → State → Flow} {p : Proc} (h : Ready s t cost words)
    (hflow : f (s.ahead t words) (s.charge cost) = .cont p (s.charge cost)) : OnlyProc s (s.runInstr words cost f) t cost p := by
  rw [runInstr_cont h hflow]
  exact onlyProc_charge ..

/-! ## The nesting stack (R107) -/

theorem opNest_pushed (h : Ready s t 1) (hroom : (s.proc t).nesting.length < 16) :
    OnlyProc s s.opNest t 1 { s.ahead t 1 with nesting := (s.proc t).ba :: (s.proc t).nesting } :=
  runInstr_onlyProc h (if_pos hroom)

theorem opNest_full (h : Ready s t 1) (hfull : 16 ≤ (s.proc t).nesting.length) : TaskFaulted s s.opNest t 1 false :=
  runInstr_stack h (if_neg (Nat.not_lt.2 hfull))

theorem opJoin_popped (h : Ready s t 1) (f : Bool → Bool → Bool) {b : Bool} {r : List Bool} (htop : (s.proc t).nesting = b :: r) :
    OnlyProc s (s.opJoin f) t 1 { s.ahead t 1 with ba := f b (s.proc t).ba, nesting := r } :=
  runInstr_onlyProc h (by simp only [State.ahead, htop])

theorem opJoin_empty (h : Ready s t 1) (f : Bool → Bool → Bool) (hempty : (s.proc t).nesting = []) : TaskFaulted s (s.opJoin f) t 1 false :=
  runInstr_stack h (by simp only [State.ahead, hempty])

/-! ## Bit writes (R72, R104) -/

theorem getLsbD_withBit (w : Word) (b : Bool) {i j : Nat} (hj : j < 32) : (withBit w i b).getLsbD j = if j = i then b else w.getLsbD j := by
  have hmask : (1#32 <<< i).getLsbD j = decide (j = i) := by
    simp only [BitVec.getLsbD_shiftLeft, BitVec.getLsbD_one, hj, decide_true, Bool.true_and, Nat.reduceLT]
    by_cases hji : j = i
    · simp [hji]
    · simp only [hji, decide_false, Bool.and_eq_false_imp, Bool.not_eq_true', decide_eq_false_iff_not]
      omega
  cases b with
  | false =>
    simp only [withBit, Bool.false_eq_true, if_false, BitVec.getLsbD_and, BitVec.getLsbD_not, hmask, hj]
    by_cases hji : j = i <;> simp [hji]
  | true =>
    simp only [withBit, if_true, BitVec.getLsbD_or, hmask]
    by_cases hji : j = i <;> simp [hji]

theorem opBitWrite_idle (h : Ready s t 1) (p : PointAddr) (bit : BitVec 5) {w v : Bool → Bool} (hw : w (s.proc t).ba = false) :
    OnlyProc s (s.opBitWrite p bit w v) t 1 (s.ahead t 1) :=
  runInstr_onlyProc h (congrArg _ (if_neg (by rw [show w (s.ahead t 1).ba = false from hw]; nofun)))

theorem opBitWrite_ready (h : Ready s t 1) (p : PointAddr) (bit : BitVec 5) {w v : Bool → Bool} (hw : w (s.proc t).ba = true) :
    s.opBitWrite p bit w v = ((s.charge 1).storeBit p bit (v (s.proc t).ba)).setProc t (s.ahead t 1) :=
  runInstr_cont h (congrArg _ (if_pos hw))

theorem storeBit_onlyPoint {p : PointAddr} (bit : BitVec 5) (b : Bool) (h : s.storable p.toNat = true) :
    OnlyPoint s (((s.charge 1).storeBit p bit b).setProc t (s.ahead t 1)) t 1 (s.ahead t 1) p.toNat
      { s.point p.toNat with value := withBit (s.point p.toNat).value bit.toNat b, quality := 0, stamp := s.stamp } := by
  rw [State.storeBit, storable_charge, if_pos h]
  exact onlyPoint_store ..

theorem storeBit_discarded {p : PointAddr} (bit : BitVec 5) (b : Bool) (h : s.storable p.toNat = false) :
    Discarded s (((s.charge 1).storeBit p bit b).setProc t (s.ahead t 1)) t 1 (s.ahead t 1) := by
  rw [State.storeBit, storable_charge, if_neg (by simp [h])]
  exact discarded_wrviol ..

/-- A bit write that is done where `w` of BA holds, of the bit `v` of BA: on a point that R72 lets the pump write, and on another. -/
theorem opBitWrite_cases (h : Ready s t 1) (p : PointAddr) (bit : BitVec 5) (w v : Bool → Bool) :
    (w (s.proc t).ba = false → OnlyProc s (s.opBitWrite p bit w v) t 1 (s.ahead t 1))
      ∧ (w (s.proc t).ba = true → s.storable p.toNat = true → ∃ x : Word,
        (∀ j < 32, x.getLsbD j = if j = bit.toNat then v (s.proc t).ba else (s.point p.toNat).value.getLsbD j)
        ∧ OnlyPoint s (s.opBitWrite p bit w v) t 1 (s.ahead t 1) p.toNat { s.point p.toNat with value := x, quality := 0, stamp := s.stamp })
      ∧ (w (s.proc t).ba = true → s.storable p.toNat = false → Discarded s (s.opBitWrite p bit w v) t 1 (s.ahead t 1)) := by
  refine ⟨opBitWrite_idle h p bit, fun hw hstore => ⟨_, fun j hj => getLsbD_withBit _ _ hj, ?_⟩, fun hw hstore => ?_⟩
  · rw [opBitWrite_ready h p bit hw]
    exact storeBit_onlyPoint bit _ hstore
  · rw [opBitWrite_ready h p bit hw]
    exact storeBit_discarded bit _ hstore

/-! ## Conditions (R105) -/

section
variable {c : BitVec 5} {b : Bool}

theorem opCond_onlyProc (h : Ready s t 1) (f : Bool → Bool → Bool) (hc : (s.proc t).cond c = some b) :
    OnlyProc s (s.opCond c f) t 1 { s.ahead t 1 with ba := f (s.proc t).ba b } :=
  runInstr_onlyProc h (by rw [show (s.ahead t 1).cond c = some b from hc]; rfl)

theorem opJc_onlyProc (h : Ready s t 2) {target : BitVec 20} (hc : (s.proc t).cond c = some b)
    (htarget : target.toNat < (s.blockLen (s.proc t).block).getD 0) :
    OnlyProc s (s.opJc c target) t 2 { s.ahead t 1 with offset := if b then target.toNat else (s.proc t).offset + 1 } := by
  refine runInstr_onlyProc h ?_
  rw [show (s.ahead t 1).cond c = some b from hc]
  refine (if_neg (Nat.not_le.2 htarget)).trans ?_
  cases b <;> rfl

theorem opCall_onlyProc (h : Ready s t 4) {block : BitVec 16} (hc : (s.proc t).cond c = some b) (hblock : s.blockLen block.toNat ≠ none)
    (hroom : (s.proc t).calls.length < 32) : OnlyProc s (s.opCall c block) t 4
      (if b then { s.proc t with calls := ((s.proc t).block, (s.proc t).offset + 1) :: (s.proc t).calls, block := block.toNat, offset := 0 }
        else s.ahead t 1) := by
  refine runInstr_onlyProc h ?_
  rw [show (s.ahead t 1).cond c = some b from hc]
  refine (if_neg (by simpa using hblock)).trans ?_
  cases b with
  | false => rfl
  | true => exact if_pos hroom

/-- A RET whose condition does not hold, or that pops an open call, ends no scan. -/
theorem opRet_onlyProc {p : Proc} (h : Ready s t 3) (hopen : (s.proc t).cond c = some true → (s.proc t).calls ≠ [])
    (hflow : retFlow c (s.ahead t 1) (s.charge 3) = .cont p (s.charge 3)) : OnlyProc s (s.opRet c) t 3 p := by
  have hends : s.retEnds c = none := by
    rw [State.retEnds, h.1]
    simpa [Option.filter] using fun _ _ hc => hopen hc
  unfold State.opRet
  rw [hends]
  exact runInstr_onlyProc h hflow

theorem opRet_untaken (h : Ready s t 3) (hc : (s.proc t).cond c = some false) : OnlyProc s (s.opRet c) t 3 (s.ahead t 1) := by
  refine opRet_onlyProc h (by rw [hc]; nofun) ?_
  rw [retFlow, show (s.ahead t 1).cond c = some false from hc]

theorem opRet_popped (h : Ready s t 3) {q o : Nat} {r : List (Nat × Nat)} (hc : (s.proc t).cond c = some true)
    (hcalls : (s.proc t).calls = (q, o) :: r) : OnlyProc s (s.opRet c) t 3 { s.proc t with calls := r, block := q, offset := o } := by
  refine opRet_onlyProc h (by rw [hcalls]; nofun) ?_
  rw [retFlow, show (s.ahead t 1).cond c = some true from hc, show (s.ahead t 1).calls = (q, o) :: r from hcalls]
  rfl

theorem opRet_reserved (h : Ready s t 3) (hfits : s.fits t 1 = true) (hc : (s.proc t).cond c = none) : TaskFaulted s (s.opRet c) t 1 true := by
  have hends : s.retEnds c = none := by
    rw [State.retEnds, h.1]
    simp [Option.filter, hc]
  unfold State.opRet
  rw [hends]
  exact runInstr_illegal h hfits (by rw [retFlow, show (s.ahead t 1).cond c = none from hc])

end

end

/-- Settles O11: a push and a full stack, and for the six JOINs a pop and the empty stack. -/
theorem nesting : Obligations.Nesting := by
  intro s t hready
  refine ⟨fun hroom => ⟨_, rfl, opNest_pushed hready hroom⟩, fun hfull => ⟨_, rfl, opNest_full hready hfull⟩, fun e he => ?_⟩
  simp only [List.mem_cons, List.not_mem_nil, or_false] at he
  obtain rfl | rfl | rfl | rfl | rfl | rfl := he
  all_goals exact ⟨fun b r htop => ⟨_, rfl, opJoin_popped hready _ htop⟩, fun hempty => ⟨_, rfl, opJoin_empty hready _ hempty⟩⟩

/-- Settles O12: the four instructions share one operation, with the functions of BA that the list names. -/
theorem bitWrites : Obligations.BitWrites := by
  intro s t p bit hready e he
  simp only [List.mem_cons, List.not_mem_nil, or_false] at he
  obtain rfl | rfl | rfl | rfl := he
  all_goals
    obtain ⟨hidle, hwrite, hdiscard⟩ := opBitWrite_cases hready p bit _ _
    exact ⟨fun hw => ⟨_, rfl, hidle hw⟩, fun hw hstore => ⟨_, rfl, hwrite hw hstore⟩, fun hw hstore => ⟨_, rfl, hdiscard hw hstore⟩⟩

/-- Settles O9: `cond_eq` gives the table of R105; a code in it by what each instruction does with the condition, a reserved one by the fault. -/
theorem conditions : Obligations.Conditions := by
  intro s t c target block hready4 hready3 hready2 hready1 p
  have hfits : s.fits t 1 = true := hready1.2.1
  rw [← cond_eq]
  cases hc : p.cond c with
  | some b =>
    refine ⟨⟨_, rfl, opCond_onlyProc hready1 _ hc⟩, ⟨_, rfl, opCond_onlyProc hready1 _ hc⟩, ⟨_, rfl, opCond_onlyProc hready1 _ hc⟩,
      fun htarget => ⟨_, rfl, opJc_onlyProc hready2 hc htarget⟩, fun hblock hroom => ⟨_, rfl, opCall_onlyProc hready4 hc hblock hroom⟩,
      ?_, ?_⟩
    · rintro rfl
      exact ⟨_, rfl, opRet_untaken hready3 hc⟩
    · rintro q o r rfl hcalls
      exact ⟨_, rfl, opRet_popped hready3 hc hcalls⟩
  | none =>
    have hahead : ∀ w, (s.ahead t w).cond c = none := fun _ => hc
    intro i hi
    simp only [List.mem_cons, List.not_mem_nil, or_false] at hi
    obtain rfl | rfl | rfl | rfl | rfl | rfl := hi
    · exact ⟨_, rfl, runInstr_illegal hready1 hfits (by rw [hahead])⟩
    · exact ⟨_, rfl, runInstr_illegal hready1 hfits (by rw [hahead])⟩
    · exact ⟨_, rfl, runInstr_illegal hready1 hfits (by rw [hahead])⟩
    · exact ⟨_, rfl, runInstr_illegal hready2 hfits (by rw [hahead])⟩
    · exact ⟨_, rfl, runInstr_illegal hready4 hfits (by rw [hahead])⟩
    · exact ⟨_, rfl, opRet_reserved hready3 hfits hc⟩

end Sys2Proof.Proofs
end

section
/-! The word instructions: loads, integer arithmetic, logic, shifts and comparisons (R94, R98, R101, R102, R106, R110, R118); the statements on
them (O13, O15, O16). -/

namespace Sys2Proof.Proofs
open Sys2Proof Sys2Proof.Machine Sys2Proof.Laws

/-! ## What the shared operations come to -/

/-- V of an indexed address beyond the point space, added to the flags of an instruction (R101). -/
theorem flags_orV (p : Proc) (z n v u o : Bool) : (p.flags z n v u).orV o = p.flags z n (v || o) u := by
  cases o
  · rw [Bool.or_false]
    rfl
  · rw [Bool.or_true]
    rfl

section
variable {s : State} {t : Task} {x : Acc} {op : Operand} {cost : Nat}

theorem runWord_onlyProc (h : Ready s t (cost + operandExtra op) (operandWords op)) (f : Proc → Word → Word → Proc) :
    OnlyProc s (s.runWord x op cost f) t (cost + operandExtra op)
      ((f (s.ahead t (operandWords op)) ((s.proc t).acc x) (s.operand (s.proc t) x .value op).1).orV (s.operand (s.proc t) x .value op).2) := by
  have hrun := runProc_onlyProc h fun p u =>
    (f p (p.acc x) (u.operand p x .value op).1).orV (u.operand p x .value op).2
  rw [acc_ahead, operand_charge, operand_ahead] at hrun
  exact hrun

theorem opInt_onlyProc (h : Ready s t (cost + operandExtra op) (operandWords op)) {f : Word → Word → Word × Bool} {r : Word} {v : Bool}
    (hf : f ((s.proc t).acc x) (s.operand (s.proc t) x .value op).1 = (r, v)) :
    OnlyProc s (s.opInt x op cost f) t (cost + operandExtra op)
      (((s.ahead t (operandWords op)).setAcc x r).flags (decide (r = 0)) r.msb (v || (s.operand (s.proc t) x .value op).2) false) := by
  have hrun := runWord_onlyProc (x := x) h fun p a b => (p.setAcc x (f a b).1).flagsInt (f a b).1 (f a b).2
  rw [hf, Proc.flagsInt, flags_orV] at hrun
  exact hrun

theorem opLog_onlyProc (h : Ready s t (1 + operandExtra op) (operandWords op)) (f : Word → Word → Word) {r : Word}
    (hf : f ((s.proc t).acc x) (s.operand (s.proc t) x .value op).1 = r) :
    OnlyProc s (s.opLog x op f) t (1 + operandExtra op)
      (((s.ahead t (operandWords op)).setAcc x r).flags (decide (r = 0)) (r.getLsbD 31) (s.operand (s.proc t) x .value op).2 false) := by
  have hrun := runWord_onlyProc (x := x) h fun p a b => (p.setAcc x (f a b)).flagsLog (f a b)
  rw [hf, Proc.flagsLog, flags_orV] at hrun
  exact hrun

theorem runCmp_onlyProc (h : Ready s t (1 + operandExtra op) (operandWords op)) (lt : Word → Word → Bool) :
    OnlyProc s (s.runWord x op 1 fun p a b => p.flagsCmp (decide (a = b)) (lt a b)) t (1 + operandExtra op)
      ((s.ahead t (operandWords op)).flags (decide ((s.proc t).acc x = (s.operand (s.proc t) x .value op).1))
        (lt ((s.proc t).acc x) (s.operand (s.proc t) x .value op).1) (s.operand (s.proc t) x .value op).2 false) := by
  have hrun := runWord_onlyProc (x := x) h fun p a b => p.flagsCmp (decide (a = b)) (lt a b)
  rw [Proc.flagsCmp, flags_orV] at hrun
  exact hrun

theorem opInt1_onlyProc (h : Ready s t 1) {f : Word → Word × Bool} {r : Word} {v : Bool} (hf : f ((s.proc t).acc x) = (r, v)) :
    OnlyProc s (s.opInt1 x f) t 1 (((s.ahead t 1).setAcc x r).flags (decide (r = 0)) r.msb v false) := by
  have hrun := runProc_onlyProc h fun p _ => (p.setAcc x (f (p.acc x)).1).flagsInt (f (p.acc x)).1 (f (p.acc x)).2
  rw [acc_ahead, hf] at hrun
  exact hrun

/-! ## Loads (R94, R101, R102) -/

theorem opLd_onlyProc {sel : Sel} (h : Ready s t (1 + operandExtra op) (operandWords op)) (hsel : selOk sel op = true) {w : Word} {v : Bool}
    (hop : s.operand (s.proc t) x sel op = (w, v)) :
    OnlyProc s (s.opLd x sel op) t (1 + operandExtra op) (((s.ahead t (operandWords op)).setAcc x w).orV v) := by
  refine runInstr_onlyProc h ((if_pos hsel).trans ?_)
  rw [operand_charge, operand_ahead, hop]

/-- The age of a point, in cycles modulo 65,536 (R65). -/
theorem age_eq (n : Nat) : s.age n = (s.n + 2 ^ 16 - (s.point n).stamp.toNat) % 2 ^ 16 := by
  have hstamp := (s.point n).stamp.isLt
  rw [State.age, State.stamp, BitVec.toNat_sub, BitVec.toNat_ofNat]
  omega

theorem operand_indexed_inside {sel : Sel} {a : PointAddr} (h : (a.toNat + ((s.proc t).partner x).toNat) % 2 ^ 32 ≤ 0xFFFFF) :
    s.operand (s.proc t) x sel (.indexed a) = (s.pointSel ((a.toNat + ((s.proc t).partner x).toNat) % 2 ^ 32) sel, false) := by
  rw [State.operand, indexedAddr_inside h]

theorem operand_indexed_beyond {sel : Sel} {a : PointAddr} (h : 0xFFFFF < (a.toNat + ((s.proc t).partner x).toNat) % 2 ^ 32) :
    s.operand (s.proc t) x sel (.indexed a) = (0, true) := by
  rw [State.operand, indexedAddr_beyond h]

end

/-- Settles O13: the operand of each form, put into the accumulator. -/
theorem loads : Obligations.Loads := by
  intro s t x sel a w part other n
  have hpart : part = fun k => s.pointSel k sel := by
    funext k
    cases sel with
    | value => rfl
    | quality => exact BitVec.eq_of_toNat_eq (by simp [part, State.pointSel])
    | age => exact congrArg (BitVec.ofNat 32) (age_eq k).symm
  rw [hpart]
  refine ⟨fun h => ⟨_, rfl, opLd_onlyProc h rfl rfl⟩, fun h hinside => ⟨_, rfl, opLd_onlyProc h rfl (operand_indexed_inside hinside)⟩,
    fun h hbeyond => ⟨_, rfl, opLd_onlyProc h rfl (operand_indexed_beyond hbeyond)⟩, fun h => ⟨_, rfl, opLd_onlyProc h rfl rfl⟩,
    fun h => ⟨_, rfl, opLd_onlyProc h rfl rfl⟩⟩

/-! ## Integer results against exact integers (R110) -/

/-- The exact result is not representable in I32. -/
def beyondI32 (z : Int) : Bool := decide (z < -2147483648 ∨ 2147483647 < z)

theorem toInt_ofInt_ne (z : Int) : decide ((BitVec.ofInt 32 z).toInt ≠ z) = beyondI32 z := by
  rw [beyondI32, decide_eq_decide, BitVec.toInt_ofInt, Int.bmod_def]
  omega

theorem intAdd_eq (a b : Word) : intAdd a b = (BitVec.ofInt 32 (a.toInt + b.toInt), beyondI32 (a.toInt + b.toInt)) := by
  have hsum : a + b = BitVec.ofInt 32 (a.toInt + b.toInt) := by simp [BitVec.ofInt_add]
  rw [intAdd, hsum, toInt_ofInt_ne]

theorem intSub_eq (a b : Word) : intSub a b = (BitVec.ofInt 32 (a.toInt - b.toInt), beyondI32 (a.toInt - b.toInt)) := by
  have hdiff : a - b = BitVec.ofInt 32 (a.toInt - b.toInt) := BitVec.eq_of_toInt_eq (by rw [BitVec.toInt_sub, BitVec.toInt_ofInt])
  rw [intSub, hdiff, toInt_ofInt_ne]

theorem intMul_eq (a b : Word) : intMul a b = (BitVec.ofInt 32 (a.toInt * b.toInt), beyondI32 (a.toInt * b.toInt)) := by
  have hprod : a * b = BitVec.ofInt 32 (a.toInt * b.toInt) := by simp [BitVec.ofInt_mul]
  rw [intMul, hprod, toInt_ofInt_ne]

section
variable {a b : Word} (hb : b ≠ 0)
include hb

theorem intDiv_eq : intDiv a b = (BitVec.ofInt 32 (a.toInt.tdiv b.toInt), beyondI32 (a.toInt.tdiv b.toInt)) := by
  rw [intDiv, if_neg hb, ← toInt_ofInt_ne]

theorem intMod_eq : intMod a b = (BitVec.ofInt 32 (a.toInt.tmod b.toInt), beyondI32 (a.toInt.tdiv b.toInt)) := by
  rw [intMod, if_neg hb, ← toInt_ofInt_ne]

theorem intDivu_eq : intDivu a b = (BitVec.ofNat 32 (a.toNat / b.toNat), false) := if_neg hb

end

/-- The least number is the one whose negative I32 does not hold. -/
theorem eq_least_iff (a : Word) : a = 0x80000000#32 ↔ 2147483647 < -a.toInt := by
  have hlow := BitVec.le_toInt a
  rw [← BitVec.toInt_inj, show (0x80000000#32).toInt = -2147483648 from rfl]
  omega

theorem intNeg_eq (a : Word) : intNeg a = (BitVec.ofInt 32 (-a.toInt), decide (2147483647 < -a.toInt)) := by
  have hneg : 0 - a = BitVec.ofInt 32 (-a.toInt) := by simp [BitVec.ofInt_neg]
  rw [intNeg, hneg, decide_eq_decide.2 (eq_least_iff a)]

theorem intAbs_eq (a : Word) : intAbs a = (BitVec.ofInt 32 a.toInt.natAbs, decide (2147483647 < (a.toInt.natAbs : Int))) := by
  have hhigh := BitVec.toInt_lt (x := a)
  unfold intAbs
  rw [BitVec.msb_eq_toInt]
  split
  · next hneg =>
    rw [intNeg_eq, Int.ofNat_natAbs_of_nonpos (by simp at hneg; omega)]
  · next hpos =>
    have habs : (a.toInt.natAbs : Int) = a.toInt := Int.natAbs_of_nonneg (by simpa using hpos)
    rw [habs, BitVec.ofInt_toInt, decide_eq_false (by omega)]

/-- Settles O15: the exact result of each instruction, and its flags by `opInt_onlyProc`. -/
theorem integerArithmetic : Obligations.IntegerArithmetic := by
  intro s t x op a o b done wide
  refine ⟨fun e he hready => ?_, fun hready hb => ⟨⟨_, rfl, ?_⟩, ⟨_, rfl, ?_⟩, ⟨_, rfl, ?_⟩⟩, fun hready hb i hi => ?_⟩
  · simp only [List.mem_cons, List.not_mem_nil, or_false] at he
    obtain rfl | rfl | rfl := he
    · exact ⟨_, rfl, opInt_onlyProc hready (intAdd_eq ..)⟩
    · exact ⟨_, rfl, opInt_onlyProc hready (intSub_eq ..)⟩
    · exact ⟨_, rfl, opInt_onlyProc hready (intMul_eq ..)⟩
  · exact opInt_onlyProc hready (intDiv_eq hb)
  · exact opInt_onlyProc hready (intMod_eq hb)
  · exact opInt_onlyProc hready (intDivu_eq hb)
  · simp only [List.mem_cons, List.not_mem_nil, or_false] at hi
    obtain rfl | rfl | rfl := hi
    all_goals exact ⟨_, rfl, opInt_onlyProc hready (if_pos hb)⟩

/-! ## Shifts (R110) -/

theorem getLsbD_shl (a : Word) (n : Nat) {j : Nat} (hj : j < 32) : (a <<< n).getLsbD j = (decide (n ≤ j) && a.getLsbD (j - n)) := by
  rw [BitVec.getLsbD_shiftLeft, decide_eq_true hj, Bool.true_and, ← decide_not]
  simp only [Nat.not_lt]

theorem getLsbD_sar (a : Word) (n : Nat) {j : Nat} (hj : j < 32) :
    (a.sshiftRight n).getLsbD j = if j + n < 32 then a.getLsbD (j + n) else a.getLsbD 31 := by
  rw [BitVec.getLsbD_sshiftRight, decide_eq_false (Nat.not_le.2 hj), Nat.add_comm n j]
  rfl

/-- Settles O16: the bits of each result; the comparisons; the instructions of the accumulator alone. -/
theorem wordLogic : Obligations.WordLogic := by
  refine ⟨fun s t x op hready => ⟨fun e he => ?_, fun e he => ?_⟩, fun s t x hready => ⟨fun e he => ?_, ?_, ?_, ?_, ?_⟩⟩
  · simp only [List.mem_cons, List.not_mem_nil, or_false] at he
    obtain rfl | rfl | rfl | rfl | rfl | rfl := he
    · exact ⟨_, rfl, _, fun j _ => BitVec.getLsbD_and, opLog_onlyProc hready _ rfl⟩
    · exact ⟨_, rfl, _, fun j _ => BitVec.getLsbD_or, opLog_onlyProc hready _ rfl⟩
    · exact ⟨_, rfl, _, fun j _ => BitVec.getLsbD_xor, opLog_onlyProc hready _ rfl⟩
    · exact ⟨_, rfl, _, fun j hj => getLsbD_shl _ _ hj, opLog_onlyProc hready _ rfl⟩
    · refine ⟨_, rfl, _, fun j _ => ?_, opLog_onlyProc hready _ rfl⟩
      rw [BitVec.getLsbD_ushiftRight, Nat.add_comm]
      rfl
    · exact ⟨_, rfl, _, fun j hj => getLsbD_sar _ _ hj, opLog_onlyProc hready _ rfl⟩
  · simp only [List.mem_cons, List.not_mem_nil, or_false] at he
    obtain rfl | rfl := he
    all_goals exact ⟨_, rfl, runCmp_onlyProc hready _⟩
  · simp only [List.mem_cons, List.not_mem_nil, or_false] at he
    obtain rfl | rfl := he
    · exact ⟨_, rfl, opInt1_onlyProc hready (intNeg_eq _)⟩
    · exact ⟨_, rfl, opInt1_onlyProc hready (intAbs_eq _)⟩
  · exact ⟨_, rfl, runProc_onlyProc hready _⟩
  · refine ⟨_, rfl, ?_⟩
    rw [Nat.shiftRight_eq_div_pow]
    exact runProc_onlyProc hready _
  · refine ⟨_, rfl, ?_⟩
    have hnum : ((s.charge 1).pump.running.map Task.num).getD 0 = t.num := by
      rw [show (s.charge 1).pump.running = some t from hready.1]
      rfl
    have hrun := runProc_onlyProc hready fun p u => { p with a := BitVec.ofNat 32 ((u.pump.running.map Task.num).getD 0) }
    rw [hnum] at hrun
    cases t <;> exact hrun
  · exact ⟨_, rfl, runProc_onlyProc hready _⟩

end Sys2Proof.Proofs
end

section
/-! The binary32 instructions (R106, R111, R112); the statements on them (O17, O18, O19). -/

namespace Sys2Proof.Proofs
open Sys2Proof Sys2Proof.Machine Sys2Proof.Laws

section
variable {s : State} {t : Task} {x : Acc} {op : Operand} {cost : Nat}

/-! ## What the shared operations come to -/

/-- A result of two operands with FLT flags, `fin` saying whether an infinite one sets V (R106). -/
theorem runFlt_onlyProc (h : Ready s t (cost + operandExtra op) (operandWords op)) (f : Nat → Nat → Nat) (fin : Word → Word → Bool) {v : Bool}
    (hv : (fin ((s.proc t).acc x) (s.operand (s.proc t) x .value op).1
      && Fp.f32.isInf (fltOp f ((s.proc t).acc x) (s.operand (s.proc t) x .value op).1).toNat) = v) :
    let r := fltOp f ((s.proc t).acc x) (s.operand (s.proc t) x .value op).1
    OnlyProc s (s.runWord x op cost fun p a b => (p.setAcc x (fltOp f a b)).flagsFlt (fltOp f a b) (fin a b)) t (cost + operandExtra op)
      (((s.ahead t (operandWords op)).setAcc x r).flags (Fp.f32.isZero r.toNat) (r.getLsbD 31 && !Fp.f32.isNan r.toNat)
        (v || (s.operand (s.proc t) x .value op).2) (Fp.f32.isNan r.toNat)) := by
  have hrun := runWord_onlyProc (x := x) h fun p a b => (p.setAcc x (fltOp f a b)).flagsFlt (fltOp f a b) (fin a b)
  rw [Proc.flagsFlt, flags_orV, hv] at hrun
  exact hrun

/-- The same for a result of the accumulator alone. -/
theorem runFlt1_onlyProc (h : Ready s t cost) (f : Word → Word) (fin : Word → Bool) {r : Word} (hr : f ((s.proc t).acc x) = r) :
    OnlyProc s (s.runProc 1 cost fun p _ => (p.setAcc x (f (p.acc x))).flagsFlt (f (p.acc x)) (fin (p.acc x))) t cost
      (((s.ahead t 1).setAcc x r).flags (Fp.f32.isZero r.toNat) (r.getLsbD 31 && !Fp.f32.isNan r.toNat)
        (fin ((s.proc t).acc x) && Fp.f32.isInf r.toNat) (Fp.f32.isNan r.toNat)) := by
  have hrun := runProc_onlyProc h fun p _ => (p.setAcc x (f (p.acc x))).flagsFlt (f (p.acc x)) (fin (p.acc x))
  rw [acc_ahead, hr] at hrun
  exact hrun

theorem opFtoi_onlyProc (h : Ready s t 2) {f : Word → Word × Bool × Bool} {r : Word} {v u : Bool} (hf : f ((s.proc t).acc x) = (r, v, u)) :
    OnlyProc s (s.opFtoi x f) t 2 (((s.ahead t 1).setAcc x r).flags (decide (r = 0)) r.msb v u) := by
  have hrun := runProc_onlyProc h fun p _ =>
    (p.setAcc x (f (p.acc x)).1).flags (decide ((f (p.acc x)).1 = 0)) (f (p.acc x)).1.msb (f (p.acc x)).2.1 (f (p.acc x)).2.2
  rw [acc_ahead, hf] at hrun
  exact hrun

end

/-! ## NaN operands (R111) -/

section
variable {f : Fp.Fmt} {a b : Nat}

theorem isNan_iff : f.isNan a = true ↔ f.decode a = .nan := decide_eq_true_iff

/-- Two numbers are unordered exactly where one is a NaN. -/
theorem cmp_eq_none_iff : f.cmp a b = none ↔ f.isNan a = true ∨ f.isNan b = true := by
  rw [isNan_iff, isNan_iff]
  unfold Fp.Fmt.cmp
  cases f.decode a <;> cases f.decode b <;> simp

variable (h : f.isNan a = true ∨ f.isNan b = true)
include h

theorem add_nan : f.add a b = f.nanBits := by
  rw [isNan_iff, isNan_iff] at h
  unfold Fp.Fmt.add
  obtain h | h := h <;> rw [h]
  cases f.decode a <;> rfl

theorem sub_nan : f.sub a b = f.nanBits := by
  unfold Fp.Fmt.sub
  split
  · rfl
  · next hb => exact add_nan (.inl (h.resolve_right hb))

theorem mul_nan : f.mul a b = f.nanBits := by
  rw [isNan_iff, isNan_iff] at h
  unfold Fp.Fmt.mul
  obtain h | h := h <;> rw [h]
  cases f.decode a <;> rfl

theorem div_nan : f.div a b = f.nanBits := by
  rw [isNan_iff, isNan_iff] at h
  unfold Fp.Fmt.div
  obtain h | h := h <;> rw [h]
  cases f.decode a <;> rfl

theorem minimum_nan : f.minimum a b = f.nanBits := by
  rw [Fp.Fmt.minimum, cmp_eq_none_iff.2 h]

theorem maximum_nan : f.maximum a b = f.nanBits := by
  rw [Fp.Fmt.maximum, cmp_eq_none_iff.2 h]

end

theorem sqrt_nan {f : Fp.Fmt} {a : Nat} (h : f.isNan a = true) : f.sqrt a = f.nanBits := by
  rw [Fp.Fmt.sqrt, isNan_iff.1 h]

/-! ## Two operands (R106, R111) -/

/-- The flags of FCMP in one form, a comparison with a NaN having no order. -/
theorem flagsFcmp_eq (p : Proc) (a b : Word) : p.flagsFcmp a b = p.flags (decide (Fp.f32.cmp a.toNat b.toNat = some 0))
    (match Fp.f32.cmp a.toNat b.toNat with | some c => decide (c < 0) | none => false) false
    (Fp.f32.isNan a.toNat || Fp.f32.isNan b.toNat) := by
  have hnan : (Fp.f32.isNan a.toNat || Fp.f32.isNan b.toNat) = decide (Fp.f32.cmp a.toNat b.toNat = none) := by
    rw [Bool.eq_iff_iff, Bool.or_eq_true, decide_eq_true_iff, cmp_eq_none_iff]
  rw [hnan, Proc.flagsFcmp]
  cases Fp.f32.cmp a.toNat b.toNat with
  | none => rfl
  | some c => simp only [Option.some.injEq, reduceCtorEq, decide_false]

theorem runFcmp_onlyProc {s : State} {t : Task} {x : Acc} {op : Operand} (h : Ready s t (2 + operandExtra op) (operandWords op)) :
    let a := (s.proc t).acc x
    let o := s.operand (s.proc t) x .value op
    OnlyProc s (s.runWord x op 2 fun p a b => p.flagsFcmp a b) t (2 + operandExtra op)
      ((s.ahead t (operandWords op)).flags (decide (Fp.f32.cmp a.toNat o.1.toNat = some 0))
        (match Fp.f32.cmp a.toNat o.1.toNat with | some c => decide (c < 0) | none => false) o.2
        (Fp.f32.isNan a.toNat || Fp.f32.isNan o.1.toNat)) := by
  have hrun := runWord_onlyProc (x := x) h fun p a b => p.flagsFcmp a b
  rw [flagsFcmp_eq, flags_orV] at hrun
  exact hrun

/-- Settles O17: of the six operations the division alone has a rule of its own for V; then FCMP, and a NaN operand in each. -/
theorem floatArithmetic : Obligations.FloatArithmetic := by
  refine ⟨fun s t x op => ⟨fun e he hready => ?_, fun hready => ⟨_, rfl, runFcmp_onlyProc hready⟩⟩,
    fun a b hnan => ⟨fun f hf => ?_, sqrt_nan, cmp_eq_none_iff.2 hnan⟩⟩
  · simp only [List.mem_cons, List.not_mem_nil, or_false] at he
    obtain rfl | rfl | rfl | rfl | rfl | rfl := he
    case inr.inr.inr.inl => exact ⟨_, rfl, runFlt_onlyProc hready Fp.f32.div _ (Bool.and_right_comm ..)⟩
    all_goals exact ⟨_, rfl, runFlt_onlyProc hready _ _ (Bool.and_true _).symm⟩
  · simp only [List.mem_cons, List.not_mem_nil, or_false] at hf
    obtain rfl | rfl | rfl | rfl | rfl | rfl := hf
    · exact add_nan hnan
    · exact sub_nan hnan
    · exact mul_nan hnan
    · exact div_nan hnan
    · exact minimum_nan hnan
    · exact maximum_nan hnan

/-! ## The sign bit (R111) -/

theorem xor_sign (a : Word) : a ^^^ 0x80000000#32 = BitVec.ofNat 32 (if a.getLsbD 31 then a.toNat - 2 ^ 31 else a.toNat + 2 ^ 31) := by
  have hbound := a.isLt
  have hxor : (a ^^^ 0x80000000#32).toNat = a.toNat ^^^ 2 ^ 31 := rfl
  have hlow : (a.toNat ^^^ 2 ^ 31) % 2 ^ 31 = a.toNat % 2 ^ 31 := by
    rw [Nat.xor_mod_two_pow, Nat.mod_self, Nat.xor_zero]
  have hhigh : (a.toNat ^^^ 2 ^ 31) / 2 ^ 31 = a.toNat / 2 ^ 31 ^^^ 1 := Nat.xor_div_two_pow
  have hsign : a.getLsbD 31 = decide (a.toNat / 2 ^ 31 % 2 = 1) := Nat.testBit_eq_decide_div_mod_eq
  apply BitVec.eq_of_toNat_eq
  rw [hxor, hsign, BitVec.toNat_ofNat]
  generalize a.toNat ^^^ 2 ^ 31 = m at hlow hhigh
  obtain hbit | hbit : a.toNat / 2 ^ 31 = 0 ∨ a.toNat / 2 ^ 31 = 1 := by omega
  · rw [hbit, show 0 ^^^ 1 = 1 from rfl] at hhigh
    rw [hbit, if_neg (by decide)]
    omega
  · rw [hbit, show 1 ^^^ 1 = 0 from rfl] at hhigh
    rw [hbit, if_pos (by decide)]
    omega

theorem and_magnitude (a : Word) : a &&& 0x7FFFFFFF#32 = BitVec.ofNat 32 (a.toNat % 2 ^ 31) := by
  have hand : (a &&& 0x7FFFFFFF#32).toNat = a.toNat % 2 ^ 31 := Nat.and_two_pow_sub_one_eq_mod a.toNat 31
  rw [← hand, BitVec.ofNat_toNat, BitVec.setWidth_eq]

section
variable {s : State} {t : Task} {x : Acc} {cost : Nat} {f : Word → Word} {r : Word} (hr : f ((s.proc t).acc x) = r)
include hr

theorem opFlt1_onlyProc (h : Ready s t cost) : OnlyProc s (s.opFlt1 x cost f) t cost
    (((s.ahead t 1).setAcc x r).flags (Fp.f32.isZero r.toNat) (r.getLsbD 31 && !Fp.f32.isNan r.toNat)
      (Fp.f32.isFinite ((s.proc t).acc x).toNat && Fp.f32.isInf r.toNat) (Fp.f32.isNan r.toNat)) :=
  runFlt1_onlyProc h f finite32 hr

theorem opItof_onlyProc (h : Ready s t 2) : OnlyProc s (s.opItof x f) t 2
    (((s.ahead t 1).setAcc x r).flags (Fp.f32.isZero r.toNat) (r.getLsbD 31 && !Fp.f32.isNan r.toNat) (Fp.f32.isInf r.toNat)
      (Fp.f32.isNan r.toNat)) :=
  runFlt1_onlyProc h f (fun _ => true) hr

end

/-- Settles O18: the result of each instruction, with FLT flags. -/
theorem floatSingle : Obligations.FloatSingle := by
  intro s t x a e he hready
  simp only [List.mem_cons, List.not_mem_nil, or_false] at he
  obtain rfl | rfl | rfl | rfl | rfl := he
  · exact ⟨_, rfl, opFlt1_onlyProc (xor_sign a) hready⟩
  · exact ⟨_, rfl, opFlt1_onlyProc (and_magnitude a) hready⟩
  · exact ⟨_, rfl, opFlt1_onlyProc rfl hready⟩
  · exact ⟨_, rfl, opItof_onlyProc rfl hready⟩
  · exact ⟨_, rfl, opItof_onlyProc rfl hready⟩

/-! ## Conversion to an integer (R112) -/

/-- Saturation as a clamp: the word, V, and U of a number. -/
theorem saturate_eq {lo hi : Int} (hle : lo ≤ hi) (z : Int) :
    (if z < lo then (BitVec.ofInt 32 lo, true, false) else if hi < z then (BitVec.ofInt 32 hi, true, false) else (BitVec.ofInt 32 z, false, false))
      = (BitVec.ofInt 32 (max lo (min hi z)), decide (z < lo ∨ hi < z), false) := by
  split
  · next hlow => rw [min_eq_right (by omega), max_eq_left (by omega), decide_eq_true (.inl hlow)]
  · split
    · next hhigh => rw [min_eq_left (by omega), max_eq_right hle, decide_eq_true (.inr hhigh)]
    · rw [min_eq_right (by omega), max_eq_right (by omega), decide_eq_false (by omega)]

section
variable {a : Word} {z : Int}

theorem ftoi_nan (h : Fp.f32.toInt a.toNat (2 ^ 40) = none) : ftoi a = (0, true, true) := by
  rw [ftoi, h]

theorem ftou_nan (h : Fp.f32.toInt a.toNat (2 ^ 40) = none) : ftou a = (0, true, true) := by
  rw [ftou, h]

theorem ftoi_number (h : Fp.f32.toInt a.toNat (2 ^ 40) = some z) : ftoi a =
    (BitVec.ofInt 32 (max (-2147483648) (min 2147483647 z)), decide (z < -2147483648 ∨ 2147483647 < z), false) := by
  rw [ftoi, h]
  exact saturate_eq (by decide) z

theorem ftou_number (h : Fp.f32.toInt a.toNat (2 ^ 40) = some z) : ftou a =
    (BitVec.ofInt 32 (max 0 (min 4294967295 z)), decide (z < 0 ∨ 4294967295 < z), false) := by
  rw [ftou, h]
  exact saturate_eq (by decide) z

end

/-- Settles O19: for each of the two conversions a NaN, and a number by the clamp that `saturate_eq` shows. -/
theorem floatToInteger : Obligations.FloatToInteger := by
  intro s t x hready e he
  simp only [List.mem_cons, List.not_mem_nil, or_false] at he
  obtain rfl | rfl := he
  · refine ⟨_, rfl, ?_⟩
    cases hz : Fp.f32.toInt ((s.proc t).acc x).toNat (2 ^ 40) with
    | none => exact opFtoi_onlyProc hready (ftoi_nan hz)
    | some z => exact opFtoi_onlyProc hready (ftoi_number hz)
  · refine ⟨_, rfl, ?_⟩
    cases hz : Fp.f32.toInt ((s.proc t).acc x).toNat (2 ^ 40) with
    | none => exact opFtoi_onlyProc hready (ftou_nan hz)
    | some z => exact opFtoi_onlyProc hready (ftou_number hz)

end Sys2Proof.Proofs
end

section
/-! Timers and counters of the pump (R120 to R126); the statements on them (O20, O21). -/

namespace Sys2Proof.Proofs
open Sys2Proof Sys2Proof.Machine Sys2Proof.Laws

section
variable {s : State} {t : Task}

/-! ## Timers (R120 to R124) -/

/-- ET after the accrual of R120, for a kind that accrues in the state `a`. -/
def accruedIn (a : Nat) (m : Timer) (n tp pt : Nat) : Nat :=
  match m.last with
  | none => m.et
  | some l => if m.state = a then min (m.et + (n + 2 ^ 48 - l) % 2 ^ 48 * tp) (pt * 100) else m.et

theorem accrue_eq {k : TimerKind} {a : Nat} (h : ∀ st, k.accrues st = decide (st = a)) (m : Timer) (n tp pt : Nat) :
    accrue k m n tp pt = accruedIn a m n tp pt := by
  unfold accrue accruedIn
  cases m.last with
  | none => rfl
  | some l => simp only [h, decide_eq_true_eq]

theorem opTimer_ready (h : Ready s t 6) (k : TimerKind) (i : BitVec 16) {m : Timer}
    (hm : scanTimer k (s.timer i.toNat) s.n (s.get Reg.PUMP_CYCLE_CTL_T_P) (s.proc t).a.toNat (s.proc t).ba = m) :
    s.opTimer k i = ((s.charge 6).setTimer i.toNat m).setProc t { s.ahead t 1 with ba := k.q m.state, b := BitVec.ofNat 32 (m.et / 100) } := by
  subst hm
  exact runInstr_cont h rfl

/-- A timer instruction gives its instance the row of its table at the ET that has accrued, BA its Q and B its ET in whole milliseconds. -/
theorem opTimer_onlyInst (h : Ready s t 6) {k : TimerKind} (i : BitVec 16) {a et : Nat} {r : Nat × Nat}
    (ha : ∀ st, k.accrues st = decide (st = a))
    (het : accruedIn a (s.timer i.toNat) s.n (s.get Reg.PUMP_CYCLE_CTL_T_P) (s.proc t).a.toNat = et)
    (hr : timerRow k (s.timer i.toNat).state et (s.proc t).ba (s.proc t).a.toNat = r) :
    (∃ inst, OnlyInst s (s.opTimer k i) t 6 { s.ahead t 1 with ba := k.q r.1, b := BitVec.ofNat 32 (r.2 / 100) } inst
        ∧ { inst with timers := s.pump.inst.timers } = s.pump.inst)
      ∧ (s.opTimer k i).timer i.toNat = { state := r.1, inp := (s.proc t).ba, et := r.2, last := some (s.n % 2 ^ 48) }
      ∧ ∀ j, j ≠ i.toNat → (s.opTimer k i).timer j = s.timer j := by
  rw [← accrue_eq ha] at het
  subst het hr
  rw [opTimer_ready h k i rfl]
  exact onlyInst_timer ..

end

/-- Settles O20: the rows of the three tables are those of `timerRow`, at the ET that R120 accrues in the state that the kind accrues in. -/
theorem timers : Obligations.Timers := by
  refine ⟨?ton, ?tof, ?tp⟩
  all_goals intro s t i hready m p pt et r
  case' ton => refine ⟨_, rfl, opTimer_onlyInst hready i (a := 1) (et := et) (fun _ => rfl) rfl ?_⟩
  case' tof => refine ⟨_, rfl, opTimer_onlyInst hready i (a := 2) (et := et) (fun _ => rfl) rfl ?_⟩
  case' tp => refine ⟨_, rfl, opTimer_onlyInst hready i (a := 1) (et := et) (fun _ => rfl) rfl ?_⟩
  all_goals
    subst r
    generalize et = e
    match m.state, p.ba with
    | 0, false | 0, true | 1, false | 1, true | _ + 2, false | _ + 2, true => rfl

/-! ## Counters (R125, R126) -/

theorem cvUp_eq (cv : Word) : cvUp cv = BitVec.ofInt 32 (min 2147483647 (cv.toInt + 1)) := by
  have hhigh := BitVec.toInt_lt (x := cv)
  have hgreatest : cv = 0x7FFFFFFF#32 ↔ cv.toInt = 2147483647 := by
    rw [← BitVec.toInt_inj]
    rfl
  unfold cvUp
  split
  · next h =>
    subst h
    rfl
  · next h =>
    rw [hgreatest] at h
    rw [min_eq_right (by omega), BitVec.ofInt_add, BitVec.ofInt_toInt]
    rfl

theorem cvDown_eq (cv : Word) : cvDown cv = BitVec.ofInt 32 (max (-2147483648) (cv.toInt - 1)) := by
  have hlow := BitVec.le_toInt cv
  have hleast := eq_least_iff cv
  unfold cvDown
  split
  · next h =>
    subst h
    rfl
  · next h =>
    rw [hleast] at h
    rw [max_eq_right (by omega), Int.sub_eq_add_neg, BitVec.ofInt_add, BitVec.ofInt_toInt, BitVec.sub_eq_add_neg]
    rfl

/-- CV after a scan on which the inputs named rise: by one, saturating, and unchanged where both rise (R125). -/
def countedCv (cv : Word) (up down : Bool) : Word :=
  if up = down then cv
  else if up then BitVec.ofInt 32 (min 2147483647 (cv.toInt + 1))
  else BitVec.ofInt 32 (max (-2147483648) (cv.toInt - 1))

theorem countedCv_both (cv : Word) (up down : Bool) :
    (if up && down then cv else if up then cvUp cv else if down then cvDown cv else cv) = countedCv cv up down := by
  cases up <;> cases down <;> simp [countedCv, cvUp_eq, cvDown_eq]

theorem countedCv_up (cv : Word) (up : Bool) : (if up then cvUp cv else cv) = countedCv cv up false := by
  cases up <;> simp [countedCv, cvUp_eq]

theorem countedCv_down (cv : Word) (down : Bool) : (if down then cvDown cv else cv) = countedCv cv false down := by
  cases down <;> simp [countedCv, cvDown_eq]

section
variable {s : State} {t : Task}

/-- An instruction of fewer words lies within its block where a longer one does. -/
theorem ready_fewer {c v w : Nat} (h : Ready s t c w) (hle : v ≤ w) : Ready s t c v := by
  obtain ⟨hrun, hfits, hblock⟩ := h
  refine ⟨hrun, hfits, ?_⟩
  by_contra hout
  rw [inBlock_longer (Bool.not_eq_true _ ▸ hout) hle] at hblock
  cases hblock

/-- From s to u task t completed an instruction that left its processor state at p and gave the counter instance i the record c. -/
def OnlyCounter (s u : State) (t : Task) (cost : Nat) (p : Proc) (i : Nat) (c : Counter) : Prop :=
  (∃ inst, OnlyInst s u t cost p inst ∧ { inst with counters := s.pump.inst.counters } = s.pump.inst)
    ∧ u.counter i = c ∧ ∀ j, j ≠ i → u.counter j = s.counter j

theorem runInstr_onlyCounter {cost words : Nat} {f : Proc → State → Flow} {p : Proc} {i : Nat} {c : Counter} (h : Ready s t cost words)
    (hflow : f (s.ahead t words) (s.charge cost) = .cont p ((s.charge cost).setCounter i c)) :
    OnlyCounter s (s.runInstr words cost f) t cost p i c := by
  rw [runInstr_cont h hflow]
  exact onlyInst_counter ..

theorem opCtu_onlyCounter (h : Ready s t 5) (i : BitVec 16) {c : Counter} {cv : Word} (hc : s.counter i.toNat = c)
    (hcv : countedCv c.cv ((s.proc t).ba && !c.cu) false = cv) :
    OnlyCounter s (s.opCtu i) t 5 { s.ahead t 1 with ba := decide ((s.proc t).a.toInt ≤ cv.toInt), b := cv } i.toNat
      { c with cv := cv, cu := (s.proc t).ba } := by
  rw [← countedCv_up] at hcv
  subst hc hcv
  exact runInstr_onlyCounter h rfl

theorem opCtd_onlyCounter (h : Ready s t 5) (i : BitVec 16) {c : Counter} {cv : Word} (hc : s.counter i.toNat = c)
    (hcv : countedCv c.cv false ((s.proc t).ba && !c.cd) = cv) :
    OnlyCounter s (s.opCtd i) t 5 { s.ahead t 1 with ba := decide (cv.toInt ≤ 0), b := cv } i.toNat
      { c with cv := cv, cd := (s.proc t).ba } := by
  rw [← countedCv_down] at hcv
  subst hc hcv
  exact runInstr_onlyCounter h rfl

theorem opCtud_onlyCounter (h : Ready s t 6 2) (i : BitVec 16) (pt : PointAddr) (bit : BitVec 5) {c : Counter} {cd : Bool} {cv : Word}
    (hc : s.counter i.toNat = c) (hcd : (s.point pt.toNat).value.getLsbD bit.toNat = cd)
    (hcv : countedCv c.cv ((s.proc t).ba && !c.cu) (cd && !c.cd) = cv) :
    OnlyCounter s (s.opCtud i pt bit) t 6 { s.ahead t 2 with ba := decide ((s.proc t).a.toInt ≤ cv.toInt), b := cv } i.toNat
      { cv := cv, cu := (s.proc t).ba, cd := cd } := by
  rw [← countedCv_both] at hcv
  subst hc hcd hcv
  exact runInstr_onlyCounter h rfl

/-- CRST and CLD write CV where BA is 1. -/
theorem opSetCv_onlyCounter (h : Ready s t 2) (i : BitVec 16) (v : Word → Word) {c : Counter} (hc : s.counter i.toNat = c) :
    OnlyCounter s (s.opSetCv i v) t 2 (s.ahead t 1) i.toNat (if (s.proc t).ba then { c with cv := v (s.proc t).a } else c) := by
  subst hc
  cases hba : (s.proc t).ba with
  | true => exact runInstr_onlyCounter h (congrArg _ (if_pos hba))
  | false =>
    have hidle : s.opSetCv i v = (s.charge 2).setProc t (s.ahead t 1) :=
      runInstr_cont h (congrArg _ (if_neg (show ¬ (s.ahead t 1).ba = true from Bool.eq_false_iff.1 hba)))
    rw [hidle]
    have hcounter (j : Nat) : ((s.charge 2).setProc t (s.ahead t 1)).counter j = s.counter j := by cases t <;> rfl
    refine ⟨⟨s.pump.inst, ?_, rfl⟩, hcounter _, fun j _ => hcounter j⟩
    obtain ⟨hpump, hnow, hrest⟩ := onlyProc_charge s t 2 (s.ahead t 1)
    refine ⟨hpump.trans ?_, hnow, ?_⟩
    · cases t <;> rfl
    · cases t <;> rfl

end

/-- Settles O21: the counted value of each instruction, and the two that write CV. -/
theorem counters : Obligations.Counters := by
  intro s t i pt bit hready p c cd moved up e he
  have hready5 : Ready s t 5 := Ready_mono (ready_fewer hready (by decide)) (by decide)
  have hready2 : Ready s t 2 := Ready_mono hready5 (by decide)
  simp only [List.mem_cons, List.not_mem_nil, or_false] at he
  obtain rfl | rfl | rfl | rfl | rfl := he
  · exact ⟨_, rfl, opCtu_onlyCounter hready5 i rfl rfl⟩
  · exact ⟨_, rfl, opCtd_onlyCounter hready5 i rfl rfl⟩
  · exact ⟨_, rfl, opCtud_onlyCounter hready i pt bit rfl rfl rfl⟩
  · exact ⟨_, rfl, opSetCv_onlyCounter hready2 i _ rfl⟩
  · exact ⟨_, rfl, opSetCv_onlyCounter hready2 i _ rfl⟩

end Sys2Proof.Proofs
end

section
/-! The commands of the free plate slot and its load window (R135 to R138, R141, R142, R144, R145); the statement on them (O42). -/

namespace Sys2Proof.Proofs
open Sys2Proof Sys2Proof.Machine Sys2Proof.Laws

/-! ## The two slots -/

section
variable (s : State)

/-- The free slot is slot 0 exactly where the running one is not. -/
theorem freeSlot_eq_zero_iff : s.freeSlot = 0 ↔ s.runSlot ≠ 0 := by
  unfold State.freeSlot
  omega

@[simp] theorem slotPlate_setSlot_same (k : Nat) (p : Option PlateDesc) : (s.setSlot k p).slotPlate k = p := by
  unfold State.setSlot State.slotPlate
  split <;> rfl

theorem slotPlate_setSlot_other {j k : Nat} (h : k = 0 ↔ j ≠ 0) (p : Option PlateDesc) : (s.setSlot k p).slotPlate j = s.slotPlate j := by
  unfold State.setSlot State.slotPlate
  by_cases hj : j = 0
  · rw [if_pos hj, if_pos hj, if_neg (by omega)]
  · rw [if_neg hj, if_neg hj, if_pos (by omega)]

end

/-- Writing a slot leaves the rest of the plate block alone. -/
theorem setSlot_plate_rest (s : State) (k : Nat) (p : Option PlateDesc) :
    { (s.setSlot k p).plate with slot0 := s.plate.slot0, slot1 := s.plate.slot1 } = s.plate := by
  unfold State.setSlot
  by_cases hk : k = 0
  · simp only [if_pos hk]
  · simp only [if_neg hk]

/-! ## An emptied slot -/

/-- v with registers and plate block put back to what they are in s. -/
def noPlate (s v : State) : State := { v with regs := s.regs, plate := s.plate }

theorem noPlate_set (s v : State) (f : Fld) (x i : Nat) : noPlate s (v.set f x i) = noPlate s v := rfl
theorem noPlate_setFlag (s v : State) (f : Fld) (x : Bool) (i : Nat) : noPlate s (v.setFlag f x i) = noPlate s v := rfl
theorem noPlate_plate (s v : State) (q : PlateState) : noPlate s { v with plate := q } = noPlate s v := rfl
theorem noPlate_setSlot (s v : State) (k : Nat) (d : Option PlateDesc) : noPlate s (v.setSlot k d) = noPlate s v := rfl

theorem noPlate_emptySlot (s v : State) (st : Nat) : noPlate s (v.emptySlot st) = noPlate s v := by
  unfold State.emptySlot
  dsimp only
  rw [noPlate_set, noPlate_setFlag, noPlate_set, noPlate_plate, noPlate_setSlot]

/-- The fields of PLATE_STAT and PLATE_NEW_ID that emptying the free slot writes. -/
def emptyKeys : List Nat := [Reg.PLATE_STAT_SLOT_STATE.key 0, Reg.PLATE_STAT_MAP_OK.key 0, Reg.PLATE_NEW_ID_ID.key 0]

section
variable (s : State) (st : Nat)

theorem emptySlot_regsBut : RegsBut emptyKeys s (s.emptySlot st) := by
  have hplate (q : PlateState) : RegsBut emptyKeys s { s with plate := q } := regsBut_of_regs rfl
  exact regsBut_set_after (regsBut_set_after (regsBut_set_after (hplate _) _ _ 0 (by simp [emptyKeys])) _ _ 0 (by simp [emptyKeys]))
    _ _ 0 (by simp [emptyKeys])

theorem emptySlot_runSlot : (s.emptySlot st).runSlot = s.runSlot := emptySlot_regsBut s st _ 0 (by decide)

theorem emptySlot_freeSlot : (s.emptySlot st).freeSlot = s.freeSlot := congrArg (1 - ·) (emptySlot_runSlot s st)

theorem emptySlot_slotState (h : st < 8) : (s.emptySlot st).slotState = st := by
  unfold State.emptySlot State.slotState
  rw [get_set_other _ _ _ _ _ _ (by decide), get_setFlag_other _ _ _ _ _ _ (by decide), get_set_same]
  exact Nat.mod_eq_of_lt h

theorem emptySlot_mapOk : (s.emptySlot st).flag Reg.PLATE_STAT_MAP_OK = false := by
  unfold State.emptySlot
  rw [flag_set_other _ _ _ _ _ _ (by decide), flag_setFlag_same _ _ _ _ (by decide)]

theorem emptySlot_plate : (s.emptySlot st).plate = { (s.setSlot s.freeSlot none).plate with loadWords := [] } := rfl

theorem emptySlot_slotPlate (k : Nat) : (s.emptySlot st).slotPlate k = (s.setSlot s.freeSlot none).slotPlate k := rfl

theorem emptySlot_free : (s.emptySlot st).slotPlate s.freeSlot = none := by
  rw [emptySlot_slotPlate, slotPlate_setSlot_same]

theorem emptySlot_run : (s.emptySlot st).slotPlate s.runSlot = s.slotPlate s.runSlot := by
  rw [emptySlot_slotPlate, slotPlate_setSlot_other _ (freeSlot_eq_zero_iff s)]

end

/-! ## What a command leaves (R135) -/

/-- The fields that a command of the free slot may write. -/
def plateKeys : List Nat :=
  [Reg.PLATE_STAT_RESULT.key 0, Reg.PLATE_STAT_SLOT_STATE.key 0, Reg.PLATE_STAT_MAP_OK.key 0, Reg.PLATE_NEW_ID_ID.key 0]

/-- From s, which an access has made t, to u a command of the free slot was done: it is in state st, with RESULT DONE; the running plate and
all but the plate block stay. -/
def PlateDone (s t : State) (st : Nat) (u : State) : Prop :=
  u.slotState = st ∧ u.get Reg.PLATE_STAT_RESULT = 0 ∧ RegsBut plateKeys s u ∧ noPlate s u = t
    ∧ u.slotPlate u.runSlot = s.slotPlate s.runSlot

/-- RESULT takes the status of a refused command, and nothing else changes. -/
def PlateRefused (s t : State) (st : Status) (u : State) : Prop :=
  u.get Reg.PLATE_STAT_RESULT = st.code ∧ RegsBut [Reg.PLATE_STAT_RESULT.key 0] s u ∧ { u with regs := s.regs } = t

/-- A command's outcome in RESULT. -/
def resulted (u : State) (st : Status) : State := u.set Reg.PLATE_STAT_RESULT st.code

@[simp] theorem resulted_freeSlot (u : State) (st : Status) : (resulted u st).freeSlot = u.freeSlot :=
  congrArg (1 - ·) (get_set_other _ _ _ _ _ _ (by decide))

/-- The slot that a command emptied. -/
theorem resulted_emptySlot_free (s : State) (n : Nat) (st : Status) :
    (resulted (s.emptySlot n) st).slotPlate (resulted (s.emptySlot n) st).freeSlot = none := by
  rw [resulted_freeSlot, emptySlot_freeSlot]
  exact emptySlot_free s n

/-- What it leaves of the plate block but the slots and the load window. -/
theorem emptySlot_plate_rest (s : State) (n : Nat) :
    { (s.emptySlot n).plate with slot0 := s.plate.slot0, slot1 := s.plate.slot1, loadWords := s.plate.loadWords } = s.plate :=
  congrArg (fun q : PlateState => { q with loadWords := s.plate.loadWords }) (setSlot_plate_rest s s.freeSlot none)

section
variable {s t : State} (ht : ∃ h, t = { s with host := h })
include ht

theorem plateRefused_of (st : Status) : PlateRefused s t st (resulted t st) := by
  obtain ⟨h, rfl⟩ := ht
  exact ⟨(get_set_same _ _ _ _).trans (Nat.mod_eq_of_lt (code_lt st)), regsBut_set_after (regsBut_of_regs rfl) _ _ 0 (by simp), rfl⟩

omit ht in
theorem plateDone_of {v : State} {st : Nat} (hstate : v.slotState = st) (hregs : RegsBut plateKeys s v)
    (hrest : noPlate s v = t) (hrun : v.slotPlate v.runSlot = s.slotPlate s.runSlot) :
    PlateDone s t st (resulted v .done) := by
  refine ⟨?_, get_set_same _ _ _ _, regsBut_set_after hregs _ _ 0 (by simp [plateKeys]), hrest, ?_⟩
  · rw [State.slotState, resulted, get_set_other _ _ _ _ _ _ (by decide)]
    exact hstate
  · rw [State.runSlot, resulted, get_set_other _ _ _ _ _ _ (by decide)]
    exact hrun

/-- The slot emptied, what else the plate block holds having become q. -/
theorem plateDone_emptied {st : Nat} (hst : st < 8) {q : PlateState} (hslots : q.slot0 = s.plate.slot0 ∧ q.slot1 = s.plate.slot1) :
    PlateDone s t st (resulted (({ t with plate := q }).emptySlot st) .done) := by
  obtain ⟨h, rfl⟩ := ht
  refine plateDone_of (emptySlot_slotState _ _ hst) ?_ (noPlate_emptySlot ..) ?_
  · refine regsBut_trans (regsBut_of_regs rfl) fun f i hk => emptySlot_regsBut _ _ f i fun hmem => hk ?_
    exact List.mem_cons_of_mem _ hmem
  · rw [emptySlot_runSlot, emptySlot_run, State.slotPlate, hslots.1, hslots.2]
    rfl

/-- The slot in a new state, what else the plate block holds having become q. -/
theorem plateDone_moved {st : Nat} (hst : st < 8) {q : PlateState} (hslots : q.slot0 = s.plate.slot0 ∧ q.slot1 = s.plate.slot1) :
    PlateDone s t st (resulted (({ t with plate := q }).set Reg.PLATE_STAT_SLOT_STATE st) .done) := by
  obtain ⟨h, rfl⟩ := ht
  refine plateDone_of ((get_set_same _ _ _ _).trans (Nat.mod_eq_of_lt hst)) ?_ rfl ?_
  · exact regsBut_set_after (regsBut_of_regs rfl) _ _ 0 (by simp [plateKeys])
  · rw [State.runSlot, get_set_other _ _ _ _ _ _ (by decide), State.slotPlate, set_plate, hslots.1, hslots.2]
    rfl

/-- A command that leaves the slot's state as it is. -/
theorem plateDone_kept {q : PlateState} (hslots : q.slot0 = s.plate.slot0 ∧ q.slot1 = s.plate.slot1) :
    PlateDone s t s.slotState (resulted { t with plate := q } .done) := by
  obtain ⟨h, rfl⟩ := ht
  refine plateDone_of rfl (regsBut_of_regs rfl) rfl ?_
  rw [State.slotPlate, hslots.1, hslots.2]
  rfl

end

/-! ## The commands one by one -/

/-- Over path p the row c is a command of the free slot, with the operation r and its outcome in RESULT (R135). -/
def PlateCommand (p : Path) (c : Instr) (r : State → Status × State) : Prop :=
  ∃ op, (∀ s, exec c s = .next (s.hostCmd p 0x040030 0 op)) ∧ CommandWord 0x040030 op
    ∧ ∀ t : State, t.command p 0x040030 0 op = ((r t).1, resulted (r t).2 (r t).1)

section
variable (p : Path)

theorem plateCommand_load : PlateCommand p (.plateLoad p) State.plateLoad := ⟨1, fun _ => rfl, ⟨_, rfl, fun _ => rfl⟩, fun _ => rfl⟩
theorem plateCommand_verify : PlateCommand p (.plateVerify p) State.plateVerify := ⟨2, fun _ => rfl, ⟨_, rfl, fun _ => rfl⟩, fun _ => rfl⟩
theorem plateCommand_arm : PlateCommand p (.plateArm p) State.plateArm := ⟨3, fun _ => rfl, ⟨_, rfl, fun _ => rfl⟩, fun _ => rfl⟩
theorem plateCommand_revert : PlateCommand p (.plateRevert p) State.plateRevert := ⟨4, fun _ => rfl, ⟨_, rfl, fun _ => rfl⟩, fun _ => rfl⟩
theorem plateCommand_commit : PlateCommand p (.plateCommit p) State.plateCommit := ⟨5, fun _ => rfl, ⟨_, rfl, fun _ => rfl⟩, fun _ => rfl⟩
theorem plateCommand_abort : PlateCommand p (.plateAbort p) State.plateAbort := ⟨6, fun _ => rfl, ⟨_, rfl, fun _ => rfl⟩, fun _ => rfl⟩
theorem plateCommand_install : PlateCommand p (.plateInstall p) State.plateInstall := ⟨7, fun _ => rfl, ⟨_, rfl, fun _ => rfl⟩, fun _ => rfl⟩

end

theorem answers_of_plateCommand {p : Path} {c : Instr} {r : State → Status × State} {s u : State} {st : Status} {P : State → Prop}
    (hcommand : PlateCommand p c r) (htakes : s.takes p 4 = true) (hr : r (s.touch p) = (st, u)) (hP : P (resulted u st)) :
    Answers c s p st P := by
  obtain ⟨op, hexec, hword, hcmd⟩ := hcommand
  exact answers_of_command (hexec s) hword htakes (by rw [hcmd, hr]) hP

section
variable (s : State) (p : Path)

@[simp] theorem touch_plate : (s.touch p).plate = s.plate := by obtain ⟨h, e⟩ := touch_host s p; rw [e]
@[simp] theorem touch_slotState : (s.touch p).slotState = s.slotState := touch_get ..
@[simp] theorem touch_freeSlot : (s.touch p).freeSlot = s.freeSlot := congrArg (1 - ·) (touch_get ..)
@[simp] theorem touch_slotPlate (k : Nat) : (s.touch p).slotPlate k = s.slotPlate k := by simp [State.slotPlate]
@[simp] theorem touch_role : (s.touch p).role = s.role := touch_get ..
@[simp] theorem touch_grouped : (s.touch p).grouped = s.grouped := by simp [State.grouped]
@[simp] theorem touch_applyCycle : (s.touch p).applyCycle = s.applyCycle := by obtain ⟨h, e⟩ := touch_host s p; rw [e]; rfl
@[simp] theorem touch_meetsBudget (d : PlateDesc) : (s.touch p).meetsBudget d = s.meetsBudget d := by obtain ⟨h, e⟩ := touch_host s p; rw [e]; rfl
@[simp] theorem touch_meetsSwap (d : PlateDesc) : (s.touch p).meetsSwap d = s.meetsSwap d := by obtain ⟨h, e⟩ := touch_host s p; rw [e]; rfl

end

/-- What ABORT makes of the plate block before it empties the slot (R135, R145). -/
def abortedPlate (q : PlateState) : PlateState := { q.disarm with cancelNext := q.cancelNext || q.announced }

/-- The state of a provisional swap that nothing has asked to end (R141, R142). -/
def Settled (s : State) : Prop := s.slotState = 5 ∧ s.plate.revertReq = none ∧ s.plate.revertAt = none

/-- The boundary at which a REVERT given now applies lies inside the revert window (R141). -/
def InRevertWindow (s : State) : Prop :=
  s.plate.swappedAt ≤ s.applyCycle ∧ s.applyCycle < s.plate.swappedAt + s.get Reg.PLATE_CFG_REVERT_WIN

section
variable {t : State}

theorem plateArm_standby (h : t.grouped = true ∧ t.role = 1) : t.plateArm = (.role, t) := if_pos h

theorem plateArm_done {d : PlateDesc} (h : ¬ (t.grouped = true ∧ t.role = 1)) (hd : t.slotPlate t.freeSlot = some d)
    (hmeets : t.slotState = 3 ∧ t.flag Reg.PLATE_STAT_MAP_OK = true ∧ t.meetsBudget d = true ∧ t.meetsSwap d = true) :
    t.plateArm = (.done, ({ t with plate := { t.plate with armReq := some t.boundarySkip } }).set Reg.PLATE_STAT_SLOT_STATE 4) := by
  unfold State.plateArm
  rw [if_neg h, hd]
  exact if_pos hmeets

theorem plateArm_state (h : ¬ (t.grouped = true ∧ t.role = 1)) (hstate : t.slotState ≠ 3) : t.plateArm = (.state, t) := by
  unfold State.plateArm
  rw [if_neg h]
  split
  · exact if_neg fun hmeets => hstate hmeets.1
  · rfl

theorem plateRevert_standby (h : t.grouped = true ∧ t.role = 1) : t.plateRevert = (.role, t) := if_pos h

theorem revert_iff : (t.slotState = 5 ∧ t.plate.revertReq.isNone ∧ t.plate.revertAt.isNone ∧ t.plate.swappedAt ≤ t.applyCycle
      ∧ t.applyCycle < t.plate.swappedAt + t.get Reg.PLATE_CFG_REVERT_WIN) ↔ Settled t ∧ InRevertWindow t := by
  simp only [Settled, InRevertWindow, Option.isNone_iff_eq_none, and_assoc]

theorem plateRevert_done (h : ¬ (t.grouped = true ∧ t.role = 1)) (hwin : Settled t ∧ InRevertWindow t) :
    t.plateRevert = (.done, { t with plate := { t.plate with revertReq := some t.boundarySkip } }) :=
  (if_neg h).trans (if_pos (revert_iff.2 hwin))

theorem plateRevert_state (h : ¬ (t.grouped = true ∧ t.role = 1)) (hwin : ¬ (Settled t ∧ InRevertWindow t)) :
    t.plateRevert = (.state, t) :=
  (if_neg h).trans (if_neg (mt revert_iff.1 hwin))

theorem plateCommit_done (h : Settled t) (hwin : t.plate.swappedAt + t.get Reg.PLATE_CFG_REVERT_WIN ≤ t.applyCycle) :
    t.plateCommit = (.done, ({ t with plate := { t.plate with op := .commit } }).set Reg.PLATE_STAT_SLOT_STATE 6) := by
  obtain ⟨hstate, hreq, hat⟩ := h
  exact if_pos ⟨hstate, Option.isNone_iff_eq_none.2 hreq, Option.isNone_iff_eq_none.2 hat, hwin⟩

theorem plateInstall_done {d : PlateDesc} (hd : t.slotPlate t.freeSlot = some d)
    (hmeets : t.slotState = 3 ∧ t.mode = .park ∧ t.meetsBudget d = true) :
    t.plateInstall = (.done, ({ t with plate := { t.plate with op := .install } }).set Reg.PLATE_STAT_SLOT_STATE 6) := by
  unfold State.plateInstall
  rw [hd]
  exact if_pos hmeets

theorem plateInstall_state (hmode : t.mode ≠ .park) : t.plateInstall = (.state, t) := by
  unfold State.plateInstall
  split
  · exact if_neg fun hmeets => hmode hmeets.2.1
  · rfl

end

/-! ## The load window (R136) -/

/-- A word of the plate load window over a path that takes it answers what the window answers. -/
theorem plateWindow_route {s : State} {p : Path} {w : Nat} (v : Word) (hw : w < 2 ^ 22) (htakes : s.takes p 4 = true) :
    exec (.plateLoadWindowWrite p (0x41000000 + 4 * w) v) s
      = .next (((s.touch p).plateWindow w v).2.answer p ((s.touch p).plateWindow w v).1) := by
  obtain ⟨hup, hboot, hwrites, -, -⟩ := takes_iff.1 htakes
  obtain ⟨h, e⟩ := touch_host s p
  have htboot : (s.touch p).booted = true := by rw [e]; exact hboot
  have htwrites : (s.touch p).pathWrites p = true := by rw [e]; exact hwrites
  have hword : (0x41000000 + 4 * w) % 16777216 / 4 = w := by omega
  have halign : (0x41000000 + 4 * w) % 4 = 0 := by omega
  have hwindow : (s.touch p).writeWindow (0x41000000 + 4 * w) v = (s.touch p).plateWindow w v := by
    unfold State.writeWindow
    rw [hword, if_pos (by omega)]
  have hwrite : (s.touch p).writeWord p (0x41000000 + 4 * w) 0 v = (s.touch p).plateWindow w v := by
    unfold State.writeWord
    rw [htboot, htwrites, ← hwindow]
    simp only [Bool.not_true, Bool.false_and, Bool.false_eq_true, if_false]
    rw [if_neg (by omega), if_pos (by omega)]
  refine congrArg Host.Outcome.next ?_
  unfold State.hostWindow State.hostWord
  simp only [halign, hwrite, hup, if_true]
  rw [if_pos (by omega)]

/-- Settles O42: each command is the operation of its lemma on the touched state; what it leaves is `PlateDone` or `PlateRefused`. -/
theorem plateCommands : Obligations.PlateCommands := by
  intro s p w v htakes t keys standby ok no inWin settled aborts
  have ht : ∃ h, t = { s with host := h } := touch_host s p
  have hplate : t.plate = s.plate := touch_plate s p
  have hfree : t.slotPlate t.freeSlot = s.slotPlate s.freeSlot := by simp [t]
  have hstandby : (t.grouped = true ∧ t.role = 1) ↔ standby := by simp [t, standby]
  have hsettled : Settled t ↔ settled := by simp [t, Settled, settled]
  have hwindow : InRevertWindow t ↔ inWin := by simp [t, InRevertWindow, inWin]
  have haborts : (t.slotState = 1 ∨ t.slotState = 3 ∨ t.slotState = 4 ∧ t.plate.confirmed = false) ↔ aborts := by simp [t, aborts]
  have hstate : t.slotState = s.slotState := touch_slotState s p
  have refused {c : Instr} {r : State → Status × State} {st : Status} (hcommand : PlateCommand p c r) (hr : r t = (st, t)) :
      Answers c s p st (no st) := answers_of_plateCommand hcommand htakes hr (plateRefused_of ht st)
  refine ⟨fun h => ?_, fun h => ?_, fun h => ?_, fun h => ?_, fun h => ⟨?_, ?_⟩, fun d h hd h3 hmap hbudget hswap => ?_, fun h h3 => ?_,
    fun h hwin => ?_, fun h hwin => ?_, fun h hwin => ?_, fun h => ?_, fun h => ?_, fun h => ?_, fun d hd h3 hmode hbudget => ?_,
    fun h => ?_, fun hw h => ?_, fun hw h => ?_⟩
  · refine answers_of_plateCommand (plateCommand_load p) htakes (if_pos (hstate.symm ▸ h)) ⟨?_, ?_, rfl, ?_⟩
    · exact plateDone_emptied ht (by decide) (q := t.plate) (by simp [t])
    · exact resulted_emptySlot_free ..
    · exact (flag_set_other _ _ _ _ _ _ (by decide)).trans (emptySlot_mapOk ..)
  · exact refused (plateCommand_load p) (if_neg (hstate.symm ▸ h))
  -- VERIFY
  · refine answers_of_plateCommand (plateCommand_verify p) htakes (if_pos (hstate.trans h)) ⟨plateDone_moved ht (by decide) ?_, ?_⟩
    · simp
    · simp [resulted]
  · exact refused (plateCommand_verify p) (if_neg (hstate ▸ h))
  -- ARM and REVERT on a standby
  · exact refused (plateCommand_arm p) (plateArm_standby (hstandby.2 h))
  · exact refused (plateCommand_revert p) (plateRevert_standby (hstandby.2 h))
  -- ARM
  · refine answers_of_plateCommand (plateCommand_arm p) htakes (plateArm_done (d := d) (mt hstandby.1 h) (hfree.trans hd) ?_)
      ⟨plateDone_moved ht (by decide) ?_, ?_⟩
    · simp [h3, hmap, hbudget, hswap]
    · simp
    · simp [resulted]
  · exact refused (plateCommand_arm p) (plateArm_state (mt hstandby.1 h) (hstate ▸ h3))
  -- REVERT
  · refine answers_of_plateCommand (plateCommand_revert p) htakes (plateRevert_done (mt hstandby.1 h) ?_) ⟨?_, ?_⟩
    · rwa [hsettled, hwindow]
    · rw [← hwin.1.1]
      exact plateDone_kept ht (by simp)
    · simp [resulted]
  · exact refused (plateCommand_revert p) (plateRevert_state (mt hstandby.1 h) (by rwa [hsettled, hwindow]))
  -- COMMIT
  · refine answers_of_plateCommand (plateCommand_commit p) htakes (plateCommit_done (hsettled.2 h) ?_) ⟨plateDone_moved ht (by decide) ?_, ?_⟩
    · simpa [t] using hwin
    · simp
    · simp [resulted]
  · exact refused (plateCommand_commit p) (if_neg fun hc => h (hstate ▸ hc.1))
  -- ABORT
  · have habort : t.plateAbort = (.done, ({ t with plate := abortedPlate t.plate }).emptySlot 0) := if_pos (haborts.2 h)
    have hrest := emptySlot_plate_rest { t with plate := abortedPlate t.plate } 0
    refine answers_of_plateCommand (plateCommand_abort p) htakes habort ⟨plateDone_emptied ht (by decide) ?_, resulted_emptySlot_free .., ?_, ?_, ?_⟩
    · simp [t, abortedPlate, PlateState.disarm]
    · exact congrArg PlateState.swapAt hrest
    · exact congrArg PlateState.armReq hrest
    · intro hannounced
      refine (congrArg PlateState.cancelNext hrest).trans ?_
      simp [t, abortedPlate, hannounced]
  · exact refused (plateCommand_abort p) (if_neg (mt haborts.1 h))
  -- INSTALL
  · refine answers_of_plateCommand (plateCommand_install p) htakes (plateInstall_done (d := d) (hfree.trans hd) ?_)
      ⟨plateDone_moved ht (by decide) ?_, ?_⟩
    · simp [h3, hmode, hbudget]
    · simp
    · simp [resulted]
  · exact refused (plateCommand_install p) (plateInstall_state (by simpa [t] using h))
  -- a word of the load window
  · have hstored : t.plateWindow w v = _ := if_pos (hstate.trans h)
    refine ⟨_, (plateWindow_route v hw htakes).trans (by rw [hstored]), ?_, fun x hx => ?_, ?_⟩
    · exact storeGet_set_same ..
    · rw [← hplate]
      exact storeGet_set_other _ _ _ _ _ _ hx
    · rw [← hplate]
  · have hrefused : t.plateWindow w v = (.state, t) := if_neg (hstate ▸ h)
    exact ⟨_, (plateWindow_route v hw htakes).trans (by rw [hrefused]), rfl⟩

end Sys2Proof.Proofs
end

section
/-! Copies of station frames, the return of output frames, RELEASE and the clearing of the force table (R130, R133, R157, R158, R160, R162,
R166, R169); the statement on them (O50). -/

namespace Sys2Proof.Proofs
open Sys2Proof Sys2Proof.Machine Sys2Proof.Laws

/-! ## A copy that reaches the station link (R162, R166) -/

/-- A copy has the form that its ring asks for: version, kind, a station in use there, its number of entries. -/
def CopyFits (s : State) (f : StationFrame) : Prop :=
  f.version = 1 ∧ f.kind = 2 ∧ s.stationKnown f = true ∧ f.entries.length = s.get Reg.STN_ST_IN_IN_COUNT f.station

/-- A copy is of the present cycle and comes before the close. -/
def CopyInTime (s : State) (f : StationFrame) : Prop :=
  f.cycle.toNat = s.n % 4294967296 ∧ s.windowOpen = true ∧ s.now ≤ s.windowLimit ∧ s.allIn = false

section
variable {s : State} {f : StationFrame}

theorem copyCrcOk_iff : copyCrcOk f = true ↔ f.crc.toNat = crc32c (copyData f) := decide_eq_true_iff

theorem not_copyFits_iff : (¬ (f.version = 1 ∧ f.kind = 2) ∨ s.stationKnown f = false
      ∨ f.entries.length ≠ s.get Reg.STN_ST_IN_IN_COUNT f.station) ↔ ¬ CopyFits s f := by
  rw [CopyFits, ← and_assoc, not_and_or (a := _ ∧ _), not_and_or (a := _ = true), Bool.not_eq_true]

theorem closedBy_iff : s.closedBy = true ↔ ¬ (s.windowOpen = true ∧ s.now ≤ s.windowLimit ∧ s.allIn = false) := by
  simp only [State.closedBy, Bool.or_eq_true, Bool.not_eq_true', decide_eq_true_eq, not_and_or, Bool.not_eq_true, Bool.not_eq_false,
    Nat.not_le, or_assoc]

theorem not_copyInTime_iff : (f.cycle.toNat ≠ s.n % 4294967296 ∨ s.closedBy = true) ↔ ¬ CopyInTime s f := by
  rw [CopyInTime, not_and_or, closedBy_iff]

theorem stationInput_routed (hup : s.portsUp = true) (hport : f.port < 16) (hrouted : s.stationRouted f = true) :
    s.stationInput f = s.stationCopy f := by
  unfold State.stationInput
  rw [if_neg (by simp [hup]; omega), if_pos hrouted]

theorem stationInput_foreign (hup : s.portsUp = true) (hport : f.port < 16) (hrouted : s.stationRouted f = false) :
    s.stationInput f = s.frameTake (s.stationEth f) := by
  unfold State.stationInput
  rw [if_neg (by simp [hup]; omega), if_neg (by simp [hrouted])]

/-- What a copy with a bad CRC-32C leaves noted of its station. -/
def crcNoted (s : State) (f : StationFrame) : State :=
  if s.stationKnown f then { s with stn := { s.stn with crcBad := storePut s.stn.crcBad f.station () } } else s

theorem stationCopy_crc (h : ¬ f.crc.toNat = crc32c (copyData f)) : s.stationCopy f = (crcNoted s f).stnBad :=
  if_pos (by rw [Bool.not_eq_true']; exact Bool.eq_false_iff.2 (mt copyCrcOk_iff.1 h))

theorem crcNoted_spec (s : State) (f : StationFrame) : (crcNoted s f).regs = s.regs ∧ (crcNoted s f).stn.copies = s.stn.copies
    ∧ (s.stationKnown f = true → storeFind (crcNoted s f).stn.crcBad f.station = some ()) ∧ { crcNoted s f with regs := s.regs, stn := s.stn } = s := by
  unfold crcNoted
  split
  · exact ⟨rfl, rfl, fun _ => storeFind_put_same _ _ _, rfl⟩
  · next h => exact ⟨rfl, rfl, fun hknown => absurd hknown h, rfl⟩

section
variable (hcrc : f.crc.toNat = crc32c (copyData f))
include hcrc

theorem stationCopy_unfit (h : ¬ CopyFits s f) : s.stationCopy f = s.stnBad :=
  (if_neg (by simp [copyCrcOk_iff.2 hcrc])).trans (if_pos (not_copyFits_iff.2 h))

theorem stationCopy_late (hfits : CopyFits s f) (h : ¬ CopyInTime s f) : s.stationCopy f = s.count Reg.STN_LATE_CNT_COUNT :=
  (if_neg (by simp [copyCrcOk_iff.2 hcrc])).trans ((if_neg (mt not_copyFits_iff.1 (not_not_intro hfits))).trans (if_pos (not_copyInTime_iff.2 h)))

theorem stationCopy_taken (hfits : CopyFits s f) (h : CopyInTime s f) : s.stationCopy f = s.noteCopy f :=
  (if_neg (by simp [copyCrcOk_iff.2 hcrc])).trans
    ((if_neg (mt not_copyFits_iff.1 (not_not_intro hfits))).trans (if_neg (mt not_copyInTime_iff.1 (not_not_intro h))))

end

/-- The first valid copy of a station, as it is kept. -/
def firstCopy (s : State) (f : StationFrame) : StnCopy :=
  { legA := decide (f.port % 2 = 0), legB := !decide (f.port % 2 = 0), claim := f.claim, status := f.status, links := f.links, entries := f.entries,
    port := f.port, stamp := s.now % 1099511627776, bytes := s.copyBytes f }

/-- A copy that is kept, with the leg of another. -/
def secondLeg (c : StnCopy) (f : StationFrame) : StnCopy :=
  { c with legA := c.legA || decide (f.port % 2 = 0), legB := c.legB || !decide (f.port % 2 = 0) }

theorem noteCopy_first (h : storeFind s.stn.copies f.station = none) :
    s.noteCopy f = { s with stn := { s.stn with copies := storePut s.stn.copies f.station (firstCopy s f) } } := by
  unfold State.noteCopy
  rw [h]
  rfl

theorem noteCopy_second {c : StnCopy} (h : storeFind s.stn.copies f.station = some c) :
    s.noteCopy f = { s with stn := { s.stn with copies := storePut s.stn.copies f.station (secondLeg c f) } } := by
  unfold State.noteCopy
  rw [h]
  rfl

end

/-! ## A frame that is no copy (R149 to R153, R157) -/

@[simp] theorem enqueueRx_stn (s : State) (q : Nat) (d : RxDesc) : (s.enqueueRx q d).stn = s.stn := by
  unfold State.enqueueRx State.noteFill
  dsimp only
  (repeat' split) <;> rfl

@[simp] theorem deliverTo_stn (s : State) (q : Nat) (d : RxDesc) : (s.deliverTo q d).stn = s.stn := by
  unfold State.deliverTo
  split
  · rfl
  · exact enqueueRx_stn s q d

@[simp] theorem frameTake_stn (s : State) (f : EthFrame) : (s.frameTake f).stn = s.stn := by
  unfold State.frameTake
  dsimp only
  split
  · rfl
  · split
    · rfl
    · split
      · rfl
      · split
        · rfl
        · rw [deliverTo_stn]
          split <;> rfl

/-! ## The return of an output frame (R162) -/

theorem outputReturn_sent {s : State} {port : Nat} (hup : s.portsUp = true) (hrun : s.running = true) (hport : port < 16)
    (hring : s.ringPort port = true) (hsent : s.stn.sent.any (fun f => decide (f.ring = port / 2)) = true) :
    s.outputReturn port = { s with stn := { s.stn with
      returns := storePut s.stn.returns (port / 2) (storeGet s.stn.returns (port / 2) 0 ||| (if port % 2 = 1 then 1 else 2)) } } :=
  if_pos (by simp only [hup, hrun, hport, hring, hsent, decide_true, Bool.and_self])

/-! ## RELEASE (R169) -/

section
variable {s : State} {p : Path} {i : Nat}

theorem touch_stn : (s.touch p).stn = s.stn := by obtain ⟨h, e⟩ := touch_host s p; rw [e]

theorem stnReleaseWord : ∃ d, regAt 0x07910C = some d ∧ ∀ (t : State) (i : Nat), i < t.variant.stations → commandWord t d 0x07910C i 1 = true := by
  refine ⟨_, rfl, fun t i hi => ?_⟩
  have hwindow : windowStatus t.variant 0x07910C .station i = .done := if_pos hi
  unfold commandWord
  rw [hwindow]
  rfl

/-- RELEASE reaches its command. -/
theorem exec_stnRelease (htakes : s.takes p 7 = true) (hi : i < s.variant.stations) :
    exec (.stnRelease p i) s = .next (((s.touch p).stnRelease i).2.answer p ((s.touch p).stnRelease i).1) := by
  obtain ⟨d, hd, hword⟩ := stnReleaseWord
  exact congrArg Host.Outcome.next (hostCmd_route htakes hd (hword _ i (by rwa [touch_variant])))

theorem stnRelease_done {t : State} (h : ¬ (t.grouped = true ∧ t.role = 1)) :
    t.stnRelease i = (.done, { t with stn := { t.stn with release := storePut t.stn.release i 100 } }) := if_neg h

theorem stnRelease_standby {t : State} (h : t.grouped = true ∧ t.role = 1) : t.stnRelease i = (.role, t) := if_pos h

end

/-! ## The clearing of the force table (R130, R133) -/

/-- The word of CLR_ALL. -/
def clrAllWord : Staged := { addr := 0x050000, index := 0, value := 1 }

section
variable {s : State} {p : Path}

/-- CLR_ALL is a field without a derived value (R58). -/
theorem clrAll_expert (t : State) : expertHit t [Reg.FORCE_CMD_CLR_ALL] clrAllWord = false := Bool.and_false _

theorem clrAll_register : ∃ d, regAt 0x050000 = some d ∧ d.fieldsAt 0x050000 = [Reg.FORCE_CMD_CLR_ALL]
    ∧ ∀ v : Variant, windowStatus v 0x050000 d.window 0 = .done := ⟨_, rfl, rfl, fun _ => rfl⟩

theorem clrAll_writeCheck (t : State) : t.writeCheck 0x050000 0 1 = if t.grouped && decide (t.role = 1) then .role else .done := rfl

theorem clrAll_staged (htakes : s.takes p 5 = true) (h : ¬ (s.grouped = true ∧ s.role = 1)) :
    exec (.forceClrAll p) s = .next (((s.touch p).stage p clrAllWord).2.answer p ((s.touch p).stage p clrAllWord).1) := by
  obtain ⟨d, hd, hfields, hwindow⟩ := clrAll_register
  have hcheck : (s.touch p).writeCheck 0x050000 0 (1 : Word).toNat = .done :=
    (clrAll_writeCheck _).trans (if_neg (by simpa using h))
  have hroute := registerWrite_route (v := 1) (by decide) (by decide) (by decide) hd (by rw [hfields]; simp [Reg.FORCE_CMD_CLR_ALL]) htakes
    (by rw [hfields]; decide) rfl (hwindow _) hcheck
  rw [hfields] at hroute
  rw [← writeTxn_stage (.inr (clrAll_expert _))]
  exact congrArg Host.Outcome.next hroute

theorem clrAll_standby (htakes : s.takes p 5 = true) (h : s.grouped = true ∧ s.role = 1) :
    exec (.forceClrAll p) s = .next ((s.touch p).answer p .role) := by
  obtain ⟨d, hd, hfields, hwindow⟩ := clrAll_register
  obtain ⟨hup, hboot, hwrites, hhas, hlock⟩ := takes_iff.1 htakes
  have hunlocked := lockHits_unlocked (s := s.touch p) (a := 0x050000) (by rw [touch_get]; exact hlock) [Reg.FORCE_CMD_CLR_ALL] 0 1
  have hcheck : (s.touch p).writeCheck 0x050000 0 1 = .role := (clrAll_writeCheck _).trans (if_pos (by simpa using h))
  have hwrite : (s.touch p).writeWord p 0x050000 0 1 = (.role, s.touch p) := by
    unfold State.writeWord State.writeReg State.writeFields
    simp [touch_booted, touch_pathWrites, hboot, hwrites, hd, hhas, hwindow, hfields, hunlocked, hcheck, show Reg.FORCE_CMD_CLR_ALL.acc = .wo from rfl]
  refine congrArg Host.Outcome.next ?_
  unfold State.hostCmd State.hostWord
  simp only [hup, if_true, show BitVec.ofNat 32 1 = (1 : Word) from rfl, hwrite, Nat.reduceMod]

end

/-! ## The statement -/

theorem noteCopy_spec (s : State) (f : StationFrame) :
    (∃ c, storeFind (s.noteCopy f).stn.copies f.station = some c
      ∧ (storeFind s.stn.copies f.station = none → c.entries = f.entries ∧ c.claim = f.claim ∧ c.status = f.status
          ∧ c.legA = decide (f.port % 2 = 0) ∧ c.legB = decide (f.port % 2 ≠ 0))
      ∧ (∀ c', storeFind s.stn.copies f.station = some c' → c = { c' with legA := c.legA, legB := c.legB }
          ∧ (c.legA = true ↔ c'.legA = true ∨ f.port % 2 = 0) ∧ (c.legB = true ↔ c'.legB = true ∨ f.port % 2 ≠ 0)))
    ∧ (∀ j, j ≠ f.station → storeFind (s.noteCopy f).stn.copies j = storeFind s.stn.copies j)
    ∧ { s.noteCopy f with stn := { (s.noteCopy f).stn with copies := s.stn.copies } } = s := by
  cases hc : storeFind s.stn.copies f.station with
  | none =>
    rw [noteCopy_first hc]
    refine ⟨⟨firstCopy s f, storeFind_put_same _ _ _, fun _ => ⟨rfl, rfl, rfl, rfl, (decide_not ..).symm⟩, nofun⟩,
      fun j hj => storeFind_put_other _ _ _ _ hj, rfl⟩
  | some c =>
    rw [noteCopy_second hc]
    refine ⟨⟨secondLeg c f, storeFind_put_same _ _ _, nofun, ?_⟩, fun j hj => storeFind_put_other _ _ _ _ hj, rfl⟩
    rintro _ ⟨⟩
    exact ⟨rfl, by simp [secondLeg], by simp [secondLeg]⟩

/-- Settles O50. A routed copy has one of four outcomes (`stationCopy_crc`, `_unfit`, `_late`, `_taken`); the two commands reach
`State.stnRelease` and `State.stage`. -/
theorem stations : Obligations.Stations := by
  intro s f port i p t known crcOk fits inTime counted standby
  have counted_of {g : Fld} {v u : State} (hv : v.regs = s.regs) (hu : u = v.count g) : counted g u := by
    subst hu
    exact ⟨(get_count_same v g 0).trans (by rw [get_of_regs hv]), regsBut_trans (regsBut_of_regs hv) (regsBut_count v g)⟩
  refine ⟨fun hup hport hrouted => ?_, fun hup hport hforeign => ?_, fun hdown => ?_, fun hup hrun hport hring hsent => ?_,
    fun htakes hi hactive => ?_, fun htakes hi hstandby => ?_, fun htakes hactive hidle htime => ?_, fun htakes hstandby => ?_⟩
  -- a copy for the station link
  · have completes {u : State} {P : State → Prop} (hu : s.stationCopy f = u) (hP : P u) : Completes (.stationInputFrame f) s P :=
      ⟨u, congrArg Host.Outcome.next ((stationInput_routed hup hport hrouted).trans hu), hP⟩
    refine ⟨fun hbad => ?_, fun hcrc hunfit => ?_, fun hcrc hfits hlate => ?_, fun hcrc hfits hin => ?_⟩
    · obtain ⟨hregs, hcopies, hnoted, hrest⟩ := crcNoted_spec s f
      exact completes (stationCopy_crc hbad) ⟨counted_of hregs rfl, hcopies, hnoted, hrest⟩
    · exact completes (stationCopy_unfit hcrc hunfit) ⟨counted_of rfl rfl, rfl⟩
    · exact completes (stationCopy_late hcrc hfits hlate) ⟨counted_of rfl rfl, rfl⟩
    · exact completes (stationCopy_taken hcrc hfits hin) (noteCopy_spec s f)
  -- other frames, ports down
  · exact ⟨_, congrArg Host.Outcome.next (stationInput_foreign hup hport hforeign), rfl, frameTake_stn s _⟩
  · exact ⟨s, congrArg Host.Outcome.next (if_pos (.inl (by rw [hdown]; rfl))), rfl⟩
  -- OUTPUT_FRAME_RETURN
  · exact ⟨_, congrArg Host.Outcome.next (outputReturn_sent hup hrun hport hring hsent), storeFind_put_same _ _ _, rfl⟩
  -- STN_RELEASE
  · have hdone := stnRelease_done (t := t) (i := i) (by simpa [t, standby] using hactive)
    exact ⟨(t.stnRelease i).2, by rw [exec_stnRelease htakes hi, hdone], by rw [hdone, ← touch_stn (p := p)]; exact ⟨storeFind_put_same _ _ _, rfl⟩⟩
  · have hrole := stnRelease_standby (t := t) (i := i) (by simpa [t, standby] using hstandby)
    exact ⟨t, (exec_stnRelease htakes hi).trans (by rw [hrole]), rfl⟩
  -- FORCE_CLR_ALL
  · have hstage := stage_idle (w := clrAllWord) htime hidle
    exact ⟨(t.stage p clrAllWord).2, by rw [clrAll_staged htakes hactive, hstage], by rw [hstage]; rfl⟩
  · exact ⟨t, clrAll_standby htakes hstandby, rfl⟩

end Sys2Proof.Proofs
end

section
/-! The end of a plate's check, the swap and the revert, the end of commit and install (R127, R137, R139 to R142, R144, R435); the statement on
them (O43). -/

namespace Sys2Proof.Proofs
open Sys2Proof Sys2Proof.Machine Sys2Proof.Laws

/-! ## What an exchange of plates reads and writes -/

/-- What a swap and a revert read and write, points and forces aside. -/
structure Deck where
  now : Nat
  n : Nat
  plate : PlateState
  inst : Instances
  slow : Proc
  slowOpen : Bool
  lastProof : Bool
  runSlot : Nat
  slotState : Nat
  newId : Nat
  role : Nat
  redMode : Nat

/-- A register field at index 0 of the store. -/
def fieldOf (regs : Store Nat) (f : Fld) : Nat := storeGet regs (f.key 0) (f.resetOf 0)

/-- The part of a state that an exchange of plates is about. -/
def deck (s : State) : Deck :=
  { now := s.now, n := s.n, plate := s.plate, inst := s.pump.inst, slow := s.pump.slow, slowOpen := s.pump.slowOpen, lastProof := s.red.lastProof,
    runSlot := fieldOf s.regs Reg.PLATE_STAT_RUN_SLOT, slotState := fieldOf s.regs Reg.PLATE_STAT_SLOT_STATE,
    newId := fieldOf s.regs Reg.PLATE_NEW_ID_ID, role := fieldOf s.regs Reg.RED_STAT_ROLE, redMode := fieldOf s.regs Reg.RED_CFG_MODE }

theorem deck_mk (a0 a1 a2 a3 a4 a5 a6 a7 a8 a9 a10 a11 a12 a13 a14 a15 a16 a17 a18 a19 a20 a21 a22 a23 a24 a25 a26 a27 a28 a29 a30 a31 a32 a33
    a34 a35 a36 a37 a38 a39 a40 a41) :
    deck (State.mk a0 a1 a2 a3 a4 a5 a6 a7 a8 a9 a10 a11 a12 a13 a14 a15 a16 a17 a18 a19 a20 a21 a22 a23 a24 a25 a26 a27 a28 a29 a30 a31 a32 a33
      a34 a35 a36 a37 a38 a39 a40 a41)
    = ⟨a7, a11, a36, a18.inst, a18.slow, a18.slowOpen, a23.lastProof, fieldOf a12 Reg.PLATE_STAT_RUN_SLOT, fieldOf a12 Reg.PLATE_STAT_SLOT_STATE,
        fieldOf a12 Reg.PLATE_NEW_ID_ID, fieldOf a12 Reg.RED_STAT_ROLE, fieldOf a12 Reg.RED_CFG_MODE⟩ := (rfl)

/-- A deck put together again. -/
theorem deck_eta (s : State) :
    ⟨s.now, s.n, s.plate, s.pump.inst, s.pump.slow, s.pump.slowOpen, s.red.lastProof, fieldOf s.regs Reg.PLATE_STAT_RUN_SLOT,
      fieldOf s.regs Reg.PLATE_STAT_SLOT_STATE, fieldOf s.regs Reg.PLATE_NEW_ID_ID, fieldOf s.regs Reg.RED_STAT_ROLE,
      fieldOf s.regs Reg.RED_CFG_MODE⟩ = deck s := (rfl)

theorem deck_ite (c : Prop) [Decidable c] (x y : State) : deck (if c then x else y) = if c then deck x else deck y := apply_ite deck c x y

theorem foldl_deck {α : Type} (f : State → α → State) (h : ∀ s x, deck (f s x) = deck s) (l : List α) (s : State) :
    deck (l.foldl f s) = deck s := by
  induction l generalizing s with
  | nil => rfl
  | cons a t ih => rw [List.foldl_cons, ih, h]

/-- The fields of a deck. -/
def deckFlds : List Fld := [Reg.PLATE_STAT_RUN_SLOT, Reg.PLATE_STAT_SLOT_STATE, Reg.PLATE_NEW_ID_ID, Reg.RED_STAT_ROLE, Reg.RED_CFG_MODE]

/-- No field of a deck is this one, at whatever index it stands. -/
def offDeck (f : Fld) : Bool := deckFlds.all fun g => decide ((f.key 0) % 2 ^ 29 ≠ (g.key 0) % 2 ^ 29)

theorem key_mod (f : Fld) (i : Nat) : f.key i % 2 ^ 29 = f.key 0 % 2 ^ 29 := by
  unfold Fld.key
  omega

theorem key_ne_of_offDeck {f g : Fld} (h : offDeck f = true) (hg : g ∈ deckFlds) (i : Nat) : g.key 0 ≠ f.key i := by
  intro e
  have := of_decide_eq_true (List.all_eq_true.1 h g hg)
  rw [e, key_mod f i] at this
  exact this rfl

theorem deck_of_parts {s u : State} (hregs : ∀ g ∈ deckFlds, u.get g 0 = s.get g 0) (hnow : u.now = s.now) (hn : u.n = s.n)
    (hplate : u.plate = s.plate) (hpump : u.pump = s.pump) (hproof : u.red.lastProof = s.red.lastProof) : deck u = deck s := by
  simp only [deckFlds, List.forall_mem_cons] at hregs
  obtain ⟨h1, h2, h3, h4, h5, -⟩ := hregs
  unfold deck
  rw [hnow, hn, hplate, hpump, hproof]
  congr 1

theorem set_deck (s : State) (f : Fld) (v i : Nat) (h : offDeck f = true) : deck (s.set f v i) = deck s :=
  deck_of_parts (fun g hg => get_set_other s f g v i 0 (key_ne_of_offDeck h hg i)) rfl rfl rfl rfl rfl

theorem setFlag_deck (s : State) (f : Fld) (b : Bool) (i : Nat) (h : offDeck f = true) : deck (s.setFlag f b i) = deck s := set_deck s f _ i h

@[simp] theorem raise_deck (s : State) (c : Nat) : deck (s.raise c) = deck s := by
  have hquiet := raise_quiet s c
  refine deck_of_parts (fun g hg => hquiet.2 g 0 ?_) (Quiet.now hquiet) (Quiet.n hquiet) (raise_plate s c) (raise_pump s c) (by rw [raise_red])
  revert g
  decide

/-! ## What leaves the deck alone -/

section
variable (s : State)

/-! ### Points -/

@[simp] theorem setPoint_deck (p : Nat) (r : Point) : deck (s.setPoint p r) = deck s := by
  simp only [State.setPoint, ↓deck_mk, deck_eta]

@[simp] theorem putPoint_deck (p : Nat) (v : Word) (q : Byte) : deck (s.putPoint p v q) = deck s := by
  simp only [State.putPoint, setPoint_deck]

@[simp] theorem putGood_deck (p v : Nat) : deck (s.putGood p v) = deck s := by
  simp only [State.putGood, putPoint_deck]

@[simp] theorem putAll_deck (l : List (Nat × Nat)) : deck (s.putAll l) = deck s := by
  simp only [State.putAll, implies_true, foldl_deck, putGood_deck]

@[simp] theorem putQuality_deck (p : Nat) (q : Byte) : deck (s.putQuality p q) = deck s := by
  simp only [State.putQuality, putPoint_deck]

@[simp] theorem putF_deck (p : Nat) (x : F64) (q : Byte) : deck (s.putF p x q) = deck s := by
  simp only [State.putF, deck_ite, ite_self, putPoint_deck]

@[simp] theorem putInput_deck (p : Nat) (x : F64) (q : Byte) : deck (s.putInput p x q) = deck s := by
  simp only [State.putInput, deck_ite, ite_self, putF_deck, setPoint_deck]

@[simp] theorem putHeading_deck (p : Nat) (x : F64) (q : Byte) : deck (s.putHeading p x q) = deck s := by
  simp only [State.putHeading, putF_deck]

@[simp] theorem deliver_deck (p : Nat) (v : Word) (q : Byte) : deck (s.deliver p v q) = deck s := by
  simp only [State.deliver, deck_ite, ite_self, setPoint_deck]

@[simp] theorem lose_deck (p : Nat) : deck (s.lose p) = deck s := by
  simp only [State.lose, deck_ite, ite_self, setPoint_deck]

@[simp] theorem writeEntries_deck (base : Nat) (q : Byte → Byte) (l : List (Word × Byte)) : deck (s.writeEntries base q l) = deck s := by
  simp only [State.writeEntries, implies_true, foldl_deck, deliver_deck]

@[simp] theorem loseRange_deck (base count : Nat) : deck (s.loseRange base count) = deck s := by
  simp only [State.loseRange, implies_true, foldl_deck, lose_deck]

/-! ### Stations, sensors, levels, the span -/

@[simp] theorem closeDelivered_deck (i : Nat) (c : StnCopy) : deck (s.closeDelivered i c) = deck s := by
  simp only [State.closeDelivered, ↓deck_mk, deck_eta, deck_ite, ite_self, writeEntries_deck, putAll_deck]

@[simp] theorem closeMissing_deck (i : Nat) : deck (s.closeMissing i) = deck s := by
  simp only [State.closeMissing, putAll_deck, loseRange_deck]

@[simp] theorem closeStation_deck (on : List Nat) (i : Nat) : deck (s.closeStation on i) = deck s := by
  unfold State.closeStation
  (repeat' split) <;> simp only [closeDelivered_deck, closeMissing_deck, putAll_deck]

@[simp] theorem closeStations_deck : deck s.closeStations = deck s := by
  simp only [State.closeStations, implies_true, foldl_deck, closeStation_deck]

@[simp] theorem setChan_deck (c : Nat) (ch : Channel) : deck (s.setChan c ch) = deck s := by
  simp only [State.setChan, ↓deck_mk, deck_eta]

@[simp] theorem slipCheck_deck (c : Nat) (offs : List (Nat × Int)) : deck (s.slipCheck c offs) = deck s := by
  simp only [State.slipCheck, deck_ite, ite_self, raise_deck, setChan_deck]

@[simp] theorem slipExpire_deck (c : Nat) : deck (s.slipExpire c) = deck s := by
  simp only [State.slipExpire, deck_ite, ite_self, slipCheck_deck]

@[simp] theorem channelInputs_deck (c : Nat) : deck (s.channelInputs c) = deck s := by
  unfold State.channelInputs
  dsimp only
  (repeat' split) <;> simp only [deck_ite, ite_self, implies_true, foldl_deck, setChan_deck, putInput_deck,
      putQuality_deck, setPoint_deck]

@[simp] theorem sensorInputs_deck : deck s.sensorInputs = deck s := by
  simp only [State.sensorInputs, implies_true, foldl_deck, channelInputs_deck, slipExpire_deck]

@[simp] theorem levelWord_deck (on : Bool) (p v : Nat) : deck (s.levelWord on p v) = deck s := by
  simp only [State.levelWord, deck_ite, ite_self, lose_deck, deliver_deck]

@[simp] theorem levelInputs_deck (gpio : Word) : deck (s.levelInputs gpio) = deck s := by
  simp only [State.levelInputs, ↓deck_mk, deck_eta, levelWord_deck]

@[simp] theorem closeNode_deck (on : List Nat) (a : Nat) : deck (s.closeNode on a) = deck s := by
  unfold State.closeNode
  (repeat' split) <;> simp only [deck_ite, ite_self, putAll_deck, writeEntries_deck, raise_deck, loseRange_deck]

@[simp] theorem spanOwnPoints_deck : deck s.spanOwnPoints = deck s := by
  simp only [State.spanOwnPoints, putAll_deck]

@[simp] theorem nodeSend_deck : deck s.nodeSend = deck s := by
  simp only [State.nodeSend, ↓deck_mk, deck_eta, deck_ite, ite_self]

@[simp] theorem closeSpan_deck : deck s.closeSpan = deck s := by
  simp only [State.closeSpan, ↓deck_mk, deck_eta, deck_ite, ite_self, implies_true, foldl_deck, closeNode_deck, raise_deck, spanOwnPoints_deck,
      nodeSend_deck]

/-! ### Capture -/

@[simp] theorem ringRegs_deck : deck s.ringRegs = deck s := by
  simp (disch := decide) only [State.ringRegs, set_deck]

@[simp] theorem ringAppend_deck (e : CapEntry) : deck (s.ringAppend e) = deck s := by
  simp only [State.ringAppend, ↓deck_mk, deck_eta, deck_ite, ite_self, ringRegs_deck]

@[simp] theorem capStation_deck (e : Nat × StnCopy) : deck (s.capStation e) = deck s := by
  simp only [State.capStation, ringAppend_deck]

@[simp] theorem capNode_deck (e : Nat × NodeCopy) : deck (s.capNode e) = deck s := by
  simp only [State.capNode, ringAppend_deck]

@[simp] theorem capInputs_deck : deck s.capInputs = deck s := by
  simp only [State.capInputs, deck_ite, ite_self, implies_true, foldl_deck, capNode_deck, capStation_deck]

/-! ### Redundancy -/

@[simp] theorem sendLink_deck (kind : ProofKind) (records : List ProofRecord) : deck (s.sendLink kind records) = deck s := by
  simp only [State.sendLink, ↓deck_mk, deck_eta, deck_ite, ite_self]

@[simp] theorem sendCut_deck (kind : Nat → Nat → ProofKind) (l : List ProofRecord) : deck (s.sendCut kind l) = deck s := by
  simp only [State.sendCut, implies_true, foldl_deck, sendLink_deck]

@[simp] theorem forwardSend_deck : deck s.forwardSend = deck s := by
  simp only [State.forwardSend, ↓deck_mk, deck_eta, deck_ite, ite_self, sendCut_deck]

@[simp] theorem echoCheck_deck : deck s.echoCheck = deck s := by
  unfold State.echoCheck
  (repeat' split) <;> simp only [↓deck_mk, deck_eta]

@[simp] theorem beatMiss_deck (p1 p2 : Bool) : deck (s.beatMiss p1 p2) = deck s := by
  simp only [State.beatMiss, ↓deck_mk, deck_eta, deck_ite, ite_self, raise_deck]

@[simp] theorem beatClose_deck : deck s.beatClose = deck s := by
  simp only [State.beatClose, deck_ite, ite_self, beatMiss_deck]

@[simp] theorem redClose_deck : deck s.redClose = deck s := by
  simp only [State.redClose, deck_ite, ite_self, forwardSend_deck, beatClose_deck, echoCheck_deck]

@[simp] theorem replayInputs_deck : deck s.replayInputs = deck s := by
  simp only [State.replayInputs, ↓deck_mk, deck_eta]

/-! ### Monitors and forces -/

@[simp] theorem runCheck_deck (m : Nat) : deck (s.runCheck m) = deck s := by
  simp only [State.runCheck, ↓deck_mk, deck_eta, deck_ite, ite_self]

@[simp] theorem runChecks_deck : deck s.runChecks = deck s := by
  simp only [State.runChecks, implies_true, foldl_deck, runCheck_deck]

@[simp] theorem forceWrite_deck (e : Nat) : deck (s.forceWrite e) = deck s := by
  simp only [State.forceWrite, setPoint_deck]

@[simp] theorem forceApply_deck (a : Area) : deck (s.forceApply a) = deck s := by
  simp only [State.forceApply, deck_ite, ite_self, implies_true, foldl_deck, forceWrite_deck]

@[simp] theorem cyclePoints_deck : deck s.cyclePoints = deck s := by
  simp only [State.cyclePoints, putAll_deck]

@[simp] theorem swapPoints_deck (old new : List PointDecl) : deck (s.swapPoints old new) = deck s := by
  unfold State.swapPoints
  dsimp only
  refine (foldl_deck _ (fun u d => ?_) _ _).trans (foldl_deck _ (fun u d => setPoint_deck _ _ _) _ _)
  split
  · rfl
  · split
    · split
      · rfl
      · exact setPoint_deck _ _ _
    · split
      · rfl
      · exact setPoint_deck _ _ _

@[simp] theorem forceOrphan_deck (e : Nat) (b : Bool) : deck (s.forceOrphan e b) = deck s := by
  simp (disch := decide) only [State.forceOrphan, setFlag_deck, setPoint_deck]

@[simp] theorem forceSwap_deck (decls : List PointDecl) (e : Nat) : deck (s.forceSwap decls e) = deck s := by
  unfold State.forceSwap
  (repeat' split) <;> simp (disch := decide) only [raise_deck, forceOrphan_deck, setFlag_deck, setPoint_deck]

/-! ### Loops -/

@[simp] theorem setLoop_deck (i : Nat) (l : LoopSlot) : deck (s.setLoop i l) = deck s := by
  simp only [State.setLoop, ↓deck_mk, deck_eta]

@[simp] theorem clearLatch_deck (i : Nat) : deck (s.clearLatch i) = deck s := by
  simp only [State.clearLatch, ↓deck_mk, deck_eta]

@[simp] theorem raiseOpt_deck (c : Option Nat) : deck (s.raiseOpt c) = deck s := by
  unfold State.raiseOpt
  (repeat' split) <;> simp only [raise_deck]

@[simp] theorem evalLoop_deck (i : Nat) (req : Option Word) (x : LoopIn) : deck (s.evalLoop i req x) = deck s := by
  simp only [State.evalLoop, raiseOpt_deck, setLoop_deck]

@[simp] theorem evalOrdinary_deck (i : Nat) : deck (s.evalOrdinary i) = deck s := by
  simp only [State.evalOrdinary, clearLatch_deck, evalLoop_deck, setLoop_deck]
@[simp] theorem holdStatus_deck (b : State) : deck (b.holdStatus s) = deck s := by
  unfold State.holdStatus
  dsimp only
  split <;> rfl

@[simp] theorem runFast_deck : deck (s.startTask .fast) = deck s := by
  have hproc (p : Proc) : deck (s.setProc .fast p) = deck s := rfl
  simp only [State.startTask, State.runTask, PumpState.marked, ↓deck_mk, deck_eta, putGood_deck, hproc]

theorem lockstepTake_deck (h : (deck s).role ≠ 1) : deck s.lockstepTake = deck s := by
  unfold State.lockstepTake
  rw [if_neg fun hall => h hall.1]

/-- A part that is no standby closes its input window without touching the deck. -/
theorem closeInputs_deck (gpio : Word) (h : (deck s).role ≠ 1) : deck (s.closeInputs gpio) = deck s := by
  unfold State.closeInputs
  rw [lockstepTake_deck] <;> simp only [redClose_deck, capInputs_deck, closeSpan_deck, levelInputs_deck, sensorInputs_deck, closeStations_deck,
    ↓deck_mk, deck_eta, deck_ite, replayInputs_deck, ite_self]
  exact h

end

/-! ## Time passes -/

/-- From deck d to e time may have passed, and a proof may have been missed. -/
def Deck.Passes (d e : Deck) : Prop := d.now ≤ e.now ∧ { e with now := d.now, lastProof := d.lastProof } = d

theorem passes_refl (d : Deck) : d.Passes d := ⟨le_rfl, rfl⟩

theorem passes_trans {a b c : Deck} (h : a.Passes b) (g : b.Passes c) : a.Passes c := by
  obtain ⟨h1, h2⟩ := h
  obtain ⟨g1, g2⟩ := g
  refine ⟨h1.trans g1, ?_⟩
  rw [← h2, ← g2]

theorem passes_advance (s : State) (t : Nat) : (deck s).Passes (deck (s.advance t)) := ⟨Nat.le_add_right _ _, rfl⟩

theorem passes_of_eq {d e : Deck} (h : e = d) : d.Passes e := h ▸ passes_refl _

theorem stepFour_passes (s : State) : (deck s).Passes (deck s.stepFour) := by
  unfold State.stepFour
  rw [runFast_deck]
  refine passes_trans (passes_of_eq ?_) (passes_advance _ _)
  exact foldl_deck _ evalOrdinary_deck _ s

/-! ## The exchange (R139, R141) -/

/-- The free slot's plate runs with these instances, and the slot that it leaves has this state and identity; SLOW starts afresh. -/
def Deck.exchanged (d : Deck) (inst : Instances) (slotState newId : Nat) : Deck :=
  { d with inst := inst, slow := { block := 2 }, slowOpen := false, runSlot := 1 - d.runSlot, slotState := slotState, newId := newId }

/-- After a swap to plate `new` from a plate with this identity. -/
def Deck.swapped (d : Deck) (new : PlateDesc) (id : Word) : Deck :=
  { d.exchanged (swapInst d.inst new) 5 id.toNat with
    plate := { d.plate with swapAt := none, swappedAt := d.n, oldInst := d.inst, announced := false, accepts := [], refused := false,
                            confirmed := false } }

/-- After a revert of plate `new`, whose identity its slot shows. -/
def Deck.reverted (d : Deck) (new : PlateDesc) : Deck :=
  { d.exchanged (revertInst d.plate.oldInst d.inst new) 3 new.id.toNat with plate := { d.plate with revertAt := none, oldInst := {} } }

theorem fieldOf_set_same (s : State) (f : Fld) (v : Nat) (h : v < 2 ^ f.width) : fieldOf (s.set f v).regs f = v :=
  (get_set_same s f v 0).trans (Nat.mod_eq_of_lt h)

theorem fieldOf_set_other (s : State) (f g : Fld) (v : Nat) (h : g.key 0 ≠ f.key 0) : fieldOf (s.set f v).regs g = fieldOf s.regs g :=
  get_set_other s f g v 0 0 h

theorem shown_deck (t : State) {run st id : Nat} (hrun : run < 2) (hst : st < 8) (hid : id < 2 ^ 32) :
    deck (((t.set Reg.PLATE_STAT_RUN_SLOT run).set Reg.PLATE_STAT_SLOT_STATE st).set Reg.PLATE_NEW_ID_ID id)
      = { deck t with runSlot := run, slotState := st, newId := id } := by
  simp (disch := decide) only [deck, set_now, set_n, set_plate, set_pump, set_red, fieldOf_set_other,
    fieldOf_set_same _ Reg.PLATE_STAT_RUN_SLOT run hrun, fieldOf_set_same _ Reg.PLATE_STAT_SLOT_STATE st hst,
    fieldOf_set_same _ Reg.PLATE_NEW_ID_ID id hid]

/-- The two slots hold the plate that runs and the one beside it. -/
structure Slots (s : State) (run free : PlateDesc) : Prop where
  runSlot : s.runSlot ≤ 1
  run : s.slotPlate s.runSlot = some run
  free : s.slotPlate s.freeSlot = some free

section
variable {s : State} {o d : PlateDesc}

theorem freeSlot_lt (s : State) : s.freeSlot < 2 := Nat.lt_succ_of_le (Nat.sub_le 1 _)

theorem changePlate_deck (h : Slots s o d) (inst : Instances) {st : Nat} (hst : st < 8) :
    deck (s.changePlate s.freeSlot inst st) = (deck s).exchanged inst st o.id.toNat := by
  have hpoints (t : State) : deck (t.forceEntries.foldl (fun u e => u.forceSwap d.decls e) (s.swapPoints o.decls d.decls)) = deck s :=
    (foldl_deck _ (fun u e => forceSwap_deck u _ e) _ _).trans (swapPoints_deck s _ _)
  unfold State.changePlate
  rw [h.run, h.free]
  dsimp only
  replace hpoints := hpoints (s.swapPoints o.decls d.decls)
  generalize List.foldl _ _ _ = t at hpoints ⊢
  rw [shown_deck _ (freeSlot_lt s) hst o.id.isLt, Deck.exchanged, ← hpoints, show s.freeSlot = 1 - (deck t).runSlot by rw [hpoints]; rfl]
  rfl

theorem plate_deck (t : State) (p : PlateState) : deck { t with plate := p } = { deck t with plate := p } := rfl

theorem doSwap_passes (h : Slots s o d) : ((deck s).swapped d o.id).Passes (deck s.doSwap) := by
  have hdeck := changePlate_deck h (swapInst s.pump.inst d) (st := 5) (by decide)
  have hplate := congrArg Deck.plate hdeck
  have hn := congrArg Deck.n hdeck
  unfold State.doSwap
  rw [h.free]
  refine passes_trans (passes_of_eq ?_) (passes_advance _ _)
  rw [plate_deck, hdeck, show State.plate _ = s.plate from hplate, show State.n _ = s.n from hn]
  rfl

theorem doRevert_passes (h : Slots s o d) : ((deck s).reverted o).Passes (deck s.doRevert) := by
  have hdeck := changePlate_deck h (revertInst s.plate.oldInst s.pump.inst o) (st := 3) (by decide)
  have hplate := congrArg Deck.plate hdeck
  unfold State.doRevert
  rw [h.run]
  refine passes_trans (passes_of_eq ?_) (passes_advance _ _)
  rw [plate_deck, hdeck, show State.plate _ = s.plate from hplate]
  rfl

end

/-! ## The rest of the cycle about the exchange (R17, R138, R145) -/

/-- What a swap asks of the state in its cycle: it alone is due, the part may swap, and both slots hold a plate. -/
structure SwapDue (s : State) (o d : PlateDesc) : Prop where
  due : s.plate.swapAt = some s.n
  alone : s.plate.revertAt ≠ some s.n
  may : s.maySwap = true
  slots : Slots s o d

/-- What a revert asks of the state in its cycle. -/
structure RevertDue (s : State) (o d : PlateDesc) : Prop where
  due : s.plate.revertAt = some s.n
  alone : s.plate.swapAt ≠ some s.n
  slots : Slots s o d

section
variable {s t : State} {o d : PlateDesc} (h : (deck s).Passes (deck t))
include h

theorem plate_of_passes : t.plate = s.plate := congrArg Deck.plate h.2
theorem n_of_passes : t.n = s.n := congrArg Deck.n h.2
theorem runSlot_of_passes : t.runSlot = s.runSlot := congrArg Deck.runSlot h.2
theorem maySwap_of_passes : t.maySwap = s.maySwap := by
  have hrole : t.role = s.role := congrArg Deck.role h.2
  have hmode : t.get Reg.RED_CFG_MODE = s.get Reg.RED_CFG_MODE := congrArg Deck.redMode h.2
  unfold State.maySwap State.grouped
  rw [hrole, hmode, plate_of_passes h]

theorem Slots.of_passes (g : Slots s o d) : Slots t o d := by
  have hslot (k : Nat) : t.slotPlate k = s.slotPlate k := by unfold State.slotPlate; rw [plate_of_passes h]
  have hfree : t.freeSlot = s.freeSlot := congrArg (1 - ·) (runSlot_of_passes h)
  exact ⟨runSlot_of_passes h ▸ g.runSlot, by rw [hslot, runSlot_of_passes h, g.run], by rw [hslot, hfree, g.free]⟩

theorem SwapDue.of_passes (g : SwapDue s o d) : SwapDue t o d := by
  refine ⟨?_, ?_, (maySwap_of_passes h).trans g.may, g.slots.of_passes h⟩ <;> rw [plate_of_passes h, n_of_passes h]
  exacts [g.due, g.alone]

theorem RevertDue.of_passes (g : RevertDue s o d) : RevertDue t o d := by
  refine ⟨?_, ?_, g.slots.of_passes h⟩ <;> rw [plate_of_passes h, n_of_passes h]
  exacts [g.due, g.alone]

end

theorem Deck.Passes.swapped {d e : Deck} (h : d.Passes e) (new : PlateDesc) (id : Word) : (d.swapped new id).Passes (e.swapped new id) := by
  obtain ⟨hnow, hrest⟩ := h
  refine ⟨hnow, ?_⟩
  rw [← hrest]
  rfl

theorem Deck.Passes.reverted {d e : Deck} (h : d.Passes e) (new : PlateDesc) : (d.reverted new).Passes (e.reverted new) := by
  obtain ⟨hnow, hrest⟩ := h
  refine ⟨hnow, ?_⟩
  rw [← hrest]
  rfl

theorem stepFourIn_passes (s : State) : (deck s).Passes (deck (if s.taskCycle then s.stepFour else s)) := by
  split
  · exact stepFour_passes s
  · exact passes_refl _

/-- Before the exchange only time passes. -/
theorem closeTasks_before (s : State) : ∃ t, (deck s).Passes (deck t) ∧ (deck t.swapDue.revertDue).Passes (deck s.closeTasks) := by
  refine ⟨((s.forceApply .input).runChecks).advance (if s.mode = .replay then 0 else s.paced s.forceNs), ?_, ?_⟩
  · refine passes_trans (passes_of_eq ?_) (passes_advance _ _)
    rw [runChecks_deck, forceApply_deck]
  · unfold State.closeTasks
    rw [holdStatus_deck, ← cyclePoints_deck]
    exact stepFourIn_passes _

/-- Steps 3 and 4 in the swap cycle. -/
theorem closeTasks_swap {s : State} {o d : PlateDesc} (h : SwapDue s o d) : ((deck s).swapped d o.id).Passes (deck s.closeTasks) := by
  obtain ⟨t, hbefore, hafter⟩ := closeTasks_before s
  have hdue := h.of_passes hbefore
  have hswap := doSwap_passes hdue.slots
  have hrevert : t.doSwap.revertDue = t.doSwap := by
    have hplate : t.doSwap.plate.revertAt = t.plate.revertAt := congrArg (fun d => d.plate.revertAt) hswap.2
    have hn : t.doSwap.n = t.n := congrArg Deck.n hswap.2
    exact if_neg (by rw [hplate, hn]; exact hdue.alone)
  rw [State.swapDue, if_pos hdue.due, if_pos hdue.may, hrevert] at hafter
  exact passes_trans (hbefore.swapped d o.id) (passes_trans hswap hafter)

/-- Steps 3 and 4 in the cycle of the revert. -/
theorem closeTasks_revert {s : State} {o d : PlateDesc} (h : RevertDue s o d) : ((deck s).reverted o).Passes (deck s.closeTasks) := by
  obtain ⟨t, hbefore, hafter⟩ := closeTasks_before s
  have hdue := h.of_passes hbefore
  rw [State.swapDue, if_neg hdue.alone, State.revertDue, if_pos hdue.due] at hafter
  exact passes_trans (hbefore.reverted o) (passes_trans (doRevert_passes hdue.slots) hafter)

/-! ## The close that brings the exchange (R166, R331, R333) -/

theorem passes_of_quiet {s u : State} (h : Quiet s u) : (deck s).Passes (deck u) := by
  have hregs (g : Fld) (hg : g ∈ deckFlds) : fieldOf u.regs g = fieldOf s.regs g := h.2 g 0 (by revert g; decide)
  refine ⟨(Quiet.now h).ge, ?_⟩
  unfold deck
  simp only [Quiet.n h, Quiet.plate h, Quiet.pump h]
  congr 1 <;> exact hregs _ (by decide)

theorem red_passes (s : State) (r : RedState) : (deck s).Passes (deck { s with red := r }) := ⟨le_rfl, rfl⟩

theorem unsync_passes (s : State) : (deck s).Passes (deck s.unsync) := by
  unfold State.unsync
  refine passes_trans ?_ (passes_of_quiet (healthCheck_quiet _))
  rw [set_deck _ _ _ _ (by decide)]
  exact red_passes s _

theorem missProof_passes (s : State) : (deck s).Passes (deck s.missProof) := by
  unfold State.missProof
  rw [raise_deck]
  have hflag (t : State) : deck (t.setFlag Reg.RED_STAT_PROOF_MISS true) = deck t := setFlag_deck _ _ _ _ (by decide)
  dsimp only
  split
  · refine passes_trans ?_ (unsync_passes _)
    rw [hflag]
    exact red_passes s _
  · rw [hflag]
    exact red_passes s _

theorem not_proofExpected {s : State} (hrole : (deck s).role ≠ 1) (hproof : (deck s).lastProof = false) : s.proofExpected = false := by
  have hr : s.role ≠ 1 := hrole
  have hl : s.red.lastProof = false := hproof
  simp [State.proofExpected, hr, hl]

/-- A part that takes no proof at this close goes on with step 3 at once. -/
theorem windowClose_tasks {s : State} (gpio : Word) (hopen : s.windowOpen = true) (hrole : s.role ≠ 1) (hproof : s.red.lastProof = false) :
    ∃ t, (deck s).Passes (deck t) ∧ s.windowClose gpio = t.closeTasks := by
  have hwait : ∃ t, (deck s).Passes (deck t) ∧ (deck t).lastProof = false ∧ (if s.allIn then s else s.advanceTo s.windowLimit) = t := by
    refine ⟨_, ?_, ?_, rfl⟩ <;> split
    exacts [passes_refl _, passes_advance s _, hproof, hproof]
  obtain ⟨t, hpass, hlast, ht⟩ := hwait
  have hrole' : (deck t).role ≠ 1 := by rw [show (deck t).role = s.role from congrArg Deck.role hpass.2]; exact hrole
  have hdeck : deck (t.holdStatus (t.closeInputs gpio)) = deck t := by rw [holdStatus_deck, closeInputs_deck t gpio hrole']
  refine ⟨t.holdStatus (t.closeInputs gpio), by rw [hdeck]; exact hpass, ?_⟩
  unfold State.windowClose
  rw [hopen, if_neg (by decide), ht]
  exact if_pos (by rw [not_proofExpected (by rwa [hdeck]) (by rwa [hdeck])]; rfl)

theorem proofMissed_tasks {s : State} (hwait : s.closeWaits = true) (hnone : s.proofReady = none) :
    ∃ t, (deck s).Passes (deck t) ∧ s.proofMissed = t.closeTasks := by
  refine ⟨_, passes_trans (passes_advance s _) (missProof_passes _), if_pos ?_⟩
  rw [hwait, hnone]
  rfl

theorem maySwap_of_role {s : State} (h : s.role ≠ 1) : s.maySwap = true := by simp [State.maySwap, h]

/-! ## What the statement asks after an exchange -/

/-- After the close of the input window: tasks are to run, fuses and operating state stand. -/
def Steady (s u : State) : Prop := u.fuses = s.fuses ∧ u.phase = .tasks ∧ u.mode = s.mode

theorem windowClose_steady {s : State} (gpio : Word) (hopen : s.windowOpen = true) : Steady s (s.windowClose gpio) :=
  ⟨congrArg (fun b => b.2.2.2) (windowClose_base s gpio), windowClose_phase hopen gpio, windowClose_mode s gpio⟩

theorem proofMissed_steady {s : State} (hwait : s.closeWaits = true) : Steady s s.proofMissed := by
  have hcore := proofMissed_core s
  refine ⟨congrArg (fun c : Core => c.2.2.2.1) hcore, (phase_of_core hcore).trans ?_, mode_of_core hcore⟩
  simp only [State.closeWaits, Bool.and_eq_true, decide_eq_true_eq] at hwait
  exact hwait.2

section
variable {s u : State} {o : PlateDesc} (hsteady : Steady s u)
include hsteady

/-- An exchange as the statement asks it, read off the deck. -/
theorem exchanged_spec {inst : Instances} {st : Nat} {p : PlateState}
    (h : Deck.Passes { (deck s).exchanged inst st o.id.toNat with plate := p } (deck u)) (h0 : p.slot0 = s.plate.slot0) (h1 : p.slot1 = s.plate.slot1) :
    u.get Reg.PLATE_STAT_RUN_SLOT = s.freeSlot ∧ u.slotState = st ∧ u.get Reg.PLATE_NEW_ID_ID = o.id.toNat ∧ u.pump.inst = inst
      ∧ u.pump.slow = { block := 2 } ∧ u.pump.slowOpen = false ∧ u.slotPlate 0 = s.slotPlate 0 ∧ u.slotPlate 1 = s.slotPlate 1 ∧ u.fuses = s.fuses
      ∧ u.n = s.n ∧ s.now ≤ u.now ∧ u.phase = .tasks ∧ u.mode = s.mode := by
  obtain ⟨hnow, hrest⟩ := h
  obtain ⟨hfuses, hphase, hmode⟩ := hsteady
  have hplate : u.plate = p := congrArg Deck.plate hrest
  exact ⟨congrArg Deck.runSlot hrest, congrArg Deck.slotState hrest, congrArg Deck.newId hrest, congrArg Deck.inst hrest, congrArg Deck.slow hrest,
    congrArg Deck.slowOpen hrest, by rw [State.slotPlate, if_pos rfl, hplate, h0]; rfl, by rw [State.slotPlate, if_neg (by decide), hplate, h1]; rfl,
    hfuses, congrArg Deck.n hrest, hnow, hphase, hmode⟩

end

/-! ## The end of the check, of commit and of install (R137, R142, R144) -/

/-- The NV work of the free slot has ended. -/
def ended (s : State) : State := { s with plate := { s.plate with op := .none } }

theorem plateId_of {s u : State} (hmode : u.mode = s.mode) (hcap : u.cap = s.cap) (hrun : u.runSlot = s.runSlot)
    (hslot : ∀ k, u.slotPlate k = s.slotPlate k) : u.plateId = s.plateId := by
  unfold State.plateId State.runPlate State.freeSlot
  rw [hmode, hcap, hrun, hslot, hslot]

theorem resulted_ended_runSlot (s : State) (st : Status) : (resulted (ended s) st).runSlot = s.runSlot := get_set_other _ _ _ _ _ _ (by decide)

theorem resulted_ended_freeSlot (s : State) (st : Status) : (resulted (ended s) st).freeSlot = s.freeSlot :=
  congrArg (1 - ·) (resulted_ended_runSlot s st)

/-- A plate that passed its check in the free slot. -/
def shown (t : State) (d : PlateDesc) (ok : Bool) : State :=
  (((t.setSlot t.freeSlot (some d)).set Reg.PLATE_STAT_SLOT_STATE 3).setFlag Reg.PLATE_STAT_MAP_OK ok).set Reg.PLATE_NEW_ID_ID d.id.toNat

section
variable (t : State) (d : PlateDesc) (ok : Bool)

theorem shown_slotPlate : (shown t d ok).slotPlate t.freeSlot = some d := slotPlate_setSlot_same t t.freeSlot (some d)

theorem shown_slotState : (shown t d ok).slotState = 3 := by
  unfold shown State.slotState
  rw [get_set_other _ _ _ _ _ _ (by decide), get_setFlag_other _ _ _ _ _ _ (by decide), get_set_same]
  rfl

theorem shown_result : (shown t d ok).get Reg.PLATE_STAT_RESULT = t.get Reg.PLATE_STAT_RESULT := by
  unfold shown
  rw [get_set_other _ _ _ _ _ _ (by decide), get_setFlag_other _ _ _ _ _ _ (by decide), get_set_other _ _ _ _ _ _ (by decide)]
  rfl

theorem shown_newId : (shown t d ok).get Reg.PLATE_NEW_ID_ID = d.id.toNat := (get_set_same _ _ _ _).trans (Nat.mod_eq_of_lt d.id.isLt)

theorem shown_mapOk : (shown t d ok).flag Reg.PLATE_STAT_MAP_OK = ok := by
  unfold shown
  rw [flag_set_other _ _ _ _ _ _ (by decide), flag_setFlag_same _ _ _ _ (by decide)]

theorem shown_op : (shown t d ok).plate.op = t.plate.op := by
  have hrest := congrArg PlateState.op (setSlot_plate_rest t t.freeSlot (some d))
  exact hrest

theorem noPlate_shown (s : State) : noPlate s (shown t d ok) = noPlate s t := by
  unfold shown
  rw [noPlate_set, noPlate_setFlag, noPlate_set, noPlate_setSlot]

end

section
variable {s : State} {v : Verdict} {d : PlateDesc} (hop : s.plate.op = .verify)
include hop

theorem plateVerifyDone_passed (hok : (s.plateCheck v d).1 = .done) :
    s.plateVerifyDone v d = shown (resulted (ended s) .done) d (mapOk d s.plateId) := by
  have hid : (resulted (ended s) .done).plateId = s.plateId := plateId_of rfl rfl (resulted_ended_runSlot s _) fun _ => rfl
  unfold State.plateVerifyDone
  rw [if_neg (not_not_intro hop)]
  dsimp only
  rw [if_pos hok, hok, ← hid]
  rfl

theorem plateVerifyDone_failed (hbad : (s.plateCheck v d).1 ≠ .done) :
    s.plateVerifyDone v d = ((resulted (ended s) (s.plateCheck v d).1).emptySlot 0).verifyEvents (s.plateCheck v d).2 :=
  (if_neg (not_not_intro hop)).trans (if_neg hbad)

end

/-- A plate in the NV store. -/
def inNv (d : PlateDesc) : Option (PlateDesc × Verdict) := some (d, { sigOk := true, structOk := true })

/-- Slot k's plate in NV, with the pointer at it. -/
def stored (s : State) (k : Nat) (d : PlateDesc) : State := ((ended s).setNvPlate k (inNv d)).set Reg.PLATE_STAT_COMMIT_SLOT k

section
variable (s : State) (k : Nat) (d : PlateDesc)

theorem stored_nv : (if k = 0 then (stored s k d).plate.nv0 else (stored s k d).plate.nv1) = inNv d := by
  unfold stored State.setNvPlate
  split <;> rfl

theorem stored_plate : (stored s k d).plate.slot0 = s.plate.slot0 ∧ (stored s k d).plate.slot1 = s.plate.slot1
    ∧ (stored s k d).plate.op = .none := by
  unfold stored State.setNvPlate
  by_cases hk : k = 0
  · rw [if_pos hk]; exact ⟨rfl, rfl, rfl⟩
  · rw [if_neg hk]; exact ⟨rfl, rfl, rfl⟩

theorem stored_slotPlate (j : Nat) : (stored s k d).slotPlate j = s.slotPlate j := by
  obtain ⟨h0, h1, -⟩ := stored_plate s k d
  unfold State.slotPlate
  rw [h0, h1]

theorem stored_commitSlot (h : k ≤ 1) : (stored s k d).get Reg.PLATE_STAT_COMMIT_SLOT = k :=
  (get_set_same _ _ _ _).trans (Nat.mod_eq_of_lt (Nat.lt_succ_of_le h))

theorem stored_runSlot : (stored s k d).runSlot = s.runSlot := get_set_other _ _ _ _ _ _ (by decide)

theorem noPlate_stored : noPlate s (stored s k d) = s := by
  unfold stored
  rw [noPlate_set]
  rfl

end

section
variable {s : State} {d : PlateDesc} (hdip : s.flag Reg.PWR_STAT_DIP = false)
include hdip

theorem plateCommitDone_stored (hop : s.plate.op = .commit) (hrun : s.runPlate = some d) :
    s.plateCommitDone = ((stored s s.runSlot d).raise 0x0406).emptySlot 0 := by
  unfold State.plateCommitDone
  rw [if_neg (by simp [hop, hdip]), hrun]
  rfl

theorem plateInstallDone_stored (hop : s.plate.op = .install) (hfree : s.slotPlate s.freeSlot = some d) :
    s.plateInstallDone = { stored s s.freeSlot d with pump := { s.pump with restartReq := some (true, s.boundarySkip) } } := by
  unfold State.plateInstallDone
  rw [if_neg (by simp [hop, hdip]), hfree]
  rfl

end

/-! ## An event recorded before or after -/

section
variable {s e u : State} (hq : Quiet e u)
include hq

theorem Quiet.slotPlate (k : Nat) : u.slotPlate k = e.slotPlate k := by
  unfold State.slotPlate
  rw [Quiet.plate hq]

theorem Quiet.runSlot : u.runSlot = e.runSlot := hq.2 _ 0 (by decide)

theorem Quiet.quietRest_noPlate (h : noPlate s e = s) : { u.quietRest with plate := s.plate } = s.quietRest := by
  rw [hq.1]
  exact congrArg State.quietRest h

end

/-- PLATE_COMMIT_DONE: the running plate is in NV, and the free slot empty. -/
theorem commitDone_spec {s e : State} {o : PlateDesc} (hq : Quiet (stored s s.runSlot o) e) (hslot : s.runSlot ≤ 1) :
    let u := e.emptySlot 0
    (if s.runSlot = 0 then u.plate.nv0 else u.plate.nv1) = inNv o ∧ u.get Reg.PLATE_STAT_COMMIT_SLOT = s.runSlot
      ∧ u.slotState = 0 ∧ u.plate.op = .none ∧ u.slotPlate s.runSlot = s.slotPlate s.runSlot ∧ u.slotPlate s.freeSlot = none
      ∧ { u.quietRest with plate := s.plate } = s.quietRest := by
  intro u
  have hrest := emptySlot_plate_rest e 0
  have hrun : e.runSlot = s.runSlot := (Quiet.runSlot hq).trans (stored_runSlot s _ o)
  have hfree : e.freeSlot = s.freeSlot := congrArg (1 - ·) hrun
  have hplate := Quiet.plate hq
  have hnv0 : u.plate.nv0 = (stored s s.runSlot o).plate.nv0 := by have h := congrArg PlateState.nv0 hrest; rw [← hplate]; exact h
  have hnv1 : u.plate.nv1 = (stored s s.runSlot o).plate.nv1 := by have h := congrArg PlateState.nv1 hrest; rw [← hplate]; exact h
  have hop : u.plate.op = (stored s s.runSlot o).plate.op := by have h := congrArg PlateState.op hrest; rw [← hplate]; exact h
  refine ⟨by rw [hnv0, hnv1, stored_nv], ?_, emptySlot_slotState e 0 (by decide), hop.trans (stored_plate s _ o).2.2, ?_, ?_, ?_⟩
  · rw [emptySlot_regsBut e 0 _ 0 (by decide), hq.2 _ 0 (by decide), stored_commitSlot s _ o hslot]
  · rw [← hrun, emptySlot_run e 0, hrun, Quiet.slotPlate hq, stored_slotPlate]
  · rw [← hfree, emptySlot_free e 0]
  · have hempty := congrArg State.quietRest (noPlate_emptySlot s e 0)
    exact hempty.trans (Quiet.quietRest_noPlate hq (noPlate_stored s _ o))

/-- PLATE_VERIFY_DONE of a plate that fails its check: the slot is empty, and RESULT says why. -/
theorem verifyFailed_spec {s u : State} {st : Status} (hq : Quiet ((resulted (ended s) st).emptySlot 0) u) :
    u.slotPlate s.freeSlot = none ∧ u.slotState = 0 ∧ u.get Reg.PLATE_STAT_RESULT = st.code ∧ u.plate.op = .none
      ∧ { u.quietRest with plate := s.plate } = s.quietRest := by
  have hrest := congrArg PlateState.op (emptySlot_plate_rest (resulted (ended s) st) 0)
  refine ⟨?_, ?_, ?_, ?_, Quiet.quietRest_noPlate hq ?_⟩
  · rw [Quiet.slotPlate hq, ← resulted_ended_freeSlot s st, emptySlot_free]
  · exact (hq.2 _ 0 (by decide)).trans (emptySlot_slotState _ 0 (by decide))
  · rw [hq.2 _ 0 (by decide), emptySlot_regsBut _ 0 _ 0 (by decide), resulted, get_set_same]
    exact Nat.mod_eq_of_lt (code_lt st)
  · rw [Quiet.plate hq]
    exact hrest
  · rw [noPlate_emptySlot, resulted, noPlate_set]
    rfl

/-- A cold restart asked for is all that changes in the pump block. -/
theorem restartAsked_rest {s v : State} (h : noPlate s v = s) (q : Option (Bool × Nat)) :
    let u := { v with pump := { s.pump with restartReq := q } }
    { u with regs := s.regs, plate := s.plate, pump := { u.pump with restartReq := s.pump.restartReq } } = s :=
  congrArg (fun w : State => { w with pump := s.pump }) h

theorem not_due {b : Bool} {p : Prop} [Decidable p] (h : b = false ∨ ¬ p) : ¬ (b && decide p) = true := by
  rw [Bool.and_eq_true, decide_eq_true_eq, not_and_or, Bool.not_eq_true]
  exact h

/-- Settles O43. Swap and revert: `windowClose_tasks` (or `proofMissed_tasks`) brings steps 3 and 4, `closeTasks_swap` and
`closeTasks_revert` say what they leave of the deck. -/
theorem plateEvents : Obligations.PlateEvents := by
  intro s v d o r swapped plates alone swap
  have slots_of (h : plates) : Slots s o d := ⟨h.1, h.2.1, h.2.2⟩
  have swap_of {u : State} (hsteady : Steady s u) (h : ((deck s).swapped d o.id).Passes (deck u)) : swap u :=
    have hplate : u.plate = _ := congrArg Deck.plate h.2
    ⟨exchanged_spec hsteady h rfl rfl, by rw [hplate]; rfl, by rw [hplate]; rfl, by rw [hplate]; rfl⟩
  refine ⟨fun hop hok => ?_, fun hop hbad => ?_, fun hopen hdue hother hactive hplates => ?_, fun hwait hnone hdue hother hmay hplates => ?_,
    fun hopen hdue hother hactive hplates => ?_, fun h => ?_, fun h => ?_, fun hop hdip hslot hrun => ?_, fun hop hdip hslot hfree => ?_,
    fun hdip => ?_⟩
  -- PLATE_VERIFY_DONE
  · refine ⟨_, congrArg Host.Outcome.next (plateVerifyDone_passed hop hok), ?_⟩
    refine ⟨?_, shown_slotState _ _ _, (shown_result _ _ _).trans (get_set_same _ _ _ _), shown_newId _ _ _, shown_mapOk _ _ _, shown_op _ _ _,
      noPlate_shown _ _ _ s⟩
    rw [← resulted_ended_freeSlot s .done, shown_slotPlate]
  · exact ⟨_, congrArg Host.Outcome.next (plateVerifyDone_failed hop hbad), verifyFailed_spec (verifyEvents_quiet _ _)⟩
  -- PLATE_SWAP, and PROOF_MISS in its place
  · obtain ⟨t, hpass, ht⟩ := windowClose_tasks s.time.gpio hopen hactive.1 hactive.2
    have hafter := closeTasks_swap (SwapDue.of_passes hpass ⟨hdue, hother, maySwap_of_role hactive.1, slots_of hplates⟩)
    refine ⟨s.windowClose s.time.gpio, congrArg Host.Outcome.next (if_pos (by simp [hopen, hdue])), swap_of (windowClose_steady _ hopen) ?_⟩
    rw [ht]
    exact passes_trans (hpass.swapped d o.id) hafter
  · obtain ⟨t, hpass, ht⟩ := proofMissed_tasks hwait hnone
    have hafter := closeTasks_swap (SwapDue.of_passes hpass ⟨hdue, hother, hmay, slots_of hplates⟩)
    refine ⟨s.proofMissed, rfl, swap_of (proofMissed_steady hwait) ?_⟩
    rw [ht]
    exact passes_trans (hpass.swapped d o.id) hafter
  -- PLATE_REVERT_APPLY
  · obtain ⟨t, hpass, ht⟩ := windowClose_tasks s.time.gpio hopen hactive.1 hactive.2
    have hafter := closeTasks_revert (RevertDue.of_passes hpass ⟨hdue, hother, slots_of hplates⟩)
    have hrevert : ((deck s).reverted o).Passes (deck (s.windowClose s.time.gpio)) := by
      rw [ht]
      exact passes_trans (hpass.reverted o) hafter
    have hplate : (s.windowClose s.time.gpio).plate = _ := congrArg Deck.plate hrevert.2
    exact ⟨_, congrArg Host.Outcome.next (if_pos (by simp [hopen, hdue])), exchanged_spec (windowClose_steady _ hopen) hrevert rfl rfl,
      by rw [hplate]; rfl⟩
  -- neither is due
  · exact ⟨s, congrArg Host.Outcome.next (if_neg (not_due h)), rfl⟩
  · exact ⟨s, congrArg Host.Outcome.next (if_neg (not_due h)), rfl⟩
  -- PLATE_COMMIT_DONE, PLATE_INSTALL_DONE
  · exact ⟨_, congrArg Host.Outcome.next (plateCommitDone_stored hdip hop hrun), commitDone_spec (raise_quiet _ _) hslot⟩
  · refine ⟨_, congrArg Host.Outcome.next (plateInstallDone_stored hdip hop hfree), stored_nv s _ d, stored_commitSlot s _ d (Nat.sub_le 1 _), rfl,
      (stored_plate s _ d).2.2, ?_⟩
    exact restartAsked_rest (noPlate_stored s s.freeSlot d) _
  · exact ⟨⟨s, congrArg Host.Outcome.next (if_pos (.inr hdip)), rfl⟩, ⟨s, congrArg Host.Outcome.next (if_pos (.inr hdip)), rfl⟩⟩

end Sys2Proof.Proofs
end

section
/-! Measurements of the sources of time, and the states of PTP ports (R176 to R178, R187). -/

namespace Sys2Proof.Proofs
open Sys2Proof Sys2Proof.Machine Sys2Proof.Laws

/-! ## What a measurement leaves alone (R176 to R178) -/

/-- The time base, points, pump, fuses and operating state of s stand in u. -/
def Still (s u : State) : Prop := u.now = s.now ∧ u.points = s.points ∧ u.pump = s.pump ∧ u.fuses = s.fuses ∧ u.mode = s.mode

theorem still_refl (s : State) : Still s s := ⟨rfl, rfl, rfl, rfl, rfl⟩

theorem still_trans {a b c : State} (h : Still a b) (g : Still b c) : Still a c := by
  obtain ⟨h1, h2, h3, h4, h5⟩ := h
  obtain ⟨g1, g2, g3, g4, g5⟩ := g
  exact ⟨g1.trans h1, g2.trans h2, g3.trans h3, g4.trans h4, g5.trans h5⟩

/-- The part of a state that no measurement of a source and no choice of one changes. -/
def unmeasured (s : State) : State := { s.quietRest with slew := {}, time := { s.time with offset := 0, stepReq := false } }

theorem unmeasured_of_quietRest {s u : State} (h : u.quietRest = s.quietRest) : unmeasured u = unmeasured s :=
  congrArg (fun r : State => { r with slew := {}, time := { r.time with offset := 0, stepReq := false } }) h

theorem still_of_unmeasured {s u : State} (h : unmeasured u = unmeasured s) : Still s u :=
  ⟨(congrArg State.now h :), (congrArg State.points h :), (congrArg State.pump h :), (congrArg State.fuses h :), (congrArg State.mode h :)⟩

theorem set_unmeasured (s : State) (f : Fld) (v i : Nat) : unmeasured (s.set f v i) = unmeasured s := rfl

theorem setFlag_unmeasured (s : State) (f : Fld) (b : Bool) (i : Nat) : unmeasured (s.setFlag f b i) = unmeasured s := rfl

theorem raise_unmeasured (s : State) (c : Nat) : unmeasured (s.raise c) = unmeasured s := unmeasured_of_quietRest (raise_quiet s c).1

theorem selectSource_unmeasured (s : State) : unmeasured s.selectSource = unmeasured s := by
  unfold State.selectSource
  split
  · rfl
  · dsimp only
    split
    · rfl
    · rw [raise_unmeasured]
      split <;> simp only [setFlag_unmeasured, set_unmeasured]

theorem lockCheck_unmeasured (s : State) (off : Int) : unmeasured (s.lockCheck off) = unmeasured s := by
  unfold State.lockCheck
  dsimp only
  split <;> simp only [setFlag_unmeasured]

theorem slewTo_unmeasured (s : State) (off rate : Int) : unmeasured (s.slewTo off rate) = unmeasured s := rfl

theorem discipline_unmeasured (s : State) (off rate : Int) : unmeasured (s.discipline off rate) = unmeasured s := by
  unfold State.discipline
  dsimp only
  split
  · rw [lockCheck_unmeasured, raise_unmeasured]
    rfl
  · split
    · rfl
    · rw [lockCheck_unmeasured, slewTo_unmeasured]
      rfl

theorem measure_unmeasured (s : State) (c : Nat) (off rate : Int) : unmeasured (s.measure c off rate) = unmeasured s := by
  unfold State.measure
  dsimp only
  split
  · rw [discipline_unmeasured, selectSource_unmeasured]
  · exact selectSource_unmeasured s

/-! ## PTP ports (R187) -/

section
variable (x : PtpPort) (v : Nat)

theorem enter_state : (x.enter v).state = v := by
  unfold PtpPort.enter
  split
  · assumption
  · rfl

theorem enter_enter : (x.enter v).enter v = x.enter v := if_pos (enter_state x v)

/-- A port in a new state keeps its master and its numbers. -/
theorem enter_kept : (x.enter v).master = x.master ∧ (x.enter v).announces = x.announces ∧ (x.enter v).announceAt = x.announceAt
    ∧ (x.enter v).seqSync = x.seqSync ∧ (x.enter v).seqAnnounce = x.seqAnnounce ∧ (x.enter v).seqReq = x.seqReq := by
  unfold PtpPort.enter
  split <;> exact ⟨rfl, rfl, rfl, rfl, rfl, rfl⟩

end

/-- A state without the records of its PTP ports. -/
def portless (s : State) : State := { s with time := { s.time with ports := [] } }

theorem still_of_portless {s u : State} (h : portless u = portless s) : Still s u :=
  ⟨(congrArg State.now h :), (congrArg State.points h :), (congrArg State.pump h :), (congrArg State.fuses h :), (congrArg State.mode h :)⟩

section
variable (s : State) (p : Nat) (x : PtpPort)

theorem setPtpPort_portless : portless (s.setPtpPort p x) = portless s := rfl

theorem setPtpPort_ptpSent : (s.setPtpPort p x).time.ptpSent = s.time.ptpSent := rfl

theorem ptpPort_setPtpPort_same : (s.setPtpPort p x).ptpPort p = x := storeGet_put_same ..

theorem ptpPort_setPtpPort_other {j : Nat} (h : j ≠ p) : (s.setPtpPort p x).ptpPort j = s.ptpPort j := storeGet_put_other _ _ _ h

end

/-- Ports of a list that enter states one after another. -/
theorem foldl_enter (g : Nat → Nat) (l : List Nat) (s : State) :
    portless (l.foldl (fun t p => t.setPtpPort p ((t.ptpPort p).enter (g p))) s) = portless s
    ∧ ∀ p, (l.foldl (fun t p => t.setPtpPort p ((t.ptpPort p).enter (g p))) s).ptpPort p
        = if p ∈ l then (s.ptpPort p).enter (g p) else s.ptpPort p := by
  induction l generalizing s with
  | nil => exact ⟨rfl, fun _ => rfl⟩
  | cons q l ih =>
    obtain ⟨honly, hport⟩ := ih (s.setPtpPort q ((s.ptpPort q).enter (g q)))
    refine ⟨honly, fun p => ?_⟩
    rw [List.foldl_cons, hport]
    by_cases hq : p = q
    · subst hq
      rw [ptpPort_setPtpPort_same, enter_enter, ite_self, if_pos List.mem_cons_self]
    · simp only [ptpPort_setPtpPort_other _ _ _ hq, List.mem_cons, hq, false_or]

theorem ptpDecideAll_portless (s : State) : portless s.ptpDecideAll = portless s := (foldl_enter _ _ s).1

section
variable {s : State} {p : Nat}

theorem ptpOn_iff : s.ptpOn p = true ↔
    s.portsUp = true ∧ p < 16 ∧ s.flag Reg.TSU_PORT_PTP_PTP_EN p = true ∧ s.ringPort p = false := by
  simp only [State.ptpOn, Bool.and_eq_true, decide_eq_true_eq, Bool.not_eq_true', and_assoc]

/-- A port that takes part is one of those whose states are decided. -/
theorem mem_ptpPorts (hon : s.ptpOn p = true) : p ∈ (List.range 16).filter s.ptpOn :=
  List.mem_filter.2 ⟨List.mem_range.2 (ptpOn_iff.1 hon).2.1, hon⟩

theorem ptpPort_ptpDecideAll (hon : s.ptpOn p = true) :
    s.ptpDecideAll.ptpPort p = (s.ptpPort p).enter (s.ptpDecide s.bestForeign p) :=
  ((foldl_enter _ _ s).2 p).trans (if_pos (mem_ptpPorts hon))

end

/-! ## The best master (R187) -/

/-- The better of a candidate and the foreign master of a port. -/
def betterPort (s : State) (b : Option (Nat × PtpMaster × BitVec 64 × BitVec 16)) (p : Nat) : Option (Nat × PtpMaster × BitVec 64 × BitVec 16) :=
  match s.foreign p, b with
  | some m, some c => if betterMaster m c.2 then some (p, m) else some c
  | some m, none => some (p, m)
  | none, _ => b

theorem bestForeign_eq (s : State) : s.bestForeign = ((List.range 16).filter s.ptpOn).foldl (betterPort s) none := rfl

section
variable {s : State} {p : Nat} {m : PtpMaster × BitVec 64 × BitVec 16} (hforeign : s.foreign p = some m)
  (hothers : ∀ j, j ≠ p → s.foreign j = none)
include hforeign hothers

/-- The only foreign master stays the best. -/
theorem betterPort_only (j : Nat) : betterPort s (some (p, m)) j = some (p, m) := by
  unfold betterPort
  by_cases hj : j = p
  · subst hj
    rw [hforeign]
    exact ite_self _
  · rw [hothers j hj]

theorem foldl_betterPort_only (l : List Nat) (h : p ∈ l) : l.foldl (betterPort s) none = some (p, m) := by
  induction l with
  | nil => cases h
  | cons j l ih =>
    rw [List.foldl_cons]
    by_cases hj : j = p
    · subst hj
      have hfirst : betterPort s none j = some (j, m) := by
        unfold betterPort
        rw [hforeign]
      rw [hfirst]
      exact List.foldl_fixed' (betterPort_only hforeign hothers) l
    · have hnone : betterPort s none j = none := by
        unfold betterPort
        rw [hothers j hj]
      rw [hnone]
      exact ih ((List.mem_cons.1 h).resolve_left (Ne.symm hj))

theorem bestForeign_only (hon : s.ptpOn p = true) : s.bestForeign = some (p, m) :=
  (bestForeign_eq s).trans (foldl_betterPort_only hforeign hothers _ (mem_ptpPorts hon))

end

/-- The port of the best foreign master becomes slave where the own clock is no better. -/
theorem ptpDecide_slave {s : State} {p : Nat} {m : PtpMaster × BitVec 64 × BitVec 16}
    (h : lexLt (ptpRank s.ownMaster) (ptpRank m.1) = false) : s.ptpDecide (some (p, m)) p = 2 := by
  unfold State.ptpDecide
  dsimp only
  rw [h, Bool.and_false, if_neg Bool.false_ne_true, if_pos rfl]

end Sys2Proof.Proofs
end

section
/-! Messages of PTP, edges of PPS and discrete inputs, timeouts of the sources (R176 to R181, R187, R188, R405); the statement on
them (O51). -/

namespace Sys2Proof.Proofs
open Sys2Proof Sys2Proof.Machine Sys2Proof.Laws

/-! ## Time passes -/

theorem advanceTo_now (s : State) (t : Nat) : (s.advanceTo t).now = max s.now t := by
  simp only [State.advanceTo, State.advance]
  omega

theorem up_le_advanceTo (s : State) (t : Nat) : s.up ≤ (s.advanceTo t).up := Nat.le_add_right _ _

/-- A state with another time block. -/
def retimed (s : State) (t : TimeState) : State := { s with time := t }

theorem still_retimed (s : State) (t : TimeState) : Still s (retimed s t) := ⟨rfl, rfl, rfl, rfl, rfl⟩

/-- A state that has sent no PTP message. -/
def unsent (s : State) : State := retimed s { s.time with ptpSent := [] }

/-! ## A message that arrives (R154, R157, R187) -/

/-- A port takes a message of PTP: it takes part, and the message is of its transport and domain and another clock's. -/
def PtpTakes (s : State) (p : Nat) (m : PtpMessage) : Prop :=
  s.ptpOn p = true ∧ s.strayDatagram p m.udp = false ∧ m.udp.isSome = s.flag Reg.TSU_PORT_PTP_UDP p
    ∧ m.domain.toNat = s.get Reg.TSU_PTP_CFG_DOMAIN ∧ m.clock ≠ s.clockId

/-- The state in which a port takes a message: its stamp is reached, nothing has been sent yet. -/
def ptpArrived (s : State) (m : PtpMessage) : State := (unsent s).stampReached m.stamp

section
variable {s : State} {p : Nat} {m : PtpMessage}

theorem not_ptpTakes_iff : (!s.ptpOn p ∨ s.strayDatagram p m.udp = true ∨ m.udp.isSome ≠ s.flag Reg.TSU_PORT_PTP_UDP p
      ∨ m.domain.toNat ≠ s.get Reg.TSU_PTP_CFG_DOMAIN ∨ m.clock = s.clockId) ↔ ¬ PtpTakes s p m := by
  simp only [PtpTakes, not_and_or, Bool.not_eq_true', Bool.not_eq_true, Bool.not_eq_false, ne_eq, not_not]

theorem ptpMessage_ring (hup : s.portsUp = true) (hport : p < 16) (hring : s.ringPort p = true) : s.ptpMessage p m = s.stnBad :=
  if_pos (by simp only [hup, hport, hring, decide_true, Bool.and_self])

theorem ptpMessage_dropped (hring : s.ringPort p = false) (h : ¬ PtpTakes s p m) : s.ptpMessage p m = s :=
  (if_neg (by simp only [hring, Bool.and_false, Bool.false_eq_true, not_false_eq_true])).trans (if_pos (not_ptpTakes_iff.2 h))

theorem ptpMessage_taken (h : PtpTakes s p m) : s.ptpMessage p m = (ptpArrived s m).ptpTake p m :=
  (if_neg (by simp only [(ptpOn_iff.1 h.1).2.2.2, Bool.and_false, Bool.false_eq_true, not_false_eq_true])).trans
    (if_neg (mt not_ptpTakes_iff.1 (not_not_intro h)))

/-! ## What each type of message comes to -/

theorem ptpTake_announce {d : PtpMaster} (htype : m.type = 11) (hmaster : m.master = some d) : s.ptpTake p m = s.ptpAnnounce p m d := by
  unfold State.ptpTake
  rw [htype, hmaster]
  rfl

theorem ptpTake_sync (htype : m.type = 0) (hone : m.twoStep = false) (hparent : s.fromParent p m = true) :
    s.ptpTake p m = s.ptpOffset p (m.time + correctionNs m.correction) (s.ptpArrival p m) := by
  unfold State.ptpTake
  rw [htype, hone, hparent]
  rfl

theorem ptpTake_stranger (htype : m.type = 0) (hparent : s.fromParent p m = false) : s.ptpTake p m = s := by
  unfold State.ptpTake
  rw [htype, hparent]
  rfl

theorem ptpTake_delayReq (htype : m.type = 1) (hmaster : s.ptpState p = 1) (hdelay : s.flag Reg.TSU_PORT_PTP_P2P p = false) :
    s.ptpTake p m = s.ptpSend p (s.ptpReply p 9 m (s.ptpArrival p m).toNat m.correction) := by
  unfold State.ptpTake
  rw [htype]
  exact if_pos ⟨hmaster, hdelay⟩

end

/-! ## Announces -/

/-- A port that has heard its best master n times, last at an instant of elapsed time. -/
def heard (x : PtpPort) (master : PtpMaster × BitVec 64 × BitVec 16) (n up : Nat) : PtpPort :=
  { x with master := some master, announces := n, announceAt := up }

section
variable {s : State} {p : Nat} {m : PtpMessage} {d : PtpMaster}

theorem ptpAnnounce_first (h : (s.ptpPort p).master = none) :
    s.ptpAnnounce p m d = (s.setPtpPort p (heard (s.ptpPort p) (d, m.clock, m.clockPort) 1 s.up)).ptpDecideAll := by
  unfold State.ptpAnnounce
  simp only [h]
  rfl

theorem ptpAnnounce_again {o : PtpMaster} (h : (s.ptpPort p).master = some (o, m.clock, m.clockPort)) (hnum : 1 ≤ (s.ptpPort p).announces)
    (hfresh : s.up ≤ (s.ptpPort p).announceAt + 4 * s.announceNs) :
    s.ptpAnnounce p m d = (s.setPtpPort p (heard (s.ptpPort p) (d, m.clock, m.clockPort) 2 s.up)).ptpDecideAll := by
  have htwo : min 2 ((s.ptpPort p).announces + 1) = 2 := by omega
  unfold State.ptpAnnounce
  simp only [h, hfresh, decide_true, if_true, htwo]
  rfl

variable (new : PtpMaster × BitVec 64 × BitVec 16) (n : Nat)

/-- The state decision keeps what the port has heard. -/
theorem heard_decided (hon : s.ptpOn p = true) :
    let u := (s.setPtpPort p (heard (s.ptpPort p) new n s.up)).ptpDecideAll
    (u.ptpPort p).master = some new ∧ (u.ptpPort p).announces = n ∧ (u.ptpPort p).announceAt = u.up ∧ Still s u := by
  intro u
  have hpart : portless u = portless s := (ptpDecideAll_portless _).trans (setPtpPort_portless ..)
  have hport : u.ptpPort p = _ := ptpPort_ptpDecideAll (s := s.setPtpPort p _) hon
  rw [ptpPort_setPtpPort_same] at hport
  obtain ⟨hmaster, hnum, hat, -⟩ := enter_kept (heard (s.ptpPort p) new n s.up) _
  have hup : u.up = s.up := (congrArg State.up hpart :)
  rw [hport, hup]
  exact ⟨hmaster, hnum, hat, still_of_portless hpart⟩

theorem foreign_heard : (s.setPtpPort p (heard (s.ptpPort p) new 2 s.up)).foreign p = some new := by
  unfold State.foreign
  rw [ptpPort_setPtpPort_same]
  exact if_pos ⟨le_rfl, Nat.le_add_right ..⟩

/-- A port without a foreign master has none later while it hears no Announce. -/
theorem foreign_later {s v : State} {j : Nat} (hport : v.ptpPort j = s.ptpPort j) (hup : s.up ≤ v.up)
    (hlimit : v.announceLimit = s.announceLimit) (h : s.foreign j = none) : v.foreign j = none := by
  unfold State.foreign at *
  rw [hport, hlimit]
  split
  · next hv =>
    obtain ⟨htwo, hin⟩ := hv
    rwa [if_pos ⟨htwo, hup.trans hin⟩] at h
  · rfl

/-- The second Announce of the only master makes the port the slave port, where the own clock is no better. -/
theorem heard_slave (hon : s.ptpOn p = true) (hothers : ∀ j, j ≠ p → s.foreign j = none)
    (hrank : lexLt (ptpRank s.ownMaster) (ptpRank new.1) = false) :
    (s.setPtpPort p (heard (s.ptpPort p) new 2 s.up)).ptpDecideAll.ptpState p = 2 := by
  have hbest : (s.setPtpPort p (heard (s.ptpPort p) new 2 s.up)).bestForeign = some (p, new) :=
    bestForeign_only (foreign_heard new)
      (fun j hj => foreign_later (ptpPort_setPtpPort_other _ _ _ hj) le_rfl rfl (hothers j hj)) hon
  unfold State.ptpState
  rw [ptpPort_ptpDecideAll (s := s.setPtpPort p _) hon, enter_state, hbest]
  exact ptpDecide_slave hrank

end

/-! ## A Sync (R177, R187) -/

/-- A port that has a complete Sync. -/
def synced (x : PtpPort) (origin arrival : Int) (up : Nat) : PtpPort :=
  { x with syncLast := some (origin, arrival), syncAt := some up, syncWait := none }

section
variable {s : State} {p : Nat} (origin arrival : Int) (hin : s.up ≤ (s.ptpPort p).announceAt + s.announceLimit)
include hin

theorem ptpOffset_unmeasured : unmeasured (s.ptpOffset p origin arrival) = unmeasured (retimed s { s.time with
    ports := storePut s.time.ports p (synced (s.ptpPort p) origin arrival s.up),
    ptpAvail := true, ptpOffset := arrival - origin - (s.ptpPort p).delay - s.ptpAsym p }) :=
  (congrArg unmeasured (if_pos hin)).trans (measure_unmeasured ..)

theorem ptpOffset_spec :
    let u := s.ptpOffset p origin arrival
    u.time.ptpAvail = true ∧ u.time.ptpOffset = arrival - origin - (s.ptpPort p).delay - s.ptpAsym p
      ∧ (u.ptpPort p).syncAt = some u.up ∧ Still s u := by
  intro u
  have h := ptpOffset_unmeasured origin arrival hin
  have hup : u.up = s.up := (congrArg State.up h :)
  have hports : u.time.ports = storePut s.time.ports p (synced (s.ptpPort p) origin arrival s.up) :=
    (congrArg (fun r : State => r.time.ports) h :)
  refine ⟨(congrArg (fun r : State => r.time.ptpAvail) h :), (congrArg (fun r : State => r.time.ptpOffset) h :), ?_,
    still_trans (still_retimed ..) (still_of_unmeasured h)⟩
  unfold State.ptpPort
  rw [hports, storeGet_put_same, hup]
  rfl

end

/-! ## Messages that leave (R184, R187) -/

theorem still_of_linkSent {s u : State} (h : LinkSent s u) : Still s u := by
  obtain ⟨h, -⟩ := h
  exact ⟨(congrArg State.now h :), (congrArg State.points h :), (congrArg State.pump h :), (congrArg State.fuses h :), (congrArg State.mode h :)⟩

/-- Message x noted as sent from port p; the number of its frame is drawn. -/
def noted (s : State) (p : Nat) (x : PtpMessage) : State := retimed (s.draw 16).2 { s.time with ptpSent := s.time.ptpSent ++ [(p, x)] }

theorem ptpSend_eq (s : State) (p : Nat) (m : PtpMessage) : ∃ udp d, udp.isSome = s.flag Reg.TSU_PORT_PTP_UDP p
    ∧ s.ptpSend p m = (noted s p { m with udp := udp }).transmit 3 d := by
  refine ⟨_, _, ?_, rfl⟩
  cases s.flag Reg.TSU_PORT_PTP_UDP p <;> rfl

/-- A message handed over is noted with its address; the PTP ports stay. -/
theorem ptpSend_spec (s : State) (p : Nat) (m : PtpMessage) : ∃ udp : Option (BitVec 32), udp.isSome = s.flag Reg.TSU_PORT_PTP_UDP p
    ∧ (s.ptpSend p m).time.ptpSent = s.time.ptpSent ++ [(p, { m with udp := udp })] ∧ (s.ptpSend p m).time.ports = s.time.ports
    ∧ Still s (s.ptpSend p m) := by
  obtain ⟨udp, d, hudp, hsend⟩ := ptpSend_eq s p m
  have hsent := transmit_linkSent (noted s p { m with udp := udp }) 3 d
  rw [hsend]
  refine ⟨udp, hudp, (congrArg (fun r : State => r.time.ptpSent) hsent.1 :), (congrArg (fun r : State => r.time.ports) hsent.1 :),
    still_trans ?_ (still_of_linkSent hsent)⟩
  exact ⟨rfl, rfl, rfl, rfl, rfl⟩

/-- A message noted with its port, its address left out. -/
def unaddressed (e : Nat × PtpMessage) : Nat × PtpMessage := (e.1, { e.2 with udp := none })

/-- Messages handed over one after another. -/
theorem foldl_ptpSend (p : Nat) (l : List PtpMessage) (s : State) :
    let u := l.foldl (fun u m => u.ptpSend p m) s
    u.time.ptpSent.map unaddressed = s.time.ptpSent.map unaddressed ++ l.map (fun a => unaddressed (p, a))
      ∧ u.time.ports = s.time.ports ∧ Still s u := by
  induction l generalizing s with
  | nil => exact ⟨(List.append_nil _).symm, rfl, still_refl s⟩
  | cons m l ih =>
    obtain ⟨udp, -, hnoted, hkept, hstill⟩ := ptpSend_spec s p m
    obtain ⟨hsent, hports, hrest⟩ := ih (s.ptpSend p m)
    refine ⟨hsent.trans ?_, hports.trans hkept, still_trans hstill hrest⟩
    rw [hnoted, List.map_append, List.append_assoc]
    rfl

theorem ptpDecideAll_unsent (s : State) : (unsent s).ptpDecideAll = unsent s.ptpDecideAll :=
  List.foldl_hom unsent (fun _ _ => rfl)

theorem ptpDue_unsent (s : State) (p : Nat) : (unsent s).ptpDue p = s.ptpDue p := rfl

/-- The messages that are due have no address yet. -/
theorem ptpDue_unaddressed (s : State) (p : Nat) : (s.ptpDue p).map (fun a => unaddressed (p, a)) = (s.ptpDue p).map (fun a => (p, a)) := by
  have hnone : ∀ a ∈ s.ptpDue p, a.udp = none := by
    unfold State.ptpDue
    dsimp only
    intro a ha
    rcases List.mem_append.1 ha with h | h
    · split at h
      · simp only [List.mem_cons, List.not_mem_nil, or_false] at h
        rcases h with rfl | rfl <;> rfl
      · cases h
    · split at h
      · rw [List.mem_singleton.1 h]
        rfl
      · split at h
        · rw [List.mem_singleton.1 h]
          rfl
        · cases h
  refine List.map_congr_left fun a ha => ?_
  unfold unaddressed
  rw [← hnone a ha]

/-- The messages that are due at a port are handed over after the state decision. -/
def dueSent (s : State) (p : Nat) : State := (s.ptpDecideAll.ptpDue p).foldl (fun u m => u.ptpSend p m) (unsent s.ptpDecideAll)

theorem ptpInterval_eq {s : State} {p : Nat} (hon : s.ptpOn p = true) :
    s.ptpInterval p = (dueSent s p).setPtpPort p ((dueSent s p).ptpPort p).numbered := by
  have h : s.ptpInterval p = _ := if_neg (by rw [hon]; exact Bool.false_ne_true)
  rw [h, dueSent, ← ptpDue_unsent, ← ptpDecideAll_unsent]
  rfl

theorem dueSent_spec (s : State) (p : Nat) :
    (dueSent s p).time.ptpSent.map unaddressed = (s.ptpDecideAll.ptpDue p).map (fun a => (p, a))
      ∧ (dueSent s p).time.ports = s.ptpDecideAll.time.ports ∧ Still s (dueSent s p) := by
  obtain ⟨hsent, hports, hstill⟩ := foldl_ptpSend p (s.ptpDecideAll.ptpDue p) (unsent s.ptpDecideAll)
  have hbefore : Still s (unsent s.ptpDecideAll) := still_trans (still_of_portless (ptpDecideAll_portless s)) (still_retimed ..)
  exact ⟨hsent.trans (ptpDue_unaddressed ..), hports, still_trans hbefore hstill⟩

theorem ptpInterval_spec {s : State} {p : Nat} (hon : s.ptpOn p = true) :
    let u := s.ptpInterval p
    u.time.ptpSent.map unaddressed = (s.ptpDecideAll.ptpDue p).map (fun a => (p, a))
      ∧ (u.ptpPort p).seqSync = (s.ptpPort p).seqSync + 1 ∧ (u.ptpPort p).seqAnnounce = (s.ptpPort p).seqAnnounce + 1
      ∧ (u.ptpPort p).seqReq = (s.ptpPort p).seqReq + 1 ∧ Still s u := by
  obtain ⟨hsent, hports, hstill⟩ := dueSent_spec s p
  rw [ptpInterval_eq hon]
  have hport : (dueSent s p).ptpPort p = (s.ptpPort p).enter (s.ptpDecide s.bestForeign p) :=
    (congrArg (storeGet · p ({} : PtpPort)) hports :).trans (ptpPort_ptpDecideAll hon)
  obtain ⟨-, -, -, hsync, hannounce, hreq⟩ := enter_kept (s.ptpPort p) (s.ptpDecide s.bestForeign p)
  dsimp only
  rw [ptpPort_setPtpPort_same, hport, setPtpPort_ptpSent]
  refine ⟨hsent, congrArg (· + 1) hsync, congrArg (· + 1) hannounce, congrArg (· + 1) hreq, ?_⟩
  exact still_trans hstill (still_of_portless (setPtpPort_portless ..))

/-! ## Timeouts of the sources (R177) -/

theorem sourceTimeout_ptp {s : State} (h : s.time.ptpAvail = true) :
    let u := s.sourceTimeout 1
    u.time.ptpAvail = false ∧ s.up ≤ u.up ∧ u.points = s.points ∧ u.pump = s.pump := by
  obtain ⟨t, hu⟩ : ∃ t, s.sourceTimeout 1 = (retimed (s.waitUntil t) { s.time with ptpAvail := false }).ptpDecideAll.selectSource :=
    ⟨_, if_pos h⟩
  rw [hu]
  generalize hv : retimed (s.waitUntil t) { s.time with ptpAvail := false } = v
  have hselect := selectSource_unmeasured v.ptpDecideAll
  have hdecide := ptpDecideAll_portless v
  obtain ⟨-, hpoints, hpump, -⟩ := still_trans (still_of_portless hdecide) (still_of_unmeasured hselect)
  have havail : v.ptpDecideAll.selectSource.time.ptpAvail = v.time.ptpAvail :=
    (congrArg (fun r : State => r.time.ptpAvail) hselect :).trans (congrArg (fun r : State => r.time.ptpAvail) hdecide :)
  have hup : v.ptpDecideAll.selectSource.up = v.up := (congrArg State.up hselect :).trans (congrArg State.up hdecide :)
  dsimp only
  rw [havail, hup, hpoints, hpump, ← hv]
  exact ⟨rfl, Nat.le_add_right .., rfl, rfl⟩

/-- Time passes up to an instant, and with another time block the source is chosen again. -/
theorem selectSource_after (s : State) (at_ : Nat) (t : TimeState) :
    let u := (retimed (s.advanceTo at_) t).selectSource
    unmeasured u = unmeasured (retimed (s.advanceTo at_) t) ∧ at_ ≤ u.now ∧ u.points = s.points ∧ u.pump = s.pump := by
  have hselect := selectSource_unmeasured (retimed (s.advanceTo at_) t)
  obtain ⟨hnow, hpoints, hpump, -⟩ := still_trans (still_retimed _ t) (still_of_unmeasured hselect)
  refine ⟨hselect, ?_, hpoints, hpump⟩
  rw [hnow, advanceTo_now]
  exact le_max_right ..

section
variable {s : State} {l : Nat}

/-- A PPS input loses its source 1.5 s after its last edge. -/
theorem sourceTimeout_pps0 (havail : s.time.pps0Avail = true) (hlast : s.time.pps0Last = some l) :
    ∃ at_, l + 1500000000 < at_
      ∧ s.sourceTimeout 2 = (retimed (s.advanceTo at_) { (s.advanceTo at_).time with pps0Avail := false, pps0Last := none }).selectSource := by
  refine ⟨s.time.pps0Last.getD 0 + 1500000001, ?_, if_pos havail⟩
  rw [hlast, Option.getD_some]
  omega

theorem sourceTimeout_pps1 (havail : s.time.pps1Avail = true) (hlast : s.time.pps1Last = some l) :
    ∃ at_, l + 1500000000 < at_
      ∧ s.sourceTimeout 3 = (retimed (s.advanceTo at_) { (s.advanceTo at_).time with pps1Avail := false, pps1Last := none }).selectSource := by
  refine ⟨s.time.pps1Last.getD 0 + 1500000001, ?_, if_pos havail⟩
  rw [hlast, Option.getD_some]
  omega

end

/-! ## Edges of the PPS inputs (R177, R180) -/

/-- The last edge lies within 1.5 s before instant x (R177). -/
def ppsNear (last : Option Nat) (x : Int) : Bool := last.any (fun l => decide ((l : Int) < x ∧ x - l ≤ 1500000000))

theorem gap_ppsNear (last : Option Nat) (x : Int) :
    (last.map (fun l => x - (l : Int))).any (fun g => decide (0 < g ∧ g ≤ 1500000000)) = ppsNear last x := by
  cases last with
  | none => rfl
  | some l => exact decide_eq_decide.2 (and_congr_left' Int.sub_pos)

section
variable (s : State) (x : Int)

theorem ppsEdge_0_unmeasured : unmeasured (s.ppsEdge 0 x) = unmeasured (retimed s { s.time with
    pps0Last := some x.toNat, pps0Avail := ppsNear s.time.pps0Last x, pps0Offset := secondOffset x }) := by
  rw [← gap_ppsNear]
  exact measure_unmeasured ..

theorem ppsEdge_1_unmeasured : unmeasured (s.ppsEdge 1 x) = unmeasured (retimed s { s.time with
    pps1Last := some x.toNat, pps1Avail := ppsNear s.time.pps1Last x, pps1Offset := secondOffset x }) := by
  rw [← gap_ppsNear]
  exact measure_unmeasured ..

theorem ppsEdge_0_spec :
    let u := s.ppsEdge 0 x
    u.time.pps0Last = some x.toNat ∧ u.time.pps0Avail = ppsNear s.time.pps0Last x ∧ u.time.pps0Offset = secondOffset x
      ∧ u.time.pps1Last = s.time.pps1Last ∧ Still s u := by
  have h := ppsEdge_0_unmeasured s x
  exact ⟨(congrArg (fun r : State => r.time.pps0Last) h :), (congrArg (fun r : State => r.time.pps0Avail) h :),
    (congrArg (fun r : State => r.time.pps0Offset) h :), (congrArg (fun r : State => r.time.pps1Last) h :),
    still_trans (still_retimed ..) (still_of_unmeasured h)⟩

theorem ppsEdge_1_spec :
    let u := s.ppsEdge 1 x
    u.time.pps1Last = some x.toNat ∧ u.time.pps1Avail = ppsNear s.time.pps1Last x ∧ u.time.pps1Offset = secondOffset x
      ∧ u.time.pps0Last = s.time.pps0Last ∧ Still s u := by
  have h := ppsEdge_1_unmeasured s x
  exact ⟨(congrArg (fun r : State => r.time.pps1Last) h :), (congrArg (fun r : State => r.time.pps1Avail) h :),
    (congrArg (fun r : State => r.time.pps1Offset) h :), (congrArg (fun r : State => r.time.pps0Last) h :),
    still_trans (still_retimed ..) (still_of_unmeasured h)⟩

end

/-! ## PPS outputs (R188) -/

section
variable {s : State}

/-- A running part drives both outputs (R188). -/
theorem not_ppsFloating {out : Nat} (hout : out < 2) (hrun : s.running = true) :
    ¬ (2 ≤ out ∨ (!(s.running || decide (s.mode = .done))) = true) := by
  rw [hrun]
  exact fun h => h.elim (by omega) nofun

theorem ppsOutEdge_boundary {out : Nat} (hout : out < 2) (hrun : s.running = true) (hmode : s.get Reg.TSU_PPS_OUT_MODE out = 2) :
    s.ppsOutEdge out = s.ppsHigh out s.bnd s.tp := by
  unfold State.ppsOutEdge
  rw [if_neg (not_ppsFloating hout hrun), hmode, hrun]
  rfl

/-- The first whole second at or after the present (R188). -/
def nextSecond (s : State) : Nat := (s.now + 999999999) / 1000000000 * 1000000000

theorem ppsOutEdge_second {out : Nat} (hout : out < 2) (hrun : s.running = true) (hmode : s.get Reg.TSU_PPS_OUT_MODE out = 1)
    (hvalid : s.timeValid = true) :
    s.ppsOutEdge out = (s.advanceTo (nextSecond s)).ppsHigh out (s.advanceTo (nextSecond s)).now 1000000000 := by
  unfold State.ppsOutEdge
  rw [if_neg (not_ppsFloating hout hrun), hmode]
  exact if_pos hvalid

theorem nextSecond_reached (s : State) : (s.advanceTo (nextSecond s)).now % 1000000000 = 0
    ∧ s.now ≤ (s.advanceTo (nextSecond s)).now ∧ (s.advanceTo (nextSecond s)).now < s.now + 1000000000 := by
  rw [advanceTo_now, nextSecond]
  omega

/-- A rising edge of PPS_OUT_1 at the present instant of a state to which time has passed. -/
theorem ppsHigh_1_spec (s : State) (at_ : Nat) {period half : Nat} (hhalf : period / 2 = half) :
    let u := (s.advanceTo at_).ppsHigh 1 (s.advanceTo at_).now period
    u.time.pps1High = true ∧ u.now = (s.advanceTo at_).now
      ∧ u.time.pps1Fall = (s.advanceTo at_).now + min (s.get Reg.TSU_PPS_OUT_WIDTH 1 * 1000) half ∧ u.points = s.points ∧ u.regs = s.regs := by
  subst hhalf
  exact ⟨rfl, rfl, rfl, rfl, rfl⟩

theorem ppsOutFall_high (h : s.time.pps0High = true) :
    s.ppsOutFall 0 = retimed (s.advanceTo s.time.pps0Fall) { s.time with pps0High := false } := if_pos ⟨rfl, h⟩

theorem ppsOutFall_low (h : s.time.pps0High = false) : s.ppsOutFall 0 = s := by
  unfold State.ppsOutFall
  rw [h, if_neg (by simp), if_neg (by simp)]

/-! ## Edges of the discrete inputs (R180, R405) -/

variable {i : Nat} (rising : Bool) (stamp : Nat)

theorem dinEdge_powered (hi : i < 64) (hlow : s.flag Reg.PWR_STAT_VIO_A_LOW = false) : s.dinEdge i rising stamp =
    retimed (s.stampReached stamp) { s.time with din := storePut s.time.din i ((s.dinUnit i).edge rising (stamp % 2 ^ 40)) } :=
  if_neg (by rw [hlow]; exact fun h => h.elim (by omega) nofun)

theorem dinEdge_spec (hi : i < 64) (hlow : s.flag Reg.PWR_STAT_VIO_A_LOW = false) :
    let u := s.dinEdge i rising stamp
    u.dinUnit i = (s.dinUnit i).edge rising (stamp % 2 ^ 40) ∧ (∀ j, j ≠ i → u.dinUnit j = s.dinUnit j)
      ∧ { u with time := { u.time with din := s.time.din } } = s.stampReached stamp := by
  rw [dinEdge_powered rising stamp hi hlow]
  exact ⟨storeGet_put_same .., fun j hj => storeGet_put_other _ _ _ hj, rfl⟩

end

/-! ## STEP (R179) -/

theorem commandWord_tsuStep : CommandWord 0x080020 1 := ⟨_, rfl, fun _ => rfl⟩

theorem tsuStep_park {t : State} (h : t.mode = .park) : t.tsuStep = (.done, retimed t { t.time with stepReq := true }) :=
  if_neg (not_not_intro h)

theorem tsuStep_refused {t : State} (h : t.mode ≠ .park) : t.tsuStep = (.state, t) := if_pos h

/-! ## The statement -/

/-- Settles O51. A message that a port takes comes to the operation of its type (`ptpTake_announce`, `_sync`, `_stranger`, `_delayReq`); an
edge, a timeout and the interval each to the lemma on their operation. -/
theorem timeSources : Obligations.TimeSources := by
  intro s p port k stamp b m t v x w y sent still near takes
  refine ⟨fun htakes hpark => ?_, fun htakes hpark => ?_, fun hup hport hring => ?_, fun hnot hring => ?_, fun htaken => ?_, fun hoff => ?_,
    fun hon => ?_, ?_, ?_, fun hk => ?_, fun havail => ?_, fun l havail hlast => ?_, fun l havail hlast => ?_, fun hrun hmode => ?_,
    fun hrun hmode hvalid => ?_, fun hhigh => ?_, fun hlow => ?_, fun hk hlow => ?_, fun hnot => ?_⟩
  -- TSU_STEP
  · exact answers_of_command rfl commandWord_tsuStep htakes (tsuStep_park (by rwa [touch_mode])) rfl
  · exact answers_of_command rfl commandWord_tsuStep htakes (tsuStep_refused (by rwa [touch_mode])) rfl
  -- PTP_MESSAGE
  · exact ⟨_, congrArg Host.Outcome.next (ptpMessage_ring hup hport hring), get_count_same .., regsBut_count _ _, rfl⟩
  · exact ⟨_, congrArg Host.Outcome.next (ptpMessage_dropped hring hnot), rfl⟩
  · have completes {u : State} {P : State → Prop} (hu : (ptpArrived s m).ptpTake port m = u) (hP : P u) : Completes (.ptpMessage port m) s P :=
      ⟨u, congrArg Host.Outcome.next ((ptpMessage_taken htaken).trans hu), hP⟩
    have hon : (ptpArrived s m).ptpOn port = true := htaken.1
    refine ⟨fun d htype hmaster hnone => ?_, fun d o htype hmaster hsome hnum hfresh hothers hrank => ?_, fun htype hone hparent hin => ?_,
      fun htype hparent => ?_, fun htype hstate hdelay => ?_⟩
    · exact completes ((ptpTake_announce htype hmaster).trans (ptpAnnounce_first hnone)) (heard_decided _ 1 hon)
    · obtain ⟨hkept, htwo, -, hstill⟩ := heard_decided (d, m.clock, m.clockPort) 2 hon
      have hslave := heard_slave (d, m.clock, m.clockPort) hon
        (fun j hj => foreign_later (s := s) rfl (up_le_advanceTo (unsent s) _) rfl (hothers j hj)) hrank
      exact completes ((ptpTake_announce htype hmaster).trans (ptpAnnounce_again hsome hnum hfresh)) ⟨hkept, htwo, hslave, hstill⟩
    · exact completes (ptpTake_sync htype hone hparent) (ptpOffset_spec _ _ hin)
    · exact completes (ptpTake_stranger htype hparent) rfl
    · obtain ⟨udp, hudp, hsent, hports, hstill⟩ := ptpSend_spec (ptpArrived s m) port
        ((ptpArrived s m).ptpReply port 9 m ((ptpArrived s m).ptpArrival port m).toNat m.correction)
      refine completes (ptpTake_delayReq htype hstate hdelay) ⟨⟨_, hsent, rfl, rfl, rfl, rfl, rfl, rfl, rfl, ?_⟩, hports, hstill⟩
      exact Bool.eq_iff_iff.1 hudp
  -- PTP_MESSAGE_INTERVAL
  · exact ⟨s, congrArg Host.Outcome.next (if_pos (by rw [hoff]; rfl)), rfl⟩
  · exact ⟨_, rfl, ptpInterval_spec hon⟩
  -- PPS_IN_EDGE
  · exact ⟨_, rfl, ppsEdge_0_spec v x⟩
  · exact ⟨_, rfl, ppsEdge_1_spec v x⟩
  · exact ⟨s, congrArg Host.Outcome.next (if_pos hk), rfl⟩
  -- SOURCE_TIMEOUT
  · exact ⟨_, rfl, sourceTimeout_ptp havail⟩
  · obtain ⟨at_, hlate, htimeout⟩ := sourceTimeout_pps0 havail hlast
    obtain ⟨hpart, hnow, hrest⟩ := selectSource_after s at_ { (s.advanceTo at_).time with pps0Avail := false, pps0Last := none }
    exact ⟨_, congrArg Host.Outcome.next htimeout, (congrArg (fun r : State => r.time.pps0Avail) hpart :),
      (congrArg (fun r : State => r.time.pps0Last) hpart :), hlate.trans_le hnow, hrest⟩
  · obtain ⟨at_, hlate, htimeout⟩ := sourceTimeout_pps1 havail hlast
    obtain ⟨hpart, hnow, hrest⟩ := selectSource_after s at_ { (s.advanceTo at_).time with pps1Avail := false, pps1Last := none }
    exact ⟨_, congrArg Host.Outcome.next htimeout, (congrArg (fun r : State => r.time.pps1Avail) hpart :),
      (congrArg (fun r : State => r.time.pps1Last) hpart :), hlate.trans_le hnow, hrest⟩
  -- PPS_OUT_EDGE, PPS_OUT_FALL
  · exact ⟨_, congrArg Host.Outcome.next (ppsOutEdge_boundary (by decide) hrun hmode), rfl, rfl, rfl⟩
  · obtain ⟨hwhole, hpast, hnear⟩ := nextSecond_reached s
    obtain ⟨hhigh, hnow, hfall, hrest⟩ := ppsHigh_1_spec s (nextSecond s) (period := 1000000000) (half := 500000000) (by decide)
    rw [← hnow] at hwhole hpast hnear hfall
    exact ⟨_, congrArg Host.Outcome.next (ppsOutEdge_second (by decide) hrun hmode hvalid), hhigh, hwhole, hpast, hnear, hfall, hrest⟩
  · refine ⟨_, congrArg Host.Outcome.next (ppsOutFall_high hhigh), rfl, ?_, rfl⟩
    exact (le_max_right _ _).trans_eq (advanceTo_now s _).symm
  · exact ⟨s, congrArg Host.Outcome.next (ppsOutFall_low hlow), rfl⟩
  -- DIN_EDGE
  · exact ⟨_, rfl, dinEdge_spec b stamp hk hlow⟩
  · exact ⟨s, congrArg Host.Outcome.next (if_pos hnot), rfl⟩

end Sys2Proof.Proofs
end

section
/-! The boot, stage by stage (R178, R383 to R388, R444, R452, R458, R459), and the statement on it (O34). -/

namespace Sys2Proof.Proofs
open Sys2Proof Sys2Proof.Machine Sys2Proof.Laws

theorem mode_of_atStage {s : State} {k : Nat} (h : s.atStage k = true) : s.mode = .boot := (of_decide_eq_true h).1

theorem fuses_of_base {s u : State} (h : u.base = s.base) : u.fuses = s.fuses := congrArg (fun b => b.2.2.2) h

theorem fuses_of_core {s u : State} (h : u.core = s.core) : u.fuses = s.fuses := congrArg (fun c : Core => c.2.2.2.1) h

/-! ## RAILS and ROM (R178, R383, R384, R452, R459) -/

theorem bootRails_next {s : State} (h : s.atStage 0 = true) : s.bootRails true = s.set Reg.RST_BOOT_STAGE 1 := if_pos (by rw [h]; rfl)

theorem bootRom_held {s : State} (h : s.atStage 1 = true) (st : Straps) (trip : Nat) :
    s.bootRom st false trip = s.setFlag Reg.SYS_BOARD_STAT_REFCLK_BAD true := by
  unfold State.bootRom
  rw [h]
  rfl

/-- The causes shown and the straps latched, REFCLK_IN standing. -/
def latched (s : State) (st : Straps) : State := ((s.setFlag Reg.SYS_BOARD_STAT_REFCLK_BAD false).causeRegs).latchStraps st

/-- The end of stage ROM after the time is taken. -/
def romLeft (s : State) (hold : Bool) (trip : Nat) : State :=
  let t := s.setFlag Reg.RST_BOOT_FATAL_HOLD hold
  ({ t with rst := { t.rst with spiServes := true }, safe := { t.safe with tripIn := trip } }).set Reg.RST_BOOT_STAGE 2

theorem bootRom_next {s : State} (h : s.atStage 1 = true) (st : Straps) (trip : Nat) :
    s.bootRom st true trip = romLeft (latched s st).timeFromKeeper s.rst.fatalHold trip := by
  unfold State.bootRom
  rw [h]
  rfl

theorem latched_fields (s : State) (st : Straps) : (latched s st).get Reg.RST_BOOT_BOOT_SEL = st.bootSel % 4
    ∧ (latched s st).get Reg.RED_CFG_UNIT = st.unitId % 16 ∧ (latched s st).flag Reg.SYS_BOARD_STAT_REFCLK_BAD = false := by
  have hcause : ∀ u : State, u.causeRegs.flag Reg.SYS_BOARD_STAT_REFCLK_BAD = u.flag Reg.SYS_BOARD_STAT_REFCLK_BAD := by
    intro u
    unfold State.causeRegs
    simp only [State.setFlag]
    iterate 5 rw [flag_set_other _ _ _ _ _ _ (by decide)]
  refine ⟨get_set_same .., (get_set_other _ _ _ _ _ _ (by decide)).trans ?_, ?_⟩
  · exact (get_set_other _ _ _ _ _ _ (by decide)).trans (get_set_same ..)
  · unfold latched State.latchStraps
    dsimp only
    iterate 3 rw [flag_set_other _ _ _ _ _ _ (by decide)]
    exact (hcause _).trans (flag_setFlag_same _ _ _ _ (by decide))

/-- The time base set to the keeper's calendar. -/
def timed (s : State) : State := ({ s with now := s.calendar } : State).setFlag Reg.TSU_SRC_STAT_TIME_VALID s.keep.calValid

theorem timeFromKeeper_or (s : State) : s.timeFromKeeper = timed s
    ∨ s.timeFromKeeper = ((timed s).setFlag Reg.SYS_BOARD_STAT_XTAL_STOP true).later 0x0109 :=
  ite_eq_or_eq (((timed s).keep.running || (timed s).flag Reg.SYS_BOARD_STAT_XTAL_STOP) = true) _ _

theorem timed_regsBut (s : State) : RegsBut [Reg.TSU_SRC_STAT_TIME_VALID.key 0, Reg.SYS_BOARD_STAT_XTAL_STOP.key 0] s (timed s) :=
  regsBut_set_after (regsBut_of_regs (s := s) (u := { s with now := s.calendar }) rfl) Reg.TSU_SRC_STAT_TIME_VALID (b2n s.keep.calValid) 0
    (by decide)

theorem timeFromKeeper_regsBut (s : State) :
    RegsBut [Reg.TSU_SRC_STAT_TIME_VALID.key 0, Reg.SYS_BOARD_STAT_XTAL_STOP.key 0] s s.timeFromKeeper := by
  rcases timeFromKeeper_or s with h | h <;> rw [h]
  · exact timed_regsBut s
  · exact regsBut_trans (regsBut_set_after (timed_regsBut s) Reg.SYS_BOARD_STAT_XTAL_STOP 1 0 (by decide)) (regsBut_of_regs rfl)

/-- The parts of a state that the statement speaks of at the end of stage ROM. -/
def romView (s : State) : Nat × Mode × Store Point × Fuses × Straps × SafeState :=
  (s.now, s.mode, s.points, s.fuses, s.rst.straps, s.safe)

theorem romView_setFlag (s : State) (f : Fld) (b : Bool) (i : Nat) : romView (s.setFlag f b i) = romView s := rfl

theorem romView_later (s : State) (c : Nat) : romView (s.later c) = romView s := rfl

theorem timed_view (s : State) : romView (timed s) = romView { s with now := s.calendar } := romView_setFlag ..

theorem timeFromKeeper_view (s : State) : romView s.timeFromKeeper = romView { s with now := s.calendar } := by
  rcases timeFromKeeper_or s with h | h <;> rw [h]
  · exact timed_view s
  · rw [romView_later, romView_setFlag, timed_view]

theorem calendar_of_keep {s u : State} (h : u.keep = s.keep) : u.calendar = s.calendar := by
  unfold State.calendar State.keepTick
  rw [h]

theorem latched_view (s : State) (st : Straps) : romView (latched s st) = (s.now, s.mode, s.points, s.fuses, st, s.safe)
    ∧ (latched s st).keep = s.keep := by
  simp [romView, latched, State.latchStraps, State.causeRegs]

theorem romLeft_fields (s : State) (hold : Bool) (trip : Nat) :
    let u := romLeft s hold trip
    u.get Reg.RST_BOOT_STAGE = 2 ∧ RegsBut [Reg.RST_BOOT_FATAL_HOLD.key 0, Reg.RST_BOOT_STAGE.key 0] s u ∧ u.rst.spiServes = true
      ∧ u.safe.tripIn = trip ∧ romView { u with safe := s.safe } = romView s := by
  have hhold := regsBut_set (ks := [Reg.RST_BOOT_FATAL_HOLD.key 0, Reg.RST_BOOT_STAGE.key 0]) s Reg.RST_BOOT_FATAL_HOLD (b2n hold) 0 (by decide)
  exact ⟨get_set_same .., regsBut_set_after (regsBut_trans hhold (regsBut_of_regs rfl)) Reg.RST_BOOT_STAGE 2 0 (by decide), rfl, rfl, rfl⟩

/-- BOOT_ROM_DONE with REFCLK_IN running (R178, R384, R452, R459). -/
theorem bootRom_spec {s : State} (h : s.atStage 1 = true) (st : Straps) (trip : Nat) :
    let u := s.bootRom st true trip
    u.get Reg.RST_BOOT_STAGE = 2 ∧ u.mode = .boot ∧ u.rst.straps = st ∧ u.rst.spiServes = true ∧ u.now = s.calendar
      ∧ u.get Reg.RST_BOOT_BOOT_SEL = st.bootSel % 4 ∧ u.get Reg.RED_CFG_UNIT = st.unitId % 16
      ∧ u.flag Reg.SYS_BOARD_STAT_REFCLK_BAD = false ∧ u.safe.tripIn = trip ∧ u.points = s.points ∧ u.fuses = s.fuses := by
  rw [bootRom_next h]
  obtain ⟨hstage, hregs, hspi, htrip, hview⟩ := romLeft_fields (latched s st).timeFromKeeper s.rst.fatalHold trip
  obtain ⟨hsel, hunit, hclk⟩ := latched_fields s st
  have hkept {f : Fld} (htime : f.key 0 ∉ [Reg.TSU_SRC_STAT_TIME_VALID.key 0, Reg.SYS_BOARD_STAT_XTAL_STOP.key 0])
      (hend : f.key 0 ∉ [Reg.RST_BOOT_FATAL_HOLD.key 0, Reg.RST_BOOT_STAGE.key 0]) :
      (romLeft (latched s st).timeFromKeeper s.rst.fatalHold trip).get f 0 = (latched s st).get f 0 :=
    (hregs f 0 hend).trans (timeFromKeeper_regsBut _ f 0 htime)
  obtain ⟨hlatched, hkeep⟩ := latched_view s st
  have hparts := hview.trans (timeFromKeeper_view _)
  generalize latched s st = v at *
  generalize romLeft v.timeFromKeeper s.rst.fatalHold trip = u at *
  simp only [romView, Prod.mk.injEq] at hparts hlatched
  obtain ⟨-, hmode, hpoints, hfuses, hstraps, -⟩ := hlatched
  obtain ⟨hnow, hmode', hpoints', hfuses', hstraps', -⟩ := hparts
  refine ⟨hstage, hmode'.trans (hmode.trans (mode_of_atStage h)), hstraps'.trans hstraps, hspi, hnow.trans (calendar_of_keep hkeep),
    (hkept (by decide) (by decide)).trans hsel, (hkept (by decide) (by decide)).trans hunit, ?_, htrip, hpoints'.trans hpoints,
    hfuses'.trans hfuses⟩
  rw [← hclk]
  exact congrArg (fun x => decide (x = 1)) (hkept (f := Reg.SYS_BOARD_STAT_REFCLK_BAD) (by decide) (by decide))

/-! ## IMAGE (R61, R386, R458) -/

theorem bootImage_next {s : State} (h : s.atStage 2 = true) (eeprom : Option Word) :
    s.bootImage eeprom = (s.boardId eeprom).bootImageCopy.set Reg.RST_BOOT_STAGE 3 := if_pos h

/-- SYS_BOARD_ID and its flag are fields of registers. -/
theorem boardId_rest (s : State) (eeprom : Option Word) :
    (s.boardId eeprom).points = s.points ∧ (s.boardId eeprom).images = s.images ∧ (s.boardId eeprom).rst = s.rst
      ∧ (s.boardId eeprom).fuses = s.fuses := by
  cases eeprom <;> simp [State.boardId]

theorem goodCopy_of_images {s u : State} (himages : u.images = s.images) (hfuses : u.fuses = s.fuses) (b : Bool) :
    u.goodCopy b = s.goodCopy b := by
  unfold State.goodCopy State.verifyImage State.verifyObject
  rw [himages, hfuses]

/-- The wake settings of an image go to the keeper (R414). -/
theorem wakeFromImage_rest (s : State) : s.wakeFromImage.points = s.points ∧ s.wakeFromImage.images = s.images ∧ s.wakeFromImage.rst = s.rst
    ∧ RegsBut [Reg.KEEP_WAKE_CFG_WAKE_N_EN.key 0, Reg.KEEP_WAKE_CFG_CASE_WAKE_EN.key 0] s s.wakeFromImage := by
  unfold State.wakeFromImage
  split
  · exact ⟨rfl, rfl, rfl, regsBut_of_regs rfl⟩
  · refine ⟨rfl, rfl, rfl, regsBut_set_after (regsBut_set_after (regsBut_of_regs rfl) _ _ _ (by decide)) _ _ _ (by decide)⟩

theorem bootCopy_spec (s : State) (b : Bool) (d : ImageDesc) :
    let u := s.bootCopy b d
    u.points = s.points ∧ u.images.bootSettings = d.settings ∧ u.rst.imgSvn = d.svn ∧ u.flag Reg.IMG_STAT_BOOT_B = b := by
  unfold State.bootCopy
  dsimp only
  generalize hv : State.setFlag _ Reg.IMG_STAT_BOOT_B b = v
  obtain ⟨hpoints, himages, hrst, hregs⟩ := wakeFromImage_rest v
  rw [hpoints, himages, hrst, State.flag, hregs _ _ (by decide), ← hv]
  exact ⟨rfl, rfl, rfl, flag_setFlag_same _ _ _ _ (by decide)⟩

theorem bootImageCopy_fallback {s : State} (h : s.rst.straps.bootSel = 1) : s.bootImageCopy = s.imageFallback := if_pos h

theorem bootImageCopy_pointed {s : State} {d : ImageDesc} (h : s.rst.straps.bootSel ≠ 1) (hd : s.goodCopy s.images.pointerB = some d) :
    s.bootImageCopy = s.bootCopy s.images.pointerB d := by
  unfold State.bootImageCopy
  dsimp only
  rw [if_neg h, hd]

theorem bootImageCopy_points (s : State) : s.bootImageCopy.points = s.points := by
  unfold State.bootImageCopy
  dsimp only
  split
  · rfl
  · split
    · exact (bootCopy_spec ..).1
    · exact (bootCopy_spec s _ _).1
    · rfl

/-- BOOT_IMAGE_DONE (R386, R458). -/
theorem bootImage_spec {s : State} (h : s.atStage 2 = true) (eeprom : Option Word) :
    let u := s.bootImage eeprom
    u.get Reg.RST_BOOT_STAGE = 3 ∧ u.points = s.points ∧ (s.rst.straps.bootSel = 1 → u.flag Reg.IMG_STAT_IMG_FALLBACK = true)
      ∧ (∀ d, s.rst.straps.bootSel ≠ 1 → s.goodCopy s.images.pointerB = some d →
          u.images.bootSettings = d.settings ∧ u.rst.imgSvn = d.svn ∧ u.flag Reg.IMG_STAT_BOOT_B = s.images.pointerB) := by
  obtain ⟨hpoints, himages, hrst, hfuses⟩ := boardId_rest s eeprom
  rw [bootImage_next h]
  refine ⟨get_set_same .., (bootImageCopy_points _).trans hpoints, fun hsel => ?_, fun d hsel hgood => ?_⟩
  · rw [bootImageCopy_fallback (by rwa [hrst]), flag_set_other _ _ _ _ _ _ (by decide)]
    exact flag_setFlag_same _ _ _ _ (by decide)
  · have hcopy : (s.boardId eeprom).goodCopy (s.boardId eeprom).images.pointerB = some d := by
      rw [goodCopy_of_images himages hfuses, himages, hgood]
    rw [bootImageCopy_pointed (by rwa [hrst]) hcopy, flag_set_other _ _ _ _ _ _ (by decide), ← himages]
    exact (bootCopy_spec _ _ d).2

/-! ## MEMORY (R229, R297, R383, R397, R444) -/

/-- What a step of stage MEMORY keeps: the points, and every field but those of these keys. -/
def PointsAndBut (keys : List Nat) (s u : State) : Prop := u.points = s.points ∧ RegsBut keys s u

theorem pointsAndBut_trans {ks : List Nat} {a b c : State} (h : PointsAndBut ks a b) (g : PointsAndBut ks b c) : PointsAndBut ks a c :=
  ⟨g.1.trans h.1, regsBut_trans h.2 g.2⟩

theorem pointsAndBut_same {ks : List Nat} {s u : State} (hpoints : u.points = s.points) (hregs : u.regs = s.regs) : PointsAndBut ks s u :=
  ⟨hpoints, regsBut_of_regs hregs⟩

theorem pointsAndBut_set {ks : List Nat} (s : State) (f : Fld) (v : Nat) (h : f.key 0 ∈ ks) : PointsAndBut ks s (s.set f v) :=
  ⟨rfl, regsBut_set s f v 0 h⟩

/-- The fields that the tests of the dies write beside DIE_OK (R229, R297). -/
def dieKeys : List Nat :=
  [Reg.SOLV_STAT_CTX0_DIE.key 0, Reg.OBS_STAT_SPARE_LOST.key 0, Reg.OBS_STAT_ENGINE.key 0, Reg.OBS_STAT_STATE.key 0]

theorem diesTested_rest (s : State) (dies : Nat) :
    PointsAndBut dieKeys (s.set Reg.SOLV_STAT_DIE_OK (dies % 2 ^ s.variant.dies)) (s.diesTested dies) := by
  unfold State.diesTested
  dsimp only
  generalize s.set Reg.SOLV_STAT_DIE_OK (dies % 2 ^ s.variant.dies) = a
  have hctx : PointsAndBut dieKeys a (a.set Reg.SOLV_STAT_CTX0_DIE a.ctxZeroDie) := pointsAndBut_set _ _ _ (by decide)
  generalize a.set Reg.SOLV_STAT_CTX0_DIE a.ctxZeroDie = t at *
  have hbad : PointsAndBut dieKeys a { t with obs := { t.obs with bad1 := !bitAt dies 1 } } :=
    pointsAndBut_trans hctx (pointsAndBut_same rfl rfl)
  split
  · exact hctx
  · split
    · exact pointsAndBut_trans hbad (pointsAndBut_set _ _ _ (by decide))
    · split
      · exact pointsAndBut_trans hbad (pointsAndBut_set _ _ _ (by decide))
      · exact pointsAndBut_trans hbad (pointsAndBut_set _ _ _ (by decide))

theorem diesTested_dieOk (s : State) (dies : Nat) : (s.diesTested dies).get Reg.SOLV_STAT_DIE_OK = dies % 2 ^ s.variant.dies := by
  rw [(diesTested_rest s dies).2 _ _ (by decide), get_set_same]
  refine Nat.mod_eq_of_lt ((Nat.mod_lt _ (Nat.two_pow_pos _)).trans_le (Nat.pow_le_pow_right (by decide) ?_))
  cases s.variant <;> decide

theorem seedTaken_failed (s : State) : ∃ v : State, v.points = s.points ∧ v.regs = s.regs
    ∧ s.seedTaken false = (v.setFlag Reg.SEC_STAT_RNG_FAIL true).later 0x0F05 :=
  ⟨{ s with sec := { s.sec with seed := 0 } }, rfl, rfl, rfl⟩

theorem seedTaken_rest (s : State) (trng : Bool) : PointsAndBut [Reg.SEC_STAT_RNG_FAIL.key 0] s (s.seedTaken trng) := by
  cases trng with
  | true => exact pointsAndBut_same rfl rfl
  | false =>
    obtain ⟨v, hpoints, hregs, heq⟩ := seedTaken_failed s
    rw [heq]
    exact pointsAndBut_trans (pointsAndBut_same hpoints hregs) (pointsAndBut_trans (b := v.setFlag Reg.SEC_STAT_RNG_FAIL true)
      (pointsAndBut_set _ _ _ (by decide)) (pointsAndBut_same rfl rfl))

theorem seedTaken_rngFail (s : State) : (s.seedTaken false).flag Reg.SEC_STAT_RNG_FAIL = true := by
  obtain ⟨v, -, -, heq⟩ := seedTaken_failed s
  rw [heq]
  have hlater : (v.setFlag Reg.SEC_STAT_RNG_FAIL true).flag Reg.SEC_STAT_RNG_FAIL = true := flag_setFlag_same _ _ _ _ (by decide)
  exact (flag_of_regs rfl _ _).trans hlater

/-- The fields that a cleared capture ring writes (R383, R432). -/
def ringKeys : List Nat :=
  [Reg.CAP_STAT_STATE.key 0, Reg.CAP_STAT_TRIGGERED.key 0, Reg.CAP_STAT_LOST.key 0, Reg.CAP_OLDEST_OFFSET.key 0, Reg.CAP_NEWEST_OFFSET.key 0]

theorem ringRegs_rest (s : State) : PointsAndBut ringKeys s s.ringRegs :=
  pointsAndBut_trans (pointsAndBut_set s Reg.CAP_OLDEST_OFFSET _ (by decide)) (pointsAndBut_set _ Reg.CAP_NEWEST_OFFSET _ (by decide))

theorem capClear_rest (s : State) : PointsAndBut ringKeys s s.capClear := by
  have hempty : PointsAndBut ringKeys s { s with cap := {} } := pointsAndBut_same rfl rfl
  have hstate := pointsAndBut_trans hempty (pointsAndBut_set _ Reg.CAP_STAT_STATE (if s.get Reg.CAP_CFG_CAP_SIZE = 0 then 0 else 1) (by decide))
  have htriggered := pointsAndBut_trans hstate (pointsAndBut_set _ Reg.CAP_STAT_TRIGGERED 0 (by decide))
  exact pointsAndBut_trans (pointsAndBut_trans htriggered (pointsAndBut_set _ Reg.CAP_STAT_LOST 0 (by decide))) (ringRegs_rest _)

theorem ringTrained_rest (s : State) : PointsAndBut ringKeys s s.ringTrained := by
  unfold State.ringTrained
  split
  · exact capClear_rest s
  · exact pointsAndBut_same rfl rfl

/-- Before the part runs, a dip only shows as the state DIP and is recorded (R397). -/
theorem dipState_boot {s : State} (h : s.mode = .boot) : s.dipState = (s.setFlag Reg.PWR_STAT_DIP true).raise 0x0101 := by
  refine if_pos ?_
  simp [State.running, h]

/-- The state at the end of the work of stage MEMORY. -/
def memoryReady (s : State) (dies : Nat) (trng : Bool) : State :=
  (((s.diesTested dies).seedTaken trng).ringTrained).set Reg.RST_BOOT_STAGE 4

theorem bootMemory_next {s : State} (h : s.atStage 3 = true) (dies : Nat) (trng : Bool) :
    s.bootMemory dies trng = memoryReady s dies trng
      ∨ s.bootMemory dies trng = ((memoryReady s dies trng).setFlag Reg.PWR_STAT_DIP true).raise 0x0101 := by
  have hmode : (memoryReady s dies trng).mode = .boot := by
    refine (mode_of_core ?_).trans (mode_of_atStage h)
    simp [memoryReady]
  rw [← dipState_boot hmode]
  unfold State.bootMemory
  rw [if_pos h]
  exact (ite_eq_or_eq _ _ _).symm

/-- BOOT_MEMORY_DONE (R383, R397, R444). -/
theorem bootMemory_spec {s : State} (h : s.atStage 3 = true) (dies : Nat) (trng : Bool) :
    let u := s.bootMemory dies trng
    u.get Reg.RST_BOOT_STAGE = 4 ∧ u.points = s.points ∧ u.get Reg.SOLV_STAT_DIE_OK = dies % 2 ^ s.variant.dies
      ∧ (trng = false → u.flag Reg.SEC_STAT_RNG_FAIL = true) := by
  have hdip : (s.bootMemory dies trng).points = (memoryReady s dies trng).points
      ∧ FieldsBut [Reg.PWR_STAT_DIP.key 0] (memoryReady s dies trng) (s.bootMemory dies trng) := by
    rcases bootMemory_next h dies trng with hnext | hnext <;> rw [hnext]
    · exact ⟨rfl, fieldsBut_refl _ _⟩
    · exact ⟨raise_points _ _, fieldsBut_trans (fieldsBut_setFlag _ _ _ _ (by decide)) (fieldsBut_quiet (raise_quiet _ _))⟩
  obtain ⟨hpoints, hfields⟩ := hdip
  obtain ⟨htests, -⟩ := diesTested_rest s dies
  obtain ⟨hseed, hseedRegs⟩ := seedTaken_rest (s.diesTested dies) trng
  obtain ⟨hring, hringRegs⟩ := ringTrained_rest ((s.diesTested dies).seedTaken trng)
  refine ⟨(hfields _ _ (by decide) (by decide)).trans (get_set_same ..), hpoints.trans (hring.trans (hseed.trans htests)), ?_, ?_⟩
  · rw [hfields _ _ (by decide) (by decide), memoryReady, get_set_other _ _ _ _ _ _ (by decide), hringRegs _ _ (by decide),
      hseedRegs _ _ (by decide), diesTested_dieOk]
  · rintro rfl
    have hget : (s.bootMemory dies false).get Reg.SEC_STAT_RNG_FAIL = ((s.diesTested dies).seedTaken false).get Reg.SEC_STAT_RNG_FAIL := by
      rw [hfields _ _ (by decide) (by decide), memoryReady, get_set_other _ _ _ _ _ _ (by decide), hringRegs _ _ (by decide)]
    exact (congrArg (fun x => decide (x = 1)) hget).trans (seedTaken_rngFail _)

/-! ## LOAD (R71, R76, R127, R143, R235, R347, R354, R387, R394, R414) -/

theorem bootLoad_next {s : State} (h : s.atStage 4 = true) :
    let t := ((((s.loadEvents).loadPlate).loadFree).hatchesReload).loadPoints
    let u := ((t.loadCal).spanCheck).groupStart
    s.bootLoad = ({ u with rst := { u.rst with syncStart := u.up } }).set Reg.RST_BOOT_STAGE 5 := if_pos h

theorem foldl_rst {α : Type} (f : State → α → State) (h : ∀ s x, (f s x).rst = s.rst) (l : List α) (s : State) :
    (l.foldl f s).rst = s.rst := by
  induction l generalizing s with
  | nil => rfl
  | cons x l ih => exact (ih _).trans (h s x)

section
variable (s : State)

/-- The noted events leave the list of those to record. -/
theorem recordNoted_toRecord (t : State) (l : List (Nat × Nat)) :
    (l.foldl (fun (u : State) e => u.raise e.1) { t with rst := { t.rst with toRecord := [] } }).rst.toRecord = [] :=
  congrArg ResetState.toRecord (foldl_rst _ (fun u e => raise_rst u e.1) l _)

theorem loadEvents_toRecord : s.loadEvents.rst.toRecord = [] := by
  unfold State.loadEvents
  dsimp only
  generalize hu : List.foldl (fun (u : State) (e : Nat × Nat) => u.raise e.1) _ s.rst.toRecord = u
  have hempty : u.rst.toRecord = [] := by rw [← hu]; exact recordNoted_toRecord ..
  split <;> split <;> simpa using hempty

@[simp] theorem verifyEvents_rst (why : Nat) : (s.verifyEvents why).rst = s.rst := Quiet.rst (verifyEvents_quiet s why)

theorem loadPlate_rst : s.loadPlate.rst = s.rst := by
  unfold State.loadPlate
  dsimp only
  split
  · simp
  · split
    · rfl
    · simp

theorem loadFree_rst : s.loadFree.rst = s.rst := by
  unfold State.loadFree
  split <;> rfl

theorem putF_rst (p : Nat) (x : F64) (q : Byte) : (s.putF p x q).rst = s.rst := by
  unfold State.putF
  dsimp only
  split <;> rfl

theorem restoreLoop_rst (i : Nat) (l : LoopSlot) : (s.restoreLoop i l).rst = s.rst := putF_rst ..

theorem loopsRestart_rst (saved : Store (List Nat)) : (s.loopsRestart saved).rst = s.rst := by
  unfold State.loopsRestart
  dsimp only
  refine (foldl_rst _ (fun t e => ?_) _ _).trans rfl
  split
  · split
    · rw [raise_rst, restoreLoop_rst]
    · rfl
  · rfl

theorem loadPoints_rst : s.loadPoints.rst = s.rst := by
  unfold State.loadPoints
  dsimp only
  split
  · rw [raise_rst, setFlag_rst, loopsRestart_rst]
  · rw [loopsRestart_rst]

theorem loadCal_rst : s.loadCal.rst = s.rst := by
  unfold State.loadCal
  split <;> rfl

theorem spanCheck_rst : s.spanCheck.rst = s.rst := by
  unfold State.spanCheck
  split <;> simp

theorem groupStart_rst : s.groupStart.rst = s.rst := by
  unfold State.groupStart
  split <;> rfl

end

/-- BOOT_LOAD_DONE leaves no noted event to be recorded later (R394, R414). -/
theorem bootLoad_spec {s : State} (h : s.atStage 4 = true) : s.bootLoad.get Reg.RST_BOOT_STAGE = 5 ∧ s.bootLoad.rst.toRecord = [] := by
  rw [bootLoad_next h]
  refine ⟨get_set_same .., ?_⟩
  rw [set_rst]
  dsimp only
  rw [groupStart_rst, spanCheck_rst, loadCal_rst, loadPoints_rst]
  exact (congrArg ResetState.toRecord ((loadFree_rst _).trans (loadPlate_rst _))).trans (loadEvents_toRecord s)

/-! ## SYNC and DONE (R178, R373, R384, R388) -/

theorem le_alignedFrom (s : State) (t : Nat) : t ≤ s.alignedFrom t := by
  unfold State.alignedFrom
  dsimp only
  split
  · exact le_rfl
  · exact Nat.le_add_right ..

/-- From s to u nothing changed but the safety block and what recording an event may change. -/
def SafeOnly (s u : State) : Prop := FieldsBut [] s u ∧ { u.quietRest with safe := s.safe } = s.quietRest

theorem safeOnly_trans {a b c : State} (h : SafeOnly a b) (g : SafeOnly b c) : SafeOnly a c :=
  ⟨fieldsBut_trans h.1 g.1, by rw [← h.2, ← g.2]⟩

theorem safeOnly_safe (s : State) (f : SafeState) : SafeOnly s { s with safe := f } := ⟨fieldsBut_regs rfl, rfl⟩

theorem safeOnly_quiet {s u : State} (h : Quiet s u) : SafeOnly s u := ⟨fieldsBut_quiet h, by rw [h.1]; rfl⟩

theorem safeRefresh_safeOnly (s : State) : SafeOnly s s.safeRefresh := safeOnly_safe ..

theorem tripLatchIn_safeOnly (s : State) (n : Nat) : SafeOnly s (s.tripLatchIn n) := by
  unfold State.tripLatchIn
  split
  · exact safeOnly_trans (safeOnly_safe _ _) (safeOnly_trans (safeOnly_quiet (raise_quiet _ _)) (safeRefresh_safeOnly _))
  · exact safeOnly_safe s s.safe

theorem foldl_safeOnly {α : Type} (f : State → α → State) (h : ∀ s x, SafeOnly s (f s x)) (l : List α) (s : State) :
    SafeOnly s (l.foldl f s) := by
  induction l generalizing s with
  | nil => exact safeOnly_safe s s.safe
  | cons x l ih => exact safeOnly_trans (h s x) (ih _)

theorem tripAll_safeOnly (s : State) : SafeOnly s s.tripAll := by
  refine foldl_safeOnly _ (fun t n => ?_) _ s
  split
  · exact safeOnly_safe t t.safe
  · exact tripLatchIn_safeOnly t n

/-- A part that serves commands from now on, with its first boundary set and the causes of its reset cleared (R384, R388). -/
def servingFrom (s : State) : State :=
  { s with mode := .done, nextBnd := s.alignedFrom (s.now + 10000), rst := { s.rst with causes := 0, wakeSleep := false, wakeBackup := false } }

theorem bootDone_next {s : State} (h : s.atStage 5 = true) : ∃ ms, s.bootDone
    = (servingFrom ((s.syncWait.set Reg.RST_BOOT_STAGE 6).set Reg.RST_BOOT_BOOT_MS ms)).tripAll.safeRefresh := ⟨_, if_pos h⟩

/-- BOOT_DONE (R384, R388). -/
theorem bootDone_spec {s : State} (h : s.atStage 5 = true) :
    s.bootDone.get Reg.RST_BOOT_STAGE = 6 ∧ s.bootDone.mode = .done ∧ s.bootDone.now + 10000 ≤ s.bootDone.nextBnd
      ∧ s.bootDone.rst.causes = 0 := by
  obtain ⟨ms, hdone⟩ := bootDone_next h
  have hstage : ((s.syncWait.set Reg.RST_BOOT_STAGE 6).set Reg.RST_BOOT_BOOT_MS ms).get Reg.RST_BOOT_STAGE = 6 :=
    (get_set_other _ _ _ _ _ _ (by decide)).trans (get_set_same ..)
  generalize (s.syncWait.set Reg.RST_BOOT_STAGE 6).set Reg.RST_BOOT_BOOT_MS ms = t at *
  obtain ⟨hfields, hrest⟩ := safeOnly_trans (tripAll_safeOnly (servingFrom t)) (safeRefresh_safeOnly _)
  rw [hdone]
  generalize (servingFrom t).tripAll.safeRefresh = u at *
  have hnow : u.now = t.now := (congrArg State.now hrest :)
  have hnext : u.nextBnd = t.alignedFrom (t.now + 10000) := (congrArg State.nextBnd hrest :)
  rw [hnow, hnext]
  exact ⟨(hfields _ _ (by decide) (by decide)).trans hstage, (congrArg State.mode hrest :), le_alignedFrom ..,
    (congrArg (fun v : State => v.rst.causes) hrest :)⟩

/-! ## The statement -/

theorem not_atStage {s : State} {k : Nat} (h : s.atStage k = false) : ¬ s.atStage k = true := by
  rw [h]
  exact Bool.false_ne_true

/-- Settles O34, stage by stage, each by the lemma on its row; a row of another stage falls to the last case of its operation. -/
theorem bootStages : Obligations.BootStages := by
  intro s straps trip eeprom dies trng
  refine ⟨fun h => ?_, fun h hnormal => ?_, fun h => ?_, fun h => ?_, fun h => ?_, fun h => ?_, fun h => ?_, ?_⟩
  -- RAILS
  · exact ⟨_, congrArg Host.Outcome.next (bootRails_next h), get_set_same .., rfl, fieldsBut_set _ _ _ _ (by decide)⟩
  -- ROM, with and without REFCLK_IN
  · exact ⟨_, if_neg (fun hrefused => hnormal hrefused.2.2), bootRom_spec h straps trip.toNat⟩
  · refine ⟨_, (if_neg (fun hrefused => nomatch hrefused.2.1)).trans (congrArg Host.Outcome.next (bootRom_held h straps trip.toNat)),
      flag_setFlag_same _ _ _ _ (by decide), ?_, rfl, fieldsBut_setFlag _ _ _ _ (by decide)⟩
    unfold State.atStage at *
    rwa [get_setFlag_other _ _ _ _ _ _ (by decide)]
  -- IMAGE
  · obtain ⟨hstage, hpoints, hcopy⟩ := bootImage_spec h eeprom
    have hcore := bootImage_core s eeprom
    exact ⟨_, rfl, hstage, (mode_of_core hcore).trans (mode_of_atStage h), hpoints, fuses_of_core hcore, hcopy⟩
  -- MEMORY
  · obtain ⟨hstage, hpoints, hdies, hrng⟩ := bootMemory_spec h dies.toNat trng
    have hcore := bootMemory_core s dies.toNat trng
    exact ⟨_, rfl, hstage, (mode_of_core hcore).trans (mode_of_atStage h), hpoints, fuses_of_core hcore, hdies, hrng⟩
  -- LOAD
  · obtain ⟨hstage, hnoted⟩ := bootLoad_spec h
    have hcore := bootLoad_core s
    exact ⟨_, rfl, hstage, (mode_of_core hcore).trans (mode_of_atStage h), hnoted, fuses_of_core hcore⟩
  -- DONE
  · obtain ⟨hstage, hmode, hbnd, hcauses⟩ := bootDone_spec h
    refine ⟨_, rfl, hstage, hmode, ?_, hbnd, hcauses, fuses_of_base (bootDone_base s)⟩
    rw [State.booted, hmode]
    exact Bool.or_true _
  -- each row at another stage
  · intro e he
    simp only [List.mem_cons, List.not_mem_nil, or_false] at he
    rcases he with rfl | rfl | rfl | rfl | rfl | rfl <;> intro h
    · exact ⟨s, congrArg Host.Outcome.next (if_neg (by rw [h]; exact Bool.false_ne_true)), rfl⟩
    · exact ⟨s, (if_neg (fun hrefused => not_atStage h hrefused.1)).trans (congrArg Host.Outcome.next (if_pos (by rw [h]; rfl))), rfl⟩
    · exact ⟨s, congrArg Host.Outcome.next (if_neg (not_atStage h)), rfl⟩
    · exact ⟨s, congrArg Host.Outcome.next (if_neg (not_atStage h)), rfl⟩
    · exact ⟨s, congrArg Host.Outcome.next (if_neg (not_atStage h)), rfl⟩
    · exact ⟨s, congrArg Host.Outcome.next (if_neg (not_atStage h)), rfl⟩

end Sys2Proof.Proofs
end

section
/-! Sensor messages: when they are taken, and what a sample and a damaged message change (R181, R190 to R193, R197 to R200, R405). -/

namespace Sys2Proof.Proofs
open Sys2Proof Sys2Proof.Machine Sys2Proof.Laws

/-! ## The state that takes a message (R191, R199) -/

/-- The state that takes a message of this stamp: time has passed to it, and a trough frame that closes by then is closed. -/
def sensorReady (s : State) (stamp : Nat) : State :=
  let r := s.stampReached stamp
  if r.running = true ∧ r.trough.openTh.any (fun th => r.frameReady th || decide (r.trough.limit ≤ r.now)) = true then r.frameClose else r

/-- The instant that the stamp of a message stands for. -/
def sensorInstant (w : State) (src : SensorSource) (stamp : Nat) : Int := fullTime w.now (w.sensorStamp src stamp)

section
variable {src : SensorSource} {body : SensorBody} {stamp : Nat}

theorem exec_sensorMessage (s : State) : exec (.sensorMessage src body stamp) s = .next ((sensorReady s stamp).sensorMessage src body stamp) :=
  congrArg (fun w : State => Host.Outcome.next (w.sensorMessage src body stamp)) (if_congr (Bool.and_eq_true ..).to_iff rfl rfl)

variable {w : State}

theorem sensorMessage_deaf (h : w.deafTo src body = true) : w.sensorMessage src body stamp = w := if_pos h

theorem sensorMessage_offered (h : w.deafTo src body = false) (hbody : ∀ d, body ≠ .binary d) :
    w.sensorMessage src body stamp = w.offerMessage src body (sensorInstant w src stamp) := by
  unfold State.sensorMessage
  rw [h]
  cases body with
  | binary d => exact absurd rfl (hbody d)
  | _ => cases src <;> rfl

/-- A serial source is not heard while bank A is unpowered (R405). -/
theorem deafTo_unpowered (hlow : w.flag Reg.PWR_STAT_VIO_A_LOW = true) (hsrc : ∀ n q d, src ≠ .queue n q d) : w.deafTo src body = true := by
  unfold State.deafTo
  cases src with
  | queue n q d => exact absurd rfl (hsrc n q d)
  | uart n => exact hlow
  | can n => cases body <;> (dsimp only; rw [hlow]; rfl)

variable {x : Int}

theorem offerMessage_unheard (h : w.chansOf src = []) : w.offerMessage src body x = w := by
  unfold State.offerMessage
  dsimp only
  rw [h]
  exact ite_eq_left_iff.2 fun _ => rfl

variable {g c : Nat} {sa : Byte} {fast : Bool} {d : List Byte}

theorem offerMessage_bad (hchans : w.chansOf src = [c]) (h : w.offer (w.takeCfg c).1 src (.pgn g sa fast d) = .bad) :
    w.offerMessage src (.pgn g sa fast d) x = (w.badMessage c).raise 0x0702 := by
  unfold State.offerMessage
  dsimp only
  rw [hchans, if_neg Bool.false_ne_true, List.foldl_cons, List.foldl_nil, h]

theorem offerMessage_fields {l : List FieldVal} (hchans : w.chansOf src = [c]) (h : w.offer (w.takeCfg c).1 src (.pgn g sa fast d) = .fields l) :
    w.offerMessage src (.pgn g sa fast d) x = (w.acceptSample c l x).ringSensor c (x % 1099511627776).toNat := by
  unfold State.offerMessage
  dsimp only
  rw [hchans, if_neg Bool.false_ne_true, List.foldl_cons, List.foldl_nil, h]

end

/-! ## Channels -/

section
variable (s : State) (c : Nat) (ch : Channel)

theorem chan_setChan_same : (s.setChan c ch).chan c = ch := storeGet_set_same ..

theorem chan_setChan_other {j : Nat} (h : j ≠ c) : (s.setChan c ch).chan j = s.chan j := storeGet_set_other _ _ _ _ _ _ h

theorem chan_of_chans {s u : State} (h : u.trough.chans = s.trough.chans) (j : Nat) : u.chan j = s.chan j := by
  unfold State.chan
  rw [h]

end

/-- A damaged message is counted in its channel alone and recorded (R192, R193). -/
theorem badMessage_recorded (s : State) (c : Nat) :
    let u := (s.badMessage c).raise 0x0702
    u.chan c = { s.chan c with badCnt := satInc 32 (s.chan c).badCnt } ∧ (∀ j, j ≠ c → u.chan j = s.chan j) ∧ FieldsBut [] s u
      ∧ { u.quietRest with trough := s.trough } = s.quietRest := by
  have hquiet := raise_quiet (s.badMessage c) 0x0702
  have hchan (j : Nat) : ((s.badMessage c).raise 0x0702).chan j = (s.badMessage c).chan j := by
    unfold State.chan
    rw [raise_trough]
  refine ⟨(hchan c).trans (chan_setChan_same ..), fun j hj => (hchan j).trans (chan_setChan_other _ _ _ hj), ?_, ?_⟩
  · exact fieldsBut_trans (fieldsBut_regs (u := s.badMessage c) rfl) (fieldsBut_quiet hquiet)
  · rw [hquiet.1]
    rfl

/-! ## Samples (R191, R197, R198, R200) -/

/-- From s to u channel c took a sample of n fields, stamped x: its newest, at x less the channel's latency. -/
def TookSample (s u : State) (c : Nat) (x : Int) (n : Nat) : Prop :=
  (∃ y, (u.chan c).newest = some y ∧ y.stamp = (x % 2 ^ 40).toNat ∧ y.tc = x - s.get Reg.TRG_CH_LAT_LATENCY c * 1000 ∧ y.fields.length = n)
    ∧ (u.chan c).fresh = true ∧ (u.chan c).badCnt = (s.chan c).badCnt ∧ (∀ j, j ≠ c → u.chan j = s.chan j) ∧ u.points = s.points
    ∧ u.pump = s.pump

theorem tookSample_after {s v u : State} {c n : Nat} {x : Int} (h : TookSample s v c x n) (hchans : u.trough.chans = v.trough.chans)
    (hpoints : u.points = v.points) (hpump : u.pump = v.pump) : TookSample s u c x n := by
  have hchan (j : Nat) : u.chan j = v.chan j := chan_of_chans hchans j
  unfold TookSample at *
  simp only [hchan, hpoints, hpump]
  exact h

theorem ringSensor_rest (s : State) (c stamp : Nat) :
    (s.ringSensor c stamp).trough = s.trough ∧ (s.ringSensor c stamp).points = s.points ∧ (s.ringSensor c stamp).pump = s.pump := by
  unfold State.ringSensor State.ringAppend
  dsimp only
  split
  · split <;> exact ⟨rfl, rfl, rfl⟩
  · exact ⟨rfl, rfl, rfl⟩

theorem setChan_took {s : State} {c n : Nat} {ch : Channel} {y : Sample} {x : Int} (hnewest : ch.newest = some y)
    (hstamp : y.stamp = (x % 1099511627776).toNat) (htc : y.tc = x - s.get Reg.TRG_CH_LAT_LATENCY c * 1000) (hlen : y.fields.length = n)
    (hfresh : ch.fresh = true) (hbad : ch.badCnt = (s.chan c).badCnt) : TookSample s (s.setChan c ch) c x n := by
  unfold TookSample
  rw [chan_setChan_same]
  exact ⟨⟨y, hnewest, hstamp, htc, hlen⟩, hfresh, hbad, fun j hj => chan_setChan_other _ _ _ hj, rfl, rfl⟩

theorem tookSample_raise {s v : State} {c n : Nat} {x : Int} (h : TookSample s v c x n) (code : Nat) : TookSample s (v.raise code) c x n :=
  tookSample_after h (congrArg TroughState.chans (raise_trough v code)) (raise_points v code) (raise_pump v code)

theorem tookSample_count {s v : State} {c n : Nat} {x : Int} (h : TookSample s v c x n) (f : Fld) : TookSample s (v.count f) c x n :=
  tookSample_after h rfl rfl rfl

/-- A sample as a channel without a time of its own takes it (R191, R197). -/
def plainSample (s : State) (c : Nat) (fvs : List FieldVal) (x : Int) : Sample :=
  let t := (s.takeCfg c).1
  let valid := if s.tplValid t = 255 then true else decide (!F64.isZero (fvs.getD (s.tplValid t) { val := 0 }).val)
  let vals := fvs.zipIdx.map (fun e => if e.2 = s.tplValid t then F64.ofInt (if valid then 1 else 0) else e.1.val)
  { tc := x - s.get Reg.TRG_CH_LAT_LATENCY c * 1000, stamp := (x % 1099511627776).toNat, fields := vals,
    qtys := (List.range vals.length).map (fun i => (s.tplField t i).qty), valid := valid, slip := (s.chan c).slip }

/-- The channel with that sample as its newest. -/
def newestTaken (s : State) (c : Nat) (y : Sample) : Channel :=
  { s.chan c with newest := some y, fresh := true, lastAccept := some s.now,
                  maxTc := some (match (s.chan c).maxTc with | none => y.tc | some m => max m y.tc) }

/-- The channel with a sample counted as late (R200). -/
def lateMarked (ch : Channel) : Channel := { ch with lateInFrame := true, lateCnt := satInc 32 ch.lateCnt }

/-- The channel with a sample held for its frame (R198). -/
def withHeld (ch : Channel) (y : Sample) : Channel := { ch with samples := ch.samples ++ [y] }

/-- The state in which the sample of channel c is the one by which the open frame can close (R199). -/
def closedBySample (s : State) (c : Nat) : State := { s with trough := { s.trough with closer := some c } }

/-- A sample is late for a frame that has closed, or it is held, and the open frame may become ready by it (R198 to R200). -/
def landed (s : State) (c : Nat) (ch : Channel) (y : Sample) : State :=
  if s.trough.closedTh.any (fun th => decide (y.tc < (th : Int))) then
    ((s.setChan c (lateMarked ch)).count Reg.TRG_LATE_CNT_COUNT).raise 0x0701
  else if !s.trough.openTh.any s.frameReady && (s.setChan c (withHeld ch y)).trough.openTh.any (s.setChan c (withHeld ch y)).frameReady then
    closedBySample (s.setChan c (withHeld ch y)) c
  else s.setChan c (withHeld ch y)

theorem acceptSample_plain {s : State} {c : Nat} (hown : (s.takeCfg c).2 = false) (l : List FieldVal) (x : Int) :
    s.acceptSample c l x = landed s c (newestTaken s c (plainSample s c l x)) (plainSample s c l x) := by
  unfold State.acceptSample
  rw [hown]
  rfl

theorem landed_took {s : State} {c n : Nat} {y : Sample} {x : Int} (hstamp : y.stamp = (x % 1099511627776).toNat)
    (htc : y.tc = x - s.get Reg.TRG_CH_LAT_LATENCY c * 1000) (hlen : y.fields.length = n) :
    TookSample s (landed s c (newestTaken s c y) y) c x n := by
  have hfiled {ch : Channel} (hnewest : ch.newest = some y) (hfresh : ch.fresh = true) (hbad : ch.badCnt = (s.chan c).badCnt) :
      TookSample s (s.setChan c ch) c x n := setChan_took hnewest hstamp htc hlen hfresh hbad
  have hlate : TookSample s (s.setChan c (lateMarked (newestTaken s c y))) c x n := hfiled rfl rfl rfl
  have hheld : TookSample s (s.setChan c (withHeld (newestTaken s c y) y)) c x n := hfiled rfl rfl rfl
  unfold landed
  split
  · exact tookSample_raise (tookSample_count hlate _) _
  · split
    · exact tookSample_after hheld rfl rfl rfl
    · exact hheld

theorem acceptSample_took {s : State} {c : Nat} (hown : (s.takeCfg c).2 = false) (l : List FieldVal) (x : Int) :
    TookSample s (s.acceptSample c l x) c x l.length := by
  rw [acceptSample_plain hown]
  exact landed_took rfl rfl (by simp [plainSample])

theorem offerMessage_took {w : State} {src : SensorSource} {c g : Nat} {sa : Byte} {fast : Bool} {d : List Byte} {l : List FieldVal} {x : Int}
    (hchans : w.chansOf src = [c]) (hown : (w.takeCfg c).2 = false) (h : w.offer (w.takeCfg c).1 src (.pgn g sa fast d) = .fields l) :
    TookSample w (w.offerMessage src (.pgn g sa fast d) x) c x l.length := by
  rw [offerMessage_fields hchans h]
  obtain ⟨htrough, hpoints, hpump⟩ := ringSensor_rest (w.acceptSample c l x) c (x % 1099511627776).toNat
  exact tookSample_after (acceptSample_took hown l x) (congrArg TroughState.chans htrough) hpoints hpump

end Sys2Proof.Proofs
end

section
/-! Addresses of the CAN controllers and user sentences (R195, R196); the statement on sensors and serial adapters (O52). -/

namespace Sys2Proof.Proofs
open Sys2Proof Sys2Proof.Machine Sys2Proof.Laws

/-! ## Claims of an address (R195) -/

/-- Fields at different places differ whatever their index. -/
theorem key_ne_of_place {f g : Fld} (h : f.addr * 32 + f.lo ≠ g.addr * 32 + g.lo) (i : Nat) : f.key i ≠ g.key i := by
  unfold Fld.key
  omega

/-- The address that controller c shows, and whether it is claimed. -/
def canKeys (c : Nat) : List Nat := [Reg.SER_CAN_STAT_ADDR.key c, Reg.SER_CAN_STAT_CLAIMED.key c]

/-- From s to v nothing changed but the serial block and what controller c shows of its address. -/
def SerOnly (c : Nat) (s v : State) : Prop := RegsBut (canKeys c) s v ∧ { v with regs := s.regs, ser := s.ser } = s

theorem serOnly_trans {c : Nat} {a b v : State} (h : SerOnly c a b) (g : SerOnly c b v) : SerOnly c a v := by
  refine ⟨regsBut_trans h.1 g.1, ?_⟩
  rw [← h.2, ← g.2]

theorem serOnly_ser (c : Nat) (s : State) (x : SerState) : SerOnly c s { s with ser := x } := ⟨regsBut_of_regs rfl, rfl⟩

/-- Controller c shows an address, claimed or not. -/
def canShow (s : State) (c addr : Nat) (b : Bool) : State := (s.set Reg.SER_CAN_STAT_ADDR addr c).setFlag Reg.SER_CAN_STAT_CLAIMED b c

section
variable (s : State) (c addr : Nat) (b : Bool)

theorem canShow_serOnly : SerOnly c s (canShow s c addr b) :=
  ⟨regsBut_set_after (regsBut_set s Reg.SER_CAN_STAT_ADDR addr c (List.mem_cons_self ..)) Reg.SER_CAN_STAT_CLAIMED (b2n b) c
    (List.mem_cons_of_mem _ (List.mem_cons_self ..)), rfl⟩

theorem canShow_addr : (canShow s c addr b).get Reg.SER_CAN_STAT_ADDR c = addr % 2 ^ Reg.SER_CAN_STAT_ADDR.width :=
  (get_setFlag_other _ _ _ _ _ _ (key_ne_of_place (by decide) c)).trans (get_set_same ..)

theorem canShow_claimed : (canShow s c addr b).flag Reg.SER_CAN_STAT_CLAIMED c = b := flag_setFlag_same _ _ _ _ (by decide)

end

/-- The NAME of a controller stands whatever it shows of its address. -/
theorem canName_of_serOnly {c : Nat} {s v : State} (h : SerOnly c s v) : v.canName c = s.canName c := by
  have hkeys {f : Fld} (haddr : f.addr * 32 + f.lo ≠ Reg.SER_CAN_STAT_ADDR.addr * 32 + Reg.SER_CAN_STAT_ADDR.lo)
      (hclaimed : f.addr * 32 + f.lo ≠ Reg.SER_CAN_STAT_CLAIMED.addr * 32 + Reg.SER_CAN_STAT_CLAIMED.lo) : f.key c ∉ canKeys c := by
    simp only [canKeys, List.mem_cons, List.not_mem_nil, or_false, not_or]
    exact ⟨key_ne_of_place haddr c, key_ne_of_place hclaimed c⟩
  unfold State.canName
  rw [h.1 _ _ (hkeys (f := Reg.SER_CAN_NAME_LO_NAME_LO) (by decide) (by decide)),
    h.1 _ _ (hkeys (f := Reg.SER_CAN_NAME_HI_NAME_HI) (by decide) (by decide))]

theorem canClaim_eq (s : State) (c addr : Nat) : ∃ x : SerState, x.taken = s.ser.taken
    ∧ storeFind x.canSent c = some { kind := 1, addr := addr, name := s.canName c }
    ∧ s.canClaim c addr = { canShow s c addr true with ser := x } := by
  refine ⟨{ s.ser with canSent := storePut s.ser.canSent c { kind := 1, addr := addr, name := (canShow s c addr true).canName c } }, rfl, ?_, rfl⟩
  dsimp only
  rw [storeFind_put_same]
  exact congrArg (fun n => some ({ kind := 1, addr := addr, name := n } : CanSent)) (canName_of_serOnly (canShow_serOnly s c addr true))

/-- Claims an address: it is shown as claimed, and Address Claimed is sent with it. -/
theorem canClaim_spec (s : State) (c addr : Nat) :
    let v := s.canClaim c addr
    v.get Reg.SER_CAN_STAT_ADDR c = addr % 2 ^ Reg.SER_CAN_STAT_ADDR.width ∧ v.flag Reg.SER_CAN_STAT_CLAIMED c = true
      ∧ storeFind v.ser.canSent c = some { kind := 1, addr := addr, name := s.canName c } ∧ SerOnly c s v ∧ v.ser.taken = s.ser.taken := by
  obtain ⟨x, htaken, hsent, hclaim⟩ := canClaim_eq s c addr
  rw [hclaim]
  exact ⟨canShow_addr s c addr true, canShow_claimed s c addr true, hsent, serOnly_trans (canShow_serOnly s c addr true) (serOnly_ser ..), htaken⟩

/-- A free address is one of 128 to 247 that is not taken. -/
theorem nextFree_spec {taken : List Nat} {k a b : Nat} (hlo : 128 ≤ a) (hhi : a ≤ 247) (h : nextFree taken k a = some b) :
    b ∉ taken ∧ 128 ≤ b ∧ b ≤ 247 := by
  induction k generalizing a with
  | zero => cases h
  | succ k ih =>
    unfold nextFree at h
    split at h
    · refine ih ?_ ?_ h <;> split <;> omega
    · next hfree =>
      cases h
      exact ⟨fun hmem => hfree (List.contains_iff_mem.2 hmem), hlo, hhi⟩

/-- A lost claim: the controller shows a free address, or 254, which is none (R195). -/
theorem canReclaim_spec (s : State) (c : Nat) :
    SerOnly c s (s.canReclaim c) ∧ (s.canReclaim c).ser.taken = s.ser.taken
      ∧ ((s.canReclaim c).get Reg.SER_CAN_STAT_ADDR c = 254
        ∨ (s.canReclaim c).get Reg.SER_CAN_STAT_ADDR c ∉ storeGet s.ser.taken c []) := by
  unfold State.canReclaim
  dsimp only
  split
  · next a hfree =>
    obtain ⟨hnot, -, hhi⟩ := nextFree_spec (by split <;> omega) (by split <;> omega) hfree
    obtain ⟨haddr, -, -, honly, htaken⟩ := canClaim_spec s c a
    refine ⟨honly, htaken, .inr ?_⟩
    rwa [haddr, Nat.mod_eq_of_lt (show a < 2 ^ Reg.SER_CAN_STAT_ADDR.width from hhi.trans_lt (by decide))]
  · exact ⟨serOnly_trans (canShow_serOnly s c 254 false) (serOnly_ser ..), rfl, .inl (canShow_addr s c 254 false)⟩

section
variable {s : State} {c : Nat} (hc : c < 4) (hclaims : s.canClaims c = true)
include hc hclaims

theorem n2kStart_claims : s.n2kStart c = s.canClaim c (s.get Reg.SER_CAN_CFG_PREF_ADDR c) := if_pos ⟨hc, hclaims⟩

theorem n2kRequest_claimed (h : s.flag Reg.SER_CAN_STAT_CLAIMED c = true) :
    s.n2kRequest c = s.canClaim c (s.get Reg.SER_CAN_STAT_ADDR c) := (if_pos ⟨hc, hclaims⟩).trans (if_pos h)

theorem n2kRequest_unclaimed (h : s.flag Reg.SER_CAN_STAT_CLAIMED c = false) : s.n2kRequest c
    = { s with ser := { s.ser with canSent := storePut s.ser.canSent c { kind := 2, addr := 254, name := s.canName c } } } :=
  (if_pos ⟨hc, hclaims⟩).trans (if_neg (by rw [h]; exact Bool.false_ne_true))

end

/-- The addresses that controller c knows as taken once another node claims one (R195). -/
def takenWith (s : State) (c addr : Nat) : List Nat :=
  let taken := storeGet s.ser.taken c []
  if taken.contains addr then taken else addr :: taken

/-- The state with that address marked as taken. -/
def addrMarked (s : State) (c addr : Nat) : State := { s with ser := { s.ser with taken := storePut s.ser.taken c (takenWith s c addr) } }

theorem mem_addrMarked (s : State) (c addr : Nat) : addr ∈ storeGet (addrMarked s c addr).ser.taken c [] := by
  have hmarked : storeGet (addrMarked s c addr).ser.taken c [] = takenWith s c addr := storeGet_put_same ..
  rw [hmarked, takenWith]
  split
  · next h => exact List.contains_iff_mem.1 h
  · exact List.mem_cons_self ..

/-- A claim of another NAME loses controller c its address: the same address, a lower NAME. -/
def ClaimLost (s : State) (c addr name : Nat) : Prop :=
  s.flag Reg.SER_CAN_STAT_CLAIMED c = true ∧ s.get Reg.SER_CAN_STAT_ADDR c = addr ∧ name < s.canName c

section
variable {s : State} {c name : Nat} (hc : c < 4) (hclaims : s.canClaims c = true) (hname : name ≠ s.canName c) (addr : Nat)
include hc hclaims hname

theorem n2kClaimRx_marks : s.n2kClaimRx c addr name =
    if s.flag Reg.SER_CAN_STAT_CLAIMED c = true ∧ s.get Reg.SER_CAN_STAT_ADDR c = addr then
      if name < s.canName c then (addrMarked s c addr).canReclaim c else addrMarked s c addr
    else addrMarked s c addr := by
  have hmode : s.get Reg.SER_CAN_CFG_MODE c = 1 := by
    simp only [State.canClaims, Bool.and_eq_true, decide_eq_true_eq] at hclaims
    exact hclaims.1
  have hother : ¬ (4 ≤ c ∨ name = s.canName c ∨ s.get Reg.SER_CAN_CFG_MODE c ≠ 1) := by
    rintro (h | h | h)
    · omega
    · exact hname h
    · exact h hmode
  have hmarked : (addrMarked s c addr).canClaims c = true := hclaims
  refine (if_neg hother).trans (if_congr ?_ rfl rfl)
  show ((addrMarked s c addr).canClaims c && _ && _) = true ↔ _
  rw [hmarked, Bool.true_and, Bool.and_eq_true, decide_eq_true_eq]
  rfl

theorem n2kClaimRx_lost (h : ClaimLost s c addr name) : s.n2kClaimRx c addr name = (addrMarked s c addr).canReclaim c := by
  obtain ⟨hclaimed, haddr, hlower⟩ := h
  rw [n2kClaimRx_marks hc hclaims hname, if_pos ⟨hclaimed, haddr⟩, if_pos hlower]

theorem n2kClaimRx_kept (h : ¬ ClaimLost s c addr name) : s.n2kClaimRx c addr name = addrMarked s c addr := by
  rw [n2kClaimRx_marks hc hclaims hname]
  split
  · next hown => exact if_neg fun hlower => h ⟨hown.1, hown.2, hlower⟩
  · rfl

theorem n2kClaimRx_spec :
    let v := s.n2kClaimRx c addr name
    addr ∈ storeGet v.ser.taken c [] ∧ SerOnly c s v
      ∧ (s.get Reg.SER_CAN_STAT_ADDR c ≠ addr ∨ s.canName c < name → v.regs = s.regs ∧ v.ser.canSent = s.ser.canSent)
      ∧ (s.flag Reg.SER_CAN_STAT_CLAIMED c = true → s.get Reg.SER_CAN_STAT_ADDR c = addr → name < s.canName c →
          v.get Reg.SER_CAN_STAT_ADDR c ≠ addr ∨ 248 ≤ addr ∨ addr < 128) := by
  have hmarked : SerOnly c s (addrMarked s c addr) := serOnly_ser ..
  by_cases hlost : ClaimLost s c addr name
  · rw [n2kClaimRx_lost hc hclaims hname addr hlost]
    obtain ⟨honly, htaken, hfree⟩ := canReclaim_spec (addrMarked s c addr) c
    obtain ⟨-, haddr, hlower⟩ := hlost
    refine ⟨htaken ▸ mem_addrMarked s c addr, serOnly_trans hmarked honly, fun h => ?_, fun _ _ _ => ?_⟩
    · exact absurd h (not_or.2 ⟨not_not_intro haddr, hlower.le.not_gt⟩)
    · rcases hfree with h254 | hnot
      · rw [h254]
        omega
      · refine .inl fun heq => hnot ?_
        rw [heq]
        exact mem_addrMarked s c addr
  · rw [n2kClaimRx_kept hc hclaims hname addr hlost]
    exact ⟨mem_addrMarked s c addr, hmarked, fun _ => ⟨rfl, rfl⟩, fun h1 h2 h3 => absurd ⟨h1, h2, h3⟩ hlost⟩

end

/-! ## User sentences (R196) -/

/-- A write of LEN to SER_UART_TX is a command for each of the 24 transmitters. -/
theorem uartTxWord {len : Nat} (hlen : len < 128) :
    ∃ d, regAt 0x099004 = some d ∧ ∀ (t : State) (u : Nat), u < 24 → commandWord t d 0x099004 u len = true := by
  refine ⟨_, rfl, fun t u hu => ?_⟩
  have hwindow : windowStatus t.variant 0x099004 .uart u = .done := if_pos hu
  have hfits : decide (len < 2 ^ 32) = true := decide_eq_true (by omega)
  have hfield : fieldsOk [Reg.SER_UART_TX_LEN] len = true := by
    have hmax : bitsAt len 0 7 ≤ 4294967295 := (Nat.mod_lt _ (by decide)).le.trans (by decide)
    exact (Bool.and_true _).trans (decide_eq_true ⟨Nat.zero_le _, hmax⟩)
  unfold commandWord
  rw [hwindow, hfits]
  -- of the checks left, that of the fields alone turns on LEN
  exact congrArg (fun b => true && b && true && true && true) hfield

section
variable {s : State} {p : Path} {u len : Nat}

theorem answers_of_uartSend {st : Status} {v : State} {P : State → Prop} (htakes : s.takes p 9 = true) (hu : u < 24) (hlen : len < 128)
    (hsend : (s.touch p).uartSend u len = (st, v)) (hP : P v) : Answers (.uartTxSend p u len) s p st P := by
  obtain ⟨d, hd, hword⟩ := uartTxWord hlen
  have hcommand : (s.touch p).command p 0x099004 u len = (st, v) :=
    (congrArg ((s.touch p).uartSend u) (Nat.mod_eq_of_lt hlen)).trans hsend
  have hroute : s.hostCmd p 0x099004 u len = v.answer p st := by
    rw [hostCmd_route htakes hd (hword _ u hu), hcommand]
  have hfits : exec (.uartTxSend p u len) s = .next (s.hostCmd p 0x099004 u len) :=
    congrArg (fun b => Host.Outcome.next (s.hostCmd p 0x099004 u len b)) (decide_eq_true hlen)
  exact ⟨v, hfits.trans (congrArg Host.Outcome.next hroute), hP⟩

end

/-- The first len bytes of a transmitter's buffer. -/
def uartBytes (s : State) (u len : Nat) : List Byte :=
  (List.range len).map (fun j => BitVec.ofNat 8 (s.get (Reg.SER_UART_TXBUF_BYTES.at (j / 4)) u / 256 ^ (j % 4)))

/-- A sentence as it is sent: with its checksum, CR and LF. -/
def sealed (bytes : List Byte) : List Byte :=
  bytes ++ [42, hexChar ((xorSum (bytes.drop 1)).toNat / 16), hexChar ((xorSum (bytes.drop 1)).toNat % 16), 13, 10]

section
variable {s : State} {u len : Nat} (hlen : 1 ≤ len ∧ len ≤ 77)
  (hstart : (uartBytes s u len).head? = some 36 ∨ (uartBytes s u len).head? = some 33)
include hlen hstart

theorem uartSend_legal : s.uartSend u len = if (storeFind s.ser.busy u).isSome then (.busy, s)
    else if !s.flag Reg.SER_UART_CFG_TX_EN u then (.state, s)
    else (.done, { s with ser := { s.ser with
      busy := storePut s.ser.busy u (), sent := storePut s.ser.sent u (sealed (uartBytes s u len)) } }) :=
  (if_neg (by omega)).trans (if_neg (fun h => hstart.elim h.1 h.2))

theorem uartSend_busy (hbusy : (storeFind s.ser.busy u).isSome = true) : s.uartSend u len = (.busy, s) :=
  (uartSend_legal hlen hstart).trans (if_pos hbusy)

theorem uartSend_free (hfree : storeFind s.ser.busy u = none) (hen : s.flag Reg.SER_UART_CFG_TX_EN u = true) : s.uartSend u len =
    (.done, { s with ser := { s.ser with
      busy := storePut s.ser.busy u (), sent := storePut s.ser.sent u (sealed (uartBytes s u len)) } }) := by
  rw [uartSend_legal hlen hstart, hfree, hen]
  rfl

end

@[simp] theorem touch_ser (s : State) (p : Path) : (s.touch p).ser = s.ser := by obtain ⟨h, e⟩ := touch_host s p; rw [e]

theorem touch_uartBytes (s : State) (p : Path) (u len : Nat) : uartBytes (s.touch p) u len = uartBytes s u len := by
  simp only [uartBytes, touch_get]

/-! ## The statement -/

/-- Settles O52. A sensor message is taken by the state of `sensorReady` and falls to `offerMessage_took` or `badMessage_recorded`; an N2K row
to the lemma on its operation, a user sentence to `uartSend_legal`. -/
theorem sensorsAndSerial : Obligations.SensorsAndSerial := by
  intro s src body stamp c addr u len name p t r w x bytes sum claimed serOnly
  refine ⟨fun hnone hbody => ?_, fun hlow hsrc => ?_, ?_, fun hc hclaims => ⟨?_, fun hclaimed => ?_, fun hfree => ?_, fun hname => ?_⟩,
    fun h1 h77 hu htakes hstart hfree hen => ?_, fun hu htakes hbusy h1 h77 hstart => ?_, ?_⟩
  -- SENSOR_MESSAGE
  · refine ⟨_, exec_sensorMessage s, ?_⟩
    cases hdeaf : w.deafTo src body with
    | true => exact sensorMessage_deaf hdeaf
    | false => exact (sensorMessage_offered hdeaf hbody).trans (offerMessage_unheard hnone)
  · exact ⟨_, exec_sensorMessage s, sensorMessage_deaf (deafTo_unpowered hlow hsrc)⟩
  · rintro g sa fast d rfl hheard hchans
    have hoffered : w.sensorMessage src (.pgn g sa fast d) stamp = w.offerMessage src (.pgn g sa fast d) x :=
      sensorMessage_offered hheard nofun
    have hnext := (exec_sensorMessage s).trans (congrArg Host.Outcome.next hoffered)
    refine ⟨fun l hown hfields => ⟨_, hnext, offerMessage_took hchans hown hfields⟩, fun hbad => ?_⟩
    exact ⟨_, hnext.trans (congrArg Host.Outcome.next (offerMessage_bad hchans hbad)), badMessage_recorded w c⟩
  -- N2K_CLAIM_START, N2K_REQUEST_RX, N2K_ADDRESS_CLAIM_RX
  · obtain ⟨haddr, hshown, hsent, honly, -⟩ := canClaim_spec s c (s.get Reg.SER_CAN_CFG_PREF_ADDR c)
    exact ⟨_, congrArg Host.Outcome.next (n2kStart_claims hc hclaims), haddr, hshown, hsent, honly⟩
  · obtain ⟨-, hshown, hsent, honly, -⟩ := canClaim_spec s c (s.get Reg.SER_CAN_STAT_ADDR c)
    exact ⟨_, congrArg Host.Outcome.next (n2kRequest_claimed hc hclaims hclaimed), hsent, hshown, honly⟩
  · exact ⟨_, congrArg Host.Outcome.next (n2kRequest_unclaimed hc hclaims hfree), storeFind_put_same .., rfl⟩
  · exact ⟨_, rfl, n2kClaimRx_spec hc hclaims hname addr⟩
  -- UART_TX_SEND, UART_TX_DONE
  · have hstart' : (uartBytes t u len).head? = some 36 ∨ (uartBytes t u len).head? = some 33 := by rwa [touch_uartBytes]
    have hsend := uartSend_free ⟨h1, h77⟩ hstart' (by rwa [touch_ser]) (by rwa [touch_flag])
    refine answers_of_uartSend htakes hu (by omega) hsend ⟨storeFind_put_same .., ?_, ?_⟩
    · rw [touch_uartBytes]
      exact storeFind_put_same ..
    · rw [← touch_ser s p]
  · have hstart' : (uartBytes t u len).head? = some 36 ∨ (uartBytes t u len).head? = some 33 := .inl (by rwa [touch_uartBytes])
    exact answers_of_uartSend htakes hu (by omega) (uartSend_busy ⟨h1, h77⟩ hstart' (by rwa [touch_ser])) rfl
  · exact ⟨_, rfl, storeFind_del_same .., fun j hj => storeFind_del_other _ _ _ hj, rfl⟩

end Sys2Proof.Proofs
end

section
/-! The observer's commands and what a close finds of them, the calibration store, dead reckoning's limit and the observer's engines (R219,
R221, R226, R227, R229, R235, R236, R342, R399); the statement on them (O46). -/

namespace Sys2Proof.Proofs
open Sys2Proof Sys2Proof.Machine Sys2Proof.Laws

/-! ## Commands of one bit each (R44, R60) -/

/-- The outcome of a command that a path takes: its status answered there, and the state that it leaves. -/
def answered (p : Path) (r : Status × State) : Host.Outcome State Fault Refusal := .next (r.2.answer p r.1)

theorem answers_of_answered {c : Instr} {s u : State} {p : Path} {st : Status} {op : Status × State} {P : State → Prop}
    (hx : exec c s = answered p (orElse (s.touch p) op)) (hop : op = (st, u)) (hkept : st = .done ∨ u = s.touch p) (hP : P u) :
    Answers c s p st P := by
  have helse : orElse (s.touch p) op = (st, u) := by
    subst hop
    rcases hkept with rfl | rfl
    · rfl
    · exact ite_self _
  rw [helse] at hx
  exact ⟨u, hx, hP⟩

theorem commandWord_originSet : CommandWord 0x0B0000 1 := ⟨_, rfl, fun _ => rfl⟩
theorem commandWord_obsReinit : CommandWord 0x0B0000 2 := ⟨_, rfl, fun _ => rfl⟩
theorem commandWord_calSave : CommandWord 0x0B0000 4 := ⟨_, rfl, fun _ => rfl⟩
theorem commandWord_calReset : CommandWord 0x0B0000 8 := ⟨_, rfl, fun _ => rfl⟩

/-- The word v of OBS_CH_CMD is a command for each of the 64 channels. -/
def ChannelWord (v : Nat) : Prop :=
  ∃ d, regAt 0x0B901C = some d ∧ ∀ (t : State) (c : Nat), c < 64 → commandWord t d 0x0B901C c v = true

/-- CAL_RESET and DATUM_SET are such words. -/
theorem channelWord_bit {v : Nat} (hv : v = 1 ∨ v = 2) : ChannelWord v := by
  refine ⟨_, rfl, fun t c hc => ?_⟩
  have hwindow : windowStatus t.variant 0x0B901C .obsChannel c = .done := if_pos hc
  unfold commandWord
  rw [hwindow]
  rcases hv with rfl | rfl <;> rfl

section
variable {s : State} {p : Path} (htakes : s.takes p 11 = true)
include htakes

theorem exec_obsCommand {i : Instr} {v : Nat} {op : Status × State} (hx : exec i s = .next (s.hostCmd p 0x0B0000 0 v))
    (hword : CommandWord 0x0B0000 v) (hop : (s.touch p).command p 0x0B0000 0 v = orElse (s.touch p) op) :
    exec i s = answered p (orElse (s.touch p) op) := by
  obtain ⟨d, hd, hword⟩ := hword
  rw [hx, hostCmd_route htakes hd (hword _), hop]
  rfl

theorem exec_channelCommand {i : Instr} {c v : Nat} {op : Status × State} (hc : c < 64)
    (hx : exec i s = .next (s.hostCmd p 0x0B901C c v)) (hword : ChannelWord v)
    (hop : (s.touch p).command p 0x0B901C c v = orElse (s.touch p) op) : exec i s = answered p (orElse (s.touch p) op) := by
  obtain ⟨d, hd, hword⟩ := hword
  rw [hx, hostCmd_route htakes hd (hword _ c hc), hop]
  rfl

theorem exec_originSet : exec (.originSet p) s = answered p (orElse (s.touch p) (s.touch p).originSet) :=
  exec_obsCommand htakes rfl commandWord_originSet rfl

theorem exec_obsReinit : exec (.obsReinit p) s = answered p (orElse (s.touch p) (s.touch p).obsReinit) :=
  exec_obsCommand htakes rfl commandWord_obsReinit rfl

theorem exec_calSave : exec (.calSave p) s = answered p (orElse (s.touch p) (s.touch p).calSave) :=
  exec_obsCommand htakes rfl commandWord_calSave rfl

theorem exec_calReset : exec (.calReset p) s = answered p (orElse (s.touch p) (s.touch p).calResetCmd) :=
  exec_obsCommand htakes rfl commandWord_calReset rfl

theorem exec_chanCalReset {c : Nat} (hc : c < 64) :
    exec (.chanCalReset p c) s = answered p (orElse (s.touch p) ((s.touch p).chanCalReset c)) :=
  exec_channelCommand htakes hc rfl (channelWord_bit (.inl rfl)) rfl

theorem exec_datumSet {c : Nat} (hc : c < 64) : exec (.datumSet p c) s = answered p (orElse (s.touch p) ((s.touch p).datumSet c)) :=
  exec_channelCommand htakes hc rfl (channelWord_bit (.inr rfl)) rfl

end

@[simp] theorem touch_obs (s : State) (p : Path) : (s.touch p).obs = s.obs := by obtain ⟨h, e⟩ := touch_host s p; rw [e]
@[simp] theorem touch_obsState (s : State) (p : Path) : (s.touch p).obsState = s.obsState := touch_get ..
@[simp] theorem touch_dpClosed (s : State) (p : Path) : (s.touch p).dpClosed = s.dpClosed := by
  obtain ⟨h, e⟩ := touch_host s p
  rw [e]
  rfl

/-! ## Requests that wait for the next update (R219, R221, R226, R236) -/

section
variable {t : State}

theorem originSet_open (h : t.dpClosed = false) : t.originSet = (.done, { t with obs := { t.obs with originReq := true } }) :=
  if_neg (Bool.eq_false_iff.1 h)

theorem originSet_closed (h : t.dpClosed = true) : t.originSet = (.loopClosed, t) := if_pos h

theorem obsReinit_open (h : t.dpClosed = false) : t.obsReinit = (.done, { t with obs := { t.obs with reinitReq := true } }) :=
  if_neg (Bool.eq_false_iff.1 h)

theorem obsReinit_closed (h : t.dpClosed = true) : t.obsReinit = (.loopClosed, t) := if_pos h

theorem calResetCmd_active (h : ¬ (t.grouped = true ∧ t.role = 1)) :
    t.calResetCmd = (.done, { t with obs := { t.obs with calReset := true } }) := if_neg h

theorem calResetCmd_standby (h : t.grouped = true ∧ t.role = 1) : t.calResetCmd = (.role, t) := if_pos h

theorem chanCalReset_active (h : ¬ (t.grouped = true ∧ t.role = 1)) (c : Nat) :
    t.chanCalReset c = (.done, { t with obs := { t.obs with chanReset := storePut t.obs.chanReset c () } }) := if_neg h

theorem chanCalReset_standby (h : t.grouped = true ∧ t.role = 1) (c : Nat) : t.chanCalReset c = (.role, t) := if_pos h

theorem datumSet_running (h : t.obsState = 1) (c : Nat) :
    t.datumSet c = (.done, { t with obs := { t.obs with datumReq := storePut t.obs.datumReq c () } }) := if_neg (not_not_intro h)

theorem datumSet_stopped (h : t.obsState ≠ 1) (c : Nat) : t.datumSet c = (.state, t) := if_pos h

end

/-! ## Frames of the observer block -/

/-- From s to u nothing changed but the observer block, the fields of these keys, and what recording an event or a change of HEALTH may
change. -/
def ObsOnly (keys : List Nat) (s u : State) : Prop := FieldsBut keys s u ∧ { u.quietRest with obs := s.obs } = s.quietRest

theorem obsOnly_trans {ks : List Nat} {a b c : State} (h : ObsOnly ks a b) (g : ObsOnly ks b c) : ObsOnly ks a c := by
  refine ⟨fieldsBut_trans h.1 g.1, ?_⟩
  rw [← h.2, ← g.2]

theorem obsOnly_quiet {ks : List Nat} {s u : State} (h : Quiet s u) : ObsOnly ks s u := ⟨fieldsBut_quiet h, by rw [h.1]; rfl⟩

theorem obsOnly_set {ks : List Nat} (s : State) (f : Fld) (v : Nat) (h : f.key 0 ∈ ks) : ObsOnly ks s (s.set f v) :=
  ⟨fieldsBut_set s f v 0 h, rfl⟩

theorem obsOnly_setFlag {ks : List Nat} (s : State) (f : Fld) (b : Bool) (h : f.key 0 ∈ ks) : ObsOnly ks s (s.setFlag f b) :=
  obsOnly_set s f _ h

theorem obsOnly_blocks (ks : List Nat) (s : State) (o : ObsState) (r : RedState) : ObsOnly ks s { s with obs := o, red := r } :=
  ⟨fieldsBut_regs rfl, rfl⟩

/-! ## The calibration store (R235) -/

/-- The copy that a save writes: the estimates as they are, under the next sequence number. -/
def nextCopy (s : State) : CalCopy :=
  { seq := max ((s.obs.copyA.map CalCopy.seq).getD 0) ((s.obs.copyB.map CalCopy.seq).getD 0) + 1, est := s.obs.est, cov := s.obs.estCov }

theorem nextCopy_newer {s : State} {a : CalCopy} (h : s.obs.copyA = some a ∨ s.obs.copyB = some a) : a.seq < (nextCopy s).seq := by
  refine Nat.lt_succ_of_le ?_
  rcases h with h | h
  · rw [h]
    exact le_max_left ..
  · rw [h]
    exact le_max_right ..

/-- From s to u a save of the estimates of s has begun, under a sequence number above those of both copies. -/
def SaveStarted (s u : State) : Prop :=
  (∃ k, u.obs.saving = some k ∧ k.est = s.obs.est ∧ k.cov = s.obs.estCov
      ∧ (∀ a, s.obs.copyA = some a ∨ s.obs.copyB = some a → a.seq < k.seq))
    ∧ u.flag Reg.OBS_STAT_CAL_BUSY = true ∧ RegsBut [Reg.OBS_STAT_CAL_BUSY.key 0] s u

theorem saveStarted_touch {s u : State} {p : Path} (h : SaveStarted (s.touch p) u) : SaveStarted s u := by
  obtain ⟨g, e⟩ := touch_host s p
  rw [e] at h
  exact h

section
variable {s : State}

theorem calSaveStart_free (hidle : s.obs.saving = none) (hdip : s.flag Reg.PWR_STAT_DIP = false) : s.calSaveStart =
    ({ s with obs := { s.obs with saving := some (nextCopy s), saveWanted := false } }).setFlag Reg.OBS_STAT_CAL_BUSY true :=
  if_neg (by simp [hidle, hdip])

theorem calSaveStart_dip (hdip : s.flag Reg.PWR_STAT_DIP = true) : s.calSaveStart = { s with obs := { s.obs with saveWanted := true } } :=
  if_pos (.inl hdip)

theorem calSaveStart_started (hidle : s.obs.saving = none) (hdip : s.flag Reg.PWR_STAT_DIP = false) :
    SaveStarted s s.calSaveStart ∧ { s.calSaveStart with regs := s.regs, obs := s.obs } = s := by
  rw [calSaveStart_free hidle hdip]
  refine ⟨⟨⟨nextCopy s, rfl, rfl, rfl, fun _ => nextCopy_newer⟩, flag_setFlag_same _ _ _ _ (by decide), ?_⟩, rfl⟩
  exact regsBut_set_after (regsBut_of_regs rfl) _ _ 0 (List.mem_singleton_self _)

theorem calSave_idle (hidle : s.obs.saving = none) : s.calSave = (.done, s.calSaveStart) :=
  if_neg (by rw [hidle]; exact Bool.false_ne_true)

theorem calSave_busy (hsaving : s.obs.saving ≠ none) : s.calSave = (.busy, s) := if_pos (Option.isSome_iff_ne_none.2 hsaving)

end

/-- The observer block once the copy with the older sequence number holds k. -/
def copySaved (o : ObsState) (k : CalCopy) : ObsState :=
  { (if (o.copyA.map CalCopy.seq).getD 0 ≤ (o.copyB.map CalCopy.seq).getD 0 then { o with copyA := some k } else { o with copyB := some k })
    with saving := none }

theorem copySaved_copies (o : ObsState) (k : CalCopy) :
    if (o.copyA.map CalCopy.seq).getD 0 ≤ (o.copyB.map CalCopy.seq).getD 0
      then (copySaved o k).copyA = some k ∧ (copySaved o k).copyB = o.copyB
      else (copySaved o k).copyB = some k ∧ (copySaved o k).copyA = o.copyA := by
  unfold copySaved
  split <;> exact ⟨rfl, rfl⟩

theorem copySaved_saveWanted (o : ObsState) (k : CalCopy) : (copySaved o k).saveWanted = o.saveWanted := by
  unfold copySaved
  split <;> rfl

section
variable {s : State} {k : CalCopy}

theorem calSaveDone_dip (hdip : s.flag Reg.PWR_STAT_DIP = true) : s.calSaveDone = s := by
  unfold State.calSaveDone
  rw [if_pos hdip]

/-- The state with the copy written and the save at its end, before the event is recorded. -/
def saveEnded (s : State) (k : CalCopy) : State := ({ s with obs := copySaved s.obs k }).setFlag Reg.OBS_STAT_CAL_BUSY false

theorem calSaveDone_saved (hdip : s.flag Reg.PWR_STAT_DIP = false) (hsaving : s.obs.saving = some k) (hwanted : s.obs.saveWanted = false) :
    s.calSaveDone = (saveEnded s k).raise 0x080A := by
  have hnone : ¬ ((saveEnded s k).raise 0x080A).obs.saveWanted = true := by
    rw [raise_obs]
    exact Bool.eq_false_iff.1 ((copySaved_saveWanted s.obs k).trans hwanted)
  unfold State.calSaveDone
  rw [if_neg (Bool.eq_false_iff.1 hdip), hsaving]
  exact if_neg hnone

theorem saveEnded_obsOnly (s : State) (k : CalCopy) : ObsOnly [Reg.OBS_STAT_CAL_BUSY.key 0] s (saveEnded s k) :=
  obsOnly_trans (obsOnly_blocks _ s (copySaved s.obs k) s.red) (obsOnly_setFlag _ _ _ (List.mem_singleton_self _))

end

/-! ## The observer's points (R237) -/

/-- From s to u only points were written, with no more than the marks that such a write leaves. -/
def PointsPut (s u : State) : Prop := PointMarks s u ∧ PointsOnly s u

theorem pointsPut_refl (s : State) : PointsPut s s := ⟨⟨rfl, rfl, rfl⟩, pointsOnly_refl s⟩

theorem pointsPut_trans {a b c : State} (h : PointsPut a b) (g : PointsPut b c) : PointsPut a c := by
  obtain ⟨⟨h1, h2, h3⟩, h⟩ := h
  obtain ⟨⟨g1, g2, g3⟩, g⟩ := g
  refine ⟨⟨?_, ?_, ?_⟩, pointsOnly_trans h g⟩
  · rw [← h1, ← g1]
  · rw [← h2, ← g2]
  · rw [← h3, ← g3]

theorem foldl_pointsPut {α : Type} (f : State → α → State) (h : ∀ s x, PointsPut s (f s x)) (l : List α) (s : State) :
    PointsPut s (l.foldl f s) := by
  induction l generalizing s with
  | nil => exact pointsPut_refl s
  | cons x l ih => exact pointsPut_trans (h s x) (ih _)

section
variable (s : State) (p : Nat)

theorem setPoint_pointsPut (r : Point) : PointsPut s (s.setPoint p r) := by
  refine ⟨⟨?_, ?_, ?_⟩, pointsOnly_setPoint s p r⟩ <;> (unfold State.setPoint; dsimp only; split <;> rfl)

theorem putF_pointsPut (x : F64) (q : Byte) : PointsPut s (s.putF p x q) := by
  unfold State.putF
  dsimp only
  split <;> exact setPoint_pointsPut ..

theorem putAll_pointsPut (l : List (Nat × Nat)) : PointsPut s (s.putAll l) := foldl_pointsPut _ (fun _ _ => setPoint_pointsPut ..) l s

theorem obsPoints_pointsPut (b : Bool) : PointsPut s (s.obsPoints b) := by
  unfold State.obsPoints
  dsimp only
  exact pointsPut_trans (pointsPut_trans (pointsPut_trans (pointsPut_trans (foldl_pointsPut _ (fun _ _ => putF_pointsPut ..) _ s)
    (putF_pointsPut ..)) (putAll_pointsPut ..)) (putF_pointsPut ..)) (putF_pointsPut ..)

end

section
variable (s : State) (b : Bool)

@[simp] theorem obsPoints_regs : (s.obsPoints b).regs = s.regs := (congrArg State.regs (obsPoints_pointsPut s b).2 :)
@[simp] theorem obsPoints_obs : (s.obsPoints b).obs = s.obs := (congrArg State.obs (obsPoints_pointsPut s b).2 :)
@[simp] theorem obsPoints_pump : (s.obsPoints b).pump = s.pump := (congrArg State.pump (obsPoints_pointsPut s b).2 :)
@[simp] theorem obsPoints_now : (s.obsPoints b).now = s.now := (congrArg State.now (obsPoints_pointsPut s b).2 :)
@[simp] theorem obsPoints_slots : (s.obsPoints b).loops.slots = s.loops.slots :=
  (congrArg LoopState.slots (obsPoints_pointsPut s b).1.2.1 :)

end

/-! ## Dead reckoning's limit (R227) -/

/-- The observer block with its position group expired, and with its heading group expired. -/
def posExpired (o : ObsState) : ObsState := { o with expPos := true }
def hdgExpired (o : ObsState) : ObsState := { o with expHdg := true }

/-- A group expires at the instant w: time passes to it, the group is marked, the event recorded, and the points follow. -/
def drExpired (s : State) (mark : ObsState → ObsState) (w : Nat) : State :=
  (({ s.advanceTo w with obs := mark (s.advanceTo w).obs }).raise 0x0804).obsPoints false

theorem drExpired_spec (s : State) (mark : ObsState → ObsState) (w : Nat) :
    let u := drExpired s mark w
    u.obs = mark s.obs ∧ w ≤ u.now ∧ FieldsBut [] s u ∧ u.loops.slots = s.loops.slots ∧ u.pump = s.pump := by
  have hnow : (drExpired s mark w).now = (s.advanceTo w).now := (obsPoints_now ..).trans (raise_now ..)
  refine ⟨(obsPoints_obs ..).trans (raise_obs ..), ?_, ?_, ?_, (obsPoints_pump ..).trans (raise_pump ..)⟩
  · rw [hnow, advanceTo_now]
    exact le_max_right ..
  · exact fieldsBut_trans
      (fieldsBut_of_regs (v := { s.advanceTo w with obs := mark (s.advanceTo w).obs }) rfl (fieldsBut_quiet (raise_quiet ..)))
      (fieldsBut_regs (obsPoints_regs ..))
  · exact (obsPoints_slots ..).trans (congrArg LoopState.slots (raise_loops ..))

section
variable {s : State}

theorem drMaxExpired_position (hdr : s.obs.drPos = true) (hexp : s.obs.expPos = false) : s.drMaxExpired .position =
    drExpired s posExpired (s.obs.closeAt + (s.get Reg.OBS_CFG_DR_MAX_POS * 1000000000 - s.obs.drPosNs) + 1) :=
  if_pos ⟨hdr, by rw [hexp]; rfl⟩

theorem drMaxExpired_heading (hdr : s.obs.drHdg = true) (hexp : s.obs.expHdg = false) : s.drMaxExpired .heading =
    drExpired s hdgExpired (s.obs.closeAt + (s.get Reg.OBS_CFG_DR_MAX_HDG * 1000000000 - s.obs.drHdgNs) + 1) :=
  if_pos ⟨hdr, by rw [hexp]; rfl⟩

end

/-! ## The observer's engines (R229, R342) -/

/-- The observer runs on C1 from C0's last state; b says that the fault cut an update. -/
def movedToSpare (s : State) (b : Bool) : State :=
  (({ s with obs := { s.obs with cutUpdate := b } }).set Reg.OBS_STAT_ENGINE 1).setFlag Reg.OBS_STAT_FAILOVER true

section
variable {s : State} {b : Bool}

theorem engineLost_spare (hengine : s.get Reg.OBS_STAT_ENGINE = 0) : s.engineLost 1 b = s.setFlag Reg.OBS_STAT_SPARE_LOST true :=
  (if_pos (by rw [hengine]; decide)).trans (if_pos rfl)

theorem engineLost_failover (hv : s.variant = .d8) (hengine : s.get Reg.OBS_STAT_ENGINE = 0) (hspare : s.obs.bad1 = false) :
    s.engineLost 0 b = (movedToSpare s b).raise 0x0808 :=
  (if_neg (not_not_intro hengine)).trans (if_pos ⟨rfl, hv, by rw [hspare]; rfl⟩)

theorem engineLost_last (hengine : s.get Reg.OBS_STAT_ENGINE = 1) : s.engineLost 1 b = (s.set Reg.OBS_STAT_STATE 2).obsPoints false :=
  (if_neg (not_not_intro hengine)).trans (if_neg (fun h => absurd h.1 (by decide)))

theorem movedToSpare_obsOnly (s : State) (b : Bool) :
    ObsOnly [Reg.OBS_STAT_ENGINE.key 0, Reg.OBS_STAT_FAILOVER.key 0] s (movedToSpare s b) := by
  refine obsOnly_trans (obsOnly_trans (obsOnly_blocks _ s { s.obs with cutUpdate := b } s.red) (obsOnly_set _ Reg.OBS_STAT_ENGINE 1 ?_))
    (obsOnly_setFlag _ Reg.OBS_STAT_FAILOVER true ?_)
  · simp
  · simp

end

section
variable (s : State) (cause : FaultCause)

@[simp] theorem markCause_regs : (s.markCause cause).regs = s.regs := by cases cause <;> rfl
@[simp] theorem markCause_obs : (s.markCause cause).obs = s.obs := by cases cause <;> rfl
@[simp] theorem markCause_variant : (s.markCause cause).variant = s.variant := by cases cause <;> rfl
@[simp] theorem markCause_pump : (s.markCause cause).pump = s.pump := by cases cause <;> rfl
@[simp] theorem markCause_loops : (s.markCause cause).loops = s.loops := by cases cause <;> rfl

theorem markCause_quiet : Quiet s (s.markCause cause) := by cases cause <;> exact quiet_of_regs rfl rfl

end

/-- C1 is known lost. -/
def spareBad (s : State) : State := { s with obs := { s.obs with bad1 := true } }

section
variable {s : State} (hv : s.variant = .d8) (cause : FaultCause) (b : Bool)
include hv

theorem obsEngineFault_d8 {e : Nat} (he : e < 2) :
    s.obsEngineFault e cause b = (((s.markCause cause).markEngine e).engineLost e b).healthCheck := by
  have hpresent : ¬ ((!s.variant.has 11) = true ∨ 2 ≤ e ∨ s.variant.dies ≤ e) := by
    rw [hv]
    rintro (h | h | h)
    · cases h
    · omega
    · exact absurd (h.trans_lt he) (by decide)
  exact if_neg hpresent

/-- A fault of C0 with its spare whole: C1 goes on with the observer's state (R229). -/
theorem obsEngineFault_failover (hengine : s.get Reg.OBS_STAT_ENGINE = 0) (hspare : s.obs.bad1 = false) :
    let u := s.obsEngineFault 0 cause b
    u.get Reg.OBS_STAT_ENGINE = 1 ∧ u.flag Reg.OBS_STAT_FAILOVER = true ∧ u.obs = { s.obs with cutUpdate := b }
      ∧ ObsOnly [Reg.OBS_STAT_ENGINE.key 0, Reg.OBS_STAT_FAILOVER.key 0] s u := by
  have hfault : s.obsEngineFault 0 cause b = ((movedToSpare (s.markCause cause) b).raise 0x0808).healthCheck :=
    (obsEngineFault_d8 hv cause b (by decide)).trans (congrArg State.healthCheck (engineLost_failover ((markCause_variant ..).trans hv)
      ((get_of_regs (markCause_regs ..) _ 0).trans hengine) ((congrArg ObsState.bad1 (markCause_obs ..)).trans hspare)))
  have hquiet : Quiet (movedToSpare (s.markCause cause) b) (s.obsEngineFault 0 cause b) := by
    rw [hfault]
    exact quiet_trans (raise_quiet ..) (healthCheck_quiet _)
  refine ⟨?_, ?_, (Quiet.obs hquiet).trans (congrArg (fun o : ObsState => { o with cutUpdate := b }) (markCause_obs ..)), ?_⟩
  · exact (Quiet.get hquiet _ 0 (by decide)).trans ((get_setFlag_other _ _ _ _ _ _ (by decide)).trans (get_set_same ..))
  · exact (Quiet.flag hquiet _ 0 (by decide)).trans (flag_setFlag_same _ _ _ _ (by decide))
  · exact obsOnly_trans (obsOnly_quiet (markCause_quiet s cause)) (obsOnly_trans (movedToSpare_obsOnly _ b) (obsOnly_quiet hquiet))

/-- A fault of the spare (R229). -/
theorem obsEngineFault_spare (hengine : s.get Reg.OBS_STAT_ENGINE = 0) :
    let u := s.obsEngineFault 1 cause b
    u.flag Reg.OBS_STAT_SPARE_LOST = true ∧ u.obs = { s.obs with bad1 := true } ∧ ObsOnly [Reg.OBS_STAT_SPARE_LOST.key 0] s u := by
  have hfault : s.obsEngineFault 1 cause b = ((spareBad (s.markCause cause)).setFlag Reg.OBS_STAT_SPARE_LOST true).healthCheck :=
    (obsEngineFault_d8 hv cause b (by decide)).trans (congrArg State.healthCheck (engineLost_spare
      ((get_of_regs (markCause_regs ..) _ 0).trans hengine)))
  have hquiet : Quiet ((spareBad (s.markCause cause)).setFlag Reg.OBS_STAT_SPARE_LOST true) (s.obsEngineFault 1 cause b) := by
    rw [hfault]
    exact healthCheck_quiet _
  refine ⟨?_, (Quiet.obs hquiet).trans (congrArg (fun o : ObsState => { o with bad1 := true }) (markCause_obs ..)), ?_⟩
  · exact (Quiet.flag hquiet _ 0 (by decide)).trans (flag_setFlag_same _ _ _ _ (by decide))
  · exact obsOnly_trans (obsOnly_quiet (markCause_quiet s cause)) (obsOnly_trans (obsOnly_blocks _ _ _ (s.markCause cause).red)
      (obsOnly_trans (obsOnly_setFlag _ _ _ (List.mem_singleton_self _)) (obsOnly_quiet hquiet)))

/-- A fault of C1 while it runs the observer, which has no engine left (R229). -/
theorem obsEngineFault_last (hengine : s.get Reg.OBS_STAT_ENGINE = 1) :
    let u := s.obsEngineFault 1 cause b
    u.obsState = 2 ∧ u.obs = { s.obs with bad1 := true } ∧ FieldsBut [Reg.OBS_STAT_STATE.key 0] s u
      ∧ u.loops.slots = s.loops.slots ∧ u.pump = s.pump := by
  have hfault : s.obsEngineFault 1 cause b = (((spareBad (s.markCause cause)).set Reg.OBS_STAT_STATE 2).obsPoints false).healthCheck :=
    (obsEngineFault_d8 hv cause b (by decide)).trans (congrArg State.healthCheck (engineLost_last
      ((get_of_regs (markCause_regs ..) _ 0).trans hengine)))
  have hregs := obsPoints_regs ((spareBad (s.markCause cause)).set Reg.OBS_STAT_STATE 2) false
  dsimp only
  rw [hfault]
  refine ⟨?_, ?_, ?_, ?_, ?_⟩
  · exact (Quiet.get (healthCheck_quiet _) _ 0 (by decide)).trans ((get_of_regs hregs _ 0).trans (get_set_same ..))
  · exact (healthCheck_obs _).trans ((obsPoints_obs ..).trans (congrArg (fun o : ObsState => { o with bad1 := true }) (markCause_obs ..)))
  · exact fieldsBut_trans (fieldsBut_of_regs (v := spareBad (s.markCause cause)) (markCause_regs ..)
      (fieldsBut_set _ Reg.OBS_STAT_STATE 2 0 (List.mem_singleton_self _)))
      (fieldsBut_of_regs hregs (fieldsBut_quiet (healthCheck_quiet _)))
  · exact (congrArg LoopState.slots (healthCheck_loops _)).trans ((obsPoints_slots ..).trans (congrArg LoopState.slots (markCause_loops ..)))
  · exact (healthCheck_pump _).trans ((obsPoints_pump ..).trans (markCause_pump ..))

end

/-! ## The statement -/

/-- Settles O46. Each command is its operation on the touched state; a save, its end, dead reckoning's limit and a fault of an engine are
each what the lemma on its operation says. -/
theorem observerCommands : Obligations.ObserverCommands := by
  intro s p c t standby started
  refine ⟨fun htakes => ⟨fun hopen => ⟨?_, ?_⟩, fun hclosed => ⟨?_, ?_⟩, fun hactive => ?_, fun hactive hc => ?_, fun hstandby hc => ⟨?_, ?_⟩,
      fun hrun hc => ?_, fun hstop hc => ?_, fun hidle hdip => ?_, fun hidle hdip => ?_, fun hsaving => ?_⟩,
    fun hrun hd2 hidle hdip => ?_, fun hrun => ?_, fun hdip => ?_, fun k hdip hsaving hwanted => ?_, fun hdr hexp => ?_, fun hdr hexp => ?_,
    fun cause b hv => ⟨fun hengine hspare => ?_, fun hengine => ?_, fun hengine => ?_⟩⟩
  -- ORIGIN_SET, OBS_REINIT
  · exact answers_of_answered (exec_originSet htakes) (originSet_open (by rwa [touch_dpClosed])) (.inl rfl) rfl
  · exact answers_of_answered (exec_obsReinit htakes) (obsReinit_open (by rwa [touch_dpClosed])) (.inl rfl) rfl
  · exact answers_of_answered (exec_originSet htakes) (originSet_closed (by rwa [touch_dpClosed])) (.inr rfl) rfl
  · exact answers_of_answered (exec_obsReinit htakes) (obsReinit_closed (by rwa [touch_dpClosed])) (.inr rfl) rfl
  -- CAL_RESET, CHAN_CAL_RESET
  · exact answers_of_answered (exec_calReset htakes) (calResetCmd_active (by rwa [touch_grouped, touch_role])) (.inl rfl) rfl
  · refine answers_of_answered (exec_chanCalReset htakes hc) (chanCalReset_active (by rwa [touch_grouped, touch_role]) c) (.inl rfl)
      ⟨storeFind_put_same .., ?_⟩
    rw [← touch_obs s p]
  · exact answers_of_answered (exec_calReset htakes) (calResetCmd_standby (by rwa [touch_grouped, touch_role])) (.inr rfl) rfl
  · exact answers_of_answered (exec_chanCalReset htakes hc) (chanCalReset_standby (by rwa [touch_grouped, touch_role]) c) (.inr rfl) rfl
  -- DATUM_SET
  · refine answers_of_answered (exec_datumSet htakes hc) (datumSet_running (by rwa [touch_obsState]) c) (.inl rfl)
      ⟨storeFind_put_same .., ?_⟩
    rw [← touch_obs s p]
  · exact answers_of_answered (exec_datumSet htakes hc) (datumSet_stopped (by rwa [touch_obsState]) c) (.inr rfl) rfl
  -- CAL_SAVE
  · have hidle' : t.obs.saving = none := by rwa [touch_obs]
    obtain ⟨hstarted, hrest⟩ := calSaveStart_started hidle' (by rwa [touch_flag])
    refine answers_of_answered (exec_calSave htakes) (calSave_idle hidle') (.inl rfl) ⟨saveStarted_touch hstarted, ?_⟩
    rwa [touch_regs, touch_obs] at hrest
  · exact answers_of_answered (exec_calSave htakes) (calSave_idle (by rwa [touch_obs])) (.inl rfl) (calSaveStart_dip (by rwa [touch_flag]))
  · exact answers_of_answered (exec_calSave htakes) (calSave_busy (by rwa [touch_obs])) (.inr rfl) rfl
  -- CAL_SAVE_PERIODIC
  · have hobserver : s.variant.has 11 = true := by
      cases h : s.variant with
      | d2 => exact absurd h hd2
      | d4 => rfl
      | d8 => rfl
    exact ⟨_, congrArg Host.Outcome.next (if_pos ⟨hrun, hobserver⟩), calSaveStart_started hidle hdip⟩
  · exact ⟨_, congrArg Host.Outcome.next (if_neg fun h => hrun h.1), rfl⟩
  -- CAL_SAVE_DONE
  · exact ⟨_, congrArg Host.Outcome.next (calSaveDone_dip hdip), rfl⟩
  · have hquiet := raise_quiet (saveEnded s k) 0x080A
    have hobs : ((saveEnded s k).raise 0x080A).obs = copySaved s.obs k := raise_obs ..
    obtain ⟨hfields, hrest⟩ := obsOnly_trans (saveEnded_obsOnly s k) (obsOnly_quiet hquiet)
    refine ⟨_, congrArg Host.Outcome.next (calSaveDone_saved hdip hsaving hwanted), by rw [hobs]; rfl, ?_, hfields, ?_, hrest⟩
    · exact (Quiet.flag hquiet _ 0 (by decide)).trans (flag_setFlag_same _ _ _ _ (by decide))
    · rw [hobs]
      exact copySaved_copies s.obs k
  -- DR_MAX_EXPIRED
  · exact ⟨_, congrArg Host.Outcome.next (drMaxExpired_position hdr hexp), drExpired_spec ..⟩
  · exact ⟨_, congrArg Host.Outcome.next (drMaxExpired_heading hdr hexp), drExpired_spec ..⟩
  -- OBSERVER_ENGINE_FAULT
  · obtain ⟨hC1, hover, hobs, hfields, hrest⟩ := obsEngineFault_failover hv cause b hengine hspare
    exact ⟨_, rfl, hC1, hover, hobs, hfields, hrest⟩
  · obtain ⟨hlost, hobs, hfields, hrest⟩ := obsEngineFault_spare hv cause b hengine
    exact ⟨_, rfl, hlost, hobs, hfields, hrest⟩
  · exact ⟨_, rfl, obsEngineFault_last hv cause b hengine⟩

end Sys2Proof.Proofs
end

section
/-! The solver's slots and dies, the frames of what works on them, and what a die's next start can change (R296, R303, R304, R306, R312). -/

namespace Sys2Proof.Proofs
open Sys2Proof Sys2Proof.Machine Sys2Proof.Laws

/-! ## Slots and dies -/

section
variable (s : State) (c d k : Nat)

@[simp] theorem slotRun_setSlotRun_same (x : CtxSlot) : (s.setSlotRun c x).slotRun c = x := storeGet_set_same ..
@[simp] theorem slotRun_setDie (x : DieState) : (s.setDie d x).slotRun k = s.slotRun k := rfl
@[simp] theorem die_setSlotRun (x : CtxSlot) : (s.setSlotRun c x).die k = s.die k := rfl
@[simp] theorem die_setDie_same (x : DieState) : (s.setDie d x).die d = x := storeGet_set_same ..

variable {c d k}

theorem slotRun_setSlotRun_other (x : CtxSlot) (h : k ≠ c) : (s.setSlotRun c x).slotRun k = s.slotRun k := storeGet_set_other _ _ _ _ _ _ h

theorem die_setDie_other (x : DieState) (h : k ≠ d) : (s.setDie d x).die k = s.die k := storeGet_set_other _ _ _ _ _ _ h

variable (k)

theorem slotRun_of_solv {s t : State} (h : t.solv = s.solv) : t.slotRun k = s.slotRun k := by
  unfold State.slotRun
  rw [h]

theorem die_of_solv {s t : State} (h : t.solv = s.solv) : t.die k = s.die k := by
  unfold State.die
  rw [h]

@[simp] theorem slotRun_raise (n : Nat) : (s.raise n).slotRun k = s.slotRun k := slotRun_of_solv k (raise_solv ..)
@[simp] theorem die_raise (n : Nat) : (s.raise n).die k = s.die k := die_of_solv k (raise_solv ..)
@[simp] theorem slotRun_set (f : Fld) (v i : Nat) : (s.set f v i).slotRun k = s.slotRun k := rfl
@[simp] theorem get_setSlotRun (x : CtxSlot) (f : Fld) (i : Nat) : (s.setSlotRun c x).get f i = s.get f i := rfl
@[simp] theorem get_setDie (x : DieState) (f : Fld) (i : Nat) : (s.setDie d x).get f i = s.get f i := rfl
@[simp] theorem die_count (f : Fld) (i : Nat) : (s.count f i).die k = s.die k := rfl

end

/-- A mark changes FLAGS alone. -/
theorem mark_eq (x : CtxSlot) (b : Nat) : x.mark b = { x with flags := if bitAt x.flags b then x.flags else x.flags + 2 ^ b } := by
  unfold CtxSlot.mark
  split <;> rfl

/-- A mark of a higher bit keeps the bits below it. -/
theorem bitAt_mark_lower (x : CtxSlot) {b j : Nat} (h : j < b) : bitAt (x.mark b).flags j = bitAt x.flags j := by
  unfold CtxSlot.mark
  split
  · rfl
  · rw [bitAt_eq_testBit, bitAt_eq_testBit, Nat.add_comm, Nat.testBit_two_pow_add_gt h]

/-! ## Frames of the solver -/

/-- From s to u nothing changed but slots of these contexts, these dies, other parts of the solver, the fields of these keys, and what
recording an event or a change of HEALTH may change. -/
structure SolvOnly (keys ctxs dies : List Nat) (s u : State) : Prop where
  fields : FieldsBut keys s u
  rest : { u.quietRest with solv := s.solv } = s.quietRest
  slots : ∀ k, k ∉ ctxs → u.slotRun k = s.slotRun k
  dies : ∀ k, k ∉ dies → u.die k = s.die k

theorem solvRest_trans {a b c : State} (h : { b.quietRest with solv := a.solv } = a.quietRest)
    (g : { c.quietRest with solv := b.solv } = b.quietRest) : { c.quietRest with solv := a.solv } = a.quietRest := by
  rw [← h, ← g]

section
variable {ks cs ds : List Nat}

theorem solvOnly_trans {a b c : State} (h : SolvOnly ks cs ds a b) (g : SolvOnly ks cs ds b c) : SolvOnly ks cs ds a c where
  fields := fieldsBut_trans h.fields g.fields
  rest := solvRest_trans h.rest g.rest
  slots k hk := (g.slots k hk).trans (h.slots k hk)
  dies k hk := (g.dies k hk).trans (h.dies k hk)

theorem solvOnly_mono {ls as es : List Nat} {s u : State} (h : SolvOnly ks cs ds s u) (hk : ks ⊆ ls := by simp) (hc : cs ⊆ as := by simp)
    (hd : ds ⊆ es := by simp) : SolvOnly ls as es s u where
  fields := fieldsBut_mono h.fields hk
  rest := h.rest
  slots k hn := h.slots k fun hm => hn (hc hm)
  dies k hn := h.dies k fun hm => hn (hd hm)

theorem solvOnly_quiet {s u : State} (h : Quiet s u) : SolvOnly ks cs ds s u :=
  ⟨fieldsBut_quiet h, by rw [h.1]; rfl, fun k _ => slotRun_of_solv k (Quiet.solv h), fun k _ => die_of_solv k (Quiet.solv h)⟩

theorem solvOnly_refl (s : State) : SolvOnly ks cs ds s s := solvOnly_quiet (quiet_refl s)

theorem solvOnly_raise (s : State) (n : Nat) : SolvOnly ks cs ds s (s.raise n) := solvOnly_quiet (raise_quiet s n)

theorem solvOnly_set (s : State) (f : Fld) (v : Nat) (h : f.key 0 ∈ ks) : SolvOnly ks cs ds s (s.set f v) :=
  ⟨fieldsBut_set s f v 0 h, rfl, fun _ _ => rfl, fun _ _ => rfl⟩

theorem solvOnly_count (s : State) (f : Fld) (h : f.key 0 ∈ ks) : SolvOnly ks cs ds s (s.count f) := solvOnly_set s f _ h

theorem solvOnly_setSlotRun (s : State) {c : Nat} (x : CtxSlot) (h : c ∈ cs) : SolvOnly ks cs ds s (s.setSlotRun c x) :=
  ⟨fieldsBut_regs rfl, rfl, fun _ hk => slotRun_setSlotRun_other s x fun e => hk (e ▸ h), fun _ _ => rfl⟩

theorem solvOnly_setDie (s : State) {d : Nat} (x : DieState) (h : d ∈ ds) : SolvOnly ks cs ds s (s.setDie d x) :=
  ⟨fieldsBut_regs rfl, rfl, fun _ _ => rfl, fun _ hk => die_setDie_other s x fun e => hk (e ▸ h)⟩

theorem foldl_solvOnly {f : State → Nat → State} {l : List Nat} (h : ∀ s, ∀ c ∈ l, SolvOnly ks cs ds s (f s c)) (s : State) :
    SolvOnly ks cs ds s (l.foldl f s) :=
  List.foldlRecOn l f (solvOnly_refl s) fun _ hb c hc => solvOnly_trans hb (h _ c hc)

theorem solvOnly_ite {p : Prop} [Decidable p] {s a b : State} (h : SolvOnly ks cs ds s a) (g : SolvOnly ks cs ds s b) :
    SolvOnly ks cs ds s (if p then a else b) := by
  split
  · exact h
  · exact g

end

/-- Such a frame leaves points, pump, fuses and the time as they are. -/
theorem outside_of_rest {s u : State} {v : SolvState} (h : { u.quietRest with solv := v } = s.quietRest) :
    u.points = s.points ∧ u.pump = s.pump ∧ u.fuses = s.fuses ∧ u.now = s.now := by
  have hpart {α : Type} (f : State → α) : f { u.quietRest with solv := v } = f s.quietRest := congrArg f h
  exact ⟨hpart State.points, hpart State.pump, hpart State.fuses, hpart State.now⟩

/-! ## Starts (R296, R303, R304, R306, R312) -/

section
variable (s : State) (c : Nat)

theorem notRun_solvOnly : SolvOnly [] [c] [] s (s.notRun c) :=
  solvOnly_trans (solvOnly_setSlotRun s _ (List.mem_singleton_self c)) (solvOnly_raise ..)

theorem feed_solvOnly : SolvOnly [Reg.SOLV_EVT_CNT_BREACH_CNT.key 0] [c] [] s (s.feed c) := by
  have hc : c ∈ [c] := List.mem_singleton_self c
  have hcounted : SolvOnly [Reg.SOLV_EVT_CNT_BREACH_CNT.key 0] [c] [] s ((s.count Reg.SOLV_EVT_CNT_BREACH_CNT).raise 0x0B04) :=
    solvOnly_trans (solvOnly_count s _ (List.mem_singleton_self _)) (solvOnly_raise ..)
  exact solvOnly_ite (solvOnly_setSlotRun s _ hc) (solvOnly_ite (solvOnly_setSlotRun s _ hc)
    (solvOnly_ite (solvOnly_trans hcounted (solvOnly_setSlotRun _ _ hc))
      (solvOnly_trans hcounted (solvOnly_trans (solvOnly_setSlotRun _ _ hc) (solvOnly_raise ..)))))

theorem refeedWide_solvOnly : SolvOnly [] [c] [] s (s.refeedWide c) := solvOnly_setSlotRun s _ (List.mem_singleton_self c)

theorem refeedWide_wide (k : Nat) : ((s.refeedWide c).slotRun k).wide = (s.slotRun k).wide := by
  by_cases hk : k = c
  · subst hk
    simp [State.refeedWide, mark_eq]
  · rw [(refeedWide_solvOnly s c).slots k (by simpa using hk)]

end

section
variable (d dl : Nat)

theorem startList_solvOnly (l : List Nat) (s : State) : SolvOnly [Reg.SOLV_EVT_CNT_BREACH_CNT.key 0] l [d] s (s.startList d dl l) := by
  have hd : d ∈ [d] := List.mem_singleton_self d
  induction l generalizing s with
  | nil => exact solvOnly_setDie s _ hd
  | cons c l ih =>
    unfold State.startList
    split
    · exact solvOnly_trans (solvOnly_setDie s _ hd) (solvOnly_mono (feed_solvOnly _ c))
    · exact solvOnly_trans (solvOnly_mono (notRun_solvOnly s c)) (solvOnly_mono (ih _))

theorem startList_reruns (l : List Nat) (s : State) : ((s.startList d dl l).die d).reruns = (s.die d).reruns := by
  induction l generalizing s with
  | nil =>
    unfold State.startList
    rw [die_setDie_same]
  | cons c l ih =>
    unfold State.startList
    split
    · rw [(feed_solvOnly _ c).dies d List.not_mem_nil, die_setDie_same]
    · rw [ih, (notRun_solvOnly s c).dies d List.not_mem_nil]

theorem startRerun_solvOnly (l : List Nat) (s : State) : SolvOnly [] l [d] s (s.startRerun d dl l) := by
  have hd : d ∈ [d] := List.mem_singleton_self d
  induction l generalizing s with
  | nil => exact solvOnly_setDie s _ hd
  | cons c l ih =>
    unfold State.startRerun
    split
    · exact solvOnly_trans (solvOnly_setDie s _ hd) (solvOnly_mono (refeedWide_solvOnly _ c))
    · exact solvOnly_trans (solvOnly_setSlotRun s _ (List.mem_cons_self ..)) (solvOnly_mono (ih _))

theorem startRerun_wide (l : List Nat) (s : State) (k : Nat) : ((s.startRerun d dl l).slotRun k).wide = (s.slotRun k).wide := by
  induction l generalizing s with
  | nil => rfl
  | cons c l ih =>
    unfold State.startRerun
    split
    · exact refeedWide_wide ..
    · rw [ih]
      by_cases hk : k = c
      · subst hk
        simp
      · rw [slotRun_setSlotRun_other _ _ hk]

end

section
variable {s : State} {d : Nat}

/-- A die that takes its next context: the first of its list that can start, else the first of its re-runs. -/
theorem dieNext_cases (s : State) (d : Nat) : s.dieNext d = s ∨ ∃ dl, s.dieNext d = s.startList d dl (s.die d).list
    ∨ s.dieNext d = (s.startList d dl (s.die d).list).startRerun d dl (s.die d).reruns := by
  unfold State.dieNext
  split
  · exact .inl rfl
  · next dl _ =>
    split
    · refine .inr ⟨dl, ?_⟩
      dsimp only
      split
      · exact .inr (by rw [startList_reruns])
      · exact .inl rfl
    · exact .inl rfl

theorem dieNext_solvOnly (s : State) (d : Nat) :
    SolvOnly [Reg.SOLV_EVT_CNT_BREACH_CNT.key 0] ((s.die d).list ++ (s.die d).reruns) [d] s (s.dieNext d) := by
  have hstarted (dl : Nat) : SolvOnly [Reg.SOLV_EVT_CNT_BREACH_CNT.key 0] ((s.die d).list ++ (s.die d).reruns) [d] s
      (s.startList d dl (s.die d).list) := solvOnly_mono (startList_solvOnly ..)
  rcases dieNext_cases s d with h | ⟨dl, h | h⟩ <;> rw [h]
  · exact solvOnly_refl s
  · exact hstarted dl
  · exact solvOnly_trans (hstarted dl) (solvOnly_mono (startRerun_solvOnly d dl _ _))

/-- A die without a narrow list starts re-runs alone: no field changes, and every context keeps its storage. -/
theorem dieNext_reruns (hlist : (s.die d).list = []) :
    SolvOnly [] (s.die d).reruns [d] s (s.dieNext d) ∧ ∀ k, ((s.dieNext d).slotRun k).wide = (s.slotRun k).wide := by
  have hempty (dl : Nat) : SolvOnly [] (s.die d).reruns [d] s (s.startList d dl []) := solvOnly_setDie s _ (List.mem_singleton_self d)
  rcases dieNext_cases s d with h | ⟨dl, h | h⟩ <;> rw [h]
  · exact ⟨solvOnly_refl s, fun _ => rfl⟩
  · rw [hlist]
    exact ⟨hempty dl, fun _ => rfl⟩
  · rw [hlist]
    exact ⟨solvOnly_trans (hempty dl) (startRerun_solvOnly ..), fun k => startRerun_wide ..⟩

/-- A die without work stays without work. -/
theorem dieNext_idle (hlist : (s.die d).list = []) (hreruns : (s.die d).reruns = []) (hidle : (s.die d).running = none) :
    ((s.dieNext d).die d).running = none := by
  rcases dieNext_cases s d with h | ⟨dl, h | h⟩ <;> rw [h]
  · exact hidle
  · rw [hlist]
    exact congrArg DieState.running (die_setDie_same ..)
  · rw [hreruns]
    exact congrArg DieState.running (die_setDie_same ..)

end

end Sys2Proof.Proofs
end

section
/-! A run in wide storage never ends by a breach (R304 to R306): no word that it stores does. -/

namespace Sys2Proof.Proofs
open Sys2Proof Sys2Proof.Machine Sys2Proof.Laws

/-- A candidate does not end a run. -/
theorem offer_ended (r : Run) (z : List F64) (m : F64) : (r.offer z m).ended = r.ended := by
  unfold Run.offer
  split <;> rfl

theorem ite_ne_breach {q : Prop} [Decidable q] {a b : Run} (ha : a.ended ≠ .breach) (hb : b.ended ≠ .breach) :
    (if q then a else b).ended ≠ .breach := by
  split
  · exact ha
  · exact hb

section
variable {p : LaneProblem} (hwide : p.wide = true)
include hwide

theorem endOf_ne_breach (x : F64) (b : Bool) : p.endOf x b ≠ .breach := by
  unfold LaneProblem.endOf
  rw [if_pos hwide]
  split <;> exact nofun

/-! ## Factorisation (R309 to R311) -/

theorem storeWord_ne_breach {f : Factor} (hf : f.ended ≠ .breach) (x : F64) (r : F64 × Bool) (put : Factor → F64 → Factor) :
    (p.storeWord f x r put).ended ≠ .breach := by
  unfold LaneProblem.storeWord
  split
  · exact hf
  · exact endOf_ne_breach hwide x r.2

theorem column_ne_breach {f : Factor} (hf : f.ended ≠ .breach) (z : List F64) (floor : F64) (limit j : Nat) :
    (p.column z floor limit f j).ended ≠ .breach := by
  unfold LaneProblem.column
  split
  · exact hf
  · dsimp only
    split
    · exact hf
    · refine List.foldlRecOn (motive := fun a : Factor => a.ended ≠ .breach) _ _ (storeWord_ne_breach hwide ?_ _ _ _)
        fun _ ha _ _ => storeWord_ne_breach hwide ha _ _ _
      split <;> exact hf

theorem factorise_ne_breach (z : List F64) (pivotExp limit : Nat) : (p.factorise z pivotExp limit).ended ≠ .breach :=
  List.foldlRecOn (motive := fun f : Factor => f.ended ≠ .breach) _ _ (by decide) fun _ hf j _ => column_ne_breach hwide hf z _ limit j

theorem factorStep_ne_breach {r : Run} (hr : r.ended ≠ .breach) (lim : RunLimits) (kept : Bool) : (r.factorStep p lim kept).ended ≠ .breach := by
  unfold Run.factorStep
  split
  · exact hr
  · dsimp only
    split
    · next h => exact absurd h (factorise_ne_breach hwide _ _ _)
    · exact nofun
    · split <;> exact hr

/-! ## Steps (R307, R308, R313) -/

theorem storeIterate_ne_breach (z : List F64) : (p.storeIterate z).2.2 ≠ .breach := by
  unfold LaneProblem.storeIterate
  dsimp only
  split
  · next h =>
    obtain ⟨e, -, he⟩ := List.mem_map.1 (List.contains_iff_mem.1 h)
    exact absurd he (endOf_ne_breach hwide _ _)
  · split <;> exact nofun

theorem takeStep_ne_breach {r : Run} (hr : r.ended ≠ .breach) (lim : RunLimits) (lam0 : F64) (d : List F64) :
    (r.takeStep p lim lam0 d).ended ≠ .breach := by
  unfold Run.takeStep
  dsimp only
  split
  · next h => exact absurd h (storeIterate_ne_breach hwide _)
  · exact (by decide : RunEnd.nonFinite ≠ .breach)
  · exact ite_ne_breach (by decide : RunEnd.nonFinite ≠ .breach) (ite_ne_breach (by decide : RunEnd.converged ≠ .breach)
      (ite_ne_breach (by decide : RunEnd.infeasible ≠ .breach) (ite_ne_breach (by decide : RunEnd.stopped ≠ .breach)
        ((offer_ended ..).trans_ne hr))))

theorem newtonStep_ne_breach {r : Run} (hr : r.ended ≠ .breach) (lim : RunLimits) (lam0 : F64) (kept : Bool) (st : NewtonStep) :
    (r.newtonStep p lim lam0 kept st).ended ≠ .breach := by
  have hfactor := factorStep_ne_breach hwide hr lim (kept && decide (r.newton = 0))
  unfold Run.newtonStep
  split
  · exact hr
  · dsimp only
    split
    · exact hfactor
    · refine takeStep_ne_breach hwide ?_ _ _ _
      exact hfactor

theorem innerStep_ne_breach {r : Run} (hr : r.ended ≠ .breach) (lim : RunLimits) (bNorm : F64) (x : List F64) :
    (r.innerStep p lim bNorm x).ended ≠ .breach := by
  unfold Run.innerStep
  split
  · exact hr
  · dsimp only
    split
    · next h => exact absurd h (storeIterate_ne_breach hwide _)
    · exact (by decide : RunEnd.nonFinite ≠ .breach)
    · exact ite_ne_breach (by decide : RunEnd.converged ≠ .breach) (ite_ne_breach (by decide : RunEnd.stopped ≠ .breach)
        ((offer_ended ..).trans_ne hr))

theorem run_ne_breach (linear : Bool) (lim : RunLimits) (z : List F64) (kept whole inFactor : Bool) (tr : SolveTrace) :
    (p.run linear lim z kept whole inFactor tr).ended ≠ .breach := by
  have hstart : (p.start linear z).ended ≠ .breach := (by decide : RunEnd.cut ≠ .breach)
  unfold LaneProblem.run
  dsimp only
  split
  · refine List.foldlRecOn (motive := fun r : Run => r.ended ≠ .breach) _ _ ?_ fun _ hr x _ => innerStep_ne_breach hwide hr lim _ x
    split
    · exact hstart
    · exact factorStep_ne_breach hwide hstart lim kept
  · have hsteps (sts : List NewtonStep) : (sts.foldl (fun r st => r.newtonStep p lim (p.lamNorm z) kept st) (p.start linear z)).ended ≠ .breach :=
      List.foldlRecOn (motive := fun r : Run => r.ended ≠ .breach) _ _ hstart fun _ hr st _ => newtonStep_ne_breach hwide hr lim _ kept st
    exact ite_ne_breach (hsteps _) (factorStep_ne_breach hwide (hsteps _) _ _)

end

/-- A context whose run ends by a breach holds its words in narrow storage. -/
theorem narrow_of_breach {s : State} {c : Nat} {tr : SolveTrace} {whole inFactor : Bool} (h : (s.runOf c tr whole inFactor).ended = .breach) :
    (s.slotRun c).wide = false :=
  Bool.eq_false_iff.2 fun hwide => run_ne_breach (p := s.laneProblem c) hwide _ _ _ _ _ _ _ h

end Sys2Proof.Proofs
end

section
/-! What a run leaves in its slot, what its end comes to, and the end of a context's run (R304 to R307, R309, R310, R313, R315, R321). -/

namespace Sys2Proof.Proofs
open Sys2Proof Sys2Proof.Machine Sys2Proof.Laws

/-! ## What a run leaves in its slot (R309, R310, R313, R321) -/

/-- The slot of a context after a run, with FLAGS f. -/
def notedSlot (x : CtxSlot) (r : Run) (timeNs : Nat) (inFactor : Bool) (f : Nat) : CtxSlot :=
  { x with newton := r.newton, inner := r.inner, merit := r.bestM, floors := r.floors, floorCol := r.floorCol, timeNs := timeNs,
           factor := r.factor.or x.factor, keptPending := inFactor, clash := x.clash || r.clash, flags := f }

/-- The state in which the slot holds that and the replacements of the run are counted. -/
def runNoted (s : State) (c : Nat) (r : Run) (timeNs : Nat) (inFactor : Bool) (f : Nat) : State :=
  (s.setSlotRun c (notedSlot (s.slotRun c) r timeNs inFactor f)).set Reg.SOLV_FLOOR_CNT_COUNT
    (min 4294967295 (s.get Reg.SOLV_FLOOR_CNT_COUNT + r.floorsAll))

section
variable (s : State) (c : Nat) (r : Run) (timeNs : Nat) (inFactor : Bool)

/-- FLAGS keep bit 2 unless the pivot limit was exceeded, which is recorded. -/
theorem noteRun_runNoted : ∃ f, (r.diagonal = false → bitAt f 2 = bitAt (s.slotRun c).flags 2)
    ∧ s.noteRun c r timeNs inFactor = if r.diagonal then (runNoted s c r timeNs inFactor f).raise 0x0B03 else runNoted s c r timeNs inFactor f := by
  have hmarked (y : CtxSlot) (b : Prop) [Decidable b] (j : Nat) :
      ∃ f, (if b then y.mark j else y) = { y with flags := f } ∧ ∀ i, (b → i < j) → bitAt f i = bitAt y.flags i := by
    split
    · next h => exact ⟨(y.mark j).flags, by rw [mark_eq], fun i hi => bitAt_mark_lower y (hi h)⟩
    · exact ⟨y.flags, rfl, fun _ _ => rfl⟩
  obtain ⟨f, hf, hkeep⟩ := hmarked (notedSlot (s.slotRun c) r timeNs inFactor (s.slotRun c).flags) (r.diagonal = true) 2
  obtain ⟨g, hg, gkeep⟩ := hmarked (notedSlot (s.slotRun c) r timeNs inFactor f) (r.floorsAll ≠ 0) 3
  refine ⟨g, fun hd => (gkeep 2 fun _ => by decide).trans (hkeep 2 fun h => absurd (hd ▸ h) (by decide)), ?_⟩
  unfold runNoted
  rw [show notedSlot (s.slotRun c) r timeNs inFactor g = _ from hg.symm, show notedSlot (s.slotRun c) r timeNs inFactor f = _ from hf.symm]
  rfl

theorem noteRun_solvOnly : SolvOnly [Reg.SOLV_FLOOR_CNT_COUNT.key 0] [c] [] s (s.noteRun c r timeNs inFactor) := by
  obtain ⟨f, -, h⟩ := noteRun_runNoted s c r timeNs inFactor
  have hnoted : SolvOnly [Reg.SOLV_FLOOR_CNT_COUNT.key 0] [c] [] s (runNoted s c r timeNs inFactor f) :=
    solvOnly_trans (solvOnly_setSlotRun s _ (List.mem_singleton_self c)) (solvOnly_set _ _ _ (List.mem_singleton_self _))
  rw [h]
  exact solvOnly_ite (solvOnly_trans hnoted (solvOnly_raise ..)) hnoted

theorem noteRun_slotRun : ∃ f, (r.diagonal = false → bitAt f 2 = bitAt (s.slotRun c).flags 2)
    ∧ (s.noteRun c r timeNs inFactor).slotRun c = notedSlot (s.slotRun c) r timeNs inFactor f := by
  obtain ⟨f, hflags, h⟩ := noteRun_runNoted s c r timeNs inFactor
  refine ⟨f, hflags, ?_⟩
  rw [h]
  split <;> simp [runNoted]

end

/-! ## Wide slots of a die (R305) -/

section
variable {s t : State} {d : Nat}

theorem wideTaken_congr (hslots : t.solv = s.solv) (hvariant : t.variant = s.variant)
    (hctx : t.get Reg.SOLV_STAT_CTX0_DIE = s.get Reg.SOLV_STAT_CTX0_DIE) : t.wideTaken d = s.wideTaken d := by
  unfold State.wideTaken State.ctxDie
  rw [hslots, hvariant, hctx]

theorem wideTaken_raise (n : Nat) : (s.raise n).wideTaken d = s.wideTaken d :=
  wideTaken_congr (raise_solv ..) (raise_variant ..) (Quiet.get (raise_quiet s n) _ 0 (by decide))

theorem wideTaken_set {f : Fld} (v : Nat) (h : Reg.SOLV_STAT_CTX0_DIE.key 0 ≠ f.key 0) : (s.set f v).wideTaken d = s.wideTaken d :=
  wideTaken_congr rfl rfl (get_set_other s f _ v 0 0 h)

theorem wideTaken_setDie (k : Nat) (x : DieState) : (s.setDie k x).wideTaken d = s.wideTaken d := rfl

theorem filter_storePut_le {α : Type} {p : Nat × α → Bool} {k : Nat} {v : α} (hp : p (k, v) = false) (l : Store α) :
    ((storePut l k v).filter p).length ≤ (l.filter p).length := by
  induction l with
  | nil => simp [storePut, hp]
  | cons e l ih =>
    obtain ⟨a, w⟩ := e
    unfold storePut
    split
    · rw [List.filter_cons_of_neg (by simp [hp])]
    · split
      · rw [List.filter_cons_of_neg (by simp [hp])]
        exact ((List.sublist_cons_self (a, w) l).filter p).length_le
      · rw [List.filter_cons, List.filter_cons]
        split
        · exact Nat.succ_le_succ ih
        · exact ih

theorem storeDel_sublist {α : Type} (l : Store α) (k : Nat) : (storeDel l k).Sublist l := by
  induction l with
  | nil => exact List.Sublist.refl _
  | cons e l ih =>
    obtain ⟨a, w⟩ := e
    unfold storeDel
    split
    · exact ih.trans (List.sublist_cons_self ..)
    · exact ih.cons_cons _

/-- A slot in narrow storage takes no wide place. -/
theorem wideTaken_setSlotRun_le {c : Nat} {x : CtxSlot} (hx : x.wide = false) : (s.setSlotRun c x).wideTaken d ≤ s.wideTaken d := by
  unfold State.wideTaken State.setSlotRun storeSet
  dsimp only
  split
  · exact ((storeDel_sublist s.solv.slots c).filter _).length_le
  · exact filter_storePut_le (by simp [hx]) _

theorem wideTaken_noteRun_le {c : Nat} (r : Run) (timeNs : Nat) (inFactor : Bool) (hnarrow : (s.slotRun c).wide = false) :
    (s.noteRun c r timeNs inFactor).wideTaken d ≤ s.wideTaken d := by
  obtain ⟨f, -, h⟩ := noteRun_runNoted s c r timeNs inFactor
  have hnoted : (runNoted s c r timeNs inFactor f).wideTaken d ≤ s.wideTaken d :=
    (wideTaken_set _ (by decide)).trans_le (wideTaken_setSlotRun_le hnarrow)
  rw [h]
  split
  · exact (wideTaken_raise _).trans_le hnoted
  · exact hnoted

end

/-! ## Ends of runs (R304 to R307, R313, R315) -/

section
variable (s : State) (c d : Nat)

theorem returnIterate_solvOnly (st : Nat) (it : List F64) : SolvOnly [] [c] [] s (s.returnIterate c st it) :=
  solvOnly_setSlotRun s _ (List.mem_singleton_self c)

theorem returnIterate_slotRun (st : Nat) (it : List F64) (h : bitAt (s.slotRun c).flags 2 = false) :
    (s.returnIterate c st it).slotRun c = { s.slotRun c with status := st, iterate := some it } := by
  unfold State.returnIterate
  dsimp only
  rw [slotRun_setSlotRun_same, if_neg (Bool.eq_false_iff.1 h)]

theorem infeasibleRun_solvOnly : SolvOnly [] [c] [] s (s.infeasibleRun c) :=
  solvOnly_trans (solvOnly_setSlotRun s _ (List.mem_singleton_self c)) (solvOnly_raise ..)

theorem infeasibleRun_slotRun : (s.infeasibleRun c).slotRun c = { s.slotRun c with status := 5, iterate := none } := by
  simp [State.infeasibleRun]

/-- The state after a breach is counted and its best iterate kept, before a wide place is sought. -/
def breached (best : List F64) : State :=
  ((s.setSlotRun c { (s.slotRun c).mark 0 with keptNarrow := some best }).count Reg.SOLV_EVT_CNT_BREACH_CNT).raise 0x0B04

theorem breached_solvOnly (best : List F64) : SolvOnly [Reg.SOLV_EVT_CNT_BREACH_CNT.key 0] [c] [] s (breached s c best) :=
  solvOnly_trans (solvOnly_trans (solvOnly_setSlotRun s _ (List.mem_singleton_self c)) (solvOnly_count _ _ (List.mem_singleton_self _)))
    (solvOnly_raise ..)

theorem breached_count (best : List F64) : (breached s c best).get Reg.SOLV_EVT_CNT_BREACH_CNT
    = satInc Reg.SOLV_EVT_CNT_BREACH_CNT.width (s.get Reg.SOLV_EVT_CNT_BREACH_CNT) :=
  (Quiet.get (raise_quiet ..) _ 0 (by decide)).trans (get_count_same ..)

theorem breached_wideTaken_le (best : List F64) (h : (s.slotRun c).wide = false) : (breached s c best).wideTaken d ≤ s.wideTaken d :=
  ((wideTaken_raise _).trans (wideTaken_set _ (by decide))).trans_le (wideTaken_setSlotRun_le (by rw [mark_eq]; exact h))

theorem breachRun_solvOnly (best : List F64) : SolvOnly [Reg.SOLV_EVT_CNT_BREACH_CNT.key 0] [c] [d] s (s.breachRun c d best) := by
  have hc : c ∈ [c] := List.mem_singleton_self c
  exact solvOnly_trans (solvOnly_mono (breached_solvOnly s c best)) (solvOnly_ite
    (solvOnly_trans (solvOnly_setSlotRun _ _ hc) (solvOnly_setDie _ _ (List.mem_singleton_self d)))
    (solvOnly_trans (solvOnly_setSlotRun _ _ hc) (solvOnly_raise ..)))

/-- A breach with a wide place free: the context takes it and is queued for a re-run. -/
theorem breachRun_wide (best : List F64) (hfree : (breached s c best).wideTaken d < 2) : s.breachRun c d best =
    ((breached s c best).setSlotRun c { (breached s c best).slotRun c with wide := true, wideClean := 0 }).setDie d
      { (breached s c best).die d with reruns := ((breached s c best).die d).reruns ++ [c] } := if_pos hfree

theorem get_breachRun_wide (best : List F64) (hfree : (breached s c best).wideTaken d < 2) (f : Fld) :
    (s.breachRun c d best).get f = (breached s c best).get f := by
  rw [breachRun_wide s c d best hfree, get_setDie, get_setSlotRun]

theorem breachRun_full (best : List F64) (hfull : ¬ (breached s c best).wideTaken d < 2) :
    ∃ x, s.breachRun c d best = ((breached s c best).setSlotRun c x).raise 0x0B05 := ⟨_, if_neg hfull⟩

/-- A breach queues no context but its own. -/
theorem breachRun_reruns (best : List F64) : ((s.breachRun c d best).die d).reruns ⊆ c :: (s.die d).reruns := by
  have hdie : (breached s c best).die d = s.die d := (breached_solvOnly s c best).dies d List.not_mem_nil
  by_cases hfree : (breached s c best).wideTaken d < 2
  · rw [breachRun_wide s c d best hfree, die_setDie_same, hdie]
    exact List.append_subset.2 ⟨List.subset_cons_self .., by simp⟩
  · obtain ⟨x, hx⟩ := breachRun_full s c d best hfree
    rw [hx, die_raise, die_setSlotRun, hdie]
    exact List.subset_cons_self ..

theorem endRun_breach {r : Run} (h : r.ended = .breach) : s.endRun c d r = s.breachRun c d r.best := by
  unfold State.endRun
  rw [h]

/-- Every other end of a run touches the context's slot alone. -/
theorem endRun_returned {r : Run} (h : r.ended ≠ .breach) : SolvOnly [] [c] [] s (s.endRun c d r) := by
  unfold State.endRun
  split
  · exact returnIterate_solvOnly ..
  · exact returnIterate_solvOnly ..
  · exact returnIterate_solvOnly ..
  · exact infeasibleRun_solvOnly ..
  · exact infeasibleRun_solvOnly ..
  · next hbreach => exact absurd hbreach h

theorem endRun_solvOnly (r : Run) : SolvOnly [Reg.SOLV_EVT_CNT_BREACH_CNT.key 0] [c] [d] s (s.endRun c d r) := by
  by_cases h : r.ended = .breach
  · rw [endRun_breach s c d h]
    exact breachRun_solvOnly ..
  · exact solvOnly_mono (endRun_returned s c d h)

theorem endRun_reruns (r : Run) : ((s.endRun c d r).die d).reruns ⊆ c :: (s.die d).reruns := by
  by_cases h : r.ended = .breach
  · rw [endRun_breach s c d h]
    exact breachRun_reruns ..
  · rw [(endRun_returned s c d h).dies d List.not_mem_nil]
    exact List.subset_cons_self ..

end

/-! ## SOLVE_CONTEXT_END (R313, R315) -/

/-- The state in which the run of a report is noted and its die is idle, before the run's outcome is returned. -/
def runOver (s : State) (r : SolveReport) (d : Nat) : State :=
  (s.noteRun r.ctx (s.runOf r.ctx r.trace true false) r.timeNs false).setDie d { s.die d with running := none, rerun := false }

/-- What the statement says of a run that returned status st and iterate `it`, in the state u that follows. -/
def RunReturned (s : State) (r : SolveReport) (d st : Nat) (it : Option (List F64)) (u : State) : Prop :=
  let run := s.runOf r.ctx r.trace true false
  (u.slotRun r.ctx).status = st ∧ (u.slotRun r.ctx).newton = run.newton ∧ (u.slotRun r.ctx).inner = run.inner
    ∧ (u.slotRun r.ctx).merit = run.bestM ∧ (u.slotRun r.ctx).timeNs = r.timeNs ∧ (u.slotRun r.ctx).iterate = it
    ∧ u.points = s.points ∧ u.pump = s.pump ∧ u.fuses = s.fuses
    ∧ ((s.die d).list = [] → (s.die d).reruns = [] → (u.die d).running = none ∧ (∀ k, k ≠ r.ctx → u.slotRun k = s.slotRun k)
        ∧ (∀ k, k ≠ d → u.die k = s.die k) ∧ FieldsBut [Reg.SOLV_FLOOR_CNT_COUNT.key 0] s u
        ∧ { u.quietRest with solv := s.solv } = s.quietRest)

section
variable {s : State} {r : SolveReport} {d : Nat}

theorem contextEnd_idle (h : s.dieRunning r.ctx = none) : s.contextEnd r = s := by
  unfold State.contextEnd
  rw [h]

theorem contextEnd_runs (h : s.dieRunning r.ctx = some d) :
    s.contextEnd r = ((runOver s r d).endRun r.ctx d (s.runOf r.ctx r.trace true false)).dieNext d := by
  unfold State.contextEnd
  rw [h]
  rfl

theorem runOver_solvOnly : SolvOnly [Reg.SOLV_FLOOR_CNT_COUNT.key 0] [r.ctx] [d] s (runOver s r d) :=
  solvOnly_trans (solvOnly_mono (noteRun_solvOnly ..)) (solvOnly_setDie _ _ (List.mem_singleton_self d))

theorem runOver_die : (runOver s r d).die d = { s.die d with running := none, rerun := false } := die_setDie_same ..

theorem runOver_slotRun : ∃ f, ((s.runOf r.ctx r.trace true false).diagonal = false → bitAt f 2 = bitAt (s.slotRun r.ctx).flags 2)
    ∧ (runOver s r d).slotRun r.ctx = notedSlot (s.slotRun r.ctx) (s.runOf r.ctx r.trace true false) r.timeNs false f := noteRun_slotRun ..

theorem wideTaken_runOver_le (hnarrow : (s.slotRun r.ctx).wide = false) : (runOver s r d).wideTaken d ≤ s.wideTaken d :=
  (wideTaken_setDie ..).trans_le (wideTaken_noteRun_le _ _ _ hnarrow)

/-- An outcome that touches the context's slot alone, the die's next start after it. -/
theorem dieNext_returned {w : State} {st : Nat} {it : Option (List F64)} (hlist : r.ctx ∉ (s.die d).list) (hreruns : r.ctx ∉ (s.die d).reruns)
    (hw : SolvOnly [] [r.ctx] [] (runOver s r d) w)
    (hslot : w.slotRun r.ctx = { (runOver s r d).slotRun r.ctx with status := st, iterate := it }) : RunReturned s r d st it (w.dieNext d) := by
  have hdie : w.die d = { s.die d with running := none, rerun := false } := (hw.dies d List.not_mem_nil).trans runOver_die
  have hnext := dieNext_solvOnly w d
  have hkept : (w.dieNext d).slotRun r.ctx = w.slotRun r.ctx :=
    hnext.slots _ (by rw [hdie, List.mem_append]; exact not_or.2 ⟨hlist, hreruns⟩)
  have hover : SolvOnly [Reg.SOLV_FLOOR_CNT_COUNT.key 0] [r.ctx] [d] s w := solvOnly_trans runOver_solvOnly (solvOnly_mono hw)
  obtain ⟨f, -, hnoted⟩ := runOver_slotRun (s := s) (r := r) (d := d)
  obtain ⟨hpoints, hpump, hfuses, -⟩ := outside_of_rest (solvRest_trans hover.rest hnext.rest)
  unfold RunReturned
  rw [hkept, hslot, hnoted]
  refine ⟨rfl, rfl, rfl, rfl, rfl, rfl, hpoints, hpump, hfuses, fun hl hr => ?_⟩
  have hstart := (dieNext_reruns (s := w) (d := d) (by rw [hdie]; exact hl)).1
  rw [hdie] at hstart
  have hframe := solvOnly_trans hover (solvOnly_mono hstart (hc := by simp [hr]))
  exact ⟨dieNext_idle (by rw [hdie]; exact hl) (by rw [hdie]; exact hr) (by rw [hdie]), fun k hk => hframe.slots k (by simpa using hk),
    fun k hk => hframe.dies k (by simpa using hk), hframe.fields, hframe.rest⟩

section
variable (hruns : s.dieRunning r.ctx = some d ∧ r.ctx ∉ (s.die d).list ∧ r.ctx ∉ (s.die d).reruns)
include hruns

theorem contextEnd_iterate {st : Nat} (hdiagonal : (s.runOf r.ctx r.trace true false).diagonal = false)
    (hflag : bitAt (s.slotRun r.ctx).flags 2 = false) (hended : (runOver s r d).endRun r.ctx d (s.runOf r.ctx r.trace true false)
      = (runOver s r d).returnIterate r.ctx st (s.runOf r.ctx r.trace true false).best) :
    RunReturned s r d st (some (s.runOf r.ctx r.trace true false).best) (s.contextEnd r) := by
  obtain ⟨hdie, hlist, hreruns⟩ := hruns
  obtain ⟨f, hf, hnoted⟩ := runOver_slotRun (s := s) (r := r) (d := d)
  rw [contextEnd_runs hdie, hended]
  refine dieNext_returned hlist hreruns (returnIterate_solvOnly ..) (returnIterate_slotRun _ _ _ _ ?_)
  rw [hnoted]
  exact (hf hdiagonal).trans hflag

theorem contextEnd_infeasible
    (hended : (s.runOf r.ctx r.trace true false).ended = .infeasible ∨ (s.runOf r.ctx r.trace true false).ended = .nonFinite) :
    RunReturned s r d 5 none (s.contextEnd r) := by
  obtain ⟨hdie, hlist, hreruns⟩ := hruns
  have hend : (runOver s r d).endRun r.ctx d (s.runOf r.ctx r.trace true false) = (runOver s r d).infeasibleRun r.ctx := by
    unfold State.endRun
    rcases hended with h | h <;> rw [h]
  rw [contextEnd_runs hdie, hend]
  exact dieNext_returned hlist hreruns (infeasibleRun_solvOnly ..) (infeasibleRun_slotRun ..)

end

/-- A context that breaches was narrow, so that a free wide place is still free for it. -/
theorem runOver_place_free (hended : (s.runOf r.ctx r.trace true false).ended = .breach) (hfree : s.wideTaken d < 2) (best : List F64) :
    (breached (runOver s r d) r.ctx best).wideTaken d < 2 := by
  have hnarrow := narrow_of_breach hended
  obtain ⟨f, -, hnoted⟩ := runOver_slotRun (s := s) (r := r) (d := d)
  refine ((breached_wideTaken_le _ _ d best ?_).trans (wideTaken_runOver_le hnarrow)).trans_lt hfree
  rw [hnoted]
  exact hnarrow

/-- A breach with a wide place free (R304, R305). -/
theorem contextEnd_breach (hdie : s.dieRunning r.ctx = some d) (hempty : (s.die d).list = [])
    (hended : (s.runOf r.ctx r.trace true false).ended = .breach) (hfree : s.wideTaken d < 2) :
    let u := s.contextEnd r
    (u.slotRun r.ctx).wide = true
      ∧ u.get Reg.SOLV_EVT_CNT_BREACH_CNT = satInc Reg.SOLV_EVT_CNT_BREACH_CNT.width (s.get Reg.SOLV_EVT_CNT_BREACH_CNT)
      ∧ u.points = s.points ∧ u.pump = s.pump ∧ u.fuses = s.fuses := by
  have hover : SolvOnly [Reg.SOLV_FLOOR_CNT_COUNT.key 0] [r.ctx] [d] s (runOver s r d) := runOver_solvOnly
  rw [contextEnd_runs hdie, endRun_breach _ _ _ hended]
  set best := (s.runOf r.ctx r.trace true false).best
  have hplace := runOver_place_free hended hfree best
  have hrun := breachRun_solvOnly (runOver s r d) r.ctx d best
  have hwide := breachRun_wide (runOver s r d) r.ctx d best hplace
  have hlist : (((runOver s r d).breachRun r.ctx d best).die d).list = [] := by
    rw [hwide, die_setDie_same, (breached_solvOnly (runOver s r d) r.ctx best).dies d List.not_mem_nil, runOver_die]
    exact hempty
  obtain ⟨hstart, hkept⟩ := dieNext_reruns hlist
  obtain ⟨hpoints, hpump, hfuses, -⟩ := outside_of_rest (solvRest_trans (solvRest_trans hover.rest hrun.rest) hstart.rest)
  refine ⟨?_, ?_, hpoints, hpump, hfuses⟩
  · rw [hkept, hwide]
    simp
  · calc _ = ((runOver s r d).breachRun r.ctx d best).get Reg.SOLV_EVT_CNT_BREACH_CNT := hstart.fields _ 0 List.not_mem_nil (by decide)
      _ = (breached (runOver s r d) r.ctx best).get Reg.SOLV_EVT_CNT_BREACH_CNT := get_breachRun_wide _ _ _ _ hplace _
      _ = satInc Reg.SOLV_EVT_CNT_BREACH_CNT.width ((runOver s r d).get Reg.SOLV_EVT_CNT_BREACH_CNT) := breached_count ..
      _ = _ := by rw [hover.fields Reg.SOLV_EVT_CNT_BREACH_CNT 0 (by decide) (by decide)]

end

end Sys2Proof.Proofs
end

section
/-! The deadline of the solve window, die by die (R312, R313). -/

namespace Sys2Proof.Proofs
open Sys2Proof Sys2Proof.Machine Sys2Proof.Laws

/-! ## SOLVE_DEADLINE (R312, R313) -/

/-- The fields that the deadline on a die may write, but for what recording an event writes. -/
def deadlineKeys : List Nat := [Reg.SOLV_FLOOR_CNT_COUNT.key 0, Reg.SOLV_EVT_CNT_BREACH_CNT.key 0, Reg.SOLV_EVT_CNT_DEADLINE_CNT.key 0]

section
variable (s : State) (c d : Nat)

theorem cutRun_solvOnly (k : Option CutRun) : SolvOnly deadlineKeys [c] [d] s (s.cutRun c d k) := by
  have hnote (r : Run) (n : Nat) (b : Bool) : SolvOnly deadlineKeys [c] [d] s (s.noteRun c r n b) :=
    solvOnly_mono (noteRun_solvOnly s c r n b) (by simp [deadlineKeys])
  have hend (t : State) (r : Run) : SolvOnly deadlineKeys [c] [d] t (t.endRun c d r) :=
    solvOnly_mono (endRun_solvOnly t c d r) (by simp [deadlineKeys])
  exact solvOnly_ite (solvOnly_trans (hnote ..) (hend ..)) (solvOnly_trans (solvOnly_trans (hnote ..)
    (solvOnly_trans (solvOnly_count _ _ (by simp [deadlineKeys])) (solvOnly_raise ..))) (solvOnly_setSlotRun _ _ (List.mem_singleton_self c)))

end

/-- A die's run is cut. -/
def runCut (s : State) (cuts : List CutRun) (d : Nat) : State :=
  match (s.die d).running with
  | some c => s.cutRun c d (cuts.find? (fun k => decide (k.ctx = c)))
  | none => s

/-- A waiting re-run returns its kept iterate. -/
def keptReturned (s : State) (c : Nat) : State :=
  match (s.slotRun c).keptNarrow with
  | some it => s.returnIterate c 1 it
  | none => s

/-- The state in which a die's run is cut and its waiting contexts have not run. -/
def listDropped (s : State) (cuts : List CutRun) (d : Nat) : State := (s.die d).list.foldl State.notRun (runCut s cuts d)

section
variable (s : State) (cuts : List CutRun) (d : Nat)

theorem deadlineDie_eq : s.deadlineDie cuts d =
    (((listDropped s cuts d).die d).reruns.foldl keptReturned (listDropped s cuts d)).setDie d {} := rfl

theorem deadlineDie_die : (s.deadlineDie cuts d).die d = {} := die_setDie_same ..

theorem runCut_solvOnly : SolvOnly deadlineKeys (s.die d).running.toList [d] s (runCut s cuts d) := by
  unfold runCut
  cases (s.die d).running with
  | none => exact solvOnly_refl s
  | some c => exact cutRun_solvOnly ..

theorem keptReturned_solvOnly (c : Nat) : SolvOnly [] [c] [] s (keptReturned s c) := by
  unfold keptReturned
  split
  · exact returnIterate_solvOnly ..
  · exact solvOnly_refl s

theorem notRuns_solvOnly (l : List Nat) : SolvOnly [] l [] s (l.foldl State.notRun s) :=
  foldl_solvOnly (fun t c hc => solvOnly_mono (notRun_solvOnly t c) (hc := by simpa using hc)) s

theorem notRuns_status (l : List Nat) {c : Nat} (h : c ∈ l ∨ (s.slotRun c).status = 6) :
    ((l.foldl State.notRun s).slotRun c).status = 6 := by
  induction l generalizing s with
  | nil => exact h.resolve_left List.not_mem_nil
  | cons a l ih =>
    refine ih (s.notRun a) ?_
    by_cases hc : c = a
    · subst hc
      exact .inr (by simp [State.notRun])
    · refine h.imp (fun hm => (List.mem_cons.1 hm).resolve_left hc) fun h6 => ?_
      rw [(notRun_solvOnly s a).slots c (by simpa using hc)]
      exact h6

/-- A cut run adds at most its own context to the re-runs of its die. -/
theorem cutRun_reruns (c : Nat) (k : Option CutRun) : ((s.cutRun c d k).die d).reruns ⊆ c :: (s.die d).reruns := by
  have hnote (r : Run) (n : Nat) (b : Bool) : (s.noteRun c r n b).die d = s.die d :=
    (noteRun_solvOnly s c r n b).dies d List.not_mem_nil
  unfold State.cutRun
  dsimp only
  split
  · rw [← hnote]
    exact endRun_reruns ..
  · rw [die_setSlotRun, die_raise, die_count, hnote]
    exact List.subset_cons_self ..

theorem runCut_reruns : ((runCut s cuts d).die d).reruns ⊆ (s.die d).running.toList ++ (s.die d).reruns := by
  unfold runCut
  cases (s.die d).running with
  | none => exact List.Subset.refl _
  | some c => exact cutRun_reruns ..

theorem listDropped_reruns : ((listDropped s cuts d).die d).reruns ⊆ (s.die d).running.toList ++ (s.die d).reruns := by
  have hdie : (listDropped s cuts d).die d = (runCut s cuts d).die d :=
    (notRuns_solvOnly (runCut s cuts d) (s.die d).list).dies d List.not_mem_nil
  rw [hdie]
  exact runCut_reruns ..

/-- The contexts that a die has work for. -/
def dieWork (x : DieState) : List Nat := x.running.toList ++ x.list ++ x.reruns

theorem listDropped_solvOnly : SolvOnly deadlineKeys (dieWork (s.die d)) [d] s (listDropped s cuts d) :=
  solvOnly_trans (solvOnly_mono (runCut_solvOnly s cuts d) (hc := by simp [dieWork]))
    (solvOnly_mono (notRuns_solvOnly ..) (hc := by simp [dieWork]))

/-- The waiting re-runs of a die return their kept iterates. -/
theorem keptReturns_solvOnly (l : List Nat) : SolvOnly [] l [] s (l.foldl keptReturned s) :=
  foldl_solvOnly (fun t c hc => solvOnly_mono (keptReturned_solvOnly t c) (hc := by simpa using hc)) s

theorem deadlineDie_solvOnly : SolvOnly deadlineKeys (dieWork (s.die d)) [d] s (s.deadlineDie cuts d) := by
  have hreruns : ((listDropped s cuts d).die d).reruns ⊆ dieWork (s.die d) :=
    List.Subset.trans (listDropped_reruns s cuts d) (List.append_subset.2 ⟨by simp [dieWork], by simp [dieWork]⟩)
  rw [deadlineDie_eq]
  exact solvOnly_trans (solvOnly_trans (listDropped_solvOnly s cuts d)
    (solvOnly_mono (keptReturns_solvOnly _ _) (hc := hreruns))) (solvOnly_setDie _ _ (List.mem_singleton_self d))

/-- A context that no run and no re-run of the die is for comes out as not run, where it waited there or had not run before. -/
theorem deadlineDie_status {c : Nat} (hrunning : (s.die d).running ≠ some c) (hreruns : c ∉ (s.die d).reruns)
    (h : c ∈ (s.die d).list ∨ (s.slotRun c).status = 6) : ((s.deadlineDie cuts d).slotRun c).status = 6 := by
  have hnot : c ∉ (s.die d).running.toList := fun hm => hrunning (Option.mem_toList.1 hm)
  have hkept : (((listDropped s cuts d).die d).reruns.foldl keptReturned (listDropped s cuts d)).slotRun c
      = (listDropped s cuts d).slotRun c :=
    (keptReturns_solvOnly _ _).slots c fun hm => (List.mem_append.1 (listDropped_reruns s cuts d hm)).elim hnot hreruns
  rw [deadlineDie_eq, slotRun_setDie, hkept]
  refine notRuns_status _ _ (h.imp_right fun h6 => ?_)
  rw [(runCut_solvOnly s cuts d).slots c hnot]
  exact h6

end

/-! The dies in turn. -/

section
variable (cuts : List CutRun)

/-- The deadline on dies in turn. -/
def deadlineDies (s : State) (l : List Nat) : State := l.foldl (fun t d => t.deadlineDie cuts d) s

theorem deadlineDies_rest (l : List Nat) (s : State) : { (deadlineDies cuts s l).quietRest with solv := s.solv } = s.quietRest := by
  induction l generalizing s with
  | nil => rfl
  | cons a l ih => exact solvRest_trans (deadlineDie_solvOnly s cuts a).rest (ih _)

theorem deadlineDies_other (l : List Nat) (s : State) {k : Nat} (hk : k ∉ l) : (deadlineDies cuts s l).die k = s.die k := by
  induction l generalizing s with
  | nil => rfl
  | cons a l ih =>
    obtain ⟨ha, hl⟩ := not_or.1 (mt List.mem_cons.2 hk)
    exact (ih _ hl).trans ((deadlineDie_solvOnly s cuts a).dies k (by simpa using ha))

theorem deadlineDies_empty (l : List Nat) (s : State) {k : Nat} (hk : k ∈ l) : (deadlineDies cuts s l).die k = {} := by
  induction l generalizing s with
  | nil => exact absurd hk List.not_mem_nil
  | cons a l ih =>
    by_cases hl : k ∈ l
    · exact ih _ hl
    · obtain rfl := (List.mem_cons.1 hk).resolve_right hl
      exact (deadlineDies_other cuts l _ hl).trans (deadlineDie_die ..)

/-- A context that no run and no re-run is for, and that waits on one of the dies or had not run, comes out as not run. -/
theorem deadlineDies_status (l : List Nat) (s : State) {c : Nat} (hfree : ∀ k, (s.die k).running ≠ some c ∧ c ∉ (s.die k).reruns)
    (h : (∃ d ∈ l, c ∈ (s.die d).list) ∨ (s.slotRun c).status = 6) : ((deadlineDies cuts s l).slotRun c).status = 6 := by
  induction l generalizing s with
  | nil => exact h.resolve_left fun ⟨_, hm, _⟩ => absurd hm List.not_mem_nil
  | cons a l ih =>
    have hother (k : Nat) (hk : k ≠ a) : (s.deadlineDie cuts a).die k = s.die k := (deadlineDie_solvOnly s cuts a).dies k (by simpa using hk)
    have hstatus := deadlineDie_status s cuts a (hfree a).1 (hfree a).2
    refine ih _ (fun k => ?_) ?_
    · by_cases hk : k = a
      · rw [hk, deadlineDie_die]
        exact ⟨nofun, List.not_mem_nil⟩
      · rw [hother k hk]
        exact hfree k
    · rcases h with ⟨d, hd, hc⟩ | h6
      · by_cases hda : d = a
        · exact .inr (hstatus (.inl (hda ▸ hc)))
        · exact .inl ⟨d, (List.mem_cons.1 hd).resolve_left hda, by rw [hother d hda]; exact hc⟩
      · exact .inr (hstatus (.inr h6))

end

section
variable {s : State} {cuts : List CutRun}

theorem solveDeadline_none (h : s.solv.deadline = none) : s.solveDeadline cuts = s := by
  unfold State.solveDeadline
  rw [h]

theorem solveDeadline_some {dl : Nat} (h : s.solv.deadline = some dl) : s.solveDeadline cuts =
    let t := deadlineDies cuts (s.advanceTo dl) (List.range s.variant.dies)
    { t with solv := { t.solv with deadline := none } } := by
  unfold State.solveDeadline
  rw [h]
  rfl

theorem solveDeadline_reached {dl : Nat} (h : s.solv.deadline = some dl) (c d : Nat) :
    let u := s.solveDeadline cuts
    u.solv.deadline = none ∧ dl ≤ u.now ∧ (∀ k, k < s.variant.dies → u.die k = {})
      ∧ u.points = s.points ∧ u.pump = s.pump ∧ u.fuses = s.fuses
      ∧ (d < s.variant.dies → c ∈ (s.die d).list → (∀ k, (s.die k).running ≠ some c ∧ c ∉ (s.die k).reruns) →
          (u.slotRun c).status = 6) := by
  obtain ⟨hpoints, hpump, hfuses, hnow⟩ := outside_of_rest (deadlineDies_rest cuts (List.range s.variant.dies) (s.advanceTo dl))
  rw [solveDeadline_some h]
  refine ⟨rfl, ?_, fun k hk => deadlineDies_empty cuts _ (s.advanceTo dl) (List.mem_range.2 hk), hpoints, hpump, hfuses, fun hd hc hfree => ?_⟩
  · calc dl ≤ max s.now dl := le_max_right ..
      _ = (s.advanceTo dl).now := (advanceTo_now ..).symm
      _ = _ := hnow.symm
  · exact deadlineDies_status cuts _ (s.advanceTo dl) hfree (.inl ⟨d, List.mem_range.2 hd, hc⟩)

end

end Sys2Proof.Proofs
end

section
/-! A lost die, the return to narrow storage and the wind limit (R258, R297, R305, R342); the statement on the solver's runs (O48). -/

namespace Sys2Proof.Proofs
open Sys2Proof Sys2Proof.Machine Sys2Proof.Laws

/-! ## COMPUTE_DIE_FAULT (R297, R342) -/

/-- A cleared bit is clear. -/
theorem bitAt_clearBit (m i : Nat) : bitAt (clearBit m i) i = false := by
  unfold clearBit
  split
  · next h =>
    have hodd : m / 2 ^ i % 2 = 1 := of_decide_eq_true h
    have hsub : (m - 2 ^ i) / 2 ^ i = m / 2 ^ i - 1 := by simpa using Nat.sub_mul_div m (2 ^ i) 1
    refine decide_eq_false ?_
    rw [hsub]
    omega
  · next h => exact Bool.eq_false_iff.2 h

theorem bitAt_mod_of_clear {m i : Nat} (w : Nat) (h : bitAt m i = false) : bitAt (m % 2 ^ w) i = false := by
  rw [bitAt_eq_testBit] at h ⊢
  rw [Nat.testBit_mod_two_pow, h, Bool.and_false]

/-- From s to u the redundancy block changed in its release and the claims that it sent alone. -/
def ClaimsOnly (s u : State) : Prop :=
  { u.red with release := s.red.release, lastClaim := s.red.lastClaim, sentClaims := s.red.sentClaims } = s.red

theorem claimsOnly_of_red {s u : State} (h : u.red = s.red) : ClaimsOnly s u := by
  unfold ClaimsOnly
  rw [h]

theorem claimsOnly_trans {a b c : State} (h : ClaimsOnly a b) (g : ClaimsOnly b c) : ClaimsOnly a c := by
  unfold ClaimsOnly at h g ⊢
  rw [← h, ← g]

theorem sendClaim_claimsOnly (s : State) : ClaimsOnly s s.sendClaim := by
  unfold State.sendClaim
  split <;> rfl

theorem release_claimsOnly (s : State) : ClaimsOnly s s.release := by
  unfold State.release
  refine claimsOnly_trans ?_ (sendClaim_claimsOnly _)
  unfold ClaimsOnly
  rw [raise_red]
  rfl

theorem releaseDecide_claimsOnly (s : State) : ClaimsOnly s s.releaseDecide := by
  unfold State.releaseDecide
  split
  · split
    · split
      · exact release_claimsOnly s
      · split
        · rfl
        · exact claimsOnly_of_red (raise_red ..)
    · rfl
  · rfl

theorem healthCheck_claimsOnly (s : State) : ClaimsOnly s s.healthCheck := by
  refine claimsOnly_trans (releaseDecide_claimsOnly s) ?_
  unfold State.healthCheck State.claimUpdate
  split
  · exact sendClaim_claimsOnly _
  · rfl

/-- A cause of a die or engine fault stands in HEALTH's memory. -/
def Marked (s : State) (cause : FaultCause) : Prop := if cause = .uncorrectable then s.red.memErr = true else s.red.handshake = true

theorem markCause_marked (s : State) (cause : FaultCause) : Marked (s.markCause cause) cause := by cases cause <;> rfl

theorem marked_of_claimsOnly {s u : State} {cause : FaultCause} (h : ClaimsOnly s u) (hs : Marked s cause) : Marked u cause := by
  have hpart {α : Type} (f : RedState → α) :
      f { u.red with release := s.red.release, lastClaim := s.red.lastClaim, sentClaims := s.red.sentClaims } = f s.red := congrArg f h
  have hmem : u.red.memErr = s.red.memErr := hpart RedState.memErr
  have hhand : u.red.handshake = s.red.handshake := hpart RedState.handshake
  unfold Marked at hs ⊢
  rwa [hmem, hhand]

section
variable (s : State) (d : Nat) (cause : FaultCause)

/-- A context that a lost die had work for returns as not run. -/
def lostRun (s : State) (c : Nat) : State := s.setSlotRun c { s.slotRun c with status := 6, iterate := none, keptNarrow := none }

theorem dieLost_eq : s.dieLost d =
    ((dieWork (s.die d)).foldl lostRun (s.set Reg.SOLV_STAT_DIE_OK (clearBit (s.get Reg.SOLV_STAT_DIE_OK) d))).setDie d {} := rfl

theorem lostRuns_solvOnly (l : List Nat) : SolvOnly [] l [] s (l.foldl lostRun s) :=
  foldl_solvOnly (fun t _ hc => solvOnly_setSlotRun t _ hc) s

theorem lostRuns_red (l : List Nat) : (l.foldl lostRun s).red = s.red :=
  List.foldlRecOn (motive := fun t : State => t.red = s.red) l lostRun rfl fun _ h _ _ => h

theorem dieLost_solvOnly : SolvOnly [Reg.SOLV_STAT_DIE_OK.key 0] (dieWork (s.die d)) [d] s (s.dieLost d) := by
  rw [dieLost_eq]
  exact solvOnly_trans (solvOnly_trans (solvOnly_set _ _ _ (List.mem_singleton_self _)) (solvOnly_mono (lostRuns_solvOnly ..)))
    (solvOnly_setDie _ _ (List.mem_singleton_self d))

theorem dieLost_die : (s.dieLost d).die d = {} := die_setDie_same ..

theorem dieLost_dieOk : bitAt ((s.dieLost d).get Reg.SOLV_STAT_DIE_OK) d = false := by
  have hget : (s.dieLost d).get Reg.SOLV_STAT_DIE_OK
      = (s.set Reg.SOLV_STAT_DIE_OK (clearBit (s.get Reg.SOLV_STAT_DIE_OK) d)).get Reg.SOLV_STAT_DIE_OK :=
    (lostRuns_solvOnly _ _).fields _ 0 List.not_mem_nil (by decide)
  rw [hget, get_set_same]
  exact bitAt_mod_of_clear _ (bitAt_clearBit ..)

theorem dieLost_red : (s.dieLost d).red = s.red := lostRuns_red ..

theorem dieFault_absent (h : s.variant.dies ≤ d) : s.dieFault d cause = s := if_pos h

theorem dieFault_present (h : d < s.variant.dies) :
    s.dieFault d cause = (((s.markCause cause).dieLost d).raise 0x0B07).healthCheck := if_neg (Nat.not_le.2 h)

theorem dieFault_lost (h : d < s.variant.dies) :
    let u := s.dieFault d cause
    u.die d = {} ∧ bitAt (u.get Reg.SOLV_STAT_DIE_OK) d = false ∧ (∀ k, k ≠ d → u.die k = s.die k)
      ∧ (if cause = .uncorrectable then u.red.memErr = true else u.red.handshake = true)
      ∧ FieldsBut [Reg.SOLV_STAT_DIE_OK.key 0] s u ∧ { u.quietRest with solv := s.solv } = s.quietRest := by
  have hquiet : Quiet ((s.markCause cause).dieLost d) (((s.markCause cause).dieLost d).raise 0x0B07).healthCheck :=
    quiet_trans (raise_quiet ..) (healthCheck_quiet _)
  have hmarked : SolvOnly [Reg.SOLV_STAT_DIE_OK.key 0] (dieWork ((s.markCause cause).die d)) [d] s (s.markCause cause) :=
    solvOnly_quiet (markCause_quiet ..)
  have hframe := solvOnly_trans (solvOnly_trans hmarked (dieLost_solvOnly ..)) (solvOnly_quiet hquiet)
  have hclaims : ClaimsOnly (s.markCause cause) (((s.markCause cause).dieLost d).raise 0x0B07).healthCheck :=
    claimsOnly_trans (claimsOnly_of_red ((raise_red ..).trans (dieLost_red ..))) (healthCheck_claimsOnly _)
  rw [dieFault_present s d cause h]
  refine ⟨(die_of_solv d (Quiet.solv hquiet)).trans (dieLost_die ..), ?_, fun k hk => hframe.dies k (by simpa using hk),
    marked_of_claimsOnly hclaims (markCause_marked ..), hframe.fields, hframe.rest⟩
  rw [Quiet.get hquiet Reg.SOLV_STAT_DIE_OK 0 (by decide)]
  exact dieLost_dieOk ..

end

/-! ## WIDE_RETURN (R305) and WIND_FF_TIMEOUT (R258) -/

section
variable {s : State} {c : Nat}

theorem wideReturn_narrow (hwide : (s.slotRun c).wide = true) (hhold : s.get Reg.SOLV_CFG_WIDE_HOLD ≤ (s.slotRun c).wideClean)
    (hfits : (s.slotRun c).warm.all (s.fitsNarrow c) = true) :
    s.wideReturn c = (s.setSlotRun c { s.slotRun c with wide := false, wideClean := 0 }).raise 0x0B0A := if_pos ⟨hwide, hhold, hfits⟩

theorem wideReturn_returned (hwide : (s.slotRun c).wide = true) (hhold : s.get Reg.SOLV_CFG_WIDE_HOLD ≤ (s.slotRun c).wideClean)
    (hfits : (s.slotRun c).warm.all (s.fitsNarrow c) = true) :
    let u := s.wideReturn c
    u.slotRun c = { s.slotRun c with wide := false, wideClean := 0 } ∧ (∀ k, k ≠ c → u.slotRun k = s.slotRun k) ∧ FieldsBut [] s u
      ∧ { u.quietRest with solv := s.solv } = s.quietRest := by
  have hframe : SolvOnly [] [c] [] s ((s.setSlotRun c { s.slotRun c with wide := false, wideClean := 0 }).raise 0x0B0A) :=
    solvOnly_trans (solvOnly_setSlotRun s _ (List.mem_singleton_self c)) (solvOnly_raise ..)
  rw [wideReturn_narrow hwide hhold hfits]
  exact ⟨(slotRun_raise ..).trans (slotRun_setSlotRun_same ..), fun k hk => hframe.slots k (by simpa using hk), hframe.fields, hframe.rest⟩

theorem wideReturn_kept (h : (s.slotRun c).wide = false ∨ (s.slotRun c).wideClean < s.get Reg.SOLV_CFG_WIDE_HOLD
    ∨ (s.slotRun c).warm.all (s.fitsNarrow c) = false) : s.wideReturn c = s := by
  refine if_neg fun ⟨hwide, hhold, hfits⟩ => ?_
  rcases h with h | h | h
  · exact Bool.false_ne_true (h.symm.trans hwide)
  · omega
  · exact Bool.false_ne_true (h.symm.trans hfits)

/-- The state at an instant t, without the wind's feed-forward, before the event is recorded. -/
def windEnded (s : State) (t : Nat) : State :=
  { s.advanceTo t with loops := { (s.advanceTo t).loops with windFF := [0, 0, 0], windLost := true } }

theorem windTimeout_ended (hdp : s.flag Reg.LOOP_CTL_DP_EN = true) (hwind : s.trough.wind.isSome = true) (hlost : s.loops.windLost = false)
    (hframe : s.trough.windInFrame = false) : s.windTimeout = (windEnded s (s.trough.windAt + 10000000000)).raise 0x0905 :=
  if_pos ⟨hdp, hwind, by rw [hlost]; rfl, by rw [hframe]; rfl⟩

theorem windEnded_raised (s : State) (t : Nat) :
    let u := (windEnded s t).raise 0x0905
    u.loops = { s.loops with windFF := [0, 0, 0], windLost := true } ∧ t ≤ u.now ∧ FieldsBut [] s u
      ∧ { u.quietRest with now := s.now, up := s.up, slew := s.slew, keep := s.keep, loops := s.loops } = s.quietRest := by
  have hquiet := raise_quiet (windEnded s t) 0x0905
  refine ⟨Quiet.loops hquiet, ?_, fieldsBut_of_regs (v := windEnded s t) rfl (fieldsBut_quiet hquiet), ?_⟩
  · rw [Quiet.now hquiet, show (windEnded s t).now = max s.now t from advanceTo_now ..]
    exact le_max_right ..
  · rw [hquiet.1]
    rfl

end

/-! ## The statement -/

/-- Settles O48: the end of a run by what its trace computes to, the deadline die by die, the lost die with its cause kept in HEALTH, the
return to narrow storage and the wind limit each by what the lemma on its operation says. -/
theorem solverRuns : Obligations.SolverRuns := by
  intro s r cuts d c
  refine ⟨fun hruns hdiagonal hflag => ⟨fun hended => ?_, fun hended => ?_⟩, fun hruns hended => ?_, fun hruns hempty hended hfree => ?_,
    fun hnone => ?_, fun dl hdl => ?_, fun hnone => ?_, fun cause hd => ?_, fun cause hd => ?_, fun hwide hhold hfits => ?_, fun hkept => ?_,
    fun hdp hwind hlost hframe => ?_⟩
  -- SOLVE_CONTEXT_END
  · exact ⟨_, rfl, contextEnd_iterate hruns hdiagonal hflag (by unfold State.endRun; rw [hended])⟩
  · exact ⟨_, rfl, contextEnd_iterate hruns hdiagonal hflag (by unfold State.endRun; rw [hended])⟩
  · exact ⟨_, rfl, contextEnd_infeasible hruns hended⟩
  · exact ⟨_, rfl, contextEnd_breach hruns.1 hempty hended hfree⟩
  · exact ⟨_, rfl, contextEnd_idle hnone⟩
  -- SOLVE_DEADLINE
  · exact ⟨_, rfl, solveDeadline_reached hdl c d⟩
  · exact ⟨_, rfl, solveDeadline_none hnone⟩
  -- COMPUTE_DIE_FAULT
  · exact ⟨_, rfl, dieFault_lost s d cause hd⟩
  · exact ⟨_, rfl, dieFault_absent s d cause hd⟩
  -- WIDE_RETURN
  · exact ⟨_, rfl, wideReturn_returned hwide hhold hfits⟩
  · exact ⟨_, rfl, wideReturn_kept hkept⟩
  -- WIND_FF_TIMEOUT
  · exact ⟨_, congrArg Host.Outcome.next (windTimeout_ended hdp hwind hlost hframe), windEnded_raised s _⟩

end Sys2Proof.Proofs
end

section
/-! The hatch library: commands on an entry, words of its load window, the end of a check and of a write to the NV store (R298, R299, R300,
R318, R399, R435); the statement on it (O47). -/

namespace Sys2Proof.Proofs
open Sys2Proof Sys2Proof.Machine Sys2Proof.Laws

/-! ## Entries -/

section
variable (s : State) (e : Nat)

@[simp] theorem hatchEntry_setEntry_same (x : HatchEntry) : (s.setEntry e x).hatchEntry e = x := storeGet_set_same ..

theorem hatchEntry_setEntry_other (x : HatchEntry) {k : Nat} (h : k ≠ e) : (s.setEntry e x).hatchEntry k = s.hatchEntry k :=
  storeGet_set_other _ _ _ _ _ _ h

theorem hatchEntry_of_solv {s t : State} (h : t.solv = s.solv) : t.hatchEntry e = s.hatchEntry e := by
  unfold State.hatchEntry
  rw [h]

end

section
variable (s : State) (p : Path)

@[simp] theorem touch_solv : (s.touch p).solv = s.solv := by obtain ⟨h, e⟩ := touch_host s p; rw [e]
@[simp] theorem touch_hatchEntry (e : Nat) : (s.touch p).hatchEntry e = s.hatchEntry e := hatchEntry_of_solv e (touch_solv s p)
@[simp] theorem touch_loadingEntry : (s.touch p).loadingEntry = s.loadingEntry := by simp [State.loadingEntry]
@[simp] theorem touch_storedBytes : (s.touch p).storedBytes = s.storedBytes := by simp [State.storedBytes]
@[simp] theorem touch_entryUsed (e : Nat) : (s.touch p).entryUsed e = s.entryUsed e := by
  obtain ⟨h, e⟩ := touch_host s p
  rw [e]
  rfl

end

/-! ## Frames -/

/-- From s to u no entry but e, no slot and no die changed. -/
def EntryOnly (e : Nat) (s u : State) : Prop :=
  (∀ k, k ≠ e → u.hatchEntry k = s.hatchEntry k) ∧ u.solv.slots = s.solv.slots ∧ u.solv.dies = s.solv.dies

theorem entryOnly_of_solv {s u : State} {e : Nat} (h : u.solv = s.solv) : EntryOnly e s u :=
  ⟨fun k _ => hatchEntry_of_solv k h, by rw [h], by rw [h]⟩

theorem entryOnly_trans {a b c : State} {e : Nat} (h : EntryOnly e a b) (g : EntryOnly e b c) : EntryOnly e a c := by
  obtain ⟨hentries, hslots, hdies⟩ := h
  obtain ⟨gentries, gslots, gdies⟩ := g
  exact ⟨fun k hk => (gentries k hk).trans (hentries k hk), gslots.trans hslots, gdies.trans hdies⟩

theorem entryOnly_setEntry (s : State) (e : Nat) (x : HatchEntry) : EntryOnly e s (s.setEntry e x) :=
  ⟨fun _ => hatchEntry_setEntry_other s e x, rfl, rfl⟩

/-- The fields of HATCH_STAT that work on the library writes. -/
def hatchKeys : List Nat := [Reg.SOLV_HATCH_STAT_ENTRY.key 0, Reg.SOLV_HATCH_STAT_RESULT.key 0, Reg.SOLV_HATCH_STAT_BUSY.key 0]

/-- From s to u nothing changed but entry e, the operation in progress, the NV store and HATCH_STAT. -/
structure HatchWork (e : Nat) (s u : State) : Prop where
  regs : RegsBut hatchKeys s u
  only : EntryOnly e s u
  rest : { u with regs := s.regs, solv := s.solv } = s

section
variable {e : Nat}

theorem hatchWork_trans {a b c : State} (h : HatchWork e a b) (g : HatchWork e b c) : HatchWork e a c where
  regs := regsBut_trans h.regs g.regs
  only := entryOnly_trans h.only g.only
  rest := (congrArg (fun x : State => { x with regs := a.regs, solv := a.solv }) g.rest).trans h.rest

variable (s : State)

theorem hatchWork_set (f : Fld) (v : Nat) (h : f.key 0 ∈ hatchKeys) : HatchWork e s (s.set f v) :=
  ⟨regsBut_set s f v 0 h, entryOnly_of_solv rfl, rfl⟩

theorem hatchWork_setEntry (x : HatchEntry) : HatchWork e s (s.setEntry e x) := ⟨regsBut_of_regs rfl, entryOnly_setEntry s e x, rfl⟩

theorem hatchWork_solv (op : Option (Nat × Bool)) (nv : Store (Hatch × Verdict)) :
    HatchWork e s { s with solv := { s.solv with op := op, nv := nv } } :=
  ⟨regsBut_of_regs rfl, ⟨fun _ _ => rfl, rfl, rfl⟩, rfl⟩

end

/-- Such work, and then what recording an event may change. -/
theorem hatchWork_quiet {s v u : State} {e : Nat} (h : HatchWork e s v) (hquiet : Quiet v u) :
    EntryOnly e s u ∧ FieldsBut hatchKeys s u ∧ { u.quietRest with solv := s.solv } = s.quietRest := by
  refine ⟨entryOnly_trans h.only (entryOnly_of_solv (Quiet.solv hquiet)), ?_, ?_⟩
  · exact fieldsBut_trans (fun f i hk _ => h.regs f i hk) (fieldsBut_quiet hquiet)
  · rw [hquiet.1]
    exact congrArg State.quietRest h.rest

/-! ## A command and its outcome in HATCH_STAT (R298) -/

/-- HATCH_STAT names the entry and takes the status. -/
def hatchShown (u : State) (e : Nat) (st : Status) : State := (u.set Reg.SOLV_HATCH_STAT_ENTRY e).set Reg.SOLV_HATCH_STAT_RESULT st.code

section
variable (u : State) (e : Nat) (st : Status)

theorem hatchShown_result : (hatchShown u e st).get Reg.SOLV_HATCH_STAT_RESULT = st.code :=
  (get_set_same ..).trans (Nat.mod_eq_of_lt (code_lt st))

theorem hatchShown_entry (he : e < 32) : (hatchShown u e st).get Reg.SOLV_HATCH_STAT_ENTRY = e :=
  (get_set_other _ _ _ _ _ _ (by decide)).trans ((get_set_same ..).trans (Nat.mod_eq_of_lt he))

theorem hatchShown_busy : (hatchShown u e st).flag Reg.SOLV_HATCH_STAT_BUSY = u.flag Reg.SOLV_HATCH_STAT_BUSY :=
  (flag_set_other _ _ _ _ _ _ (by decide)).trans (flag_set_other _ _ _ _ _ _ (by decide))

theorem hatchShown_hatchEntry (k : Nat) : (hatchShown u e st).hatchEntry k = u.hatchEntry k := rfl

theorem hatchShown_solv : (hatchShown u e st).solv = u.solv := rfl

theorem hatchShown_restored : { hatchShown u e st with regs := u.regs } = u := rfl

theorem hatchShown_work : HatchWork e u (hatchShown u e st) :=
  hatchWork_trans (hatchWork_set u _ e (by simp [hatchKeys])) (hatchWork_set _ _ _ (by simp [hatchKeys]))

end

/-- Over path p the row c is the command op on entry e. -/
def HatchCommand (p : Path) (e op : Nat) (c : Instr) : Prop :=
  op < 8 ∧ ∀ s, exec c s = .next (s.hostCmd p 0x0E0020 0 (op + 8 * e) (decide (e < 32)))

section
variable (p : Path) (e : Nat)

theorem hatchCommand_load : HatchCommand p e 1 (.hatchLoad p e) := ⟨by decide, fun _ => rfl⟩
theorem hatchCommand_verify : HatchCommand p e 2 (.hatchVerify p e) := ⟨by decide, fun _ => rfl⟩
theorem hatchCommand_store : HatchCommand p e 3 (.hatchStore p e) := ⟨by decide, fun _ => rfl⟩
theorem hatchCommand_erase : HatchCommand p e 4 (.hatchErase p e) := ⟨by decide, fun _ => rfl⟩
theorem hatchCommand_abort : HatchCommand p e 5 (.hatchAbort p e) := ⟨by decide, fun _ => rfl⟩

end

/-- Every operation on every entry is a command word. -/
theorem commandWord_hatch {op e : Nat} (hop : op < 8) (he : e < 32) : CommandWord 0x0E0020 (op + 8 * e) := by
  refine ⟨_, rfl, fun t => ?_⟩
  have hfits : decide (op + 8 * e < 2 ^ 32) = true := decide_eq_true (by omega)
  have hfields : fieldsOk [Reg.SOLV_HATCH_CMD_OP, Reg.SOLV_HATCH_CMD_ENTRY] (op + 8 * e) = true := by
    have hmax (lo w : Nat) (hw : 2 ^ w ≤ 4294967296) : bitsAt (op + 8 * e) lo w ≤ 4294967295 :=
      Nat.le_of_lt_succ ((Nat.mod_lt _ (Nat.two_pow_pos w)).trans_le hw)
    have hOp := hmax 0 3 (by decide)
    have hEntry := hmax 3 5 (by decide)
    simp [fieldsOk, Reg.SOLV_HATCH_CMD_OP, Reg.SOLV_HATCH_CMD_ENTRY, hOp, hEntry]
  unfold commandWord
  rw [hfits]
  -- of the checks left, that of the fields alone turns on the operand
  exact congrArg (fun b => true && b && true && true && true) hfields

/-- A command answers the status that the library's operation gives and shows it in HATCH_STAT. -/
theorem answers_of_hatchCommand {p : Path} {e op : Nat} {c : Instr} {s u : State} {st : Status} {P : State → Prop}
    (hcommand : HatchCommand p e op c) (he : e < 32) (htakes : s.takes p 14 = true) (hcore : (s.touch p).hatchCmdCore op e = (st, u))
    (hP : P (hatchShown u e st)) : Answers c s p st P := by
  obtain ⟨hop, hexec⟩ := hcommand
  have hbits : bitsAt (op + 8 * e) 3 5 = e := by
    simp only [bitsAt]
    omega
  have hcmd : (s.touch p).command p 0x0E0020 0 (op + 8 * e) = (st, hatchShown u e st) := by
    show (s.touch p).hatchCmd ((op + 8 * e) % 8) (bitsAt (op + 8 * e) 3 5) = _
    rw [hbits, show (op + 8 * e) % 8 = op by omega, State.hatchCmd, hcore]
    rfl
  refine answers_of_command ?_ (commandWord_hatch hop he) htakes hcmd hP
  rw [hexec s, decide_eq_true he]

/-- From s, which an access has made t, to u a command on entry e was done. -/
def HatchDone (s t : State) (e : Nat) (u : State) : Prop :=
  u.get Reg.SOLV_HATCH_STAT_ENTRY = e ∧ u.get Reg.SOLV_HATCH_STAT_RESULT = 0 ∧ RegsBut hatchKeys s u ∧ EntryOnly e s u
    ∧ { u with regs := s.regs, solv := s.solv } = t

/-- From s, which an access has made t, to u a command was refused with st. -/
def HatchRefused (s t : State) (st : Status) (u : State) : Prop :=
  u.get Reg.SOLV_HATCH_STAT_RESULT = st.code ∧ RegsBut hatchKeys s u ∧ { u with regs := s.regs } = t

section
variable {s : State} {p : Path} {e op : Nat} {c : Instr} (htakes : s.takes p 14 = true) (he : e < 32) (hcommand : HatchCommand p e op c)
include htakes he hcommand

theorem answers_hatchDone {u : State} {P : State → Prop} (hcore : (s.touch p).hatchCmdCore op e = (.done, u))
    (hwork : HatchWork e (s.touch p) u) (hP : P (hatchShown u e .done)) :
    Answers c s p .done fun u => HatchDone s (s.touch p) e u ∧ P u := by
  obtain ⟨hregs, honly, hrest⟩ := hatchWork_trans hwork (hatchShown_work u e .done)
  rw [touch_regs, touch_solv] at hrest
  refine answers_of_hatchCommand hcommand he htakes hcore ⟨⟨hatchShown_entry _ _ _ he, hatchShown_result .., ?_, ?_, hrest⟩, hP⟩
  · exact regsBut_trans (regsBut_of_regs (touch_regs s p)) hregs
  · exact entryOnly_trans (entryOnly_of_solv (touch_solv s p)) honly

theorem answers_hatchRefused {st : Status} (hcore : (s.touch p).hatchCmdCore op e = (st, s.touch p)) :
    Answers c s p st (HatchRefused s (s.touch p) st) := by
  refine answers_of_hatchCommand hcommand he htakes hcore ⟨hatchShown_result .., ?_, ?_⟩
  · exact regsBut_trans (regsBut_of_regs (touch_regs s p)) (hatchShown_work ..).regs
  · rw [← touch_regs s p]
    exact hatchShown_restored ..

end

/-! ## The operations (R298) -/

/-- An operation is in progress on the entry. -/
def hatchBusy (t : State) (e : Nat) : Bool := t.solv.op.any (fun o => decide (o.1 = e))

/-- An entry is LOADING. -/
def anyLoading (t : State) : Bool := t.solv.entries.any (fun n => decide (n.2.state = 1))

section
variable (t : State)

theorem hatchCmdCore_factory {op : Nat} (h : op = 1 ∨ op = 3 ∨ op = 4) : t.hatchCmdCore op 0 = (.range, t) :=
  (if_neg (by omega)).trans (if_pos ⟨rfl, h⟩)

variable {e : Nat}

theorem hatchCmdCore_load (he : 0 < e) : t.hatchCmdCore 1 e =
    if (t.hatchEntry e).state = 0 ∧ !anyLoading t then (.done, t.setEntry e { state := 1 }) else (.state, t) :=
  if_neg fun h => he.ne' h.1

/-- An operation in progress: its entry, and whether it is a STORE. -/
def opStarted (o : Nat × Bool) : State := ({ t with solv := { t.solv with op := some o } }).setFlag Reg.SOLV_HATCH_STAT_BUSY true

/-- The check of an entry in progress. -/
def checkStarted (e : Nat) : State := opStarted (t.setEntry e { t.hatchEntry e with state := 2 }) (e, false)

theorem hatchCmdCore_verify : t.hatchCmdCore 2 e =
    if (t.hatchEntry e).state ≠ 1 then (.state, t) else if t.solv.op.isSome then (.busy, t) else (.done, checkStarted t e) :=
  if_neg (by simp)

theorem hatchCmdCore_store (he : 0 < e) : t.hatchCmdCore 3 e =
    if (t.hatchEntry e).state ≠ 3 then (.state, t)
    else if t.solv.op.isSome then (.busy, t)
    else if 16777216 < t.storedBytes + ((t.hatchEntry e).desc.map (fun h => h.hdr.length)).getD 0 then (.range, t)
    else (.done, opStarted t (e, true)) :=
  if_neg fun h => he.ne' h.1

/-- The entry and its place in the NV store emptied. -/
def hatchErased (e : Nat) : State :=
  { t.setEntry e {} with solv := { (t.setEntry e {}).solv with nv := storeDel t.solv.nv e } }

theorem hatchCmdCore_erase (he : 0 < e) : t.hatchCmdCore 4 e =
    if hatchBusy t e then (.busy, t)
    else if (t.hatchEntry e).state < 3 ∨ t.entryUsed e then (.state, t)
    else (.done, hatchErased t e) :=
  if_neg fun h => he.ne' h.1

theorem hatchCmdCore_abort_loading (h : (t.hatchEntry e).state = 1) : t.hatchCmdCore 5 e = (.done, t.setEntry e {}) := by
  have hkept : ¬ (t.hatchEntry e).state = 2 := by omega
  exact (if_neg (by simp)).trans ((if_pos (Or.inl h)).trans (congrArg (Prod.mk Status.done) (if_neg hkept)))

theorem hatchCmdCore_abort_state (h : (t.hatchEntry e).state = 0 ∨ (t.hatchEntry e).state = 4) : t.hatchCmdCore 5 e = (.state, t) :=
  (if_neg (by simp)).trans (if_neg fun hloaded => by omega)

theorem opStarted_hatchEntry (o : Nat × Bool) (k : Nat) : (opStarted t o).hatchEntry k = t.hatchEntry k := rfl

theorem opStarted_op (o : Nat × Bool) : (opStarted t o).solv.op = some o := rfl

theorem opStarted_busy (o : Nat × Bool) : (opStarted t o).flag Reg.SOLV_HATCH_STAT_BUSY = true := flag_setFlag_same _ _ _ _ (by decide)

theorem hatchErased_hatchEntry : (hatchErased t e).hatchEntry e = {} := hatchEntry_setEntry_same t e {}

theorem hatchErased_nv : storeFind (hatchErased t e).solv.nv e = none := storeFind_del_same t.solv.nv e

theorem opStarted_work (o : Nat × Bool) : HatchWork e t (opStarted t o) :=
  hatchWork_trans (hatchWork_solv t (some o) t.solv.nv) (hatchWork_set _ Reg.SOLV_HATCH_STAT_BUSY 1 (by simp [hatchKeys]))

theorem checkStarted_work : HatchWork e t (checkStarted t e) := hatchWork_trans (hatchWork_setEntry t _) (opStarted_work _ _)

theorem hatchErased_work : HatchWork e t (hatchErased t e) :=
  hatchWork_trans (hatchWork_setEntry t {}) (hatchWork_solv _ t.solv.op (storeDel t.solv.nv e))

end

/-! ## The load window -/

/-- A word of a load window over a path whose writes are enabled answers what its window answers. -/
theorem hostWord_window {s : State} {p : Path} {a : Nat} (v : Word) (ha : 0x41000000 ≤ a) (halign : a % 4 = 0) (hup : s.pathUp p = true)
    (hboot : s.booted = true) (hwrites : s.pathWrites p = true) :
    s.hostWord p a 0 v = ((s.touch p).writeWindow a v).2.answer p ((s.touch p).writeWindow a v).1 := by
  have hwrite : (s.touch p).writeWord p a 0 v = (s.touch p).writeWindow a v := by
    unfold State.writeWord
    rw [touch_booted, touch_pathWrites, hboot, hwrites]
    exact (if_neg Bool.false_ne_true).trans ((if_neg Bool.false_ne_true).trans ((if_neg (by omega)).trans (if_pos ha)))
  unfold State.hostWord
  dsimp only
  rw [if_pos hup, if_pos halign, hwrite]

theorem exec_hatchWindow {s : State} {p : Path} {w : Nat} (v : Word) (hw : w < 2 ^ 20) (htakes : s.takes p 14 = true) :
    exec (.hatchLoadWindowWrite p (0x42000000 + 4 * w) v) s = answered p ((s.touch p).hatchWindow w v) := by
  obtain ⟨hup, hboot, hwrites, hsolver, -⟩ := takes_iff.1 htakes
  have hword : (0x42000000 + 4 * w) % 16777216 / 4 = w := by omega
  have hwindow : (s.touch p).writeWindow (0x42000000 + 4 * w) v = (s.touch p).hatchWindow w v := by
    unfold State.writeWindow
    rw [hword, if_neg (by omega), if_pos (by omega), touch_variant, if_pos hsolver]
  refine congrArg Host.Outcome.next ((if_pos (by omega)).trans ?_)
  rw [hostWord_window v (by omega) (by omega) hup hboot hwrites, hwindow]

section
variable {t : State} (w : Nat) (v : Word)

/-- The entry with one more word loaded. -/
def wordLoaded (t : State) (e : Nat) : State := t.setEntry e { t.hatchEntry e with words := storePut (t.hatchEntry e).words w v }

theorem hatchWindow_loading {e : Nat} (h : t.loadingEntry = some e) : t.hatchWindow w v = (.done, wordLoaded w v t e) := by
  unfold State.hatchWindow
  rw [h]
  rfl

theorem hatchWindow_none (h : t.loadingEntry = none) : t.hatchWindow w v = (.state, t) := by
  unfold State.hatchWindow
  rw [h]

end

/-! ## The end of a check (R299, R300, R435) -/

section
variable (s : State) (e : Nat) (g : Verdict) (d : HatchDesc)

/-- What the check of the loaded words comes to. -/
def hatchCheck : Status × Nat :=
  let ws := (s.hatchEntry e).words
  s.verifyObject { g with structOk := g.structOk && headerOk ws && sectionsOk ws } d.keyHash (hatchIn ws d).svn false

/-- The operation at its end. -/
def opEnded : State := ({ s with solv := { s.solv with op := none } }).setFlag Reg.SOLV_HATCH_STAT_BUSY false

/-- The check at its end with its status shown, the entry being x then. -/
def checkEnded (st : Status) (x : HatchEntry) : State := ((opEnded s).set Reg.SOLV_HATCH_STAT_RESULT st.code).setEntry e x

theorem opEnded_work : HatchWork e s (opEnded s) :=
  hatchWork_trans (hatchWork_solv s none s.solv.nv) (hatchWork_set _ Reg.SOLV_HATCH_STAT_BUSY 0 (by simp [hatchKeys]))

theorem opEnded_busy : (opEnded s).flag Reg.SOLV_HATCH_STAT_BUSY = false := flag_setFlag_same _ _ _ _ (by decide)

theorem checkEnded_work (st : Status) (x : HatchEntry) : HatchWork e s (checkEnded s e st x) :=
  hatchWork_trans (opEnded_work s e) (hatchWork_trans (hatchWork_set _ Reg.SOLV_HATCH_STAT_RESULT st.code (by simp [hatchKeys]))
    (hatchWork_setEntry _ x))

/-- What the end of a check leaves: the entry as x, its status shown, nothing in progress, all else as before. -/
theorem checkEnded_quiet {s u : State} {e : Nat} {st : Status} {x : HatchEntry} (hquiet : Quiet (checkEnded s e st x) u) :
    u.hatchEntry e = x ∧ u.solv.op = none ∧ u.get Reg.SOLV_HATCH_STAT_RESULT = st.code ∧ u.flag Reg.SOLV_HATCH_STAT_BUSY = false
      ∧ EntryOnly e s u ∧ FieldsBut hatchKeys s u ∧ { u.quietRest with solv := s.solv } = s.quietRest := by
  refine ⟨?_, congrArg SolvState.op (Quiet.solv hquiet), ?_, ?_, hatchWork_quiet (checkEnded_work s e st x) hquiet⟩
  · exact (hatchEntry_of_solv e (Quiet.solv hquiet)).trans (hatchEntry_setEntry_same ..)
  · exact (Quiet.get hquiet _ 0 (by decide)).trans ((get_set_same ..).trans (Nat.mod_eq_of_lt (code_lt st)))
  · exact (Quiet.flag hquiet _ 0 (by decide)).trans ((flag_set_other _ _ _ _ _ _ (by decide)).trans (opEnded_busy s))

variable {s e g d} (hop : s.solv.op = some (e, false))
include hop

theorem hatchVerifyDone_verified (h : (hatchCheck s e g d).1 = .done) : s.hatchVerifyDone g d =
    (checkEnded s e .done { s.hatchEntry e with state := 3, desc := some (hatchIn (s.hatchEntry e).words d) }).raise 0x0B09 := by
  unfold State.hatchVerifyDone
  rw [hop]
  refine (if_pos h).trans ?_
  rw [← h]
  rfl

theorem hatchVerifyDone_failed (h : (hatchCheck s e g d).1 ≠ .done) : s.hatchVerifyDone g d =
    (checkEnded s e (hatchCheck s e g d).1 {}).verifyEvents (hatchCheck s e g d).2 := by
  unfold State.hatchVerifyDone
  rw [hop]
  exact if_neg h

end

/-! ## The end of a write to the NV store (R298, R399) -/

/-- The NV store with a hatch in the place of entry e. -/
def nvWith (s : State) (e : Nat) : Option Hatch → Store (Hatch × Verdict)
  | some h => storePut s.solv.nv e (h, { sigOk := true, structOk := true })
  | none => s.solv.nv

/-- The write at its end: the entry STORED and its hatch in NV. -/
def storeEnded (s : State) (e : Nat) : State :=
  let t := (opEnded s).setEntry e { s.hatchEntry e with state := 4 }
  { t with solv := { t.solv with nv := nvWith s e (s.hatchEntry e).desc } }

section
variable {s : State} {e : Nat}

theorem storeEnded_work : HatchWork e s (storeEnded s e) :=
  hatchWork_trans (opEnded_work s e) (hatchWork_trans (hatchWork_setEntry _ { s.hatchEntry e with state := 4 })
    (hatchWork_solv _ none (nvWith s e (s.hatchEntry e).desc)))

theorem storeEnded_hatchEntry : (storeEnded s e).hatchEntry e = { s.hatchEntry e with state := 4 } :=
  hatchEntry_setEntry_same (opEnded s) e { s.hatchEntry e with state := 4 }

theorem storeEnded_nv {h : Hatch} (hdesc : (s.hatchEntry e).desc = some h) :
    storeFind (storeEnded s e).solv.nv e = some (h, { sigOk := true, structOk := true }) := by
  show storeFind (nvWith s e (s.hatchEntry e).desc) e = _
  rw [hdesc]
  exact storeFind_put_same ..

variable (hop : s.solv.op = some (e, true))
include hop

theorem hatchStoreDone_stored (hdip : s.flag Reg.PWR_STAT_DIP = false) : s.hatchStoreDone = (storeEnded s e).raise 0x0B09 := by
  unfold State.hatchStoreDone
  rw [hop]
  exact if_neg (Bool.eq_false_iff.1 hdip)

theorem hatchStoreDone_dip (hdip : s.flag Reg.PWR_STAT_DIP = true) : s.hatchStoreDone = s := by
  unfold State.hatchStoreDone
  rw [hop]
  exact if_pos hdip

end

/-! ## The statement -/

/-- Settles O47: each command is the operation of its lemma on the touched state, and what it leaves is `HatchDone` or `HatchRefused`; the
end of a check and of a write is an end of the operation, a new entry and a recorded event. -/
theorem hatchCommands : Obligations.HatchCommands := by
  intro s p e w v g d hpos he t x h r keys others ok no loading busyHere
  have hentry : t.hatchEntry e = x := touch_hatchEntry s p e
  have hsolv : t.solv = s.solv := touch_solv s p
  have hloading : anyLoading t = loading := by rw [anyLoading, hsolv]
  have hbusy : hatchBusy t e = busyHere := by rw [hatchBusy, hsolv]
  refine ⟨fun htakes => ⟨fun hempty hnone => ?_, fun hstate => ?_, fun hstate hidle => ?_, fun hstate => ?_, fun hstate hidle hroom => ?_,
      fun hstate => ?_, fun hstate hunused hfree => ?_, fun hstate hfree => ?_, fun hstate => ?_, fun hstate => ?_, ?_, fun hw hone => ?_,
      fun hw hnone => ?_⟩,
    fun hop hdone => ?_, fun hop hfailed => ?_, fun hop hdip => ?_, fun hdip hop => ?_⟩
  -- LOAD
  · have hcore : t.hatchCmdCore 1 e = (.done, t.setEntry e { state := 1 }) := by
      rw [hatchCmdCore_load t hpos, hentry, hloading, if_pos (by simp [hempty, hnone])]
    refine answers_hatchDone htakes he (hatchCommand_load p e) hcore (hatchWork_setEntry ..) ?_
    rw [hatchShown_hatchEntry, hatchEntry_setEntry_same]
    exact ⟨rfl, rfl⟩
  · refine answers_hatchRefused htakes he (hatchCommand_load p e) ?_
    rw [hatchCmdCore_load _ hpos]
    refine if_neg ?_
    rw [hentry, hloading]
    rintro ⟨hempty, hnone⟩
    rcases hstate with hused | hopen
    · exact hused hempty
    · rw [hopen] at hnone
      exact Bool.false_ne_true hnone
  -- VERIFY
  · have hnoOp : ¬ s.solv.op.isSome = true := by simp [hidle]
    have hcore : t.hatchCmdCore 2 e = (.done, checkStarted t e) := by
      rw [hatchCmdCore_verify, hentry, hsolv, if_neg (not_not_intro hstate), if_neg hnoOp]
    refine answers_hatchDone htakes he (hatchCommand_verify p e) hcore (checkStarted_work t) ?_
    rw [hatchShown_hatchEntry, hatchShown_solv, hatchShown_busy, checkStarted, opStarted_hatchEntry, hatchEntry_setEntry_same]
    exact ⟨rfl, opStarted_op .., opStarted_busy ..⟩
  · refine answers_hatchRefused htakes he (hatchCommand_verify p e) ?_
    rw [hatchCmdCore_verify]
    exact if_pos (hentry ▸ hstate)
  -- STORE
  · have hnoOp : ¬ s.solv.op.isSome = true := by simp [hidle]
    have hcore : t.hatchCmdCore 3 e = (.done, opStarted t (e, true)) := by
      rw [hatchCmdCore_store t hpos, hentry, hsolv, if_neg (not_not_intro hstate), if_neg hnoOp, touch_storedBytes, if_neg hroom.not_gt]
    refine answers_hatchDone htakes he (hatchCommand_store p e) hcore (opStarted_work t _) ?_
    rw [hatchShown_hatchEntry, hatchShown_solv, hatchShown_busy]
    exact ⟨hentry, opStarted_op .., opStarted_busy ..⟩
  · refine answers_hatchRefused htakes he (hatchCommand_store p e) ?_
    rw [hatchCmdCore_store _ hpos]
    exact if_pos (hentry ▸ hstate)
  -- ERASE
  · have hkept : ¬ (x.state < 3 ∨ s.entryUsed e = true) := by simp [hunused, hstate]
    have hcore : t.hatchCmdCore 4 e = (.done, hatchErased t e) := by
      rw [hatchCmdCore_erase t hpos, hbusy, if_neg (Bool.eq_false_iff.1 hfree), hentry, touch_entryUsed, if_neg hkept]
    refine answers_hatchDone htakes he (hatchCommand_erase p e) hcore (hatchErased_work t) ?_
    rw [hatchShown_hatchEntry, hatchShown_solv]
    exact ⟨hatchErased_hatchEntry t, hatchErased_nv t⟩
  · refine answers_hatchRefused htakes he (hatchCommand_erase p e) ?_
    rw [hatchCmdCore_erase _ hpos, if_neg (Bool.eq_false_iff.1 (hbusy.trans hfree))]
    exact if_pos (.inl (hentry ▸ hstate))
  -- ABORT
  · refine answers_hatchDone htakes he (hatchCommand_abort p e) (hatchCmdCore_abort_loading t (hentry ▸ hstate)) (hatchWork_setEntry ..) ?_
    rw [hatchShown_hatchEntry, hatchEntry_setEntry_same]
  · exact answers_hatchRefused htakes he (hatchCommand_abort p e) (hatchCmdCore_abort_state t (hentry ▸ hstate))
  -- entry 0
  · have refused {c : Instr} {op : Nat} (hcommand : HatchCommand p 0 op c) (hop : op = 1 ∨ op = 3 ∨ op = 4) :
        Answers c s p .range (no .range) := answers_hatchRefused htakes (by decide) hcommand (hatchCmdCore_factory t hop)
    simp only [List.forall_mem_cons, List.not_mem_nil, false_imp_iff, implies_true, and_true]
    exact ⟨refused (hatchCommand_load p 0) (by decide), refused (hatchCommand_store p 0) (by decide),
      refused (hatchCommand_erase p 0) (by decide)⟩
  -- a word of the load window
  · have hstored := hatchWindow_loading w v ((touch_loadingEntry s p).trans hone)
    have hloaded : (wordLoaded w v t e).hatchEntry e = { x with words := storePut x.words w v } :=
      (hatchEntry_setEntry_same ..).trans (by rw [hentry])
    refine ⟨wordLoaded w v t e, (exec_hatchWindow v hw htakes).trans (by rw [hstored, answered]), ?_, ?_, ?_, ?_⟩
    · rw [hloaded]
      exact storeFind_put_same ..
    · rw [hloaded]
    · exact entryOnly_trans (entryOnly_of_solv hsolv) (entryOnly_setEntry ..)
    · rw [← hsolv]
      rfl
  · have hrefused := hatchWindow_none w v ((touch_loadingEntry s p).trans hnone)
    exact ⟨_, (exec_hatchWindow v hw htakes).trans (by rw [hrefused, answered]), rfl⟩
  -- HATCH_VERIFY_DONE
  · obtain ⟨hx, hidle, hresult, hflag, honly, hfields, hrest⟩ := checkEnded_quiet (raise_quiet
      (checkEnded s e .done { x with state := 3, desc := some h }) 0x0B09)
    exact ⟨_, congrArg Host.Outcome.next (hatchVerifyDone_verified hop hdone), congrArg HatchEntry.state hx, congrArg HatchEntry.desc hx,
      honly, hidle, hfields, hresult, hflag, hrest⟩
  · obtain ⟨hx, hidle, hresult, -, honly, hfields, hrest⟩ := checkEnded_quiet (verifyEvents_quiet (checkEnded s e r.1 {}) r.2)
    exact ⟨_, congrArg Host.Outcome.next (hatchVerifyDone_failed hop hfailed), hx, honly, hidle, hfields, hresult, hrest⟩
  -- HATCH_STORE_DONE
  · have hquiet := raise_quiet (storeEnded s e) 0x0B09
    obtain ⟨honly, hfields, hrest⟩ := hatchWork_quiet storeEnded_work hquiet
    refine ⟨_, congrArg Host.Outcome.next (hatchStoreDone_stored hop hdip), ?_, honly, congrArg SolvState.op (Quiet.solv hquiet), hfields,
      fun y hy => ?_, hrest⟩
    · exact (hatchEntry_of_solv e (Quiet.solv hquiet)).trans storeEnded_hatchEntry
    · rw [Quiet.solv hquiet]
      exact storeEnded_nv hy
  · exact ⟨_, congrArg Host.Outcome.next (hatchStoreDone_dip hop hdip), rfl⟩

end Sys2Proof.Proofs
end

section
/-! What the rows can do to the operating state, that every row runs, and the invariant of the fuse bank along a step; the statements on them
(O4, O5, O6). -/

namespace Sys2Proof.Proofs
open Sys2Proof Sys2Proof.Machine Sys2Proof.Laws

/-! ## The operating state (R388, R403, R406, R408) -/

theorem mode_of_modeTag {a b : State} (h : a.modeTag = b.modeTag) : a.mode = b.mode := congrArg Prod.fst h

/-- BOOT_ROM_DONE is refused or takes the boot on (R385). -/
theorem execBootRomDone_cases (s : State) (straps : Straps) (ok : Bool) (trip : Byte) :
    (exec (.bootRomDone straps ok trip) s = .refused .factoryTest
        ∧ s.atStage 1 = true ∧ ok = true ∧ straps.bootSel = 3 ∧ s.fuses.mfgOff = false)
      ∨ exec (.bootRomDone straps ok trip) s = .next (s.bootRom straps ok trip.toNat) := by
  by_cases h : s.atStage 1 = true ∧ ok = true ∧ straps.bootSel = 3 ∧ s.fuses.mfgOff = false
  · exact .inl ⟨if_pos h, h⟩
  · exact .inr (if_neg h)

/-- Of the rows outside `Instr.movesMode`, those of `movesCore` change phase, cycle count or fuses alone; every other one keeps the core. -/
theorem mode_of_not_movesMode {c : Instr} {s t : State} (h : exec c s = .next t) (hc : c.movesMode = false) : t.mode = s.mode := by
  cases c with
  | pumpBoundary | outputReserveInstant | restartCyclesEnd | replayComplete | bootDone | sleepEnter | backupEnter | powerOn | brownOut
  | resetNLow | serviceWatchdogExpiry | wakeNEdge | caseOpenDetect => cases hc
  | inputWindowClose gpio => cases h; exact mode_of_modeTag (windowClose_modeTag ..)
  | plateSwap => cases h; exact mode_of_modeTag (plateSwap_modeTag s)
  | plateRevertApply => cases h; exact mode_of_modeTag (plateRevertApply_modeTag s)
  | proofApply => cases h; exact mode_of_modeTag (proofApply_modeTag s)
  | fuseOpDone => cases h; exact mode_of_modeTag (fuseDone_modeTag s)
  | bootRomDone straps ok trip =>
    obtain ⟨hrefused, -⟩ | hnext := execBootRomDone_cases s straps ok trip
    · rw [hrefused] at h; cases h
    · rw [hnext] at h; cases h; exact mode_of_core (bootRom_core ..)
  | _ => exact mode_of_core (of_completes (completes_core rfl (by simp)) h)

/-- Settles O6: a row outside the list keeps the mode. -/
theorem modeMoves : Obligations.ModeMoves := by
  intro c s t h hmoved
  by_contra hc
  exact hmoved (mode_of_not_movesMode h (Bool.eq_false_iff.2 hc))

/-! ## Every row runs (R385, R443) -/

/-- Settles O4: every row answers the next state of its operation, but for BOOT_ROM_DONE where the factory test is selected. -/
theorem noStop : Obligations.NoStop := by
  intro c s
  cases c with
  | bootRomDone straps ok trip =>
    obtain ⟨hrefused, hstage, rfl, hsel, hfuse⟩ | hnext := execBootRomDone_cases s straps ok trip
    · exact .inr ⟨hrefused, hfuse, straps, trip, rfl, hsel, hstage⟩
    · exact .inl ⟨_, hnext⟩
  | _ => exact .inl ⟨_, rfl⟩

/-! ## The fuse bank (R436 to R442) -/

/-- A step runs the command in front on the rest of the queue, or lets time pass; both keep the variant and blow fuses only further. -/
theorem fuses_of_step {s t : State} (h : step s = .next t) : t.variant = s.variant ∧ s.fuses.blown t.fuses := by
  unfold step at h
  split at h
  · cases h
    obtain ⟨-, hvariant, -, hblown⟩ := kept_of_core (tick_core s)
    exact ⟨hvariant, hblown⟩
  · obtain ⟨-, hvariant, -, hblown⟩ := exec_kept h
    exact ⟨hvariant, hblown⟩

/-- Settles O5: a step blows fuses only further, and what is further than something blown further is so too. -/
theorem fusesOnlyBlown : Obligations.FusesOnlyBlown := by
  intro v f s t ⟨hv, hf⟩ h
  obtain ⟨hvariant, hblown⟩ := fuses_of_step h
  exact ⟨hvariant.trans hv, blown_trans hf hblown⟩

end Sys2Proof.Proofs
end

section
/-! The feedback grid in a state with a stale output level: the refutation of the statement on the stipple test and the grid (O59). -/

namespace Sys2Proof.Proofs
open Sys2Proof Sys2Proof.Machine Sys2Proof.Laws

/-! ## The feedback grid (R375) -/

/-- After DONE: outputs 0 and 1 are in use, FB_SETTLE is 0, output 1 is driven though nothing commands it, and each of the two has failed
three times in a row. FB_SETTLE lies below its legal range here; the statement asks nothing of it. -/
def staleOutput : State :=
  { (((State.reset.set Reg.SAFE_OUT_CFG_USE 1).set Reg.SAFE_OUT_CFG_USE 1 1).set Reg.SAFE_STIPPLE_CFG_FB_SETTLE 0) with
    mode := .done, safe := { high := 2, failed := [(0, 3), (1, 3)] } }

/-- What the grid does to output 1 of that state: it reads as it was driven, and it is latched. The fourth failure of output 0 drops the
stale level, and output 1 is then checked against the new one. -/
def latchedAsDriven (u : State) : Bool := bitAt u.safe.fb 1 && bitAt u.safe.disc 1

set_option maxRecDepth 20000 in
theorem latchedAsDriven_staleOutput : latchedAsDriven (staleOutput.feedbackGrid (3 : Word).toNat) = true := by decide +kernel

/-- Refutes O59: in the clause on FEEDBACK_GRID_CHECK, output 1 of `staleOutput` reads back high, as it is driven before the row, and is
latched all the same; the other clauses are not touched. -/
theorem not_stippleAndFeedback : ¬ Obligations.StippleAndFeedback := by
  intro h
  obtain ⟨-, -, -, -, -, -, -, hgrid, -⟩ := h staleOutput 1 3 (by decide)
  obtain ⟨u, hu, -, -, -, -, -, hsame, -⟩ := hgrid rfl
  obtain rfl : staleOutput.feedbackGrid (3 : Word).toNat = u := Host.Outcome.next.inj hu
  obtain ⟨hfb, hdisc⟩ := Bool.and_eq_true_iff.1 latchedAsDriven_staleOutput
  have hkept := hsame hfb
  exact Bool.noConfusion (hdisc.symm.trans hkept)

end Sys2Proof.Proofs
end

section
/-! The resets: what a hardware reset keeps and clears, power-on, the wakes and backup; the statements on them (O32, O33). -/

namespace Sys2Proof.Proofs
open Sys2Proof Sys2Proof.Machine Sys2Proof.Laws

/-! ## Bits -/

theorem bitAt_setBit (m i : Nat) : bitAt (setBit m i) i = true := by
  unfold setBit
  split
  · assumption
  · next h =>
    rw [bitAt_eq_testBit] at h ⊢
    rw [Nat.add_comm, Nat.testBit_two_pow_add_eq, Bool.eq_false_of_not_eq_true h, Bool.not_false]

/-! ## What a reset in progress leaves of the state before it -/

/-- The state without time, keeper, fuses, free values, causes and power manager: what an operation cut off by a reset leaves alone. -/
def bare (s : State) : State :=
  { s with freeCtr := 0, fuses := {}, sec := {}, now := 0, up := 0, slew := {}, keep := {}, rst := {}, pwr := {} }

theorem bare_fuseCut (s : State) : bare s.fuseCut = bare s := by
  unfold State.fuseCut
  dsimp only
  (repeat' split) <;> rfl

theorem fuseCut_of_idle {s : State} (h : s.sec.fuseOp = none) : s.fuseCut = s := by
  unfold State.fuseCut
  rw [h]

/-- A posted write that completes reaches the keeper alone. -/
theorem keepComplete_rest (s : State) : { s.keepComplete with keep := s.keep } = s := by
  unfold State.keepComplete
  dsimp only
  (repeat' split) <;> rfl

/-- A posted write that a reset cuts off touches the keeper and the free values alone. -/
theorem keepCut_rest (s : State) : { s.keepCut with freeCtr := s.freeCtr, keep := s.keep } = s := by
  unfold State.keepCut
  dsimp only
  split
  · split
    · have h := keepComplete_rest (s.draw 1).2
      exact congrArg (fun t : State => { t with freeCtr := s.freeCtr, keep := s.keep }) h
    · rfl
  · rfl

theorem keepCut_fuses (s : State) : s.keepCut.fuses = s.fuses := (congrArg State.fuses (keepCut_rest s) :)
theorem keepCut_up (s : State) : s.keepCut.up = s.up := (congrArg State.up (keepCut_rest s) :)
theorem bare_keepCut (s : State) : bare s.keepCut = bare s := (congrArg bare (keepCut_rest s) :)

/-! ## What a hardware reset keeps and clears (R390) -/

/-- The fields of this register read their reset value, at every index. -/
def AtReset (u : State) (f : Fld) : Prop := ∀ e, u.get f e = f.resetOf e

theorem atReset_set {u : State} {f g : Fld} {v : Nat} (h : AtReset u f) (hne : f.key 0 % 2 ^ 29 ≠ g.key 0 % 2 ^ 29) :
    AtReset (u.set g v) f := by
  intro e
  rw [get_set_other, h e]
  intro hkey
  exact hne (by rw [← key_mod f e, hkey])

theorem atReset_of_regs {u v : State} {f : Fld} (hregs : v.regs = u.regs) (h : AtReset u f) : AtReset v f :=
  fun e => (get_of_regs hregs f e).trans (h e)

theorem atReset_foldl_set {f : Fld} (w : Fld → Nat) (l : List Fld) (hl : ∀ g ∈ l, f.key 0 % 2 ^ 29 ≠ g.key 0 % 2 ^ 29) {u : State}
    (h : AtReset u f) : AtReset (l.foldl (fun t g => t.set g (w g)) u) f := by
  induction l generalizing u with
  | nil => exact h
  | cons g l ih =>
    obtain ⟨hg, hl⟩ := List.forall_mem_cons.1 hl
    exact ih hl (atReset_set h hg)

/-- A reset that R390 describes: from s to u the configuration in NV, the queue and the variant stay, and points, pump, host paths, loops,
allocation, cycle count, lock bits and forces are as after reset. -/
structure ResetOf (s u : State) : Prop where
  pending : u.pending = s.pending
  variant : u.variant = s.variant
  copyA : u.images.copyA = s.images.copyA
  copyB : u.images.copyB = s.images.copyB
  pointerB : u.images.pointerB = s.images.pointerB
  nv0 : u.plate.nv0 = s.plate.nv0
  nv1 : u.plate.nv1 = s.plate.nv1
  bank0 : u.mirror.bank0 = s.mirror.bank0
  bank1 : u.mirror.bank1 = s.mirror.bank1
  hatches : u.solv.nv = s.solv.nv
  points : u.points = []
  pump : u.pump = {}
  host : u.host = {}
  loops : u.loops = {}
  alloc : u.alloc = {}
  n : u.n = 0
  lock : AtReset u Reg.SYS_LOCK_LOCK
  forces : AtReset u Reg.FORCE_ENT_ADDR_VALID

/-- What a reset keeps does not depend on what `bare` leaves out. -/
theorem resetOf_of_bare {s t u : State} (h : bare t = bare s) (ht : ResetOf t u) : ResetOf s u := by
  have hbare : ResetOf (bare t) u := { ht with }
  rw [h] at hbare
  exact { hbare with }

theorem resetOf_set {s u : State} {g : Fld} {v : Nat} (h : ResetOf s u) (hlock : Reg.SYS_LOCK_LOCK.key 0 % 2 ^ 29 ≠ g.key 0 % 2 ^ 29)
    (hforce : Reg.FORCE_ENT_ADDR_VALID.key 0 % 2 ^ 29 ≠ g.key 0 % 2 ^ 29) : ResetOf s (u.set g v) :=
  { h with lock := atReset_set h.lock hlock, forces := atReset_set h.forces hforce }

theorem atReset_resetRegs {s t : State} {fatal : Bool} {f : Fld} (hregs : t.regs = s.resetRegs fatal)
    (hf : ∀ g ∈ Reg.PWR_VIN_STAT_VIN_MIN_MV :: Reg.PWR_TEMP_STAT_TJ_MAX :: keptFields fatal fatal, f.key 0 % 2 ^ 29 ≠ g.key 0 % 2 ^ 29) :
    AtReset t f := by
  obtain ⟨hmin, hmax, hkept⟩ := List.forall_mem_cons.1 hf |>.imp_right List.forall_mem_cons.1
  exact atReset_of_regs hregs (atReset_set (atReset_set (atReset_foldl_set _ _ hkept fun _ => rfl) hmin) hmax)

theorem resetOf_slotFields {s u b : State} (h : ResetOf s u) : ResetOf s (u.slotFields b) := by
  unfold State.slotFields
  have hrun := resetOf_set (g := Reg.PLATE_STAT_RUN_SLOT) (v := u.get Reg.PLATE_STAT_COMMIT_SLOT) h (by decide) (by decide)
  dsimp only
  split
  · exact resetOf_set hrun (by decide) (by decide)
  · exact hrun

theorem resetOf_resetState (s : State) (cause : Nat) : ResetOf s (s.resetState cause) := by
  unfold State.resetState
  dsimp only
  refine resetOf_slotFields ?_
  generalize decide (lowestCause (s.resetBook cause).causes = 4) = fatal
  constructor
  case lock => exact atReset_resetRegs rfl (by cases fatal <;> decide)
  case forces => exact atReset_resetRegs rfl (by cases fatal <;> decide)
  all_goals rfl

theorem resetOf_fatalCount {s u : State} (h : ResetOf s u) : ResetOf s u.fatalCount := by
  unfold State.fatalCount
  dsimp only
  split
  · have hrun := resetOf_set (g := Reg.RST_CAUSE_FATAL_RUN) (v := min 15 (u.get Reg.RST_CAUSE_FATAL_RUN + 1)) h (by decide) (by decide)
    split
    · exact hrun
    · exact resetOf_set hrun (by decide) (by decide)
  · exact h

theorem resetOf_hwReset (s : State) (cause : Nat) : ResetOf s (s.hwReset cause) := by
  unfold State.hwReset
  dsimp only
  have hcut : bare s.fuseCut.keepCut = bare s := (bare_keepCut _).trans (bare_fuseCut s)
  have hreset := resetOf_of_bare hcut (resetOf_resetState s.fuseCut.keepCut cause)
  split
  · exact { resetOf_fatalCount hreset with }
  · exact { hreset with }

theorem resetOf_bootAt {s u : State} (h : ResetOf s u) (stage : Nat) : ResetOf s (u.bootAt stage) :=
  resetOf_set { h with } (by decide) (by decide)

theorem get_bootAt (u : State) {stage : Nat} (h : stage < 2) : (u.bootAt stage).get Reg.RST_BOOT_STAGE = stage := by
  unfold State.bootAt
  rw [get_set_same]
  exact Nat.mod_eq_of_lt (h.trans (by decide))

/-! ## What a hardware reset leaves of the supply, the fuses and the time -/

theorem fuseCut_pwr (s : State) : s.fuseCut.pwr = s.pwr := by
  unfold State.fuseCut
  dsimp only
  (repeat' split) <;> rfl

theorem keepCut_pwr (s : State) : s.keepCut.pwr = s.pwr := (congrArg State.pwr (keepCut_rest s) :)

theorem slotFields_parts (u b : State) : (u.slotFields b).fuses = u.fuses ∧ (u.slotFields b).up = u.up
    ∧ (u.slotFields b).rst = u.rst ∧ (u.slotFields b).pwr = u.pwr := by
  unfold State.slotFields
  dsimp only
  split <;> exact ⟨rfl, rfl, rfl, rfl⟩

theorem fatalCount_parts (u : State) : u.fatalCount.fuses = u.fuses ∧ u.fatalCount.up = u.up ∧ u.fatalCount.rst = u.rst
    ∧ u.fatalCount.pwr = u.pwr := by
  unfold State.fatalCount
  dsimp only
  (repeat' split) <;> exact ⟨rfl, rfl, rfl, rfl⟩

theorem resetState_parts (s : State) (cause : Nat) : (s.resetState cause).fuses = s.fuses ∧ (s.resetState cause).up = s.up
    ∧ (s.resetState cause).rst.causes = setBit s.rst.causes cause ∧ (s.resetState cause).pwr.vinAbsent = s.pwr.vinAbsent := by
  unfold State.resetState
  dsimp only
  obtain ⟨hfuses, hup, hrst, hpwr⟩ := slotFields_parts _ s
  exact ⟨hfuses, hup, congrArg ResetState.causes hrst, (congrArg PowerState.vinAbsent hpwr :)⟩

theorem hwReset_vinAbsent (s : State) (cause : Nat) : (s.hwReset cause).pwr.vinAbsent = s.pwr.vinAbsent := by
  unfold State.hwReset
  obtain ⟨-, -, -, hvin⟩ := resetState_parts s.fuseCut.keepCut cause
  rw [keepCut_pwr, fuseCut_pwr] at hvin
  dsimp only
  split
  · obtain ⟨-, -, -, hpwr⟩ := fatalCount_parts (s.fuseCut.keepCut.resetState cause)
    exact (congrArg PowerState.vinAbsent hpwr).trans hvin
  · exact hvin

/-- With no fuse operation in progress a hardware reset keeps the fuses; it notes its cause. -/
theorem hwReset_parts {s : State} (h : s.sec.fuseOp = none) (cause : Nat) :
    (s.hwReset cause).fuses = s.fuses ∧ (s.hwReset cause).up = s.up ∧ bitAt (s.hwReset cause).rst.causes cause = true := by
  unfold State.hwReset
  rw [fuseCut_of_idle h]
  obtain ⟨hfuses, hup, hcauses, -⟩ := resetState_parts s.keepCut cause
  rw [keepCut_fuses] at hfuses
  rw [keepCut_up] at hup
  have hbit : bitAt (s.keepCut.resetState cause).rst.causes cause = true := hcauses ▸ bitAt_setBit _ _
  dsimp only
  split
  · obtain ⟨hf, hu, hr, -⟩ := fatalCount_parts (s.keepCut.resetState cause)
    exact ⟨hf.trans hfuses, hu.trans hup, hr ▸ hbit⟩
  · exact ⟨hfuses, hup, hbit⟩

/-! ## RESET_N, the service watchdog and a brown-out (R380, R381, R403) -/

theorem running_modes {s : State} (h : s.running = true) : s.mode = .run ∨ s.mode = .park ∨ s.mode = .replay := of_decide_eq_true h

/-- RESET_N takes effect in a running part. -/
theorem resetTaken_running {s : State} (h : s.running = true) : s.resetTaken = (s.hwReset 3).bootAt 1 := by
  unfold State.resetTaken
  obtain hm | hm | hm := running_modes h <;> simp [hm]

theorem resetN_long {s : State} {ns : Nat} (h : s.running = true) (hns : 1000 ≤ ns) :
    s.resetN ns = ((s.waitUntil (s.up + ns)).hwReset 3).bootAt 1 := by
  unfold State.resetN
  rw [if_neg (by omega), if_neg (by omega)]
  exact resetTaken_running (s := s.waitUntil (s.up + ns)) h

theorem watchdog_running {s : State} (h : s.running = true) : s.watchdog = s.fatalReset 2 := by
  unfold State.watchdog State.serviceRuns
  rw [h]
  rfl

theorem brownOut_running {s : State} (h : s.running = true) :
    s.brownOut = { { s with pwr := { s.pwr with vinAbsent := true, dipping := false } }.hwReset 2 with mode := .held } := by
  unfold State.brownOut
  obtain hm | hm | hm := running_modes h <;> simp [hm]

theorem waitUntil_up (s : State) (ns : Nat) : (s.waitUntil (s.up + ns)).up = s.up + ns := by
  simp only [State.waitUntil]
  omega

theorem resetN_short {s : State} {ns : Nat} (hns : ns < 100) : s.resetN ns = s.waitUntil (s.up + ns) := by
  unfold State.resetN
  rw [if_pos hns]

/-- Settles O32: each reset is `hwReset` of the state at its instant; RESET_N below 100 ns only waits. -/
theorem resets : Obligations.Resets := by
  intro s ns hrun hidle cleared
  have hcleared : ∀ {u : State}, ResetOf s u → u.fuses = s.fuses → cleared u := fun {u} h hfuses =>
    ⟨hfuses, h.copyA, h.copyB, h.pointerB, h.nv0, h.nv1, h.bank0, h.bank1, h.hatches, h.points, h.pump, h.host, h.loops, h.alloc, h.n,
      h.pending, h.lock 0, fun e => by unfold State.flag; rw [h.forces e]; rfl⟩
  refine ⟨fun hns => ⟨_, rfl, ?_⟩, ⟨_, rfl, ?_⟩, ⟨_, rfl, ?_⟩, fun hns => ⟨_, rfl, ?_⟩⟩
  · rw [resetN_long hrun hns]
    obtain ⟨hfuses, hup, hcause⟩ := hwReset_parts (s := s.waitUntil (s.up + ns)) hidle 3
    have hbare : bare (s.waitUntil (s.up + ns)) = bare s := rfl
    have hreset := resetOf_of_bare hbare (resetOf_hwReset (s.waitUntil (s.up + ns)) 3)
    exact ⟨hcleared (resetOf_bootAt hreset 1) hfuses, rfl, get_bootAt _ (by decide), hcause, hup.trans (waitUntil_up s ns)⟩
  · rw [watchdog_running hrun]
    unfold State.fatalReset
    dsimp only
    generalize hw : State.waitUntil { s with rst := { s.rst with fatalReason := 2 } } (s.up + 100000) = w
    have hbare : bare w = bare s := by rw [← hw]; rfl
    have hsec : w.sec.fuseOp = none := by rw [← hw]; exact hidle
    have hsame : w.fuses = s.fuses := by rw [← hw]; rfl
    obtain ⟨hfuses, -, hcause⟩ := hwReset_parts hsec 4
    have hreset := resetOf_of_bare hbare (resetOf_hwReset w 4)
    have hred : ∀ r, ResetOf s { w.hwReset 4 with red := r } := fun r => { hreset with }
    exact ⟨hcleared (resetOf_bootAt (hred _) 1) (hfuses.trans hsame), rfl, get_bootAt _ (by decide), hcause⟩
  · rw [brownOut_running hrun]
    generalize hw : ({ s with pwr := { s.pwr with vinAbsent := true, dipping := false } } : State) = w
    have hbare : bare w = bare s := by rw [← hw]; rfl
    have hsec : w.sec.fuseOp = none := by rw [← hw]; exact hidle
    have hsame : w.fuses = s.fuses := by rw [← hw]
    have hvin : w.pwr.vinAbsent = true := by rw [← hw]
    obtain ⟨hfuses, -, hcause⟩ := hwReset_parts hsec 2
    have hreset := resetOf_of_bare hbare (resetOf_hwReset w 2)
    exact ⟨hcleared { hreset with } (hfuses.trans hsame), rfl, hcause, (hwReset_vinAbsent w 2).trans hvin⟩
  · rw [resetN_short hns]
    exact ⟨waitUntil_up s ns, rfl⟩

/-! ## Power-on, backup and the wakes (R378, R403, R409, R410, R414) -/

/-- A boot at stage RAILS of a part that VIN supplies. -/
def AtRails (s u : State) : Prop :=
  u.mode = .boot ∧ u.get Reg.RST_BOOT_STAGE = 0 ∧ u.pwr.vinAbsent = false ∧ u.variant = s.variant ∧ u.pending = s.pending
    ∧ u.images.pointerB = s.images.pointerB

theorem atRails_bootAt {s u : State} (h : ResetOf s u) (hvin : u.pwr.vinAbsent = false) : AtRails s (u.bootAt 0) :=
  ⟨rfl, get_bootAt u (by decide), hvin, h.variant, h.pending, h.pointerB⟩

theorem keeperStart_rest (s : State) : { s.keeperStart with keep := s.keep } = s := by
  unfold State.keeperStart
  dsimp only
  split <;> rfl

/-- A power-on resets the part and starts the boot at RAILS, whatever the keeper does. -/
theorem powerUp_boots (s : State) (cause : Nat) : AtRails s (s.powerUp cause) ∧ (s.powerUp cause).points = [] := by
  unfold State.powerUp
  dsimp only
  generalize hk : State.keeperStart _ = k
  have hrest := keeperStart_rest { s with pwr := { s.pwr with vinAbsent := false }, keep := { s.keep with onVin := true } }
  rw [hk] at hrest
  have hbare : bare { k with keep := { k.keep with lost := false } } = bare s := (congrArg bare hrest :)
  have hvin : k.pwr.vinAbsent = false := (congrArg (fun t : State => t.pwr.vinAbsent) hrest :)
  split
  · have hreset := resetOf_of_bare hbare (resetOf_hwReset _ (if s.keep.lost = true then 0 else cause))
    exact ⟨atRails_bootAt hreset ((hwReset_vinAbsent ..).trans hvin), hreset.points⟩
  · have hreset := resetOf_of_bare hbare (resetOf_resetState _ (if s.keep.lost = true then 0 else cause))
    obtain ⟨-, -, -, hkept⟩ := resetState_parts { k with keep := { k.keep with lost := false } } (if s.keep.lost = true then 0 else cause)
    exact ⟨atRails_bootAt hreset (hkept.trans hvin), hreset.points⟩

theorem wake_boots {s : State} (hsleep : s.mode = .sleep) (hvin : s.pwr.vinAbsent = false) :
    AtRails s s.wake ∧ s.wake.points = [] := by
  unfold State.wake
  rw [if_pos ⟨hsleep, hvin⟩]
  exact powerUp_boots { s with rst := { s.rst with wakeSleep := true } } 1

theorem keepComplete_wakeN (s : State) : s.keepComplete.keep.wakeN = s.keep.wakeN := by
  unfold State.keepComplete
  dsimp only
  (repeat' split) <;> rfl

theorem keepCut_wakeN (s : State) : s.keepCut.keep.wakeN = s.keep.wakeN := by
  unfold State.keepCut
  dsimp only
  split
  · split
    · exact keepComplete_wakeN _
    · rfl
  · rfl

theorem fuseCut_keep (s : State) : s.fuseCut.keep = s.keep := by
  unfold State.fuseCut
  dsimp only
  (repeat' split) <;> rfl

theorem resetState_keep (s : State) (cause : Nat) : (s.resetState cause).keep = s.keep := by
  unfold State.resetState State.slotFields
  dsimp only
  split <;> rfl

theorem fatalCount_keep (u : State) : u.fatalCount.keep = u.keep := by
  unfold State.fatalCount
  dsimp only
  (repeat' split) <;> rfl

theorem hwReset_wakeN (s : State) (cause : Nat) : (s.hwReset cause).keep.wakeN = s.keep.wakeN := by
  unfold State.hwReset
  have hcut : (s.fuseCut.keepCut.resetState cause).keep.wakeN = s.keep.wakeN := by
    rw [resetState_keep, keepCut_wakeN, fuseCut_keep]
  dsimp only
  split
  · rw [fatalCount_keep]
    exact hcut
  · exact hcut

theorem keeperStart_wakeN (s : State) : s.keeperStart.keep.wakeN = s.keep.wakeN := by
  unfold State.keeperStart
  dsimp only
  split <;> rfl

/-- The noted edge of WAKE_N stays through a wake. -/
theorem wake_wakeN (s : State) : s.wake.keep.wakeN = s.keep.wakeN := by
  unfold State.wake State.powerUp
  dsimp only
  split
  · split
    · exact (hwReset_wakeN ..).trans (keeperStart_wakeN _)
    · exact (congrArg KeepState.wakeN (resetState_keep ..)).trans (keeperStart_wakeN _)
  · rfl

/-- In SLEEP the detection of an open case touches the keeper, and the events noted for the next boot, alone. -/
theorem caseOpen_sleeping {s : State} (hsleep : s.mode = .sleep) : ∃ k r, s.caseOpen = { s with keep := k, rst := r }
    ∧ k.running = s.keep.running ∧ k.caseWakeEn = s.keep.caseWakeEn := by
  have hoff : ¬ s.running = true := by unfold State.running; rw [hsleep]; decide
  unfold State.caseOpen
  split
  · exact ⟨s.keep, s.rst, rfl, rfl, rfl⟩
  · split
    · exact ⟨{ s.keep with caseLevel := true }, s.rst, rfl, rfl, rfl⟩
    · dsimp only
      split
      · next hon => exact absurd hon hoff
      · exact ⟨_, _, rfl, rfl, rfl⟩

/-- In SLEEP an open case wakes the part where the keeper enables it. -/
theorem caseDetect_boots {s : State} (hsleep : s.mode = .sleep) (hvin : s.pwr.vinAbsent = false) (hon : s.keep.running = true)
    (hen : s.keep.caseWakeEn = true) : AtRails s s.caseDetect ∧ s.caseDetect.points = [] := by
  obtain ⟨k, r, hopen, hrunning, hwake⟩ := caseOpen_sleeping hsleep
  unfold State.caseDetect
  rw [hopen]
  dsimp only
  rw [hrunning, hwake, hon, hen]
  exact wake_boots (s := { s with keep := k, rst := r }) hsleep hvin

theorem powerOn_held {s : State} (h : s.mode = .held) (hlive : s.keep.lost = false) :
    s.powerOn = ({ s with pwr := { s.pwr with vinAbsent := false }, rst := { s.rst with bootStart := s.up } }).bootAt 0 := by
  unfold State.powerOn State.brownOutEnd
  rw [h, hlive]
  rfl

theorem powerOn_boots {s : State} (h : s.mode = .backup ∨ s.mode = .sleep ∧ s.pwr.vinAbsent = true) :
    AtRails s s.powerOn ∧ s.powerOn.points = [] := by
  unfold State.powerOn
  split
  · next hheld => simp [hheld] at h
  · exact powerUp_boots { s with rst := { s.rst with wakeBackup := true } } 1
  · next hsleep =>
    have hvin : s.pwr.vinAbsent = true := by simpa [hsleep] using h
    rw [if_pos hvin]
    exact powerUp_boots { s with rst := { s.rst with wakeSleep := true } } 1
  · next hback hsleep => exact (h.elim hback fun hm => hsleep hm.1).elim

theorem wakeN_wakes {s : State} (hon : s.keep.running = true) (hen : s.keep.wakeNEn = true) :
    s.wakeN = State.wake { s with keep := { s.keep with wakeN := false } } := by
  unfold State.wakeN
  dsimp only
  rw [hon, hen]
  rfl

/-- An edge of WAKE_N that is not enabled, or finds the part awake, is noted alone. -/
theorem wakeN_notes {s : State} (hon : s.keep.running = true) (h : s.keep.wakeNEn = false ∨ s.mode ≠ .sleep) :
    s.wakeN = { s with keep := { s.keep with wakeN := false } } := by
  unfold State.wakeN State.wake
  dsimp only
  rw [if_pos hon]
  obtain hen | hawake := h
  · rw [hen]
    rfl
  · rw [if_neg (c := s.mode = .sleep ∧ s.pwr.vinAbsent = false) (fun hm => hawake hm.1), ite_self]

theorem backupEnter_running {s : State} (h : s.running = true) :
    s.backupEnter.mode = .backup ∧ s.backupEnter.keep.onVin = false ∧ s.backupEnter.points = [] ∧ s.backupEnter.pending = s.pending := by
  unfold State.backupEnter
  rw [brownOut_running h]
  have hreset := resetOf_hwReset { s with pwr := { s.pwr with vinAbsent := true, dipping := false } } 2
  exact ⟨rfl, rfl, hreset.points, hreset.pending⟩

/-- Settles O33: a wake, and a power-on but out of a brown-out, is `powerUp`, which boots at RAILS after a reset. -/
theorem wakes : Obligations.Wakes := by
  intro s boots
  refine ⟨fun hrun => ⟨_, rfl, backupEnter_running hrun⟩, fun hheld hlive => ⟨_, rfl, ?_⟩, fun h => ⟨_, rfl, powerOn_boots h⟩,
    fun hsleep hvin hon hen => ⟨_, rfl, ?_⟩, fun hsleep hvin hon hen => ⟨_, rfl, caseDetect_boots hsleep hvin hon hen⟩, fun hon h => ⟨_, rfl, ?_⟩⟩
  · rw [powerOn_held hheld hlive]
    exact ⟨⟨rfl, get_bootAt _ (by decide), rfl, rfl, rfl, rfl⟩, rfl, rfl⟩
  · rw [wakeN_wakes hon hen]
    have hboots := wake_boots (s := { s with keep := { s.keep with wakeN := false } }) hsleep hvin
    exact ⟨hboots.1, hboots.2, wake_wakeN _⟩
  · rw [wakeN_notes hon h]

end Sys2Proof.Proofs
end

section
/-! A frame for rows that work in one block and record events, and the supply events; the statement on them (O29). -/

namespace Sys2Proof.Proofs
open Sys2Proof Sys2Proof.Machine Sys2Proof.Laws

/-! ## Changes within one block -/

/-- From s to u nothing changed but what `erase` takes away, the fields of these keys, and what recording an event or a change of HEALTH
may change. -/
def OnlyIn (erase : State → State) (keys : List Nat) (s u : State) : Prop :=
  FieldsBut keys s u ∧ erase u.quietRest = erase s.quietRest

section
variable {erase : State → State} {ks : List Nat}

theorem onlyIn_trans {a b c : State} (h : OnlyIn erase ks a b) (g : OnlyIn erase ks b c) : OnlyIn erase ks a c :=
  ⟨fieldsBut_trans h.1 g.1, g.2.trans h.2⟩

theorem onlyIn_mono {ls : List Nat} {s u : State} (h : OnlyIn erase ks s u) (hsub : ks ⊆ ls) : OnlyIn erase ls s u :=
  ⟨fieldsBut_mono h.1 hsub, h.2⟩

theorem onlyIn_quiet {s u : State} (h : Quiet s u) : OnlyIn erase ks s u := ⟨fieldsBut_quiet h, congrArg erase h.1⟩

theorem onlyIn_refl (s : State) : OnlyIn erase ks s s := onlyIn_quiet (quiet_refl s)

theorem onlyIn_of_regs {s u : State} (hregs : u.regs = s.regs) (h : erase u.quietRest = erase s.quietRest) : OnlyIn erase ks s u :=
  ⟨fieldsBut_regs hregs, h⟩

theorem onlyIn_set (s : State) (f : Fld) (v i : Nat) (h : f.key i ∈ ks) : OnlyIn erase ks s (s.set f v i) :=
  ⟨fieldsBut_set s f v i h, rfl⟩

theorem onlyIn_setFlag (s : State) (f : Fld) (b : Bool) (i : Nat) (h : f.key i ∈ ks) : OnlyIn erase ks s (s.setFlag f b i) :=
  onlyIn_set s f _ i h

theorem onlyIn_set_after {s v : State} (h : OnlyIn erase ks s v) (f : Fld) (w i : Nat) (hk : f.key i ∈ ks) :
    OnlyIn erase ks s (v.set f w i) := onlyIn_trans h (onlyIn_set v f w i hk)

theorem onlyIn_setFlag_after {s v : State} (h : OnlyIn erase ks s v) (f : Fld) (b : Bool) (i : Nat) (hk : f.key i ∈ ks) :
    OnlyIn erase ks s (v.setFlag f b i) := onlyIn_set_after h f _ i hk

theorem onlyIn_get {s u : State} (h : OnlyIn erase ks s u) {f : Fld} {i : Nat} (hk : f.key i ∉ ks) (hq : f.key i ∉ quietKeys) :
    u.get f i = s.get f i := h.1 f i hk hq

theorem onlyIn_flag {s u : State} (h : OnlyIn erase ks s u) {f : Fld} {i : Nat} (hk : f.key i ∉ ks) (hq : f.key i ∉ quietKeys) :
    u.flag f i = s.flag f i := by
  unfold State.flag
  rw [onlyIn_get h hk hq]

end

/-! ## Pending events -/

theorem quiet_foldl {α : Type} (f : State → α → State) (h : ∀ s x, Quiet s (f s x)) (l : List α) (s : State) : Quiet s (l.foldl f s) := by
  induction l generalizing s with
  | nil => exact quiet_refl s
  | cons x l ih => exact quiet_trans (h s x) (ih _)

theorem mergePending_quiet (s : State) : Quiet s s.mergePending := by
  unfold State.mergePending
  split
  · exact quiet_refl s
  · exact quiet_trans (setRcd_quiet s _) (quiet_trans (quiet_foldl _ (fun _ _ => mergeEvent_quiet ..) _ _)
      (quiet_trans (quiet_foldl _ (fun _ _ => mergeSuppressed_quiet ..) _ _) (setRcd_quiet _ _)))

/-! ## VIN and DIP (R396 to R402) -/

theorem vinSample_pwrOnly {s : State} {mv : Nat} (hback : s.mode ≠ .backup) (hheld : s.mode ≠ .held) :
    PwrOnly [] ((s.set Reg.PWR_VIN_STAT_VIN_MV (min mv 65535)).set Reg.PWR_VIN_STAT_VIN_MIN_MV
      (min (min mv 65535) (s.get Reg.PWR_VIN_STAT_VIN_MIN_MV))) (s.vinSample mv) := by
  unfold State.vinSample
  rw [if_neg (not_or.2 ⟨hback, hheld⟩)]
  refine pwrOnly_trans ?_ (pwrOnly_quiet (sample_quiet _ _ _))
  dsimp only [State.vinCompare]
  split
  · exact pwrOnly_pwr _ _ _ _
  · exact pwrOnly_pwr _ _ _ _

/-- DIP enters: its bit is set, and the retentive mirror is forced (R397, R398). -/
theorem dipState_spec (s : State) : s.dipState.flag Reg.PWR_STAT_DIP = true
    ∧ OnlyIn (fun t => { t with mirror := {} }) [Reg.PWR_STAT_DIP.key 0] s s.dipState := by
  unfold State.dipState
  have hraised := raise_quiet (s.setFlag Reg.PWR_STAT_DIP true) 0x0101
  have hflag : ((s.setFlag Reg.PWR_STAT_DIP true).raise 0x0101).flag Reg.PWR_STAT_DIP = true :=
    (Quiet.flag hraised _ _ (by decide)).trans (flag_setFlag_same _ _ _ _ (by decide))
  have honly : OnlyIn (fun t => { t with mirror := {} }) [Reg.PWR_STAT_DIP.key 0] s ((s.setFlag Reg.PWR_STAT_DIP true).raise 0x0101) :=
    onlyIn_trans (onlyIn_setFlag s _ _ _ (List.mem_singleton_self _)) (onlyIn_quiet hraised)
  dsimp only
  split
  · exact ⟨hflag, honly⟩
  · split
    · exact ⟨hflag, onlyIn_trans honly (onlyIn_of_regs rfl rfl)⟩
    · exact ⟨hflag, onlyIn_trans honly (onlyIn_of_regs rfl rfl)⟩

/-- Waiting for a condition to have held long enough changes the time alone. -/
theorem heldFor_rest (s : State) (since : Option Nat) (ns : Nat) :
    { s.heldFor since ns with now := s.now, up := s.up, slew := s.slew, keep := s.keep } = s := by
  unfold State.heldFor
  cases since <;> rfl

theorem heldFor_core (s : State) (since : Option Nat) (ns : Nat) : (s.heldFor since ns).core = s.core :=
  (congrArg State.core (heldFor_rest s since ns) :)
theorem heldFor_points (s : State) (since : Option Nat) (ns : Nat) : (s.heldFor since ns).points = s.points :=
  (congrArg State.points (heldFor_rest s since ns) :)
theorem heldFor_pump (s : State) (since : Option Nat) (ns : Nat) : (s.heldFor since ns).pump = s.pump :=
  (congrArg State.pump (heldFor_rest s since ns) :)
theorem heldFor_regs (s : State) (since : Option Nat) (ns : Nat) : (s.heldFor since ns).regs = s.regs :=
  (congrArg State.regs (heldFor_rest s since ns) :)

theorem heldFor_dips (s : State) (since : Option Nat) (ns : Nat) : (s.heldFor since ns).keep.dips = s.keep.dips := by
  unfold State.heldFor State.waitUntil
  cases since with
  | none => rfl
  | some b => exact (apply_ite KeepState.dips _ _ _).trans (ite_self _)

theorem heldFor_up (s : State) (since : Option Nat) (ns : Nat) :
    s.up ≤ (s.heldFor since ns).up ∧ ∀ b, since = some b → b + ns ≤ (s.heldFor since ns).up := by
  unfold State.heldFor
  cases since with
  | none => exact ⟨le_rfl, fun _ h => nomatch h⟩
  | some b => exact ⟨Nat.le_add_right .., fun _ h => Option.some.inj h ▸ waitUntil_reaches s _⟩

/-- A dip begins and is counted, where `w` is the state at its instant. -/
def dipBegun (w : State) : State :=
  { w with pwr := { w.pwr with dipping := true, dipStart := w.up, dipLow := w.get Reg.PWR_VIN_STAT_VIN_MV },
           keep := { w.keep with dips := satInc 32 w.keep.dips } }

/-- DIP applies in a state that watches VIN. -/
theorem dipApplies_modes {s : State} (h : s.dipApplies = true) : s.mode ≠ .held ∧ s.mode ≠ .backup := by
  unfold State.dipApplies State.running at h
  constructor <;> intro hm <;> simp [hm] at h

theorem dipApplies_of_same {s t : State} (hmode : t.mode = s.mode) (hregs : t.regs = s.regs) : t.dipApplies = s.dipApplies := by
  unfold State.dipApplies State.running
  rw [hmode, get_of_regs hregs]

theorem dipEnter_eq {s : State} (hno : s.pwr.dipping = false) (h : s.dipApplies = true) :
    s.dipEnter = (dipBegun (s.heldFor s.pwr.belowSince 5000)).dipState := by
  obtain ⟨hheld, hback⟩ := dipApplies_modes h
  have happlies : (dipBegun (s.heldFor s.pwr.belowSince 5000)).dipApplies = true :=
    (dipApplies_of_same (mode_of_core (heldFor_core ..)) (heldFor_regs ..)).trans h
  unfold State.dipEnter
  rw [if_neg (by simp [hno, hheld, hback])]
  exact if_pos happlies

theorem dipEnter_spec {s : State} (hno : s.pwr.dipping = false) (h : s.dipApplies = true) :
    s.dipEnter.pwr.dipping = true ∧ s.dipEnter.pwr.dipStart = s.dipEnter.up ∧ s.up ≤ s.dipEnter.up
      ∧ (∀ b, s.pwr.belowSince = some b → b + 5000 ≤ s.dipEnter.up) ∧ s.dipEnter.keep.dips = satInc 32 s.keep.dips
      ∧ s.dipEnter.flag Reg.PWR_STAT_DIP = true ∧ s.dipEnter.core = s.core ∧ s.dipEnter.points = s.points ∧ s.dipEnter.pump = s.pump := by
  rw [dipEnter_eq hno h]
  obtain ⟨hup, hheld⟩ := heldFor_up s s.pwr.belowSince 5000
  have hdips := heldFor_dips s s.pwr.belowSince 5000
  have hcore := heldFor_core s s.pwr.belowSince 5000
  have hpoints := heldFor_points s s.pwr.belowSince 5000
  have hpump := heldFor_pump s s.pwr.belowSince 5000
  generalize s.heldFor s.pwr.belowSince 5000 = w at *
  obtain ⟨hflag, -, hrest⟩ := dipState_spec (dipBegun w)
  generalize (dipBegun w).dipState = u at *
  have hpwr : u.pwr = (dipBegun w).pwr := (congrArg State.pwr hrest :)
  have hkeep : u.keep = (dipBegun w).keep := (congrArg State.keep hrest :)
  have hinstant : u.up = w.up := (congrArg State.up hrest :)
  rw [hpwr, hkeep, hinstant]
  exact ⟨rfl, rfl, hup, hheld, congrArg (satInc 32) hdips, hflag, (congrArg State.core hrest :).trans hcore,
    (congrArg State.points hrest :).trans hpoints, (congrArg State.pump hrest :).trans hpump⟩

/-- What DIP_EXIT shows, where `w` is the state at its instant: the bits are cleared, depth and duration given. -/
def dipShown (w : State) : State :=
  ((({ w with pwr := { w.pwr with dipping := false } }.setFlag Reg.PWR_STAT_DIP false).setFlag Reg.PWR_STAT_UV_SUSTAINED false).set
    Reg.PWR_DIP_LAST_DEPTH (min w.dipDepth 4095)).set Reg.PWR_DIP_LAST_DURATION (min w.dipDuration 1048575)

theorem dipShown_quietRest (w : State) :
    (dipShown w).quietRest = { w.quietRest with pwr := { w.pwr with dipping := false } } := rfl

/-- What follows a dip: the events are recorded, and a calibration save that was deferred begins (R400, R401). -/
def dipFollowed (w : State) : State :=
  (((dipShown w).mergePending.raiseWith 0x0102 w.dipDuration).raiseWith 0x0103 w.dipDepth).calSaveResume.healthCheck

theorem calSaveResume_onlyIn (s : State) : OnlyIn (fun t => { t with obs := {} }) [Reg.OBS_STAT_CAL_BUSY.key 0] s s.calSaveResume := by
  unfold State.calSaveResume State.calSaveStart
  split
  · dsimp only
    split
    · exact onlyIn_of_regs rfl rfl
    · refine onlyIn_trans ?_ (onlyIn_setFlag _ _ _ _ (List.mem_singleton_self _))
      exact onlyIn_of_regs rfl rfl
  · exact onlyIn_refl s

theorem dipFollowed_onlyIn (w : State) :
    OnlyIn (fun t => { t with obs := {} }) [Reg.OBS_STAT_CAL_BUSY.key 0] (dipShown w) (dipFollowed w) :=
  onlyIn_trans (onlyIn_quiet (quiet_trans (mergePending_quiet _) (quiet_trans (raiseWith_quiet ..) (raiseWith_quiet ..))))
    (onlyIn_trans (calSaveResume_onlyIn _) (onlyIn_quiet (healthCheck_quiet _)))

/-- The instant at which a dip ends. -/
def dipOver (s : State) : State := if s.pwr.dipping then s.heldFor s.pwr.aboveSince 1000000 else s

theorem dipOver_rest (s : State) : { dipOver s with now := s.now, up := s.up, slew := s.slew, keep := s.keep } = s := by
  unfold dipOver
  split
  · exact heldFor_rest ..
  · rfl

theorem dipOver_up (s : State) (b : Nat) (hdip : s.pwr.dipping = true) (hb : s.pwr.aboveSince = some b) : b + 1000000 ≤ (dipOver s).up := by
  unfold dipOver
  rw [if_pos hdip]
  exact (heldFor_up ..).2 b hb

theorem dipExit_eq {s : State} (h : s.flag Reg.PWR_STAT_DIP = true) : s.dipExit = dipFollowed (dipOver s) := by
  have hflag : (dipOver s).flag Reg.PWR_STAT_DIP = true :=
    (flag_of_regs (congrArg State.regs (dipOver_rest s) :) ..).trans h
  unfold State.dipExit
  exact if_neg (by rw [show State.flag (if s.pwr.dipping = true then _ else _) _ = true from hflag]; decide)

theorem dipExit_spec {s : State} (h : s.flag Reg.PWR_STAT_DIP = true) :
    s.dipExit.pwr.dipping = false ∧ s.dipExit.flag Reg.PWR_STAT_DIP = false ∧ s.dipExit.flag Reg.PWR_STAT_UV_SUSTAINED = false
      ∧ s.dipExit.get Reg.PWR_DIP_LAST_DEPTH = min (s.get Reg.PWR_VIN_CFG_VIN_WARN - s.pwr.dipLow / 10) 4095
      ∧ s.dipExit.get Reg.PWR_DIP_LAST_DURATION = min ((s.dipExit.up - s.pwr.dipStart) / 10000) 1048575
      ∧ (∀ b, s.pwr.dipping = true → s.pwr.aboveSince = some b → b + 1000000 ≤ s.dipExit.up)
      ∧ s.dipExit.core = s.core ∧ s.dipExit.points = s.points ∧ s.dipExit.pump = s.pump := by
  rw [dipExit_eq h]
  have hover := dipOver_rest s
  have hup := dipOver_up s
  generalize dipOver s = w at *
  have hpwr : w.pwr = s.pwr := (congrArg State.pwr hover :)
  have hwarn : w.get Reg.PWR_VIN_CFG_VIN_WARN = s.get Reg.PWR_VIN_CFG_VIN_WARN := get_of_regs (congrArg State.regs hover :) ..
  have honly := dipFollowed_onlyIn w
  generalize dipFollowed w = u at *
  have hrest := honly.2
  rw [dipShown_quietRest] at hrest
  have hinstant : u.up = w.up := (congrArg State.up hrest :)
  have hdipping : u.pwr.dipping = false := (congrArg (fun t : State => t.pwr.dipping) hrest :)
  have hcore : u.core = w.core := (congrArg State.core hrest :)
  have hpoints : u.points = w.points := (congrArg State.points hrest :)
  have hpump : u.pump = w.pump := (congrArg State.pump hrest :)
  rw [hinstant, hcore, hpoints, hpump]
  refine ⟨hdipping, ?_, ?_, ?_, ?_, hup, (congrArg State.core hover :), (congrArg State.points hover :), (congrArg State.pump hover :)⟩
  · rw [onlyIn_flag honly (by decide) (by decide), dipShown, flag_set_other _ _ _ _ _ _ (by decide), flag_set_other _ _ _ _ _ _ (by decide),
      flag_setFlag_other _ _ _ _ _ _ (by decide), flag_setFlag_same _ _ _ _ (by decide)]
  · rw [onlyIn_flag honly (by decide) (by decide), dipShown, flag_set_other _ _ _ _ _ _ (by decide), flag_set_other _ _ _ _ _ _ (by decide),
      flag_setFlag_same _ _ _ _ (by decide)]
  · rw [onlyIn_get honly (by decide) (by decide), dipShown, get_set_other _ _ _ _ _ _ (by decide), get_set_same, State.dipDepth, hwarn, hpwr]
    exact Nat.mod_eq_of_lt (show min _ 4095 < 4096 by omega)
  · rw [onlyIn_get honly (by decide) (by decide), dipShown, get_set_same, State.dipDuration, hpwr]
    exact Nat.mod_eq_of_lt (show min _ 1048575 < 1048576 by omega)

/-! ## UV_SUSTAINED and the bank supplies (R402, R405) -/

/-- The instant of UV_SUSTAINED: DIP_MAX after the dip began. -/
def uvDue (s : State) : State := s.waitUntil (s.pwr.dipStart + s.get Reg.PWR_VIN_CFG_DIP_MAX * 10000000)

theorem uvSustained_eq {s : State} (hdip : s.flag Reg.PWR_STAT_DIP = true) (hnot : s.flag Reg.PWR_STAT_UV_SUSTAINED = false) :
    s.uvSustained = (((uvDue s).setFlag Reg.PWR_STAT_UV_SUSTAINED true).raise 0x0104).healthCheck := by
  unfold State.uvSustained
  rw [hdip, hnot]
  rfl

/-- Bank A floats: its bit is set, trip inputs and feedback read low, and no GPIO output is driven. -/
def bankAFloats (s : State) : State :=
  let t := (s.setFlag Reg.PWR_STAT_VIO_A_LOW true).raise 0x0105
  ({ t with safe := { t.safe with tripIn := 0, fb := 0 } }).gpioFloat

theorem vioALow_eq {s : State} (hon : s.powered = true) (h : s.flag Reg.PWR_STAT_VIO_A_LOW = false) :
    s.vioALow = (bankAFloats s).tripAll.safeRefresh := by
  unfold State.vioALow
  rw [hon, h]
  rfl

theorem bankAFloats_flag (s : State) : (bankAFloats s).flag Reg.PWR_STAT_VIO_A_LOW = true :=
  (Quiet.flag (raise_quiet _ 0x0105) _ _ (by decide)).trans (flag_setFlag_same s _ true _ (by decide))

theorem bankAFloats_rest (s : State) : { (bankAFloats s).quietRest with safe := s.safe, time := s.time } = s.quietRest :=
  (congrArg (fun t : State => { t with safe := s.safe, time := s.time }) (raise_quiet (s.setFlag Reg.PWR_STAT_VIO_A_LOW true) 0x0105).1 :)

theorem vioBLow_eq {s : State} (hon : s.powered = true) (h : s.flag Reg.PWR_STAT_VIO_B_LOW = false) :
    s.vioBLow = (s.setFlag Reg.PWR_STAT_VIO_B_LOW true).raise 0x0105 := by
  unfold State.vioBLow
  rw [hon, h]
  rfl

/-- Latching a trip input leaves the input levels and the feedback as read. -/
theorem tripLatchIn_levels (s : State) (n : Nat) :
    (s.tripLatchIn n).safe.tripIn = s.safe.tripIn ∧ (s.tripLatchIn n).safe.fb = s.safe.fb := by
  unfold State.tripLatchIn
  split
  · dsimp only [State.safeRefresh]
    rw [raise_safe]
    exact ⟨rfl, rfl⟩
  · exact ⟨rfl, rfl⟩

theorem safeRefresh_tripIn (s : State) : s.safeRefresh.safe.tripIn = s.safe.tripIn := by dsimp only [State.safeRefresh]
theorem safeRefresh_regs (s : State) : s.safeRefresh.regs = s.regs := by dsimp only [State.safeRefresh]
theorem safeRefresh_points (s : State) : s.safeRefresh.points = s.points := by dsimp only [State.safeRefresh]
theorem safeRefresh_pump (s : State) : s.safeRefresh.pump = s.pump := by dsimp only [State.safeRefresh]
theorem safeRefresh_fb (s : State) : s.safeRefresh.safe.fb = s.safe.fb := by dsimp only [State.safeRefresh]

theorem tripAll_levels (s : State) : s.tripAll.safe.tripIn = s.safe.tripIn ∧ s.tripAll.safe.fb = s.safe.fb := by
  unfold State.tripAll
  generalize List.range 8 = l
  induction l generalizing s with
  | nil => exact ⟨rfl, rfl⟩
  | cons n l ih =>
    rw [List.foldl_cons]
    obtain ⟨htrip, hfb⟩ := ih (if bitAt s.safe.tripIn n && !bitAt s.safe.tripFault n then s else s.tripLatchIn n)
    rw [htrip, hfb]
    split
    · exact ⟨rfl, rfl⟩
    · exact tripLatchIn_levels s n

theorem vioALow_spec {s : State} (hon : s.powered = true) (h : s.flag Reg.PWR_STAT_VIO_A_LOW = false) :
    s.vioALow.flag Reg.PWR_STAT_VIO_A_LOW = true ∧ s.vioALow.safe.tripIn = 0 ∧ s.vioALow.safe.fb = 0 ∧ s.vioALow.time.gpioDriven = false
      ∧ s.vioALow.core = s.core ∧ s.vioALow.points = s.points ∧ s.vioALow.pump = s.pump := by
  rw [vioALow_eq hon h]
  have hlow := bankAFloats_flag s
  have hfloat := bankAFloats_rest s
  have hlevels : (bankAFloats s).safe.tripIn = 0 ∧ (bankAFloats s).safe.fb = 0 ∧ (bankAFloats s).time.gpioDriven = false := ⟨rfl, rfl, rfl⟩
  generalize bankAFloats s = v at *
  obtain ⟨hvTrip, hvFb, hvGpio⟩ := hlevels
  obtain ⟨htrip, hfb⟩ := tripAll_levels v
  obtain ⟨hfields, hsafe⟩ := safeOnly_trans (tripAll_safeOnly v) (safeRefresh_safeOnly _)
  rw [← safeRefresh_tripIn] at htrip
  rw [← safeRefresh_fb] at hfb
  generalize v.tripAll.safeRefresh = u at *
  have hcore : u.core = v.core := (congrArg State.core hsafe :)
  have hpoints : u.points = v.points := (congrArg State.points hsafe :)
  have hpump : u.pump = v.pump := (congrArg State.pump hsafe :)
  have hgpio : u.time.gpioDriven = v.time.gpioDriven := (congrArg (fun t : State => t.time.gpioDriven) hsafe :)
  refine ⟨?_, htrip.trans hvTrip, hfb.trans hvFb, hgpio.trans hvGpio, hcore.trans (congrArg State.core hfloat :),
    hpoints.trans (congrArg State.points hfloat :), hpump.trans (congrArg State.pump hfloat :)⟩
  unfold State.flag
  rw [hfields _ _ (by decide) (by decide)]
  exact hlow

theorem vinSample_spec {s : State} {mv : Nat} (hback : s.mode ≠ .backup) (hheld : s.mode ≠ .held) :
    (s.vinSample mv).get Reg.PWR_VIN_STAT_VIN_MV = min mv 65535
      ∧ (s.vinSample mv).get Reg.PWR_VIN_STAT_VIN_MIN_MV = min (min mv 65535) (s.get Reg.PWR_VIN_STAT_VIN_MIN_MV) % 65536
      ∧ FieldsBut [Reg.PWR_VIN_STAT_VIN_MV.key 0, Reg.PWR_VIN_STAT_VIN_MIN_MV.key 0] s (s.vinSample mv)
      ∧ { (s.vinSample mv).quietRest with pwr := s.pwr } = s.quietRest := by
  have honly := vinSample_pwrOnly (mv := mv) hback hheld
  refine ⟨?_, ?_, ?_, honly.2⟩
  · rw [honly.1 _ _ (by decide) (by decide), get_set_other _ _ _ _ _ _ (by decide), get_set_same]
    exact Nat.mod_eq_of_lt (show min mv 65535 < 65536 by omega)
  · rw [honly.1 _ _ (by decide) (by decide), get_set_same]
    rfl
  · exact fieldsBut_trans (fieldsBut_trans (fieldsBut_set s _ _ 0 (by simp)) (fieldsBut_set _ _ _ 0 (by simp)))
      (fieldsBut_mono honly.1 (List.nil_subset _))

theorem uvSustained_spec {s : State} (hdip : s.flag Reg.PWR_STAT_DIP = true) (hnot : s.flag Reg.PWR_STAT_UV_SUSTAINED = false) :
    s.uvSustained.flag Reg.PWR_STAT_UV_SUSTAINED = true
      ∧ s.pwr.dipStart + s.get Reg.PWR_VIN_CFG_DIP_MAX * 10000000 ≤ s.uvSustained.up
      ∧ FieldsBut [Reg.PWR_STAT_UV_SUSTAINED.key 0] s s.uvSustained
      ∧ { s.uvSustained.quietRest with now := s.now, up := s.up, slew := s.slew, keep := s.keep } = s.quietRest := by
  rw [uvSustained_eq hdip hnot]
  have hquiet := quiet_trans (raise_quiet ((uvDue s).setFlag Reg.PWR_STAT_UV_SUSTAINED true) 0x0104) (healthCheck_quiet _)
  refine ⟨?_, ?_, ?_, quietRest_of_waited_quiet (s.pwr.dipStart + s.get Reg.PWR_VIN_CFG_DIP_MAX * 10000000) (by rfl) hquiet⟩
  · rw [Quiet.flag hquiet _ _ (by decide), flag_setFlag_same _ _ _ _ (by decide)]
  · rw [Quiet.up hquiet, setFlag_up]
    exact waitUntil_reaches s _
  · exact fieldsBut_of_regs rfl (fieldsBut_trans (fieldsBut_setFlag (uvDue s) _ true 0 (List.mem_singleton_self _)) (fieldsBut_quiet hquiet))

/-- Settles O29, row by row: each one's fields and frame follow from the frames of its steps. -/
theorem supplyEvents : Obligations.SupplyEvents := by
  intro s mv
  refine ⟨fun hback hheld => ⟨_, rfl, vinSample_spec hback hheld⟩, fun hno happlies => ⟨_, rfl, dipEnter_spec hno happlies⟩,
    fun hdip => ⟨_, rfl, dipExit_spec hdip⟩, fun hdip hnot => ⟨_, rfl, uvSustained_spec hdip hnot⟩,
    fun hon hok => ⟨_, rfl, vioALow_spec hon hok⟩, fun hon hok => ⟨_, rfl, ?_⟩, ⟨_, rfl, ?_⟩, ⟨_, rfl, ?_⟩⟩
  · rw [vioBLow_eq hon hok]
    have hquiet := raise_quiet (s.setFlag Reg.PWR_STAT_VIO_B_LOW true) 0x0105
    exact ⟨(Quiet.flag hquiet _ _ (by decide)).trans (flag_setFlag_same _ _ _ _ (by decide)),
      fieldsBut_trans (fieldsBut_setFlag s _ true 0 (List.mem_singleton_self _)) (fieldsBut_quiet hquiet), hquiet.1⟩
  · exact ⟨flag_setFlag_same s _ false _ (by decide), fieldsBut_setFlag s _ false 0 (List.mem_singleton_self _), rfl⟩
  · show State.flag (s.setFlag Reg.PWR_STAT_VIO_A_LOW false).safeRefresh Reg.PWR_STAT_VIO_A_LOW = false ∧ _
    rw [flag_of_regs (safeRefresh_regs _)]
    exact ⟨flag_setFlag_same s Reg.PWR_STAT_VIO_A_LOW false 0 (by decide), (safeRefresh_core _).trans (setFlag_core s _ _ _),
      safeRefresh_points _, safeRefresh_pump _⟩

end Sys2Proof.Proofs
end

section
/-! Trip inputs, runaway monitors and the resets of the safety block; the statement on them (O58). -/

namespace Sys2Proof.Proofs
open Sys2Proof Sys2Proof.Machine Sys2Proof.Laws

/-! ## Masks of bits -/

theorem bitAt_or (a b i : Nat) : bitAt (a ||| b) i = (bitAt a i || bitAt b i) := by
  simp only [bitAt_eq_testBit, Nat.testBit_or]

/-- The mask that a list of bits makes has those bits. -/
theorem bitAt_ofBits (l : List Bool) (i : Nat) : bitAt (ofBits l) i = l.getD i false := by
  induction l generalizing i with
  | nil => simp [ofBits, bitAt]
  | cons b l ih =>
    rw [bitAt_eq_testBit, ofBits]
    cases i with
    | zero => cases b <;> simp [b2n, Nat.testBit_zero, Nat.add_mod]
    | succ i =>
      have hhalf : (b2n b + 2 * ofBits l) / 2 = ofBits l := by
        unfold b2n
        split <;> omega
      rw [Nat.testBit_succ, hhalf, ← bitAt_eq_testBit, ih, List.getD_cons_succ]

theorem bitAt_foldl_or {l : Store Nat} {e : Nat × Nat} {i : Nat} (he : e ∈ l) (hbit : bitAt e.2 i = true) (m : Nat) :
    bitAt (l.foldl (fun m e => m ||| e.2) m) i = true := by
  have hstays : ∀ (l : Store Nat) (m : Nat), bitAt m i = true → bitAt (l.foldl (fun m e => m ||| e.2) m) i = true := by
    intro l
    induction l with
    | nil => exact fun m h => h
    | cons x l ih => exact fun m h => ih _ (by rw [bitAt_or, h, Bool.true_or])
  induction l generalizing m with
  | nil => exact nomatch he
  | cons x l ih =>
    rcases List.mem_cons.1 he with rfl | htail
    · exact hstays l _ (by rw [bitAt_or, hbit, Bool.or_true])
    · exact ih htail _

theorem mem_of_storeFind {α : Type} {l : Store α} {k : Nat} {v : α} (h : storeFind l k = some v) : (k, v) ∈ l := by
  induction l with
  | nil => exact nomatch h
  | cons x l ih =>
    obtain ⟨a, w⟩ := x
    unfold storeFind at h
    split at h
    · next heq =>
      cases h
      exact heq ▸ List.mem_cons_self
    · exact List.mem_cons_of_mem _ (ih h)

/-! ## Latched groups are off (R365) -/

/-- The outputs of these groups are not driven. -/
def GroupsOff (s : State) (mask : Nat) (u : State) : Prop :=
  ∀ j, j < 32 → bitAt mask (s.get Reg.SAFE_OUT_CFG_GROUP j) = true → bitAt u.safe.high j = false

theorem safeRefresh_high (s : State) {j : Nat} (h : j < 32) : bitAt s.safeRefresh.safe.high j = s.wantHigh j := by
  dsimp only [State.safeRefresh]
  rw [bitAt_ofBits]
  simp [List.getD, h]

/-- After a refresh the outputs of every latched group are off. -/
theorem groupsOff_safeRefresh {s v : State} {k mask : Nat} (hget : ∀ j, v.get Reg.SAFE_OUT_CFG_GROUP j = s.get Reg.SAFE_OUT_CFG_GROUP j)
    (hmem : (k, mask) ∈ v.safe.tripLatch ++ v.safe.runLatch) : GroupsOff s mask v.safeRefresh := by
  intro j hj hbit
  have htripped : bitAt v.tripped (v.get Reg.SAFE_OUT_CFG_GROUP j) = true := bitAt_foldl_or hmem ((hget j).symm ▸ hbit) 0
  rw [safeRefresh_high v hj, State.wantHigh, htripped]
  simp

/-- A field whose register and bit no event writes is off the events' keys at every index. -/
theorem key_notMem_quietKeys {f : Fld} (h : ∀ k ∈ quietKeys, f.key 0 % 2 ^ 29 ≠ k % 2 ^ 29) (i : Nat) : f.key i ∉ quietKeys :=
  fun hmem => h _ hmem (key_mod f i).symm

/-- What a latch does: the safety block takes f, the event is recorded, and the outputs follow. -/
def latchStep (s : State) (f : SafeState) (event : Nat) : State := (({ s with safe := f }).raise event).safeRefresh

theorem latchStep_safeOnly (s : State) (f : SafeState) (event : Nat) : SafeOnly s (latchStep s f event) :=
  safeOnly_trans (safeOnly_safe s f) (safeOnly_trans (safeOnly_quiet (raise_quiet _ _)) (safeRefresh_safeOnly _))

theorem latchStep_latches (s : State) (f : SafeState) (event : Nat) :
    (latchStep s f event).safe.tripLatch = f.tripLatch ∧ (latchStep s f event).safe.runLatch = f.runLatch
      ∧ (latchStep s f event).safe.tripCnt = f.tripCnt ∧ (latchStep s f event).safe.tripIn = f.tripIn
      ∧ (latchStep s f event).safe.tripFault = f.tripFault := by
  dsimp only [latchStep, State.safeRefresh]
  rw [raise_safe]
  exact ⟨rfl, rfl, rfl, rfl, rfl⟩

theorem latchStep_groupsOff {s : State} {f : SafeState} {k mask : Nat} (event : Nat) (hmem : (k, mask) ∈ f.tripLatch ++ f.runLatch) :
    GroupsOff s mask (latchStep s f event) := by
  have hquiet := raise_quiet { s with safe := f } event
  refine groupsOff_safeRefresh (k := k) (fun j => hquiet.2 Reg.SAFE_OUT_CFG_GROUP j (key_notMem_quietKeys (by decide) j)) ?_
  rw [raise_safe]
  exact hmem

/-- What every row of this block keeps. -/
theorem kept_of_safeOnly {s u : State} (h : SafeOnly s u) :
    u.points = s.points ∧ u.pump = s.pump ∧ u.fuses = s.fuses ∧ u.mode = s.mode ∧ FieldsBut [] s u :=
  ⟨(congrArg State.points h.2 :), (congrArg State.pump h.2 :), (congrArg State.fuses h.2 :), (congrArg State.mode h.2 :), h.1⟩

/-! ## Trip inputs (R367 to R369) -/

theorem tripLatchIn_enabled {s : State} {m : Nat} (hen : s.flag (Reg.SAFE_TRIP_CFG_ENABLE.at m) = true)
    (hfree : storeFind s.safe.tripLatch m = none) :
    s.tripLatchIn m = latchStep s { s.safe with
      tripLatch := storePut s.safe.tripLatch m (s.get (Reg.SAFE_TRIP_CFG_GROUP_MASK.at m)), tripCnt := satInc 32 s.safe.tripCnt } 0x0E01 := by
  unfold State.tripLatchIn
  rw [hen, hfree]
  rfl

theorem tripLatchIn_disabled {s : State} {m : Nat} (hen : ¬ s.flag (Reg.SAFE_TRIP_CFG_ENABLE.at m) = true) : s.tripLatchIn m = s := by
  unfold State.tripLatchIn
  rw [Bool.eq_false_iff.2 hen]
  rfl

/-- An enabled input whose latch is clear latches its groups and counts; its level and its fault stay as noted. -/
theorem tripLatchIn_spec {s : State} {m : Nat} (hen : s.flag (Reg.SAFE_TRIP_CFG_ENABLE.at m) = true)
    (hfree : storeFind s.safe.tripLatch m = none) :
    storeFind (s.tripLatchIn m).safe.tripLatch m = some (s.get (Reg.SAFE_TRIP_CFG_GROUP_MASK.at m))
      ∧ (s.tripLatchIn m).safe.tripCnt = satInc 32 s.safe.tripCnt ∧ (s.tripLatchIn m).safe.tripIn = s.safe.tripIn
      ∧ (s.tripLatchIn m).safe.tripFault = s.safe.tripFault ∧ GroupsOff s (s.get (Reg.SAFE_TRIP_CFG_GROUP_MASK.at m)) (s.tripLatchIn m) := by
  rw [tripLatchIn_enabled hen hfree]
  have hput := storeFind_put_same s.safe.tripLatch m (s.get (Reg.SAFE_TRIP_CFG_GROUP_MASK.at m))
  obtain ⟨hlatch, -, hcnt, hin, hfault⟩ := latchStep_latches s { s.safe with
      tripLatch := storePut s.safe.tripLatch m (s.get (Reg.SAFE_TRIP_CFG_GROUP_MASK.at m)), tripCnt := satInc 32 s.safe.tripCnt } 0x0E01
  rw [hlatch]
  exact ⟨hput, hcnt, hin, hfault, latchStep_groupsOff _ (List.mem_append_left _ (mem_of_storeFind hput))⟩

theorem tripLow_working {s : State} {m : Nat} (hon : s.safeOn = true) (hm : m < 8) :
    s.tripLow m = ({ s with safe := { s.safe with tripIn := clearBit s.safe.tripIn m } }).tripLatchIn m := by
  unfold State.tripLow
  rw [hon, decide_eq_true hm]
  rfl

/-- The fault of a trip input, noted and recorded (R368). -/
def faultNoted (s : State) (m : Nat) : State :=
  ({ s with safe := { s.safe with tripFault := setBit s.safe.tripFault m } }).raise 0x0E06

theorem tripDisagree_working {s : State} {m : Nat} (hon : s.safeOn = true) (hm : m < 8) (hno : bitAt s.safe.tripFault m = false) :
    s.tripDisagree m = (faultNoted s m).tripLatchIn m := by
  unfold State.tripDisagree
  rw [hon, decide_eq_true hm, hno]
  rfl

theorem faultNoted_safeOnly (s : State) (m : Nat) : SafeOnly s (faultNoted s m) :=
  safeOnly_trans (safeOnly_safe s _) (safeOnly_quiet (raise_quiet _ _))

theorem faultNoted_safe (s : State) (m : Nat) : (faultNoted s m).safe = { s.safe with tripFault := setBit s.safe.tripFault m } :=
  raise_safe ..

theorem tripLow_latches {s : State} {m : Nat} (hon : s.safeOn = true) (hm : m < 8)
    (hen : s.flag (Reg.SAFE_TRIP_CFG_ENABLE.at m) = true) (hfree : storeFind s.safe.tripLatch m = none) :
    bitAt (s.tripLow m).safe.tripIn m = false
      ∧ storeFind (s.tripLow m).safe.tripLatch m = some (s.get (Reg.SAFE_TRIP_CFG_GROUP_MASK.at m))
      ∧ (s.tripLow m).safe.tripCnt = satInc 32 s.safe.tripCnt ∧ GroupsOff s (s.get (Reg.SAFE_TRIP_CFG_GROUP_MASK.at m)) (s.tripLow m)
      ∧ SafeOnly s (s.tripLow m) := by
  rw [tripLow_working hon hm]
  obtain ⟨hlatch, hcnt, hin, -, hoff⟩ :=
    tripLatchIn_spec (s := { s with safe := { s.safe with tripIn := clearBit s.safe.tripIn m } }) hen hfree
  rw [hin]
  exact ⟨bitAt_clearBit _ _, hlatch, hcnt, hoff, safeOnly_trans (safeOnly_safe s _) (tripLatchIn_safeOnly _ m)⟩

/-- No event writes the configuration of a trip input. -/
theorem tripCfg_notMem_quietKeys : ∀ m < 8, (Reg.SAFE_TRIP_CFG_ENABLE.at m).key 0 ∉ quietKeys
    ∧ (Reg.SAFE_TRIP_CFG_GROUP_MASK.at m).key 0 ∉ quietKeys := by decide

theorem faultNoted_get (s : State) (m : Nat) {f : Fld} {i : Nat} (h : f.key i ∉ quietKeys) : (faultNoted s m).get f i = s.get f i :=
  (faultNoted_safeOnly s m).1 f i List.not_mem_nil h

theorem faultNoted_enable (s : State) {m : Nat} (hm : m < 8) :
    (faultNoted s m).flag (Reg.SAFE_TRIP_CFG_ENABLE.at m) = s.flag (Reg.SAFE_TRIP_CFG_ENABLE.at m) := by
  unfold State.flag
  rw [faultNoted_get s m (tripCfg_notMem_quietKeys m hm).1]

theorem tripDisagree_latches {s : State} {m : Nat} (hon : s.safeOn = true) (hm : m < 8)
    (hen : s.flag (Reg.SAFE_TRIP_CFG_ENABLE.at m) = true) (hfree : storeFind s.safe.tripLatch m = none)
    (hno : bitAt s.safe.tripFault m = false) :
    bitAt (s.tripDisagree m).safe.tripFault m = true
      ∧ storeFind (s.tripDisagree m).safe.tripLatch m = some (s.get (Reg.SAFE_TRIP_CFG_GROUP_MASK.at m))
      ∧ (s.tripDisagree m).safe.tripCnt = satInc 32 s.safe.tripCnt
      ∧ GroupsOff s (s.get (Reg.SAFE_TRIP_CFG_GROUP_MASK.at m)) (s.tripDisagree m) ∧ SafeOnly s (s.tripDisagree m) := by
  rw [tripDisagree_working hon hm hno]
  have hmask := faultNoted_get s m (tripCfg_notMem_quietKeys m hm).2
  have hgroup (j : Nat) := faultNoted_get s m (key_notMem_quietKeys (f := Reg.SAFE_OUT_CFG_GROUP) (by decide) j)
  have hsafe := faultNoted_safe s m
  have honly := safeOnly_trans (faultNoted_safeOnly s m) (tripLatchIn_safeOnly (faultNoted s m) m)
  rw [← faultNoted_enable s hm] at hen
  obtain ⟨hlatch, hcnt, -, hfault, hoff⟩ := tripLatchIn_spec hen (by rw [hsafe]; exact hfree)
  rw [hmask] at hlatch hoff
  rw [hsafe] at hcnt hfault
  rw [hfault]
  exact ⟨bitAt_setBit .., hlatch, hcnt, fun j hj hbit => hoff j hj ((hgroup j).symm ▸ hbit), honly⟩

theorem tripDisagree_disabled {s : State} {m : Nat} (hon : s.safeOn = true) (hm : m < 8)
    (hen : ¬ s.flag (Reg.SAFE_TRIP_CFG_ENABLE.at m) = true) (hno : bitAt s.safe.tripFault m = false) :
    s.tripDisagree m = faultNoted s m := by
  rw [tripDisagree_working hon hm hno, tripLatchIn_disabled (by rwa [faultNoted_enable s hm])]

/-! ## Runaway monitors (R370) -/

theorem runawayStop_due {s : State} {m : Nat} (hen : s.flag Reg.SAFE_RUN_CFG_ENABLE m = true)
    (hdue : s.get Reg.SAFE_RUN_CFG_TIME m ≤ s.runCountOf m) (hfree : storeFind s.safe.runLatch m = none) :
    s.runawayStop m = latchStep s { s.safe with runLatch := storePut s.safe.runLatch m (s.get Reg.SAFE_RUN_CFG_GROUP_MASK m) } 0x0E03 := by
  unfold State.runawayStop
  rw [hen, hfree, decide_eq_true hdue]
  rfl

theorem runawayStop_idle {s : State} {m : Nat}
    (h : s.flag Reg.SAFE_RUN_CFG_ENABLE m = false ∨ s.runCountOf m < s.get Reg.SAFE_RUN_CFG_TIME m) : s.runawayStop m = s := by
  unfold State.runawayStop
  obtain hoff | hearly := h
  · rw [hoff]
    rfl
  · rw [decide_eq_false (Nat.not_le.2 hearly), Bool.and_false]
    rfl

theorem runawayStop_latches {s : State} {m : Nat} (hen : s.flag Reg.SAFE_RUN_CFG_ENABLE m = true)
    (hdue : s.get Reg.SAFE_RUN_CFG_TIME m ≤ s.runCountOf m) (hfree : storeFind s.safe.runLatch m = none) :
    storeFind (s.runawayStop m).safe.runLatch m = some (s.get Reg.SAFE_RUN_CFG_GROUP_MASK m)
      ∧ GroupsOff s (s.get Reg.SAFE_RUN_CFG_GROUP_MASK m) (s.runawayStop m) ∧ SafeOnly s (s.runawayStop m) := by
  rw [runawayStop_due hen hdue hfree]
  have hput := storeFind_put_same s.safe.runLatch m (s.get Reg.SAFE_RUN_CFG_GROUP_MASK m)
  obtain ⟨-, hlatch, -⟩ := latchStep_latches s
    { s.safe with runLatch := storePut s.safe.runLatch m (s.get Reg.SAFE_RUN_CFG_GROUP_MASK m) } 0x0E03
  rw [hlatch]
  exact ⟨hput, latchStep_groupsOff _ (List.mem_append_right _ (mem_of_storeFind hput)), latchStep_safeOnly ..⟩

/-- The words TRIP_RESET and DISC_RESET of SAFE_CMD. -/
theorem commandWord_tripReset : CommandWord 0x110020 1 := ⟨_, rfl, fun _ => rfl⟩
theorem commandWord_discReset : CommandWord 0x110020 2 := ⟨_, rfl, fun _ => rfl⟩

/-- Settles O58: each row notes its level, fault or stop, and what latches is one `latchStep`. -/
theorem tripsAndRunaway : Obligations.TripsAndRunaway := by
  intro s m p t kept off mask stops enabled free
  refine ⟨fun hon hm hen hfree => ⟨_, rfl, ?_⟩, fun hon hm hen hfree hno => ⟨_, rfl, ?_⟩,
    fun hon hm hen => ⟨⟨_, rfl, ?_⟩, fun hno => ⟨_, rfl, ?_⟩⟩, ⟨_, rfl, bitAt_clearBit _ _, rfl⟩,
    fun hen hdue hfree => ⟨_, rfl, ?_⟩, fun h => ⟨_, rfl, runawayStop_idle h⟩, fun htakes => ?_, fun htakes => ?_⟩
  · obtain ⟨hin, hlatch, hcnt, hoff, hsafe⟩ := tripLow_latches hon hm hen hfree
    exact ⟨hin, hlatch, hcnt, hoff, kept_of_safeOnly hsafe⟩
  · obtain ⟨hfault, hlatch, hcnt, hoff, hsafe⟩ := tripDisagree_latches hon hm hen hfree hno
    exact ⟨hfault, hlatch, hcnt, hoff, kept_of_safeOnly hsafe⟩
  · rw [tripLow_working hon hm, tripLatchIn_disabled (s := { s with safe := { s.safe with tripIn := clearBit s.safe.tripIn m } }) hen]
    exact ⟨bitAt_clearBit _ _, rfl⟩
  · rw [tripDisagree_disabled hon hm hen hno]
    refine ⟨?_, ?_, ?_, kept_of_safeOnly (faultNoted_safeOnly s m)⟩
    · rw [faultNoted_safe]
      exact bitAt_setBit ..
    · rw [faultNoted_safe]
    · rw [faultNoted_safe]
  · obtain ⟨hlatch, hoff, hsafe⟩ := runawayStop_latches hen hdue hfree
    exact ⟨hlatch, hoff, kept_of_safeOnly hsafe⟩
  · exact answers_of_command rfl commandWord_tripReset htakes rfl rfl
  · exact answers_of_command rfl commandWord_discReset htakes rfl rfl

end Sys2Proof.Proofs
end

section
/-! Board events: the clocks, the MDIO bus, the lanes of the span and memory errors; the statement on them (O53). -/

namespace Sys2Proof.Proofs
open Sys2Proof Sys2Proof.Machine Sys2Proof.Laws

/-! ## Lanes (R342) -/

/-- Adding a bit that is clear leaves the higher bits. -/
theorem div_add_two_pow {x i j : Nat} (hclear : bitAt x i = false) (hij : i < j) : (2 ^ i + x) / 2 ^ j = x / 2 ^ j := by
  obtain ⟨k, rfl⟩ := Nat.exists_eq_add_of_lt hij
  have heven : x / 2 ^ i % 2 ≠ 1 := of_decide_eq_false hclear
  have hlow : (2 ^ i + x) / 2 ^ i / 2 = x / 2 ^ i / 2 := by
    rw [Nat.add_div_left _ (Nat.two_pow_pos i)]
    omega
  rw [show i + k + 1 = i + 1 + k by omega, Nat.pow_add, Nat.pow_succ, ← Nat.div_div_eq_div_mul, ← Nat.div_div_eq_div_mul,
    ← Nat.div_div_eq_div_mul, ← Nat.div_div_eq_div_mul, hlow]

/-- A bit that is clear stays clear when another is cleared. -/
theorem bitAt_clearBit_of_clear {m j : Nat} (i : Nat) (h : bitAt m j = false) : bitAt (clearBit m i) j = false := by
  have hcleared := bitAt_clearBit m i
  unfold clearBit at *
  split
  · next hset =>
    rw [if_pos hset] at hcleared
    have hle : 2 ^ i ≤ m := by
      by_contra hlt
      rw [bitAt_eq_testBit, Nat.testBit_lt_two_pow (by omega)] at hset
      exact Bool.noConfusion hset
    have hm : m = 2 ^ i + (m - 2 ^ i) := by omega
    generalize m - 2 ^ i = x at *
    subst hm
    rcases Nat.lt_trichotomy i j with hij | rfl | hij
    · unfold bitAt at h ⊢
      rwa [div_add_two_pow hcleared hij] at h
    · exact hcleared
    · rw [bitAt_eq_testBit] at h ⊢
      rwa [Nat.testBit_two_pow_add_gt hij] at h
  · exact h

theorem laneDown_eq {l : Nat} (s : State) (hl : l < 4) :
    s.laneDown l = (s.set Reg.SPAN_STAT_LANE_UP (clearBit (s.get Reg.SPAN_STAT_LANE_UP) l)).healthCheck := if_pos hl

theorem healthCheck_laneUp (s : State) (l : Nat) : s.healthCheck.laneUp l = s.laneUp l := by
  unfold State.laneUp
  rw [Quiet.get (healthCheck_quiet s) _ _ (by decide)]

theorem laneDown_down {l : Nat} (s : State) (hl : l < 4) : (s.laneDown l).laneUp l = false := by
  rw [laneDown_eq s hl, healthCheck_laneUp, State.laneUp, get_set_same]
  exact bitAt_mod_of_clear _ (bitAt_clearBit ..)

/-- A lane that is down stays so when another goes down. -/
theorem laneDown_stays {l j : Nat} (s : State) (hl : l < 4) (h : s.laneUp j = false) : (s.laneDown l).laneUp j = false := by
  rw [laneDown_eq s hl, healthCheck_laneUp, State.laneUp, get_set_same]
  exact bitAt_mod_of_clear _ (bitAt_clearBit_of_clear l h)

/-- Where only these fields change, and nothing but what HEALTH and events may change. -/
abbrev FieldsOnly (ks : List Nat) (s u : State) : Prop := OnlyIn id ks s u

theorem laneDown_fieldsOnly {l : Nat} (s : State) (hl : l < 4) : FieldsOnly [Reg.SPAN_STAT_LANE_UP.key 0] s (s.laneDown l) := by
  rw [laneDown_eq s hl]
  exact onlyIn_trans (onlyIn_set s _ _ _ (List.mem_singleton_self _)) (onlyIn_quiet (healthCheck_quiet _))

/-- Every lane that is taken down in turn is down in the end. -/
theorem foldl_laneDown {l : List Nat} (hl : ∀ j ∈ l, j < 4) (s : State) :
    FieldsOnly [Reg.SPAN_STAT_LANE_UP.key 0] s (l.foldl State.laneDown s)
      ∧ ∀ j, j ∈ l ∨ s.laneUp j = false → (l.foldl State.laneDown s).laneUp j = false := by
  induction l generalizing s with
  | nil => exact ⟨onlyIn_refl s, fun j h => h.resolve_left List.not_mem_nil⟩
  | cons x l ih =>
    obtain ⟨hx, hl⟩ := List.forall_mem_cons.1 hl
    obtain ⟨honly, hdown⟩ := ih hl (s.laneDown x)
    refine ⟨onlyIn_trans (laneDown_fieldsOnly s hx) honly, fun j h => hdown j ?_⟩
    rcases h with hmem | hclear
    · rcases List.mem_cons.1 hmem with rfl | htail
      · exact .inr (laneDown_down s hx)
      · exact .inl htail
    · exact .inr (laneDown_stays s hx hclear)

theorem laneUsed_lt {s : State} {l : Nat} (h : s.laneUsed l = true) : l < 4 := by
  unfold State.laneUsed at h
  obtain ⟨-, h⟩ := Bool.and_eq_true_iff.1 h
  split at h
  · exact lt_trans (of_decide_eq_true h) (by decide)
  · exact of_decide_eq_true h
  · exact of_decide_eq_true h
  · exact Bool.noConfusion h

theorem laneComesUp_eq {s : State} {l : Nat} (hused : s.laneUsed l = true) (hports : s.portsUp = true) :
    s.laneComesUp l = (s.set Reg.SPAN_STAT_LANE_UP (setBit (s.get Reg.SPAN_STAT_LANE_UP) l)).healthCheck := by
  unfold State.laneComesUp
  rw [hused, hports]
  rfl

theorem laneComesUp_up {s : State} {l : Nat} (hused : s.laneUsed l = true) (hports : s.portsUp = true) : (s.laneComesUp l).laneUp l = true := by
  rw [laneComesUp_eq hused hports, healthCheck_laneUp, State.laneUp, get_set_same, bitAt_eq_testBit, Nat.testBit_mod_two_pow,
    ← bitAt_eq_testBit, bitAt_setBit, Bool.and_true]
  exact decide_eq_true (laneUsed_lt hused)

theorem laneComesUp_none {s : State} {l : Nat} (h : s.portsUp = false ∨ s.laneUsed l = false) : s.laneComesUp l = s := by
  unfold State.laneComesUp
  obtain hports | hused := h
  · rw [hports, Bool.and_false]
    rfl
  · rw [hused]
    rfl

/-! ## Clocks and the MDIO bus (R457, R459 to R461) -/

theorem selectSource_fieldsOnly (s : State) : FieldsOnly [Reg.TSU_SRC_STAT_ACTIVE_SRC.key 0, Reg.TSU_SRC_STAT_HOLDOVER.key 0,
    Reg.TSU_SRC_STAT_LOCKED.key 0] s s.selectSource := by
  unfold State.selectSource
  split
  · exact onlyIn_refl s
  · dsimp only
    split
    · exact onlyIn_refl s
    · refine onlyIn_trans ?_ (onlyIn_quiet (raise_quiet _ _))
      have hshown := onlyIn_setFlag_after (erase := id) (onlyIn_set s Reg.TSU_SRC_STAT_ACTIVE_SRC s.sourceChoice 0
        (List.mem_cons_self (l := [Reg.TSU_SRC_STAT_HOLDOVER.key 0, Reg.TSU_SRC_STAT_LOCKED.key 0])))
        Reg.TSU_SRC_STAT_HOLDOVER (decide (s.sourceChoice = 0)) 0 (by simp)
      split
      · exact onlyIn_setFlag_after hshown _ _ _ (by simp)
      · exact hshown

theorem refclkFail_booted {s : State} (hon : s.powered = true) (hok : s.flag Reg.SYS_BOARD_STAT_REFCLK_BAD = false) (hboot : s.booted = true) :
    s.refclkFail = (((s.setFlag Reg.SYS_BOARD_STAT_REFCLK_BAD true).setFlag Reg.TSU_SRC_STAT_LOCKED false).setFlag
      Reg.SYS_BOARD_STAT_REFCLK_LOST true).raise 0x0604 := by
  unfold State.refclkFail
  rw [hon, hok, hboot]
  rfl

theorem refclkFail_booted_spec {s : State} (hon : s.powered = true) (hok : s.flag Reg.SYS_BOARD_STAT_REFCLK_BAD = false)
    (hboot : s.booted = true) :
    s.refclkFail.flag Reg.SYS_BOARD_STAT_REFCLK_BAD = true ∧ s.refclkFail.flag Reg.SYS_BOARD_STAT_REFCLK_LOST = true
      ∧ s.refclkFail.flag Reg.TSU_SRC_STAT_LOCKED = false
      ∧ FieldsOnly [Reg.SYS_BOARD_STAT_REFCLK_BAD.key 0, Reg.SYS_BOARD_STAT_REFCLK_LOST.key 0, Reg.TSU_SRC_STAT_LOCKED.key 0] s
        s.refclkFail := by
  rw [refclkFail_booted hon hok hboot]
  refine ⟨?_, ?_, ?_, ?_⟩
  · rw [Quiet.flag (raise_quiet _ _) _ _ (by decide), flag_setFlag_other _ _ _ _ _ _ (by decide), flag_setFlag_other _ _ _ _ _ _ (by decide),
      flag_setFlag_same _ _ _ _ (by decide)]
  · rw [Quiet.flag (raise_quiet _ _) _ _ (by decide), flag_setFlag_same _ _ _ _ (by decide)]
  · rw [Quiet.flag (raise_quiet _ _) _ _ (by decide), flag_setFlag_other _ _ _ _ _ _ (by decide), flag_setFlag_same _ _ _ _ (by decide)]
  · exact onlyIn_trans (onlyIn_setFlag s Reg.SYS_BOARD_STAT_REFCLK_BAD _ _ (by simp)) (onlyIn_trans (onlyIn_setFlag _ Reg.TSU_SRC_STAT_LOCKED _ _
      (by simp)) (onlyIn_trans (onlyIn_setFlag _ Reg.SYS_BOARD_STAT_REFCLK_LOST _ _ (by simp)) (onlyIn_quiet (raise_quiet _ _))))

/-- Before the boot is done a failed reference clock sets REFCLK_BAD alone. -/
theorem refclkFail_booting_spec {s : State} (hon : s.powered = true) (hboot : s.booted = false) :
    s.refclkFail.flag Reg.SYS_BOARD_STAT_REFCLK_BAD = true ∧ RegsBut [Reg.SYS_BOARD_STAT_REFCLK_BAD.key 0] s s.refclkFail
      ∧ { s.refclkFail with regs := s.regs } = s := by
  unfold State.refclkFail
  rw [hon, hboot]
  cases hbad : s.flag Reg.SYS_BOARD_STAT_REFCLK_BAD with
  | true => exact ⟨hbad, fun _ _ _ => rfl, rfl⟩
  | false => exact ⟨flag_setFlag_same _ _ _ _ (by decide), regsBut_set s _ _ 0 (List.mem_singleton_self _), rfl⟩

theorem refclkRestore_spec (s : State) : s.refclkRestore.flag Reg.SYS_BOARD_STAT_REFCLK_BAD = false
    ∧ FieldsOnly [Reg.SYS_BOARD_STAT_REFCLK_BAD.key 0, Reg.TSU_SRC_STAT_ACTIVE_SRC.key 0, Reg.TSU_SRC_STAT_HOLDOVER.key 0,
      Reg.TSU_SRC_STAT_LOCKED.key 0] s s.refclkRestore := by
  unfold State.refclkRestore
  have hclear := flag_setFlag_same s Reg.SYS_BOARD_STAT_REFCLK_BAD false 0 (by decide)
  have honly : FieldsOnly [Reg.SYS_BOARD_STAT_REFCLK_BAD.key 0, Reg.TSU_SRC_STAT_ACTIVE_SRC.key 0, Reg.TSU_SRC_STAT_HOLDOVER.key 0,
      Reg.TSU_SRC_STAT_LOCKED.key 0] s (s.setFlag Reg.SYS_BOARD_STAT_REFCLK_BAD false) := onlyIn_setFlag s _ _ _ (by simp)
  split
  · dsimp only
    split
    · have hsource := selectSource_fieldsOnly (s.setFlag Reg.SYS_BOARD_STAT_REFCLK_BAD false)
      exact ⟨(onlyIn_flag hsource (by decide) (by decide)).trans hclear, onlyIn_trans honly (onlyIn_mono hsource (by simp))⟩
    · exact ⟨hclear, honly⟩
  · next hok => exact ⟨Bool.eq_false_iff.2 hok, onlyIn_refl s⟩

theorem serdesLoss_spec {s : State} (hon : s.powered = true) :
    s.serdesLoss.flag Reg.SYS_BOARD_STAT_SERDES_CLK_BAD = true ∧ s.serdesLoss.portsUp = false ∧ (∀ j, j < 4 → s.serdesLoss.laneUp j = false)
      ∧ FieldsOnly [Reg.SYS_BOARD_STAT_SERDES_CLK_BAD.key 0, Reg.SPAN_STAT_LANE_UP.key 0] s s.serdesLoss := by
  unfold State.serdesLoss
  rw [if_pos hon]
  obtain ⟨honly, hdown⟩ := foldl_laneDown (l := [0, 1, 2, 3]) (by decide) (s.setFlag Reg.SYS_BOARD_STAT_SERDES_CLK_BAD true)
  generalize [0, 1, 2, 3].foldl State.laneDown _ = u at *
  have hbad : u.flag Reg.SYS_BOARD_STAT_SERDES_CLK_BAD = true :=
    (onlyIn_flag honly (by decide) (by decide)).trans (flag_setFlag_same s _ true 0 (by decide))
  refine ⟨hbad, ?_, fun j hj => hdown j (.inl ?_), ?_⟩
  · unfold State.portsUp
    rw [hbad]
    rfl
  · interval_cases j <;> decide
  · exact onlyIn_trans (onlyIn_setFlag s Reg.SYS_BOARD_STAT_SERDES_CLK_BAD _ _ (by simp)) (onlyIn_mono honly (by simp))

theorem portsUp_serdesReturn {s : State} (hboot : s.booted = true) : s.serdesReturn.portsUp = true := by
  have hclear := flag_setFlag_same s Reg.SYS_BOARD_STAT_SERDES_CLK_BAD false 0 (by decide)
  have hmode : s.running = true ∨ decide (s.mode = .done) = true := Bool.or_eq_true_iff.1 hboot
  unfold State.portsUp State.serdesReturn
  rw [hclear]
  show (true && (s.running || decide (s.mode = .done) || _)) = true
  rw [Bool.or_eq_true_iff.2 hmode]
  rfl

theorem mdioDone_busy {s : State} (h : s.flag Reg.SYS_MDIO_STAT_BUSY = true) (d : BitVec 16) :
    (s.mdioDone d.toNat).flag Reg.SYS_MDIO_STAT_BUSY = false
      ∧ (s.mdioDone d.toNat).get Reg.SYS_MDIO_STAT_RDATA = (if 2 ≤ s.get Reg.SYS_MDIO_CMD_OP then d.toNat else s.get Reg.SYS_MDIO_STAT_RDATA)
      ∧ RegsBut [Reg.SYS_MDIO_STAT_BUSY.key 0, Reg.SYS_MDIO_STAT_RDATA.key 0] s (s.mdioDone d.toNat)
      ∧ { s.mdioDone d.toNat with regs := s.regs } = s := by
  unfold State.mdioDone
  rw [if_pos h]
  have hclear := flag_setFlag_same s Reg.SYS_MDIO_STAT_BUSY false 0 (by decide)
  have hframe : RegsBut [Reg.SYS_MDIO_STAT_BUSY.key 0, Reg.SYS_MDIO_STAT_RDATA.key 0] s (s.setFlag Reg.SYS_MDIO_STAT_BUSY false) :=
    regsBut_set s _ _ 0 (by simp)
  dsimp only
  split
  · refine ⟨(flag_set_other _ _ _ _ _ _ (by decide)).trans hclear, ?_, regsBut_trans hframe (regsBut_set _ _ _ 0 (by simp)), rfl⟩
    rw [get_set_same]
    exact Nat.mod_eq_of_lt d.isLt
  · exact ⟨hclear, get_setFlag_other _ _ _ _ _ _ (by decide), hframe, rfl⟩

/-! ## Memory errors and handshakes (R342) -/

theorem healthCheck_memErr (s : State) : s.healthCheck.red.memErr = s.red.memErr :=
  (congrArg RedState.memErr (healthCheck_claimsOnly s) :)

theorem healthCheck_handshake (s : State) : s.healthCheck.red.handshake = s.red.handshake :=
  (congrArg RedState.handshake (healthCheck_claimsOnly s) :)

/-- Settles O53, row by row: each one's fields are those that it sets, and the rest follows from the frames of its steps. -/
theorem boardEvents : Obligations.BoardEvents := by
  intro s d l die
  refine ⟨fun hon hok hboot => ⟨_, rfl, refclkFail_booted_spec hon hok hboot⟩, fun hon hboot => ⟨_, rfl, refclkFail_booting_spec hon hboot⟩,
    ⟨_, rfl, refclkRestore_spec s⟩, fun hon => ⟨_, rfl, serdesLoss_spec hon⟩, ⟨_, rfl, ?_⟩, fun hbusy => ⟨_, rfl, mdioDone_busy hbusy d⟩,
    fun hfree => ⟨_, rfl, if_neg (Bool.eq_false_iff.1 hfree)⟩, fun hl => ⟨_, rfl, laneDown_down s hl, laneDown_fieldsOnly s hl⟩,
    fun hused hports => ⟨_, rfl, laneComesUp_up hused hports, ?_⟩, fun h => ⟨_, rfl, laneComesUp_none h⟩, ⟨_, rfl, ?_⟩, ⟨_, rfl, ?_⟩⟩
  · exact ⟨flag_setFlag_same s _ false 0 (by decide), portsUp_serdesReturn, regsBut_set s _ _ 0 (List.mem_singleton_self _), rfl⟩
  · rw [laneComesUp_eq hused hports]
    exact onlyIn_trans (erase := id) (onlyIn_set s _ _ _ (List.mem_singleton_self _)) (onlyIn_quiet (healthCheck_quiet _))
  · have hquiet := healthCheck_quiet { s with red := { s.red with memErr := true } }
    exact ⟨healthCheck_memErr _, fieldsBut_of_regs rfl (fieldsBut_quiet hquiet), hquiet.1⟩
  · have hquiet := healthCheck_quiet { s with red := { s.red with handshake := true } }
    exact ⟨healthCheck_handshake _, fieldsBut_of_regs rfl (fieldsBut_quiet hquiet), hquiet.1⟩

end Sys2Proof.Proofs
end

section
/-! Fuse commands and the health of the random number generator; the statement on them (O45). -/

namespace Sys2Proof.Proofs
open Sys2Proof Sys2Proof.Machine Sys2Proof.Laws

/-! ## Arming and fuse commands (R441) -/

section
variable (s : State) (p : Path)

theorem touch_up : (s.touch p).up = s.up := by obtain ⟨h, e⟩ := touch_host s p; rw [e]
theorem touch_sec : (s.touch p).sec = s.sec := by obtain ⟨h, e⟩ := touch_host s p; rw [e]
theorem touch_fuseArmed : (s.touch p).fuseArmed = s.fuseArmed := by obtain ⟨h, e⟩ := touch_host s p; rw [e]; rfl
theorem touch_fuseRefused (op k : Nat) : (s.touch p).fuseRefused op k = s.fuseRefused op k := by
  obtain ⟨h, e⟩ := touch_host s p; rw [e]; rfl

end

/-- The row c writes the operation op on slot k to SEC_FUSE_CMD. -/
def FuseCommand (p : Path) (op k : Nat) (c : Instr) : Prop :=
  1 ≤ op ∧ op ≤ 4 ∧ k < 4 ∧ ∀ s, exec c s = .next (s.hostCmd p 0x130034 0 (op + 8 * k))

section
variable {p : Path} {slot : Nat}

theorem fuseCommand_program (h : slot < 4) : FuseCommand p 1 slot (.programSlot p slot) :=
  ⟨by decide, by decide, h, fun s => by
    show Host.Outcome.next (s.hostCmd p 0x130034 0 (1 + 8 * slot) (decide (slot < 4))) = _
    rw [decide_eq_true h]⟩

theorem fuseCommand_revoke (h : slot < 4) : FuseCommand p 2 slot (.revokeSlot p slot) :=
  ⟨by decide, by decide, h, fun s => by
    show Host.Outcome.next (s.hostCmd p 0x130034 0 (2 + 8 * slot) (decide (slot < 4))) = _
    rw [decide_eq_true h]⟩

theorem fuseCommand_advance : FuseCommand p 3 0 (.advanceRollback p) := ⟨by decide, by decide, by decide, fun _ => rfl⟩

theorem fuseCommand_dbgOff : FuseCommand p 4 0 (.dbgOff p) := ⟨by decide, by decide, by decide, fun _ => rfl⟩

end

/-- Every operation on every slot is a legal word of SEC_FUSE_CMD. -/
theorem fuseWord_legal : ∀ op ≤ 4, ∀ k < 4, decide (op + 8 * k < 2 ^ 32) = true
    ∧ fieldsOk [Reg.SEC_FUSE_CMD_OP, Reg.SEC_FUSE_CMD_SLOT] (op + 8 * k) = true ∧ (op + 8 * k) % 8 = op ∧ bitsAt (op + 8 * k) 3 2 = k := by
  decide

theorem commandWord_fuse {op k : Nat} (hop : op ≤ 4) (hk : k < 4) : CommandWord 0x130034 (op + 8 * k) := by
  refine ⟨_, rfl, fun t => ?_⟩
  obtain ⟨hfits, hfields, -, -⟩ := fuseWord_legal op hop k hk
  unfold commandWord
  rw [hfits]
  -- of the checks left, that of the fields alone turns on the operand
  exact congrArg (fun b => true && b && true && true && true) hfields

/-- A fuse command answers what its operation gives. -/
theorem answers_of_fuseCommand {p : Path} {op k : Nat} {c : Instr} {s u : State} {st : Status} {P : State → Prop}
    (hcommand : FuseCommand p op k c) (htakes : s.takes p 19 = true) (hcmd : (s.touch p).fuseCmd op k = (st, u)) (hP : P u) :
    Answers c s p st P := by
  obtain ⟨-, hop, hk, hexec⟩ := hcommand
  obtain ⟨-, -, hdecOp, hdecSlot⟩ := fuseWord_legal op hop k hk
  refine answers_of_command (hexec s) (commandWord_fuse hop hk) htakes ?_ hP
  show (s.touch p).fuseCmd ((op + 8 * k) % 8) (bitsAt (op + 8 * k) 3 2) = _
  rw [hdecOp, hdecSlot, hcmd]

/-- A fuse operation begins: the arming is used up, the operation and the hash given are noted, FUSE_BUSY is set. -/
def fuseBegun (t : State) (op k : Nat) : State :=
  let hash := (List.range 8).map (fun j => BitVec.ofNat 32 (t.get (Reg.SEC_KEY_HASH_WORD.at j)))
  ({ t with sec := { t.sec with armedAt := none, fuseOp := some (op, k), fuseHash := hash } }).setFlag Reg.SEC_STAT_FUSE_BUSY true

section
variable {t : State} {op k : Nat} (h1 : 1 ≤ op) (h4 : op ≤ 4)
include h1 h4

theorem fuseCmd_legal : t.fuseCmd op k = if t.mode ≠ .park then (.state, t)
    else if t.flag Reg.PWR_STAT_DIP ∨ t.sec.fuseOp.isSome then (.busy, t) else if !t.fuseArmed then (.state, t)
    else if t.fuseRefused op k then (.state, { t with sec := { t.sec with armedAt := none } })
    else (.done, fuseBegun t op k) :=
  if_neg (by omega)

theorem fuseCmd_notPark (h : t.mode ≠ .park) : t.fuseCmd op k = (.state, t) := by
  rw [fuseCmd_legal h1 h4, if_pos h]

theorem fuseCmd_busy (hpark : t.mode = .park) (h : t.flag Reg.PWR_STAT_DIP = true ∨ t.sec.fuseOp.isSome = true) :
    t.fuseCmd op k = (.busy, t) := by
  rw [fuseCmd_legal h1 h4, if_neg (not_not_intro hpark), if_pos h]

/-- In PARK, outside a dip and with no operation in progress, the arming decides. -/
theorem fuseCmd_idle (hpark : t.mode = .park) (hdip : t.flag Reg.PWR_STAT_DIP = false) (hidle : t.sec.fuseOp = none) :
    t.fuseCmd op k = if !t.fuseArmed then (.state, t)
    else if t.fuseRefused op k then (.state, { t with sec := { t.sec with armedAt := none } })
    else (.done, fuseBegun t op k) := by
  rw [fuseCmd_legal h1 h4, if_neg (not_not_intro hpark), if_neg (by rw [hdip, hidle]; decide)]

end

/-- A command whose operands do not fit its fields answers RANGE and changes nothing (R44). -/
theorem answers_of_misfit {c : Instr} {s : State} {p : Path} {blk a v : Nat} {fits : Bool} (htakes : s.takes p blk = true)
    (hfits : fits = false) (hexec : exec c s = .next (s.hostCmd p a 0 v fits)) : Answers c s p .range fun u => u = s.touch p := by
  obtain ⟨hup, -⟩ := takes_iff.1 htakes
  subst hfits
  exact ⟨_, hexec.trans (congrArg Host.Outcome.next (if_pos hup)), rfl⟩

/-- What a fuse command that no earlier check refuses leaves: the operation in progress, the arming used up (R441). -/
def FuseStarted (s t u : State) (op k : Nat) : Prop :=
  u.sec.fuseOp = some (op, k) ∧ u.sec.armedAt = none ∧ u.fuses = s.fuses ∧ u.flag Reg.SEC_STAT_FUSE_BUSY = true
    ∧ RegsBut [Reg.SEC_STAT_FUSE_BUSY.key 0] s u ∧ { u with regs := s.regs, sec := s.sec } = t

theorem fuseBegun_spec (s : State) (p : Path) (op k : Nat) : FuseStarted s (s.touch p) (fuseBegun (s.touch p) op k) op k := by
  refine ⟨rfl, rfl, ?_, flag_setFlag_same _ _ _ _ (by decide),
    regsBut_trans (regsBut_of_regs (touch_regs s p)) (regsBut_set _ _ _ 0 (List.mem_singleton_self _)), ?_⟩
  · obtain ⟨g, e⟩ := touch_host s p
    rw [e]
    rfl
  · obtain ⟨g, e⟩ := touch_host s p
    rw [e]
    rfl

/-- Every fuse command: its refusals, and its start (R441). -/
theorem fuseCommand_spec {s : State} {p : Path} {op k : Nat} {c : Instr} (hc : FuseCommand p op k c) (htakes : s.takes p 19 = true) :
    (s.mode ≠ .park → Answers c s p .state fun u => u = s.touch p)
    ∧ (s.mode = .park → s.flag Reg.PWR_STAT_DIP = true ∨ s.sec.fuseOp.isSome = true → Answers c s p .busy fun u => u = s.touch p)
    ∧ (s.mode = .park → s.flag Reg.PWR_STAT_DIP = false → s.sec.fuseOp = none →
      (s.fuseArmed = false → Answers c s p .state fun u => u = s.touch p)
      ∧ (s.fuseArmed = true → s.fuseRefused op k = true → Answers c s p .state fun u =>
        u = { s.touch p with sec := { (s.touch p).sec with armedAt := none } })
      ∧ (s.fuseArmed = true → s.fuseRefused op k = false → Answers c s p .done fun u => FuseStarted s (s.touch p) u op k)) := by
  have ⟨h1, h4, _, _⟩ := hc
  refine ⟨fun hmode => ?_, fun hpark h => ?_, fun hpark hdip hidle => ?_⟩
  · exact answers_of_fuseCommand hc htakes (fuseCmd_notPark h1 h4 (by rwa [touch_mode])) rfl
  · exact answers_of_fuseCommand hc htakes (fuseCmd_busy h1 h4 (by rwa [touch_mode]) (by rwa [touch_flag, touch_sec])) rfl
  · have hcmd := fuseCmd_idle (t := s.touch p) (k := k) h1 h4 (by rwa [touch_mode]) (by rwa [touch_flag]) (by rwa [touch_sec])
    rw [touch_fuseArmed, touch_fuseRefused] at hcmd
    refine ⟨fun harm => ?_, fun harm href => ?_, fun harm href => ?_⟩
    · rw [harm] at hcmd
      exact answers_of_fuseCommand hc htakes hcmd rfl
    · rw [harm, href] at hcmd
      exact answers_of_fuseCommand hc htakes hcmd rfl
    · rw [harm, href] at hcmd
      exact answers_of_fuseCommand hc htakes hcmd (fuseBegun_spec s p op k)

/-! ## The end of an arming and of an operation (R436 to R442) -/

theorem fuseExpire_armed {s : State} {a : Nat} (h : s.sec.armedAt = some a) :
    s.fuseExpire = { s.waitUntil (a + 1000000000) with sec := { s.sec with armedAt := none } } := by
  unfold State.fuseExpire
  rw [h]
  rfl

/-- The fuses as FUSE_OP_DONE leaves them. -/
def fusesAfter (s : State) (op k : Nat) : Fuses :=
  match op with
  | 1 => s.fuses.setSlot k ((s.fuses.slot k).program s.sec.fuseHash true)
  | 2 => s.fuses.setSlot k ((s.fuses.slot k).revoke true)
  | 3 => s.fuses.advance s.rst.imgSvn
  | _ => s.fuses.closeDebug true

/-- What FUSE_OP_DONE shows: no operation in progress, and RESULT DONE. -/
def fuseShown (s : State) : State :=
  (({ s with sec := { s.sec with fuseOp := none } }).setFlag Reg.SEC_STAT_FUSE_BUSY false).set Reg.SEC_STAT_FUSE_RESULT Status.done.code

theorem fuseDone_eq {s : State} {op k : Nat} (h : s.sec.fuseOp = some (op, k)) :
    ∃ event, s.fuseDone = ({ fuseShown s with fuses := fusesAfter s op k }).raise event := by
  unfold State.fuseDone
  rw [h]
  match op with
  | 1 => exact ⟨0x0F03, rfl⟩
  | 2 => exact ⟨0x0F03, rfl⟩
  | 3 => exact ⟨0x0F07, rfl⟩
  | 0 => exact ⟨0x0F04, rfl⟩
  | _ + 4 => exact ⟨0x0F04, rfl⟩

theorem setSlot_parts (f : Fuses) (k : Nat) (v : KeySlot) : (f.setSlot k v).rollback = f.rollback ∧ (f.setSlot k v).dbgOff = f.dbgOff := by
  unfold Fuses.setSlot
  split <;> exact ⟨rfl, rfl⟩

theorem slot_setSlot {k : Nat} (hk : k < 4) (f : Fuses) (v : KeySlot) :
    (f.setSlot k v).slot k = v ∧ ∀ j, j < 4 → j ≠ k → (f.setSlot k v).slot j = f.slot j := by
  interval_cases k <;> exact ⟨rfl, fun j hj hne => by interval_cases j <;> simp_all [Fuses.setSlot, Fuses.slot]⟩

/-- Blowing a slot, its hash or its REVOKE fuse, leaves every other fuse (R436). -/
theorem fusesAfter_slot (s : State) {op k : Nat} (h1 : 1 ≤ op) (h2 : op ≤ 2) :
    (fusesAfter s op k).rollback = s.fuses.rollback ∧ (fusesAfter s op k).dbgOff = s.fuses.dbgOff
      ∧ ∀ j, j < 4 → j ≠ k → k < 4 → (fusesAfter s op k).slot j = s.fuses.slot j := by
  have hslot : ∃ v, fusesAfter s op k = s.fuses.setSlot k v := by
    interval_cases op
    · exact ⟨_, rfl⟩
    · exact ⟨_, rfl⟩
  obtain ⟨v, hv⟩ := hslot
  rw [hv]
  obtain ⟨hrollback, hdbg⟩ := setSlot_parts s.fuses k v
  exact ⟨hrollback, hdbg, fun j hj hne hk => (slot_setSlot hk s.fuses v).2 j hj hne⟩

/-- A slot that held no hash becomes VALID with the hash given (R436). -/
theorem fusesAfter_program {s : State} {k : Nat} (hk : k < 4) (hvalid : (s.fuses.slot k).valid = false) (hempty : (s.fuses.slot k).hash = []) :
    ((fusesAfter s 1 k).slot k).valid = true ∧ ((fusesAfter s 1 k).slot k).hash = s.sec.fuseHash := by
  have hprogram : (s.fuses.slot k).program s.sec.fuseHash true = { s.fuses.slot k with hash := s.sec.fuseHash, valid := true } := by
    unfold KeySlot.program KeySlot.spoiled
    rw [hvalid, hempty]
    rfl
  have hslot : (fusesAfter s 1 k).slot k = (s.fuses.slot k).program s.sec.fuseHash true := (slot_setSlot hk _ _).1
  rw [hslot, hprogram]
  exact ⟨rfl, rfl⟩

theorem fusesAfter_revoke {s : State} {k : Nat} (hk : k < 4) : ((fusesAfter s 2 k).slot k).revoked = true := by
  have hslot : (fusesAfter s 2 k).slot k = (s.fuses.slot k).revoke true := (slot_setSlot hk _ _).1
  rw [hslot]
  exact Bool.or_true _

/-- FUSE_OP_DONE: what it shows, the fuses that it blows, and its frame (R436 to R442). -/
theorem fuseDone_spec {s : State} {op k : Nat} (h : s.sec.fuseOp = some (op, k)) :
    s.fuseDone.sec = { s.sec with fuseOp := none } ∧ s.fuseDone.fuses = fusesAfter s op k ∧ s.fuseDone.flag Reg.SEC_STAT_FUSE_BUSY = false
      ∧ s.fuseDone.get Reg.SEC_STAT_FUSE_RESULT = 0
      ∧ FieldsBut [Reg.SEC_STAT_FUSE_BUSY.key 0, Reg.SEC_STAT_FUSE_RESULT.key 0] s s.fuseDone
      ∧ { s.fuseDone.quietRest with sec := s.sec, fuses := s.fuses } = s.quietRest := by
  obtain ⟨event, hdone⟩ := fuseDone_eq h
  rw [hdone]
  have hquiet := raise_quiet { fuseShown s with fuses := fusesAfter s op k } event
  have hbusy : (fuseShown s).flag Reg.SEC_STAT_FUSE_BUSY = false :=
    (flag_set_other _ _ _ _ _ _ (by decide)).trans (flag_setFlag_same _ _ _ _ (by decide))
  have hresult : (fuseShown s).get Reg.SEC_STAT_FUSE_RESULT = 0 := get_set_same ..
  have honly : FieldsBut [Reg.SEC_STAT_FUSE_BUSY.key 0, Reg.SEC_STAT_FUSE_RESULT.key 0] s (fuseShown s) :=
    fieldsBut_of_regs (v := { s with sec := { s.sec with fuseOp := none } }) rfl
      (fieldsBut_trans (fieldsBut_setFlag _ Reg.SEC_STAT_FUSE_BUSY _ 0 (by simp)) (fieldsBut_set _ Reg.SEC_STAT_FUSE_RESULT _ 0 (by simp)))
  refine ⟨Quiet.sec hquiet, Quiet.fuses hquiet, (Quiet.flag hquiet _ _ (by decide)).trans hbusy, (Quiet.get hquiet _ _ (by decide)).trans hresult,
    fieldsBut_trans honly (fieldsBut_of_regs (v := { fuseShown s with fuses := fusesAfter s op k }) rfl (fieldsBut_quiet hquiet)), ?_⟩
  rw [hquiet.1]
  rfl

/-! ## The random number generator (R444) -/

theorem rngFail_fresh {s : State} (h : s.flag Reg.SEC_STAT_RNG_FAIL = false) :
    s.rngFail = (s.setFlag Reg.SEC_STAT_RNG_FAIL true).raise 0x0F05 := if_neg (Bool.eq_false_iff.1 h)

/-- Every code of 16 bits is a legal word of SEC_FUSE_ARM. -/
theorem commandWord_arm (code : BitVec 16) : CommandWord 0x130030 code.toNat := by
  refine ⟨_, rfl, fun t => ?_⟩
  have hcode := code.isLt
  have hfits : decide (code.toNat < 2 ^ 32) = true := decide_eq_true (by omega)
  have hfields : fieldsOk [Reg.SEC_FUSE_ARM_CODE] code.toNat = true := by
    have hmax : bitsAt code.toNat 0 16 ≤ 4294967295 := by
      unfold bitsAt
      omega
    simp [fieldsOk, Reg.SEC_FUSE_ARM_CODE, hmax]
  unfold commandWord
  rw [hfits]
  exact congrArg (fun b => true && b && true && true && true) hfields

theorem fuseArm_code (t : State) (code : BitVec 16) : t.fuseArm (code.toNat % 65536)
    = (.done, if code = 0xF05E then { t with sec := { t.sec with armedAt := some t.up } } else t) := by
  have hcode : code.toNat % 65536 = 0xF05E ↔ code = 0xF05E := by
    rw [Nat.mod_eq_of_lt code.isLt]
    exact ⟨fun h => BitVec.eq_of_toNat_eq h, fun h => h ▸ rfl⟩
  unfold State.fuseArm
  simp only [hcode]

/-- Settles O45: the commands are `fuseCommand_spec` of each operation, FUSE_OP_DONE is `fuseDone_spec`. -/
theorem fuseCommands : Obligations.FuseCommands := by
  intro s p code slot t cmds n
  refine ⟨fun htakes => ⟨fun hcode => ?_, fun hcode => ?_, fun hslot e he => ?_, fun hslot => ⟨?_, ?_⟩⟩, fun a ha => ⟨_, rfl, ?_⟩,
    fun op hop => ⟨_, rfl, ?_⟩, fun hok => ⟨_, rfl, ?_⟩, ⟨_, rfl, ?_⟩⟩
  · refine answers_of_command rfl (commandWord_arm code) htakes ((fuseArm_code t code).trans (by rw [if_pos hcode])) ?_
    rw [touch_up]
  · exact answers_of_command rfl (commandWord_arm code) htakes ((fuseArm_code t code).trans (by rw [if_neg hcode])) rfl
  · have hcommand : FuseCommand p e.2 (n e.2) e.1 := by
      simp only [cmds, List.mem_cons, List.not_mem_nil, or_false] at he
      obtain rfl | rfl | rfl | rfl := he
      · exact fuseCommand_program hslot
      · exact fuseCommand_revoke hslot
      · exact fuseCommand_advance
      · exact fuseCommand_dbgOff
    exact fuseCommand_spec hcommand htakes
  · exact answers_of_misfit htakes (decide_eq_false (Nat.not_lt.2 hslot)) rfl
  · exact answers_of_misfit htakes (decide_eq_false (Nat.not_lt.2 hslot)) rfl
  · rw [fuseExpire_armed ha]
    exact ⟨rfl, waitUntil_reaches s _, rfl⟩
  · obtain ⟨hsec, hfuses, hbusy, hresult, hframe, hrest⟩ := fuseDone_spec hop
    rw [hfuses]
    refine ⟨hsec, hbusy, hresult, hframe, hrest, fun h hk hvalid hempty => ?_, fun h hk => ?_, fun h => ?_, fun h => ?_, fun h2 h1 => ?_⟩
    · exact h ▸ fusesAfter_program hk hvalid hempty
    · exact h ▸ fusesAfter_revoke hk
    · subst h
      rfl
    · subst h
      exact congrArg (fun b => { s.fuses with dbgOff := b }) (Bool.or_true _)
    · exact fusesAfter_slot s h1 h2
  · rw [rngFail_fresh hok]
    have hquiet := raise_quiet (s.setFlag Reg.SEC_STAT_RNG_FAIL true) 0x0F05
    exact ⟨(Quiet.flag hquiet _ _ (by decide)).trans (flag_setFlag_same _ _ _ _ (by decide)),
      fieldsBut_trans (fieldsBut_setFlag s _ true 0 (List.mem_singleton_self _)) (fieldsBut_quiet hquiet), hquiet.1⟩
  · exact ⟨flag_setFlag_same s _ false _ (by decide), regsBut_set s _ _ 0 (List.mem_singleton_self _), rfl⟩

end Sys2Proof.Proofs
end

section
/-! The commands of the redundancy block; the statement on them (O54). -/

namespace Sys2Proof.Proofs
open Sys2Proof Sys2Proof.Machine Sys2Proof.Laws

/-! ## A claim frame -/

/-- A claim frame touches the claims that the part noted as sent, and nothing else (R325). -/
theorem sendClaim_claims (s : State) : ∃ c l, s.sendClaim = { s with red := { s.red with lastClaim := c, sentClaims := l } } := by
  unfold State.sendClaim
  split
  · exact ⟨_, _, rfl⟩
  · exact ⟨s.red.lastClaim, s.red.sentClaims, rfl⟩

theorem claimUpdate_claims (s : State) : ∃ c l, s.claimUpdate = { s with red := { s.red with lastClaim := c, sentClaims := l } } := by
  unfold State.claimUpdate
  split
  · exact sendClaim_claims s
  · exact ⟨s.red.lastClaim, s.red.sentClaims, rfl⟩

theorem claimUpdate_regs (s : State) : s.claimUpdate.regs = s.regs := by
  obtain ⟨c, l, h⟩ := claimUpdate_claims s
  rw [h]

theorem claimUpdate_quiet (s : State) : Quiet s s.claimUpdate := by
  obtain ⟨c, l, h⟩ := claimUpdate_claims s
  rw [h]
  exact quiet_of_regs rfl rfl

/-! ## What no event writes -/

/-- RELEASE_BLOCKED, and whether a replay runs the plate of the free slot: recording an event leaves both alone, of which `Quiet` says
nothing. -/
def spared (s : State) : Nat × Bool := (s.get Reg.RED_STAT_RELEASE_BLOCKED, s.cap.replayFree)

theorem spared_set_other (s : State) (f : Fld) (v : Nat) (h : Reg.RED_STAT_RELEASE_BLOCKED.key 0 ≠ f.key 0) :
    spared (s.set f v) = spared s := Prod.ext (get_set_other _ _ _ _ _ _ h) rfl

theorem spared_closeRecord (s : State) (c : Nat) : spared (s.closeRecord c) = spared s := by
  unfold State.closeRecord
  split <;> rfl

theorem spared_closeIfDue (s : State) (c v t : Nat) (b : Bool) : spared (s.closeIfDue c v t b) = spared s := by
  unfold State.closeIfDue
  split
  · rfl
  · dsimp only
    split
    · exact spared_closeRecord ..
    · split
      · exact spared_closeRecord ..
      · rfl

theorem spared_openRecord {s u : State} {c v t : Nat} (h : s.openRecord c v t = some u) : spared u = spared s := by
  obtain ⟨_, -, rfl⟩ := Option.map_eq_some_iff.1 h
  rfl

/-- The record that an event is merged into: the open one of its code, or one opened for it. -/
theorem spared_openedRecord {s u : State} {o : Option Record} {c v t : Nat}
    (h : (match o with | some _ => some s | none => s.openRecord c v t) = some u) : spared u = spared s := by
  cases o with
  | some _ => cases h; rfl
  | none => exact spared_openRecord h

theorem spared_mergeEvent (s : State) (c v w t : Nat) (b : Bool) : spared (s.mergeEvent c v w t b) = spared s := by
  rw [← spared_closeIfDue s c w t b]
  unfold State.mergeEvent
  generalize s.closeIfDue c w t b = u
  dsimp only
  split
  · exact spared_set_other _ _ _ (by decide)
  · next h =>
    have hx := spared_openedRecord h
    split
    · exact hx
    · exact hx

theorem spared_mergeSuppressed (s : State) (c v k t : Nat) : spared (s.mergeSuppressed c v k t) = spared s := by
  unfold State.mergeSuppressed
  dsimp only
  split
  · exact spared_set_other _ _ _ (by decide)
  · next h =>
    have hx := spared_openedRecord h
    split
    · exact hx
    · exact hx

theorem spared_pendEvent (s : State) (e : PendEntry) : spared (s.pendEvent e) = spared s := by
  have hcount : spared (s.count Reg.REC_LOSS_PEND_DROP) = spared s := spared_set_other _ _ _ (by decide)
  unfold State.pendEvent
  split
  · rfl
  · dsimp only
    (repeat' split) <;> exact hcount

theorem spared_captureTrigger (s : State) (v : Nat) : spared (s.captureTrigger v) = spared s := by
  unfold State.captureTrigger
  split
  · exact spared_set_other s Reg.CAP_STAT_STATE 2 (by decide)
  · rfl

theorem spared_raiseWith (s : State) (c v : Nat) : spared (s.raiseWith c v) = spared s := by
  unfold State.raiseWith
  dsimp only
  split
  · split
    · rw [spared_pendEvent, spared_captureTrigger]
      rfl
    · rw [spared_mergeEvent, spared_captureTrigger]
      rfl
  · split
    · rfl
    · rw [spared_mergeSuppressed]
      rfl

theorem spared_raise (s : State) (c : Nat) : spared (s.raise c) = spared s := spared_raiseWith ..

/-! ## The commands (R337, R339, R340, R343) -/

/-- The words RELEASE, JOIN, PROOF_TEST and ISOLATE of RED_CMD. -/
theorem commandWord_release : CommandWord 0x0F0010 1 := ⟨_, rfl, fun _ => rfl⟩
theorem commandWord_join : CommandWord 0x0F0010 2 := ⟨_, rfl, fun _ => rfl⟩
theorem commandWord_proofTest : CommandWord 0x0F0010 4 := ⟨_, rfl, fun _ => rfl⟩
theorem commandWord_isolate : CommandWord 0x0F0010 8 := ⟨_, rfl, fun _ => rfl⟩

section
variable (t : State) (p : Path)

theorem redCmd_release : t.command p 0x0F0010 0 1 = orElse t t.redRelease := by
  show orElse t (t.redCmd 1) = _
  simp [State.redCmd, bitAt]

theorem redCmd_join : t.command p 0x0F0010 0 2 = orElse t t.redJoin := by
  show orElse t (t.redCmd 2) = _
  simp [State.redCmd, bitAt]

theorem redCmd_proofTest : t.command p 0x0F0010 0 4 = orElse t t.redProofTest := by
  show orElse t (t.redCmd 4) = _
  simp [State.redCmd, bitAt]

theorem redCmd_isolate : t.command p 0x0F0010 0 8 = orElse t t.redIsolate := by
  show orElse t (t.redCmd 8) = _
  simp [State.redCmd, bitAt]

@[simp] theorem touch_red (s : State) : (s.touch p).red = s.red := by obtain ⟨h, e⟩ := touch_host s p; rw [e]
@[simp] theorem touch_successor (s : State) : (s.touch p).successor = s.successor := by obtain ⟨h, e⟩ := touch_host s p; rw [e]; rfl
@[simp] theorem touch_syncedPartner (s : State) : (s.touch p).syncedPartner = s.syncedPartner := by
  obtain ⟨h, e⟩ := touch_host s p; rw [e]; rfl

/-! ### RELEASE -/

theorem redRelease_notActive (h : t.role ≠ 2) : t.redRelease = (.role, t) := if_pos h

theorem redRelease_decides (hrole : t.role = 2) (hnone : t.red.release = none) (hgroup : t.grouped = true) (hnext : t.successor = true) :
    t.redRelease = (.done, t.release) := by
  unfold State.redRelease
  rw [if_neg (not_not_intro hrole), hnone, hgroup, hnext]
  rfl

theorem redRelease_none (hrole : t.role = 2) (hnone : t.red.release = none) (h : t.grouped = false ∨ t.successor = false) :
    t.redRelease = (.state, t) := by
  unfold State.redRelease
  rw [if_neg (not_not_intro hrole), hnone]
  have hno : (t.grouped && t.successor) = false := Bool.and_eq_false_iff.2 h
  rw [hno]
  rfl

/-- A decided release: noted for its boundary, no longer blocked, and the part ACTIVE until then (R343, R344). -/
theorem release_spec : t.release.red.release = some t.boundarySkip ∧ t.release.flag Reg.RED_STAT_RELEASE_BLOCKED = false
    ∧ t.release.role = t.role ∧ OnlyIn id [] t t.release := by
  refine ⟨?_, ?_, Quiet.get (release_quiet t) _ _ (by decide), onlyIn_quiet (release_quiet t)⟩
  · unfold State.release
    obtain ⟨c, l, h⟩ := sendClaim_claims ((({ t with red := { t.red with release := some t.boundarySkip } }).setFlag
      Reg.RED_STAT_RELEASE_BLOCKED false).raise 0x0C02)
    rw [h]
    show (State.raise _ _).red.release = _
    rw [raise_red]
    rfl
  · unfold State.release
    obtain ⟨c, l, h⟩ := sendClaim_claims ((({ t with red := { t.red with release := some t.boundarySkip } }).setFlag
      Reg.RED_STAT_RELEASE_BLOCKED false).raise 0x0C02)
    rw [h]
    have hclear : State.get (({ t with red := { t.red with release := some t.boundarySkip } }).setFlag Reg.RED_STAT_RELEASE_BLOCKED false)
      Reg.RED_STAT_RELEASE_BLOCKED = 0 := get_set_same ..
    have hraised := (congrArg Prod.fst (spared_raise _ 0x0C02) :).trans hclear
    unfold State.flag
    exact decide_eq_false (fun hone => absurd (hone.symm.trans hraised) (by decide))

/-! ### JOIN -/

/-- An unsynchronised standby, its admissions not yet failed (R339). -/
def joining : State := (({ t with red := { t.red with failures := 0 } }).set Reg.RED_STAT_ROLE 1).set Reg.RED_STAT_SYNC_STATE 4

theorem redJoin_fits (hrole : t.role = 0) (hgroup : t.grouped = true) (hplate : t.flag Reg.RED_STAT_PLATE_DIFF = false) :
    t.redJoin = (.done, (joining t).claimUpdate) := by
  unfold State.redJoin
  exact if_neg (by simp [hrole, hgroup, hplate])

theorem redJoin_refused (h : t.role ≠ 0 ∨ t.grouped = false ∨ t.flag Reg.RED_STAT_PLATE_DIFF = true) : t.redJoin = (.state, t) := if_pos h

theorem redJoin_spec : (joining t).claimUpdate.role = 1 ∧ (joining t).claimUpdate.sync = 4 ∧ (joining t).claimUpdate.red.failures = 0
    ∧ OnlyIn id [Reg.RED_STAT_ROLE.key 0, Reg.RED_STAT_SYNC_STATE.key 0] t (joining t).claimUpdate := by
  have hregs := claimUpdate_regs (joining t)
  refine ⟨(get_of_regs hregs ..).trans ?_, (get_of_regs hregs ..).trans (get_set_same ..), ?_, ?_⟩
  · exact (get_set_other _ _ _ _ _ _ (by decide)).trans (get_set_same ..)
  · obtain ⟨c, l, h⟩ := claimUpdate_claims (joining t)
    rw [h]
    rfl
  · refine onlyIn_trans (onlyIn_set_after (onlyIn_set_after ?_ _ _ _ (by simp)) _ _ _ (by simp)) (onlyIn_quiet (claimUpdate_quiet _))
    exact onlyIn_of_regs rfl rfl

/-! ### PROOF_TEST and ISOLATE -/

theorem redProofTest_notActive (h : t.role ≠ 2) : t.redProofTest = (.role, t) := if_pos h

theorem redProofTest_busy (hrole : t.role = 2) (h : t.red.admission ≠ .none) : t.redProofTest = (.state, t) :=
  (if_neg (not_not_intro hrole)).trans (if_pos (.inl h))

theorem redProofTest_starts {k : Nat} (hrole : t.role = 2) (hgroup : t.grouped = true) (hfree : t.red.admission = .none)
    (hpartner : t.syncedPartner = some k) :
    t.redProofTest = (.done, { t with red := { t.red with admission := .entry, admitUnit := k, admitRun := 0, proofTest := true } }) := by
  unfold State.redProofTest
  rw [if_neg (not_not_intro hrole), if_neg (by simp [hgroup, hfree]), hpartner]

theorem redIsolate_active (h : t.role = 2) : t.redIsolate = (.role, t) := if_pos h

theorem redIsolate_leaves (h : t.role ≠ 2) : t.redIsolate = (.done, t.isolate.claimUpdate) := if_neg h

theorem isolate_spec : t.isolate.claimUpdate.role = 0 ∧ t.isolate.claimUpdate.sync = 0 ∧ t.isolate.claimUpdate.red.admission = .none
    ∧ t.isolate.claimUpdate.red.release = none
    ∧ OnlyIn id [Reg.RED_STAT_ROLE.key 0, Reg.RED_STAT_SYNC_STATE.key 0] t t.isolate.claimUpdate := by
  have hregs := claimUpdate_regs t.isolate
  have hred : t.isolate.claimUpdate.red.admission = .none ∧ t.isolate.claimUpdate.red.release = none := by
    obtain ⟨c, l, h⟩ := claimUpdate_claims t.isolate
    rw [h]
    exact ⟨rfl, rfl⟩
  refine ⟨(get_of_regs hregs ..).trans ?_, (get_of_regs hregs ..).trans (get_set_same ..), hred.1, hred.2, ?_⟩
  · exact (get_set_other _ _ _ _ _ _ (by decide)).trans (get_set_same ..)
  · refine onlyIn_trans ?_ (onlyIn_quiet (claimUpdate_quiet _))
    unfold State.isolate
    refine onlyIn_set_after (onlyIn_set_after ?_ _ _ _ (by simp)) _ _ _ (by simp)
    exact onlyIn_of_regs rfl rfl

end

/-- Settles O54: each command is its operation on the touched state. -/
theorem redundancyCommands : Obligations.RedundancyCommands := by
  intro s p htakes t quiet
  have hrole : t.role = s.role := touch_role ..
  have hgroup : t.grouped = s.grouped := touch_grouped ..
  have hred : t.red = s.red := touch_red ..
  have hnext : t.successor = s.successor := touch_successor ..
  have hsynced : t.syncedPartner = s.syncedPartner := touch_syncedPartner ..
  have hdiff : t.flag Reg.RED_STAT_PLATE_DIFF = s.flag Reg.RED_STAT_PLATE_DIFF := touch_flag ..
  have hskip : t.boundarySkip = s.boundarySkip := touch_boundarySkip ..
  rw [← hrole, ← hgroup, ← hred, ← hnext, ← hsynced, ← hdiff, ← hskip]
  have hrelease {st u} (h : t.redRelease = (st, u)) : t.command p 0x0F0010 0 1 = orElse t (st, u) := (redCmd_release t p).trans (congrArg _ h)
  have hjoin {st u} (h : t.redJoin = (st, u)) : t.command p 0x0F0010 0 2 = orElse t (st, u) := (redCmd_join t p).trans (congrArg _ h)
  have htest {st u} (h : t.redProofTest = (st, u)) : t.command p 0x0F0010 0 4 = orElse t (st, u) := (redCmd_proofTest t p).trans (congrArg _ h)
  have hleave {st u} (h : t.redIsolate = (st, u)) : t.command p 0x0F0010 0 8 = orElse t (st, u) := (redCmd_isolate t p).trans (congrArg _ h)
  refine ⟨fun h => ?_, fun h hnone hg hs => ?_, fun h hnone hg => ?_, fun h hg hp => ?_, fun h => ?_, fun h => ?_, fun k h hg hfree hk => ?_,
    fun h hbusy => ?_, fun h => ?_, fun h => ?_⟩
  · exact answers_of_command rfl commandWord_release htakes (hrelease (redRelease_notActive t h)) rfl
  · obtain ⟨hdecided, hclear, hstays, hquiet⟩ := release_spec t
    exact answers_of_command rfl commandWord_release htakes (hrelease (redRelease_decides t h hnone hg hs)) ⟨hdecided, hclear, hstays.trans h, hquiet⟩
  · exact answers_of_command rfl commandWord_release htakes (hrelease (redRelease_none t h hnone hg)) rfl
  · exact answers_of_command rfl commandWord_join htakes (hjoin (redJoin_fits t h hg hp)) (redJoin_spec t)
  · exact answers_of_command rfl commandWord_join htakes (hjoin (redJoin_refused t h)) rfl
  · exact answers_of_command rfl commandWord_proofTest htakes (htest (redProofTest_notActive t h)) rfl
  · exact answers_of_command rfl commandWord_proofTest htakes (htest (redProofTest_starts t h hg hfree hk)) rfl
  · exact answers_of_command rfl commandWord_proofTest htakes (htest (redProofTest_busy t h hbusy)) rfl
  · exact answers_of_command rfl commandWord_isolate htakes (hleave (redIsolate_leaves t h)) (isolate_spec t)
  · exact answers_of_command rfl commandWord_isolate htakes (hleave (redIsolate_active t h)) rfl

end Sys2Proof.Proofs
end

section
/-! Release, takeover, yield, heartbeats and a lost partner; the statement on them (O55). -/

namespace Sys2Proof.Proofs
open Sys2Proof Sys2Proof.Machine Sys2Proof.Laws

/-! ## A role change at a boundary (R344, R345, R346, R348) -/

/-- What a role change leaves alone: from v to u only the safety block, the plate's arming, the fields of the role, and what events may
change are touched. -/
abbrev RoleOnly (v u : State) : Prop :=
  OnlyIn (fun t => { t with safe := {}, plate := {} })
    [Reg.RED_STAT_ROLE.key 0, Reg.RED_STAT_SYNC_STATE.key 0, Reg.RED_STAT_EPOCH.key 0, Reg.PLATE_STAT_SLOT_STATE.key 0] v u

/-- Points, pump, cycle count, operating state and fuses stay, and the next boundary is reached. -/
def StillAt (s u : State) : Prop :=
  u.points = s.points ∧ u.pump = s.pump ∧ u.n = s.n ∧ u.mode = s.mode ∧ u.fuses = s.fuses ∧ s.nextBnd ≤ u.now

theorem stillAt_of_roleOnly {s u : State} (h : RoleOnly (s.advanceTo s.nextBnd) u) : StillAt s u := by
  obtain ⟨-, hrest⟩ := h
  have hnow : u.now = (s.advanceTo s.nextBnd).now := (congrArg State.now hrest :)
  refine ⟨(congrArg State.points hrest :), (congrArg State.pump hrest :), (congrArg State.n hrest :), (congrArg State.mode hrest :),
    (congrArg State.fuses hrest :), ?_⟩
  rw [hnow, advanceTo_now]
  exact le_max_right ..

theorem safeRefresh_roleOnly (s : State) : RoleOnly s s.safeRefresh :=
  onlyIn_of_regs (safeRefresh_regs s) (by dsimp only [State.safeRefresh, State.quietRest])

theorem safeRefresh_red (s : State) : s.safeRefresh.red = s.red := by dsimp only [State.safeRefresh]

theorem swapCancelled_roleOnly (s : State) : RoleOnly s s.swapCancelled := by
  unfold State.swapCancelled
  split
  · refine onlyIn_set_after ?_ _ _ _ (by simp)
    exact onlyIn_of_regs rfl rfl
  · exact onlyIn_refl s

theorem swapCancelled_red (s : State) : s.swapCancelled.red = s.red := by
  unfold State.swapCancelled
  split <;> rfl

theorem swapCancelled_get (s : State) {f : Fld} (h : f.key 0 ≠ Reg.PLATE_STAT_SLOT_STATE.key 0) : s.swapCancelled.get f = s.get f := by
  unfold State.swapCancelled
  split
  · exact get_set_other _ _ _ _ _ _ h
  · rfl

/-- The block as a part that takes ACTIVE in cycle k holds it. -/
def tookRed (s : State) (k : Nat) (keep : Bool) : RedState :=
  { s.red with released := none, echoMajority := false, beatTake := false, yieldTo := none, admission := .none, segments := [], forwards := [],
               lastProof := keep, takeovers := satInc 32 s.red.takeovers, takeCycle := k % 4294967296 }

/-- ROLE, SYNC_STATE and EPOCH are written. -/
def roleSet (s : State) (r : RedState) (role sync epoch : Nat) : State :=
  (({ s with red := r }.set Reg.RED_STAT_ROLE role).set Reg.RED_STAT_SYNC_STATE sync).set Reg.RED_STAT_EPOCH epoch

theorem roleSet_roleOnly (s : State) (r : RedState) (role sync epoch : Nat) : RoleOnly s (roleSet s r role sync epoch) := by
  refine onlyIn_set_after (onlyIn_set_after (onlyIn_set_after ?_ _ _ _ (by simp)) _ _ _ (by simp)) _ _ _ (by simp)
  exact onlyIn_of_regs rfl rfl

theorem roleSet_fields (s : State) (r : RedState) (role sync epoch : Nat) : (roleSet s r role sync epoch).role = role % 4
    ∧ (roleSet s r role sync epoch).sync = sync % 8 ∧ (roleSet s r role sync epoch).get Reg.RED_STAT_EPOCH = epoch % 128 := by
  refine ⟨?_, ?_, get_set_same ..⟩
  · exact (get_set_other _ _ _ _ _ _ (by decide)).trans ((get_set_other _ _ _ _ _ _ (by decide)).trans (get_set_same ..))
  · exact (get_set_other _ _ _ _ _ _ (by decide)).trans (get_set_same ..)

/-- An armed swap that is not confirmed is dropped (R145). -/
def swapSettled (v : State) : State := if v.plate.confirmed then v else v.swapCancelled

theorem swapSettled_roleOnly (v : State) : RoleOnly v (swapSettled v) := by
  unfold swapSettled
  split
  · exact onlyIn_refl v
  · exact swapCancelled_roleOnly v

theorem swapSettled_red (v : State) : (swapSettled v).red = v.red := by
  unfold swapSettled
  split
  · rfl
  · exact swapCancelled_red v

theorem swapSettled_get (v : State) {f : Fld} (h : f.key 0 ≠ Reg.PLATE_STAT_SLOT_STATE.key 0) : (swapSettled v).get f = v.get f := by
  unfold swapSettled
  split
  · rfl
  · exact swapCancelled_get v h

theorem takeActive_eq (s : State) (k epoch : Nat) (fromRelease : Bool) : ∃ keep, s.takeActive k epoch fromRelease
    = ((swapSettled (roleSet s (tookRed s k keep) 2 0 epoch)).raise 0x0C01).safeRefresh := ⟨_, rfl⟩

/-- A part takes ACTIVE: its role fields and the block's counts (R345, R346). -/
theorem takeActive_spec (s : State) (k epoch : Nat) (fromRelease : Bool) :
    (s.takeActive k epoch fromRelease).role = 2 ∧ (s.takeActive k epoch fromRelease).sync = 0
      ∧ (s.takeActive k epoch fromRelease).get Reg.RED_STAT_EPOCH = epoch % 128
      ∧ (∃ keep, (s.takeActive k epoch fromRelease).red = tookRed s k keep) ∧ RoleOnly s (s.takeActive k epoch fromRelease) := by
  obtain ⟨keep, htake⟩ := takeActive_eq s k epoch fromRelease
  rw [htake]
  obtain ⟨hrole, hsync, hepoch⟩ := roleSet_fields s (tookRed s k keep) 2 0 epoch
  have honly := roleSet_roleOnly s (tookRed s k keep) 2 0 epoch
  have hred : (roleSet s (tookRed s k keep) 2 0 epoch).red = tookRed s k keep := rfl
  generalize roleSet s (tookRed s k keep) 2 0 epoch = v at *
  have hget {f : Fld} (hslot : f.key 0 ≠ Reg.PLATE_STAT_SLOT_STATE.key 0) (hq : f.key 0 ∉ quietKeys) :
      ((swapSettled v).raise 0x0C01).safeRefresh.get f = v.get f :=
    (get_of_regs (safeRefresh_regs _) ..).trans ((Quiet.get (raise_quiet _ _) _ _ hq).trans (swapSettled_get v hslot))
  refine ⟨(hget (by decide) (by decide)).trans hrole, (hget (by decide) (by decide)).trans hsync,
    (hget (by decide) (by decide)).trans hepoch, ⟨keep, ?_⟩, ?_⟩
  · rw [safeRefresh_red, raise_red, swapSettled_red, hred]
  · exact onlyIn_trans honly (onlyIn_trans (swapSettled_roleOnly v) (onlyIn_trans (onlyIn_quiet (raise_quiet _ _)) (safeRefresh_roleOnly _)))

/-- A part that has taken ACTIVE with the next EPOCH, for the cycle that begins (R345, R346). -/
def Took (s u : State) : Prop :=
  u.role = 2 ∧ u.sync = 0 ∧ u.get Reg.RED_STAT_EPOCH = s.nextEpoch ∧ u.red.takeovers = satInc 32 s.red.takeovers
    ∧ u.red.takeCycle = (s.n + 1) % 2 ^ 32 ∧ u.red.released = none ∧ u.red.echoMajority = false ∧ StillAt s u

theorem nextEpoch_lt (s : State) : s.nextEpoch < 128 := Nat.mod_lt _ (by decide)

theorem took_takeActive (s : State) (fromRelease : Bool) :
    Took s ((s.advanceTo s.nextBnd).takeActive (s.n + 1) s.nextEpoch fromRelease) := by
  obtain ⟨hrole, hsync, hepoch, ⟨keep, hred⟩, honly⟩ := takeActive_spec (s.advanceTo s.nextBnd) (s.n + 1) s.nextEpoch fromRelease
  unfold Took
  rw [hred]
  exact ⟨hrole, hsync, hepoch.trans (Nat.mod_eq_of_lt (nextEpoch_lt s)), rfl, rfl, rfl, rfl, stillAt_of_roleOnly honly⟩

/-! ## The rows -/

theorem roleRow_due {s : State} {due : Bool} (f : State → State) (hg : s.grouped = true) (hr : s.running = true) (hdue : due = true) :
    s.roleRow due f = f (s.advanceTo s.nextBnd) := by
  unfold State.roleRow
  rw [hg, hr, hdue]
  rfl

theorem roleRow_idle {s : State} {due : Bool} (f : State → State) (hdue : due = false) : s.roleRow due f = s := by
  unfold State.roleRow
  rw [hdue, Bool.and_false]
  rfl

theorem takeover_due {s : State} {k : Nat} (hg : s.grouped = true) (hr : s.running = true) (hrole : s.role = 1) (hrun : s.mode = .run)
    (hrel : s.red.released = some k) (hk : k + 5000 ≤ s.boundaryUp) : Took s s.takeover := by
  have hdue : s.takeoverDue = true := by
    unfold State.takeoverDue
    rw [hrel]
    simp [hrole, hrun, hk]
  unfold State.takeover
  rw [roleRow_due _ hg hr hdue]
  exact took_takeActive s true

theorem takeover_idle {s : State} (h : s.role ≠ 1 ∨ s.red.released = none) : s.takeover = s := by
  refine roleRow_idle _ ?_
  unfold State.takeoverDue
  obtain hrole | hnone := h
  · rw [decide_eq_false hrole]
    rfl
  · rw [hnone]
    exact Bool.and_false _

theorem takeoverByEcho_due {s : State} (hg : s.grouped = true) (hr : s.running = true) (hrole : s.role = 1) (hrun : s.mode = .run)
    (hecho : s.red.echoMajority = true) : Took s s.takeoverByEcho := by
  unfold State.takeoverByEcho
  rw [roleRow_due _ hg hr hecho]
  unfold State.takeoverByEchoAt
  rw [if_pos ⟨hrole, hrun, hecho⟩]
  exact took_takeActive s false

theorem releaseTakeEffect_due {s : State} (hg : s.grouped = true) (hr : s.running = true) (hrel : s.red.release = some 0) :
    s.releaseTakeEffect = (((({ s.advanceTo s.nextBnd with red := { s.red with release := none, admission := .none, proofFrom := s.n + 1 } }).set
      Reg.RED_STAT_ROLE 1).set Reg.RED_STAT_SYNC_STATE 3).safeRefresh) := by
  unfold State.releaseTakeEffect
  rw [roleRow_due _ hg hr (decide_eq_true hrel)]
  unfold State.releaseAt
  rw [advanceTo_red, hrel]

theorem releaseTakeEffect_spec {s : State} (hg : s.grouped = true) (hr : s.running = true) (hrel : s.red.release = some 0) :
    s.releaseTakeEffect.role = 1 ∧ s.releaseTakeEffect.sync = 3 ∧ s.releaseTakeEffect.red.release = none
      ∧ s.releaseTakeEffect.red.proofFrom = s.n + 1 ∧ StillAt s s.releaseTakeEffect := by
  rw [releaseTakeEffect_due hg hr hrel]
  refine ⟨(get_of_regs (safeRefresh_regs _) ..).trans ?_, (get_of_regs (safeRefresh_regs _) ..).trans (get_set_same ..), ?_, ?_, ?_⟩
  · exact (get_set_other _ _ _ _ _ _ (by decide)).trans (get_set_same ..)
  · rw [safeRefresh_red]
    rfl
  · rw [safeRefresh_red]
    rfl
  · refine stillAt_of_roleOnly (onlyIn_trans (onlyIn_set_after (onlyIn_set_after ?_ _ _ _ (by simp)) _ _ _ (by simp)) (safeRefresh_roleOnly _))
    exact onlyIn_of_regs rfl rfl

/-- The block as an ACTIVE part that yields for the next cycle holds it. -/
def yieldedRed (s : State) : RedState :=
  { s.red with yieldTo := none, release := none, admission := .none, lastProof := false, proofFrom := s.n + 1 }

theorem activeYield_due {s : State} {w : BitVec 16} (hg : s.grouped = true) (hr : s.running = true) (hrole : s.role = 2)
    (hyield : s.red.yieldTo = some w) :
    s.activeYield = (((roleSet (s.advanceTo s.nextBnd) (yieldedRed s) 1 4 (bitsAt w.toNat 8 7)).setFlag Reg.RED_STAT_RELEASE_BLOCKED
      false).raise 0x0C09).safeRefresh := by
  unfold State.activeYield
  rw [roleRow_due _ hg hr (by rw [hyield]; rfl)]
  unfold State.yieldAt
  rw [advanceTo_red, hyield]
  exact if_pos hrole

theorem activeYield_spec {s : State} {w : BitVec 16} (hg : s.grouped = true) (hr : s.running = true) (hrole : s.role = 2)
    (hyield : s.red.yieldTo = some w) :
    s.activeYield.role = 1 ∧ s.activeYield.sync = 4 ∧ s.activeYield.get Reg.RED_STAT_EPOCH = bitsAt w.toNat 8 7
      ∧ s.activeYield.red.yieldTo = none ∧ s.activeYield.red.release = none ∧ StillAt s s.activeYield := by
  rw [activeYield_due hg hr hrole hyield]
  have hepoch : bitsAt w.toNat 8 7 % 128 = bitsAt w.toNat 8 7 := Nat.mod_mod ..
  have hred : (roleSet (s.advanceTo s.nextBnd) (yieldedRed s) 1 4 (bitsAt w.toNat 8 7)).red = yieldedRed s := rfl
  obtain ⟨h1, h2, h3⟩ := roleSet_fields (s.advanceTo s.nextBnd) (yieldedRed s) 1 4 (bitsAt w.toNat 8 7)
  have honly := roleSet_roleOnly (s.advanceTo s.nextBnd) (yieldedRed s) 1 4 (bitsAt w.toNat 8 7)
  rw [hepoch] at h3
  generalize roleSet (s.advanceTo s.nextBnd) _ 1 4 (bitsAt w.toNat 8 7) = v at *
  have hget {f : Fld} (hq : f.key 0 ∉ quietKeys) : ((v.setFlag Reg.RED_STAT_RELEASE_BLOCKED false).raise 0x0C09).safeRefresh.get f = v.get f :=
    (get_of_regs (safeRefresh_regs _) ..).trans ((Quiet.get (raise_quiet _ _) _ _ hq).trans
      (get_set_other _ _ _ _ _ _ (fun e => hq (e ▸ by decide))))
  rw [safeRefresh_red, raise_red]
  refine ⟨(hget (by decide)).trans h1, (hget (by decide)).trans h2, (hget (by decide)).trans h3, ?_, ?_, stillAt_of_roleOnly ?_⟩
  · exact congrArg RedState.yieldTo hred
  · exact congrArg RedState.release hred
  · exact onlyIn_trans honly (onlyIn_trans (onlyIn_quiet (quiet_trans (quiet_set v Reg.RED_STAT_RELEASE_BLOCKED _ (by decide)) (raise_quiet _ _)))
      (safeRefresh_roleOnly _))

/-! ## Heartbeats (R350) -/

theorem beatMiss_fresh {s : State} (a b : Bool) (h : s.red.beatAt ≠ some s.n) :
    ∃ e : Bool, s.beatMiss a b =
      let m1 := if a then min 255 (s.red.hbMiss1 + 1) else 0
      let m2 := if b then min 255 (s.red.hbMiss2 + 1) else 0
      let t := { s with red := { s.red with hbMiss1 := m1, hbMiss2 := m2, beatAt := some s.n, beatTake := decide (3 ≤ m1 ∧ 3 ≤ m2) } }
      if e then t.raise 0x0C0C else t := ⟨_, if_neg h⟩

theorem beatMiss_spec {s : State} (a b : Bool) (h : s.red.beatAt ≠ some s.n) :
    (s.beatMiss a b).red.hbMiss1 = (if a then min 255 (s.red.hbMiss1 + 1) else 0)
      ∧ (s.beatMiss a b).red.hbMiss2 = (if b then min 255 (s.red.hbMiss2 + 1) else 0)
      ∧ ((s.beatMiss a b).red.beatTake = true ↔ 3 ≤ (if a then min 255 (s.red.hbMiss1 + 1) else 0)
        ∧ 3 ≤ (if b then min 255 (s.red.hbMiss2 + 1) else 0))
      ∧ (s.beatMiss a b).red.beatAt = some s.n ∧ OnlyIn id [] s (s.beatMiss a b) := by
  obtain ⟨e, heq⟩ := beatMiss_fresh a b h
  rw [heq]
  dsimp only
  generalize (if a then min 255 (s.red.hbMiss1 + 1) else 0) = m1
  generalize (if b then min 255 (s.red.hbMiss2 + 1) else 0) = m2
  have honly : OnlyIn id [] s { s with red := { s.red with hbMiss1 := m1, hbMiss2 := m2, beatAt := some s.n, beatTake := decide (3 ≤ m1 ∧ 3 ≤ m2) } } :=
    onlyIn_of_regs rfl rfl
  cases e with
  | true =>
    rw [if_pos rfl, raise_red]
    exact ⟨rfl, rfl, decide_eq_true_iff, rfl, onlyIn_trans honly (onlyIn_quiet (raise_quiet _ _))⟩
  | false => exact ⟨rfl, rfl, decide_eq_true_iff, rfl, honly⟩

theorem heartbeatMiss_watching {s : State} (a b : Bool) (h : s.get Reg.RED_CFG_MODE = 2 ∧ s.role = 1 ∧ s.mode = .run) :
    s.heartbeatMiss a b = s.beatMiss a b := by
  obtain ⟨hmode, hrole, hrun⟩ := h
  unfold State.heartbeatMiss State.watchesBeat
  rw [decide_eq_true ⟨hmode, hrole⟩, decide_eq_true hrun]
  rfl

theorem heartbeatMiss_idle {s : State} (a b : Bool) (h : ¬ (s.get Reg.RED_CFG_MODE = 2 ∧ s.role = 1 ∧ s.mode = .run)) :
    s.heartbeatMiss a b = s := by
  unfold State.heartbeatMiss State.watchesBeat
  refine if_neg (fun hw => h ?_)
  obtain ⟨hmode, hrun⟩ := Bool.and_eq_true_iff.1 hw
  obtain ⟨hmode, hrole⟩ := of_decide_eq_true hmode
  exact ⟨hmode, hrole, of_decide_eq_true hrun⟩

/-! ## Partners (R325) -/

theorem partner_unit {s : State} {c : Nat} {q : Partner} (h : s.partner c = some q) : q.unit = c :=
  of_decide_eq_true (List.find?_some h :)

/-- A partner put into the list is the one found there; the others are found as before. -/
theorem find_putPartner (p : Partner) (l : List Partner) (d : Nat) :
    (putPartner p l).find? (fun x => decide (x.unit = d)) = if d = p.unit then some p else l.find? (fun x => decide (x.unit = d)) := by
  induction l with
  | nil => simp [putPartner, List.find?, eq_comm]
  | cons q t ih =>
    unfold putPartner
    split
    · by_cases hd : d = p.unit
      · subst hd
        simp
      · simp [List.find?_cons, hd, Ne.symm hd]
    · split
      · next heq =>
        by_cases hd : d = p.unit
        · subst hd
          simp
        · have hq : q.unit ≠ d := fun h => hd (h ▸ heq.symm)
          simp [hd, Ne.symm hd, hq]
      · next hne =>
        rw [List.find?_cons, List.find?_cons, ih]
        by_cases hq : q.unit = d
        · have hd : d ≠ p.unit := fun h => hne (h ▸ hq.symm)
          simp [hq, hd]
        · simp [hq]

theorem healthCheck_partners (s : State) : s.healthCheck.red.partners = s.red.partners :=
  (congrArg RedState.partners (healthCheck_claimsOnly s) :)

theorem partnerLost_none {s : State} {c : Nat} (h : s.partner c = none) : s.partnerLost c = s := by
  unfold State.partnerLost
  rw [h]

theorem partnerLost_silent {s : State} {c : Nat} {q : Partner} (h : s.partner c = some q) (hreach : q.reachable = true)
    (hsilent : q.last + s.get Reg.RED_CLAIM_CFG_CLAIM_WIN < s.n) :
    s.partnerLost c = (({ s with red := { s.red with partners := putPartner { q with reachable := false } s.red.partners } }).raise
      0x0C08).healthCheck := by
  unfold State.partnerLost State.partnerSilent
  rw [h]
  exact if_pos (by rw [hreach, decide_eq_true hsilent]; rfl)

theorem partnerLost_spec {s : State} {c : Nat} {q : Partner} (h : s.partner c = some q) (hreach : q.reachable = true)
    (hsilent : q.last + s.get Reg.RED_CLAIM_CFG_CLAIM_WIN < s.n) :
    (s.partnerLost c).partner c = some { q with reachable := false } ∧ (∀ d, d ≠ c → (s.partnerLost c).partner d = s.partner d)
      ∧ OnlyIn id [] s (s.partnerLost c) := by
  have hpartners : (s.partnerLost c).red.partners = putPartner { q with reachable := false } s.red.partners := by
    rw [partnerLost_silent h hreach hsilent, healthCheck_partners, raise_red]
  have hunit := partner_unit h
  refine ⟨?_, fun d hd => ?_, ?_⟩
  · unfold State.partner
    rw [hpartners, find_putPartner]
    exact if_pos hunit.symm
  · unfold State.partner
    rw [hpartners, find_putPartner]
    exact if_neg (fun e => hd (e.trans hunit))
  · rw [partnerLost_silent h hreach hsilent]
    refine onlyIn_trans ?_ (onlyIn_quiet (quiet_trans (raise_quiet _ 0x0C08) (healthCheck_quiet _)))
    exact onlyIn_of_regs rfl rfl

/-- Settles O55, row by row: the role changes reach the boundary and write the role; without their request they change nothing. -/
theorem roleChanges : Obligations.RoleChanges := by
  intro s a b k c w q still took miss beats
  refine ⟨fun hg hr hrole hrun hrel hk => ⟨_, rfl, takeover_due hg hr hrole hrun hrel hk⟩,
    fun hg hr hrole hrun hecho => ⟨_, rfl, takeoverByEcho_due hg hr hrole hrun hecho⟩,
    fun hg hr hrel => ⟨_, rfl, releaseTakeEffect_spec hg hr hrel⟩, fun hg hr hrole hy => ⟨_, rfl, activeYield_spec hg hr hrole hy⟩,
    fun hbeats hfresh => ⟨_, rfl, ?_⟩, fun hbeats hdone => ⟨_, rfl, ?_⟩, fun hq hreach hsilent => ⟨_, rfl, partnerLost_spec hq hreach hsilent⟩,
    fun h => ⟨_, rfl, takeover_idle h⟩, fun h => ⟨_, rfl, roleRow_idle _ h⟩, fun h => ⟨_, rfl, roleRow_idle _ (decide_eq_false h)⟩,
    fun h => ⟨_, rfl, roleRow_idle _ (by rw [h]; rfl)⟩, fun h => ⟨_, rfl, heartbeatMiss_idle a b h⟩, fun h => ⟨_, rfl, partnerLost_none h⟩⟩
  · rw [heartbeatMiss_watching a b hbeats]
    exact beatMiss_spec a b hfresh
  · rw [heartbeatMiss_watching a b hbeats]
    exact if_pos hdone

end Sys2Proof.Proofs
end

section
/-! The writes of the recorder, its freeze, the commands of the capture ring and the end of a replay; the statement on them (O60). -/

namespace Sys2Proof.Proofs
open Sys2Proof Sys2Proof.Machine Sys2Proof.Laws

/-! ## RECORD_WRITE (R424, R426) -/

theorem writeRecord_held {s : State} (code : Nat) (h : s.slotsHeld = true) : s.writeRecord code = s := if_pos h

/-- The slot that the last write of a record did not take. -/
def nextSlot (rc : Record) : Nat := if rc.nextB then rc.slotB else rc.slotA

theorem writeRecord_spec {s : State} {code : Nat} {rc : Record} (hfree : s.slotsHeld = false) (hopen : storeFind s.rcd.opened code = some rc)
    (hdirty : rc.dirty = true) :
    (∃ v, storeFind (s.writeRecord code).rcd.opened code = some v ∧ v.dirty = false ∧ v.seq = s.rcd.seq + 1 ∧ v.nextB = !rc.nextB
        ∧ storeFind (s.writeRecord code).rcd.slots (nextSlot rc) = some v)
      ∧ (∀ k, k ≠ nextSlot rc → storeFind (s.writeRecord code).rcd.slots k = storeFind s.rcd.slots k)
      ∧ { s.writeRecord code with rcd := s.rcd } = s := by
  have hwrite : s.writeRecord code = { s with rcd := writeVersion s.rcd code rc false } := by
    unfold State.writeRecord
    rw [if_neg (Bool.eq_false_iff.1 hfree), hopen]
    exact if_pos hdirty
  rw [hwrite]
  refine ⟨⟨_, storeFind_put_same .., rfl, rfl, rfl, storeFind_put_same ..⟩, fun k hk => storeFind_put_other _ _ _ _ hk, rfl⟩

/-! ## REC_FREEZE_SET (R427) -/

/-- Nothing pending, nothing merged. -/
theorem mergePending_none {s : State} (hpend : s.rcd.pend = []) (hsupp : s.rcd.suppPend = []) : s.mergePending = s := by
  unfold State.mergePending
  have hsame : { s.rcd with pend := [] } = s.rcd := by rw [← hpend]
  split
  · rfl
  · rw [hpend, hsame]
    dsimp only [List.foldl_nil]
    rw [hsupp]
    dsimp only [List.foldl_nil]
    rw [← hsupp]

/-- The fields of REC_CTL that a transaction writes. -/
def rateFields : List Fld := [Reg.REC_CTL_RATE, Reg.REC_CTL_BURST, Reg.REC_CTL_INTERVAL]

/-- Every field of REC_CTL. -/
abbrev ctlFields : List Fld := Reg.REC_CTL_FREEZE :: rateFields

/-- The rates hold legal values. -/
def RatesLegal (s : State) : Prop := ∀ f ∈ rateFields, f.vmin ≤ s.get f ∧ s.get f ≤ f.vmax

theorem liveField_rate (s : State) {f : Fld} (h : f ∈ rateFields) : s.liveField true f 0 = s.get f := by
  simp only [rateFields, List.mem_cons, List.not_mem_nil, or_false] at h
  unfold State.liveField
  obtain rfl | rfl | rfl := h
  all_goals
    dsimp only [Reg.REC_CTL_RATE, Reg.REC_CTL_BURST, Reg.REC_CTL_INTERVAL]
    cases s.expert _ <;> rfl

theorem liveWord_rates (s : State) : s.liveWord true rateFields 0
    = s.get Reg.REC_CTL_RATE * 2 + s.get Reg.REC_CTL_BURST * 256 + s.get Reg.REC_CTL_INTERVAL * 65536 := by
  have hrate := liveField_rate s (f := Reg.REC_CTL_RATE) (by simp [rateFields])
  have hburst := liveField_rate s (f := Reg.REC_CTL_BURST) (by simp [rateFields])
  have hint := liveField_rate s (f := Reg.REC_CTL_INTERVAL) (by simp [rateFields])
  show 0 + s.liveField true Reg.REC_CTL_RATE 0 * 2 ^ 1 + s.liveField true Reg.REC_CTL_BURST 0 * 2 ^ 8
    + s.liveField true Reg.REC_CTL_INTERVAL 0 * 2 ^ 16 = _
  rw [hrate, hburst, hint, Nat.zero_add]
  rfl

/-- The word that REC_FREEZE_SET writes. -/
def freezeWord (s : State) (b : Bool) : Nat := s.liveWord true rateFields 0 + if b then 1 else 0

/-- It is legal, and its bit 0 is FREEZE. -/
theorem freezeWord_legal {s : State} (h : RatesLegal s) (b : Bool) : freezeWord s b < 2 ^ 32 ∧ bitAt (freezeWord s b) 0 = b
    ∧ fieldsOk ctlFields (freezeWord s b) = true := by
  have hrate := h Reg.REC_CTL_RATE (by simp [rateFields])
  have hburst := h Reg.REC_CTL_BURST (by simp [rateFields])
  have hint := h Reg.REC_CTL_INTERVAL (by simp [rateFields])
  replace hrate : 1 ≤ s.get Reg.REC_CTL_RATE ∧ s.get Reg.REC_CTL_RATE ≤ 100 := hrate
  replace hburst : 1 ≤ s.get Reg.REC_CTL_BURST ∧ s.get Reg.REC_CTL_BURST ≤ 255 := hburst
  replace hint : 1 ≤ s.get Reg.REC_CTL_INTERVAL ∧ s.get Reg.REC_CTL_INTERVAL ≤ 168 := hint
  unfold freezeWord
  rw [liveWord_rates, show (if b then 1 else 0) = b2n b from rfl]
  generalize s.get Reg.REC_CTL_RATE = r at *
  generalize s.get Reg.REC_CTL_BURST = u at *
  generalize s.get Reg.REC_CTL_INTERVAL = i at *
  have hb : b2n b < 2 := by cases b <;> decide
  refine ⟨by omega, ?_, ?_⟩
  · cases b with
    | true => exact decide_eq_true (show (_ + 1) / 1 % 2 = 1 by omega)
    | false => exact decide_eq_false (show ¬ (_ + 0) / 1 % 2 = 1 by omega)
  · have hfields : bitsAt (r * 2 + u * 256 + i * 65536 + b2n b) 0 1 = b2n b ∧ bitsAt (r * 2 + u * 256 + i * 65536 + b2n b) 1 7 = r
        ∧ bitsAt (r * 2 + u * 256 + i * 65536 + b2n b) 8 8 = u ∧ bitsAt (r * 2 + u * 256 + i * 65536 + b2n b) 16 8 = i := by
      unfold bitsAt
      omega
    obtain ⟨h0, h1, h8, h16⟩ := hfields
    simp [fieldsOk, ctlFields, rateFields, Reg.REC_CTL_FREEZE, Reg.REC_CTL_RATE, Reg.REC_CTL_BURST, Reg.REC_CTL_INTERVAL, h0, h1, h8, h16, hrate, hburst, hint]
    omega

/-- A legal write of REC_CTL over a path that takes it is the recorder's (R50 to R52, R427). -/
theorem recWrite_route {s : State} {p : Path} {v : Nat} (htakes : s.takes p 18 = true) (hfits : v < 2 ^ 32)
    (hfields : fieldsOk ctlFields v = true) :
    s.hostCmd p 0x120000 0 v = (((s.touch p).recWrite p { addr := 0x120000, index := 0, value := BitVec.ofNat 32 v }).2.answer p
      ((s.touch p).recWrite p { addr := 0x120000, index := 0, value := BitVec.ofNat 32 v }).1) := by
  obtain ⟨hup, hboot, hwrites, hhas, hlock⟩ := takes_iff.1 htakes
  obtain ⟨h, e⟩ := touch_host s p
  have htboot : (s.touch p).booted = true := by rw [e]; exact hboot
  have htwrites : (s.touch p).pathWrites p = true := by rw [e]; exact hwrites
  have hvalue : (BitVec.ofNat 32 v).toNat = v := by rw [BitVec.toNat_ofNat, Nat.mod_eq_of_lt hfits]
  have htlock := lockHits_unlocked (s := s.touch p) (a := 0x120000) (by rw [touch_get]; exact hlock)
    ctlFields 0 v
  have hwriteFields : (s.touch p).writeFields p ctlFields 0x120000 0 v
      = (s.touch p).recWrite p { addr := 0x120000, index := 0, value := BitVec.ofNat 32 v } := by
    unfold State.writeFields
    rw [htlock, hfields]
    rfl
  have hwriteReg : (s.touch p).writeReg p 0x120000 0 v = (s.touch p).recWrite p { addr := 0x120000, index := 0, value := BitVec.ofNat 32 v } := by
    rw [← hwriteFields]
    unfold State.writeReg
    rw [show regAt 0x120000 = some ⟨0x120000, 1, 4, .none, ctlFields⟩ from rfl]
    dsimp only
    rw [touch_variant, show s.variant.has (0x120000 / 65536) = true from hhas]
    rfl
  have hwrite : (s.touch p).writeWord p 0x120000 0 (BitVec.ofNat 32 v)
      = (s.touch p).recWrite p { addr := 0x120000, index := 0, value := BitVec.ofNat 32 v } := by
    rw [← hwriteReg]
    unfold State.writeWord
    rw [htboot, htwrites, hvalue]
    rfl
  show s.hostWord p 0x120000 0 (BitVec.ofNat 32 v) = _
  unfold State.hostWord
  simp only [hup, hwrite, if_true]

/-- The row REC_FREEZE_SET is that write, of the rates as they are. -/
theorem answers_of_freeze {s : State} {p : Path} {b : Bool} {st : Status} {u : State} {P : State → Prop} (htakes : s.takes p 18 = true)
    (hlegal : RatesLegal s) (hrec : (s.touch p).recWrite p ⟨0x120000, 0, BitVec.ofNat 32 (freezeWord s b)⟩ = (st, u)) (hP : P u) :
    Answers (.recFreezeSet p b) s p st P := by
  obtain ⟨hfits, -, hfields⟩ := freezeWord_legal hlegal b
  refine ⟨u, ?_, hP⟩
  show Host.Outcome.next (s.hostCmd p 0x120000 0 (freezeWord s b)) = _
  rw [recWrite_route htakes hfits hfields, hrec]

section
variable {t : State} {p : Path} {w : Staged}

theorem recWrite_refused {st : Status} {u : State} (h : t.stage p w = (st, u)) (hst : st ≠ .done) : t.recWrite p w = (st, u) := by
  unfold State.recWrite
  rw [h]
  exact if_neg hst

theorem recWrite_staged {u : State} (h : t.stage p w = (.done, u)) : t.recWrite p w = (.done, u.freezeSet (bitAt w.value.toNat 0)) := by
  unfold State.recWrite
  rw [h]
  rfl

theorem stage_timeout (h : t.host.timeoutOwner = some p) :
    t.stage p w = (.txnTimeout, { t with host := { t.host with timeoutOwner := none } }) := if_pos h

theorem freezeSet_holds (h : t.flag Reg.REC_CTL_FREEZE = false) :
    t.freezeSet true = ({ t with rcd := { t.rcd with freezeAt := t.up } }).setFlag Reg.REC_CTL_FREEZE true := by
  unfold State.freezeSet
  rw [h]
  rfl

theorem freezeSet_thaws (h : t.flag Reg.REC_CTL_FREEZE = true) (hpend : t.rcd.pend = []) (hsupp : t.rcd.suppPend = []) :
    t.freezeSet false = t.setFlag Reg.REC_CTL_FREEZE false := by
  unfold State.freezeSet
  rw [h]
  exact mergePending_none (s := t.setFlag Reg.REC_CTL_FREEZE false) hpend hsupp

end

/-- REC_CTL committed as a transaction of one write. -/
def aloneCommit (s t : State) (b : Bool) : Commit :=
  { words := [⟨0x120000, 0, BitVec.ofNat 32 (freezeWord s b)⟩], oneWrite := true, skip := t.boundarySkip }

theorem recWrite_idle {s : State} {p : Path} {b : Bool} (hlegal : RatesLegal s) (howner : (s.touch p).host.timeoutOwner ≠ some p)
    (hidle : (s.touch p).host.phase = .idle) :
    (s.touch p).recWrite p ⟨0x120000, 0, BitVec.ofNat 32 (freezeWord s b)⟩ = (.done, State.freezeSet
      { s.touch p with host := { (s.touch p).host with commits := (s.touch p).host.commits ++ [aloneCommit s (s.touch p) b] } } b) := by
  obtain ⟨hfits, hbit, -⟩ := freezeWord_legal hlegal b
  rw [recWrite_staged (stage_idle howner hidle)]
  have hvalue : (BitVec.ofNat 32 (freezeWord s b)).toNat = freezeWord s b := by rw [BitVec.toNat_ofNat, Nat.mod_eq_of_lt hfits]
  dsimp only
  rw [hvalue, hbit]
  rfl

theorem touch_rcd (s : State) (p : Path) : (s.touch p).rcd = s.rcd := by obtain ⟨h, e⟩ := touch_host s p; rw [e]

/-- FREEZE holds the slots from now on. -/
theorem recFreezeSet_holds {s : State} {p : Path} (htakes : s.takes p 18 = true) (hlegal : RatesLegal s)
    (howner : (s.touch p).host.timeoutOwner ≠ some p) (hidle : (s.touch p).host.phase = .idle) (hoff : s.flag Reg.REC_CTL_FREEZE = false) :
    Answers (.recFreezeSet p true) s p .done fun u => u.flag Reg.REC_CTL_FREEZE = true ∧ u.rcd = { s.rcd with freezeAt := s.up }
      ∧ RegsBut [Reg.REC_CTL_FREEZE.key 0] s u
      ∧ u.host = { (s.touch p).host with commits := (s.touch p).host.commits ++ [aloneCommit s (s.touch p) true] }
      ∧ { u with regs := s.regs, rcd := s.rcd, host := (s.touch p).host } = s.touch p := by
  have hrec := recWrite_idle (b := true) hlegal howner hidle
  rw [freezeSet_holds (by rw [← hoff]; exact touch_flag ..)] at hrec
  refine answers_of_freeze htakes hlegal hrec ⟨flag_setFlag_same _ _ _ _ (by decide), ?_, ?_, rfl, ?_⟩
  · show { (s.touch p).rcd with freezeAt := (s.touch p).up } = _
    rw [touch_rcd, touch_up]
  · refine regsBut_trans (regsBut_of_regs ?_) (regsBut_set _ _ _ 0 (List.mem_singleton_self _))
    exact touch_regs s p
  · obtain ⟨h, e⟩ := touch_host s p
    rw [e]
    rfl

/-- With nothing pending, FREEZE off lets the slots go. -/
theorem recFreezeSet_thaws {s : State} {p : Path} (htakes : s.takes p 18 = true) (hlegal : RatesLegal s)
    (howner : (s.touch p).host.timeoutOwner ≠ some p) (hidle : (s.touch p).host.phase = .idle) (hon : s.flag Reg.REC_CTL_FREEZE = true)
    (hpend : s.rcd.pend = []) (hsupp : s.rcd.suppPend = []) :
    Answers (.recFreezeSet p false) s p .done fun u => u.flag Reg.REC_CTL_FREEZE = false ∧ RegsBut [Reg.REC_CTL_FREEZE.key 0] s u
      ∧ u.host = { (s.touch p).host with commits := (s.touch p).host.commits ++ [aloneCommit s (s.touch p) false] }
      ∧ { u with regs := s.regs, host := (s.touch p).host } = s.touch p := by
  have hrec := recWrite_idle (b := false) hlegal howner hidle
  rw [freezeSet_thaws (by rw [← hon]; exact touch_flag ..) (by rw [← hpend]; exact congrArg RecState.pend (touch_rcd s p))
    (by rw [← hsupp]; exact congrArg RecState.suppPend (touch_rcd s p))] at hrec
  refine answers_of_freeze htakes hlegal hrec ⟨flag_setFlag_same _ _ _ _ (by decide), ?_, rfl, ?_⟩
  · refine regsBut_trans (regsBut_of_regs ?_) (regsBut_set _ _ _ 0 (List.mem_singleton_self _))
    exact touch_regs s p
  · obtain ⟨h, e⟩ := touch_host s p
    rw [e]
    rfl

/-- FREEZE_AUTO_CLEAR (R427). -/
theorem freezeExpire_due {s : State} (hon : s.flag Reg.REC_CTL_FREEZE = true) (hpend : s.rcd.pend = []) (hsupp : s.rcd.suppPend = []) :
    s.freezeExpire = ((s.waitUntil (s.rcd.freezeAt + 600000000000)).setFlag Reg.REC_CTL_FREEZE false).setFlag Reg.REC_STAT_THAW_AUTO true := by
  unfold State.freezeExpire
  rw [if_pos hon, freezeSet_thaws (t := s.waitUntil (s.rcd.freezeAt + 600000000000)) hon hpend hsupp]

theorem freezeExpire_spec {s : State} (hon : s.flag Reg.REC_CTL_FREEZE = true) (hpend : s.rcd.pend = []) (hsupp : s.rcd.suppPend = []) :
    s.freezeExpire.flag Reg.REC_CTL_FREEZE = false ∧ s.freezeExpire.flag Reg.REC_STAT_THAW_AUTO = true
      ∧ s.rcd.freezeAt + 600000000000 ≤ s.freezeExpire.up
      ∧ RegsBut [Reg.REC_CTL_FREEZE.key 0, Reg.REC_STAT_THAW_AUTO.key 0] s s.freezeExpire
      ∧ { s.freezeExpire with regs := s.regs, now := s.now, up := s.up, slew := s.slew, keep := s.keep } = s := by
  rw [freezeExpire_due hon hpend hsupp]
  refine ⟨(flag_setFlag_other _ _ _ _ _ _ (by decide)).trans (flag_setFlag_same _ _ _ _ (by decide)), flag_setFlag_same _ _ _ _ (by decide),
    waitUntil_reaches s _, ?_, rfl⟩
  exact regsBut_trans (regsBut_trans (regsBut_of_regs (u := s.waitUntil (s.rcd.freezeAt + 600000000000)) rfl)
    (regsBut_set _ Reg.REC_CTL_FREEZE _ 0 (by simp))) (regsBut_set _ Reg.REC_STAT_THAW_AUTO _ 0 (by simp))

/-! ## The capture ring (R431, R433, R434) -/

/-- The words START, STOP, REPLAY of either slot and REPLAY_END of CAP_CMD. -/
theorem commandWord_capStart : CommandWord 0x140004 1 := ⟨_, rfl, fun _ => rfl⟩
theorem commandWord_capStop : CommandWord 0x140004 2 := ⟨_, rfl, fun _ => rfl⟩
theorem commandWord_capReplay : ∀ free : Bool, CommandWord 0x140004 (4 + 16 * b2n free)
  | true => ⟨_, rfl, fun _ => rfl⟩
  | false => ⟨_, rfl, fun _ => rfl⟩
theorem commandWord_capReplayEnd : CommandWord 0x140004 8 := ⟨_, rfl, fun _ => rfl⟩

section
variable (t : State) (p : Path)

theorem capCmd_start : t.command p 0x140004 0 1 = orElse t t.capStart := by
  show orElse t (t.capCmd 1) = _
  simp [State.capCmd, bitAt]

theorem capCmd_stop : t.command p 0x140004 0 2 = orElse t t.capStop := by
  show orElse t (t.capCmd 2) = _
  simp [State.capCmd, bitAt]

theorem capCmd_replay (free : Bool) : t.command p 0x140004 0 (4 + 16 * b2n free) = orElse t (t.capReplay free) := by
  show orElse t (t.capCmd (4 + 16 * b2n free)) = _
  cases free <;> simp [State.capCmd, bitAt, b2n]

theorem capCmd_replayEnd : t.command p 0x140004 0 8 = orElse t t.capReplayEnd := by
  show orElse t (t.capCmd 8) = _
  simp [State.capCmd, bitAt]

@[simp] theorem touch_cap (s : State) : (s.touch p).cap = s.cap := by obtain ⟨h, e⟩ := touch_host s p; rw [e]
@[simp] theorem touch_keyframe (s : State) : (s.touch p).keyframe = s.keyframe := by simp [State.keyframe]
@[simp] theorem touch_postCycles (s : State) : (s.touch p).postCycles = s.postCycles := by
  obtain ⟨h, e⟩ := touch_host s p; rw [e]; rfl

/-- The registers of a ring that runs, without a trigger and without a loss so far. -/
def ringShown : State := ((t.set Reg.CAP_STAT_STATE 1).setFlag Reg.CAP_STAT_TRIGGERED false).set Reg.CAP_STAT_LOST 0

/-- A ring that runs. -/
def ringRuns : State := { ringShown t with cap := { t.cap with postLeft := 0, stopByEvent := false } }

theorem capStart_runs (hsize : t.get Reg.CAP_CFG_CAP_SIZE ≠ 0) (hmode : t.mode ≠ .replay) : t.capStart = (.done, ringRuns t) :=
  if_neg (not_or.2 ⟨hsize, hmode⟩)

theorem capStart_refused (h : t.get Reg.CAP_CFG_CAP_SIZE = 0 ∨ t.mode = .replay) : t.capStart = (.state, t) := if_pos h

theorem ringShown_spec : (ringShown t).get Reg.CAP_STAT_STATE = 1 ∧ (ringShown t).flag Reg.CAP_STAT_TRIGGERED = false
    ∧ (ringShown t).get Reg.CAP_STAT_LOST = 0 := by
  unfold ringShown
  refine ⟨?_, ?_, get_set_same ..⟩
  · rw [get_set_other _ _ _ _ _ _ (by decide)]
    exact (get_set_other _ _ _ _ _ _ (by decide)).trans (get_set_same ..)
  · rw [flag_set_other _ _ _ _ _ _ (by decide)]
    exact flag_setFlag_same _ _ _ _ (by decide)

/-- Only the registers and the ring differ. -/
theorem ringRuns_only : { ringRuns t with regs := t.regs, cap := t.cap } = t := by
  dsimp only [ringRuns, ringShown, State.set, State.setFlag]

theorem ringRuns_entries : (ringRuns t).cap.entries = t.cap.entries := by dsimp only [ringRuns]

/-- A ring that runs out after its last cycles. -/
def ringEnds : State := { t.set Reg.CAP_STAT_STATE 2 with cap := { t.cap with postLeft := t.postCycles, stopByEvent := false } }

theorem ringEnds_only : { ringEnds t with regs := t.regs, cap := t.cap } = t := rfl

theorem capStop_running (h : t.get Reg.CAP_STAT_STATE = 1) :
    t.capStop = (.done, ringEnds t) := if_pos h

theorem capStop_idle (h : t.get Reg.CAP_STAT_STATE ≠ 1) : t.capStop = (.done, t) := if_neg h

/-- A replay can begin: PARK, a ring that stands and holds a keyframe, no restart, and for the free slot a verified plate (R433). -/
def CanReplay (s : State) (free : Bool) : Prop :=
  s.mode = .park ∧ (s.get Reg.CAP_STAT_STATE = 3 ∨ s.get Reg.CAP_STAT_STATE = 4) ∧ s.keyframe.isSome = true ∧ s.restarting = false
    ∧ (free = true → s.slotState = 3)

theorem canReplay_touch (s : State) (free : Bool) : CanReplay (s.touch p) free ↔ CanReplay s free := by simp [CanReplay]

theorem capReplay_accepted {free : Bool} (h : CanReplay t free) :
    t.capReplay free = (.done, { t with cap := { t.cap with replayReq := some (free, t.boundarySkip) } }) := if_pos h

theorem capReplay_refused {free : Bool} (h : ¬ CanReplay t free) : t.capReplay free = (.state, t) := if_neg h

theorem capReplayEnd_replaying (h : t.mode = .replay) :
    t.capReplayEnd = (.done, { t with cap := { t.cap with replayEndReq := true } }) := if_pos h

theorem capReplayEnd_refused (h : t.mode ≠ .replay) : t.capReplayEnd = (.state, t) := if_neg h

end

/-- START of a ring with a size. -/
theorem capStart_answers {s : State} {p : Path} (htakes : s.takes p 20 = true) (hsize : s.get Reg.CAP_CFG_CAP_SIZE ≠ 0) (hmode : s.mode ≠ .replay) :
    Answers (.capStart p) s p .done fun u => u.get Reg.CAP_STAT_STATE = 1 ∧ u.flag Reg.CAP_STAT_TRIGGERED = false
      ∧ u.get Reg.CAP_STAT_LOST = 0 ∧ u.cap.entries = s.cap.entries ∧ { u with regs := s.regs, cap := s.cap } = s.touch p := by
  have hrest := ringRuns_only (s.touch p)
  have hentries : (ringRuns (s.touch p)).cap.entries = s.cap.entries := by rw [ringRuns_entries, touch_cap]
  obtain ⟨hstate, htriggered, hlost⟩ := ringShown_spec (s.touch p)
  rw [touch_regs, touch_cap] at hrest
  exact answers_of_command rfl commandWord_capStart htakes
    ((capCmd_start _ p).trans (congrArg (orElse _) (capStart_runs _ (by rwa [touch_get]) (by rwa [touch_mode]))))
    ⟨hstate, htriggered, hlost, hentries, hrest⟩

/-- STOP of a ring that runs. -/
theorem capStop_answers {s : State} {p : Path} (htakes : s.takes p 20 = true) (h : s.get Reg.CAP_STAT_STATE = 1) :
    Answers (.capStop p) s p .done fun u => u.get Reg.CAP_STAT_STATE = 2
      ∧ u.cap = { s.cap with postLeft := s.postCycles, stopByEvent := false } ∧ { u with regs := s.regs, cap := s.cap } = s.touch p := by
  have hrest := ringEnds_only (s.touch p)
  have hcap : (ringEnds (s.touch p)).cap = { s.cap with postLeft := s.postCycles, stopByEvent := false } := by
    show { (s.touch p).cap with postLeft := (s.touch p).postCycles, stopByEvent := false } = _
    rw [touch_cap, touch_postCycles]
  have hstate : (ringEnds (s.touch p)).get Reg.CAP_STAT_STATE = 2 := get_set_same (s.touch p) Reg.CAP_STAT_STATE 2 0
  rw [touch_regs, touch_cap] at hrest
  exact answers_of_command rfl commandWord_capStop htakes
    ((capCmd_stop _ p).trans (congrArg (orElse _) (capStop_running _ (by rwa [touch_get])))) ⟨hstate, hcap, hrest⟩

theorem capStopped_due {s : State} (hstate : s.get Reg.CAP_STAT_STATE = 2) (hleft : s.cap.postLeft = 0) :
    s.capStopped = (s.set Reg.CAP_STAT_STATE 3).setFlag Reg.CAP_STAT_TRIGGERED s.cap.stopByEvent := if_pos ⟨hstate, hleft⟩

theorem capStopped_idle {s : State} (h : s.get Reg.CAP_STAT_STATE ≠ 2 ∨ s.cap.postLeft ≠ 0) : s.capStopped = s :=
  if_neg (fun hdue => h.elim (· hdue.1) (· hdue.2))

/-! ## The end of a replay (R434) -/

theorem spared_foldl {α : Type} (f : State → α → State) (h : ∀ s x, spared (f s x) = spared s) (l : List α) (s : State) :
    spared (l.foldl f s) = spared s := by
  induction l generalizing s with
  | nil => rfl
  | cons x l ih => exact (ih _).trans (h s x)

theorem spared_putF (s : State) (q : Nat) (x : F64) (b : Byte) : spared (s.putF q x b) = spared s := by
  unfold State.putF
  dsimp only
  split <;> rfl

theorem spared_restoreLoop (s : State) (i : Nat) (l : LoopSlot) : spared (s.restoreLoop i l) = spared s := spared_putF ..

theorem spared_loopsRestart (s : State) (saved : Store (List Nat)) : spared (s.loopsRestart saved) = spared s := by
  unfold State.loopsRestart
  dsimp only
  refine (spared_foldl _ (fun t e => ?_) _ _).trans rfl
  split
  · split
    · rw [spared_raise, spared_restoreLoop]
    · rfl
  · rfl

theorem replayLeave_replaying {s : State} (h : s.mode = .replay) :
    s.replayLeave = ({ s with mode := .park, cap := { s.cap with replayFree := false, replayEndReq := false, replayOut := [] } }).set
      Reg.CAP_STAT_STATE s.cap.beforeState := if_pos h

/-- Everything after the replay was left keeps core and what events spare. -/
theorem replayFinish_after (s : State) : s.replayFinish.core = s.replayLeave.core ∧ spared s.replayFinish = spared s.replayLeave := by
  unfold State.replayFinish
  dsimp only
  refine ⟨?_, ?_⟩
  · rw [foldl_core _ (fun v e => forceKeep_core _ v e), loopsRestart_core, replayPump_core, replayImage_core]
  · refine (spared_foldl (fun v e => s.replayLeave.forceKeep v e) (fun _ _ => rfl) _ _).trans ?_
    rw [spared_loopsRestart]
    rfl

theorem replayComplete_spec {s : State} (h : s.replayDone = true) : s.replayComplete.mode = .park ∧ s.replayComplete.cap.replayFree = false
    ∧ s.replayComplete.fuses = s.fuses ∧ s.replayComplete.n = s.n := by
  have hmode : s.mode = .replay := of_decide_eq_true (Bool.and_eq_true_iff.1 h).1
  unfold State.replayComplete
  rw [if_pos h]
  obtain ⟨hcore, hspared⟩ := replayFinish_after s
  rw [replayLeave_replaying hmode] at hcore hspared
  generalize s.replayFinish = u at *
  exact ⟨(mode_of_core hcore).trans rfl, (congrArg Prod.snd hspared :), (congrArg (fun c => c.2.2.2.1) hcore :), (n_of_core hcore).trans rfl⟩

/-- Settles O60, row by row; a command of the ring is its operation on the touched state, REC_FREEZE_SET a write of REC_CTL. -/
theorem recorderAndCapture : Obligations.RecorderAndCapture := by
  intro s p code free t rates alone legal ring canReplay
  refine ⟨fun rc hfree hopen hdirty => ⟨_, rfl, writeRecord_spec hfree hopen hdirty⟩, fun hheld => ⟨_, rfl, writeRecord_held code hheld⟩,
    fun htakes hlegal => ⟨?_, ?_, ?_, ?_⟩, fun hon hpend hsupp => ⟨_, rfl, freezeExpire_spec hon hpend hsupp⟩,
    fun hoff => ⟨_, rfl, if_neg (Bool.eq_false_iff.1 hoff)⟩, fun htakes => ⟨?_, ?_, ?_, ?_, ?_, ?_, ?_, ?_⟩, fun hstate hleft => ⟨_, rfl, ?_⟩,
    fun h => ⟨_, rfl, capStopped_idle h⟩, fun h => ⟨_, rfl, replayComplete_spec h⟩, fun h => ⟨_, rfl, if_neg (Bool.eq_false_iff.1 h)⟩⟩
  · exact fun howner hidle hoff => recFreezeSet_holds htakes hlegal howner hidle hoff
  · exact fun howner hidle hon hpend hsupp => recFreezeSet_thaws htakes hlegal howner hidle hon hpend hsupp
  · intro howner hbusy
    have hopen : t.host.phase ≠ .idle := by
      rcases hbusy with h | ⟨h, -⟩ <;> rw [h] <;> decide
    exact answers_of_freeze htakes hlegal (recWrite_refused (stage_busy howner hopen (hbusy.imp_right And.right)) (by decide)) rfl
  · exact fun howner => answers_of_freeze htakes hlegal (recWrite_refused (stage_timeout howner) (by decide)) rfl
  · exact fun hsize hmode => capStart_answers htakes hsize hmode
  · intro h
    exact answers_of_command rfl commandWord_capStart htakes
      ((capCmd_start t p).trans (congrArg (orElse t) (capStart_refused t (by rwa [touch_get, touch_mode])))) rfl
  · exact fun h => capStop_answers htakes h
  · intro h
    exact answers_of_command rfl commandWord_capStop htakes
      ((capCmd_stop t p).trans (congrArg (orElse t) (capStop_idle t (by rwa [touch_get])))) rfl
  · intro h
    refine answers_of_command rfl (commandWord_capReplay free) htakes
      ((capCmd_replay t p free).trans (congrArg (orElse t) (capReplay_accepted t ((canReplay_touch p s free).2 h)))) ?_
    rw [touch_boundarySkip]
  · intro h
    exact answers_of_command rfl (commandWord_capReplay free) htakes
      ((capCmd_replay t p free).trans (congrArg (orElse t) (capReplay_refused t (mt (canReplay_touch p s free).1 h)))) rfl
  · intro h
    exact answers_of_command rfl commandWord_capReplayEnd htakes
      ((capCmd_replayEnd t p).trans (congrArg (orElse t) (capReplayEnd_replaying t (by rwa [touch_mode])))) rfl
  · intro h
    exact answers_of_command rfl commandWord_capReplayEnd htakes
      ((capCmd_replayEnd t p).trans (congrArg (orElse t) (capReplayEnd_refused t (by rwa [touch_mode])))) rfl
  · rw [capStopped_due hstate hleft]
    exact ⟨(get_set_other _ _ _ _ _ _ (by decide)).trans (get_set_same ..), flag_setFlag_same _ _ _ _ (by decide),
      regsBut_trans (regsBut_set s Reg.CAP_STAT_STATE 3 0 (by simp)) (regsBut_set _ Reg.CAP_STAT_TRIGGERED _ 0 (by simp)), rfl⟩

end Sys2Proof.Proofs
end

section
/-! Proof-link frames, and the proof of a cycle at its close; the statement on them (O56). -/

namespace Sys2Proof.Proofs
open Sys2Proof Sys2Proof.Machine Sys2Proof.Laws

/-! ## A frame of another part (R324, R325)

The frames that the part has seen and the partners that it knows are written by `noteSeen` and `notePartner` alone. -/

/-- What the part has linkHeard on the link. -/
def linkHeard (s : State) : List (Nat × Nat × Nat) × List Partner := (s.red.seen, s.red.partners)

theorem linkHeard_of_red {s u : State} (h : u.red = s.red) : linkHeard u = linkHeard s := by unfold linkHeard; rw [h]

theorem linkHeard_of_claimsOnly {s u : State} (h : ClaimsOnly s u) : linkHeard u = linkHeard s :=
  Prod.ext (congrArg RedState.seen h :) (congrArg RedState.partners h :)

theorem linkHeard_ite (c : Prop) [Decidable c] (x y : State) : linkHeard (if c then x else y) = if c then linkHeard x else linkHeard y :=
  apply_ite linkHeard c x y

section
variable (s : State) (f : ProofFrame)

theorem linkHeard_raise (c : Nat) : linkHeard (s.raise c) = linkHeard s := linkHeard_of_red (raise_red s c)

theorem linkHeard_healthCheck : linkHeard s.healthCheck = linkHeard s := linkHeard_of_claimsOnly (healthCheck_claimsOnly s)

theorem linkHeard_sendLink (kind : ProofKind) (records : List ProofRecord) : linkHeard (s.sendLink kind records) = linkHeard s := by
  unfold State.sendLink
  split <;> rfl

theorem linkHeard_set (g : Fld) (v i : Nat) : linkHeard (s.set g v i) = linkHeard s := rfl

theorem linkHeard_plate (p : PlateState) : linkHeard { s with plate := p } = linkHeard s := rfl

theorem linkHeard_noteClaim (before : Option Partner) : linkHeard (s.noteClaim before f) = linkHeard s := by
  have hrelease : linkHeard (s.noteRelease before f) = linkHeard s := by
    unfold State.noteRelease
    split <;> rfl
  have hactive (t : State) (c : Nat) : linkHeard (t.activeClaim c) = linkHeard t := by
    unfold State.activeClaim
    (repeat' split) <;> rfl
  rw [← hrelease]
  unfold State.noteClaim
  generalize s.noteRelease before f = t
  have hclaim : linkHeard (if bitAt f.claim.toNat 15 then t.activeClaim f.claim.toNat else t) = linkHeard t := by
    rw [linkHeard_ite, hactive, ite_self]
  rw [← hclaim]
  dsimp only
  split <;> rfl

theorem linkHeard_plateSame : linkHeard (s.plateSame f) = linkHeard s := by
  unfold State.plateSame
  split <;> rfl

theorem linkHeard_unsync : linkHeard s.unsync = linkHeard s := linkHeard_healthCheck _

theorem linkHeard_plateDiff : linkHeard s.plateDiff = linkHeard s := by
  unfold State.plateDiff
  rw [linkHeard_ite, linkHeard_raise, linkHeard_unsync]
  exact ite_self _

theorem linkHeard_plateMessage (n : Nat) (r : ProofRecord) : linkHeard (s.plateMessage n r) = linkHeard s := by
  cases r with
  | swapAnnounce id c =>
    unfold State.plateMessage
    dsimp only
    rw [linkHeard_ite, linkHeard_sendLink, linkHeard_sendLink, linkHeard_raise, linkHeard_set, linkHeard_set, linkHeard_plate, ite_self]
  | swapConfirm =>
    unfold State.plateMessage
    dsimp only
    rw [linkHeard_ite, linkHeard_plate, ite_self]
  | swapCancel => exact linkHeard_of_red (swapCancelled_red s)
  | revert =>
    unfold State.plateMessage
    dsimp only
    rw [linkHeard_ite, linkHeard_set, linkHeard_plate, ite_self]
  | _ => rfl

theorem linkHeard_foldl {α : Type} (g : State → α → State) (h : ∀ s x, linkHeard (g s x) = linkHeard s) (l : List α) :
    linkHeard (l.foldl g s) = linkHeard s := by
  induction l generalizing s with
  | nil => rfl
  | cons x l ih => exact (ih _).trans (h s x)

theorem linkHeard_proofFrame (ls ad : Bool) (total : Nat) : linkHeard (s.proofFrame f ls ad total) = linkHeard s := by
  unfold State.proofFrame
  split
  · exact linkHeard_plateDiff s
  · split
    · exact linkHeard_foldl _ _ (fun u x => linkHeard_plateMessage u f.n x) _
    · rfl

theorem linkHeard_forwardFrame (total : Nat) : linkHeard (s.forwardFrame f total) = linkHeard s := by
  unfold State.forwardFrame
  (repeat' split) <;> rfl

theorem linkHeard_digestAnswer (u : Nat) (ok : Bool) : linkHeard (s.digestAnswer u ok) = linkHeard s := by
  unfold State.digestAnswer
  split
  · split
    · rfl
    · exact linkHeard_raise ..
  · rfl

theorem linkHeard_frameBody : linkHeard (s.frameBody f) = linkHeard s := by
  unfold State.frameBody
  cases f.kind with
  | claim => rfl
  | cycleProof ls ad _ total => exact linkHeard_proofFrame ..
  | segment _ => dsimp only; split <;> rfl
  | forward total => exact linkHeard_forwardFrame ..
  | digestAnswer ok => exact linkHeard_digestAnswer ..
  | swapAnswer ok => dsimp only; split <;> rfl
  | observerPart last vals => unfold State.obsFrame; dsimp only; split <;> rfl
  | warmPart last ctxs => unfold State.warmFrame; dsimp only; split <;> rfl

theorem linkHeard_seekAdmission : linkHeard (s.seekAdmission f) = linkHeard s := by
  unfold State.seekAdmission
  split <;> rfl

/-- A frame taken leaves what its header brought. -/
theorem linkHeard_takeFrame : linkHeard (s.takeFrame f) = linkHeard ((s.noteSeen f).notePartner f) := by
  have hclaim (t : State) (before : Option Partner) : linkHeard ((t.noteClaim before f).plateSame f) = linkHeard t := by
    rw [linkHeard_plateSame, linkHeard_noteClaim]
  have hthird (t : State) (c : Bool) : linkHeard (if c then t.setFlag Reg.RED_STAT_UNIT_BAD true else t) = linkHeard t := by
    split <;> rfl
  unfold State.takeFrame
  dsimp only
  rw [linkHeard_ite, linkHeard_healthCheck, linkHeard_healthCheck, linkHeard_seekAdmission, linkHeard_frameBody, ite_self, hthird, hclaim]
  rfl

end

/-- The frame is noted as seen, its sender as a reachable partner with the claim, plate and cycle of the frame. -/
theorem takeFrame_spec (s : State) (f : ProofFrame) : (f.unit, f.n, f.serial) ∈ (s.takeFrame f).red.seen
    ∧ (∃ q, (s.takeFrame f).partner f.unit = some q ∧ q.claim = f.claim ∧ q.reachable = true ∧ q.plateId = f.plateId ∧ q.last = s.n)
    ∧ (s.takeFrame f).fuses = s.fuses := by
  have hheard := linkHeard_takeFrame s f
  have hseen : (s.takeFrame f).red.seen = ((s.noteSeen f).notePartner f).red.seen := congrArg Prod.fst hheard
  have hpartners : (s.takeFrame f).red.partners = putPartner (partnerOf f s.n) s.red.partners := congrArg Prod.snd hheard
  refine ⟨?_, ⟨partnerOf f s.n, ?_, rfl, rfl, rfl, rfl⟩, (congrArg (fun c => c.2.2.2.1) (takeFrame_core s f) :)⟩
  · rw [hseen]
    exact List.mem_cons_self
  · unfold State.partner
    rw [hpartners, find_putPartner]
    exact if_pos rfl

section
variable {s : State} {f : ProofFrame}

/-- The part serves a frame: it is of a group, past DONE, and the frame came undamaged on a link lane that is up. -/
def Served (s : State) (f : ProofFrame) : Prop :=
  s.grouped = true ∧ (s.running = true ∨ s.mode = .done) ∧ s.linkLane f.lane = true ∧ f.crcOk = true

theorem served_iff : (s.grouped && (s.running || decide (s.mode = .done)) && s.linkLane f.lane && f.crcOk) = true ↔ Served s f := by
  simp [Served, and_assoc]

theorem proofLinkRx_unserved (h : ¬ Served s f) : s.proofLinkRx f = s :=
  if_pos (by rw [Bool.eq_false_iff.2 (mt served_iff.1 h)]; rfl)

theorem proofLinkRx_served (h : Served s f) : s.proofLinkRx f
    = if f.unit = s.get Reg.RED_CFG_UNIT then s.unitClash else if s.frameSeen f then s else s.takeFrame f := by
  unfold State.proofLinkRx
  rw [served_iff.2 h]
  rfl

end

/-- UNIT is not unique: the part is ISOLATED with UNIT_BAD (R323). -/
theorem unitClash_spec (s : State) : s.unitClash.role = 0 ∧ s.unitClash.flag Reg.RED_STAT_UNIT_BAD = true ∧ s.unitClash.points = s.points
    ∧ s.unitClash.pump = s.pump := by
  unfold State.unitClash
  split
  · next h => exact ⟨h.1, h.2, rfl, rfl⟩
  · have hregs := claimUpdate_regs ((s.setFlag Reg.RED_STAT_UNIT_BAD true).isolate.raise 0x0C06)
    have hevent := raise_quiet (s.setFlag Reg.RED_STAT_UNIT_BAD true).isolate 0x0C06
    have hquiet := quiet_trans hevent (claimUpdate_quiet _)
    refine ⟨(get_of_regs hregs ..).trans ((Quiet.get hevent _ _ (by decide)).trans ?_),
      (flag_of_regs hregs ..).trans ((Quiet.flag hevent _ _ (by decide)).trans ?_), (Quiet.points hquiet).trans rfl, (Quiet.pump hquiet).trans rfl⟩
    · exact (get_set_other _ _ _ _ _ _ (by decide)).trans (get_set_same ..)
    · exact (flag_set_other _ _ _ _ _ _ (by decide)).trans
        ((flag_set_other _ _ _ _ _ _ (by decide)).trans (flag_setFlag_same s Reg.RED_STAT_UNIT_BAD true 0 (by decide)))

/-! ## What steps 3 and 4 leave alone (R17, R331)

The input forces, the monitors, a swap or revert, the snapshot and the start of FAST keep the redundancy block and what it shows of its
proofs. -/

/-- The time, the redundancy block, PROOF_MISS, and SYNC_STATE. -/
def linkView (s : State) : Nat × RedState × Nat × Nat :=
  (s.now, s.red, fieldOf s.regs Reg.RED_STAT_PROOF_MISS, fieldOf s.regs Reg.RED_STAT_SYNC_STATE)

theorem linkView_ite (c : Prop) [Decidable c] (x y : State) : linkView (if c then x else y) = if c then linkView x else linkView y :=
  apply_ite linkView c x y

theorem linkView_foldl {α : Type} (f : State → α → State) (h : ∀ s x, linkView (f s x) = linkView s) (l : List α) (s : State) :
    linkView (l.foldl f s) = linkView s := by
  induction l generalizing s with
  | nil => rfl
  | cons x l ih => exact (ih _).trans (h s x)

/-- Neither PROOF_MISS nor SYNC_STATE is this field, at whatever index it stands. -/
def offLink (f : Fld) : Bool :=
  [Reg.RED_STAT_PROOF_MISS, Reg.RED_STAT_SYNC_STATE].all fun g => decide (f.key 0 % 2 ^ 29 ≠ g.key 0 % 2 ^ 29)

theorem key_ne_of_mod {f g : Fld} (h : f.key 0 % 2 ^ 29 ≠ g.key 0 % 2 ^ 29) (i : Nat) : g.key 0 ≠ f.key i :=
  fun e => h (by rw [e, key_mod f i])

section
variable (s : State)

theorem linkView_set (f : Fld) (v i : Nat) (h : offLink f = true) : linkView (s.set f v i) = linkView s := by
  simp only [offLink, List.all_cons, List.all_nil, Bool.and_true, Bool.and_eq_true, decide_eq_true_eq] at h
  obtain ⟨hmiss, hsync⟩ := h
  exact Prod.ext rfl (Prod.ext rfl (Prod.ext (get_set_other s f _ v i 0 (key_ne_of_mod hmiss i)) (get_set_other s f _ v i 0 (key_ne_of_mod hsync i))))

theorem linkView_setFlag (f : Fld) (b : Bool) (i : Nat) (h : offLink f = true) : linkView (s.setFlag f b i) = linkView s := linkView_set s f _ i h

theorem linkView_raise (c : Nat) : linkView (s.raise c) = linkView s := by
  have hquiet := raise_quiet s c
  exact Prod.ext (Quiet.now hquiet) (Prod.ext (raise_red s c) (Prod.ext (Quiet.get hquiet _ 0 (by decide)) (Quiet.get hquiet _ 0 (by decide))))

theorem linkView_setPoint (p : Nat) (r : Point) : linkView (s.setPoint p r) = linkView s := rfl

theorem linkView_forceApply (a : Area) : linkView (s.forceApply a) = linkView s := by
  unfold State.forceApply
  rw [linkView_ite, linkView_foldl State.forceWrite (fun _ _ => rfl), ite_self]

theorem linkView_runChecks : linkView s.runChecks = linkView s := by
  refine linkView_foldl _ (fun u m => ?_) _ s
  unfold State.runCheck
  split <;> rfl

theorem linkView_cyclePoints : linkView s.cyclePoints = linkView s :=
  linkView_foldl (fun (u : State) (e : Nat × Nat) => u.putGood e.1 e.2) (fun _ _ => rfl) _ s

theorem linkView_forceOrphan (e : Nat) (b : Bool) : linkView (s.forceOrphan e b) = linkView s := linkView_setFlag _ _ _ _ (by decide)

theorem linkView_forceSwap (decls : List PointDecl) (e : Nat) : linkView (s.forceSwap decls e) = linkView s := by
  unfold State.forceSwap
  split
  · rw [linkView_ite, linkView_raise, linkView_forceOrphan, ite_self]
  · split
    · exact linkView_forceOrphan ..
    · rw [linkView_raise, linkView_setPoint]
      exact (linkView_setFlag _ Reg.FORCE_ENT_QUAL_ORPHAN _ e (by decide)).trans (linkView_setFlag _ Reg.FORCE_ENT_ADDR_VALID _ e (by decide))

theorem linkView_swapPoints (old new : List PointDecl) : linkView (s.swapPoints old new) = linkView s := by
  unfold State.swapPoints
  refine (linkView_foldl _ (fun u d => ?_) _ _).trans
    (linkView_foldl (fun (u : State) (d : PointDecl) => u.setPoint d.addr (pointDefault u.variant d.addr)) (fun _ _ => rfl) _ _)
  dsimp only
  (repeat' split) <;> rfl

theorem linkView_changePlate (dst : Nat) (inst : Instances) (st : Nat) : linkView (s.changePlate dst inst st) = linkView s := by
  unfold State.changePlate
  split
  · refine (linkView_set _ _ _ _ (by decide)).trans ((linkView_set _ _ _ _ (by decide)).trans ((linkView_set _ _ _ _ (by decide)).trans ?_))
    exact (linkView_foldl _ (fun u e => linkView_forceSwap u _ e) _ _).trans (linkView_swapPoints ..)
  · rfl

theorem linkView_swapCancelled : linkView s.swapCancelled = linkView s := by
  unfold State.swapCancelled
  split
  · exact linkView_set _ _ _ _ (by decide)
  · rfl

theorem linkView_raiseOpt (c : Option Nat) : linkView (s.raiseOpt c) = linkView s := by
  cases c with
  | some k => exact linkView_raise s k
  | none => rfl

theorem linkView_setLoop (i : Nat) (l : LoopSlot) : linkView (s.setLoop i l) = linkView s := rfl

theorem linkView_evalLoop (i : Nat) (req : Option Word) (x : LoopIn) : linkView (s.evalLoop i req x) = linkView s := by
  unfold State.evalLoop
  dsimp only
  rw [linkView_raiseOpt, linkView_raiseOpt, linkView_setLoop]

theorem linkView_evalOrdinary (i : Nat) : linkView (s.evalOrdinary i) = linkView s := by
  unfold State.evalOrdinary
  dsimp only
  rw [linkView_setLoop, linkView_evalLoop]
  rfl

theorem linkView_holdStatus (b : State) : linkView (b.holdStatus s) = linkView s := by
  unfold State.holdStatus
  dsimp only
  split <;> rfl

end

/-- From s to u time may have passed; the redundancy block and the two fields stand. -/
def LinkPasses (s u : State) : Prop := s.now ≤ u.now ∧ (linkView u).2 = (linkView s).2

theorem linkPasses_of_eq {s u : State} (h : linkView u = linkView s) : LinkPasses s u :=
  ⟨(congrArg Prod.fst h).ge, congrArg Prod.snd h⟩

theorem linkPasses_trans {a b c : State} (h : LinkPasses a b) (g : LinkPasses b c) : LinkPasses a c := ⟨h.1.trans g.1, g.2.trans h.2⟩

theorem linkPasses_advance (s : State) (d : Nat) : LinkPasses s (s.advance d) := ⟨Nat.le_add_right _ _, rfl⟩

section
variable {s u : State} (h : LinkPasses s u)
include h

theorem red_of_linkPasses : u.red = s.red := congrArg Prod.fst h.2

theorem sync_of_linkPasses : u.sync = s.sync := congrArg (fun v => v.2.2) h.2

theorem proofMiss_of_linkPasses : u.flag Reg.RED_STAT_PROOF_MISS = s.flag Reg.RED_STAT_PROOF_MISS :=
  congrArg (fun v : RedState × Nat × Nat => decide (v.2.1 = 1)) h.2

end

section
variable (s : State)

theorem doSwap_linkPasses : LinkPasses s s.doSwap := by
  unfold State.doSwap
  split
  · exact linkPasses_of_eq rfl
  · exact linkPasses_trans (linkPasses_of_eq (linkView_changePlate ..)) (linkPasses_advance _ _)

theorem doRevert_linkPasses : LinkPasses s s.doRevert := by
  unfold State.doRevert
  split
  · exact linkPasses_of_eq rfl
  · exact linkPasses_trans (linkPasses_of_eq (linkView_changePlate ..)) (linkPasses_advance _ _)

theorem swapDue_linkPasses : LinkPasses s s.swapDue := by
  unfold State.swapDue
  split
  · split
    · exact doSwap_linkPasses s
    · exact linkPasses_of_eq (linkView_swapCancelled s)
  · exact linkPasses_of_eq rfl

theorem revertDue_linkPasses : LinkPasses s s.revertDue := by
  unfold State.revertDue
  split
  · exact doRevert_linkPasses s
  · exact linkPasses_of_eq rfl

theorem stepFour_linkPasses : LinkPasses s s.stepFour :=
  linkPasses_trans (linkPasses_of_eq (linkView_foldl _ linkView_evalOrdinary _ s)) (linkPasses_advance _ _)

/-- Steps 3 and 4. -/
theorem closeTasks_linkPasses : LinkPasses s s.closeTasks := by
  have hchecks : LinkPasses s (s.forceApply .input).runChecks :=
    linkPasses_of_eq ((linkView_runChecks _).trans (linkView_forceApply s _))
  have htasks (t : State) : LinkPasses t (if t.taskCycle then t.stepFour else t) := by
    split
    · exact stepFour_linkPasses t
    · exact linkPasses_of_eq rfl
  unfold State.closeTasks
  refine linkPasses_trans ?_ (linkPasses_of_eq (linkView_holdStatus _ s))
  refine linkPasses_trans ?_ (htasks _)
  refine linkPasses_trans ?_ (linkPasses_of_eq (linkView_cyclePoints _))
  refine linkPasses_trans ?_ (revertDue_linkPasses _)
  refine linkPasses_trans ?_ (swapDue_linkPasses _)
  exact linkPasses_trans hchecks (linkPasses_advance _ _)

end

/-! ## The proof of a cycle (R331, R333) -/

theorem proofReady_complete {s : State} {r : RxProof} (h : s.red.rx = some r) (hwhole : r.complete = true) : s.proofReady = some r := by
  unfold State.proofReady
  rw [h]
  exact Option.filter_some_pos hwhole

theorem proofReady_missing {s : State} {r : RxProof} (h : s.red.rx = none ∨ s.red.rx = some r ∧ r.complete = false) : s.proofReady = none := by
  unfold State.proofReady
  obtain h | ⟨h, hpart⟩ := h
  · rw [h]; rfl
  · rw [h]
    exact Option.filter_some_neg hpart

theorem closeWaits_iff {s : State} : s.closeWaits = true ↔ s.running = true ∧ s.phase = .tasks ∧ s.red.waiting = true := by
  simp [State.closeWaits, and_assoc, and_comm (a := s.red.waiting = true)]

theorem not_closeWaits {s : State} (h : s.running = false ∨ s.phase ≠ .tasks ∨ s.red.waiting = false) : ¬ s.closeWaits = true := by
  rw [closeWaits_iff]
  rintro ⟨hrun, hphase, hwait⟩
  obtain h | h | h := h
  · simp [h] at hrun
  · exact h hphase
  · simp [h] at hwait

theorem proofApply_ready {s : State} {r : RxProof} (hwait : s.closeWaits = true) (hready : s.proofReady = some r) :
    s.proofApply = (s.applyProof r).closeTasks := by
  unfold State.proofApply
  rw [if_pos hwait, hready]

theorem proofMissed_missing {s : State} (hwait : s.closeWaits = true) (hready : s.proofReady = none) :
    s.proofMissed = ((s.advanceTo (s.bnd + s.inputWin)).missProof).closeTasks := by
  exact if_pos (by rw [hwait, hready]; rfl)

theorem applyProof_n (s : State) (r : RxProof) : (s.applyProof r).n = r.n + 1 := by
  unfold State.applyProof
  dsimp only
  rw [n_of_core (applyMarks_core _ _), n_of_core (proofBytes_core _ _)]
  change State.n (List.foldl _ _ _) = _
  rw [n_of_core (foldl_core _ applyRecord_core _ _), n_of_core (undoOwn_core _ _)]
  rfl

/-- The proof at hand, and the wait for one. -/
def linkWait (s : State) : Option RxProof × Bool := (s.red.rx, s.red.waiting)

theorem sample_red (s : State) (c v : Nat) : (s.sample c v).red = s.red := by
  unfold State.sample
  split
  · exact pendEvent_red ..
  · exact mergeEvent_red ..

theorem linkWait_proofBytes (s : State) (b : Nat) : linkWait (s.proofBytes b) = linkWait s := by
  unfold linkWait State.proofBytes
  rw [sample_red]
  rfl

theorem linkWait_applyMarks (s : State) (r : RxProof) : linkWait (s.applyMarks r) = linkWait s := by
  have hset (t : State) (f : Fld) (v : Nat) : linkWait (t.set f v) = linkWait t := rfl
  have hevent (t : State) (c : Nat) : linkWait (t.raise c).healthCheck = linkWait t := by
    have hclaims := claimsOnly_trans (claimsOnly_of_red (raise_red t c)) (healthCheck_claimsOnly _)
    exact Prod.ext (congrArg RedState.rx hclaims :) (congrArg RedState.waiting hclaims :)
  unfold State.applyMarks
  dsimp only
  split
  · split <;> rfl
  · split
    · split
      · rfl
      · rw [hevent, hset]
        rfl
    · rfl

/-- A proof applied ends the wait. -/
theorem linkWait_applyProof (s : State) (r : RxProof) : linkWait (s.applyProof r) = (none, false) := by
  unfold State.applyProof
  dsimp only
  rw [linkWait_applyMarks, linkWait_proofBytes]
  rfl

theorem proofApply_spec {s : State} {r : RxProof} (hwait : s.closeWaits = true) (hrx : s.red.rx = some r) (hwhole : r.complete = true) :
    s.proofApply.n = r.n + 1 ∧ s.proofApply.red.rx = none ∧ s.proofApply.red.waiting = false ∧ s.proofApply.phase = .tasks := by
  rw [proofApply_ready hwait (proofReady_complete hrx hwhole)]
  have hstopped := linkWait_applyProof s r
  have hred : ((s.applyProof r).closeTasks).red = (s.applyProof r).red := red_of_linkPasses (closeTasks_linkPasses _)
  have hcore := closeTasks_core (s.applyProof r)
  refine ⟨(n_of_core hcore).trans (applyProof_n s r), ?_, ?_, ?_⟩
  · rw [hred]
    exact congrArg Prod.fst hstopped
  · rw [hred]
    exact congrArg Prod.snd hstopped
  · rw [phase_of_core hcore, applyProof_phase]
    exact (closeWaits_iff.1 hwait).2.1

/-- A standby without SYNC shows 4; of the link it drops the admission alone. -/
theorem unsync_spec (s : State) : s.unsync.sync = 4 ∧ s.unsync.flag Reg.RED_STAT_PROOF_MISS = s.flag Reg.RED_STAT_PROOF_MISS
    ∧ s.unsync.now = s.now ∧ linkWait s.unsync = linkWait s ∧ s.unsync.red.proofMiss = s.red.proofMiss := by
  unfold State.unsync
  have hquiet (t : State) := healthCheck_quiet (t.set Reg.RED_STAT_SYNC_STATE 4)
  have hclaims (t : State) := healthCheck_claimsOnly (t.set Reg.RED_STAT_SYNC_STATE 4)
  refine ⟨(Quiet.get (hquiet _) _ 0 (by decide)).trans (get_set_same ..),
    (Quiet.flag (hquiet _) _ 0 (by decide)).trans ((flag_set_other _ _ _ _ _ _ (by decide)).trans rfl), (Quiet.now (hquiet _)).trans rfl,
    Prod.ext (congrArg RedState.rx (hclaims _) :) (congrArg RedState.waiting (hclaims _) :), (congrArg RedState.proofMiss (hclaims _) :)⟩

/-- A missed proof, before what it does to a standby and before its event. -/
def missNoted (s : State) : State :=
  ({ s with red := { s.red with rx := none, waiting := false, lastProof := false, proofMiss := satInc 32 s.red.proofMiss } }).setFlag
    Reg.RED_STAT_PROOF_MISS true

theorem missProof_eq (s : State) : s.missProof = (if s.role = 1 then (missNoted s).unsync else missNoted s).raise 0x0C03 := by
  have hrole : (missNoted s).role = s.role := get_set_other _ _ _ _ _ _ (by decide)
  rw [← hrole]
  rfl

theorem missProof_spec (s : State) : s.missProof.red.proofMiss = satInc 32 s.red.proofMiss ∧ s.missProof.red.waiting = false
    ∧ s.missProof.red.rx = none ∧ s.missProof.flag Reg.RED_STAT_PROOF_MISS = true ∧ (s.role = 1 → s.missProof.sync = 4)
    ∧ s.missProof.now = s.now := by
  have hflag : (missNoted s).flag Reg.RED_STAT_PROOF_MISS = true := flag_setFlag_same _ _ _ _ (by decide)
  have hquiet (t : State) := raise_quiet t 0x0C03
  rw [missProof_eq, raise_red, Quiet.flag (hquiet _) _ 0 (by decide), Quiet.now (hquiet _)]
  unfold State.sync
  rw [Quiet.get (hquiet _) _ 0 (by decide)]
  split
  · obtain ⟨hsync, hmiss, hnow, hwait, hcount⟩ := unsync_spec (missNoted s)
    exact ⟨hcount, congrArg Prod.snd hwait, congrArg Prod.fst hwait, hmiss.trans hflag, fun _ => hsync, hnow⟩
  · next hrole => exact ⟨rfl, rfl, rfl, hflag, fun h => absurd h hrole, rfl⟩

theorem proofMissed_spec {s : State} (hwait : s.closeWaits = true) (hready : s.proofReady = none) :
    s.proofMissed.red.proofMiss = satInc 32 s.red.proofMiss ∧ s.proofMissed.red.waiting = false ∧ s.proofMissed.red.rx = none
      ∧ s.proofMissed.flag Reg.RED_STAT_PROOF_MISS = true ∧ (s.role = 1 → s.proofMissed.sync = 4) ∧ s.now ≤ s.proofMissed.now
      ∧ s.bnd + s.inputWin ≤ s.proofMissed.now ∧ s.proofMissed.n = s.n := by
  have hn : s.proofMissed.n = s.n := n_of_core (proofMissed_core s)
  rw [proofMissed_missing hwait hready] at hn ⊢
  obtain ⟨hcount, hwaiting, hrx, hflag, hsync, hnow⟩ := missProof_spec (s.advanceTo (s.bnd + s.inputWin))
  have hpass := closeTasks_linkPasses (s.advanceTo (s.bnd + s.inputWin)).missProof
  have hlater := hpass.1
  rw [hnow, advanceTo_now] at hlater
  rw [red_of_linkPasses hpass, proofMiss_of_linkPasses hpass, sync_of_linkPasses hpass]
  exact ⟨hcount, hwaiting, hrx, hflag, hsync, (le_max_left ..).trans hlater, (le_max_right ..).trans hlater, hn⟩

/-- Settles O56, row by row. -/
theorem proofLink : Obligations.ProofLink := by
  intro s f r served other
  refine ⟨fun hserved hother hfresh => ⟨_, rfl, ?_⟩, fun hserved hown => ⟨_, rfl, ?_⟩, fun hserved hother hseen => ⟨_, rfl, ?_⟩,
    fun h => ⟨_, rfl, proofLinkRx_unserved h⟩, fun hrun hphase hwait hrx hwhole => ⟨_, rfl, ?_⟩,
    fun hrun hphase hwait hnone => ⟨_, rfl, ?_⟩, fun h => ⟨⟨_, rfl, ?_⟩, _, rfl, ?_⟩⟩
  · rw [proofLinkRx_served hserved, if_neg hother, if_neg (show ¬ s.frameSeen f = true from Bool.eq_false_iff.1 hfresh)]
    exact takeFrame_spec s f
  · rw [proofLinkRx_served hserved, if_pos hown]
    exact unitClash_spec s
  · rw [proofLinkRx_served hserved, if_neg hother]
    exact if_pos hseen
  · exact proofApply_spec (closeWaits_iff.2 ⟨hrun, hphase, hwait⟩) hrx hwhole
  · exact proofMissed_spec (closeWaits_iff.2 ⟨hrun, hphase, hwait⟩) (proofReady_missing hnone)
  · exact if_neg (not_closeWaits h)
  · exact if_neg (mt (fun e => (Bool.and_eq_true_iff.1 e).1) (not_closeWaits h))

end Sys2Proof.Proofs
end
